-- ==== Sys2Proof/Word.lean ====
section
/-! DEFINITION. The word types and their plainest arithmetic. -/
namespace Sys2Proof

/-- A 32-bit register word (R8). -/
abbrev Word := BitVec 32

/-- A byte of a byte stream, a sheet, the flash or the sample RAM. -/
abbrev Byte := BitVec 8

/-- A SYSTIME instant or stamp: seconds since 2000-01-01 in bits [63:28], fraction in 2⁻²⁸ s below (R77). -/
abbrev Time := BitVec 64

/-- Bits `lo` to `lo + width − 1` of `n`, as a number. -/
def bitsOf (n lo width : Nat) : Nat := (n >>> lo) % 2 ^ width

end Sys2Proof
end

