-- ==== Sys2Proof/Syntax.lean ====
section
/-! DEFINITION. The commands and events of the block, as data. -/
namespace Sys2Proof

/-- Who accesses a register: the two host ports, the link, the supervisor processor (R430; PATH of
GLB_BUS_ERR_INFO), the two service processors (R453). -/
inductive Path where
  | spi | i2c | link | sup | svc0 | svc1
deriving DecidableEq, Repr

/-- A lane of a brick (R189). -/
inductive Lane where
  | a | b
deriving DecidableEq, Repr

/-- Results of an update instant that a lane computes and checks: ref, e0, the accumulator before it is rounded, y0, v, c, and
a follower's trim (R172, R175, R190, R191). -/
inductive LaneResult where
  | ref | e0 | acc | y0 | v | c | trim | edge
deriving DecidableEq, Repr

/-- What an upset adds to a result of a lane (R190). -/
structure Upset where
  place : LaneResult
  error : Int
deriving DecidableEq, Repr

/-- The upsets of the two lanes of a brick in one update instant. -/
structure LaneErrors where
  a : List Upset
  b : List Upset
deriving DecidableEq, Repr

/-- A voltage, in µV, between the CS balls of a brick (R204). -/
structure CsSample where
  brick : Nat
  microvolts : Nat
deriving DecidableEq, Repr

/-- The VALUE of a command frame, and whether VCP_SEL rises before its answer is out (R226). -/
structure VcpValue where
  value : BitVec 24
  cut : Bool
deriving DecidableEq, Repr

/-- A link frame as it arrives: the port it comes by, and of its header (R404) MODE, SRC[11:0], TAG and HOPS. -/
structure FrameHead where
  port : BitVec 2
  mode : BitVec 4
  address : BitVec 12
  tag : Byte
  hops : Byte
deriving DecidableEq, Repr

/-- What a frame carries, with its header. -/
structure Framed (α : Type) where
  head : FrameHead
  body : α
deriving DecidableEq, Repr

/-- Who reports a ring's state: its address, or that it has none, the port the first copy of its frame comes by, and the frame's HOPS
(R405, R407, R408). -/
structure RingReporter where
  port : BitVec 2
  address : BitVec 12
  unaddressed : Bool
  hops : Byte
deriving DecidableEq, Repr

/-- What HELLO says of the device that sends it, which has no address (R404, R406, R411). -/
structure HelloBody where
  serial : BitVec 64
  headOk : Bool
  eligible : Bool
  trunkUp : Bool
deriving DecidableEq, Repr

/-- Who claims, and whether it has no address yet (R404, R410). -/
structure Claimant where
  serial : BitVec 64
  unaddressed : Bool
deriving DecidableEq, Repr

/-- A head's report: its address, the course and the direction of the step its string has completed (R249). -/
structure HeadReport where
  address : BitVec 12
  course : Byte
  down : Bool
deriving DecidableEq, Repr

/-- Where a WALK arrives, and the string number it carries (R406, R411). -/
structure WalkIn where
  port : BitVec 2
  string : Byte
deriving DecidableEq, Repr

/-- A command or event the block takes: one constructor per row of the table of operations and events. Operands carry
what the row leaves to the outside: the accessing path, the written word, levels, measured codes, a frame's content. Those without operands stand last. -/
inductive Instr where
  /-- RESET_N_RELEASE (R118): RESET_N rises after a requested reset and the boot phases of that level start. -/
  | resetNRelease (tst : Bool)
  /-- SWRST (R139): A write of RPC_SWRST with key 0x5E7A requests a software reset at RST_MAP.SW_LVL within 1 µs. -/
  | swrst (path : Path)
  /-- P0_SUPPLY_DONE (R109): VSYS has stayed above 5.6 V for 1 ms and P1 starts. -/
  | p0SupplyDone (vsys : Nat) (tst : Bool)
  /-- P2_RESTART (R116): A non-POR/BOR reset request during P2 restarts P2 and is counted; the ninth restart within 100 ms holds the device at 0b011 with 0x0D08. -/
  | p2Restart (source : Nat)
  /-- REF_QUALIFIED (R57): The reference (crystal, or a link port with REF_SEL = 1) has been valid for 1 ms and the PLL lock attempt proceeds. -/
  | refQualified (port : Bool)
  /-- REF_WINDOW_END (R61): A 100-RC-cycle reference monitor window ends, and fewer than 200 edges set REF_LOST. -/
  | refWindowEnd (edges : Nat)
  /-- REF_RETURN (R62): The lost reference has qualified again and the PLL resumes tracking without a phase step, clearing REF_LOST. -/
  | refReturn (port : Bool)
  /-- P6_SERVICES_DONE (R112): P6 writes the start and pending sheets, drives FAULT_N and STAT, raises source 8 and the device enters Idle. -/
  | p6ServicesDone (failedLanes : List (Nat × Lane))
  /-- L2_RESTART_DONE (R114): An L2 restart of the supervisor and service processors from their checked SRAM copies completes, or a failed CRC escalates to L1. -/
  | l2RestartDone (copiesOk : Bool)
  /-- L3_RESTART_DONE (R114): An L3 restart of SVC_0 and SVC_1 completes, or a failed CRC escalates to L1. -/
  | l3RestartDone (copiesOk : Bool)
  /-- OTP_READ (R139): An OTP_CTRL write with CMD = 0b01 reads a row into OTP_RDATA with its RESULT. -/
  | otpRead (path : Path) (row : BitVec 9)
  /-- OTP_PROGRAM (R125): An OTP_CTRL write with CMD = 0b10 and key 0xA7 starts programming OTP_WDATA into an unused row if R124 holds. -/
  | otpProgram (path : Path) (row : BitVec 9) (vsys : Nat) (vpp : Nat)
  /-- OTP_COMMAND_DONE (R125): An OTP command ends with its RESULT, and source 9 is raised. -/
  | otpCommandDone (failedBit : Option (Nat))
  /-- OTP_CONDITION_LOST (R126): A programming condition is lost during a command, which stops after the pulse in progress with RESULT 6. -/
  | otpConditionLost (pulses : Nat)
  /-- UPD_START (R135): An RPC_UPD_CTRL write with CMD = 0b01 starts an image update of BLOCKS blocks. -/
  | updStart (path : Path) (blocks : BitVec 10)
  /-- UPD_ABORT (R136): An RPC_UPD_CTRL write with CMD = 0b10 aborts the update with STATE 3 and RESULT 7. -/
  | updAbort (path : Path) (blocks : BitVec 10)
  /-- UPD_DATA (R136): A word written to RPC_UPD_DATA enters the update FIFO; each completed block is CRC-checked and written to flash, or activated from SRAM in loader mode. -/
  | updData (path : Path) (data : Word) (flashError : Bool)
  /-- UPDATE_CHECK_DONE (R136): After the last block the supervisor finishes R132 on the whole image and writes block 0 (STATE 2) or fails the update (STATE 3, 0x0D09). -/
  | updateCheckDone (flashError : Bool)
  /-- BOND_STORE_CMD (R155): A BND_CTRL write with CMD 1 and key 0x3C validates a bond and stores it as pending without applying it. -/
  | bondStoreCmd (path : Path) (src : BitVec 2)
  /-- BOND_APPLY (R152): A BND_CTRL write with CMD 2 requests a re-lay, which is refused (RESULT 3) or accepted with the COURSE hold of R24. -/
  | bondApply (path : Path) (src : BitVec 2) (store : Bool)
  /-- BOND_ABORT (R154): A BND_CTRL write with CMD 3 aborts a re-lay or store in progress. -/
  | bondAbort (path : Path)
  /-- BND_DATA (R151): A word written to BND_DATA enters the staging buffer; V1 runs after the 84th byte and receiving ends at TOTAL_LENGTH. -/
  | bndData (path : Path) (data : Word)
  /-- BOND_STORE_DONE (R150): The flash store of a bond completes with the seal programmed and STORED set, or ends with RESULT 7 and 0x0D10. -/
  | bondStoreDone (flashError : Bool)
  /-- SET_GO (R75): A write of STM_CTRL.SET_GO on a device in MASTER sets SYSTIME to the staged value in the next tick. -/
  | setGo (path : Path)
  /-- STM_TIME_LO_READ (R81): A read of STM_TIME_LO captures all 64 bits of SYSTIME into the reading path's shadow. -/
  | stmTimeLoRead (path : Path)
  /-- SYNC_REQ (R415): The parent receives SYNC_REQ, stamps t2, answers SYNC_RSP stamped t3 and then sends SYNC_FUP. -/
  | syncReq (port : BitVec 2) (turn : Nat)
  /-- SYNC_FUP (R416): The follower receives SYNC_FUP, computes offset and delay, and a valid offset drives the time servo under R72. -/
  | syncFup (t2 : BitVec 72) (t3 : BitVec 72) (tstate : BitVec 2)
  /-- RTC_TIME_READ (R88): A read of a time word on a path with no freeze starts a freeze, copying all four time words into that path's shadow. -/
  | rtcTimeRead (path : Path) (word : BitVec 2)
  /-- RTC_FREEZE_TIMEOUT (R89): The 64th oscillator tick after a freeze began ends it and sets the path's stale indicator. -/
  | rtcFreezeTimeout (path : Path)
  /-- RTC_STAT_READ (R89): A read of RTC_STAT ends the path's freeze and returns, then clears, its stale indicator. -/
  | rtcStatRead (path : Path)
  /-- COMMIT_BINARY (R93): A write of RTC_CTRL.COMMIT = 0b01 copies the binary staging registers into the commit buffer and sets COMMIT_PEND. -/
  | commitBinary (path : Path) (almEn : Bool)
  /-- COMMIT_CALENDAR (R92): A write of RTC_CTRL.COMMIT = 0b10 checks the calendar staging registers and either sets COMMIT_PEND or rejects the commit with RTC_WERR. -/
  | commitCalendar (path : Path) (almEn : Bool)
  /-- VBAK_SAMPLE (R98): Once every 32,768 ticks VBAK is sampled, and a reading below 2.1 V sets LBV. -/
  | vbakSample (millivolts : Nat)
  /-- EVT_EDGE_ACCEPT (R102): A level change on EVT_i that is stable for FILT_i + 1 ticks is accepted and its selected edge enters the event FIFO, or is dropped and counted. -/
  | evtEdgeAccept (input : Nat) (level : Bool)
  /-- EVT_POP (R104): A write of EVT_STAT.POP removes the head entry of the event FIFO. -/
  | evtPop (path : Path)
  /-- EVT_OVF_CLR (R105): A write of EVT_STAT.OVF_CLR sets OVF_CNT to 0. -/
  | evtOvfClr (path : Path)
  /-- BRICK_UPDATE (R172): At an update instant a leader slews ref, takes its feedback sample, computes the command, and runs settle detection and limits, with followers computing their trim. -/
  | brickUpdate (n : Nat) (lanes : LaneErrors) (held : List (Nat × BitVec 14))
  /-- SETTLE_TIMEOUT (R170): The settle timer expires without SETTLED, so SETTLE_FAIL is set and the record becomes FAILED. -/
  | settleTimeout (n : Nat)
  /-- BRK_TARGET_WRITE (R168): A write of BRK_n_TARGET sets the target and possibly the LOOP, taking effect as the brick's state allows. -/
  | brkTargetWrite (path : Path) (n : Nat) (data : Word)
  /-- COEF_COMMIT (R184): A write of BRK_n_CTRL.COEF_COMMIT copies every staged coefficient into force at the next update instant, or at once on a stopped brick. -/
  | coefCommit (path : Path) (n : Nat)
  /-- BRK_CNT_CLR (R187): A write of BRK_n_CTRL.CNT_CLR sets every field of BRK_n_CNT to 0. -/
  | brkCntClr (path : Path) (n : Nat)
  /-- LANE_SCRUB (R192): Every 1 ms each lane scrubs its coefficient store, corrects single-bit errors and detects a store failure. -/
  | laneScrub (n : Nat) (dataA : List (Nat × BitVec 32)) (dataB : List (Nat × BitVec 32)) (codeA : List (Nat × BitVec 7)) (codeB : List (Nat × BitVec 7))
  /-- QUICK_TEST_DONE (R195): The quick test during a hold ends, and the brick resumes with a recovery update on a passing lane or has a rail fault. -/
  | quickTestDone (n : Nat) (passA : Bool) (passB : Bool)
  /-- FULL_TEST_DONE (R200): A lane's full test ends; a pass counts a transient (retiring the lane on a third within an hour) and a failure retires the lane. -/
  | fullTestDone (n : Nat) (lane : Lane) (pass : Bool)
  /-- LANE_REJOIN (R199): At the leader's next period start a lane that passed its full test takes its partner's state and dual-lane operation resumes. -/
  | laneRejoin (n : Nat)
  /-- FAST_LIMIT_TRIP (R206): The CS window comparator crosses its threshold outside blanking and drives the brick's gates low within 60 ns, starting an all-off. -/
  | fastLimitTrip (cs : CsSample)
  /-- BLANKING_END (R205): Blanking after a gate rise ends, and a crossing that lasted to its end counts as a trip. -/
  | blankingEnd (n : Nat) (microvolts : Nat)
  /-- RETRY_TIMER_EXPIRY (R213): 100 ms after an all-off 0x0221 the device retries: if R256 holds it clears the fault, decrements RETRY_LEFT and rejoins. -/
  | retryTimerExpiry (blocked : Bool)
  /-- RUNNING_1S_EXPIRY (R213): A brick has stayed Running for 1 s without a break and RETRY_LEFT is set to RETRY. -/
  | running1sExpiry (n : Nat)
  /-- RETRY_RST (R215): A write of BRK_n_LANE_CTRL.RETRY_RST sets RETRY_LEFT to RETRY. -/
  | retryRst (path : Path) (n : Nat)
  /-- LCNT_CLR (R215): A write of BRK_n_LANE_CTRL.LCNT_CLR sets both lane counter registers and BRK_n_HOLD to 0. -/
  | lcntClr (path : Path) (n : Nat)
  /-- SET_V (R224): A SET_V command writes the owning leader's target with LOOP = 0, opens its record and is answered ACCEPT, or REJECT when the leader is Halted. -/
  | setV (group : BitVec 8) (seq : BitVec 4) (value : VcpValue)
  /-- SET_I (R224): A SET_I command writes the owning leader's target with LOOP = 1, opens its record and is answered ACCEPT, or REJECT when the leader is Halted. -/
  | setI (group : BitVec 8) (seq : BitVec 4) (value : VcpValue)
  /-- SET_SLEW (R223): A SET_SLEW command writes BRK_n_SLEW and is answered ACCEPT, or REJECT to a Halted leader. -/
  | setSlew (group : BitVec 8) (seq : BitVec 4) (value : VcpValue)
  /-- POLL (R229): A POLL command answers the state of the record that SEQ names. -/
  | poll (group : BitVec 8) (seq : BitVec 4) (value : VcpValue)
  /-- READ (R230): A READ command answers DONE with the requested item from the leader's registers. -/
  | read (group : BitVec 8) (seq : BitVec 4) (value : VcpValue)
  /-- VCP_RESERVED_CMD (R223): A command frame with a reserved CMD is answered REJECT with reason 0x01. -/
  | vcpReservedCmd (command : BitVec 4) (group : BitVec 8) (seq : BitVec 4) (value : VcpValue)
  /-- VCP_REC_CLR (R234): A write of VCP_CTRL.REC_CLR sets every record to UNKNOWN and clears the repeat memory. -/
  | vcpRecClr (path : Path)
  /-- VCP_CNT_CLR (R234): A write of VCP_CTRL.CNT_CLR sets VCP_ERR_CNT and VCP_ANS_CNT to 0. -/
  | vcpCntClr (path : Path)
  /-- VCP_LAST_LO_READ (R234): A read of VCP_LAST_LO captures VCP_LAST_HI into the reading path's shadow. -/
  | vcpLastLoRead (path : Path)
  /-- SEQ_TARGET (R245): A write of SEQ_CMD.TARGET on the course master sets the target course, or is refused under R246. -/
  | seqTarget (path : Path) (target : BitVec 8)
  /-- SEQ_FLOOR (R245): A write of SEQ_CMD.FLOOR makes every head of the system drive the floor. -/
  | seqFloor (path : Path) (target : BitVec 8)
  /-- COURSE_MASTER_STEP (R249): Once the previous step is complete, the course master gives the next step towards TARGET: the pulse on its string and TRUNK_STEP on the trunk. -/
  | courseMasterStep (pulseSeen : Bool)
  /-- CONFIRM (R247): A device receives the head's confirmation, compares course and direction, answers COURSE_ANS and performs all-off 0x0541 on a mismatch. -/
  | confirm (course : Framed (BitVec 8)) (down : Bool)
  /-- COURSE_ANS (R247): The head receives a device's answer to a confirmation. -/
  | courseAns (address : BitVec 12) (course : BitVec 8) (down : Bool) (status : BitVec 2) (rejoin : Bool)
  /-- TRUNK_STEP (R249): A head receives a trunk step frame and gives its pulse within 10 µs. -/
  | trunkStep (course : Framed (BitVec 8)) (down : Bool) (floor : Bool) (pulseSeen : Bool)
  /-- HEAD_DONE (R249): The keystone receives a head's completion report; when every head has reported the step is complete. -/
  | headDone (address : HeadReport)
  /-- REJOIN (R248): A write of SEQ_CTRL.REJOIN runs the DIR = 0 actions up to the string course on an OUT device whose fault is cleared, or sets CMD_REF_EV. -/
  | rejoin (path : Path)
  /-- FAULT_CLR (R256): A write of SEQ_CTRL.FAULT_CLR with key 0x5C clears the latched all-off if no fault is still present, or sets CLR_REF_EV. -/
  | faultClr (path : Path) (blocked : Bool)
  /-- LINE_CLR (R262): A write of SEQ_CTRL.LINE_CLR with key 0x5C clears a head's held line fault if its line reads idle. -/
  | lineClr (path : Path)
  /-- SEQ_CNT_CLR (R265): A write of SEQ_CTRL.CNT_CLR sets SEQ_CNT and SEQ_HEAD to 0. -/
  | seqCntClr (path : Path)
  /-- RAIL_VIOLATION (R252): A window violation present for 4 samples or 8 CLK_HK cycles on an armed threshold is a supervisor fault causing all-off. -/
  | railViolation (rail : Nat) (microvolts : List Nat)
  /-- PG_DELAY_EXPIRY (R253): A rail's values have stayed inside the window for PG_DELAY, so power-good rises. -/
  | pgDelayExpiry (rail : Nat)
  /-- MARGIN_PIN_CHANGE (R257): A debounced change of MRG_UP or MRG_DN changes the margin in force on the rails with MRG_EN. -/
  | marginPinChange (up : Bool) (dn : Bool)
  /-- SUPPLY_LOW (R258): VSYS has stayed below 5.4 V for 10 µs, so SUP_LOW is set, sheet 0x0548 written and supply-low reported. -/
  | supplyLow (vsys : Nat)
  /-- SUPPLY_GOOD (R259): VSYS has stayed at or above 5.6 V for 20 ms, so SUP_LOW clears and supply good is reported. -/
  | supplyGood (vsys : Nat)
  /-- SUPPLY (R258): The course master receives a supply report and starts a descent on the first supply-low. -/
  | supply (address : BitVec 12) (low : Bool)
  /-- FLOOR_DONE (R262): The head receives a device's course-0 report after a link floor. -/
  | floorDone (address : BitVec 12)
  /-- LINE_STATE (R246): The course master receives a head's line state report. -/
  | lineState (address : BitVec 12) (state : BitVec 2)
  /-- ALLOFF (R255): A device receives an all-off frame and performs the same all-off, recorded with REMOTE = 1. -/
  | alloff (code : BitVec 16) (source : FrameHead) (unaddressed : Bool)
  /-- PERIODIC_TRIGGER (R271): A periodic common trigger falls on the SYSTIME grid and, if accepted, all sample-and-holds capture. -/
  | periodicTrigger (held : List (Nat × BitVec 14))
  /-- EXT_TRIGGER (R271): A rising edge on GPIO_0 with FUNC 5 gives the common trigger. -/
  | extTrigger (held : List (Nat × BitVec 14))
  /-- CONVERSION_DONE (R267): A calibrated sample leaves the pipeline and becomes available to bricks, meters, streams and supervisors. -/
  | conversionDone (adc : BitVec 2)
  /-- CELL_TS_LO_READ (R285): A read of MSR_CELL_TS_LO copies the cell page into the reading path's shadow. -/
  | cellTsLoRead (path : Path)
  /-- HK_CAPTURE_TIMEOUT (R286): No trigger has been accepted within 1 ms of the tick, so ADC_3 captures the housekeeping inputs alone. -/
  | hkCaptureTimeout (held : List (Nat × BitVec 14))
  /-- DMA_CFG_WRITE (R290): A write of MSR_DMA_s_CFG enabling a stream is checked and starts it, or clearing EN stops it after the record in progress. -/
  | dmaCfgWrite (path : Path) (stream : BitVec 4) (data : Word)
  /-- DMA_WPTR_READ (R291): A read of MSR_DMA_s_WPTR copies WRAP and STAT into the reading path's shadow. -/
  | dmaWptrRead (path : Path) (stream : BitVec 4)
  /-- TDAC_WRITE (R292): A write of MSR_TDAC selects the test DAC path and code, checked against R293, taking effect from the second accepted trigger. -/
  | tdacWrite (path : Path) (data : Word)
  /-- OW_GO (R294): A write of MSR_CTRL.OW_GO starts an open-wire test of taps FIRST to LAST, or refuses it. -/
  | owGo (path : Path)
  /-- OW_ABORT (R296): A write of MSR_CTRL.OW_ABORT ends the test at once with its current off and result aborted. -/
  | owAbort (path : Path)
  /-- MSR_CNT_CLR (R300): A write of MSR_CTRL.CNT_CLR sets MSR_CNT to 0. -/
  | msrCntClr (path : Path)
  /-- SENSOR_FLAG_BROKEN (R307): A sensor fails the range check for 3 rounds or the cross-check for 10 rounds and is flagged broken. -/
  | sensorFlagBroken (sensor : Nat)
  /-- SENSOR_UNFLAG (R307): A broken sensor passes both checks for 100 rounds and is unflagged. -/
  | sensorUnflag (sensor : Nat)
  /-- PRIV_BROKEN_TIMEOUT (R308): A privileged sensor stays broken for 6,000 rounds, causing thermal shutdown with 0x0702. -/
  | privBrokenTimeout (sensor : Nat)
  /-- THERMAL_SHUTDOWN (R311): A sensor at SHUTDOWN for 3 rounds causes all-off, sets THM_LOCK and requests the thermal reset. -/
  | thermalShutdown (sensor : Nat)
  /-- SWEEP_REQ (R321): A write of CEL_CTRL.SWEEP_REQ starts a sweep at the next multiple of 60 s. -/
  | sweepReq (path : Path)
  /-- WINDOW_END (R326): A window ends, excitation stops, and its impedance results are checked and written to the bins. -/
  | windowEnd (enginesAgree : Bool)
  /-- BASE_RST (R335): A write of CEL_CTRL.BASE_RST with key 0xCE empties every baseline. -/
  | baseRst (path : Path)
  /-- CEL_ZR_READ (R330): A read of a bin's real part copies its imaginary part into the reading path's shadow. -/
  | celZrRead (path : Path) (cell : BitVec 5) (bin : BitVec 6)
  /-- SOURCE_QUALIFIED (R345): A supply input has stayed within 6 V to 36 V for 10 ms (or 1 s) and qualifies, possibly starting a planned handover. -/
  | sourceQualified (b : Bool)
  /-- SOURCE_LOST (R347): A supply input is below 5.8 V for 0.5 µs; if in use its gate is pulled low and a handover to the other source begins. -/
  | sourceLost (b : Bool)
  /-- SOURCE_OV (R345): A qualified source rises above 38.0 V, setting OV_EV and writing sheet 0x0933. -/
  | sourceOv (b : Bool)
  /-- LONG_QUAL_END (R349): A chattering source has stayed qualified for 60 s and returns to the 10 ms qualification. -/
  | longQualEnd (b : Bool)
  /-- PP_PREF_WRITE (R347): A write of CPM_PP_CTRL.PREF naming a qualified source not in use starts a planned handover. -/
  | ppPrefWrite (path : Path) (pref : Bool) (auxMode : Bool)
  /-- START (R359): A write of CPM_CTRL.START opens a charge session if the start conditions hold, or sets REF_EV. -/
  | start (path : Path)
  /-- STOP (R364): A write of CPM_CTRL.STOP ends the open session with reason 1. -/
  | stop (path : Path)
  /-- STAT_CLR (R377): A write of MTR_CTRL.STAT_CLR with key 0x4D empties the histogram and the extremes. -/
  | statClr (path : Path)
  /-- POINT_WRITE (R386): A write to a user point stores the word; a write elsewhere in the point or couch windows sets BUS_ERR. -/
  | pointWrite (path : Path) (point : BitVec 13) (data : Word)
  /-- COHERENT_PAGE_READ (R387): A read of a page's trigger word copies the rest of the page into the reading path's shadow. -/
  | coherentPageRead (path : Path) (address : Word)
  /-- COUCH_GO (R388): A write of MTR_COUCH_CTRL.GO requests a couch at T, checked under R389 and sent system-wide by a keystone. -/
  | couchGo (path : Path) (id : BitVec 16)
  /-- COUCH_FREE_WRITE (R391): A write of MTR_COUCH_CTRL.FREE frees the named banks, cancelling pending ones and sending COUCH_FREE from a keystone. -/
  | couchFreeWrite (path : Path) (banks : BitVec 4)
  /-- COUCH_REQ (R419): A device receives a couch request, checks it under R389 and answers COUCH_ANS. -/
  | couchReq (id : Framed (BitVec 16)) (time : Time)
  /-- COUCH_ANS (R419): The keystone counts a device's couch answer in LNK_COUCH_SUM. -/
  | couchAns (address : BitVec 12) (id : BitVec 16) (result : Byte)
  /-- COUCH_FREE (R419): A device receives COUCH_FREE and frees its banks holding the named IDs. -/
  | couchFree (ids : Framed (List (BitVec 16)))
  /-- COUCH_HELD (R390): A taken couch reaches the held state and its couch sheet is written. -/
  | couchHeld (bank : BitVec 2)
  /-- SHEET_WRITTEN (R394): A sheet's program completes and it leaves the queue, or a flash error moves the journal to the next sector. -/
  | sheetWritten (flashError : Bool)
  /-- JNL_RD_SLOT (R397): A write of JNL_RD_SLOT starts loading that slot into the path's buffer. -/
  | jnlRdSlot (path : Path) (slot : BitVec 17)
  /-- JNL_RD_LOADED (R397): The slot load completes and RD_READY reads 1. -/
  | jnlRdLoaded (path : Path)
  /-- PORT_UP (R403): A port's receiver has carried valid commas for 1 ms and is up. -/
  | portUp (port : BitVec 2)
  /-- PORT_DOWN (R403): A port sees no comma for 10 µs, goes down, sends RING_STATE and writes sheet 0x0B01. -/
  | portDown (port : BitVec 2)
  /-- RING_CHECK_SEND (R407): Every 1 ms the head (or keystone) sends RING_CHECK out of LNK_B. -/
  | ringCheckSend (trunk : Bool)
  /-- RING_CHECK (R407): A RING_CHECK is relayed, or its return at the head counts towards closing the ring. -/
  | ringCheck (port : FrameHead) (serial : BitVec 64)
  /-- RING_CHECK_TIMEOUT (R407): A ring check has not returned within 100 µs; two in a row declare the ring open. -/
  | ringCheckTimeout (trunk : Bool)
  /-- RING_STATE (R407): A device receives a ring state change and updates its routing. -/
  | ringState (trunk : Bool) (opened : Bool) (source : RingReporter) (event : Byte)
  /-- HELLO (R413): A head receives HELLO and starts enumeration 100 ms later at string course 0, or re-admits or refuses the device. -/
  | hello (serial : Framed HelloBody)
  /-- ENUM (R411): A write of LNK_CTRL.ENUM with key 0xA1 on a head or keystone starts enumeration. -/
  | enum (path : Path)
  /-- CLAIM (R410): A candidate receives a CLAIM and ranks it against its own, losing with sheet 0x0B12 if outranked. -/
  | claim (trunk : Bool) (serial : Framed Claimant) (rank : Byte)
  /-- WALK (R411): A device receives WALK, takes its count or distance, and relays or reports it. -/
  | walk (port : WalkIn) (count : Byte) (side : Bool)
  /-- WALK_REPORT (R411): The head or keystone receives a walk report and records the device's distance. -/
  | walkReport (trunk : Bool) (serial : BitVec 64) (distance : Byte) (side : Bool)
  /-- ASSIGN (R411): A device receives ASSIGN and takes its address, or stays unaddressed at a limit. -/
  | assign (trunk : Bool) (entries : Framed (List (BitVec 64 × BitVec 16)))
  /-- RA_READ (R417): A write of LNK_RA_CTRL with GO and OP 0 sends a remote single read on a free tag. -/
  | raRead (path : Path) (tag : BitVec 5) (dest : BitVec 12)
  /-- RA_WRITE (R417): A write of LNK_RA_CTRL with GO and OP 1 sends a remote write on a free tag. -/
  | raWrite (path : Path) (tag : BitVec 5) (dest : BitVec 12)
  /-- RA_BLOCK_READ (R417): A write of LNK_RA_CTRL with GO and OP 2 sends a remote block read of COUNT words. -/
  | raBlockRead (path : Path) (tag : BitVec 5) (count : BitVec 6) (dest : BitVec 12)
  /-- RD_REQ (R417): A target receives a remote read request, carries it out on the link path and answers RA_RSP, or BUSY. -/
  | rdReq (source : BitVec 12) (tag : BitVec 5) (address : Word) (count : Byte) (waiting : Nat)
  /-- WR_REQ (R417): A target receives a remote write request, carries it out on the link path and answers RA_RSP, or BUSY. -/
  | wrReq (source : BitVec 12) (tag : BitVec 5) (address : Word) (data : Word) (waiting : Nat)
  /-- RA_RSP (R417): The requester receives a response and its tag reaches STATE 2 with the result and data. -/
  | raRsp (tag : BitVec 5) (result : Byte) (data : List (Word))
  /-- RA_TIMEOUT (R417): No response within 1 ms ends the tag with TIMEOUT. -/
  | raTimeout (tag : BitVec 5)
  /-- RA_FREE (R427): A write of LNK_RA_STAT_t.FREE frees a done tag. -/
  | raFree (path : Path) (tag : BitVec 5)
  /-- DIST_GO (R421): A write of LNK_DIST_CTRL.GO starts sending a bond or image as DIST_START and DIST_DATA frames. -/
  | distGo (path : Path) (control : Word)
  /-- DIST_ABORT (R427): A write of LNK_DIST_CTRL.ABORT stops sending a distribution. -/
  | distAbort (path : Path) (control : Word)
  /-- DIST_START (R421): A receiver takes the start of a bond or image distribution into staging or an update. -/
  | distStart (source : FrameHead) (image : Bool) (apply : Bool) (store : Bool) (length : Word)
  /-- DIST_DATA (R421): A receiver takes a distribution data frame; a whole bond is staged or re-laid and a whole image checked. -/
  | distData (offset : Framed Word) (bytes : List (Byte)) (flashError : Bool)
  /-- DIST_RESULT (R421): The sender counts a receiver's distribution result. -/
  | distResult (source : BitVec 12) (result : Byte)
  /-- IMG_REQ (R422): A neighbour receives an image request and serves its image within 5 ms if it may. -/
  | imgReq (port : BitVec 2)
  /-- DOORBELL (R423): A DOORBELL frame raises sources 832 to 1,023 at the target, or is dropped and counted in REFUSED. -/
  | doorbell (source : Framed (BitVec 16))
  /-- IRQ_FWD (R423): A head receives a forwarded interrupt and queues it in its 64-entry forward FIFO, or counts an overflow. -/
  | irqFwd (address : BitVec 12) (source : BitVec 10) (stamp : Time)
  /-- RESET (R424): A unicast RESET frame with key 0x5E7A requests the link reset source at its target; others are dropped. -/
  | reset (key : BitVec 16) (unicast : Bool)
  /-- FWD_POP (R427): A write of LNK_CTRL.FWD_POP removes the head entry of the forward FIFO. -/
  | fwdPop (path : Path)
  /-- LNK_CNT_CLR (R427): A write of LNK_CTRL.CNT_CLR sets LNK_ERR_CNT and LNK_DROP_CNT to 0. -/
  | lnkCntClr (path : Path)
  /-- SPI_WRITE (R433): An SPI transaction with command 0x02 writes each received word to consecutive addresses. -/
  | spiWrite (address : Word) (words : List (Word)) (partialWord : Bool)
  /-- SPI_READ (R433): An SPI transaction with command 0x03 reads consecutive words after DUMMY bytes each, returning 0 for late reads. -/
  | spiRead (address : Word) (count : Nat) (late : List (Bool)) (addressCut : Bool)
  /-- SPI_RESERVED_CMD (R433): An SPI transaction with any other command is ignored and sets CMD_EV. -/
  | spiReservedCmd (command : Byte)
  /-- I2C_WRITE (R435): An I²C write transaction writes each received word to consecutive addresses. -/
  | i2cWrite (address : Word) (words : List (Word)) (partialWord : Bool)
  /-- I2C_READ (R435): An I²C read transaction with an address phase reads consecutive words. -/
  | i2cRead (address : Word) (count : Nat) (partialAddress : Bool)
  /-- I2C_CURRENT_READ (R435): An I²C read without an address phase reads on from the word after the last one accessed. -/
  | i2cCurrentRead (count : Nat)
  /-- HST_CNT_CLR (R447): A write of HST_CTRL.CNT_CLR sets HST_CNT to 0. -/
  | hstCntClr (path : Path)
  /-- REGISTER_WRITE (R9): A write to a register with no row of its own sets its fields, or is ignored whole with CFG_ERR and CFG_ERR_INFO. -/
  | registerWrite (path : Path) (address : Word) (data : Word)
  /-- DOORBELL_WRITE (R437): A write of ICU_DOORBELL raises a source from 832 to 1,023. -/
  | doorbellWrite (path : Path) (source : BitVec 10)
  /-- ICU_SRC_WRITE (R441): A write of ICU_SRC_s applies PEND clear, enable, priority, destination and group in one cycle, redelivering or removing queue entries. -/
  | icuSrcWrite (path : Path) (source : BitVec 10) (data : Word)
  /-- ICU_POP (R441): A write of ICU_CTRL.POP removes the head entry of the host queue and clears its PEND. -/
  | icuPop (path : Path) (intEn : Bool)
  /-- HOLDOFF_EXPIRY (R442): A group's hold-off expires and its waiting sources are delivered as one batch, or the group opens. -/
  | holdoffExpiry (g : Nat)
  /-- ICU_HOLD_WRITE (R442): A write of ICU_HOLD_g sets the hold-off from the next hold, and 0 opens the group and delivers every waiting source. -/
  | icuHoldWrite (path : Path) (g : Nat) (data : Word)
  /-- STANDBY_REQUEST (R444): A write of GLB_PWR_CTRL.STANDBY with key 0x5B arms the latches and lets the journal drain, or sets PWR_REF_EV. -/
  | standbyRequest (path : Path)
  /-- WAKE_LATCH_EDGE (R445): An armed Standby latch catches an edge, stamps it and ends Standby, or cancels a pending request. -/
  | wakeLatchEdge (latch : Nat)
  /-- IRQ_EDGE (R438): IRQ_n shows its selected edge and raises source 800 + n. -/
  | irqEdge (n : Nat) (rising : Bool)
  /-- GPIO_EDGE (R438): GPIO_n with FUNC 4 shows its selected edge and raises source 816 + n. -/
  | gpioEdge (n : Nat) (rising : Bool)
  /-- ARM (R454): A write of WDG_CTRL.ARM with key 0x3D in software start arms the watchdog with task 0. -/
  | arm (path : Path)
  /-- EVID_CLR (R459): A write of WDG_CTRL.EVID_CLR with key 0x3D clears VALID and CUT. -/
  | evidClr (path : Path)
  /-- CHECKIN (R452): A write of WDG_CHECKIN is judged early, double, wrong or good for its task. -/
  | checkin (path : Path) (task : BitVec 4) (value : BitVec 16) (counters : Word × Word × Word × Word)
  /-- WDG_WINDOW_CLOSE (R448): At count T_close − 1 the window closes, missing tasks fail with 0x0C03, and a new cycle starts with the next challenge. -/
  | wdgWindowClose (counters : Word × Word × Word × Word)
  /-- LINK_FRAME_ERROR (R405): A frame arrives with a bad CRC, a code error or a LEN above 256, is ended with K30.7 or dropped, and is counted in CRC_CNT or CODE_CNT. -/
  | linkFrameError (crc : Bool)
  /-- WAKE_PULSE (R3): A WAKE pulse of at least 100 µs in Dormant starts an L0 start. -/
  | wakePulse
  /-- POR (R117): The always-on domain's supply rises from below 2.5 V and a power-on reset (L0) is performed, losing the always-on contents. -/
  | por
  /-- BOR (R117): VCORE or ANA_OUT falls below its brown-out level and a brown-out reset (L0) is performed. -/
  | bor
  /-- INPUT_COLLAPSE (R50): VSYS falls below 4.5 V; within 1 µs every output is released, the regulators stop and the device is held in BOR. -/
  | inputCollapse
  /-- RESET_N_ASSERT (R118): RESET_N has been low for 10 µs, so a reset at RST_MAP.RSTN_LVL is requested and held. -/
  | resetNAssert
  /-- ALL_OFF_TIMELINE_END (R120): The 2 µs all-off timeline ends, and any reset that waited for it (software, thermal, watchdog, switch-cycle) is entered. -/
  | allOffTimelineEnd
  /-- P1_REGULATORS_DONE (R109): PRE, CORE, ANA and IO are inside their windows, BOR is released, and P2 (L0) or P4 (L1) begins. -/
  | p1RegulatorsDone
  /-- P1_REGULATOR_TIMEOUT (R110): P1 has not brought every regulator inside its window within 3 ms, so all four are switched off for 10 ms. -/
  | p1RegulatorTimeout
  /-- P1_RETRY_END (R110): The 10 ms off time after a failed P1 ends and P1 starts again. -/
  | p1RetryEnd
  /-- P2_OPTIONS_DONE (R123): The OTP integrity check completes, loading the option bytes and reset map or holding the device at STAT 0b100 with 0x0D02. -/
  | p2OptionsDone
  /-- P2_RESTART_WINDOW_END (R116): 100 ms after the first P2 restart of a run the restart count is cleared. -/
  | p2RestartWindowEnd
  /-- PLL_LOCK (R58): CLK_ROOT locks; clocks switch back glitch-free, STAT returns, and SYSTIME is seeded or reseeded from the RTC as the start requires. -/
  | pllLock
  /-- LOCK_ATTEMPT_TIMEOUT (R58): A lock attempt fails (no lock 1 ms after qualification, or no qualification after 6 ms); STAT shows 0b010 and the PLL is reset and retried. -/
  | lockAttemptTimeout
  /-- REF_LOST_TIMEOUT (R63): The reference has not returned 100 ms after REF_LOST, so an all-off with 0x0161 is performed if any rail is above course 0. -/
  | refLostTimeout
  /-- LOSS_OF_LOCK (R64): The phase error exceeds 2 ns on four reference periods: all-off 0x0160, clocks to the RC oscillator, and the PLL relocks. -/
  | lossOfLock
  /-- P4_IMAGE_DONE (R132): Curok finishes checking the image: on success the SRAM copy is activated and P5 begins (arming a hardware-start watchdog), otherwise loader mode is entered. -/
  | p4ImageDone
  /-- P5_BOND_DONE (R149): The bond is read from the chosen flash slot, validated and applied, or recorded as absent or rejected with 0x0D0B. -/
  | p5BondDone
  /-- LOADER_IMG_REQUEST (R134): Every second in loader mode, Curok sends an image request on LNK_A and then on LNK_B. -/
  | loaderImgRequest
  /-- LOADER_IMG_TIMEOUT (R422): No image frame has arrived for 100 ms, so the requester discards what it has and requests again. -/
  | loaderImgTimeout
  /-- BOND_RECEIVE_TIMEOUT (R151): 1 s passes without a bond word and receiving is aborted with reason 0x31. -/
  | bondReceiveTimeout
  /-- BOND_VALIDATION_DONE (R146): Validation steps V1 to V9 end with acceptance or with the first failure recorded in BND_ERR. -/
  | bondValidationDone
  /-- BOND_TAKES_EFFECT (R153): At T_eff every block leaves the old configuration and takes the new one together, with outputs, interrupts, points and reams updated. -/
  | bondTakesEffect
  /-- SYNC_START (R415): At each SYSTIME multiple of 31.25 ms an addressed follower sends SYNC_REQ to its time parent, stamped t1. -/
  | syncStart
  /-- SYNC_RSP (R415): The follower receives SYNC_RSP and stamps it t4. -/
  | syncRsp
  /-- SYNC_FUP_TIMEOUT (R416): SYNC_FUP has not arrived within 1 ms of SYNC_RSP and the exchange is invalid. -/
  | syncFupTimeout
  /-- SYNC_HOLDOVER_TIMEOUT (R72): No valid exchange for 500 ms moves a LOCKED follower to HOLDOVER. -/
  | syncHoldoverTimeout
  /-- VBAK_FIRST_RISE (R83): VBAK rises after having been absent, so every / BKP field takes its reset value and OSF and LBV are set. -/
  | vbakFirstRise
  /-- VBAK_LOSS (R85): VBAK falls below 1.6 V, so VBAK_OK reads 0 and the backup contents are lost. -/
  | vbakLoss
  /-- CAL_OVERFLOW (R87): The binary seconds reach 3000-01-01, so CAL_OVR is set and the calendar view holds 2999-12-31 23:59:59. -/
  | calOverflow
  /-- COMMIT_APPLY (R94): At the first oscillator tick after synchronisation the committed value replaces the binary count, clearing OSF and COMMIT_PEND. -/
  | commitApply
  /-- OSC_STOP_DETECT (R97): The stop detector sees four missing backup oscillator periods and sets OSF. -/
  | oscStopDetect
  /-- ALARM_FIRE (R100): The binary seconds reach the alarm value with ALM_EN = 1, so ALM_EV is set and ALM_EN cleared. -/
  | alarmFire
  /-- SUPERVISOR_LANE_MISMATCH (R203): The supervisor processor's lanes mismatch, so a sheet 0x0330 is written and a supervisor restart at L2 is requested. -/
  | supervisorLaneMismatch
  /-- VCP_SHORT_FRAME (R220): VCP_SEL rises before the 48th bit, so the frame is discarded and FRAME_EV and FRAME_CNT move. -/
  | vcpShortFrame
  /-- VCP_CRC_FAIL (R222): A 48-bit command frame fails its CRC and is discarded unanswered by every device, setting CRC_EV. -/
  | vcpCrcFail
  /-- COURSE_STEP_UP (R240): A device recognises a step up, counts it, drives CASC_OUT low, holds COURSE and starts the DIR = 0 actions of the new course. -/
  | courseStepUp
  /-- COURSE_STEP_DOWN (R240): A device recognises a step down, counts it, holds COURSE and starts the DIR = 1 actions of the course left. -/
  | courseStepDown
  /-- COURSE_FLOOR (R242): A 20 µs low is a floor, and each device above course 0 holds the line and runs its DIR = 1 actions down to course 0. -/
  | courseFloor
  /-- COURSE_INVALID_LOW (R243): A low from idle that is neither a pulse, a step nor a floor sets LINE_EV and increments LINE_CNT. -/
  | courseInvalidLow
  /-- RAIL_ON (R237): The RAIL_ON course action starts the rail's leader or LDO, or faults with 0x0521 when the leader cannot leave Stopped. -/
  | railOn
  /-- RAIL_OFF (R211): The RAIL_OFF course action puts the leader into Stopping or switches the LDO off. -/
  | railOff
  /-- WAIT_PG (R237): The WAIT_PG course action waits for power-good of a rail. -/
  | waitPg
  /-- WAIT_PG_TIMEOUT (R238): WAIT_PG reaches its timeout before power-good, which is supervisor fault 0x0520. -/
  | waitPgTimeout
  /-- DELAY (R237): The DELAY course action starts a wait of ARG µs. -/
  | delay
  /-- DELAY_EXPIRY (R237): A DELAY action's wait ends and the next action of the step starts. -/
  | delayExpiry
  /-- PIN_SET (R237): The PIN_SET course action drives a power-control GPIO to its off level or its opposite. -/
  | pinSet
  /-- SET_REF (R237): The SET_REF course action writes BRK_n_TARGET.TARGET as a course-action write. -/
  | setRef
  /-- MODULE_CLOSE (R352): The MODULE_CLOSE course action runs the open check and starts the precharge probe. -/
  | moduleClose
  /-- MODULE_OPEN (R354): The MODULE_OPEN course action drives DSW_G and PRE_G low within 1 µs and ends an open session. -/
  | moduleOpen
  /-- CASC_IN_RISE (R244): CASC_IN rises and the device's waiting cascaded action starts within 1 µs, or CASC_OUT follows on an OUT device. -/
  | cascInRise
  /-- CASC_TIMEOUT (R244): A cascaded action has waited CASC_TMO for CASC_IN, which is supervisor fault 0x0522. -/
  | cascTimeout
  /-- COURSE_LINE_IDLE (R247): The head sees COURSE idle after a step and sends CONFIRM within 20 µs. -/
  | courseLineIdle
  /-- CONFIRM_ANSWER_TIMEOUT (R247): 1 ms after a confirmation the head writes sheets for mismatches and missing answers and reports its string complete. -/
  | confirmAnswerTimeout
  /-- CONFIRM_MISSING_TIMEOUT (R247): A device gets no confirmation within 2 ms of the line becoming idle and writes sheet 0x0549. -/
  | confirmMissingTimeout
  /-- HEAD_REPORT_TIMEOUT (R249): A head has not reported within STEP_TMO of the trunk frame, so sheet 0x0547 is written and a system descent starts. -/
  | headReportTimeout
  /-- STEP_TIMEOUT (R262): The line is not idle within STEP_TMO of the head's pulse, so the head writes 0x0544, holds a stuck-low fault and sends a link floor. -/
  | stepTimeout
  /-- LINK_FLOOR (R262): A device receives a link floor, runs its floor actions without a hold and reports course 0. -/
  | linkFloor
  /-- TRIGGER_FALLBACK_TIMEOUT (R274): No GPIO_0 edge has arrived for 1 ms, so the trigger falls back to the periodic grid. -/
  | triggerFallbackTimeout
  /-- CELL_BLOCK_DONE (R283): A block of 2^DEC cell rounds ends and the decimated cell and stack values and block time are written. -/
  | cellBlockDone
  /-- HK_TICK (R286): A housekeeping tick falls every 10 ms and the housekeeping inputs are captured at the next common trigger. -/
  | hkTick
  /-- HK_ROUND_DONE (R286): The 32 housekeeping results are available, source 419 is raised, and the reference, band and thermal evaluations run. -/
  | hkRoundDone
  /-- OW_WINDOW_END (R295): WINDOW ms after a tap's test current was switched on, the tap is judged open or connected and the current is switched off. -/
  | owWindowEnd
  /-- OW_TAP_GAP_END (R294): The 1 ms wait after a tap ends and the next tap is tested, or the test ends. -/
  | owTapGapEnd
  /-- THROTTLE_EVAL (R309): At every 100th housekeeping round the throttle count k is raised, lowered or kept. -/
  | throttleEval
  /-- THM_LOCK_CLEAR (R312): Every counted sensor has been cool for 6,000 rounds with no privileged sensor broken, so THM_LOCK clears. -/
  | thmLockClear
  /-- SWEEP_START (R321): A sweep starts at a SYSTIME multiple of SWEEP_PERIOD when none is in progress. -/
  | sweepStart
  /-- WINDOW_LEADIN_START (R323): A window's lead-in starts; the window is made active or passive, excitation begins and balancing yields. -/
  | windowLeadinStart
  /-- WINDOW_MEASURE_START (R322): The measuring part of a window begins and the lock-in engines accumulate. -/
  | windowMeasureStart
  /-- REST_POINT (R332): REST_T s of rest end in a rest point, at which each cell's SoC is read and its capacity estimate updated. -/
  | restPoint
  /-- CEL_RESTORE_DONE (R336): The health service has restored bins, baselines and estimates from the journal and sets RESTORED. -/
  | celRestoreDone
  /-- BAL_SECOND_BOUNDARY (R337): At each SYSTIME second boundary the cells to balance are selected and their drivers switched on, and L is updated. -/
  | balSecondBoundary
  /-- BAL_ON_TIME_END (R337): A balancing driver's on-time ends and the hardware switches it off. -/
  | balOnTimeEnd
  /-- HANDOVER_DONE (R347): The incoming source's gate is on, USE changes and the handover is complete. -/
  | handoverDone
  /-- PROBE_T50_EXPIRY (R352): PROBE_T50 after PRE_G rose, the probe fails with 0x0911 if V_L is below V_S ÷ 2. -/
  | probeT50Expiry
  /-- PROBE_TIMEOUT (R352): T_P after PRE_G rose, the probe passes or fails with 0x0912 (or 0x0911). -/
  | probeTimeout
  /-- PRECHARGE_OFF_TIMER (R352): 10 ms after DSW_G closed, PRE_G is driven low and MODULE_CLOSE completes. -/
  | prechargeOffTimer
  /-- SERVICE_RELEASE (R355): The SERVICE button is released and the press is classified as short or as a switch-cycle reset request. -/
  | serviceRelease
  /-- SERVICE_HELD_20S (R357): The SERVICE button is held for 20 s and ship mode begins. -/
  | serviceHeld20s
  /-- SWITCH_CYCLE_TIMER (R356): 2 s after a switch-cycle request the SERVICE reset source (L0) is requested. -/
  | switchCycleTimer
  /-- SHIP_MODE_SHEET_WRITTEN (R357): The ship-mode sheet has been written and the device enters Dormant. -/
  | shipModeSheetWritten
  /-- CHARGE_EVAL (R360): Every 10 ms of an open session the manager forms I_lim, writes the leader's target or publishes limits, and checks phase and termination conditions. -/
  | chargeEval
  /-- SEARCH_DWELL_END (R362): A search step's 200 ms dwell ends and droop and stuck are judged. -/
  | searchDwellEnd
  /-- SEARCH_REPEAT (R362): 60 s after a search ended, a new bus current search starts in CC. -/
  | searchRepeat
  /-- SESSION_TMAX (R364): The session reaches T_MAX and ends with reason 3 and code 0x0923. -/
  | sessionTmax
  /-- REAM_LATCH (R379): After a ream boundary and the integration of the samples before it, the running ream is latched into the bank and restarted. -/
  | reamLatch
  /-- METER_RESTORE_DONE (R384): After a POR the supervisor restores the meters, ream index and statistics from the journal and writes sheet 0x0A03. -/
  | meterRestoreDone
  /-- HIST_SECOND (R376): Once per SYSTIME second the histogram bin of the module temperature gains 1 s. -/
  | histSecond
  /-- MIDNIGHT_STATS (R377): At every UTC midnight three statistics sheets are written. -/
  | midnightStats
  /-- COUCH_ANSWER_TIMEOUT (R419): 10 ms after a couch request the keystone sets DONE. -/
  | couchAnswerTimeout
  /-- COUCH_INSTANT (R390): SYSTIME reaches a pending couch instant and every live point is copied into the bank. -/
  | couchInstant
  /-- JOURNAL_DRAIN (R395): At most once per 100 µs the head sheet of the queue starts programming into the next flash slot. -/
  | journalDrain
  /-- HEAD_SEARCH_DONE (R396): After a POR the journal head search ends and the waiting sheets take their numbers. -/
  | headSearchDone
  /-- HELLO_SEND (R411): Every 100 ms a device without an address sends HELLO. -/
  | helloSend
  /-- ENUM_AUTO_START (R411): Enumeration starts by itself 200 ms after P6 while the system course is 0. -/
  | enumAutoStart
  /-- CLAIM_TIMEOUT (R411): 20 ms without a higher-ranked claim make the candidate head (or keystone on the trunk). -/
  | claimTimeout
  /-- DIST_COLLECT_END (R421): 200 ms after the last frame the sender stops counting answers and records failures in sheet 0x0B30. -/
  | distCollectEnd
  /-- I2C_SCL_TIMEOUT (R436): SCL stays low for 25 ms, so the transaction is abandoned and I2C_TMO_EV set. -/
  | i2cSclTimeout
  /-- INT_N_GAP_END (R443): The 1 µs minimum release of INT_N ends and a waiting entry asserts it. -/
  | intNGapEnd
  /-- STANDBY_ENTER (R444): After the journal has drained CLK_ROOT and the crystal stop and the device is in Standby. -/
  | standbyEnter
  /-- WAKE_RISE (R438): WAKE rises in Idle or Run and raises source 808. -/
  | wakeRise
  /-- WDO_PULSE_END (R457): WDO_LEN after WDO rose it falls and the watchdog reset source at RST_MAP.WDG_LVL is requested. -/
  | wdoPulseEnd
  /-- CASC_IN_FALL (R248): CASC_IN falls and an OUT device drives CASC_OUT low within 1 µs, passing the cascade through. -/
  | cascInFall
  /-- SERVICE_PRESS (R355): SERVICE reaches a debounced low after P6 in Idle or Run, starting the timing of a press and setting PRESSED. -/
  | servicePress
  /-- SERVICE_PROCESSOR_FAULT (R117): The supervisor processor finds a service-processor fault and requests a supervisor restart at L3, or at the lower-numbered level of RST_MAP.SUP_LVL. -/
  | serviceProcessorFault
deriving DecidableEq, Repr

end Sys2Proof
end

