-- ==== Sys2Proof/Decode.lean ====
section
/-! DEFINITION. Decoding. The block decodes no words: no row of the table of operations and events gives bits, so no word spells
a command. -/
namespace Sys2Proof

/-- The command a word spells by the table's bits: none, since no row gives any. -/
def decodeTableWord (nbits w : Nat) : Option Instr :=
  match nbits, w with
  | _, _ => none

end Sys2Proof
end

