-- ==== Sys2Proof/Config.lean ====
section
/-! DEFINITION. What the spec leaves to the silicon: uninterpreted constants, none with a body. Nothing in Lean can
evaluate one, so whatever is proved holds for every value of it. -/
namespace Sys2Proof.Config

/-- A free value: the `k`-th value the machine takes that the spec leaves open, as a natural number to be cut to the
width it is used at (DESIGN CHOICE, safe: log entry 24). The state's counter `free` supplies `k` and advances. -/
opaque freeValue : Nat → Nat

/-- Which clocks tick in the `k`-th instant of an idle queue: bit 0 CLK_CORE, bit 1 the RC oscillator, bit 2 the
32.768 kHz backup oscillator (their rates drift against each other: R56, R60, R84). DESIGN CHOICE: log entry 2. -/
opaque clockEdges : Nat → BitVec 3

/-- The factory gain error and offset of R278, from the programmed rows of the OTP FACTORY region, for a converter, an
input, a GAIN setting and a temperature band: the spec gives the region no layout. -/
opaque factoryGain : List (Nat × Word) → Nat → Nat → Nat → Nat → Rat
opaque factoryOffset : List (Nat × Word) → Nat → Nat → Nat → Nat → Rat

/-- Whether VCP_SEL stands low in CLK_CORE tick `k`, beside the answers (R219, R234): the controller's own time (DESIGN CHOICE, safe:
log entry 27). -/
opaque selLow : Nat → Bool

/-- The amplitude of the lock-in's sine table (R326), which the spec does not give (safe: log entry 24). -/
opaque lockScale : Nat

end Sys2Proof.Config
end

