-- ==== Sys2Proof/Machine/Bytes.lean ====
section
/-! DEFINITION. Byte strings: reading fields, CRC-32 (R140), SHA-256 (R131, R143). The CRC-16 of a VCP frame (R221) stands in
Vcp.lean. -/
namespace Sys2Proof.Machine

/-- The byte at offset `o`, 0 past the end. -/
def u8 (l : List Byte) (o : Nat) : Nat := (l.getD o 0).toNat

/-- Little-endian fields. -/
def u16 (l : List Byte) (o : Nat) : Nat := u8 l o + 256 * u8 l (o + 1)
def u32 (l : List Byte) (o : Nat) : Nat := u16 l o + 65536 * u16 l (o + 2)

/-- Signed fields. -/
def s8 (l : List Byte) (o : Nat) : Int := (BitVec.ofNat 8 (u8 l o)).toInt
def s16 (l : List Byte) (o : Nat) : Int := (BitVec.ofNat 16 (u16 l o)).toInt
def s24 (l : List Byte) (o : Nat) : Int := (BitVec.ofNat 24 (u32 l o)).toInt

/-- `n` bytes from offset `o`. -/
def slice (l : List Byte) (o n : Nat) : List Byte := (l.drop o).take n

/-- Whether `n` bytes from offset `o` are all 0. -/
def zeros (l : List Byte) (o n : Nat) : Bool := (List.range n).all (fun i => u8 l (o + i) == 0)

/-- One bit of the reflected CRC-32 with polynomial 0xEDB8_8320 (IEEE 802.3, R140). -/
def crcBit (c : BitVec 32) : BitVec 32 := if c.getLsbD 0 then (c >>> 1) ^^^ 0xEDB88320 else c >>> 1

/-- One byte of the CRC-32. -/
def crcByte (c : BitVec 32) (b : Byte) : BitVec 32 :=
  crcBit (crcBit (crcBit (crcBit (crcBit (crcBit (crcBit (crcBit (c ^^^ b.setWidth 32))))))))

/-- The CRC-32 of R140: initial value and final XOR 0xFFFF_FFFF. -/
def crc32 (l : List Byte) : BitVec 32 := l.foldl crcByte 0xFFFFFFFF ^^^ 0xFFFFFFFF

/-! ### SHA-256 (FIPS 180-4): the digest that R131, R143 and R144 name -/

/-- The largest number of `n` bits over `x` whose `k`-th power does not pass `v`, bit by bit from the top. -/
def rootOver (k v : Nat) : Nat → Nat → Nat
  | 0, x => x
  | n + 1, x => rootOver k v n (if (x + 2 ^ n) ^ k ≤ v then x + 2 ^ n else x)

/-- The first 32 bits of the fraction of the `k`-th root of `p`. -/
def rootFraction (k p : Nat) : BitVec 32 := BitVec.ofNat 32 (rootOver k (p * 2 ^ (32 * k)) 40 0)

/-- The first 64 primes: those below 312. -/
def digestPrimes : List Nat :=
  (List.range 312).filter (fun p => decide (2 ≤ p) && (List.range p).all (fun d => decide (d < 2) || p % d != 0))

/-- The round constants: the fractions of the cube roots of the first 64 primes. -/
def roundConstants : List (BitVec 32) := digestPrimes.map (rootFraction 3)

/-- The words a digest starts from: the fractions of the square roots of the first 8 primes. -/
def digestStart : List (BitVec 32) := (digestPrimes.take 8).map (rootFraction 2)

/-- The exclusive or of three right rotations of a word. -/
def turns (x : BitVec 32) (i j k : Nat) : BitVec 32 := x.rotateRight i ^^^ x.rotateRight j ^^^ x.rotateRight k

/-- The exclusive or of two right rotations and a right shift of a word. -/
def turnsShift (x : BitVec 32) (i j k : Nat) : BitVec 32 := x.rotateRight i ^^^ x.rotateRight j ^^^ (x >>> k)

/-- The window of sixteen schedule words moves on by one. -/
def slideWords (w : List (BitVec 32)) : List (BitVec 32) :=
  w.tail ++ [turnsShift (w.getD 14 0) 17 19 10 + w.getD 9 0 + turnsShift (w.getD 1 0) 7 18 3 + w.headD 0]

/-- One round on the eight working words; `k` is the round constant plus the schedule word. -/
def digestRound (v : List (BitVec 32)) (k : BitVec 32) : List (BitVec 32) :=
  match v with
  | [a, b, c, d, e, f, g, h] =>
    let x := h + k + turns e 6 11 25 + (g ^^^ (e &&& (f ^^^ g)))
    [x + turns a 2 13 22 + ((a &&& (b ||| c)) ||| (b &&& c)), a, b, c, d + x, e, f, g]
  | _ => v

/-- The rounds of one block, a round constant each, with the window of schedule words sliding along. -/
def digestRounds : List (BitVec 32) → List (BitVec 32) → List (BitVec 32) → List (BitVec 32)
  | [], _, v => v
  | k :: ks, w, v => digestRounds ks (slideWords w) (digestRound v (k + w.headD 0))

/-- A number read from bytes, high byte first. -/
def beNat (l : List Byte) : Nat := l.foldl (fun n b => 256 * n + b.toNat) 0

/-- The bytes of a number, high byte first. -/
def beBytes : Nat → Nat → List Byte
  | 0, _ => []
  | n + 1, v => BitVec.ofNat 8 (v / 256 ^ n) :: beBytes n v

/-- The digest words after the next `n` blocks of 64 bytes. -/
def digestBlocks : Nat → List Byte → List (BitVec 32) → List (BitVec 32)
  | 0, _, v => v
  | n + 1, l, v =>
    let w := (List.range 16).map (fun i => BitVec.ofNat 32 (beNat (slice l (4 * i) 4)))
    digestBlocks n (l.drop 64) (List.zipWith (· + ·) v (digestRounds roundConstants w v))

/-- SHA-256, 32 bytes: a bit 1, zeros and the length in bits fill the last block. -/
def sha256 (m : List Byte) : List Byte :=
  let gap := (119 - m.length % 64) % 64
  let padded := m ++ [0x80] ++ List.replicate gap 0 ++ beBytes 8 (8 * m.length)
  ((digestBlocks (padded.length / 64) padded digestStart).map (fun x => beBytes 4 x.toNat)).flatten

end Sys2Proof.Machine
end

