-- ==== Sys2Proof/Machine/Signature.lean ====
section
/-! DEFINITION. ECDSA over the curve P-256 (R131, R144): verifying a signature. The spec names the algorithm; the curve and
the steps are the standard's (FIPS 186). -/
namespace Sys2Proof.Machine

/-! ### Arithmetic modulo a prime -/

/-- `a ^ e` modulo `m`, over the low `n` bits of `e` from the top. -/
def powMod (a e m : Nat) : Nat → Nat
  | 0 => 1
  | n + 1 =>
    let r := powMod a (e / 2) m n
    if e % 2 = 1 then r * r % m * a % m else r * r % m

/-- The inverse of `a` modulo a prime of 256 bits. -/
def invMod (a m : Nat) : Nat := powMod a (m - 2) m 256

/-! ### The curve y² = x³ − 3x + b -/

/-- The prime of the field. -/
def curvePrime : Nat := 2 ^ 256 - 2 ^ 224 + 2 ^ 192 + 2 ^ 96 - 1

/-- The number of the points on the curve. -/
def curveOrder : Nat := 0xffffffff00000000ffffffffffffffffbce6faada7179e84f3b9cac2fc632551

/-- The curve's b. -/
def curveConst : Nat := 0x5ac635d8aa3a93e7b3ebbd55769886bc651d06b0cc53b0f63bce3c3e27d2604b

/-- A point of the curve by its coordinates, or the point at infinity. -/
abbrev CurvePoint := Option (Nat × Nat)

/-- The base point. -/
def curveBase : CurvePoint :=
  some (0x6b17d1f2e12c4247f8bce6e563a440f277037d812deb33a0f4a13945d898c296,
    0x4fe342e2fe1a7f9b8ee7eb4a7c0f9e162bce33576b315ececbb6406837bf51f5)

/-- Whether coordinates name a point of the curve. -/
def onCurve (x y : Nat) : Bool :=
  decide (x < curvePrime) && decide (y < curvePrime) &&
    (y * y + 3 * x) % curvePrime == (x * x * x + curveConst) % curvePrime

/-- The third point of the line of slope `g` through `(x1, y1)` and a point with abscissa `x2`, reflected. -/
def alongLine (g x1 y1 x2 : Nat) : CurvePoint :=
  let x := (g * g + 2 * curvePrime - x1 - x2) % curvePrime
  some (x, (g * (x1 + curvePrime - x) + curvePrime - y1) % curvePrime)

/-- The sum of two points of the curve. -/
def addPoints (p q : CurvePoint) : CurvePoint :=
  match p, q with
  | none, _ => q
  | _, none => p
  | some (x1, y1), some (x2, y2) =>
    if x1 = x2 then
      if (y1 + y2) % curvePrime = 0 then none
      else alongLine ((3 * x1 * x1 + curvePrime - 3) * invMod (2 * y1) curvePrime % curvePrime) x1 y1 x2
    else alongLine ((y2 + curvePrime - y1) * invMod (x2 + curvePrime - x1) curvePrime % curvePrime) x1 y1 x2

/-- `k` times a point, over the low `n` bits of `k` from the top. -/
def timesPoint (p : CurvePoint) : Nat → Nat → CurvePoint
  | 0, _ => none
  | n + 1, k =>
    let h := timesPoint p n (k / 2)
    let d := addPoints h h
    if k % 2 = 1 then addPoints d p else d

/-- Whether a signature (r, then s) verifies under a key (X, then Y) over a digest; every number is big-endian
(Table — Watermark payload). -/
def ecdsaP256 (key digest sig : List Byte) : Bool :=
  let x := beNat (key.take 32)
  let y := beNat (key.drop 32)
  let r := beNat (sig.take 32)
  let s := beNat (sig.drop 32)
  let inRange (v : Nat) : Bool := decide (0 < v) && decide (v < curveOrder)
  let w := invMod s curveOrder
  key.length == 64 && sig.length == 64 && onCurve x y && inRange r && inRange s &&
    match addPoints (timesPoint curveBase 256 (beNat digest * w % curveOrder))
        (timesPoint (some (x, y)) 256 (r * w % curveOrder)) with
    | some (v, _) => v % curveOrder == r
    | none => false

end Sys2Proof.Machine
end

