-- ==== Sys2Proof/Machine/BondForm.lean ====
section
/-! DEFINITION. The bond as bytes and tiles (R140 to R145), and its validation V1 to V9 (R146, R147).
Which reason is given where two fit is DEDUCED: log entry 11. -/
namespace Sys2Proof.Machine

/-- A tile of a bond: TYPE, INSTANCE, INDEX, its first byte in the bond, and its payload (R140). -/
structure Tile where
  type : Nat
  inst : Nat
  index : Nat
  off : Nat
  payload : List Byte
deriving DecidableEq, Repr

/-- A recorded bond error: reason, tile index, bond byte offset (R147). -/
structure BondErr where
  reason : Nat
  tile : Nat
  byte : Nat
deriving DecidableEq, Repr

def Tile.u8 (t : Tile) (o : Nat) : Nat := Machine.u8 t.payload o
def Tile.u16 (t : Tile) (o : Nat) : Nat := Machine.u16 t.payload o
def Tile.u32 (t : Tile) (o : Nat) : Nat := Machine.u32 t.payload o
def Tile.s8 (t : Tile) (o : Nat) : Int := Machine.s8 t.payload o
def Tile.s16 (t : Tile) (o : Nat) : Int := Machine.s16 t.payload o
def Tile.s24 (t : Tile) (o : Nat) : Int := Machine.s24 t.payload o
/-- The bond byte offset of a payload field. -/
def Tile.at (t : Tile) (o : Nat) : Nat := t.off + 16 + o

/-- The tile of a type and instance. -/
def tileOf (ts : List Tile) (type inst : Nat) : Option Tile :=
  ts.find? (fun t => decide (t.type = type) && decide (t.inst = inst))

/-- The tiles of a type, in bond order. -/
def tilesOf (ts : List Tile) (type : Nat) : List Tile := ts.filter (fun t => decide (t.type = type))

/-- Table — Tile types: INSTANCE range and LENGTH range of a TYPE, none for a reserved one (R141). -/
def tileLimits (type : Nat) : Option (Nat × Nat × Nat × Nat) :=
  match type with
  | 0x01 => some (0, 0, 64, 64)
  | 0x02 => some (0, 0, 4, 4)
  | 0x03 => some (0, 15, 96, 96)
  | 0x04 => some (0, 0, 80, 80)
  | 0x05 => some (0, 20, 16, 16)
  | 0x06 => some (1, 254, 12, 260)
  | 0x07 => some (0, 0, 8, 104)
  | 0x08 => some (0, 0, 16, 16)
  | 0x09 => some (0, 0, 104, 104)
  | 0x0A => some (0, 0, 20, 20)
  | 0x0B => some (0, 0, 8, 8)
  | 0x0C => some (0, 0, 132, 4228)
  | 0x0D => some (0, 0, 76, 76)
  | 0x0E => some (1, 4, 4, 4096)
  | 0x0F => some (0, 0, 128, 128)
  | _ => none

/-- The first error of a list of checks, if any: a check is a condition and what it records. -/
def firstErr : List (Bool × BondErr) → Option BondErr
  | [] => none
  | (ok, e) :: r => if ok then firstErr r else some e

/-- V1: framing and CRC of the bond-header tile, TARGET, TILE_COUNT and TOTAL_LENGTH, in ascending offset (R146). -/
def v1 (b : List Byte) : Option BondErr :=
  firstErr [
    (u8 b 0 == 0x01, ⟨0x01, 0, 0⟩), (u8 b 1 == 0, ⟨0x01, 0, 1⟩), (u8 b 2 == 1, ⟨0x01, 0, 2⟩),
    (u8 b 3 == 0, ⟨0x01, 0, 3⟩), (u32 b 4 == 64, ⟨0x01, 0, 4⟩), (u16 b 8 == 0, ⟨0x01, 0, 8⟩),
    (zeros b 0xA 6, ⟨0x01, 0, 0xA⟩), (u16 b 0x14 == 0x4850, ⟨0x02, 0, 0x14⟩),
    (decide (1 ≤ u16 b 0x18) && decide (u16 b 0x18 ≤ 512), ⟨0x01, 0, 0x18⟩),
    (decide (84 ≤ u32 b 0x1C) && decide (u32 b 0x1C ≤ 65536) && u32 b 0x1C % 4 == 0, ⟨0x01, 0, 0x1C⟩),
    (u32 b 0x50 == (crc32 (b.take 80)).toNat, ⟨0x03, 0, 0x50⟩)]

/-- V3, one tile: framing in ascending offset, then its CRC (reasons 0x05, 0x06). -/
def tileErr (b : List Byte) (total off idx : Nat) : Option BondErr :=
  if total < off + 16 then some ⟨0x05, idx, off⟩ else
  let lim := tileLimits (u8 b off)
  let inst := u8 b (off + 1)
  let len := u32 b (off + 4)
  firstErr [
    (lim.isSome, ⟨0x05, idx, off⟩),
    (match lim with | some l => decide (l.1 ≤ inst) && decide (inst ≤ l.2.1) | none => true, ⟨0x05, idx, off + 1⟩),
    (u8 b (off + 2) == 1, ⟨0x05, idx, off + 2⟩), (u8 b (off + 3) == 0, ⟨0x05, idx, off + 3⟩),
    (len % 4 == 0 && decide (off + 20 + len ≤ total) &&
      (match lim with | some l => decide (l.2.2.1 ≤ len) && decide (len ≤ l.2.2.2) | none => true),
      ⟨0x05, idx, off + 4⟩),
    (u16 b (off + 8) == idx, ⟨0x05, idx, off + 8⟩), (zeros b (off + 0xA) 6, ⟨0x05, idx, off + 0xA⟩),
    (u32 b (off + 16 + len) == (crc32 (slice b off (16 + len))).toNat, ⟨0x06, idx, off + 16 + len⟩)]

/-- V3: the walk tile by tile up to TOTAL_LENGTH (R146). -/
def walkTiles (b : List Byte) (total : Nat) : Nat → Nat → Nat → List Tile → Except BondErr (List Tile)
  | 0, _, _, acc => .ok acc.reverse
  | fuel + 1, off, idx, acc =>
    if off = total then .ok acc.reverse else
    match tileErr b total off idx with
    | some e => .error e
    | none =>
      let len := u32 b (off + 4)
      walkTiles b total fuel (off + 20 + len) (idx + 1) (⟨u8 b off, u8 b (off + 1), idx, off, slice b (off + 16) len⟩ :: acc)

/-- V4: a bond-header tile after INDEX 0, a watermark tile not last, a second tile of one TYPE and INSTANCE, in bond
order (reasons 0x08, 0x09). -/
def v4 (count : Nat) : List Tile → List Tile → Option BondErr
  | _, [] => none
  | seen, t :: r =>
    if (t.type == 1 && t.index != 0) || (t.type == 0xF && t.index + 1 != count) then some ⟨0x08, t.index, t.off⟩
    else if seen.any (fun x => x.type == t.type && x.inst == t.inst) then some ⟨0x09, t.index, t.off⟩
    else v4 count (t :: seen) r

/-- A field check of V7: the payload offset, the reason, whether the field passes. -/
structure Check where
  off : Nat
  reason : Nat
  ok : Bool

/-- Inclusive range, reason 0x0F (R147). -/
def rng (o : Nat) (lo hi v : Int) : Check := ⟨o, 0x0F, decide (lo ≤ v) && decide (v ≤ hi)⟩
/-- Stated encodings, reason 0x0E. -/
def enc (o : Nat) (ok : Bool) : Check := ⟨o, 0x0E, ok⟩
/-- A rule between fields of one tile, reason 0x10, charged at the lower-offset field. -/
def rel (o : Nat) (ok : Bool) : Check := ⟨o, 0x10, ok⟩

/-- The mode range of the command of a KIND, for period, PERIOD_MIN and dead times (R173, R176). -/
def modeRange (kind : Nat) (T tmin dr df : Int) : Int × Int :=
  let dm := if dr < df then df else dr
  match kind with
  | 1 => (dr, T - df)
  | 2 => (df, T - dr)
  | 3 => (dr, 2 * T - dr - 2 * df)
  | 4 => (dr, T - df)
  | 5 => (2 * dm - T, T - 2 * dm)
  | 6 => (0, T / 2)
  | 10 => (tmin, T)
  | _ => (-(T / 2), T / 2)

/-- A 24-bit coefficient field: bits [31:24] repeat bit 23. -/
def q420 (t : Tile) (o : Nat) : Check :=
  enc o (t.u8 (o + 3) == (if 128 ≤ t.u8 (o + 2) then 0xFF else 0))

/-- The fields of a brick tile (Table — Brick payload; R142, R173, R175). A secondary carries its leader's PERIOD_MIN (X1),
which is below PERIOD under KIND 10 only: DEDUCED, log entry 11. -/
def brickChecks (t : Tile) : List Check :=
  let role := t.u8 0
  let names := [1, 2, 3, 4, 8, 0xC, 0x10, 0x14, 0x18, 0x19]
  if role = 0 then
    (names.map (fun o => enc o (if 4 ≤ o && decide (o ≤ 0x14) then t.u32 o == 0 else t.u8 o == 0))) ++
      [enc 0x1A (t.u8 0x1A == 0xFF), enc 0x1B (t.u8 0x1B == 0)] ++
      [0x1C, 0x20, 0x24, 0x28, 0x2C, 0x30, 0x34, 0x38, 0x3C, 0x44, 0x48, 0x4C, 0x50].map (fun o => enc o (t.u32 o == 0)) ++
      [0x40, 0x42, 0x54, 0x56, 0x58, 0x5A, 0x5C, 0x5E].map (fun o => enc o (t.u16 o == 0))
  else
    let kind := t.u8 1
    let T : Int := t.u32 4
    let tmin : Int := t.u32 8
    let dr : Int := t.u32 0xC
    let df : Int := t.u32 0x10
    let lo := t.s24 0x48
    let hi := t.s24 0x4C
    let mr := modeRange kind T tmin dr df
    let euTop (o : Nat) : Check := enc o (t.u8 (o + 3) == 0)
    let head := [
      enc 0 (decide (role ≤ 3)),
      enc 1 (if role = 1 then decide (1 ≤ kind) && decide (kind ≤ 10) else kind == 0),
      rng 2 0 15 (t.u8 2), enc 2 (role != 1 || t.u8 2 == t.inst),
      (if role = 1 then enc 3 (t.u8 3 == 0) else if role = 2 then rng 3 1 15 (t.u8 3) else rng 3 1 3 (t.u8 3)),
      euTop 4, euTop 8, euTop 0xC, euTop 0x10, euTop 0x14,
      rng 4 30720 6144000 T,
      rel 4 (if role = 1 && kind == 10 then decide (tmin ≤ T) else if role = 3 then decide (tmin ≤ T) else decide (tmin = T)),
      rng 8 30720 6144000 tmin,
      rng 0xC 0 307200 dr, rel 8 (decide (4 * dr ≤ tmin)), rng 0x10 0 307200 df, rel 8 (decide (4 * df ≤ tmin)),
      (if role = 1 then enc 0x14 (t.u32 0x14 == 0) else rel 4 (decide ((t.u32 0x14 : Int) < T))),
      enc 0x18 (t.u8 0x18 == 1 || t.u8 0x18 == 2), rng 0x19 0 3 (t.u8 0x19),
      enc 0x1A (role == 1 || t.u8 0x1A == 0xFF), enc 0x1B (t.u8 0x1B == 0)]
    if role = 3 then head ++ [0x1C, 0x20, 0x24, 0x28, 0x2C, 0x30, 0x34, 0x38, 0x3C, 0x44, 0x48, 0x4C, 0x50].map (fun o => enc o (t.u32 o == 0)) ++
      [0x40, 0x42, 0x54, 0x56, 0x58, 0x5A, 0x5C, 0x5E].map (fun o => enc o (t.u16 o == 0))
    else head ++ (List.range 9).map (fun i => q420 t (0x1C + 4 * i)) ++ [
      rng 0x40 0 32767 (t.u16 0x40), rng 0x44 1 16777215 (t.u32 0x44),
      q420 t 0x48, q420 t 0x4C, rel 0x48 (decide (lo < hi)),
      (if role = 1 then rel 1 (decide (mr.1 ≤ lo) && decide (hi ≤ mr.2))
       else rel 4 (decide (lo ≤ 0) && decide (0 ≤ hi) && decide (-(T / 4) ≤ lo) && decide (hi ≤ T / 4))),
      rng 0x50 1 0xFFFFFFFF (t.u32 0x50), enc 0x54 (decide (t.u16 0x54 < 1024)), rng 0x56 20 500 (t.u16 0x56),
      rng 0x58 1 32767 (t.u16 0x58), rng 0x5A 10 10000 (t.u16 0x5A), rng 0x5C 1 32767 (t.u16 0x5C),
      rng 0x5E 1 65535 (t.u16 0x5E)]

/-- The fields of a mortar tile. -/
def mortarChecks (t : Tile) : List Check :=
  (List.range 32).map (fun i => let v := t.u8 i; enc i (if v < 128 then v == 0 else bitsOf v 5 2 == 0)) ++
  (List.range 16).map (fun i => enc (0x20 + i) (bitsOf (t.u8 (0x20 + i)) 4 3 == 0)) ++
  ((List.range 32).map (fun i =>
    [enc (0x30 + i) (bitsOf (t.u8 (0x30 + i)) 5 2 == 0), rng (0x30 + i) 0 23 (bitsOf (t.u8 (0x30 + i)) 0 5)])).flatten

/-- The fields of a rail tile. -/
def railChecks (t : Tile) : List Check :=
  [(if t.inst < 16 then rng 0 0 23 (t.u8 0) else enc 0 (t.u8 0 == 0xFF)),
   enc 1 (decide (t.u8 1 < 4)), enc 2 (zeros t.payload 2 2),
   enc 4 (decide (t.u16 4 < 1024)), rel 4 (decide (t.u16 4 < t.u16 6)), enc 6 (decide (t.u16 6 < 1024)),
   (if t.inst < 19 then enc 0xA (t.u16 0xA == 0)
    else rng 0xA 1200 3300 (t.u16 0xA)), enc 0xA (decide (t.inst < 19) || t.u16 0xA % 50 == 0),
   enc 0xC (t.u8 0xC != 128), enc 0xD (t.u8 0xD != 128), enc 0xE (zeros t.payload 0xE 2)]

/-- One course action entry at payload offset `o` (Table — Course opcodes). -/
def actionChecks (t : Tile) (o : Nat) : List Check :=
  let op := t.u8 o
  let tgt := t.u8 (o + 2)
  let arg : Int := t.u32 (o + 4)
  [enc o (decide (1 ≤ op) && decide (op ≤ 8)), enc (o + 1) (decide (t.u8 (o + 1) < 4)),
   (if op ≤ 3 then rng (o + 2) 0 20 tgt else if op = 5 || op = 6 then rng (o + 2) 0 15 tgt else enc (o + 2) (tgt == 0)),
   enc (o + 3) (t.u8 (o + 3) == 0),
   match op with
   | 1 => rng (o + 4) 0 (if 16 ≤ tgt then 0 else 1000000) arg
   | 2 => rng (o + 4) 0 1000000 arg
   | 3 => rng (o + 4) 1 1000000 arg
   | 4 => rng (o + 4) 1 1000000 arg
   | 5 => enc (o + 4) (decide (arg ≤ 1))
   | 6 => enc (o + 4) (t.u16 (o + 6) == (if 32768 ≤ t.u16 (o + 4) then 0xFFFF else 0))
   | 7 => rng (o + 4) 1000 10000000 arg
   | _ => enc (o + 4) (decide (arg = 0))]


/-- The fields of a sense tile (R269 at the second entry; one channel named twice is left to X5). -/
def senseChecks (t : Tile) : List Check :=
  let n := t.u8 1
  [rng 0 0 17 (t.u8 0), rng 1 0 24 n, enc 2 (zeros t.payload 2 2),
   (if t.u8 0 = 0 then rng 4 60 6000000 (t.u32 4) else enc 4 (t.u32 4 == 0))] ++
  ((List.range (min n 24)).map (fun k =>
    let o := 8 + 4 * k
    [rng o 0 23 (t.u8 o), enc (o + 1) (decide (t.u8 (o + 1) < 0x30)),
     rel o (!(List.range k).any (fun j => t.u8 (9 + 4 * j) == t.u8 (o + 1) && t.u8 (8 + 4 * j) != t.u8 o &&
        decide (t.u8 (8 + 4 * j) / 12 = t.u8 o / 12))),
     enc (o + 2) (decide (t.u8 (o + 2) < 4)), enc (o + 3) (t.u8 (o + 3) == 0)])).flatten

/-- The fields of a cell tile. -/
def cellChecks (t : Tile) : List Check :=
  let ex := t.u8 2
  [rng 0 0 32 (t.u8 0), enc 1 (decide (t.u8 1 < 3)), enc 2 (decide (ex < 3)),
   (if ex = 2 then rng 3 0 15 (t.u8 3) else enc 3 (t.u8 3 == 0xFF)),
   enc 4 (ex == 0 || t.u16 4 != 0), (if ex = 2 then rng 6 1 20 (t.u8 6) else enc 6 (t.u8 6 == 0)),
   enc 7 (t.u8 7 == 0), (if ex = 0 && t.u8 8 == 0xFF then enc 8 true else rng 8 0 23 (t.u8 8)),
   rng 9 0 100 (t.u8 9), enc 0xA (zeros t.payload 0xA 2), rng 0xC 1000 2000000 (t.u32 0xC)]

/-- The fields of a thermal tile (R304 for the die entry). -/
def thermalChecks (t : Tile) : List Check :=
  ((List.range 13).map (fun i =>
    let o := 8 * i
    let nb (x : Nat) : Bool := x == 0xFF || decide (x < 12)
    [enc o (if i = 12 then t.u8 o == 1 else decide (t.u8 o < 4)),
     (if i = 12 then rel (o + 1) (t.u8 (o + 1) == 0xFF && t.u8 (o + 2) == 0xFF) else enc (o + 1) (nb (t.u8 (o + 1)))),
     enc (o + 2) (nb (t.u8 (o + 2))),
     rel (o + 1) ((t.u8 (o + 1) == 0xFF) == (t.u8 (o + 2) == 0xFF)),
     (if i = 12 then enc (o + 3) (t.u8 (o + 3) == 0) else rng (o + 3) 0 3 (t.u8 (o + 3))),
     rng (o + 4) (-400) 1500 (t.s16 (o + 4)), rel (o + 4) (decide (t.s16 (o + 4) < t.s16 (o + 6))),
     rng (o + 6) (-400) 1500 (t.s16 (o + 6))])).flatten

/-- The fields of an interrupt tile. -/
def interruptChecks (t : Tile) : List Check :=
  let n := t.u16 0x80
  (List.range 32).map (fun g => rng (4 * g) 0 100000 (t.u32 (4 * g))) ++
  [rng 0x80 0 1024 n, enc 0x82 (zeros t.payload 0x82 2)] ++
  ((List.range (min n 1024)).map (fun k =>
    let o := 0x84 + 4 * k
    let c := t.u8 (o + 2)
    [rng o 0 1023 (t.u16 o), rel o (k == 0 || decide (t.u16 (o - 4) < t.u16 o)),
     enc (o + 2) (bitsOf c 6 1 == 0 && bitsOf c 3 1 == 0 && decide (bitsOf c 0 3 ≤ 4)),
     enc (o + 3) (decide (t.u8 (o + 3) < 32) || t.u8 (o + 3) == 0xFF)])).flatten

/-- The fields of a pin tile. -/
def pinChecks (t : Tile) : List Check :=
  ((List.range 16).map (fun n =>
    let f := t.u8 (4 * n)
    [enc (4 * n) (decide (f < 7) && (f != 5 || n == 0) && (f != 6 || n == 1)),
     enc (4 * n + 1) (if f = 3 then decide (t.u8 (4 * n + 1) < 2) else t.u8 (4 * n + 1) == 0),
     enc (4 * n + 2) (zeros t.payload (4 * n + 2) 2)])).flatten ++
  (List.range 8).map (fun n => enc (0x40 + n) (decide (t.u8 (0x40 + n) < 4))) ++
  [enc 0x48 (decide (t.u8 0x48 < 2)), enc 0x49 (zeros t.payload 0x49 3)]

/-- The field checks of a tile. Service parameters are the service's own (V9). -/
def fieldChecks (t : Tile) : List Check :=
  match t.type with
  | 0x01 => [enc 0 (t.u32 0 != 0), enc 6 (zeros t.payload 6 2), enc 0xA (zeros t.payload 0xA 2)]
  | 0x02 => [rng 0 1 8 (t.u8 0), enc 1 (decide (t.u8 1 < 2)), enc 2 (zeros t.payload 2 2)]
  | 0x03 => brickChecks t
  | 0x04 => mortarChecks t
  | 0x05 => railChecks t
  | 0x06 => [rng 0 1 32 (t.u16 0), enc 2 (zeros t.payload 2 2)] ++
      ((List.range (min (t.u16 0) 32)).map (fun k => actionChecks t (4 + 8 * k))).flatten
  | 0x07 => senseChecks t
  | 0x08 => cellChecks t
  | 0x09 => thermalChecks t
  | 0x0A => [⟨0, 0x0F, decide (60 ≤ t.u32 0) && decide (t.u32 0 ≤ 86400) && 86400 % t.u32 0 == 0⟩,
      rng 4 0 23 (t.u8 4), rng 5 0 23 (t.u8 5), enc 6 (zeros t.payload 6 2), ⟨8, 0x0F, t.u32 8 != 0⟩,
      ⟨0xC, 0x0F, t.u32 0xC != 0⟩, rng 0x10 100 1000 (t.u16 0x10), enc 0x12 (zeros t.payload 0x12 2)]
  | 0x0B => [enc 0 (decide (t.u8 0 < 4)), enc 1 (decide (t.u8 1 < 3)), enc 2 (decide (t.u8 2 < 16)), enc 3 (t.u8 3 == 0),
      enc 4 (decide (t.u8 4 < 2)), enc 5 (decide (t.u8 5 < 2)), enc 6 (zeros t.payload 6 2)]
  | 0x0C => interruptChecks t
  | 0x0D => pinChecks t
  | 0x0E => [enc 2 (zeros t.payload 2 2)]
  | _ => []

/-- LENGTH against the tile's own count (course, sense, interrupt). -/
def lengthOk (t : Tile) : Bool :=
  match t.type with
  | 0x06 => t.payload.length == 4 + 8 * t.u16 0
  | 0x07 => t.payload.length == 8 + 4 * t.u8 1
  | 0x0C => t.payload.length == 0x84 + 4 * t.u16 0x80
  | _ => true

/-- The failing check of the lowest offset. -/
def lowestFail (cs : List Check) : Option Check :=
  cs.foldl (fun acc c => if c.ok then acc else
    match acc with
    | some a => if c.off < a.off then some c else some a
    | none => some c) none

/-- V7 of one tile: fields in ascending offset. -/
def tileFieldErr (t : Tile) : Option BondErr :=
  if lengthOk t then
    match lowestFail (fieldChecks t) with
    | some c => some ⟨c.reason, t.index, t.at c.off⟩
    | none => none
  else some ⟨0x10, t.index, t.off + 4⟩

/-- A breach of a cross-tile rule: tile and byte. -/
def lowestBreach (l : List (Bool × Tile × Nat)) : Option BondErr :=
  l.foldl (fun acc x => if x.1 then acc else
    match acc with
    | some a => if x.2.2 < a.byte then some ⟨0x11, x.2.1.index, x.2.2⟩ else some a
    | none => some ⟨0x11, x.2.1.index, x.2.2⟩) none

/-- The ROLE and KIND a bond gives a brick; 0 without a tile. -/
def roleOf (ts : List Tile) (n : Nat) : Nat := match tileOf ts 3 n with | some t => t.u8 0 | none => 0
def kindOf (ts : List Tile) (n : Nat) : Nat := match tileOf ts 3 n with | some t => t.u8 1 | none => 0
def isLeader (ts : List Tile) (n : Nat) : Bool := roleOf ts n == 1
def isDabLeader (ts : List Tile) (n : Nat) : Bool :=
  isLeader ts n && decide (7 ≤ kindOf ts n) && decide (kindOf ts n ≤ 9)

/-- Table — Converter kinds: fewest and most secondaries, followers allowed. -/
def kindMembers (kind : Nat) : Nat × Nat × Bool :=
  match kind with
  | 1 | 2 => (0, 0, true)
  | 3 | 5 | 6 => (1, 1, false)
  | 7 | 8 | 9 => (3, 3, false)
  | 10 => (0, 1, false)
  | _ => (0, 0, false)

/-- The members of a leader with a role, in bond order. -/
def membersOf (ts : List Tile) (ld role : Nat) : List Tile :=
  (tilesOf ts 3).filter (fun t => t.u8 0 == role && t.u8 2 == ld)

def hasChannel (ts : List Tile) (ch : Nat) : Bool :=
  match tileOf ts 7 0 with
  | some t => (List.range (t.u8 1)).any (fun k => t.u8 (8 + 4 * k) == ch)
  | none => false

/-- X1 to X12 (Table — Cross-tile rules), the breaches of each rule. -/
def crossRules (ts : List Tile) : List (List (Bool × Tile × Nat)) :=
  let bricks := tilesOf ts 3
  let members := bricks.filter (fun t => t.u8 0 == 2 || t.u8 0 == 3)
  let assigned := bricks.filter (fun t => t.u8 0 != 0)
  let mortar := tileOf ts 4 0
  let x1 := members.map (fun t =>
    match tileOf ts 3 (t.u8 2) with
    | some l =>
      if l.u8 0 != 1 then (false, t, t.at 2)
      else if t.u32 4 != l.u32 4 then (false, t, t.at 4)
      else if t.u32 8 != l.u32 8 then (false, t, t.at 8)
      else (t.u8 0x18 == l.u8 0x18, t, t.at 0x18)
    | none => (false, t, t.at 2))
  let x2m := members.map (fun t =>
    let k := kindMembers (kindOf ts (t.u8 2))
    let sibs := membersOf ts (t.u8 2) (t.u8 0)
    let most := if t.u8 0 = 3 then k.2.1 else sibs.length
    if (t.u8 0 == 3 && k.2.1 == 0) || (t.u8 0 == 2 && !k.2.2) then (false, t, t.at 0)
    else (decide (1 ≤ t.u8 3) && decide (t.u8 3 ≤ most) &&
        !sibs.any (fun x => decide (x.index < t.index) && x.u8 3 == t.u8 3), t, t.at 3))
  let x2l := (bricks.filter (fun t => t.u8 0 == 1)).map (fun t =>
    (decide ((kindMembers (t.u8 1)).1 ≤ (membersOf ts t.inst 3).length), t, t.at 1))
  let routes (m : Tile) (b out : Nat) : Bool :=
    (List.range 32).any (fun i => m.u8 i == 128 + 2 * b + out)
  let x3g := match mortar with
    | some m => (List.range 32).map (fun i =>
        let v := m.u8 i
        (v == 0 || (roleOf ts (bitsOf v 1 4) != 0 && !(List.range i).any (fun j => m.u8 j == v)), m, m.at i))
    | none => []
  let x3b := assigned.map (fun t =>
    (match mortar with | some m => routes m t.inst 0 && routes m t.inst 1 | none => false, t, t.at 0))
  let x4 := (assigned.filter (fun t => t.u8 0 != 3)).map (fun t =>
    match mortar with
    | some m =>
      if m.u8 (0x20 + t.inst) < 128 then (false, m, m.at (0x20 + t.inst))
      else if t.u8 0 = 1 && decide (m.u8 (0x30 + 2 * t.inst) < 128) then (false, m, m.at (0x30 + 2 * t.inst))
      else (t.u8 0 != 1 || decide (128 ≤ m.u8 (0x31 + 2 * t.inst)), m, m.at (0x31 + 2 * t.inst))
    | none => (false, t, t.at 0))
  let x5 := (match mortar with
      | some m => (List.range 32).map (fun i =>
          (decide (m.u8 (0x30 + i) < 128) || hasChannel ts (bitsOf (m.u8 (0x30 + i)) 0 5), m, m.at (0x30 + i)))
      | none => []) ++
    (tilesOf ts 5).map (fun t => (decide (16 ≤ t.inst) || hasChannel ts (t.u8 0), t, t.at 0)) ++
    (tilesOf ts 8).map (fun t => (t.u8 8 == 0xFF || hasChannel ts (t.u8 8), t, t.at 8)) ++
    ((tilesOf ts 0xA).map (fun t => [(hasChannel ts (t.u8 4), t, t.at 4), (hasChannel ts (t.u8 5), t, t.at 5)])).flatten ++
    ((tilesOf ts 7).map (fun t => (List.range (t.u8 1)).map (fun k =>
      (!(List.range k).any (fun j => t.u8 (8 + 4 * j) == t.u8 (8 + 4 * k)), t, t.at (8 + 4 * k))))).flatten
  let x6 := (tilesOf ts 5).map (fun t => (decide (16 ≤ t.inst) || isLeader ts t.inst, t, t.off + 1))
  let hasCourse (k : Nat) : Bool := (tileOf ts 6 k).isSome
  let x7g := (tilesOf ts 6).map (fun t =>
    -- the lowest INSTANCE above the first missing course number
    (!((List.range t.inst).any (fun k => k != 0 && !hasCourse k) &&
       (List.range t.inst).all (fun k => k == 0 || !hasCourse k || (List.range k).all (fun j => j == 0 || hasCourse j))),
      t, t.off + 1))
  let gpioPower (p : Nat) : Bool := match tileOf ts 0xD 0 with | some t => t.u8 (4 * p) == 3 | none => false
  let x7a := ((tilesOf ts 6).map (fun t => (List.range (t.u16 0)).map (fun k =>
    let o := 4 + 8 * k
    let tgt := t.u8 (o + 2)
    (match t.u8 o with
     | 1 | 2 | 3 => (tileOf ts 5 tgt).isSome || (decide (16 ≤ tgt) && decide (tgt ≤ 18))
     | 5 => gpioPower tgt
     | 6 => isLeader ts tgt
     | _ => true, t, t.at (o + 2))))).flatten
  let vcpOn := match tileOf ts 0xD 0 with | some t => t.u8 0x48 == 1 | none => false
  let x8 := (bricks.filter (fun t => t.u8 0 == 1 && t.u8 0x1A != 0xFF)).map (fun t =>
    (vcpOn && !bricks.any (fun x => x.u8 0 == 1 && decide (x.index < t.index) && x.u8 0x1A == t.u8 0x1A), t, t.at 0x1A))
  let anyDab := (List.range 16).any (isDabLeader ts)
  let x9 := ((tilesOf ts 8).map (fun t => [
    (t.u8 2 != 2 || isDabLeader ts (t.u8 3), t, t.at 3),
    (t.u8 1 != 2 || anyDab, t, t.at 1),
    (t.u8 0 != 0 || t.u8 1 == 0, t, t.at 1),
    (t.u8 0 != 0 || t.u8 1 != 0 || t.u8 2 == 0, t, t.at 2)])).flatten
  let x10 := ((tilesOf ts 9).map (fun t =>
    let safety (i : Nat) : Bool := bitsOf (t.u8 (8 * i)) 1 1 == 1
    let enabled (i : Nat) : Bool := t.u8 (8 * i) % 2 == 1
    (List.range 12).map (fun i =>
      (!(safety i && decide (((List.range i).filter safety).length = 2)), t, t.at (8 * i))) ++
    ((List.range 12).map (fun i =>
      let a := t.u8 (8 * i + 1)
      let b := t.u8 (8 * i + 2)
      let good (x : Nat) : Bool := x == 0xFF || (x != i && enabled x && decide (x < 12))
      [(!enabled i || good a, t, t.at (8 * i + 1)),
       (!enabled i || (good b && (b == 0xFF || a != b)), t, t.at (8 * i + 2))])).flatten)).flatten
  let x11 := ((tilesOf ts 0xB).map (fun t => [
    (bitsOf (t.u8 0) 1 1 == 0 || bitsOf (t.u8 0) 0 1 == 1, t, t.at 0),
    (bitsOf (t.u8 0) 0 1 == 0 || bitsOf (t.u8 2) 2 1 == bitsOf (t.u8 2) 3 1, t, t.at 2)])).flatten
  let x12 := ((tilesOf ts 0xC).map (fun t => (List.range (t.u16 0x80)).map (fun k =>
    (bitsOf (t.u8 (0x86 + 4 * k)) 0 3 != 4 || (tileOf ts 0xB 0).isSome, t, t.at (0x86 + 4 * k))))).flatten
  [x1, x2m ++ x2l, x3g ++ x3b, x4, x5, x6, x7g ++ x7a, x8, x9, x10, x11, x12]

/-- The first breach of the first broken rule. -/
def firstBreach : List (List (Bool × Tile × Nat)) → Option BondErr
  | [] => none
  | r :: rs => match lowestBreach r with | some e => some e | none => firstBreach rs

/-- A parameter range of a service tile (R341, R358, R377): all refusals carry reason 0x13. -/
def prm (o : Nat) (lo hi v : Int) : Check := ⟨o, 0x13, decide (lo ≤ v) && decide (v ≤ hi)⟩
def prb (o : Nat) (ok : Bool) : Check := ⟨o, 0x13, ok⟩

/-- The parameters of a service tile as its service checks them (Tables — Impedance scheduler, Cell health, Charge
manager, Meter statistics parameters). -/
def serviceChecks (ts : List Tile) (t : Tile) : List Check :=
  match t.inst with
  | 1 =>
    let ocv (i : Nat) : Nat := t.u16 (0x2C + 2 * i)
    let noOcv := (List.range 21).all (fun i => ocv i == 0)
    [prm 4 0 15 (t.u8 4), prm 5 0 8 (t.u8 5), prb 5 (decide (1 ≤ t.u8 5 + t.u8 6)), prm 6 0 8 (t.u8 6), prm 7 0 2 (t.u8 7),
     prm 8 3600 31536000 (t.u32 8), prm 0xC 1 100 (t.u16 0xC), prm 0xE 60 7200 (t.u16 0xE), prm 0x10 20 90 (t.u8 0x10),
     prm 0x11 2 255 (t.u8 0x11), prb 0x11 (decide (t.u8 0x12 < t.u8 0x11)), prm 0x12 1 255 (t.u8 0x12),
     prb 0x13 (t.u8 0x13 == 0), prm 0x14 3000 4600 (t.u16 0x14), prm 0x16 10 10000 (t.u16 0x16)] ++
    ((List.range 4).map (fun i => [prm (0x18 + 4 * i) 0 1000 (t.u16 (0x18 + 4 * i)),
      prm (0x1A + 4 * i) 0 10000 (t.u16 (0x1A + 4 * i)),
      prb (0x14 + 4 * i) (i == 0 || decide (t.u16 (0x14 + 4 * i) ≤ t.u16 (0x18 + 4 * i))),
      prb (0x16 + 4 * i) (i == 0 || decide (t.u16 (0x16 + 4 * i) ≤ t.u16 (0x1A + 4 * i)))])).flatten ++
    [prm 0x28 0 1000 (t.u16 0x28), prb 0x2A (t.u16 0x2A == 0)] ++
    (if noOcv then [] else ((List.range 21).map (fun i => [prm (0x2C + 2 * i) 1000 5000 (ocv i),
      prb (0x2A + 2 * i) (i == 0 || decide (ocv (i - 1) < ocv i))])).flatten) ++ [prb 0x56 (t.u16 0x56 == 0)]
  | 2 =>
    let mode := t.u8 4
    let meter := tileOf ts 0xA 0
    let cells := match tileOf ts 8 0 with | some c => c.u8 0 | none => 0
    let cb := t.u8 5
    let mortar := tileOf ts 4 0
    [prm 4 0 2 mode, prb 4 (mode == 2 || (decide (0 < cells) && meter.isSome)),
     prb 5 (if mode = 0 then isDabLeader ts cb &&
         (match meter, mortar with
          | some m, some x => bitsOf (x.u8 (0x30 + 2 * cb)) 0 5 == m.u8 5 && bitsOf (x.u8 (0x31 + 2 * cb)) 0 5 == m.u8 4
          | _, _ => false)
       else cb == 0xFF),
     prb 6 (t.u8 6 == 0xFF || decide (t.u8 6 < 24)), prb 7 (t.u8 7 == 0xFF || (decide (t.u8 7 < 24) && meter.isSome)),
     prb 8 (t.u8 8 == 0xFF || (decide (t.u8 8 < 16) && (mode != 1 ||
       (match tileOf ts 0xD 0 with | some p => p.u8 (4 * t.u8 8) == 3 | none => false)))),
     prb 9 (t.u8 9 == 0), prm 0xA 1 100 (t.u16 0xA), prb 0xC (t.u32 0xC == 0 || (decide (100 ≤ t.u32 0xC) && decide (t.u32 0xC ≤ 2000000))),
     prb 0x10 (t.u32 0x10 == 0 || (decide (1000 ≤ t.u32 0x10) && decide (t.u32 0x10 ≤ 200000))),
     prm 0x14 1 200 (t.u16 0x14), prm 0x16 1 200 (t.u16 0x16), prm 0x18 600 172800 (t.u32 0x18),
     prm 0x1C 100 10000000 (t.u32 0x1C), prm 0x20 10 500 (t.u16 0x20), prb 0x22 (t.u16 0x22 == 0)]
  | 3 =>
    [prb 4 (decide (60 ≤ t.u32 4) && decide (t.u32 4 ≤ 86400) && 86400 % t.u32 4 == 0), prm 0xC 1 1000 (t.u16 0xC),
     prb 0xE (decide (t.u8 0xE < 4) || t.u8 0xE == 0xFF), prb 0xF (t.u8 0xF == 0), prm 0x10 10 1000 (t.u16 0x10),
     prm 0x12 100 10000 (t.u16 0x12)]
  | _ => [prm 4 (-400) 1000 (t.s16 4), prm 6 10 200 (t.u16 6)]

/-- The LENGTH of each service's tile. -/
def serviceLen (n : Nat) : Nat := match n with | 1 => 88 | 2 => 36 | 3 => 20 | _ => 8

/-- V9 of one service tile (reasons 0x12, 0x13). -/
def serviceErr (ts : List Tile) (t : Tile) : Option BondErr :=
  if t.u16 0 != 1 then some ⟨0x12, t.index, t.at 0⟩
  else if t.payload.length != serviceLen t.inst then some ⟨0x13, t.index, t.off + 4⟩
  else match lowestFail (serviceChecks ts t) with
    | some c => some ⟨c.reason, t.index, t.at c.off⟩
    | none => none

/-- The first error a function finds along a list. -/
def firstOf {α : Type} (f : α → Option BondErr) : List α → Option BondErr
  | [] => none
  | a :: r => match f a with | some e => some e | none => firstOf f r

/-- V1 to V9 over the bytes of a bond (R146): the tiles of an accepted bond, or the recorded error. `length` is the
number of bytes received or the seal's LENGTH, `signed` is BOND_SIGNED, `keyHash` CUST_KEY_HASH or GM_KEY_HASH. -/
def validate (b : List Byte) (length : Nat) (signed : Bool) (keyHash : List Byte) : Except BondErr (List Tile) :=
  match v1 b with
  | some e => .error e
  | none =>
    let total := u32 b 0x1C
    if length != total then .error ⟨0x04, 0, 0x1C⟩ else
    match walkTiles b total 4096 84 1 [⟨1, 0, 0, 0, slice b 16 64⟩] with
    | .error e => .error e
    | .ok ts =>
      let last := ts.getLastD ⟨1, 0, 0, 0, []⟩
      if ts.length != u16 b 0x18 then .error ⟨0x07, last.index, last.off⟩ else
      match v4 ts.length [] ts with
      | some e => .error e
      | none =>
        let wm := tileOf ts 0xF 0
        let endOf := match wm with | some w => w.off | none => total
        if sha256 (slice b 84 (endOf - 84)) != slice b 0x20 32 then .error ⟨0x0A, 0, 0x20⟩ else
        let wmErr : Option BondErr := match wm with
          | some w =>
            if sha256 (w.payload.take 64) != keyHash then some ⟨0x0C, w.index, w.at 0⟩
            else if !ecdsaP256 (w.payload.take 64) (sha256 (b.take w.off)) (w.payload.drop 64) then
              some ⟨0x0D, w.index, w.at 64⟩
            else none
          | none => if signed then some ⟨0x0B, 0, 0x00⟩ else none
        match wmErr with
        | some e => .error e
        | none =>
          match firstOf tileFieldErr ts with
          | some e => .error e
          | none =>
            match firstBreach (crossRules ts) with
            | some e => .error e
            | none =>
              match firstOf (serviceErr ts) ((List.range 5).filterMap (fun n => tileOf ts 0xE n)) with
              | some e => .error e
              | none => .ok ts

end Sys2Proof.Machine
end

