-- ==== Sys2Proof/Machine/RegFile.lean ====
section
/-! DEFINITION. The register file: field types and restoring levels of a register (R6, R7), and a sparse list of the
words that differ from their reset value. -/
namespace Sys2Proof.Machine

/-- A field of one register: its address, its lowest bit and its width. -/
structure Fld where
  reg : Nat
  lo : Nat
  width : Nat
deriving DecidableEq, Repr

/-- Table — Field types (R6). RSV bits carry no field. -/
inductive Kind where
  | ro | rw | rw1c | rws | wo
deriving DecidableEq, Repr

/-- One row of a register's field table: place, type, reset value, restoring level (0 BKP, 1 POR, 2 to 5 for L0 to L3,
R7) and the ranges of legal encodings (empty: every encoding is legal). -/
structure FieldSpec where
  lo : Nat
  width : Nat
  kind : Kind
  reset : Nat
  level : Nat
  legal : List (Nat × Nat)
deriving DecidableEq, Repr

/-- A register or an array of registers: base address, outer stride and count, inner stride and count, fields. -/
structure RegDef where
  base : Nat
  stride : Nat
  count : Nat
  stride2 : Nat
  count2 : Nat
  fields : List FieldSpec
deriving DecidableEq, Repr

/-- Whether address `a` is one of the definition's registers. -/
def RegDef.covers (d : RegDef) (a : Nat) : Bool :=
  decide (d.base ≤ a) && decide ((a - d.base) / d.stride < d.count) &&
    decide ((a - d.base) % d.stride % d.stride2 = 0) && decide ((a - d.base) % d.stride / d.stride2 < d.count2)

/-- A mask of `width` ones from bit `lo`. -/
def maskAt (lo width : Nat) : Word := BitVec.ofNat 32 ((2 ^ width - 1) <<< lo)

/-- The mask of a field. -/
def FieldSpec.mask (f : FieldSpec) : Word := maskAt f.lo f.width

/-- The union of the masks of the fields that satisfy `p`. -/
def maskOf (p : FieldSpec → Bool) (fs : List FieldSpec) : Word :=
  fs.foldl (fun m f => if p f then m ||| f.mask else m) 0#32

/-- The word in which every field holds its reset value. -/
def resetOf (fs : List FieldSpec) : Word :=
  fs.foldl (fun m f => m ||| BitVec.ofNat 32 ((f.reset % 2 ^ f.width) <<< f.lo)) 0#32

/-- Whether value `v` is a legal encoding of the field. -/
def FieldSpec.accepts (f : FieldSpec) (v : Nat) : Bool :=
  f.legal.isEmpty || f.legal.any (fun r => decide (r.1 ≤ v) && decide (v ≤ r.2))

/-- The lowest bit of the first (lowest) field of the table whose encoding in `w` is reserved, for the fields a write
can set (R9). -/
def reservedBit (fs : List FieldSpec) (w : Word) : Option Nat :=
  fs.foldl (fun acc f =>
    if (f.kind == .rw || f.kind == .wo) && !f.accepts (bitsOf w.toNat f.lo f.width) then
      match acc with
      | some b => some (min b f.lo)
      | none => some f.lo
    else acc) none

/-- The word a register holds after an accepted write of `w` over `old` (R6): RW fields take the written bits, a 1
clears a RW1C bit, a 1 sets a RWS bit; RO, WO and RSV bits keep what the register holds. -/
def writtenWord (fs : List FieldSpec) (old w : Word) : Word :=
  let rw := maskOf (fun f => f.kind == .rw) fs
  let c := maskOf (fun f => f.kind == .rw1c) fs
  let st := maskOf (fun f => f.kind == .rws) fs
  ((old &&& ~~~rw) ||| (w &&& rw)) &&& ~~~(w &&& c) ||| (w &&& st)

/-- The fields a reset of level `lvl` (1 POR, 2 L0, 3 L1, 4 L2, 5 L3) restores (R7). -/
def restoredAt (lvl : Nat) (f : FieldSpec) : Bool := decide (lvl ≤ f.level)

/-- Put `v` into `lo … lo + width − 1` of `w`. -/
def putBits (w : Word) (lo width v : Nat) : Word :=
  (w &&& ~~~(maskAt lo width)) ||| BitVec.ofNat 32 ((v % 2 ^ width) <<< lo)

/-- Insert `(a, v)` in rising order of addresses. -/
def insertReg (a : Nat) (v : Word) : List (Nat × Word) → List (Nat × Word)
  | [] => [(a, v)]
  | p :: r => if a < p.1 then (a, v) :: p :: r else p :: insertReg a v r

/-- Look `a` up. -/
def findReg (a : Nat) : List (Nat × Word) → Option Word
  | [] => none
  | p :: r => if p.1 = a then some p.2 else findReg a r

/-- Remove every entry at `a`. -/
def dropReg (a : Nat) : List (Nat × Word) → List (Nat × Word)
  | [] => []
  | p :: r => if p.1 = a then dropReg a r else p :: dropReg a r

end Sys2Proof.Machine
end

