-- ==== Sys2Proof/Machine/RegMap.lean ====
section
/-! DEFINITION. The register map: the address of every register the spec describes (one definition a register, under the
manual's name, an index in place of the manual's letter, counted modulo the size of the array), every field of it, and the field table `regDefs` from which
reset values, restoring levels, field types and reserved encodings are read (R6, R7, R9). Written from the register
tables of the spec's chapters. -/
namespace Sys2Proof.Machine

/-- GLB_PART_ID, part identification (R447). -/
def GLB_PART_ID : Nat := 0x0
def GLB_PART_ID_PART : Fld := ⟨GLB_PART_ID, 16, 16⟩
def GLB_PART_ID_REV_LETTER : Fld := ⟨GLB_PART_ID, 8, 8⟩
def GLB_PART_ID_REV_NUM : Fld := ⟨GLB_PART_ID, 0, 8⟩
/-- GLB_SERIAL_LO, serial number low word (R447). -/
def GLB_SERIAL_LO : Nat := 0x4
def GLB_SERIAL_LO_SERIAL : Fld := ⟨GLB_SERIAL_LO, 0, 32⟩
/-- GLB_SERIAL_HI, serial number high word (R447). -/
def GLB_SERIAL_HI : Nat := 0x8
def GLB_SERIAL_HI_SERIAL : Fld := ⟨GLB_SERIAL_HI, 0, 32⟩
/-- GLB_STAT, global status (R447). -/
def GLB_STAT : Nat := 0xC
def GLB_STAT_CFG_ERR : Fld := ⟨GLB_STAT, 31, 1⟩
def GLB_STAT_BUS_ERR : Fld := ⟨GLB_STAT, 30, 1⟩
def GLB_STAT_PWR_REF_EV : Fld := ⟨GLB_STAT, 29, 1⟩
def GLB_STAT_PSTATE : Fld := ⟨GLB_STAT, 0, 3⟩
/-- GLB_BUS_ERR_INFO, bus error record (R447). -/
def GLB_BUS_ERR_INFO : Nat := 0x10
def GLB_BUS_ERR_INFO_PATH : Fld := ⟨GLB_BUS_ERR_INFO, 30, 2⟩
def GLB_BUS_ERR_INFO_KIND : Fld := ⟨GLB_BUS_ERR_INFO, 27, 3⟩
/-- GLB_BUS_ERR_ADDR, bus error address (R447). -/
def GLB_BUS_ERR_ADDR : Nat := 0x14
def GLB_BUS_ERR_ADDR_ADDR : Fld := ⟨GLB_BUS_ERR_ADDR, 0, 32⟩
/-- GLB_SCRATCH, scratch word (R447). -/
def GLB_SCRATCH : Nat := 0x18
def GLB_SCRATCH_DATA : Fld := ⟨GLB_SCRATCH, 0, 32⟩
/-- GLB_SUMMARY, fault summary (R447). -/
def GLB_SUMMARY : Nat := 0x1C
def GLB_SUMMARY_LAST_CODE : Fld := ⟨GLB_SUMMARY, 16, 16⟩
def GLB_SUMMARY_BLOCK : Fld := ⟨GLB_SUMMARY, 1, 14⟩
/-- GLB_PWR_CTRL, power control (R447). -/
def GLB_PWR_CTRL : Nat := 0x20
def GLB_PWR_CTRL_KEY : Fld := ⟨GLB_PWR_CTRL, 24, 8⟩
def GLB_PWR_CTRL_STANDBY : Fld := ⟨GLB_PWR_CTRL, 0, 1⟩
/-- GLB_WAKE_MASK, Standby latches (R447). -/
def GLB_WAKE_MASK : Nat := 0x24
def GLB_WAKE_MASK_LNK : Fld := ⟨GLB_WAKE_MASK, 9, 4⟩
def GLB_WAKE_MASK_WAKE : Fld := ⟨GLB_WAKE_MASK, 8, 1⟩
def GLB_WAKE_MASK_IRQ : Fld := ⟨GLB_WAKE_MASK, 0, 8⟩
/-- RPC_RST_CAUSE, reset cause (R139). -/
def RPC_RST_CAUSE : Nat := 0x10000
def RPC_RST_CAUSE_CAUSE : Fld := ⟨RPC_RST_CAUSE, 0, 9⟩
/-- RPC_RST_STAT, reset status (R139). -/
def RPC_RST_STAT : Nat := 0x10004
def RPC_RST_STAT_PRE_RST_FAULT : Fld := ⟨RPC_RST_STAT, 16, 16⟩
def RPC_RST_STAT_LAST_SRC : Fld := ⟨RPC_RST_STAT, 8, 4⟩
def RPC_RST_STAT_LAST_LEVEL : Fld := ⟨RPC_RST_STAT, 6, 2⟩
def RPC_RST_STAT_PHASE : Fld := ⟨RPC_RST_STAT, 3, 3⟩
def RPC_RST_STAT_STAT : Fld := ⟨RPC_RST_STAT, 0, 3⟩
/-- RPC_SWRST, software reset (R139). -/
def RPC_SWRST : Nat := 0x10008
def RPC_SWRST_KEY : Fld := ⟨RPC_SWRST, 16, 16⟩
/-- RPC_IMG_STAT, image status (R139). -/
def RPC_IMG_STAT : Nat := 0x1000C
def RPC_IMG_STAT_BOOT_FAULT : Fld := ⟨RPC_IMG_STAT, 16, 16⟩
def RPC_IMG_STAT_RECOVERY_SRC : Fld := ⟨RPC_IMG_STAT, 14, 2⟩
def RPC_IMG_STAT_COSIGNED : Fld := ⟨RPC_IMG_STAT, 13, 1⟩
def RPC_IMG_STAT_FAIL_BLOCK : Fld := ⟨RPC_IMG_STAT, 0, 9⟩
/-- RPC_IMG_VER, running image version (R139). -/
def RPC_IMG_VER : Nat := 0x10010
def RPC_IMG_VER_VERSION : Fld := ⟨RPC_IMG_VER, 0, 32⟩
/-- RPC_UPD_CTRL, update control (R139). -/
def RPC_UPD_CTRL : Nat := 0x10014
def RPC_UPD_CTRL_CMD : Fld := ⟨RPC_UPD_CTRL, 12, 2⟩
def RPC_UPD_CTRL_BLOCKS : Fld := ⟨RPC_UPD_CTRL, 0, 10⟩
/-- RPC_UPD_DATA, update data (R139). -/
def RPC_UPD_DATA : Nat := 0x10018
def RPC_UPD_DATA_DATA : Fld := ⟨RPC_UPD_DATA, 0, 32⟩
/-- RPC_UPD_STAT, update status (R139). -/
def RPC_UPD_STAT : Nat := 0x1001C
def RPC_UPD_STAT_STATE : Fld := ⟨RPC_UPD_STAT, 30, 2⟩
def RPC_UPD_STAT_RESULT : Fld := ⟨RPC_UPD_STAT, 26, 4⟩
def RPC_UPD_STAT_BLOCK_NEXT : Fld := ⟨RPC_UPD_STAT, 16, 10⟩
def RPC_UPD_STAT_SPACE : Fld := ⟨RPC_UPD_STAT, 0, 11⟩
/-- RPC_CFG_ERR_INFO, configuration error record (R139). -/
def RPC_CFG_ERR_INFO : Nat := 0x10020
def RPC_CFG_ERR_INFO_CFG_ERR : Fld := ⟨RPC_CFG_ERR_INFO, 31, 1⟩
def RPC_CFG_ERR_INFO_REG_OFFSET : Fld := ⟨RPC_CFG_ERR_INFO, 16, 12⟩
def RPC_CFG_ERR_INFO_FIELD_BIT : Fld := ⟨RPC_CFG_ERR_INFO, 0, 5⟩
/-- OTP_CTRL, OTP command (R139). -/
def OTP_CTRL : Nat := 0x20000
def OTP_CTRL_KEY : Fld := ⟨OTP_CTRL, 24, 8⟩
def OTP_CTRL_CMD : Fld := ⟨OTP_CTRL, 16, 2⟩
def OTP_CTRL_ROW : Fld := ⟨OTP_CTRL, 0, 9⟩
/-- OTP_WDATA, program data (R139). -/
def OTP_WDATA : Nat := 0x20004
def OTP_WDATA_WDATA : Fld := ⟨OTP_WDATA, 0, 32⟩
/-- OTP_RDATA, read data (R139). -/
def OTP_RDATA : Nat := 0x20008
def OTP_RDATA_RDATA : Fld := ⟨OTP_RDATA, 0, 32⟩
/-- OTP_STAT, OTP status (R139). -/
def OTP_STAT : Nat := 0x2000C
def OTP_STAT_CFG_ERR : Fld := ⟨OTP_STAT, 31, 1⟩
def OTP_STAT_BUSY : Fld := ⟨OTP_STAT, 16, 1⟩
def OTP_STAT_RESULT : Fld := ⟨OTP_STAT, 12, 4⟩
def OTP_STAT_VPP_EXT : Fld := ⟨OTP_STAT, 8, 1⟩
def OTP_STAT_CORR_CNT : Fld := ⟨OTP_STAT, 0, 8⟩
/-- OTP_LOCK, region locks (R139). -/
def OTP_LOCK : Nat := 0x20010
def OTP_LOCK_CUST_R : Fld := ⟨OTP_LOCK, 7, 1⟩
def OTP_LOCK_CUST_W : Fld := ⟨OTP_LOCK, 6, 1⟩
def OTP_LOCK_KEYS_R : Fld := ⟨OTP_LOCK, 5, 1⟩
def OTP_LOCK_KEYS_W : Fld := ⟨OTP_LOCK, 4, 1⟩
def OTP_LOCK_OPT_R : Fld := ⟨OTP_LOCK, 3, 1⟩
def OTP_LOCK_OPT_W : Fld := ⟨OTP_LOCK, 2, 1⟩
def OTP_LOCK_FAC_R : Fld := ⟨OTP_LOCK, 1, 1⟩
def OTP_LOCK_FAC_W : Fld := ⟨OTP_LOCK, 0, 1⟩
/-- OTP_CFG_ERR_INFO, configuration error record (R139). -/
def OTP_CFG_ERR_INFO : Nat := 0x20014
def OTP_CFG_ERR_INFO_REG_OFFSET : Fld := ⟨OTP_CFG_ERR_INFO, 16, 12⟩
def OTP_CFG_ERR_INFO_FIELD_BIT : Fld := ⟨OTP_CFG_ERR_INFO, 0, 5⟩
/-- STM_CTRL, time control (R80). -/
def STM_CTRL : Nat := 0x30000
def STM_CTRL_SLEW_MAX : Fld := ⟨STM_CTRL, 8, 4⟩
def STM_CTRL_STEP_EN : Fld := ⟨STM_CTRL, 1, 1⟩
def STM_CTRL_SET_GO : Fld := ⟨STM_CTRL, 0, 1⟩
/-- STM_STAT, time status (R80). -/
def STM_STAT : Nat := 0x30004
def STM_STAT_CFG_ERR : Fld := ⟨STM_STAT, 31, 1⟩
def STM_STAT_TBAND : Fld := ⟨STM_STAT, 17, 3⟩
def STM_STAT_REF_SRC : Fld := ⟨STM_STAT, 16, 1⟩
def STM_STAT_REF_PORT : Fld := ⟨STM_STAT, 15, 1⟩
def STM_STAT_TSTATE : Fld := ⟨STM_STAT, 12, 2⟩
def STM_STAT_TIME_STEPPED : Fld := ⟨STM_STAT, 11, 1⟩
def STM_STAT_RTC_UNTRUSTED : Fld := ⟨STM_STAT, 10, 1⟩
def STM_STAT_PLL_LOCKED : Fld := ⟨STM_STAT, 8, 1⟩
def STM_STAT_UNLOCK_EV : Fld := ⟨STM_STAT, 7, 1⟩
def STM_STAT_REF_LOST : Fld := ⟨STM_STAT, 6, 1⟩
def STM_STAT_REF_LOST_EV : Fld := ⟨STM_STAT, 5, 1⟩
/-- STM_INC, SYSTIME increment (R80). -/
def STM_INC : Nat := 0x30008
def STM_INC_INC : Fld := ⟨STM_INC, 0, 32⟩
/-- STM_OFFSET, last offset (R80). -/
def STM_OFFSET : Nat := 0x3000C
def STM_OFFSET_OFFSET : Fld := ⟨STM_OFFSET, 0, 32⟩
/-- STM_TIME_LO, SYSTIME low word (R80). -/
def STM_TIME_LO : Nat := 0x30010
def STM_TIME_LO_TIME_LO : Fld := ⟨STM_TIME_LO, 0, 32⟩
/-- STM_TIME_HI, SYSTIME high word (R80). -/
def STM_TIME_HI : Nat := 0x30014
def STM_TIME_HI_TIME_HI : Fld := ⟨STM_TIME_HI, 0, 32⟩
/-- STM_SET_LO, staged time low word (R81). -/
def STM_SET_LO : Nat := 0x30018
def STM_SET_LO_SET_LO : Fld := ⟨STM_SET_LO, 0, 32⟩
/-- STM_SET_HI, staged time high word (R81). -/
def STM_SET_HI : Nat := 0x3001C
def STM_SET_HI_SET_HI : Fld := ⟨STM_SET_HI, 0, 32⟩
/-- STM_CFG_ERR_INFO, configuration error record (R81). -/
def STM_CFG_ERR_INFO : Nat := 0x30020
def STM_CFG_ERR_INFO_REG_OFFSET : Fld := ⟨STM_CFG_ERR_INFO, 16, 12⟩
def STM_CFG_ERR_INFO_FIELD_BIT : Fld := ⟨STM_CFG_ERR_INFO, 0, 5⟩
/-- RTC_SEC_LO, binary seconds low word (R105). -/
def RTC_SEC_LO : Nat := 0x40000
def RTC_SEC_LO_SEC_LO : Fld := ⟨RTC_SEC_LO, 0, 32⟩
/-- RTC_SEC_HI, binary seconds high word and fraction (R105). -/
def RTC_SEC_HI : Nat := 0x40004
def RTC_SEC_HI_SEC_HI : Fld := ⟨RTC_SEC_HI, 16, 4⟩
def RTC_SEC_HI_FRAC : Fld := ⟨RTC_SEC_HI, 0, 15⟩
/-- RTC_TIME, calendar time (R105). -/
def RTC_TIME : Nat := 0x40008
def RTC_TIME_HOURS : Fld := ⟨RTC_TIME, 16, 7⟩
def RTC_TIME_MINUTES : Fld := ⟨RTC_TIME, 8, 7⟩
def RTC_TIME_SECONDS : Fld := ⟨RTC_TIME, 0, 7⟩
/-- RTC_DATE, calendar date (R105). -/
def RTC_DATE : Nat := 0x4000C
def RTC_DATE_YEAR : Fld := ⟨RTC_DATE, 16, 16⟩
def RTC_DATE_DOW : Fld := ⟨RTC_DATE, 13, 3⟩
def RTC_DATE_MONTH : Fld := ⟨RTC_DATE, 8, 5⟩
def RTC_DATE_DAY : Fld := ⟨RTC_DATE, 0, 6⟩
/-- RTC_STAT, backup status (R105). -/
def RTC_STAT : Nat := 0x40010
def RTC_STAT_CFG_ERR : Fld := ⟨RTC_STAT, 31, 1⟩
def RTC_STAT_VBAK_OK : Fld := ⟨RTC_STAT, 11, 1⟩
def RTC_STAT_COMMIT_PEND : Fld := ⟨RTC_STAT, 10, 1⟩
def RTC_STAT_CAL_OVR : Fld := ⟨RTC_STAT, 9, 1⟩
def RTC_STAT_RTC_WERR : Fld := ⟨RTC_STAT, 8, 1⟩
def RTC_STAT_WERR_FIELD : Fld := ⟨RTC_STAT, 5, 3⟩
def RTC_STAT_ALM_EV : Fld := ⟨RTC_STAT, 4, 1⟩
def RTC_STAT_RTC_STALE : Fld := ⟨RTC_STAT, 3, 1⟩
def RTC_STAT_LBV : Fld := ⟨RTC_STAT, 2, 1⟩
def RTC_STAT_OSF : Fld := ⟨RTC_STAT, 1, 1⟩
/-- RTC_CTRL, RTC control (R105). -/
def RTC_CTRL : Nat := 0x40014
def RTC_CTRL_ALM_EN : Fld := ⟨RTC_CTRL, 3, 1⟩
def RTC_CTRL_COMMIT : Fld := ⟨RTC_CTRL, 0, 2⟩
/-- RTC_SET_SEC_LO, staged seconds low word (R105). -/
def RTC_SET_SEC_LO : Nat := 0x40018
def RTC_SET_SEC_LO_SET_SEC_LO : Fld := ⟨RTC_SET_SEC_LO, 0, 32⟩
/-- RTC_SET_SEC_HI, staged seconds high word and fraction (R105). -/
def RTC_SET_SEC_HI : Nat := 0x4001C
def RTC_SET_SEC_HI_SET_SEC_HI : Fld := ⟨RTC_SET_SEC_HI, 16, 4⟩
def RTC_SET_SEC_HI_SET_FRAC : Fld := ⟨RTC_SET_SEC_HI, 0, 15⟩
/-- RTC_SET_TIME, staged calendar time (R105). -/
def RTC_SET_TIME : Nat := 0x40020
def RTC_SET_TIME_HOURS : Fld := ⟨RTC_SET_TIME, 16, 7⟩
def RTC_SET_TIME_MINUTES : Fld := ⟨RTC_SET_TIME, 8, 7⟩
def RTC_SET_TIME_SECONDS : Fld := ⟨RTC_SET_TIME, 0, 7⟩
/-- RTC_SET_DATE, staged calendar date (R105). -/
def RTC_SET_DATE : Nat := 0x40024
def RTC_SET_DATE_YEAR : Fld := ⟨RTC_SET_DATE, 16, 16⟩
def RTC_SET_DATE_DOW : Fld := ⟨RTC_SET_DATE, 13, 3⟩
def RTC_SET_DATE_MONTH : Fld := ⟨RTC_SET_DATE, 8, 5⟩
def RTC_SET_DATE_DAY : Fld := ⟨RTC_SET_DATE, 0, 6⟩
/-- RTC_ALM_LO, alarm seconds low word (R105). -/
def RTC_ALM_LO : Nat := 0x40028
def RTC_ALM_LO_ALM_LO : Fld := ⟨RTC_ALM_LO, 0, 32⟩
/-- RTC_ALM_HI, alarm seconds high word (R105). -/
def RTC_ALM_HI : Nat := 0x4002C
def RTC_ALM_HI_ALM_HI : Fld := ⟨RTC_ALM_HI, 0, 4⟩
/-- RTC_TRIM, rate trim (R105). -/
def RTC_TRIM : Nat := 0x40030
def RTC_TRIM_CAL : Fld := ⟨RTC_TRIM, 0, 9⟩
/-- EVT_CFG, event input configuration (R105). -/
def EVT_CFG : Nat := 0x40034
def EVT_CFG_FILT (i : Nat) : Fld := ⟨EVT_CFG, 8 * i + 2, 4⟩
def EVT_CFG_EDGE (i : Nat) : Fld := ⟨EVT_CFG, 8 * i + 0, 2⟩
/-- EVT_HEAD_LO, oldest event entry low word (R105). -/
def EVT_HEAD_LO : Nat := 0x40038
def EVT_HEAD_LO_EV_SEC_LO : Fld := ⟨EVT_HEAD_LO, 0, 32⟩
/-- EVT_HEAD_HI, oldest event entry high word (R105). -/
def EVT_HEAD_HI : Nat := 0x4003C
def EVT_HEAD_HI_VALID : Fld := ⟨EVT_HEAD_HI, 31, 1⟩
def EVT_HEAD_HI_LEVEL : Fld := ⟨EVT_HEAD_HI, 30, 1⟩
def EVT_HEAD_HI_INPUT : Fld := ⟨EVT_HEAD_HI, 28, 2⟩
def EVT_HEAD_HI_EV_SEC_HI : Fld := ⟨EVT_HEAD_HI, 24, 4⟩
def EVT_HEAD_HI_JOURNALED : Fld := ⟨EVT_HEAD_HI, 23, 1⟩
def EVT_HEAD_HI_EV_FRAC : Fld := ⟨EVT_HEAD_HI, 0, 15⟩
/-- EVT_STAT, event FIFO status and control (R105). -/
def EVT_STAT : Nat := 0x40040
def EVT_STAT_POP : Fld := ⟨EVT_STAT, 17, 1⟩
def EVT_STAT_OVF_CLR : Fld := ⟨EVT_STAT, 16, 1⟩
def EVT_STAT_OVF_CNT : Fld := ⟨EVT_STAT, 8, 8⟩
def EVT_STAT_COUNT : Fld := ⟨EVT_STAT, 0, 5⟩
/-- BKD_CFG_ERR_INFO, configuration error record (R105). -/
def BKD_CFG_ERR_INFO : Nat := 0x40048
def BKD_CFG_ERR_INFO_REG_OFFSET : Fld := ⟨BKD_CFG_ERR_INFO, 16, 12⟩
def BKD_CFG_ERR_INFO_FIELD_BIT : Fld := ⟨BKD_CFG_ERR_INFO, 0, 5⟩
/-- BND_CTRL, bond control (R155). -/
def BND_CTRL : Nat := 0x50000
def BND_CTRL_KEY : Fld := ⟨BND_CTRL, 24, 8⟩
def BND_CTRL_STORE : Fld := ⟨BND_CTRL, 10, 1⟩
def BND_CTRL_SRC : Fld := ⟨BND_CTRL, 8, 2⟩
def BND_CTRL_CMD : Fld := ⟨BND_CTRL, 0, 3⟩
/-- BND_DATA, bond data (R155). -/
def BND_DATA : Nat := 0x50004
def BND_DATA_DATA : Fld := ⟨BND_DATA, 0, 32⟩
/-- BND_STAT, bond status (R155). -/
def BND_STAT : Nat := 0x50008
def BND_STAT_CFG_ERR : Fld := ⟨BND_STAT, 31, 1⟩
def BND_STAT_STATE : Fld := ⟨BND_STAT, 28, 3⟩
def BND_STAT_RESULT : Fld := ⟨BND_STAT, 25, 3⟩
def BND_STAT_OWNER : Fld := ⟨BND_STAT, 23, 2⟩
def BND_STAT_STAGED : Fld := ⟨BND_STAT, 22, 1⟩
def BND_STAT_STORED : Fld := ⟨BND_STAT, 21, 1⟩
def BND_STAT_SLOT : Fld := ⟨BND_STAT, 20, 1⟩
def BND_STAT_RECEIVED : Fld := ⟨BND_STAT, 0, 17⟩
/-- BND_ID, bond in force (R155). -/
def BND_ID : Nat := 0x5000C
def BND_ID_BOND_ID : Fld := ⟨BND_ID, 0, 32⟩
/-- BND_GEN, slot generation (R155). -/
def BND_GEN : Nat := 0x50010
def BND_GEN_GEN : Fld := ⟨BND_GEN, 0, 32⟩
/-- BND_ERR, last bond error (R155). -/
def BND_ERR : Nat := 0x50014
def BND_ERR_REASON : Fld := ⟨BND_ERR, 24, 8⟩
def BND_ERR_TILE : Fld := ⟨BND_ERR, 0, 9⟩
/-- BND_ERR_BYTE, offending byte (R155). -/
def BND_ERR_BYTE : Nat := 0x50018
def BND_ERR_BYTE_BYTE : Fld := ⟨BND_ERR_BYTE, 0, 17⟩
/-- BND_EFF_LO, effect time low word (R155). -/
def BND_EFF_LO : Nat := 0x5001C
def BND_EFF_LO_EFF : Fld := ⟨BND_EFF_LO, 0, 32⟩
/-- BND_EFF_HI, effect time high word (R155). -/
def BND_EFF_HI : Nat := 0x50020
def BND_EFF_HI_EFF : Fld := ⟨BND_EFF_HI, 0, 32⟩
/-- BND_CFG_ERR_INFO, configuration error record (R155). -/
def BND_CFG_ERR_INFO : Nat := 0x50024
def BND_CFG_ERR_INFO_REG_OFFSET : Fld := ⟨BND_CFG_ERR_INFO, 16, 12⟩
def BND_CFG_ERR_INFO_FIELD_BIT : Fld := ⟨BND_CFG_ERR_INFO, 0, 5⟩
/-- BND_GROUTE, gate routes in force (R155). -/
def BND_GROUTE (n : Nat) : Nat := 0x50100 + 0x4 * (n % 8)
def BND_GROUTE_ROUTE (n i : Nat) : Fld := ⟨(BND_GROUTE n), 8 * i + 0, 8⟩
/-- BRK_CFG, brick configuration (R187). -/
def BRK_CFG (n : Nat) : Nat := 0x100000 + 0x1000 * (n % 16)
def BRK_CFG_ROLE (n : Nat) : Fld := ⟨(BRK_CFG n), 28, 2⟩
def BRK_CFG_LEADER (n : Nat) : Fld := ⟨(BRK_CFG n), 24, 4⟩
def BRK_CFG_PHASE_IDX (n : Nat) : Fld := ⟨(BRK_CFG n), 20, 4⟩
def BRK_CFG_UPDATES (n : Nat) : Fld := ⟨(BRK_CFG n), 16, 2⟩
def BRK_CFG_KIND (n : Nat) : Fld := ⟨(BRK_CFG n), 8, 8⟩
def BRK_CFG_VCP_GROUP (n : Nat) : Fld := ⟨(BRK_CFG n), 0, 8⟩
/-- BRK_STAT, brick status (R187). -/
def BRK_STAT (n : Nat) : Nat := 0x100004 + 0x1000 * (n % 16)
def BRK_STAT_CFG_ERR (n : Nat) : Fld := ⟨(BRK_STAT n), 31, 1⟩
def BRK_STAT_STATE (n : Nat) : Fld := ⟨(BRK_STAT n), 24, 3⟩
def BRK_STAT_ILK_EV (n : Nat) : Fld := ⟨(BRK_STAT n), 10, 1⟩
def BRK_STAT_STALE_EV (n : Nat) : Fld := ⟨(BRK_STAT n), 9, 1⟩
def BRK_STAT_DROP_EV (n : Nat) : Fld := ⟨(BRK_STAT n), 8, 1⟩
def BRK_STAT_SETTLED (n : Nat) : Fld := ⟨(BRK_STAT n), 7, 1⟩
def BRK_STAT_SETTLE_FAIL (n : Nat) : Fld := ⟨(BRK_STAT n), 6, 1⟩
def BRK_STAT_SAT_HI (n : Nat) : Fld := ⟨(BRK_STAT n), 5, 1⟩
def BRK_STAT_SAT_LO (n : Nat) : Fld := ⟨(BRK_STAT n), 4, 1⟩
def BRK_STAT_FROZEN (n : Nat) : Fld := ⟨(BRK_STAT n), 3, 1⟩
def BRK_STAT_BOOST (n : Nat) : Fld := ⟨(BRK_STAT n), 2, 1⟩
def BRK_STAT_STAGED (n : Nat) : Fld := ⟨(BRK_STAT n), 1, 1⟩
def BRK_STAT_LOOP (n : Nat) : Fld := ⟨(BRK_STAT n), 0, 1⟩
/-- BRK_PERIOD, period in force (R187). -/
def BRK_PERIOD (n : Nat) : Nat := 0x100008 + 0x1000 * (n % 16)
def BRK_PERIOD_PERIOD (n : Nat) : Fld := ⟨(BRK_PERIOD n), 0, 24⟩
/-- BRK_DT_RISE, dead time before H rises (R187). -/
def BRK_DT_RISE (n : Nat) : Nat := 0x10000C + 0x1000 * (n % 16)
def BRK_DT_RISE_VALUE (n : Nat) : Fld := ⟨(BRK_DT_RISE n), 0, 24⟩
/-- BRK_DT_FALL, dead time before L rises (R187). -/
def BRK_DT_FALL (n : Nat) : Nat := 0x100010 + 0x1000 * (n % 16)
def BRK_DT_FALL_VALUE (n : Nat) : Fld := ⟨(BRK_DT_FALL n), 0, 24⟩
/-- BRK_PHASE_OFS, phase offset (R187). -/
def BRK_PHASE_OFS (n : Nat) : Nat := 0x100014 + 0x1000 * (n % 16)
def BRK_PHASE_OFS_VALUE (n : Nat) : Fld := ⟨(BRK_PHASE_OFS n), 0, 24⟩
/-- BRK_TARGET, target and regulated loop (R187). -/
def BRK_TARGET (n : Nat) : Nat := 0x100018 + 0x1000 * (n % 16)
def BRK_TARGET_LOOP (n : Nat) : Fld := ⟨(BRK_TARGET n), 16, 1⟩
def BRK_TARGET_TARGET (n : Nat) : Fld := ⟨(BRK_TARGET n), 0, 16⟩
/-- BRK_SLEW, slew rate (R187). -/
def BRK_SLEW (n : Nat) : Nat := 0x10001C + 0x1000 * (n % 16)
def BRK_SLEW_SLEW (n : Nat) : Fld := ⟨(BRK_SLEW n), 0, 24⟩
/-- BRK_REF, reference (R187). -/
def BRK_REF (n : Nat) : Nat := 0x100020 + 0x1000 * (n % 16)
def BRK_REF_REF (n : Nat) : Fld := ⟨(BRK_REF n), 0, 32⟩
/-- BRK_FB, feedback and error (R187). -/
def BRK_FB (n : Nat) : Nat := 0x100024 + 0x1000 * (n % 16)
def BRK_FB_ERR (n : Nat) : Fld := ⟨(BRK_FB n), 16, 16⟩
def BRK_FB_FB (n : Nat) : Fld := ⟨(BRK_FB n), 0, 16⟩
/-- BRK_CMD, command in force (R187). -/
def BRK_CMD (n : Nat) : Nat := 0x100028 + 0x1000 * (n % 16)
def BRK_CMD_CMD (n : Nat) : Fld := ⟨(BRK_CMD n), 0, 32⟩
/-- BRK_INNER, inner phase shift (R187). -/
def BRK_INNER (n : Nat) : Nat := 0x10002C + 0x1000 * (n % 16)
def BRK_INNER_INNER (n : Nat) : Fld := ⟨(BRK_INNER n), 0, 24⟩
/-- BRK_SETTLE, settle detector (R187). -/
def BRK_SETTLE (n : Nat) : Nat := 0x100030 + 0x1000 * (n % 16)
def BRK_SETTLE_BAND (n : Nat) : Fld := ⟨(BRK_SETTLE n), 16, 15⟩
def BRK_SETTLE_TMO (n : Nat) : Fld := ⟨(BRK_SETTLE n), 0, 16⟩
/-- BRK_CNT, event counters (R187). -/
def BRK_CNT (n : Nat) : Nat := 0x100034 + 0x1000 * (n % 16)
def BRK_CNT_DROP_CNT (n : Nat) : Fld := ⟨(BRK_CNT n), 24, 8⟩
def BRK_CNT_ILK_CNT (n : Nat) : Fld := ⟨(BRK_CNT n), 16, 8⟩
def BRK_CNT_STALE_CNT (n : Nat) : Fld := ⟨(BRK_CNT n), 0, 16⟩
/-- BRK_CTRL, brick control (R187). -/
def BRK_CTRL (n : Nat) : Nat := 0x100038 + 0x1000 * (n % 16)
def BRK_CTRL_CNT_CLR (n : Nat) : Fld := ⟨(BRK_CTRL n), 1, 1⟩
def BRK_CTRL_COEF_COMMIT (n : Nat) : Fld := ⟨(BRK_CTRL n), 0, 1⟩
/-- BRK_CFG_ERR_INFO, configuration error record (R187). -/
def BRK_CFG_ERR_INFO (n : Nat) : Nat := 0x10003C + 0x1000 * (n % 16)
def BRK_CFG_ERR_INFO_REG_OFFSET (n : Nat) : Fld := ⟨(BRK_CFG_ERR_INFO n), 16, 12⟩
def BRK_CFG_ERR_INFO_FIELD_BIT (n : Nat) : Fld := ⟨(BRK_CFG_ERR_INFO n), 0, 5⟩
/-- BRK_COMP, compensator coefficient i: B0, B1, B2, B3, A1, A2, A3, KFF, KBST (R187). -/
def BRK_COMP (n w : Nat) : Nat := 0x100100 + 0x1000 * (n % 16) + 0x4 * (w % 9)
def BRK_COMP_SIGN (n w : Nat) : Fld := ⟨(BRK_COMP n w), 24, 8⟩
def BRK_COMP_COEF (n w : Nat) : Fld := ⟨(BRK_COMP n w), 0, 24⟩
/-- BRK_COMP_BST_THR, boost threshold (R187). -/
def BRK_COMP_BST_THR (n : Nat) : Nat := 0x100124 + 0x1000 * (n % 16)
def BRK_COMP_BST_THR_BST_THR (n : Nat) : Fld := ⟨(BRK_COMP_BST_THR n), 0, 15⟩
/-- BRK_COMP_CMD_MIN, lower command limit (R187). -/
def BRK_COMP_CMD_MIN (n : Nat) : Nat := 0x100128 + 0x1000 * (n % 16)
def BRK_COMP_CMD_MIN_SIGN (n : Nat) : Fld := ⟨(BRK_COMP_CMD_MIN n), 24, 8⟩
def BRK_COMP_CMD_MIN_LIMIT (n : Nat) : Fld := ⟨(BRK_COMP_CMD_MIN n), 0, 24⟩
/-- BRK_COMP_CMD_MAX, upper command limit (R187). -/
def BRK_COMP_CMD_MAX (n : Nat) : Nat := 0x10012C + 0x1000 * (n % 16)
def BRK_COMP_CMD_MAX_SIGN (n : Nat) : Fld := ⟨(BRK_COMP_CMD_MAX n), 24, 8⟩
def BRK_COMP_CMD_MAX_LIMIT (n : Nat) : Fld := ⟨(BRK_COMP_CMD_MAX n), 0, 24⟩
/-- BRK_LANE_STAT, lane status (R215). -/
def BRK_LANE_STAT (n : Nat) : Nat := 0x100200 + 0x1000 * (n % 16)
def BRK_LANE_STAT_LANE_B (n : Nat) : Fld := ⟨(BRK_LANE_STAT n), 10, 2⟩
def BRK_LANE_STAT_LANE_A (n : Nat) : Fld := ⟨(BRK_LANE_STAT n), 8, 2⟩
def BRK_LANE_STAT_HOLD (n : Nat) : Fld := ⟨(BRK_LANE_STAT n), 3, 1⟩
def BRK_LANE_STAT_DUAL (n : Nat) : Fld := ⟨(BRK_LANE_STAT n), 2, 1⟩
def BRK_LANE_STAT_DRIVE (n : Nat) : Fld := ⟨(BRK_LANE_STAT n), 1, 1⟩
/-- BRK_LANE_EV, lane events (R215). -/
def BRK_LANE_EV (n : Nat) : Nat := 0x100204 + 0x1000 * (n % 16)
def BRK_LANE_EV_RETIRE_EV (n : Nat) : Fld := ⟨(BRK_LANE_EV n), 5, 1⟩
def BRK_LANE_EV_TRANS_EV (n : Nat) : Fld := ⟨(BRK_LANE_EV n), 4, 1⟩
def BRK_LANE_EV_STORE_EV (n : Nat) : Fld := ⟨(BRK_LANE_EV n), 3, 1⟩
def BRK_LANE_EV_UNRES_EV (n : Nat) : Fld := ⟨(BRK_LANE_EV n), 2, 1⟩
def BRK_LANE_EV_RES_EV (n : Nat) : Fld := ⟨(BRK_LANE_EV n), 1, 1⟩
def BRK_LANE_EV_CORR_EV (n : Nat) : Fld := ⟨(BRK_LANE_EV n), 0, 1⟩
/-- BRK_LANE_A_CNT, lane A counters (R215). -/
def BRK_LANE_A_CNT (n : Nat) : Nat := 0x100208 + 0x1000 * (n % 16)
def BRK_LANE_A_CNT_CORR_CNT (n : Nat) : Fld := ⟨(BRK_LANE_A_CNT n), 24, 8⟩
def BRK_LANE_A_CNT_TRANS_CNT (n : Nat) : Fld := ⟨(BRK_LANE_A_CNT n), 16, 8⟩
def BRK_LANE_A_CNT_ERR_CNT (n : Nat) : Fld := ⟨(BRK_LANE_A_CNT n), 0, 16⟩
/-- BRK_LANE_B_CNT, lane B counters (R215). -/
def BRK_LANE_B_CNT (n : Nat) : Nat := 0x10020C + 0x1000 * (n % 16)
def BRK_LANE_B_CNT_CORR_CNT (n : Nat) : Fld := ⟨(BRK_LANE_B_CNT n), 24, 8⟩
def BRK_LANE_B_CNT_TRANS_CNT (n : Nat) : Fld := ⟨(BRK_LANE_B_CNT n), 16, 8⟩
def BRK_LANE_B_CNT_ERR_CNT (n : Nat) : Fld := ⟨(BRK_LANE_B_CNT n), 0, 16⟩
/-- BRK_HOLD, hold record (R215). -/
def BRK_HOLD (n : Nat) : Nat := 0x100210 + 0x1000 * (n % 16)
def BRK_HOLD_HOLD_MAX (n : Nat) : Fld := ⟨(BRK_HOLD n), 16, 16⟩
def BRK_HOLD_HOLD_CNT (n : Nat) : Fld := ⟨(BRK_HOLD n), 0, 16⟩
/-- BRK_FAST, fast limit (R215). -/
def BRK_FAST (n : Nat) : Nat := 0x100220 + 0x1000 * (n % 16)
def BRK_FAST_BLANK (n : Nat) : Fld := ⟨(BRK_FAST n), 16, 9⟩
def BRK_FAST_THR (n : Nat) : Fld := ⟨(BRK_FAST n), 0, 10⟩
/-- BRK_SLOW, slow limit (R215). -/
def BRK_SLOW (n : Nat) : Nat := 0x100224 + 0x1000 * (n % 16)
def BRK_SLOW_WIN (n : Nat) : Fld := ⟨(BRK_SLOW n), 16, 14⟩
def BRK_SLOW_THR (n : Nat) : Fld := ⟨(BRK_SLOW n), 0, 15⟩
/-- BRK_I2T_LIMIT, I²t limit (R215). -/
def BRK_I2T_LIMIT (n : Nat) : Nat := 0x100228 + 0x1000 * (n % 16)
def BRK_I2T_LIMIT_LIMIT (n : Nat) : Fld := ⟨(BRK_I2T_LIMIT n), 0, 32⟩
/-- BRK_I2T, I²t accumulator (R215). -/
def BRK_I2T (n : Nat) : Nat := 0x10022C + 0x1000 * (n % 16)
def BRK_I2T_Q (n : Nat) : Fld := ⟨(BRK_I2T n), 0, 32⟩
/-- BRK_LIM_AVG, limit averages (R215). -/
def BRK_LIM_AVG (n : Nat) : Nat := 0x100230 + 0x1000 * (n % 16)
def BRK_LIM_AVG_SLEW_TGT (n : Nat) : Fld := ⟨(BRK_LIM_AVG n), 16, 16⟩
def BRK_LIM_AVG_AVG (n : Nat) : Fld := ⟨(BRK_LIM_AVG n), 0, 16⟩
/-- BRK_LIM_STAT, limit status (R215). -/
def BRK_LIM_STAT (n : Nat) : Nat := 0x100234 + 0x1000 * (n % 16)
def BRK_LIM_STAT_RETRY_LEFT (n : Nat) : Fld := ⟨(BRK_LIM_STAT n), 6, 2⟩
def BRK_LIM_STAT_FOLD (n : Nat) : Fld := ⟨(BRK_LIM_STAT n), 5, 1⟩
def BRK_LIM_STAT_I2T_TRIP (n : Nat) : Fld := ⟨(BRK_LIM_STAT n), 4, 1⟩
def BRK_LIM_STAT_FAST_TRIP (n : Nat) : Fld := ⟨(BRK_LIM_STAT n), 3, 1⟩
def BRK_LIM_STAT_FOLD_EV (n : Nat) : Fld := ⟨(BRK_LIM_STAT n), 2, 1⟩
/-- BRK_SS, ramp step (R215). -/
def BRK_SS (n : Nat) : Nat := 0x100240 + 0x1000 * (n % 16)
def BRK_SS_SS_STEP (n : Nat) : Fld := ⟨(BRK_SS n), 0, 24⟩
/-- BRK_LANE_CTRL, lane and limit control (R215). -/
def BRK_LANE_CTRL (n : Nat) : Nat := 0x1002F0 + 0x1000 * (n % 16)
def BRK_LANE_CTRL_RETRY_RST (n : Nat) : Fld := ⟨(BRK_LANE_CTRL n), 1, 1⟩
def BRK_LANE_CTRL_LCNT_CLR (n : Nat) : Fld := ⟨(BRK_LANE_CTRL n), 0, 1⟩
/-- VCP_CTRL, port control (R234). -/
def VCP_CTRL : Nat := 0x120000
def VCP_CTRL_REC_CLR : Fld := ⟨VCP_CTRL, 1, 1⟩
def VCP_CTRL_CNT_CLR : Fld := ⟨VCP_CTRL, 0, 1⟩
/-- VCP_STAT, port status (R234). -/
def VCP_STAT : Nat := 0x120004
def VCP_STAT_CFG_ERR : Fld := ⟨VCP_STAT, 31, 1⟩
def VCP_STAT_EN : Fld := ⟨VCP_STAT, 7, 1⟩
def VCP_STAT_ACTIVE : Fld := ⟨VCP_STAT, 6, 1⟩
def VCP_STAT_REJ_EV : Fld := ⟨VCP_STAT, 3, 1⟩
def VCP_STAT_FRAME_EV : Fld := ⟨VCP_STAT, 2, 1⟩
def VCP_STAT_CRC_EV : Fld := ⟨VCP_STAT, 1, 1⟩
/-- VCP_ERR_CNT, error counters (R234). -/
def VCP_ERR_CNT : Nat := 0x120008
def VCP_ERR_CNT_CRC_CNT : Fld := ⟨VCP_ERR_CNT, 16, 16⟩
def VCP_ERR_CNT_FRAME_CNT : Fld := ⟨VCP_ERR_CNT, 0, 16⟩
/-- VCP_ANS_CNT, answer counters (R234). -/
def VCP_ANS_CNT : Nat := 0x12000C
def VCP_ANS_CNT_ACC_CNT : Fld := ⟨VCP_ANS_CNT, 16, 16⟩
def VCP_ANS_CNT_REJ_CNT : Fld := ⟨VCP_ANS_CNT, 0, 16⟩
/-- VCP_LAST_LO, last own frame low word (R234). -/
def VCP_LAST_LO : Nat := 0x120010
def VCP_LAST_LO_FRAME_LO : Fld := ⟨VCP_LAST_LO, 0, 32⟩
/-- VCP_LAST_HI, last own frame high word (R234). -/
def VCP_LAST_HI : Nat := 0x120014
def VCP_LAST_HI_FRAME_HI : Fld := ⟨VCP_LAST_HI, 0, 16⟩
/-- VCP_CFG_ERR_INFO, configuration error record (R234). -/
def VCP_CFG_ERR_INFO : Nat := 0x120018
def VCP_CFG_ERR_INFO_REG_OFFSET : Fld := ⟨VCP_CFG_ERR_INFO, 16, 12⟩
def VCP_CFG_ERR_INFO_FIELD_BIT : Fld := ⟨VCP_CFG_ERR_INFO, 0, 5⟩
/-- VCP_GRP, group of brick n (R234). -/
def VCP_GRP (n : Nat) : Nat := 0x120040 + 0x4 * (n % 16)
def VCP_GRP_GROUP (n : Nat) : Fld := ⟨(VCP_GRP n), 16, 8⟩
def VCP_GRP_LAST_SEQ (n : Nat) : Fld := ⟨(VCP_GRP n), 12, 4⟩
def VCP_GRP_LAST_CMD (n : Nat) : Fld := ⟨(VCP_GRP n), 8, 4⟩
def VCP_GRP_LAST_ANS (n : Nat) : Fld := ⟨(VCP_GRP n), 4, 4⟩
/-- VCP_REC_LO, records 0 to 7 of brick n (R234). -/
def VCP_REC_LO (n : Nat) : Nat := 0x120100 + 0x8 * (n % 16)
def VCP_REC_LO_STATE (n i : Nat) : Fld := ⟨(VCP_REC_LO n), 4 * i + 0, 4⟩
/-- VCP_REC_HI, records 8 to 15 of brick n (R234). -/
def VCP_REC_HI (n : Nat) : Nat := 0x120104 + 0x8 * (n % 16)
def VCP_REC_HI_STATE (n i : Nat) : Fld := ⟨(VCP_REC_HI n), 4 * i + 0, 4⟩
/-- SEQ_CTRL, course and fault control (R265). -/
def SEQ_CTRL : Nat := 0x130000
def SEQ_CTRL_KEY : Fld := ⟨SEQ_CTRL, 24, 8⟩
def SEQ_CTRL_LINE_CLR : Fld := ⟨SEQ_CTRL, 3, 1⟩
def SEQ_CTRL_CNT_CLR : Fld := ⟨SEQ_CTRL, 2, 1⟩
def SEQ_CTRL_REJOIN : Fld := ⟨SEQ_CTRL, 1, 1⟩
def SEQ_CTRL_FAULT_CLR : Fld := ⟨SEQ_CTRL, 0, 1⟩
/-- SEQ_CMD, course command (R265). -/
def SEQ_CMD : Nat := 0x130004
def SEQ_CMD_FLOOR : Fld := ⟨SEQ_CMD, 8, 1⟩
def SEQ_CMD_TARGET : Fld := ⟨SEQ_CMD, 0, 8⟩
/-- SEQ_STAT, course status (R265). -/
def SEQ_STAT : Nat := 0x130008
def SEQ_STAT_CFG_ERR : Fld := ⟨SEQ_STAT, 31, 1⟩
def SEQ_STAT_PHASE : Fld := ⟨SEQ_STAT, 28, 3⟩
def SEQ_STAT_REF_REASON : Fld := ⟨SEQ_STAT, 26, 2⟩
def SEQ_STAT_SUP_LOW : Fld := ⟨SEQ_STAT, 25, 1⟩
def SEQ_STAT_DESCENT : Fld := ⟨SEQ_STAT, 24, 1⟩
def SEQ_STAT_ROLE : Fld := ⟨SEQ_STAT, 22, 2⟩
def SEQ_STAT_DIR : Fld := ⟨SEQ_STAT, 21, 1⟩
def SEQ_STAT_LINE : Fld := ⟨SEQ_STAT, 20, 1⟩
def SEQ_STAT_CASC_IN : Fld := ⟨SEQ_STAT, 19, 1⟩
def SEQ_STAT_CASC_OUT : Fld := ⟨SEQ_STAT, 18, 1⟩
def SEQ_STAT_LINE_FAULT : Fld := ⟨SEQ_STAT, 16, 2⟩
def SEQ_STAT_STR_COURSE : Fld := ⟨SEQ_STAT, 8, 8⟩
def SEQ_STAT_DEV_COURSE : Fld := ⟨SEQ_STAT, 0, 8⟩
/-- SEQ_EV, course events (R265). -/
def SEQ_EV : Nat := 0x13000C
def SEQ_EV_REJOIN_EV : Fld := ⟨SEQ_EV, 9, 1⟩
def SEQ_EV_SUP_EV : Fld := ⟨SEQ_EV, 8, 1⟩
def SEQ_EV_CMD_REF_EV : Fld := ⟨SEQ_EV, 7, 1⟩
def SEQ_EV_CLR_REF_EV : Fld := ⟨SEQ_EV, 6, 1⟩
def SEQ_EV_MRG_PIN_EV : Fld := ⟨SEQ_EV, 5, 1⟩
def SEQ_EV_CASC_TMO_EV : Fld := ⟨SEQ_EV, 4, 1⟩
def SEQ_EV_LINE_EV : Fld := ⟨SEQ_EV, 3, 1⟩
def SEQ_EV_MISMATCH_EV : Fld := ⟨SEQ_EV, 2, 1⟩
def SEQ_EV_FLOOR_EV : Fld := ⟨SEQ_EV, 1, 1⟩
def SEQ_EV_STEP_EV : Fld := ⟨SEQ_EV, 0, 1⟩
/-- SEQ_FAULT, fault record (R265). -/
def SEQ_FAULT : Nat := 0x130010
def SEQ_FAULT_ACTIVE : Fld := ⟨SEQ_FAULT, 31, 1⟩
def SEQ_FAULT_REMOTE : Fld := ⟨SEQ_FAULT, 30, 1⟩
def SEQ_FAULT_ORIG_UNADDR : Fld := ⟨SEQ_FAULT, 29, 1⟩
def SEQ_FAULT_ORIGIN : Fld := ⟨SEQ_FAULT, 16, 12⟩
def SEQ_FAULT_CODE : Fld := ⟨SEQ_FAULT, 0, 16⟩
/-- SEQ_TMO, timeouts (R265). -/
def SEQ_TMO : Nat := 0x130014
def SEQ_TMO_STEP_TMO : Fld := ⟨SEQ_TMO, 16, 16⟩
def SEQ_TMO_CASC_TMO : Fld := ⟨SEQ_TMO, 0, 16⟩
/-- SEQ_CNT, counters (R265). -/
def SEQ_CNT : Nat := 0x130018
def SEQ_CNT_MISMATCH_CNT : Fld := ⟨SEQ_CNT, 24, 8⟩
def SEQ_CNT_LINE_CNT : Fld := ⟨SEQ_CNT, 16, 8⟩
def SEQ_CNT_STEP_CNT : Fld := ⟨SEQ_CNT, 0, 16⟩
/-- SEQ_CFG_ERR_INFO, configuration error record (R265). -/
def SEQ_CFG_ERR_INFO : Nat := 0x13001C
def SEQ_CFG_ERR_INFO_REG_OFFSET : Fld := ⟨SEQ_CFG_ERR_INFO, 16, 12⟩
def SEQ_CFG_ERR_INFO_FIELD_BIT : Fld := ⟨SEQ_CFG_ERR_INFO, 0, 5⟩
/-- SEQ_PG, power-good (R265). -/
def SEQ_PG : Nat := 0x130020
def SEQ_PG_RAIL : Fld := ⟨SEQ_PG, 0, 21⟩
/-- SEQ_ON, rails on (R265). -/
def SEQ_ON : Nat := 0x130024
def SEQ_ON_RAIL : Fld := ⟨SEQ_ON, 0, 21⟩
/-- SEQ_MRG_PIN, margin pins (R265). -/
def SEQ_MRG_PIN : Nat := 0x130028
def SEQ_MRG_PIN_UP : Fld := ⟨SEQ_MRG_PIN, 1, 1⟩
def SEQ_MRG_PIN_DN : Fld := ⟨SEQ_MRG_PIN, 0, 1⟩
/-- SEQ_HEAD, head record (R265). -/
def SEQ_HEAD : Nat := 0x130030
def SEQ_HEAD_LAST_ADDR : Fld := ⟨SEQ_HEAD, 16, 12⟩
def SEQ_HEAD_LOST_CNT : Fld := ⟨SEQ_HEAD, 8, 8⟩
def SEQ_HEAD_MIS_CNT : Fld := ⟨SEQ_HEAD, 0, 8⟩
/-- SEQ_RAIL_WIN, rail window (R265). -/
def SEQ_RAIL_WIN (n : Nat) : Nat := 0x130100 + 0x10 * (n % 21)
def SEQ_RAIL_WIN_OV (n : Nat) : Fld := ⟨(SEQ_RAIL_WIN n), 16, 10⟩
def SEQ_RAIL_WIN_UV (n : Nat) : Fld := ⟨(SEQ_RAIL_WIN n), 0, 10⟩
/-- SEQ_RAIL_MRG, rail margin (R265). -/
def SEQ_RAIL_MRG (n : Nat) : Nat := 0x130104 + 0x10 * (n % 21)
def SEQ_RAIL_MRG_M (n : Nat) : Fld := ⟨(SEQ_RAIL_MRG n), 16, 8⟩
def SEQ_RAIL_MRG_MRG (n : Nat) : Fld := ⟨(SEQ_RAIL_MRG n), 0, 8⟩
/-- SEQ_RAIL_STAT, rail status (R265). -/
def SEQ_RAIL_STAT (n : Nat) : Nat := 0x130108 + 0x10 * (n % 21)
def SEQ_RAIL_STAT_STATE (n : Nat) : Fld := ⟨(SEQ_RAIL_STAT n), 30, 2⟩
def SEQ_RAIL_STAT_PG (n : Nat) : Fld := ⟨(SEQ_RAIL_STAT n), 29, 1⟩
def SEQ_RAIL_STAT_UV_ARM (n : Nat) : Fld := ⟨(SEQ_RAIL_STAT n), 28, 1⟩
def SEQ_RAIL_STAT_VALUE (n : Nat) : Fld := ⟨(SEQ_RAIL_STAT n), 0, 16⟩
/-- SEQ_RAIL_PGD, power-good delay (R265). -/
def SEQ_RAIL_PGD (n : Nat) : Nat := 0x13010C + 0x10 * (n % 21)
def SEQ_RAIL_PGD_PG_DELAY (n : Nat) : Fld := ⟨(SEQ_RAIL_PGD n), 0, 16⟩
/-- MSR_CTRL, measurement control (R300). -/
def MSR_CTRL : Nat := 0x140000
def MSR_CTRL_CNT_CLR : Fld := ⟨MSR_CTRL, 2, 1⟩
def MSR_CTRL_OW_ABORT : Fld := ⟨MSR_CTRL, 1, 1⟩
def MSR_CTRL_OW_GO : Fld := ⟨MSR_CTRL, 0, 1⟩
/-- MSR_STAT, measurement status (R300). -/
def MSR_STAT : Nat := 0x140004
def MSR_STAT_CFG_ERR : Fld := ⟨MSR_STAT, 31, 1⟩
def MSR_STAT_REF_FAIL : Fld := ⟨MSR_STAT, 8, 2⟩
def MSR_STAT_REF_EV : Fld := ⟨MSR_STAT, 7, 1⟩
def MSR_STAT_TRIG_FB : Fld := ⟨MSR_STAT, 6, 1⟩
def MSR_STAT_OVR_EV : Fld := ⟨MSR_STAT, 2, 1⟩
def MSR_STAT_CELL_SKIP_EV : Fld := ⟨MSR_STAT, 1, 1⟩
def MSR_STAT_TRIG_MISS_EV : Fld := ⟨MSR_STAT, 0, 1⟩
/-- MSR_CNT, measurement counters (R300). -/
def MSR_CNT : Nat := 0x140008
def MSR_CNT_OVR_CNT : Fld := ⟨MSR_CNT, 24, 8⟩
def MSR_CNT_CELL_SKIP_CNT : Fld := ⟨MSR_CNT, 16, 8⟩
def MSR_CNT_TRIG_MISS_CNT : Fld := ⟨MSR_CNT, 0, 16⟩
/-- MSR_TRIG, trigger in force (R300). -/
def MSR_TRIG : Nat := 0x14000C
def MSR_TRIG_SRC : Fld := ⟨MSR_TRIG, 24, 5⟩
def MSR_TRIG_PERIOD : Fld := ⟨MSR_TRIG, 0, 23⟩
/-- MSR_CELL_CFG, cell chain configuration (R300). -/
def MSR_CELL_CFG : Nat := 0x140010
def MSR_CELL_CFG_CELLS : Fld := ⟨MSR_CELL_CFG, 24, 6⟩
def MSR_CELL_CFG_DEC : Fld := ⟨MSR_CELL_CFG, 16, 4⟩
def MSR_CELL_CFG_DIV : Fld := ⟨MSR_CELL_CFG, 0, 16⟩
/-- MSR_TDAC, test DAC (R300). -/
def MSR_TDAC : Nat := 0x140014
def MSR_TDAC_ACTIVE : Fld := ⟨MSR_TDAC, 31, 1⟩
def MSR_TDAC_PATH : Fld := ⟨MSR_TDAC, 24, 3⟩
def MSR_TDAC_SEL : Fld := ⟨MSR_TDAC, 16, 5⟩
def MSR_TDAC_POL : Fld := ⟨MSR_TDAC, 12, 1⟩
def MSR_TDAC_CODE : Fld := ⟨MSR_TDAC, 0, 12⟩
/-- MSR_OW_CFG, open-wire configuration (R300). -/
def MSR_OW_CFG : Nat := 0x140018
def MSR_OW_CFG_THR : Fld := ⟨MSR_OW_CFG, 24, 8⟩
def MSR_OW_CFG_WINDOW : Fld := ⟨MSR_OW_CFG, 16, 8⟩
def MSR_OW_CFG_LAST : Fld := ⟨MSR_OW_CFG, 8, 6⟩
def MSR_OW_CFG_FIRST : Fld := ⟨MSR_OW_CFG, 0, 6⟩
/-- MSR_OW_RES, open taps 0 to 31 (R300). -/
def MSR_OW_RES : Nat := 0x14001C
def MSR_OW_RES_OPEN : Fld := ⟨MSR_OW_RES, 0, 32⟩
/-- MSR_OW_STAT, open-wire status (R300). -/
def MSR_OW_STAT : Nat := 0x140020
def MSR_OW_STAT_BUSY : Fld := ⟨MSR_OW_STAT, 31, 1⟩
def MSR_OW_STAT_OPEN_32 : Fld := ⟨MSR_OW_STAT, 24, 1⟩
def MSR_OW_STAT_RESULT : Fld := ⟨MSR_OW_STAT, 22, 2⟩
def MSR_OW_STAT_TAP : Fld := ⟨MSR_OW_STAT, 0, 6⟩
/-- MSR_CFG_ERR_INFO, configuration error record (R300). -/
def MSR_CFG_ERR_INFO : Nat := 0x140024
def MSR_CFG_ERR_INFO_REG_OFFSET : Fld := ⟨MSR_CFG_ERR_INFO, 16, 12⟩
def MSR_CFG_ERR_INFO_FIELD_BIT : Fld := ⟨MSR_CFG_ERR_INFO, 0, 5⟩
/-- MSR_STACK, decimated stack voltage (R300). -/
def MSR_STACK : Nat := 0x140028
def MSR_STACK_HOLD : Fld := ⟨MSR_STACK, 31, 1⟩
def MSR_STACK_TEST : Fld := ⟨MSR_STACK, 30, 1⟩
def MSR_STACK_OPEN : Fld := ⟨MSR_STACK, 29, 1⟩
def MSR_STACK_V : Fld := ⟨MSR_STACK, 0, 24⟩
/-- MSR_CELL_TS_LO, block time low word (R300). -/
def MSR_CELL_TS_LO : Nat := 0x14002C
def MSR_CELL_TS_LO_TS : Fld := ⟨MSR_CELL_TS_LO, 0, 32⟩
/-- MSR_CELL_TS_HI, block time high word (R300). -/
def MSR_CELL_TS_HI : Nat := 0x140030
def MSR_CELL_TS_HI_TS : Fld := ⟨MSR_CELL_TS_HI, 0, 32⟩
/-- MSR_CH, last sample of sense channel k (R300). -/
def MSR_CH (n : Nat) : Nat := 0x140040 + 0x4 * (n % 24)
def MSR_CH_N (n : Nat) : Fld := ⟨(MSR_CH n), 16, 16⟩
def MSR_CH_SAMPLE (n : Nat) : Fld := ⟨(MSR_CH n), 0, 16⟩
/-- MSR_CELL, decimated cell voltage (R300). -/
def MSR_CELL (n : Nat) : Nat := 0x140100 + 0x4 * (n % 32)
def MSR_CELL_HOLD (n : Nat) : Fld := ⟨(MSR_CELL n), 31, 1⟩
def MSR_CELL_TEST (n : Nat) : Fld := ⟨(MSR_CELL n), 30, 1⟩
def MSR_CELL_OPEN (n : Nat) : Fld := ⟨(MSR_CELL n), 29, 1⟩
def MSR_CELL_V (n : Nat) : Fld := ⟨(MSR_CELL n), 0, 24⟩
/-- MSR_HK, housekeeping input i (R300). -/
def MSR_HK (n : Nat) : Nat := 0x140180 + 0x4 * (n % 32)
def MSR_HK_ROUND (n : Nat) : Fld := ⟨(MSR_HK n), 16, 16⟩
def MSR_HK_SAMPLE (n : Nat) : Fld := ⟨(MSR_HK n), 0, 16⟩
/-- MSR_TRIM, user trim of sense channel k (R300). -/
def MSR_TRIM (n : Nat) : Nat := 0x140200 + 0x4 * (n % 24)
def MSR_TRIM_GAIN (n : Nat) : Fld := ⟨(MSR_TRIM n), 16, 16⟩
def MSR_TRIM_OFFSET (n : Nat) : Fld := ⟨(MSR_TRIM n), 0, 16⟩
/-- MSR_DMA_CFG, stream configuration (R300). -/
def MSR_DMA_CFG (n : Nat) : Nat := 0x140400 + 0x20 * (n % 16)
def MSR_DMA_CFG_EN (n : Nat) : Fld := ⟨(MSR_DMA_CFG n), 31, 1⟩
def MSR_DMA_CFG_SRC (n : Nat) : Fld := ⟨(MSR_DMA_CFG n), 28, 3⟩
def MSR_DMA_CFG_CH_MASK (n : Nat) : Fld := ⟨(MSR_DMA_CFG n), 0, 24⟩
/-- MSR_DMA_DIV, record divider (R300). -/
def MSR_DMA_DIV (n : Nat) : Nat := 0x140404 + 0x20 * (n % 16)
def MSR_DMA_DIV_DIV (n : Nat) : Fld := ⟨(MSR_DMA_DIV n), 0, 16⟩
/-- MSR_DMA_BASE, buffer base (R300). -/
def MSR_DMA_BASE (n : Nat) : Nat := 0x140408 + 0x20 * (n % 16)
def MSR_DMA_BASE_ADDR (n : Nat) : Fld := ⟨(MSR_DMA_BASE n), 0, 18⟩
/-- MSR_DMA_GEOM, buffer geometry (R300). -/
def MSR_DMA_GEOM (n : Nat) : Nat := 0x14040C + 0x20 * (n % 16)
def MSR_DMA_GEOM_BLKLEN (n : Nat) : Fld := ⟨(MSR_DMA_GEOM n), 16, 16⟩
def MSR_DMA_GEOM_NBLK (n : Nat) : Fld := ⟨(MSR_DMA_GEOM n), 0, 16⟩
/-- MSR_DMA_STAMP, stamp area base (R300). -/
def MSR_DMA_STAMP (n : Nat) : Nat := 0x140410 + 0x20 * (n % 16)
def MSR_DMA_STAMP_ADDR (n : Nat) : Fld := ⟨(MSR_DMA_STAMP n), 0, 18⟩
/-- MSR_DMA_WPTR, write pointer (R300). -/
def MSR_DMA_WPTR (n : Nat) : Nat := 0x140414 + 0x20 * (n % 16)
def MSR_DMA_WPTR_WPTR (n : Nat) : Fld := ⟨(MSR_DMA_WPTR n), 0, 18⟩
/-- MSR_DMA_WRAP, wrap count (R300). -/
def MSR_DMA_WRAP (n : Nat) : Nat := 0x140418 + 0x20 * (n % 16)
def MSR_DMA_WRAP_WRAP (n : Nat) : Fld := ⟨(MSR_DMA_WRAP n), 0, 32⟩
/-- MSR_DMA_STAT, stream status (R300). -/
def MSR_DMA_STAT (n : Nat) : Nat := 0x14041C + 0x20 * (n % 16)
def MSR_DMA_STAT_CUR_BLK (n : Nat) : Fld := ⟨(MSR_DMA_STAT n), 16, 10⟩
def MSR_DMA_STAT_RECSZ (n : Nat) : Fld := ⟨(MSR_DMA_STAT n), 0, 8⟩
/-- THM_STAT, thermal status (R316). -/
def THM_STAT : Nat := 0x150000
def THM_STAT_THM_LOCK : Fld := ⟨THM_STAT, 31, 1⟩
def THM_STAT_LAST_SRC : Fld := ⟨THM_STAT, 8, 5⟩
def THM_STAT_BRK_EV : Fld := ⟨THM_STAT, 6, 1⟩
def THM_STAT_HOT_EV : Fld := ⟨THM_STAT, 5, 1⟩
def THM_STAT_THR_EV : Fld := ⟨THM_STAT, 4, 1⟩
def THM_STAT_K : Fld := ⟨THM_STAT, 0, 4⟩
/-- THM_BROKEN, broken sensors (R316). -/
def THM_BROKEN : Nat := 0x150004
def THM_BROKEN_SENSOR : Fld := ⟨THM_BROKEN, 0, 13⟩
/-- THM_HOT, hot sensors (R316). -/
def THM_HOT : Nat := 0x150008
def THM_HOT_SENSOR : Fld := ⟨THM_HOT, 0, 13⟩
/-- THM_T, sensor temperature (R316). -/
def THM_T (n : Nat) : Nat := 0x150100 + 0x4 * (n % 13)
def THM_T_EN (n : Nat) : Fld := ⟨(THM_T n), 31, 1⟩
def THM_T_PRIV (n : Nat) : Fld := ⟨(THM_T n), 30, 1⟩
def THM_T_BROKEN (n : Nat) : Fld := ⟨(THM_T n), 29, 1⟩
def THM_T_HOT (n : Nat) : Fld := ⟨(THM_T n), 28, 1⟩
def THM_T_T (n : Nat) : Fld := ⟨(THM_T n), 0, 16⟩
/-- THM_LIM, sensor thresholds (R316). -/
def THM_LIM (n : Nat) : Nat := 0x150140 + 0x4 * (n % 13)
def THM_LIM_SHUTDOWN (n : Nat) : Fld := ⟨(THM_LIM n), 16, 16⟩
def THM_LIM_THROTTLE (n : Nat) : Fld := ⟨(THM_LIM n), 0, 16⟩
/-- CEL_CTRL, cell control (R344). -/
def CEL_CTRL : Nat := 0x160000
def CEL_CTRL_KEY : Fld := ⟨CEL_CTRL, 24, 8⟩
def CEL_CTRL_BASE_RST : Fld := ⟨CEL_CTRL, 2, 1⟩
def CEL_CTRL_SWEEP_REQ : Fld := ⟨CEL_CTRL, 1, 1⟩
/-- CEL_STAT, cell status (R344). -/
def CEL_STAT : Nat := 0x160004
def CEL_STAT_CFG_ERR : Fld := ⟨CEL_STAT, 31, 1⟩
def CEL_STAT_GRADE : Fld := ⟨CEL_STAT, 21, 3⟩
def CEL_STAT_RESTORED : Fld := ⟨CEL_STAT, 20, 1⟩
def CEL_STAT_SWEEP : Fld := ⟨CEL_STAT, 19, 1⟩
def CEL_STAT_WIN : Fld := ⟨CEL_STAT, 17, 2⟩
def CEL_STAT_METHOD : Fld := ⟨CEL_STAT, 16, 1⟩
def CEL_STAT_J : Fld := ⟨CEL_STAT, 12, 4⟩
def CEL_STAT_SLOT : Fld := ⟨CEL_STAT, 10, 2⟩
def CEL_STAT_YIELD : Fld := ⟨CEL_STAT, 9, 1⟩
def CEL_STAT_ACT_OK : Fld := ⟨CEL_STAT, 8, 1⟩
def CEL_STAT_GRADE_EV : Fld := ⟨CEL_STAT, 4, 1⟩
def CEL_STAT_BASE_EV : Fld := ⟨CEL_STAT, 3, 1⟩
def CEL_STAT_PULSE_EV : Fld := ⟨CEL_STAT, 2, 1⟩
def CEL_STAT_DIST_EV : Fld := ⟨CEL_STAT, 1, 1⟩
def CEL_STAT_SWEEP_EV : Fld := ⟨CEL_STAT, 0, 1⟩
/-- CEL_SWEEP, sweep counters (R344). -/
def CEL_SWEEP : Nat := 0x160008
def CEL_SWEEP_SWEEP_CNT : Fld := ⟨CEL_SWEEP, 16, 16⟩
def CEL_SWEEP_DIST_CNT : Fld := ⟨CEL_SWEEP, 0, 16⟩
/-- CEL_BAL_CTRL, balancing control (R344). -/
def CEL_BAL_CTRL : Nat := 0x16000C
def CEL_BAL_CTRL_HOST : Fld := ⟨CEL_BAL_CTRL, 0, 1⟩
/-- CEL_BAL_MAN, host selection (R344). -/
def CEL_BAL_MAN : Nat := 0x160010
def CEL_BAL_MAN_CELLS : Fld := ⟨CEL_BAL_MAN, 0, 32⟩
/-- CEL_BAL_SEL, cells selected (R344). -/
def CEL_BAL_SEL : Nat := 0x160014
def CEL_BAL_SEL_CELLS : Fld := ⟨CEL_BAL_SEL, 0, 32⟩
/-- CEL_BAL_ON, drivers on (R344). -/
def CEL_BAL_ON : Nat := 0x160018
def CEL_BAL_ON_CELLS : Fld := ⟨CEL_BAL_ON, 0, 32⟩
/-- CEL_BAL_LIM, converter charge limit (R344). -/
def CEL_BAL_LIM : Nat := 0x16001C
def CEL_BAL_LIM_L : Fld := ⟨CEL_BAL_LIM, 0, 5⟩
/-- CEL_CFG_ERR_INFO, configuration error record (R344). -/
def CEL_CFG_ERR_INFO : Nat := 0x160020
def CEL_CFG_ERR_INFO_REG_OFFSET : Fld := ⟨CEL_CFG_ERR_INFO, 16, 12⟩
def CEL_CFG_ERR_INFO_FIELD_BIT : Fld := ⟨CEL_CFG_ERR_INFO, 0, 5⟩
/-- CEL_FQ, frequency status (R344). -/
def CEL_FQ (n : Nat) : Nat := 0x160100 + 0x4 * (n % 16)
def CEL_FQ_A_STAT (n : Nat) : Fld := ⟨(CEL_FQ n), 28, 4⟩
def CEL_FQ_P_STAT (n : Nat) : Fld := ⟨(CEL_FQ n), 24, 4⟩
def CEL_FQ_SLOT (n : Nat) : Fld := ⟨(CEL_FQ n), 22, 2⟩
def CEL_FQ_IAMP (n : Nat) : Fld := ⟨(CEL_FQ n), 0, 16⟩
/-- CEL_PULSE, pulse resistance of CELL_k (R344). -/
def CEL_PULSE (n : Nat) : Nat := 0x160200 + 0x4 * (n % 32)
def CEL_PULSE_N (n : Nat) : Fld := ⟨(CEL_PULSE n), 24, 8⟩
def CEL_PULSE_R (n : Nat) : Fld := ⟨(CEL_PULSE n), 0, 24⟩
/-- CEL_HEALTH, estimates of CELL_k (R344). -/
def CEL_HEALTH (n : Nat) : Nat := 0x160300 + 0x4 * (n % 32)
def CEL_HEALTH_CF (n : Nat) : Fld := ⟨(CEL_HEALTH n), 16, 16⟩
def CEL_HEALTH_RG (n : Nat) : Fld := ⟨(CEL_HEALTH n), 0, 16⟩
/-- CEL_ZR, real part (R344). -/
def CEL_ZR (n w : Nat) : Nat := 0x164000 + 0x200 * (n % 32) + 0x8 * (w % 64)
def CEL_ZR_Z (n w : Nat) : Fld := ⟨(CEL_ZR n w), 0, 32⟩
/-- CEL_ZI, imaginary part (R344). -/
def CEL_ZI (n w : Nat) : Nat := 0x164004 + 0x200 * (n % 32) + 0x8 * (w % 64)
def CEL_ZI_Z (n w : Nat) : Fld := ⟨(CEL_ZI n w), 0, 32⟩
/-- CPM_CTRL, charge control (R369). -/
def CPM_CTRL : Nat := 0x170000
def CPM_CTRL_STOP : Fld := ⟨CPM_CTRL, 1, 1⟩
def CPM_CTRL_START : Fld := ⟨CPM_CTRL, 0, 1⟩
/-- CPM_CHG_STAT, session status (R369). -/
def CPM_CHG_STAT : Nat := 0x170004
def CPM_CHG_STAT_CFG_ERR : Fld := ⟨CPM_CHG_STAT, 31, 1⟩
def CPM_CHG_STAT_PHASE : Fld := ⟨CPM_CHG_STAT, 28, 3⟩
def CPM_CHG_STAT_END_REASON : Fld := ⟨CPM_CHG_STAT, 24, 4⟩
def CPM_CHG_STAT_REF_REASON : Fld := ⟨CPM_CHG_STAT, 20, 4⟩
def CPM_CHG_STAT_SEARCHING : Fld := ⟨CPM_CHG_STAT, 5, 1⟩
def CPM_CHG_STAT_ARMED : Fld := ⟨CPM_CHG_STAT, 4, 1⟩
def CPM_CHG_STAT_REF_EV : Fld := ⟨CPM_CHG_STAT, 3, 1⟩
def CPM_CHG_STAT_END_EV : Fld := ⟨CPM_CHG_STAT, 2, 1⟩
def CPM_CHG_STAT_REMOVE_EV : Fld := ⟨CPM_CHG_STAT, 1, 1⟩
def CPM_CHG_STAT_SEARCH_EV : Fld := ⟨CPM_CHG_STAT, 0, 1⟩
/-- CPM_CHG_LIM, current limits (R369). -/
def CPM_CHG_LIM : Nat := 0x170008
def CPM_CHG_LIM_I_S : Fld := ⟨CPM_CHG_LIM, 16, 16⟩
def CPM_CHG_LIM_I_LIM : Fld := ⟨CPM_CHG_LIM, 0, 16⟩
/-- CPM_CHG_VLIM, voltage limit (R369). -/
def CPM_CHG_VLIM : Nat := 0x17000C
def CPM_CHG_VLIM_CV_MV : Fld := ⟨CPM_CHG_VLIM, 0, 32⟩
/-- CPM_CHG_TIME, session time (R369). -/
def CPM_CHG_TIME : Nat := 0x170010
def CPM_CHG_TIME_SEC : Fld := ⟨CPM_CHG_TIME, 0, 32⟩
/-- CPM_PP_CTRL, supply path control (R369). -/
def CPM_PP_CTRL : Nat := 0x170014
def CPM_PP_CTRL_AUX_MODE : Fld := ⟨CPM_PP_CTRL, 1, 1⟩
def CPM_PP_CTRL_PREF : Fld := ⟨CPM_PP_CTRL, 0, 1⟩
/-- CPM_PP_STAT, supply path status (R369). -/
def CPM_PP_STAT : Nat := 0x170018
def CPM_PP_STAT_HO_CNT : Fld := ⟨CPM_PP_STAT, 16, 16⟩
def CPM_PP_STAT_USE : Fld := ⟨CPM_PP_STAT, 14, 2⟩
def CPM_PP_STAT_A_QUAL : Fld := ⟨CPM_PP_STAT, 13, 1⟩
def CPM_PP_STAT_B_QUAL : Fld := ⟨CPM_PP_STAT, 12, 1⟩
def CPM_PP_STAT_A_LONG : Fld := ⟨CPM_PP_STAT, 11, 1⟩
def CPM_PP_STAT_B_LONG : Fld := ⟨CPM_PP_STAT, 10, 1⟩
def CPM_PP_STAT_AUXEN : Fld := ⟨CPM_PP_STAT, 9, 1⟩
def CPM_PP_STAT_OV_EV : Fld := ⟨CPM_PP_STAT, 3, 1⟩
def CPM_PP_STAT_CHAT_EV : Fld := ⟨CPM_PP_STAT, 2, 1⟩
def CPM_PP_STAT_LOSS_EV : Fld := ⟨CPM_PP_STAT, 1, 1⟩
def CPM_PP_STAT_HO_EV : Fld := ⟨CPM_PP_STAT, 0, 1⟩
/-- CPM_SW_STAT, switch and button status (R369). -/
def CPM_SW_STAT : Nat := 0x17001C
def CPM_SW_STAT_PROBE : Fld := ⟨CPM_SW_STAT, 30, 2⟩
def CPM_SW_STAT_DSW : Fld := ⟨CPM_SW_STAT, 29, 1⟩
def CPM_SW_STAT_PRE : Fld := ⟨CPM_SW_STAT, 28, 1⟩
def CPM_SW_STAT_LAST_PRESS : Fld := ⟨CPM_SW_STAT, 26, 2⟩
def CPM_SW_STAT_PRESSED : Fld := ⟨CPM_SW_STAT, 25, 1⟩
def CPM_SW_STAT_HELD : Fld := ⟨CPM_SW_STAT, 0, 15⟩
/-- CPM_CFG_ERR_INFO, configuration error record (R369). -/
def CPM_CFG_ERR_INFO : Nat := 0x170020
def CPM_CFG_ERR_INFO_REG_OFFSET : Fld := ⟨CPM_CFG_ERR_INFO, 16, 12⟩
def CPM_CFG_ERR_INFO_FIELD_BIT : Fld := ⟨CPM_CFG_ERR_INFO, 0, 5⟩
/-- MTR_CTRL, meter control (R400). -/
def MTR_CTRL : Nat := 0x180000
def MTR_CTRL_KEY : Fld := ⟨MTR_CTRL, 24, 8⟩
def MTR_CTRL_STAT_CLR : Fld := ⟨MTR_CTRL, 0, 1⟩
/-- MTR_STAT, meter status (R400). -/
def MTR_STAT : Nat := 0x180004
def MTR_STAT_CFG_ERR : Fld := ⟨MTR_STAT, 31, 1⟩
def MTR_STAT_NEWEST : Fld := ⟨MTR_STAT, 21, 3⟩
def MTR_STAT_RESTORING : Fld := ⟨MTR_STAT, 20, 1⟩
def MTR_STAT_SAT_EV : Fld := ⟨MTR_STAT, 5, 1⟩
def MTR_STAT_COUCH_REF_EV : Fld := ⟨MTR_STAT, 4, 1⟩
def MTR_STAT_COUCH_EV : Fld := ⟨MTR_STAT, 3, 1⟩
def MTR_STAT_GAP_EV : Fld := ⟨MTR_STAT, 2, 1⟩
def MTR_STAT_REAM_EV : Fld := ⟨MTR_STAT, 1, 1⟩
/-- MTR_CFG_ERR_INFO, configuration error record (R400). -/
def MTR_CFG_ERR_INFO : Nat := 0x180008
def MTR_CFG_ERR_INFO_REG_OFFSET : Fld := ⟨MTR_CFG_ERR_INFO, 16, 12⟩
def MTR_CFG_ERR_INFO_FIELD_BIT : Fld := ⟨MTR_CFG_ERR_INFO, 0, 5⟩
/-- MTR_REAM_LEN, ream length (R400). -/
def MTR_REAM_LEN : Nat := 0x18000C
def MTR_REAM_LEN_LEN : Fld := ⟨MTR_REAM_LEN, 0, 17⟩
/-- MTR_TOT, totals page, word w (R400). -/
def MTR_TOT (w : Nat) : Nat := 0x180010 + 0x4 * (w % 10)
def MTR_TOT_WORD (w : Nat) : Fld := ⟨(MTR_TOT w), 0, 32⟩
/-- MTR_RUN, running ream page, word w (R400). -/
def MTR_RUN (w : Nat) : Nat := 0x180040 + 0x4 * (w % 14)
def MTR_RUN_WORD (w : Nat) : Fld := ⟨(MTR_RUN w), 0, 32⟩
/-- MTR_COUCH_CTRL, couch request (R400). -/
def MTR_COUCH_CTRL : Nat := 0x180080
def MTR_COUCH_CTRL_ID : Fld := ⟨MTR_COUCH_CTRL, 16, 16⟩
def MTR_COUCH_CTRL_FREE : Fld := ⟨MTR_COUCH_CTRL, 4, 4⟩
def MTR_COUCH_CTRL_GO : Fld := ⟨MTR_COUCH_CTRL, 0, 1⟩
/-- MTR_COUCH_T_LO, requested instant low word (R400). -/
def MTR_COUCH_T_LO : Nat := 0x180084
def MTR_COUCH_T_LO_T : Fld := ⟨MTR_COUCH_T_LO, 0, 32⟩
/-- MTR_COUCH_T_HI, requested instant high word (R400). -/
def MTR_COUCH_T_HI : Nat := 0x180088
def MTR_COUCH_T_HI_T : Fld := ⟨MTR_COUCH_T_HI, 0, 32⟩
/-- MTR_COUCH_RES, last request outcome (R400). -/
def MTR_COUCH_RES : Nat := 0x18008C
def MTR_COUCH_RES_BANK : Fld := ⟨MTR_COUCH_RES, 4, 2⟩
def MTR_COUCH_RES_RESULT : Fld := ⟨MTR_COUCH_RES, 0, 3⟩
/-- MTR_COUCH_STAT, couch bank k status (R400). -/
def MTR_COUCH_STAT (n : Nat) : Nat := 0x180090 + 0x10 * (n % 4)
def MTR_COUCH_STAT_STATE (n : Nat) : Fld := ⟨(MTR_COUCH_STAT n), 30, 2⟩
def MTR_COUCH_STAT_TSTATE (n : Nat) : Fld := ⟨(MTR_COUCH_STAT n), 28, 2⟩
def MTR_COUCH_STAT_STEPPED (n : Nat) : Fld := ⟨(MTR_COUCH_STAT n), 27, 1⟩
def MTR_COUCH_STAT_ID (n : Nat) : Fld := ⟨(MTR_COUCH_STAT n), 0, 16⟩
/-- MTR_COUCH_BT_LO, couch bank k instant low word (R400). -/
def MTR_COUCH_BT_LO (n : Nat) : Nat := 0x180094 + 0x10 * (n % 4)
def MTR_COUCH_BT_LO_T (n : Nat) : Fld := ⟨(MTR_COUCH_BT_LO n), 0, 32⟩
/-- MTR_COUCH_BT_HI, couch bank k instant high word (R400). -/
def MTR_COUCH_BT_HI (n : Nat) : Nat := 0x180098 + 0x10 * (n % 4)
def MTR_COUCH_BT_HI_T (n : Nat) : Fld := ⟨(MTR_COUCH_BT_HI n), 0, 32⟩
/-- MTR_REAM, ream bank entry e, word w (R400). -/
def MTR_REAM (n w : Nat) : Nat := 0x180100 + 0x40 * (n % 8) + 0x4 * (w % 14)
def MTR_REAM_WORD (n w : Nat) : Fld := ⟨(MTR_REAM n w), 0, 32⟩
/-- MTR_CELL_MM, cell extremes (R400). -/
def MTR_CELL_MM (n : Nat) : Nat := 0x180300 + 0x4 * (n % 32)
def MTR_CELL_MM_MIN (n : Nat) : Fld := ⟨(MTR_CELL_MM n), 16, 16⟩
def MTR_CELL_MM_MAX (n : Nat) : Fld := ⟨(MTR_CELL_MM n), 0, 16⟩
/-- MTR_HIST, histogram bin i (R400). -/
def MTR_HIST (n : Nat) : Nat := 0x180380 + 0x4 * (n % 16)
def MTR_HIST_SEC (n : Nat) : Fld := ⟨(MTR_HIST n), 0, 32⟩
/-- JNL_STAT, journal status (R400). -/
def JNL_STAT : Nat := 0x190004
def JNL_STAT_CFG_ERR : Fld := ⟨JNL_STAT, 31, 1⟩
def JNL_STAT_SEARCHING : Fld := ⟨JNL_STAT, 9, 1⟩
def JNL_STAT_RD_READY : Fld := ⟨JNL_STAT, 8, 1⟩
def JNL_STAT_FL_ERR_EV : Fld := ⟨JNL_STAT, 7, 1⟩
def JNL_STAT_LOST_EV : Fld := ⟨JNL_STAT, 6, 1⟩
def JNL_STAT_QUEUE : Fld := ⟨JNL_STAT, 0, 6⟩
/-- JNL_HEAD, next slot (R400). -/
def JNL_HEAD : Nat := 0x190008
def JNL_HEAD_SLOT : Fld := ⟨JNL_HEAD, 0, 17⟩
/-- JNL_OLDEST, oldest slot (R400). -/
def JNL_OLDEST : Nat := 0x19000C
def JNL_OLDEST_SLOT : Fld := ⟨JNL_OLDEST, 0, 17⟩
/-- JNL_SEQ_LO, next sequence number low word (R400). -/
def JNL_SEQ_LO : Nat := 0x190010
def JNL_SEQ_LO_SEQ : Fld := ⟨JNL_SEQ_LO, 0, 32⟩
/-- JNL_SEQ_HI, next sequence number high word (R400). -/
def JNL_SEQ_HI : Nat := 0x190014
def JNL_SEQ_HI_SEQ : Fld := ⟨JNL_SEQ_HI, 0, 32⟩
/-- JNL_LOST, lost sheets (R400). -/
def JNL_LOST : Nat := 0x190018
def JNL_LOST_LOST : Fld := ⟨JNL_LOST, 0, 32⟩
/-- JNL_RD_SLOT, slot to read (R400). -/
def JNL_RD_SLOT : Nat := 0x19001C
def JNL_RD_SLOT_SLOT : Fld := ⟨JNL_RD_SLOT, 0, 17⟩
/-- JNL_CFG_ERR_INFO, configuration error record (R400). -/
def JNL_CFG_ERR_INFO : Nat := 0x190020
def JNL_CFG_ERR_INFO_REG_OFFSET : Fld := ⟨JNL_CFG_ERR_INFO, 16, 12⟩
def JNL_CFG_ERR_INFO_FIELD_BIT : Fld := ⟨JNL_CFG_ERR_INFO, 0, 5⟩
/-- JNL_RD_W, buffer word i (R400). -/
def JNL_RD_W (n : Nat) : Nat := 0x190040 + 0x4 * (n % 16)
def JNL_RD_W_DATA (n : Nat) : Fld := ⟨(JNL_RD_W n), 0, 32⟩
/-- LNK_CTRL, link control (R427). -/
def LNK_CTRL : Nat := 0x1A0000
def LNK_CTRL_KEY : Fld := ⟨LNK_CTRL, 24, 8⟩
def LNK_CTRL_FWD_POP : Fld := ⟨LNK_CTRL, 2, 1⟩
def LNK_CTRL_CNT_CLR : Fld := ⟨LNK_CTRL, 1, 1⟩
def LNK_CTRL_ENUM : Fld := ⟨LNK_CTRL, 0, 1⟩
/-- LNK_STAT, link status (R427). -/
def LNK_STAT : Nat := 0x1A0004
def LNK_STAT_CFG_ERR : Fld := ⟨LNK_STAT, 31, 1⟩
def LNK_STAT_ROLE : Fld := ⟨LNK_STAT, 29, 2⟩
def LNK_STAT_ENUMERATING : Fld := ⟨LNK_STAT, 28, 1⟩
def LNK_STAT_STR_OPEN : Fld := ⟨LNK_STAT, 27, 1⟩
def LNK_STAT_TRK_OPEN : Fld := ⟨LNK_STAT, 26, 1⟩
def LNK_STAT_LIM_EV : Fld := ⟨LNK_STAT, 11, 1⟩
def LNK_STAT_RING_EV : Fld := ⟨LNK_STAT, 10, 1⟩
def LNK_STAT_ERR_EV : Fld := ⟨LNK_STAT, 9, 1⟩
def LNK_STAT_ENUM_EV : Fld := ⟨LNK_STAT, 8, 1⟩
def LNK_STAT_EN : Fld := ⟨LNK_STAT, 4, 4⟩
def LNK_STAT_UP : Fld := ⟨LNK_STAT, 0, 4⟩
/-- LNK_ADDR, address (R427). -/
def LNK_ADDR : Nat := 0x1A0008
def LNK_ADDR_NSTR : Fld := ⟨LNK_ADDR, 25, 7⟩
def LNK_ADDR_NDEV : Fld := ⟨LNK_ADDR, 18, 7⟩
def LNK_ADDR_UNADDR : Fld := ⟨LNK_ADDR, 15, 1⟩
def LNK_ADDR_ADDR : Fld := ⟨LNK_ADDR, 0, 12⟩
/-- LNK_ERR_CNT, frame errors (R427). -/
def LNK_ERR_CNT : Nat := 0x1A000C
def LNK_ERR_CNT_CRC_CNT : Fld := ⟨LNK_ERR_CNT, 16, 16⟩
def LNK_ERR_CNT_CODE_CNT : Fld := ⟨LNK_ERR_CNT, 0, 16⟩
/-- LNK_DROP_CNT, drops (R427). -/
def LNK_DROP_CNT : Nat := 0x1A0010
def LNK_DROP_CNT_BUSY_CNT : Fld := ⟨LNK_DROP_CNT, 24, 8⟩
def LNK_DROP_CNT_TMO_CNT : Fld := ⟨LNK_DROP_CNT, 16, 8⟩
def LNK_DROP_CNT_FWD_OVF : Fld := ⟨LNK_DROP_CNT, 8, 8⟩
def LNK_DROP_CNT_REFUSED : Fld := ⟨LNK_DROP_CNT, 0, 8⟩
/-- LNK_SYNC, time path (R427). -/
def LNK_SYNC : Nat := 0x1A0014
def LNK_SYNC_PARENT : Fld := ⟨LNK_SYNC, 30, 2⟩
def LNK_SYNC_NO_PARENT : Fld := ⟨LNK_SYNC, 29, 1⟩
def LNK_SYNC_DELAY : Fld := ⟨LNK_SYNC, 0, 24⟩
/-- LNK_LIM, limit record (R427). -/
def LNK_LIM : Nat := 0x1A0018
def LNK_LIM_EXCESS_HEADS : Fld := ⟨LNK_LIM, 8, 8⟩
def LNK_LIM_EXCESS_DEV : Fld := ⟨LNK_LIM, 0, 8⟩
/-- LNK_CFG_ERR_INFO, configuration error record (R427). -/
def LNK_CFG_ERR_INFO : Nat := 0x1A001C
def LNK_CFG_ERR_INFO_REG_OFFSET : Fld := ⟨LNK_CFG_ERR_INFO, 16, 12⟩
def LNK_CFG_ERR_INFO_FIELD_BIT : Fld := ⟨LNK_CFG_ERR_INFO, 0, 5⟩
/-- LNK_RA_CTRL, remote request (R427). -/
def LNK_RA_CTRL : Nat := 0x1A0040
def LNK_RA_CTRL_GO : Fld := ⟨LNK_RA_CTRL, 31, 1⟩
def LNK_RA_CTRL_OP : Fld := ⟨LNK_RA_CTRL, 29, 2⟩
def LNK_RA_CTRL_TAG : Fld := ⟨LNK_RA_CTRL, 24, 5⟩
def LNK_RA_CTRL_COUNT : Fld := ⟨LNK_RA_CTRL, 18, 6⟩
def LNK_RA_CTRL_DEST : Fld := ⟨LNK_RA_CTRL, 0, 12⟩
/-- LNK_RA_ADDR, request address (R427). -/
def LNK_RA_ADDR : Nat := 0x1A0044
def LNK_RA_ADDR_VALUE : Fld := ⟨LNK_RA_ADDR, 0, 32⟩
/-- LNK_RA_WDATA, write data (R427). -/
def LNK_RA_WDATA : Nat := 0x1A0048
def LNK_RA_WDATA_VALUE : Fld := ⟨LNK_RA_WDATA, 0, 32⟩
/-- LNK_DIST_CTRL, distribution control (R427). -/
def LNK_DIST_CTRL : Nat := 0x1A0060
def LNK_DIST_CTRL_GO : Fld := ⟨LNK_DIST_CTRL, 31, 1⟩
def LNK_DIST_CTRL_ABORT : Fld := ⟨LNK_DIST_CTRL, 30, 1⟩
def LNK_DIST_CTRL_WHAT : Fld := ⟨LNK_DIST_CTRL, 28, 2⟩
def LNK_DIST_CTRL_APPLY : Fld := ⟨LNK_DIST_CTRL, 27, 1⟩
def LNK_DIST_CTRL_STORE : Fld := ⟨LNK_DIST_CTRL, 26, 1⟩
def LNK_DIST_CTRL_MODE : Fld := ⟨LNK_DIST_CTRL, 12, 4⟩
def LNK_DIST_CTRL_DEST : Fld := ⟨LNK_DIST_CTRL, 0, 12⟩
/-- LNK_DIST_STAT, distribution status (R427). -/
def LNK_DIST_STAT : Nat := 0x1A0064
def LNK_DIST_STAT_STATE : Fld := ⟨LNK_DIST_STAT, 30, 2⟩
def LNK_DIST_STAT_OK_CNT : Fld := ⟨LNK_DIST_STAT, 13, 13⟩
def LNK_DIST_STAT_FAIL_CNT : Fld := ⟨LNK_DIST_STAT, 0, 13⟩
/-- LNK_COUCH_SUM, couch answers (R427). -/
def LNK_COUCH_SUM : Nat := 0x1A0068
def LNK_COUCH_SUM_ACC_CNT : Fld := ⟨LNK_COUCH_SUM, 19, 13⟩
def LNK_COUCH_SUM_REF_CNT : Fld := ⟨LNK_COUCH_SUM, 6, 13⟩
def LNK_COUCH_SUM_DONE : Fld := ⟨LNK_COUCH_SUM, 0, 1⟩
/-- LNK_COUCH_REF, first refusal (R427). -/
def LNK_COUCH_REF : Nat := 0x1A006C
def LNK_COUCH_REF_RESULT : Fld := ⟨LNK_COUCH_REF, 12, 3⟩
def LNK_COUCH_REF_ADDR : Fld := ⟨LNK_COUCH_REF, 0, 12⟩
/-- LNK_FWD_0, forward FIFO head (R427). -/
def LNK_FWD_0 : Nat := 0x1A0080
def LNK_FWD_0_VALID : Fld := ⟨LNK_FWD_0, 31, 1⟩
def LNK_FWD_0_COUNT : Fld := ⟨LNK_FWD_0, 23, 7⟩
def LNK_FWD_0_ADDR : Fld := ⟨LNK_FWD_0, 10, 12⟩
def LNK_FWD_0_SOURCE : Fld := ⟨LNK_FWD_0, 0, 10⟩
/-- LNK_FWD_1, entry time low word (R427). -/
def LNK_FWD_1 : Nat := 0x1A0084
def LNK_FWD_1_TS : Fld := ⟨LNK_FWD_1, 0, 32⟩
/-- LNK_FWD_2, entry time high word (R427). -/
def LNK_FWD_2 : Nat := 0x1A0088
def LNK_FWD_2_TS : Fld := ⟨LNK_FWD_2, 0, 32⟩
/-- LNK_RA_STAT, tag status (R427). -/
def LNK_RA_STAT (n : Nat) : Nat := 0x1A0100 + 0x4 * (n % 32)
def LNK_RA_STAT_STATE (n : Nat) : Fld := ⟨(LNK_RA_STAT n), 30, 2⟩
def LNK_RA_STAT_RESULT (n : Nat) : Fld := ⟨(LNK_RA_STAT n), 27, 3⟩
def LNK_RA_STAT_FREE (n : Nat) : Fld := ⟨(LNK_RA_STAT n), 26, 1⟩
def LNK_RA_STAT_COUNT (n : Nat) : Fld := ⟨(LNK_RA_STAT n), 0, 6⟩
/-- LNK_RA_DATA, returned word w of tag t (R427). -/
def LNK_RA_DATA (n w : Nat) : Nat := 0x1A2000 + 0x100 * (n % 32) + 0x4 * (w % 63)
def LNK_RA_DATA_DATA (n w : Nat) : Fld := ⟨(LNK_RA_DATA n w), 0, 32⟩
/-- ICU_DOORBELL, doorbell (R447). -/
def ICU_DOORBELL : Nat := 0x1B0000
def ICU_DOORBELL_SOURCE : Fld := ⟨ICU_DOORBELL, 0, 10⟩
/-- ICU_CTRL, interrupt control (R447). -/
def ICU_CTRL : Nat := 0x1B0004
def ICU_CTRL_POP : Fld := ⟨ICU_CTRL, 1, 1⟩
def ICU_CTRL_INT_EN : Fld := ⟨ICU_CTRL, 0, 1⟩
/-- ICU_STAT, interrupt status (R447). -/
def ICU_STAT : Nat := 0x1B0008
def ICU_STAT_CFG_ERR : Fld := ⟨ICU_STAT, 31, 1⟩
def ICU_STAT_QFULL_EV : Fld := ⟨ICU_STAT, 8, 1⟩
def ICU_STAT_INT : Fld := ⟨ICU_STAT, 7, 1⟩
def ICU_STAT_QUEUE : Fld := ⟨ICU_STAT, 0, 7⟩
/-- ICU_CFG_ERR_INFO, configuration error record (R447). -/
def ICU_CFG_ERR_INFO : Nat := 0x1B000C
def ICU_CFG_ERR_INFO_REG_OFFSET : Fld := ⟨ICU_CFG_ERR_INFO, 16, 12⟩
def ICU_CFG_ERR_INFO_FIELD_BIT : Fld := ⟨ICU_CFG_ERR_INFO, 0, 5⟩
/-- ICU_HOST_0, host queue head (R447). -/
def ICU_HOST_0 : Nat := 0x1B0010
def ICU_HOST_0_VALID : Fld := ⟨ICU_HOST_0, 31, 1⟩
def ICU_HOST_0_AGAIN : Fld := ⟨ICU_HOST_0, 30, 1⟩
def ICU_HOST_0_PRIO : Fld := ⟨ICU_HOST_0, 28, 2⟩
def ICU_HOST_0_COUNT : Fld := ⟨ICU_HOST_0, 16, 7⟩
def ICU_HOST_0_SOURCE : Fld := ⟨ICU_HOST_0, 0, 10⟩
/-- ICU_HOST_1, head timestamp low word (R447). -/
def ICU_HOST_1 : Nat := 0x1B0014
def ICU_HOST_1_TS : Fld := ⟨ICU_HOST_1, 0, 32⟩
/-- ICU_HOST_2, head timestamp high word (R447). -/
def ICU_HOST_2 : Nat := 0x1B0018
def ICU_HOST_2_TS : Fld := ⟨ICU_HOST_2, 0, 32⟩
/-- ICU_LATCH, Standby latches caught (R447). -/
def ICU_LATCH : Nat := 0x1B001C
def ICU_LATCH_CAUGHT : Fld := ⟨ICU_LATCH, 0, 13⟩
/-- ICU_HOLD, hold-off of group g (R447). -/
def ICU_HOLD (n : Nat) : Nat := 0x1B0100 + 0x4 * (n % 32)
def ICU_HOLD_HELD (n : Nat) : Fld := ⟨(ICU_HOLD n), 31, 1⟩
def ICU_HOLD_HOLD (n : Nat) : Fld := ⟨(ICU_HOLD n), 0, 17⟩
/-- ICU_PEND, pending summary (R447). -/
def ICU_PEND (n : Nat) : Nat := 0x1B0200 + 0x4 * (n % 32)
def ICU_PEND_PEND (n : Nat) : Fld := ⟨(ICU_PEND n), 0, 32⟩
/-- ICU_SRC, source state (R447). -/
def ICU_SRC (n : Nat) : Nat := 0x1B1000 + 0x4 * (n % 1024)
def ICU_SRC_PEND (n : Nat) : Fld := ⟨(ICU_SRC n), 31, 1⟩
def ICU_SRC_AGAIN (n : Nat) : Fld := ⟨(ICU_SRC n), 30, 1⟩
def ICU_SRC_EN (n : Nat) : Fld := ⟨(ICU_SRC n), 15, 1⟩
def ICU_SRC_PRIO (n : Nat) : Fld := ⟨(ICU_SRC n), 12, 2⟩
def ICU_SRC_DEST (n : Nat) : Fld := ⟨(ICU_SRC n), 8, 3⟩
def ICU_SRC_GROUP (n : Nat) : Fld := ⟨(ICU_SRC n), 0, 8⟩
/-- WDG_CTRL, watchdog control (R461). -/
def WDG_CTRL : Nat := 0x1C0000
def WDG_CTRL_KEY : Fld := ⟨WDG_CTRL, 24, 8⟩
def WDG_CTRL_EVID_CLR : Fld := ⟨WDG_CTRL, 1, 1⟩
def WDG_CTRL_ARM : Fld := ⟨WDG_CTRL, 0, 1⟩
/-- WDG_CFG, watchdog configuration (R461). -/
def WDG_CFG : Nat := 0x1C0004
def WDG_CFG_ALLOFF : Fld := ⟨WDG_CFG, 31, 1⟩
def WDG_CFG_WDO_LEN : Fld := ⟨WDG_CFG, 0, 7⟩
/-- WDG_WIN, window (R461). -/
def WDG_WIN : Nat := 0x1C0008
def WDG_WIN_OPEN : Fld := ⟨WDG_WIN, 16, 16⟩
def WDG_WIN_CLOSE : Fld := ⟨WDG_WIN, 0, 16⟩
/-- WDG_STAT, watchdog status (R461). -/
def WDG_STAT : Nat := 0x1C000C
def WDG_STAT_CFG_ERR : Fld := ⟨WDG_STAT, 31, 1⟩
def WDG_STAT_ARMED : Fld := ⟨WDG_STAT, 30, 1⟩
def WDG_STAT_HW_START : Fld := ⟨WDG_STAT, 29, 1⟩
def WDG_STAT_PULSE : Fld := ⟨WDG_STAT, 28, 1⟩
def WDG_STAT_OPEN : Fld := ⟨WDG_STAT, 27, 1⟩
def WDG_STAT_COUNT : Fld := ⟨WDG_STAT, 0, 23⟩
/-- WDG_CHAL, challenge (R461). -/
def WDG_CHAL : Nat := 0x1C0010
def WDG_CHAL_CHAL : Fld := ⟨WDG_CHAL, 0, 16⟩
/-- WDG_CHECKIN, check-in (R461). -/
def WDG_CHECKIN : Nat := 0x1C0014
def WDG_CHECKIN_TASK : Fld := ⟨WDG_CHECKIN, 16, 4⟩
def WDG_CHECKIN_VALUE : Fld := ⟨WDG_CHECKIN, 0, 16⟩
/-- WDG_TASKS, tasks in force (R461). -/
def WDG_TASKS : Nat := 0x1C0018
def WDG_TASKS_IN : Fld := ⟨WDG_TASKS, 16, 16⟩
def WDG_TASKS_REG : Fld := ⟨WDG_TASKS, 0, 16⟩
/-- WDG_TASK_REQ, host tasks requested (R461). -/
def WDG_TASK_REQ : Nat := 0x1C001C
def WDG_TASK_REQ_REQ : Fld := ⟨WDG_TASK_REQ, 12, 4⟩
/-- WDG_CFG_ERR_INFO, configuration error record (R461). -/
def WDG_CFG_ERR_INFO : Nat := 0x1C0020
def WDG_CFG_ERR_INFO_REG_OFFSET : Fld := ⟨WDG_CFG_ERR_INFO, 16, 12⟩
def WDG_CFG_ERR_INFO_FIELD_BIT : Fld := ⟨WDG_CFG_ERR_INFO, 0, 5⟩
/-- WDG_EV_STAT, evidence status (R461). -/
def WDG_EV_STAT : Nat := 0x1C0040
def WDG_EV_STAT_VALID : Fld := ⟨WDG_EV_STAT, 31, 1⟩
def WDG_EV_STAT_CUT : Fld := ⟨WDG_EV_STAT, 30, 1⟩
def WDG_EV_STAT_JOURNALED : Fld := ⟨WDG_EV_STAT, 29, 1⟩
def WDG_EV_STAT_CODE : Fld := ⟨WDG_EV_STAT, 0, 16⟩
/-- WDG_EV_MASK, evidence tasks (R461). -/
def WDG_EV_MASK : Nat := 0x1C0044
def WDG_EV_MASK_IN : Fld := ⟨WDG_EV_MASK, 16, 16⟩
def WDG_EV_MASK_FAIL : Fld := ⟨WDG_EV_MASK, 0, 16⟩
/-- WDG_EV_PC_SA, captured program counter (R461). -/
def WDG_EV_PC_SA : Nat := 0x1C0048
def WDG_EV_PC_SA_VALUE : Fld := ⟨WDG_EV_PC_SA, 0, 32⟩
/-- WDG_EV_PC_SB, captured program counter (R461). -/
def WDG_EV_PC_SB : Nat := 0x1C004C
def WDG_EV_PC_SB_VALUE : Fld := ⟨WDG_EV_PC_SB, 0, 32⟩
/-- WDG_EV_PC_S0, captured program counter (R461). -/
def WDG_EV_PC_S0 : Nat := 0x1C0050
def WDG_EV_PC_S0_VALUE : Fld := ⟨WDG_EV_PC_S0, 0, 32⟩
/-- WDG_EV_PC_S1, captured program counter (R461). -/
def WDG_EV_PC_S1 : Nat := 0x1C0054
def WDG_EV_PC_S1_VALUE : Fld := ⟨WDG_EV_PC_S1, 0, 32⟩
/-- WDG_EV_TS_LO, last good service (R461). -/
def WDG_EV_TS_LO : Nat := 0x1C0058
def WDG_EV_TS_LO_VALUE : Fld := ⟨WDG_EV_TS_LO, 0, 32⟩
/-- WDG_EV_TS_HI, last good service (R461). -/
def WDG_EV_TS_HI : Nat := 0x1C005C
def WDG_EV_TS_HI_VALUE : Fld := ⟨WDG_EV_TS_HI, 0, 32⟩
/-- WDG_EV_CNT, failure count (R461). -/
def WDG_EV_CNT : Nat := 0x1C0060
def WDG_EV_CNT_EXP_CNT : Fld := ⟨WDG_EV_CNT, 0, 16⟩
/-- HST_CTRL, host port control (R447). -/
def HST_CTRL : Nat := 0x1D0000
def HST_CTRL_CNT_CLR : Fld := ⟨HST_CTRL, 2, 1⟩
def HST_CTRL_DUMMY : Fld := ⟨HST_CTRL, 0, 2⟩
/-- HST_STAT, host port status (R447). -/
def HST_STAT : Nat := 0x1D0004
def HST_STAT_CFG_ERR : Fld := ⟨HST_STAT, 31, 1⟩
def HST_STAT_I2C_TMO_EV : Fld := ⟨HST_STAT, 3, 1⟩
def HST_STAT_CMD_EV : Fld := ⟨HST_STAT, 2, 1⟩
def HST_STAT_LATE_EV : Fld := ⟨HST_STAT, 1, 1⟩
def HST_STAT_FRAME_EV : Fld := ⟨HST_STAT, 0, 1⟩
/-- HST_CNT, host port counters (R447). -/
def HST_CNT : Nat := 0x1D0008
def HST_CNT_LATE_CNT : Fld := ⟨HST_CNT, 16, 16⟩
def HST_CNT_FRAME_CNT : Fld := ⟨HST_CNT, 0, 16⟩
/-- HST_CFG_ERR_INFO, configuration error record (R447). -/
def HST_CFG_ERR_INFO : Nat := 0x1D000C
def HST_CFG_ERR_INFO_REG_OFFSET : Fld := ⟨HST_CFG_ERR_INFO, 16, 12⟩
def HST_CFG_ERR_INFO_FIELD_BIT : Fld := ⟨HST_CFG_ERR_INFO, 0, 5⟩
/-- HST_I2C_ADDR, I²C address (R447). -/
def HST_I2C_ADDR : Nat := 0x1D0010
def HST_I2C_ADDR_ADDR : Fld := ⟨HST_I2C_ADDR, 0, 7⟩
/-- HST_GPIO_IN, GPIO levels (R447). -/
def HST_GPIO_IN : Nat := 0x1D0020
def HST_GPIO_IN_LEVEL : Fld := ⟨HST_GPIO_IN, 0, 16⟩
/-- HST_GPIO_OUT, GPIO outputs (R447). -/
def HST_GPIO_OUT : Nat := 0x1D0024
def HST_GPIO_OUT_LEVEL : Fld := ⟨HST_GPIO_OUT, 0, 16⟩
/-- HST_GPIO_EDGE, GPIO interrupt edges (R447). -/
def HST_GPIO_EDGE : Nat := 0x1D0028
def HST_GPIO_EDGE_EDGE (i : Nat) : Fld := ⟨HST_GPIO_EDGE, 2 * i + 0, 2⟩
/-- HST_GPIO_FUNC_LO, GPIO_0 to GPIO_7 functions (R447). -/
def HST_GPIO_FUNC_LO : Nat := 0x1D002C
def HST_GPIO_FUNC_LO_FUNC (i : Nat) : Fld := ⟨HST_GPIO_FUNC_LO, 4 * i + 0, 4⟩
/-- HST_GPIO_FUNC_HI, GPIO_8 to GPIO_15 functions (R447). -/
def HST_GPIO_FUNC_HI : Nat := 0x1D0030
def HST_GPIO_FUNC_HI_FUNC (i : Nat) : Fld := ⟨HST_GPIO_FUNC_HI, 4 * i + 0, 4⟩

/-- The registers of block GLB, with their field tables. -/
def glbRegs : List RegDef := [
  ⟨0x0, 0x4, 1, 0x4, 1, [⟨16, 16, .ro, 0x4850, 2, []⟩,
    ⟨8, 8, .ro, 0xC, 2, []⟩,
    ⟨0, 8, .ro, 0x1, 2, []⟩]⟩,
  ⟨0x4, 0x4, 1, 0x4, 1, [⟨0, 32, .ro, 0x0, 2, []⟩]⟩,
  ⟨0x8, 0x4, 1, 0x4, 1, [⟨0, 32, .ro, 0x0, 2, []⟩]⟩,
  ⟨0xC, 0x4, 1, 0x4, 1, [⟨31, 1, .rw1c, 0x0, 2, []⟩,
    ⟨30, 1, .rw1c, 0x0, 2, []⟩,
    ⟨29, 1, .rw1c, 0x0, 2, []⟩,
    ⟨0, 3, .ro, 0x5, 5, []⟩]⟩,
  ⟨0x10, 0x4, 1, 0x4, 1, [⟨30, 2, .ro, 0x0, 2, []⟩,
    ⟨27, 3, .ro, 0x0, 2, []⟩]⟩,
  ⟨0x14, 0x4, 1, 0x4, 1, [⟨0, 32, .ro, 0x0, 2, []⟩]⟩,
  ⟨0x18, 0x4, 1, 0x4, 1, [⟨0, 32, .rw, 0x0, 2, []⟩]⟩,
  ⟨0x1C, 0x4, 1, 0x4, 1, [⟨16, 16, .ro, 0x0, 3, []⟩,
    ⟨1, 14, .rw1c, 0x0, 3, []⟩]⟩,
  ⟨0x20, 0x4, 1, 0x4, 1, [⟨24, 8, .wo, 0x0, 2, []⟩,
    ⟨0, 1, .wo, 0x0, 2, []⟩]⟩,
  ⟨0x24, 0x4, 1, 0x4, 1, [⟨9, 4, .rw, 0x0, 3, []⟩,
    ⟨8, 1, .rw, 0x1, 3, []⟩,
    ⟨0, 8, .rw, 0x0, 3, []⟩]⟩]

/-- The registers of block RPC, with their field tables. -/
def rpcRegs : List RegDef := [
  ⟨0x10000, 0x4, 1, 0x4, 1, [⟨0, 9, .rw1c, 0x0, 1, []⟩]⟩,
  ⟨0x10004, 0x4, 1, 0x4, 1, [⟨16, 16, .ro, 0x0, 1, []⟩,
    ⟨8, 4, .ro, 0x0, 1, []⟩,
    ⟨6, 2, .ro, 0x0, 1, []⟩,
    ⟨3, 3, .ro, 0x0, 5, []⟩,
    ⟨0, 3, .ro, 0x0, 5, []⟩]⟩,
  ⟨0x10008, 0x4, 1, 0x4, 1, [⟨16, 16, .wo, 0x0, 2, [(0x5E7A, 0x5E7A)]⟩]⟩,
  ⟨0x1000C, 0x4, 1, 0x4, 1, [⟨16, 16, .ro, 0x0, 1, []⟩,
    ⟨14, 2, .ro, 0x0, 1, []⟩,
    ⟨13, 1, .ro, 0x0, 3, []⟩,
    ⟨0, 9, .ro, 0x0, 1, []⟩]⟩,
  ⟨0x10010, 0x4, 1, 0x4, 1, [⟨0, 32, .ro, 0x0, 3, []⟩]⟩,
  ⟨0x10014, 0x4, 1, 0x4, 1, [⟨12, 2, .wo, 0x0, 4, [(0x0, 0x2)]⟩,
    ⟨0, 10, .rw, 0x0, 4, []⟩]⟩,
  ⟨0x10018, 0x4, 1, 0x4, 1, [⟨0, 32, .wo, 0x0, 4, []⟩]⟩,
  ⟨0x1001C, 0x4, 1, 0x4, 1, [⟨30, 2, .ro, 0x0, 4, []⟩,
    ⟨26, 4, .ro, 0x0, 4, []⟩,
    ⟨16, 10, .ro, 0x0, 4, []⟩,
    ⟨0, 11, .ro, 0x400, 4, []⟩]⟩,
  ⟨0x10020, 0x4, 1, 0x4, 1, [⟨31, 1, .rw1c, 0x0, 2, []⟩,
    ⟨16, 12, .ro, 0x0, 2, []⟩,
    ⟨0, 5, .ro, 0x0, 2, []⟩]⟩]

/-- The registers of block OTP, with their field tables. -/
def otpRegs : List RegDef := [
  ⟨0x20000, 0x4, 1, 0x4, 1, [⟨24, 8, .wo, 0x0, 2, []⟩,
    ⟨16, 2, .wo, 0x0, 2, [(0x0, 0x2)]⟩,
    ⟨0, 9, .rw, 0x0, 2, []⟩]⟩,
  ⟨0x20004, 0x4, 1, 0x4, 1, [⟨0, 32, .rw, 0x0, 2, []⟩]⟩,
  ⟨0x20008, 0x4, 1, 0x4, 1, [⟨0, 32, .ro, 0x0, 2, []⟩]⟩,
  ⟨0x2000C, 0x4, 1, 0x4, 1, [⟨31, 1, .rw1c, 0x0, 2, []⟩,
    ⟨16, 1, .ro, 0x0, 2, []⟩,
    ⟨12, 4, .ro, 0x0, 2, []⟩,
    ⟨8, 1, .ro, 0x0, 2, []⟩,
    ⟨0, 8, .ro, 0x0, 2, []⟩]⟩,
  ⟨0x20010, 0x4, 1, 0x4, 1, [⟨7, 1, .rws, 0x0, 2, []⟩,
    ⟨6, 1, .rws, 0x0, 2, []⟩,
    ⟨5, 1, .rws, 0x0, 2, []⟩,
    ⟨4, 1, .rws, 0x0, 2, []⟩,
    ⟨3, 1, .rws, 0x0, 2, []⟩,
    ⟨2, 1, .rws, 0x0, 2, []⟩,
    ⟨1, 1, .rws, 0x0, 2, []⟩,
    ⟨0, 1, .rws, 0x0, 2, []⟩]⟩,
  ⟨0x20014, 0x4, 1, 0x4, 1, [⟨16, 12, .ro, 0x0, 2, []⟩,
    ⟨0, 5, .ro, 0x0, 2, []⟩]⟩]

/-- The registers of block STM, with their field tables. -/
def stmRegs : List RegDef := [
  ⟨0x30000, 0x4, 1, 0x4, 1, [⟨8, 4, .rw, 0x8, 2, [(0x1, 0x8)]⟩,
    ⟨1, 1, .rw, 0x1, 2, []⟩,
    ⟨0, 1, .wo, 0x0, 2, []⟩]⟩,
  ⟨0x30004, 0x4, 1, 0x4, 1, [⟨31, 1, .rw1c, 0x0, 2, []⟩,
    ⟨17, 3, .ro, 0x0, 2, []⟩,
    ⟨16, 1, .ro, 0x0, 2, []⟩,
    ⟨15, 1, .ro, 0x0, 2, []⟩,
    ⟨12, 2, .ro, 0x0, 2, []⟩,
    ⟨11, 1, .rw1c, 0x0, 2, []⟩,
    ⟨10, 1, .ro, 0x0, 2, []⟩,
    ⟨8, 1, .ro, 0x0, 2, []⟩,
    ⟨7, 1, .rw1c, 0x0, 2, []⟩,
    ⟨6, 1, .ro, 0x0, 2, []⟩,
    ⟨5, 1, .rw1c, 0x0, 2, []⟩]⟩,
  ⟨0x30008, 0x4, 1, 0x4, 1, [⟨0, 32, .rw, 0x11E54C6, 2, []⟩]⟩,
  ⟨0x3000C, 0x4, 1, 0x4, 1, [⟨0, 32, .ro, 0x0, 2, []⟩]⟩,
  ⟨0x30010, 0x4, 1, 0x4, 1, [⟨0, 32, .ro, 0x0, 2, []⟩]⟩,
  ⟨0x30014, 0x4, 1, 0x4, 1, [⟨0, 32, .ro, 0x0, 2, []⟩]⟩,
  ⟨0x30018, 0x4, 1, 0x4, 1, [⟨0, 32, .rw, 0x0, 2, []⟩]⟩,
  ⟨0x3001C, 0x4, 1, 0x4, 1, [⟨0, 32, .rw, 0x0, 2, []⟩]⟩,
  ⟨0x30020, 0x4, 1, 0x4, 1, [⟨16, 12, .ro, 0x0, 2, []⟩,
    ⟨0, 5, .ro, 0x0, 2, []⟩]⟩]

/-- The registers of block BKD, with their field tables. -/
def bkdRegs : List RegDef := [
  ⟨0x40000, 0x4, 1, 0x4, 1, [⟨0, 32, .ro, 0x0, 0, []⟩]⟩,
  ⟨0x40004, 0x4, 1, 0x4, 1, [⟨16, 4, .ro, 0x0, 0, []⟩,
    ⟨0, 15, .ro, 0x0, 0, []⟩]⟩,
  ⟨0x40008, 0x4, 1, 0x4, 1, [⟨16, 7, .ro, 0x0, 0, []⟩,
    ⟨8, 7, .ro, 0x0, 0, []⟩,
    ⟨0, 7, .ro, 0x0, 0, []⟩]⟩,
  ⟨0x4000C, 0x4, 1, 0x4, 1, [⟨16, 16, .ro, 0x2000, 0, []⟩,
    ⟨13, 3, .ro, 0x6, 0, []⟩,
    ⟨8, 5, .ro, 0x1, 0, []⟩,
    ⟨0, 6, .ro, 0x1, 0, []⟩]⟩,
  ⟨0x40010, 0x4, 1, 0x4, 1, [⟨31, 1, .rw1c, 0x0, 2, []⟩,
    ⟨11, 1, .ro, 0x0, 2, []⟩,
    ⟨10, 1, .ro, 0x0, 0, []⟩,
    ⟨9, 1, .ro, 0x0, 0, []⟩,
    ⟨8, 1, .rw1c, 0x0, 0, []⟩,
    ⟨5, 3, .ro, 0x0, 0, []⟩,
    ⟨4, 1, .rw1c, 0x0, 0, []⟩,
    ⟨3, 1, .ro, 0x0, 2, []⟩,
    ⟨2, 1, .rw1c, 0x1, 0, []⟩,
    ⟨1, 1, .ro, 0x1, 0, []⟩]⟩,
  ⟨0x40014, 0x4, 1, 0x4, 1, [⟨3, 1, .rw, 0x0, 0, []⟩,
    ⟨0, 2, .wo, 0x0, 0, [(0x0, 0x2)]⟩]⟩,
  ⟨0x40018, 0x4, 1, 0x4, 1, [⟨0, 32, .rw, 0x0, 0, []⟩]⟩,
  ⟨0x4001C, 0x4, 1, 0x4, 1, [⟨16, 4, .rw, 0x0, 0, []⟩,
    ⟨0, 15, .rw, 0x0, 0, []⟩]⟩,
  ⟨0x40020, 0x4, 1, 0x4, 1, [⟨16, 7, .rw, 0x0, 0, []⟩,
    ⟨8, 7, .rw, 0x0, 0, []⟩,
    ⟨0, 7, .rw, 0x0, 0, []⟩]⟩,
  ⟨0x40024, 0x4, 1, 0x4, 1, [⟨16, 16, .rw, 0x2000, 0, []⟩,
    ⟨13, 3, .rw, 0x0, 0, []⟩,
    ⟨8, 5, .rw, 0x1, 0, []⟩,
    ⟨0, 6, .rw, 0x1, 0, []⟩]⟩,
  ⟨0x40028, 0x4, 1, 0x4, 1, [⟨0, 32, .rw, 0x0, 0, []⟩]⟩,
  ⟨0x4002C, 0x4, 1, 0x4, 1, [⟨0, 4, .rw, 0x0, 0, []⟩]⟩,
  ⟨0x40030, 0x4, 1, 0x4, 1, [⟨0, 9, .rw, 0x0, 0, [(0x0, 0xFF), (0x101, 0x1FF)]⟩]⟩,
  ⟨0x40034, 0x4, 1, 0x4, 1, [⟨2, 4, .rw, 0x0, 0, []⟩,
    ⟨10, 4, .rw, 0x0, 0, []⟩,
    ⟨18, 4, .rw, 0x0, 0, []⟩,
    ⟨26, 4, .rw, 0x0, 0, []⟩,
    ⟨0, 2, .rw, 0x0, 0, []⟩,
    ⟨8, 2, .rw, 0x0, 0, []⟩,
    ⟨16, 2, .rw, 0x0, 0, []⟩,
    ⟨24, 2, .rw, 0x0, 0, []⟩]⟩,
  ⟨0x40038, 0x4, 1, 0x4, 1, [⟨0, 32, .ro, 0x0, 0, []⟩]⟩,
  ⟨0x4003C, 0x4, 1, 0x4, 1, [⟨31, 1, .ro, 0x0, 0, []⟩,
    ⟨30, 1, .ro, 0x0, 0, []⟩,
    ⟨28, 2, .ro, 0x0, 0, []⟩,
    ⟨24, 4, .ro, 0x0, 0, []⟩,
    ⟨23, 1, .ro, 0x0, 0, []⟩,
    ⟨0, 15, .ro, 0x0, 0, []⟩]⟩,
  ⟨0x40040, 0x4, 1, 0x4, 1, [⟨17, 1, .wo, 0x0, 0, []⟩,
    ⟨16, 1, .wo, 0x0, 0, []⟩,
    ⟨8, 8, .ro, 0x0, 0, []⟩,
    ⟨0, 5, .ro, 0x0, 0, []⟩]⟩,
  ⟨0x40048, 0x4, 1, 0x4, 1, [⟨16, 12, .ro, 0x0, 2, []⟩,
    ⟨0, 5, .ro, 0x0, 2, []⟩]⟩]

/-- The registers of block BND, with their field tables. -/
def bndRegs : List RegDef := [
  ⟨0x50000, 0x4, 1, 0x4, 1, [⟨24, 8, .wo, 0x0, 3, []⟩,
    ⟨10, 1, .wo, 0x0, 3, []⟩,
    ⟨8, 2, .wo, 0x0, 3, [(0x0, 0x2)]⟩,
    ⟨0, 3, .wo, 0x0, 3, [(0x0, 0x3)]⟩]⟩,
  ⟨0x50004, 0x4, 1, 0x4, 1, [⟨0, 32, .wo, 0x0, 3, []⟩]⟩,
  ⟨0x50008, 0x4, 1, 0x4, 1, [⟨31, 1, .rw1c, 0x0, 2, []⟩,
    ⟨28, 3, .ro, 0x0, 3, []⟩,
    ⟨25, 3, .ro, 0x0, 3, []⟩,
    ⟨23, 2, .ro, 0x0, 4, []⟩,
    ⟨22, 1, .ro, 0x0, 4, []⟩,
    ⟨21, 1, .ro, 0x0, 3, []⟩,
    ⟨20, 1, .ro, 0x0, 3, []⟩,
    ⟨0, 17, .ro, 0x0, 3, []⟩]⟩,
  ⟨0x5000C, 0x4, 1, 0x4, 1, [⟨0, 32, .ro, 0x0, 3, []⟩]⟩,
  ⟨0x50010, 0x4, 1, 0x4, 1, [⟨0, 32, .ro, 0x0, 3, []⟩]⟩,
  ⟨0x50014, 0x4, 1, 0x4, 1, [⟨24, 8, .ro, 0x0, 3, []⟩,
    ⟨0, 9, .ro, 0x0, 3, []⟩]⟩,
  ⟨0x50018, 0x4, 1, 0x4, 1, [⟨0, 17, .ro, 0x0, 3, []⟩]⟩,
  ⟨0x5001C, 0x4, 1, 0x4, 1, [⟨0, 32, .ro, 0x0, 3, []⟩]⟩,
  ⟨0x50020, 0x4, 1, 0x4, 1, [⟨0, 32, .ro, 0x0, 3, []⟩]⟩,
  ⟨0x50024, 0x4, 1, 0x4, 1, [⟨16, 12, .ro, 0x0, 2, []⟩,
    ⟨0, 5, .ro, 0x0, 2, []⟩]⟩,
  ⟨0x50100, 0x4, 8, 0x4, 1, [⟨0, 8, .ro, 0x0, 3, []⟩,
    ⟨8, 8, .ro, 0x0, 3, []⟩,
    ⟨16, 8, .ro, 0x0, 3, []⟩,
    ⟨24, 8, .ro, 0x0, 3, []⟩]⟩]

/-- The registers of block BRK, with their field tables. -/
def brkRegs : List RegDef := [
  ⟨0x100000, 0x1000, 16, 0x4, 1, [⟨28, 2, .ro, 0x0, 3, []⟩,
    ⟨24, 4, .ro, 0x0, 3, []⟩,
    ⟨20, 4, .ro, 0x0, 3, []⟩,
    ⟨16, 2, .ro, 0x0, 3, []⟩,
    ⟨8, 8, .ro, 0x0, 3, []⟩,
    ⟨0, 8, .ro, 0x0, 3, []⟩]⟩,
  ⟨0x100004, 0x1000, 16, 0x4, 1, [⟨31, 1, .rw1c, 0x0, 3, []⟩,
    ⟨24, 3, .ro, 0x0, 3, []⟩,
    ⟨10, 1, .rw1c, 0x0, 3, []⟩,
    ⟨9, 1, .rw1c, 0x0, 3, []⟩,
    ⟨8, 1, .rw1c, 0x0, 3, []⟩,
    ⟨7, 1, .ro, 0x0, 3, []⟩,
    ⟨6, 1, .ro, 0x0, 3, []⟩,
    ⟨5, 1, .ro, 0x0, 3, []⟩,
    ⟨4, 1, .ro, 0x0, 3, []⟩,
    ⟨3, 1, .ro, 0x0, 3, []⟩,
    ⟨2, 1, .ro, 0x0, 3, []⟩,
    ⟨1, 1, .ro, 0x0, 3, []⟩,
    ⟨0, 1, .ro, 0x0, 3, []⟩]⟩,
  ⟨0x100008, 0x1000, 16, 0x4, 1, [⟨0, 24, .ro, 0x0, 3, []⟩]⟩,
  ⟨0x10000C, 0x1000, 16, 0x4, 1, [⟨0, 24, .ro, 0x0, 3, []⟩]⟩,
  ⟨0x100010, 0x1000, 16, 0x4, 1, [⟨0, 24, .ro, 0x0, 3, []⟩]⟩,
  ⟨0x100014, 0x1000, 16, 0x4, 1, [⟨0, 24, .ro, 0x0, 3, []⟩]⟩,
  ⟨0x100018, 0x1000, 16, 0x4, 1, [⟨16, 1, .rw, 0x0, 3, []⟩,
    ⟨0, 16, .rw, 0x0, 3, []⟩]⟩,
  ⟨0x10001C, 0x1000, 16, 0x4, 1, [⟨0, 24, .rw, 0x0, 3, [(0x1, 0xFFFFFF)]⟩]⟩,
  ⟨0x100020, 0x1000, 16, 0x4, 1, [⟨0, 32, .ro, 0x0, 3, []⟩]⟩,
  ⟨0x100024, 0x1000, 16, 0x4, 1, [⟨16, 16, .ro, 0x0, 3, []⟩,
    ⟨0, 16, .ro, 0x0, 3, []⟩]⟩,
  ⟨0x100028, 0x1000, 16, 0x4, 1, [⟨0, 32, .ro, 0x0, 3, []⟩]⟩,
  ⟨0x10002C, 0x1000, 16, 0x4, 1, [⟨0, 24, .rw, 0x0, 3, []⟩]⟩,
  ⟨0x100030, 0x1000, 16, 0x4, 1, [⟨16, 15, .rw, 0x0, 3, [(0x1, 0x7FFF)]⟩,
    ⟨0, 16, .rw, 0x0, 3, [(0x1, 0xFFFF)]⟩]⟩,
  ⟨0x100034, 0x1000, 16, 0x4, 1, [⟨24, 8, .ro, 0x0, 3, []⟩,
    ⟨16, 8, .ro, 0x0, 3, []⟩,
    ⟨0, 16, .ro, 0x0, 3, []⟩]⟩,
  ⟨0x100038, 0x1000, 16, 0x4, 1, [⟨1, 1, .wo, 0x0, 3, []⟩,
    ⟨0, 1, .wo, 0x0, 3, []⟩]⟩,
  ⟨0x10003C, 0x1000, 16, 0x4, 1, [⟨16, 12, .ro, 0x0, 3, []⟩,
    ⟨0, 5, .ro, 0x0, 3, []⟩]⟩,
  ⟨0x100100, 0x1000, 16, 0x4, 9, [⟨24, 8, .rw, 0x0, 3, []⟩,
    ⟨0, 24, .rw, 0x0, 3, []⟩]⟩,
  ⟨0x100124, 0x1000, 16, 0x4, 1, [⟨0, 15, .rw, 0x0, 3, []⟩]⟩,
  ⟨0x100128, 0x1000, 16, 0x4, 1, [⟨24, 8, .rw, 0x0, 3, []⟩,
    ⟨0, 24, .rw, 0x0, 3, []⟩]⟩,
  ⟨0x10012C, 0x1000, 16, 0x4, 1, [⟨24, 8, .rw, 0x0, 3, []⟩,
    ⟨0, 24, .rw, 0x0, 3, []⟩]⟩,
  ⟨0x100200, 0x1000, 16, 0x4, 1, [⟨10, 2, .ro, 0x0, 3, []⟩,
    ⟨8, 2, .ro, 0x0, 3, []⟩,
    ⟨3, 1, .ro, 0x0, 3, []⟩,
    ⟨2, 1, .ro, 0x0, 3, []⟩,
    ⟨1, 1, .ro, 0x0, 3, []⟩]⟩,
  ⟨0x100204, 0x1000, 16, 0x4, 1, [⟨5, 1, .rw1c, 0x0, 3, []⟩,
    ⟨4, 1, .rw1c, 0x0, 3, []⟩,
    ⟨3, 1, .rw1c, 0x0, 3, []⟩,
    ⟨2, 1, .rw1c, 0x0, 3, []⟩,
    ⟨1, 1, .rw1c, 0x0, 3, []⟩,
    ⟨0, 1, .rw1c, 0x0, 3, []⟩]⟩,
  ⟨0x100208, 0x1000, 16, 0x4, 1, [⟨24, 8, .ro, 0x0, 3, []⟩,
    ⟨16, 8, .ro, 0x0, 3, []⟩,
    ⟨0, 16, .ro, 0x0, 3, []⟩]⟩,
  ⟨0x10020C, 0x1000, 16, 0x4, 1, [⟨24, 8, .ro, 0x0, 3, []⟩,
    ⟨16, 8, .ro, 0x0, 3, []⟩,
    ⟨0, 16, .ro, 0x0, 3, []⟩]⟩,
  ⟨0x100210, 0x1000, 16, 0x4, 1, [⟨16, 16, .ro, 0x0, 3, []⟩,
    ⟨0, 16, .ro, 0x0, 3, []⟩]⟩,
  ⟨0x100220, 0x1000, 16, 0x4, 1, [⟨16, 9, .rw, 0x0, 3, [(0x14, 0x1F4)]⟩,
    ⟨0, 10, .rw, 0x0, 3, []⟩]⟩,
  ⟨0x100224, 0x1000, 16, 0x4, 1, [⟨16, 14, .rw, 0x0, 3, [(0xA, 0x2710)]⟩,
    ⟨0, 15, .rw, 0x0, 3, [(0x1, 0x7FFF)]⟩]⟩,
  ⟨0x100228, 0x1000, 16, 0x4, 1, [⟨0, 32, .rw, 0x0, 3, [(0x1, 0xFFFFFFFF)]⟩]⟩,
  ⟨0x10022C, 0x1000, 16, 0x4, 1, [⟨0, 32, .ro, 0x0, 3, []⟩]⟩,
  ⟨0x100230, 0x1000, 16, 0x4, 1, [⟨16, 16, .ro, 0x0, 3, []⟩,
    ⟨0, 16, .ro, 0x0, 3, []⟩]⟩,
  ⟨0x100234, 0x1000, 16, 0x4, 1, [⟨6, 2, .ro, 0x0, 3, []⟩,
    ⟨5, 1, .ro, 0x0, 3, []⟩,
    ⟨4, 1, .ro, 0x0, 3, []⟩,
    ⟨3, 1, .ro, 0x0, 3, []⟩,
    ⟨2, 1, .rw1c, 0x0, 3, []⟩]⟩,
  ⟨0x100240, 0x1000, 16, 0x4, 1, [⟨0, 24, .ro, 0x0, 3, []⟩]⟩,
  ⟨0x1002F0, 0x1000, 16, 0x4, 1, [⟨1, 1, .wo, 0x0, 3, []⟩,
    ⟨0, 1, .wo, 0x0, 3, []⟩]⟩]

/-- The registers of block VCP, with their field tables. -/
def vcpRegs : List RegDef := [
  ⟨0x120000, 0x4, 1, 0x4, 1, [⟨1, 1, .wo, 0x0, 4, []⟩,
    ⟨0, 1, .wo, 0x0, 4, []⟩]⟩,
  ⟨0x120004, 0x4, 1, 0x4, 1, [⟨31, 1, .rw1c, 0x0, 4, []⟩,
    ⟨7, 1, .ro, 0x0, 3, []⟩,
    ⟨6, 1, .ro, 0x0, 4, []⟩,
    ⟨3, 1, .rw1c, 0x0, 4, []⟩,
    ⟨2, 1, .rw1c, 0x0, 4, []⟩,
    ⟨1, 1, .rw1c, 0x0, 4, []⟩]⟩,
  ⟨0x120008, 0x4, 1, 0x4, 1, [⟨16, 16, .ro, 0x0, 4, []⟩,
    ⟨0, 16, .ro, 0x0, 4, []⟩]⟩,
  ⟨0x12000C, 0x4, 1, 0x4, 1, [⟨16, 16, .ro, 0x0, 4, []⟩,
    ⟨0, 16, .ro, 0x0, 4, []⟩]⟩,
  ⟨0x120010, 0x4, 1, 0x4, 1, [⟨0, 32, .ro, 0x0, 4, []⟩]⟩,
  ⟨0x120014, 0x4, 1, 0x4, 1, [⟨0, 16, .ro, 0x0, 4, []⟩]⟩,
  ⟨0x120018, 0x4, 1, 0x4, 1, [⟨16, 12, .ro, 0x0, 4, []⟩,
    ⟨0, 5, .ro, 0x0, 4, []⟩]⟩,
  ⟨0x120040, 0x4, 16, 0x4, 1, [⟨16, 8, .ro, 0x0, 3, []⟩,
    ⟨12, 4, .ro, 0x0, 4, []⟩,
    ⟨8, 4, .ro, 0x0, 4, []⟩,
    ⟨4, 4, .ro, 0x0, 4, []⟩]⟩,
  ⟨0x120100, 0x8, 16, 0x4, 1, [⟨0, 4, .ro, 0x8, 4, []⟩,
    ⟨4, 4, .ro, 0x8, 4, []⟩,
    ⟨8, 4, .ro, 0x8, 4, []⟩,
    ⟨12, 4, .ro, 0x8, 4, []⟩,
    ⟨16, 4, .ro, 0x8, 4, []⟩,
    ⟨20, 4, .ro, 0x8, 4, []⟩,
    ⟨24, 4, .ro, 0x8, 4, []⟩,
    ⟨28, 4, .ro, 0x8, 4, []⟩]⟩,
  ⟨0x120104, 0x8, 16, 0x4, 1, [⟨0, 4, .ro, 0x8, 4, []⟩,
    ⟨4, 4, .ro, 0x8, 4, []⟩,
    ⟨8, 4, .ro, 0x8, 4, []⟩,
    ⟨12, 4, .ro, 0x8, 4, []⟩,
    ⟨16, 4, .ro, 0x8, 4, []⟩,
    ⟨20, 4, .ro, 0x8, 4, []⟩,
    ⟨24, 4, .ro, 0x8, 4, []⟩,
    ⟨28, 4, .ro, 0x8, 4, []⟩]⟩]

/-- The registers of block SEQ, with their field tables. -/
def seqRegs : List RegDef := [
  ⟨0x130000, 0x4, 1, 0x4, 1, [⟨24, 8, .wo, 0x0, 3, []⟩,
    ⟨3, 1, .wo, 0x0, 3, []⟩,
    ⟨2, 1, .wo, 0x0, 3, []⟩,
    ⟨1, 1, .wo, 0x0, 3, []⟩,
    ⟨0, 1, .wo, 0x0, 3, []⟩]⟩,
  ⟨0x130004, 0x4, 1, 0x4, 1, [⟨8, 1, .wo, 0x0, 3, []⟩,
    ⟨0, 8, .rw, 0x0, 3, [(0x0, 0xFE)]⟩]⟩,
  ⟨0x130008, 0x4, 1, 0x4, 1, [⟨31, 1, .rw1c, 0x0, 3, []⟩,
    ⟨28, 3, .ro, 0x6, 3, []⟩,
    ⟨26, 2, .ro, 0x0, 3, []⟩,
    ⟨25, 1, .ro, 0x0, 3, []⟩,
    ⟨24, 1, .ro, 0x0, 3, []⟩,
    ⟨22, 2, .ro, 0x0, 3, []⟩,
    ⟨21, 1, .ro, 0x0, 3, []⟩,
    ⟨20, 1, .ro, 0x0, 3, []⟩,
    ⟨19, 1, .ro, 0x0, 3, []⟩,
    ⟨18, 1, .ro, 0x0, 3, []⟩,
    ⟨16, 2, .ro, 0x0, 3, []⟩,
    ⟨8, 8, .ro, 0x0, 3, []⟩,
    ⟨0, 8, .ro, 0x0, 3, []⟩]⟩,
  ⟨0x13000C, 0x4, 1, 0x4, 1, [⟨9, 1, .rw1c, 0x0, 3, []⟩,
    ⟨8, 1, .rw1c, 0x0, 3, []⟩,
    ⟨7, 1, .rw1c, 0x0, 3, []⟩,
    ⟨6, 1, .rw1c, 0x0, 3, []⟩,
    ⟨5, 1, .rw1c, 0x0, 3, []⟩,
    ⟨4, 1, .rw1c, 0x0, 3, []⟩,
    ⟨3, 1, .rw1c, 0x0, 3, []⟩,
    ⟨2, 1, .rw1c, 0x0, 3, []⟩,
    ⟨1, 1, .rw1c, 0x0, 3, []⟩,
    ⟨0, 1, .rw1c, 0x0, 3, []⟩]⟩,
  ⟨0x130010, 0x4, 1, 0x4, 1, [⟨31, 1, .ro, 0x0, 3, []⟩,
    ⟨30, 1, .ro, 0x0, 3, []⟩,
    ⟨29, 1, .ro, 0x0, 3, []⟩,
    ⟨16, 12, .ro, 0x0, 3, []⟩,
    ⟨0, 16, .ro, 0x0, 3, []⟩]⟩,
  ⟨0x130014, 0x4, 1, 0x4, 1, [⟨16, 16, .rw, 0x1388, 3, [(0x1, 0xFFFF)]⟩,
    ⟨0, 16, .rw, 0xFA0, 3, [(0x1, 0xFFFF)]⟩]⟩,
  ⟨0x130018, 0x4, 1, 0x4, 1, [⟨24, 8, .ro, 0x0, 3, []⟩,
    ⟨16, 8, .ro, 0x0, 3, []⟩,
    ⟨0, 16, .ro, 0x0, 3, []⟩]⟩,
  ⟨0x13001C, 0x4, 1, 0x4, 1, [⟨16, 12, .ro, 0x0, 3, []⟩,
    ⟨0, 5, .ro, 0x0, 3, []⟩]⟩,
  ⟨0x130020, 0x4, 1, 0x4, 1, [⟨0, 21, .ro, 0x0, 3, []⟩]⟩,
  ⟨0x130024, 0x4, 1, 0x4, 1, [⟨0, 21, .ro, 0x0, 3, []⟩]⟩,
  ⟨0x130028, 0x4, 1, 0x4, 1, [⟨1, 1, .ro, 0x0, 3, []⟩,
    ⟨0, 1, .ro, 0x0, 3, []⟩]⟩,
  ⟨0x130030, 0x4, 1, 0x4, 1, [⟨16, 12, .ro, 0x0, 3, []⟩,
    ⟨8, 8, .ro, 0x0, 3, []⟩,
    ⟨0, 8, .ro, 0x0, 3, []⟩]⟩,
  ⟨0x130100, 0x10, 21, 0x4, 1, [⟨16, 10, .rw, 0x0, 3, []⟩,
    ⟨0, 10, .rw, 0x0, 3, []⟩]⟩,
  ⟨0x130104, 0x10, 21, 0x4, 1, [⟨16, 8, .ro, 0x0, 3, []⟩,
    ⟨0, 8, .rw, 0x0, 3, []⟩]⟩,
  ⟨0x130108, 0x10, 21, 0x4, 1, [⟨30, 2, .ro, 0x0, 3, []⟩,
    ⟨29, 1, .ro, 0x0, 3, []⟩,
    ⟨28, 1, .ro, 0x0, 3, []⟩,
    ⟨0, 16, .ro, 0x0, 3, []⟩]⟩,
  ⟨0x13010C, 0x10, 21, 0x4, 1, [⟨0, 16, .rw, 0x0, 3, []⟩]⟩]

/-- The registers of block MSR, with their field tables. -/
def msrRegs : List RegDef := [
  ⟨0x140000, 0x4, 1, 0x4, 1, [⟨2, 1, .wo, 0x0, 3, []⟩,
    ⟨1, 1, .wo, 0x0, 3, []⟩,
    ⟨0, 1, .wo, 0x0, 3, []⟩]⟩,
  ⟨0x140004, 0x4, 1, 0x4, 1, [⟨31, 1, .rw1c, 0x0, 3, []⟩,
    ⟨8, 2, .ro, 0x0, 3, []⟩,
    ⟨7, 1, .rw1c, 0x0, 3, []⟩,
    ⟨6, 1, .ro, 0x0, 3, []⟩,
    ⟨2, 1, .rw1c, 0x0, 3, []⟩,
    ⟨1, 1, .rw1c, 0x0, 3, []⟩,
    ⟨0, 1, .rw1c, 0x0, 3, []⟩]⟩,
  ⟨0x140008, 0x4, 1, 0x4, 1, [⟨24, 8, .ro, 0x0, 3, []⟩,
    ⟨16, 8, .ro, 0x0, 3, []⟩,
    ⟨0, 16, .ro, 0x0, 3, []⟩]⟩,
  ⟨0x14000C, 0x4, 1, 0x4, 1, [⟨24, 5, .ro, 0x0, 3, []⟩,
    ⟨0, 23, .ro, 0x0, 3, []⟩]⟩,
  ⟨0x140010, 0x4, 1, 0x4, 1, [⟨24, 6, .ro, 0x0, 3, []⟩,
    ⟨16, 4, .rw, 0x4, 3, [(0x0, 0xA)]⟩,
    ⟨0, 16, .rw, 0x1, 3, [(0x1, 0xFFFF)]⟩]⟩,
  ⟨0x140014, 0x4, 1, 0x4, 1, [⟨31, 1, .ro, 0x0, 3, []⟩,
    ⟨24, 3, .rw, 0x0, 3, [(0x0, 0x3)]⟩,
    ⟨16, 5, .rw, 0x0, 3, []⟩,
    ⟨12, 1, .rw, 0x0, 3, []⟩,
    ⟨0, 12, .rw, 0x0, 3, []⟩]⟩,
  ⟨0x140018, 0x4, 1, 0x4, 1, [⟨24, 8, .rw, 0x32, 3, [(0x1, 0xFF)]⟩,
    ⟨16, 8, .rw, 0x1, 3, [(0x1, 0x64)]⟩,
    ⟨8, 6, .rw, 0x0, 3, []⟩,
    ⟨0, 6, .rw, 0x0, 3, []⟩]⟩,
  ⟨0x14001C, 0x4, 1, 0x4, 1, [⟨0, 32, .ro, 0x0, 3, []⟩]⟩,
  ⟨0x140020, 0x4, 1, 0x4, 1, [⟨31, 1, .ro, 0x0, 3, []⟩,
    ⟨24, 1, .ro, 0x0, 3, []⟩,
    ⟨22, 2, .ro, 0x0, 3, []⟩,
    ⟨0, 6, .ro, 0x0, 3, []⟩]⟩,
  ⟨0x140024, 0x4, 1, 0x4, 1, [⟨16, 12, .ro, 0x0, 3, []⟩,
    ⟨0, 5, .ro, 0x0, 3, []⟩]⟩,
  ⟨0x140028, 0x4, 1, 0x4, 1, [⟨31, 1, .ro, 0x0, 3, []⟩,
    ⟨30, 1, .ro, 0x0, 3, []⟩,
    ⟨29, 1, .ro, 0x0, 3, []⟩,
    ⟨0, 24, .ro, 0x0, 3, []⟩]⟩,
  ⟨0x14002C, 0x4, 1, 0x4, 1, [⟨0, 32, .ro, 0x0, 3, []⟩]⟩,
  ⟨0x140030, 0x4, 1, 0x4, 1, [⟨0, 32, .ro, 0x0, 3, []⟩]⟩,
  ⟨0x140040, 0x4, 24, 0x4, 1, [⟨16, 16, .ro, 0x0, 3, []⟩,
    ⟨0, 16, .ro, 0x0, 3, []⟩]⟩,
  ⟨0x140100, 0x4, 32, 0x4, 1, [⟨31, 1, .ro, 0x0, 3, []⟩,
    ⟨30, 1, .ro, 0x0, 3, []⟩,
    ⟨29, 1, .ro, 0x0, 3, []⟩,
    ⟨0, 24, .ro, 0x0, 3, []⟩]⟩,
  ⟨0x140180, 0x4, 32, 0x4, 1, [⟨16, 16, .ro, 0x0, 3, []⟩,
    ⟨0, 16, .ro, 0x0, 3, []⟩]⟩,
  ⟨0x140200, 0x4, 24, 0x4, 1, [⟨16, 16, .rw, 0x0, 3, []⟩,
    ⟨0, 16, .rw, 0x0, 3, []⟩]⟩,
  ⟨0x140400, 0x20, 16, 0x4, 1, [⟨31, 1, .rw, 0x0, 3, []⟩,
    ⟨28, 3, .rw, 0x0, 3, [(0x0, 0x2)]⟩,
    ⟨0, 24, .rw, 0x0, 3, []⟩]⟩,
  ⟨0x140404, 0x20, 16, 0x4, 1, [⟨0, 16, .rw, 0x1, 3, [(0x1, 0xFFFF)]⟩]⟩,
  ⟨0x140408, 0x20, 16, 0x4, 1, [⟨0, 18, .rw, 0x0, 3, []⟩]⟩,
  ⟨0x14040C, 0x20, 16, 0x4, 1, [⟨16, 16, .rw, 0x0, 3, []⟩,
    ⟨0, 16, .rw, 0x0, 3, [(0x1, 0x400)]⟩]⟩,
  ⟨0x140410, 0x20, 16, 0x4, 1, [⟨0, 18, .rw, 0x0, 3, []⟩]⟩,
  ⟨0x140414, 0x20, 16, 0x4, 1, [⟨0, 18, .ro, 0x0, 3, []⟩]⟩,
  ⟨0x140418, 0x20, 16, 0x4, 1, [⟨0, 32, .ro, 0x0, 3, []⟩]⟩,
  ⟨0x14041C, 0x20, 16, 0x4, 1, [⟨16, 10, .ro, 0x0, 3, []⟩,
    ⟨0, 8, .ro, 0x0, 3, []⟩]⟩]

/-- The registers of block THM, with their field tables. -/
def thmRegs : List RegDef := [
  ⟨0x150000, 0x4, 1, 0x4, 1, [⟨31, 1, .ro, 0x0, 1, []⟩,
    ⟨8, 5, .ro, 0x0, 1, []⟩,
    ⟨6, 1, .rw1c, 0x0, 3, []⟩,
    ⟨5, 1, .rw1c, 0x0, 3, []⟩,
    ⟨4, 1, .rw1c, 0x0, 3, []⟩,
    ⟨0, 4, .ro, 0x0, 3, []⟩]⟩,
  ⟨0x150004, 0x4, 1, 0x4, 1, [⟨0, 13, .ro, 0x0, 3, []⟩]⟩,
  ⟨0x150008, 0x4, 1, 0x4, 1, [⟨0, 13, .ro, 0x0, 3, []⟩]⟩,
  ⟨0x150100, 0x4, 13, 0x4, 1, [⟨31, 1, .ro, 0x0, 3, []⟩,
    ⟨30, 1, .ro, 0x0, 3, []⟩,
    ⟨29, 1, .ro, 0x0, 3, []⟩,
    ⟨28, 1, .ro, 0x0, 3, []⟩,
    ⟨0, 16, .ro, 0x0, 3, []⟩]⟩,
  ⟨0x150140, 0x4, 13, 0x4, 1, [⟨16, 16, .ro, 0x0, 3, []⟩,
    ⟨0, 16, .ro, 0x0, 3, []⟩]⟩]

/-- The registers of block CEL, with their field tables. -/
def celRegs : List RegDef := [
  ⟨0x160000, 0x4, 1, 0x4, 1, [⟨24, 8, .wo, 0x0, 3, []⟩,
    ⟨2, 1, .wo, 0x0, 3, []⟩,
    ⟨1, 1, .wo, 0x0, 3, []⟩]⟩,
  ⟨0x160004, 0x4, 1, 0x4, 1, [⟨31, 1, .rw1c, 0x0, 3, []⟩,
    ⟨21, 3, .ro, 0x0, 3, []⟩,
    ⟨20, 1, .ro, 0x0, 3, []⟩,
    ⟨19, 1, .ro, 0x0, 3, []⟩,
    ⟨17, 2, .ro, 0x0, 3, []⟩,
    ⟨16, 1, .ro, 0x0, 3, []⟩,
    ⟨12, 4, .ro, 0x0, 3, []⟩,
    ⟨10, 2, .ro, 0x0, 3, []⟩,
    ⟨9, 1, .ro, 0x0, 3, []⟩,
    ⟨8, 1, .ro, 0x0, 3, []⟩,
    ⟨4, 1, .rw1c, 0x0, 3, []⟩,
    ⟨3, 1, .rw1c, 0x0, 3, []⟩,
    ⟨2, 1, .rw1c, 0x0, 3, []⟩,
    ⟨1, 1, .rw1c, 0x0, 3, []⟩,
    ⟨0, 1, .rw1c, 0x0, 3, []⟩]⟩,
  ⟨0x160008, 0x4, 1, 0x4, 1, [⟨16, 16, .ro, 0x0, 3, []⟩,
    ⟨0, 16, .ro, 0x0, 3, []⟩]⟩,
  ⟨0x16000C, 0x4, 1, 0x4, 1, [⟨0, 1, .rw, 0x0, 3, []⟩]⟩,
  ⟨0x160010, 0x4, 1, 0x4, 1, [⟨0, 32, .rw, 0x0, 3, []⟩]⟩,
  ⟨0x160014, 0x4, 1, 0x4, 1, [⟨0, 32, .ro, 0x0, 3, []⟩]⟩,
  ⟨0x160018, 0x4, 1, 0x4, 1, [⟨0, 32, .ro, 0x0, 3, []⟩]⟩,
  ⟨0x16001C, 0x4, 1, 0x4, 1, [⟨0, 5, .ro, 0x10, 3, []⟩]⟩,
  ⟨0x160020, 0x4, 1, 0x4, 1, [⟨16, 12, .ro, 0x0, 3, []⟩,
    ⟨0, 5, .ro, 0x0, 3, []⟩]⟩,
  ⟨0x160100, 0x4, 16, 0x4, 1, [⟨28, 4, .ro, 0x0, 3, []⟩,
    ⟨24, 4, .ro, 0x0, 3, []⟩,
    ⟨22, 2, .ro, 0x0, 3, []⟩,
    ⟨0, 16, .ro, 0x0, 3, []⟩]⟩,
  ⟨0x160200, 0x4, 32, 0x4, 1, [⟨24, 8, .ro, 0x0, 3, []⟩,
    ⟨0, 24, .ro, 0x0, 3, []⟩]⟩,
  ⟨0x160300, 0x4, 32, 0x4, 1, [⟨16, 16, .ro, 0x8000, 3, []⟩,
    ⟨0, 16, .ro, 0x8000, 3, []⟩]⟩,
  ⟨0x164000, 0x200, 32, 0x8, 64, [⟨0, 32, .ro, 0x80000000, 3, []⟩]⟩,
  ⟨0x164004, 0x200, 32, 0x8, 64, [⟨0, 32, .ro, 0x80000000, 3, []⟩]⟩]

/-- The registers of block CPM, with their field tables. -/
def cpmRegs : List RegDef := [
  ⟨0x170000, 0x4, 1, 0x4, 1, [⟨1, 1, .wo, 0x0, 3, []⟩,
    ⟨0, 1, .wo, 0x0, 3, []⟩]⟩,
  ⟨0x170004, 0x4, 1, 0x4, 1, [⟨31, 1, .rw1c, 0x0, 3, []⟩,
    ⟨28, 3, .ro, 0x0, 3, []⟩,
    ⟨24, 4, .ro, 0x0, 3, []⟩,
    ⟨20, 4, .ro, 0x0, 3, []⟩,
    ⟨5, 1, .ro, 0x0, 3, []⟩,
    ⟨4, 1, .ro, 0x0, 3, []⟩,
    ⟨3, 1, .rw1c, 0x0, 3, []⟩,
    ⟨2, 1, .rw1c, 0x0, 3, []⟩,
    ⟨1, 1, .rw1c, 0x0, 3, []⟩,
    ⟨0, 1, .rw1c, 0x0, 3, []⟩]⟩,
  ⟨0x170008, 0x4, 1, 0x4, 1, [⟨16, 16, .ro, 0x0, 3, []⟩,
    ⟨0, 16, .ro, 0x0, 3, []⟩]⟩,
  ⟨0x17000C, 0x4, 1, 0x4, 1, [⟨0, 32, .ro, 0x0, 3, []⟩]⟩,
  ⟨0x170010, 0x4, 1, 0x4, 1, [⟨0, 32, .ro, 0x0, 3, []⟩]⟩,
  ⟨0x170014, 0x4, 1, 0x4, 1, [⟨1, 1, .rw, 0x0, 2, []⟩,
    ⟨0, 1, .rw, 0x0, 2, []⟩]⟩,
  ⟨0x170018, 0x4, 1, 0x4, 1, [⟨16, 16, .ro, 0x0, 2, []⟩,
    ⟨14, 2, .ro, 0x0, 2, []⟩,
    ⟨13, 1, .ro, 0x0, 2, []⟩,
    ⟨12, 1, .ro, 0x0, 2, []⟩,
    ⟨11, 1, .ro, 0x0, 2, []⟩,
    ⟨10, 1, .ro, 0x0, 2, []⟩,
    ⟨9, 1, .ro, 0x0, 2, []⟩,
    ⟨3, 1, .rw1c, 0x0, 2, []⟩,
    ⟨2, 1, .rw1c, 0x0, 2, []⟩,
    ⟨1, 1, .rw1c, 0x0, 2, []⟩,
    ⟨0, 1, .rw1c, 0x0, 2, []⟩]⟩,
  ⟨0x17001C, 0x4, 1, 0x4, 1, [⟨30, 2, .ro, 0x0, 3, []⟩,
    ⟨29, 1, .ro, 0x0, 3, []⟩,
    ⟨28, 1, .ro, 0x0, 3, []⟩,
    ⟨26, 2, .ro, 0x0, 3, []⟩,
    ⟨25, 1, .ro, 0x0, 3, []⟩,
    ⟨0, 15, .ro, 0x0, 3, []⟩]⟩,
  ⟨0x170020, 0x4, 1, 0x4, 1, [⟨16, 12, .ro, 0x0, 3, []⟩,
    ⟨0, 5, .ro, 0x0, 3, []⟩]⟩]

/-- The registers of block MTR, with their field tables. -/
def mtrRegs : List RegDef := [
  ⟨0x180000, 0x4, 1, 0x4, 1, [⟨24, 8, .wo, 0x0, 3, []⟩,
    ⟨0, 1, .wo, 0x0, 3, []⟩]⟩,
  ⟨0x180004, 0x4, 1, 0x4, 1, [⟨31, 1, .rw1c, 0x0, 3, []⟩,
    ⟨21, 3, .ro, 0x0, 1, []⟩,
    ⟨20, 1, .ro, 0x0, 1, []⟩,
    ⟨5, 1, .rw1c, 0x0, 3, []⟩,
    ⟨4, 1, .rw1c, 0x0, 3, []⟩,
    ⟨3, 1, .rw1c, 0x0, 3, []⟩,
    ⟨2, 1, .rw1c, 0x0, 3, []⟩,
    ⟨1, 1, .rw1c, 0x0, 3, []⟩]⟩,
  ⟨0x180008, 0x4, 1, 0x4, 1, [⟨16, 12, .ro, 0x0, 3, []⟩,
    ⟨0, 5, .ro, 0x0, 3, []⟩]⟩,
  ⟨0x18000C, 0x4, 1, 0x4, 1, [⟨0, 17, .ro, 0x0, 3, []⟩]⟩,
  ⟨0x180010, 0x100, 1, 0x4, 10, [⟨0, 32, .ro, 0x0, 1, []⟩]⟩,
  ⟨0x180040, 0x100, 1, 0x4, 14, [⟨0, 32, .ro, 0x0, 1, []⟩]⟩,
  ⟨0x180080, 0x4, 1, 0x4, 1, [⟨16, 16, .rw, 0x0, 3, []⟩,
    ⟨4, 4, .wo, 0x0, 3, []⟩,
    ⟨0, 1, .wo, 0x0, 3, []⟩]⟩,
  ⟨0x180084, 0x4, 1, 0x4, 1, [⟨0, 32, .rw, 0x0, 3, []⟩]⟩,
  ⟨0x180088, 0x4, 1, 0x4, 1, [⟨0, 32, .rw, 0x0, 3, []⟩]⟩,
  ⟨0x18008C, 0x4, 1, 0x4, 1, [⟨4, 2, .ro, 0x0, 3, []⟩,
    ⟨0, 3, .ro, 0x0, 3, []⟩]⟩,
  ⟨0x180090, 0x10, 4, 0x4, 1, [⟨30, 2, .ro, 0x0, 3, []⟩,
    ⟨28, 2, .ro, 0x0, 3, []⟩,
    ⟨27, 1, .ro, 0x0, 3, []⟩,
    ⟨0, 16, .ro, 0x0, 3, []⟩]⟩,
  ⟨0x180094, 0x10, 4, 0x4, 1, [⟨0, 32, .ro, 0x0, 3, []⟩]⟩,
  ⟨0x180098, 0x10, 4, 0x4, 1, [⟨0, 32, .ro, 0x0, 3, []⟩]⟩,
  ⟨0x180100, 0x40, 8, 0x4, 14, [⟨0, 32, .ro, 0x0, 1, []⟩]⟩,
  ⟨0x180300, 0x4, 32, 0x4, 1, [⟨16, 16, .ro, 0xFFFF, 1, []⟩,
    ⟨0, 16, .ro, 0x0, 1, []⟩]⟩,
  ⟨0x180380, 0x4, 16, 0x4, 1, [⟨0, 32, .ro, 0x0, 1, []⟩]⟩]

/-- The registers of block JNL, with their field tables. -/
def jnlRegs : List RegDef := [
  ⟨0x190004, 0x4, 1, 0x4, 1, [⟨31, 1, .rw1c, 0x0, 3, []⟩,
    ⟨9, 1, .ro, 0x0, 1, []⟩,
    ⟨8, 1, .ro, 0x1, 4, []⟩,
    ⟨7, 1, .rw1c, 0x0, 3, []⟩,
    ⟨6, 1, .rw1c, 0x0, 3, []⟩,
    ⟨0, 6, .ro, 0x0, 1, []⟩]⟩,
  ⟨0x190008, 0x4, 1, 0x4, 1, [⟨0, 17, .ro, 0x0, 1, []⟩]⟩,
  ⟨0x19000C, 0x4, 1, 0x4, 1, [⟨0, 17, .ro, 0x0, 1, []⟩]⟩,
  ⟨0x190010, 0x4, 1, 0x4, 1, [⟨0, 32, .ro, 0x0, 1, []⟩]⟩,
  ⟨0x190014, 0x4, 1, 0x4, 1, [⟨0, 32, .ro, 0x0, 1, []⟩]⟩,
  ⟨0x190018, 0x4, 1, 0x4, 1, [⟨0, 32, .ro, 0x0, 1, []⟩]⟩,
  ⟨0x19001C, 0x4, 1, 0x4, 1, [⟨0, 17, .rw, 0x0, 4, [(0x0, 0x16FFF)]⟩]⟩,
  ⟨0x190020, 0x4, 1, 0x4, 1, [⟨16, 12, .ro, 0x0, 3, []⟩,
    ⟨0, 5, .ro, 0x0, 3, []⟩]⟩,
  ⟨0x190040, 0x4, 16, 0x4, 1, [⟨0, 32, .ro, 0x0, 4, []⟩]⟩]

/-- The registers of block LNK, with their field tables. -/
def lnkRegs : List RegDef := [
  ⟨0x1A0000, 0x4, 1, 0x4, 1, [⟨24, 8, .wo, 0x0, 3, []⟩,
    ⟨2, 1, .wo, 0x0, 3, []⟩,
    ⟨1, 1, .wo, 0x0, 3, []⟩,
    ⟨0, 1, .wo, 0x0, 3, []⟩]⟩,
  ⟨0x1A0004, 0x4, 1, 0x4, 1, [⟨31, 1, .rw1c, 0x0, 3, []⟩,
    ⟨29, 2, .ro, 0x3, 3, []⟩,
    ⟨28, 1, .ro, 0x0, 3, []⟩,
    ⟨27, 1, .ro, 0x0, 3, []⟩,
    ⟨26, 1, .ro, 0x0, 3, []⟩,
    ⟨11, 1, .rw1c, 0x0, 3, []⟩,
    ⟨10, 1, .rw1c, 0x0, 3, []⟩,
    ⟨9, 1, .rw1c, 0x0, 3, []⟩,
    ⟨8, 1, .rw1c, 0x0, 3, []⟩,
    ⟨4, 4, .ro, 0x0, 3, []⟩,
    ⟨0, 4, .ro, 0x0, 3, []⟩]⟩,
  ⟨0x1A0008, 0x4, 1, 0x4, 1, [⟨25, 7, .ro, 0x0, 3, []⟩,
    ⟨18, 7, .ro, 0x0, 3, []⟩,
    ⟨15, 1, .ro, 0x1, 3, []⟩,
    ⟨0, 12, .ro, 0x0, 3, []⟩]⟩,
  ⟨0x1A000C, 0x4, 1, 0x4, 1, [⟨16, 16, .ro, 0x0, 3, []⟩,
    ⟨0, 16, .ro, 0x0, 3, []⟩]⟩,
  ⟨0x1A0010, 0x4, 1, 0x4, 1, [⟨24, 8, .ro, 0x0, 3, []⟩,
    ⟨16, 8, .ro, 0x0, 3, []⟩,
    ⟨8, 8, .ro, 0x0, 3, []⟩,
    ⟨0, 8, .ro, 0x0, 3, []⟩]⟩,
  ⟨0x1A0014, 0x4, 1, 0x4, 1, [⟨30, 2, .ro, 0x0, 3, []⟩,
    ⟨29, 1, .ro, 0x1, 3, []⟩,
    ⟨0, 24, .ro, 0x0, 3, []⟩]⟩,
  ⟨0x1A0018, 0x4, 1, 0x4, 1, [⟨8, 8, .ro, 0x0, 3, []⟩,
    ⟨0, 8, .ro, 0x0, 3, []⟩]⟩,
  ⟨0x1A001C, 0x4, 1, 0x4, 1, [⟨16, 12, .ro, 0x0, 3, []⟩,
    ⟨0, 5, .ro, 0x0, 3, []⟩]⟩,
  ⟨0x1A0040, 0x4, 1, 0x4, 1, [⟨31, 1, .wo, 0x0, 3, []⟩,
    ⟨29, 2, .rw, 0x0, 3, [(0x0, 0x2)]⟩,
    ⟨24, 5, .rw, 0x0, 3, []⟩,
    ⟨18, 6, .rw, 0x1, 3, []⟩,
    ⟨0, 12, .rw, 0x0, 3, []⟩]⟩,
  ⟨0x1A0044, 0x4, 1, 0x4, 1, [⟨0, 32, .rw, 0x0, 3, []⟩]⟩,
  ⟨0x1A0048, 0x4, 1, 0x4, 1, [⟨0, 32, .rw, 0x0, 3, []⟩]⟩,
  ⟨0x1A0060, 0x4, 1, 0x4, 1, [⟨31, 1, .wo, 0x0, 3, []⟩,
    ⟨30, 1, .wo, 0x0, 3, []⟩,
    ⟨28, 2, .rw, 0x0, 3, [(0x0, 0x2)]⟩,
    ⟨27, 1, .rw, 0x0, 3, []⟩,
    ⟨26, 1, .rw, 0x0, 3, []⟩,
    ⟨12, 4, .rw, 0x0, 3, [(0x0, 0x0), (0x2, 0x3)]⟩,
    ⟨0, 12, .rw, 0x0, 3, []⟩]⟩,
  ⟨0x1A0064, 0x4, 1, 0x4, 1, [⟨30, 2, .ro, 0x0, 3, []⟩,
    ⟨13, 13, .ro, 0x0, 3, []⟩,
    ⟨0, 13, .ro, 0x0, 3, []⟩]⟩,
  ⟨0x1A0068, 0x4, 1, 0x4, 1, [⟨19, 13, .ro, 0x0, 3, []⟩,
    ⟨6, 13, .ro, 0x0, 3, []⟩,
    ⟨0, 1, .ro, 0x0, 3, []⟩]⟩,
  ⟨0x1A006C, 0x4, 1, 0x4, 1, [⟨12, 3, .ro, 0x0, 3, []⟩,
    ⟨0, 12, .ro, 0x0, 3, []⟩]⟩,
  ⟨0x1A0080, 0x4, 1, 0x4, 1, [⟨31, 1, .ro, 0x0, 3, []⟩,
    ⟨23, 7, .ro, 0x0, 3, []⟩,
    ⟨10, 12, .ro, 0x0, 3, []⟩,
    ⟨0, 10, .ro, 0x0, 3, []⟩]⟩,
  ⟨0x1A0084, 0x4, 1, 0x4, 1, [⟨0, 32, .ro, 0x0, 3, []⟩]⟩,
  ⟨0x1A0088, 0x4, 1, 0x4, 1, [⟨0, 32, .ro, 0x0, 3, []⟩]⟩,
  ⟨0x1A0100, 0x4, 32, 0x4, 1, [⟨30, 2, .ro, 0x0, 4, []⟩,
    ⟨27, 3, .ro, 0x0, 4, []⟩,
    ⟨26, 1, .wo, 0x0, 4, []⟩,
    ⟨0, 6, .ro, 0x0, 4, []⟩]⟩,
  ⟨0x1A2000, 0x100, 32, 0x4, 63, [⟨0, 32, .ro, 0x0, 4, []⟩]⟩]

/-- The registers of block ICU, with their field tables. -/
def icuRegs : List RegDef := [
  ⟨0x1B0000, 0x4, 1, 0x4, 1, [⟨0, 10, .wo, 0x0, 3, [(0x340, 0x3FF)]⟩]⟩,
  ⟨0x1B0004, 0x4, 1, 0x4, 1, [⟨1, 1, .wo, 0x0, 3, []⟩,
    ⟨0, 1, .rw, 0x1, 3, []⟩]⟩,
  ⟨0x1B0008, 0x4, 1, 0x4, 1, [⟨31, 1, .rw1c, 0x0, 3, []⟩,
    ⟨8, 1, .rw1c, 0x0, 3, []⟩,
    ⟨7, 1, .ro, 0x0, 3, []⟩,
    ⟨0, 7, .ro, 0x0, 3, []⟩]⟩,
  ⟨0x1B000C, 0x4, 1, 0x4, 1, [⟨16, 12, .ro, 0x0, 3, []⟩,
    ⟨0, 5, .ro, 0x0, 3, []⟩]⟩,
  ⟨0x1B0010, 0x4, 1, 0x4, 1, [⟨31, 1, .ro, 0x0, 3, []⟩,
    ⟨30, 1, .ro, 0x0, 3, []⟩,
    ⟨28, 2, .ro, 0x0, 3, []⟩,
    ⟨16, 7, .ro, 0x0, 3, []⟩,
    ⟨0, 10, .ro, 0x0, 3, []⟩]⟩,
  ⟨0x1B0014, 0x4, 1, 0x4, 1, [⟨0, 32, .ro, 0x0, 3, []⟩]⟩,
  ⟨0x1B0018, 0x4, 1, 0x4, 1, [⟨0, 32, .ro, 0x0, 3, []⟩]⟩,
  ⟨0x1B001C, 0x4, 1, 0x4, 1, [⟨0, 13, .rw1c, 0x0, 3, []⟩]⟩,
  ⟨0x1B0100, 0x4, 32, 0x4, 1, [⟨31, 1, .ro, 0x0, 3, []⟩,
    ⟨0, 17, .rw, 0x0, 3, [(0x0, 0x186A0)]⟩]⟩,
  ⟨0x1B0200, 0x4, 32, 0x4, 1, [⟨0, 32, .ro, 0x0, 3, []⟩]⟩,
  ⟨0x1B1000, 0x4, 1024, 0x4, 1, [⟨31, 1, .rw1c, 0x0, 3, []⟩,
    ⟨30, 1, .ro, 0x0, 3, []⟩,
    ⟨15, 1, .rw, 0x0, 3, []⟩,
    ⟨12, 2, .rw, 0x0, 3, []⟩,
    ⟨8, 3, .rw, 0x0, 3, [(0x0, 0x4)]⟩,
    ⟨0, 8, .rw, 0xFF, 3, [(0x0, 0x1F), (0xFF, 0xFF)]⟩]⟩]

/-- The registers of block WDG, with their field tables. -/
def wdgRegs : List RegDef := [
  ⟨0x1C0000, 0x4, 1, 0x4, 1, [⟨24, 8, .wo, 0x0, 2, []⟩,
    ⟨1, 1, .wo, 0x0, 2, []⟩,
    ⟨0, 1, .wo, 0x0, 2, []⟩]⟩,
  ⟨0x1C0004, 0x4, 1, 0x4, 1, [⟨31, 1, .rw, 0x0, 2, []⟩,
    ⟨0, 7, .rw, 0xA, 2, [(0x1, 0x64)]⟩]⟩,
  ⟨0x1C0008, 0x4, 1, 0x4, 1, [⟨16, 16, .rw, 0x1F4, 2, []⟩,
    ⟨0, 16, .rw, 0x7D0, 2, [(0x64, 0xFFFF)]⟩]⟩,
  ⟨0x1C000C, 0x4, 1, 0x4, 1, [⟨31, 1, .rw1c, 0x0, 2, []⟩,
    ⟨30, 1, .ro, 0x0, 3, []⟩,
    ⟨29, 1, .ro, 0x0, 2, []⟩,
    ⟨28, 1, .ro, 0x0, 2, []⟩,
    ⟨27, 1, .ro, 0x0, 3, []⟩,
    ⟨0, 23, .ro, 0x0, 3, []⟩]⟩,
  ⟨0x1C0010, 0x4, 1, 0x4, 1, [⟨0, 16, .ro, 0xACE1, 3, []⟩]⟩,
  ⟨0x1C0014, 0x4, 1, 0x4, 1, [⟨16, 4, .wo, 0x0, 3, []⟩,
    ⟨0, 16, .wo, 0x0, 3, []⟩]⟩,
  ⟨0x1C0018, 0x4, 1, 0x4, 1, [⟨16, 16, .ro, 0x0, 3, []⟩,
    ⟨0, 16, .ro, 0x0, 3, []⟩]⟩,
  ⟨0x1C001C, 0x4, 1, 0x4, 1, [⟨12, 4, .rw, 0x0, 3, []⟩]⟩,
  ⟨0x1C0020, 0x4, 1, 0x4, 1, [⟨16, 12, .ro, 0x0, 2, []⟩,
    ⟨0, 5, .ro, 0x0, 2, []⟩]⟩,
  ⟨0x1C0040, 0x4, 1, 0x4, 1, [⟨31, 1, .ro, 0x0, 1, []⟩,
    ⟨30, 1, .ro, 0x0, 1, []⟩,
    ⟨29, 1, .ro, 0x0, 1, []⟩,
    ⟨0, 16, .ro, 0x0, 1, []⟩]⟩,
  ⟨0x1C0044, 0x4, 1, 0x4, 1, [⟨16, 16, .ro, 0x0, 1, []⟩,
    ⟨0, 16, .ro, 0x0, 1, []⟩]⟩,
  ⟨0x1C0048, 0x4, 1, 0x4, 1, [⟨0, 32, .ro, 0x0, 1, []⟩]⟩,
  ⟨0x1C004C, 0x4, 1, 0x4, 1, [⟨0, 32, .ro, 0x0, 1, []⟩]⟩,
  ⟨0x1C0050, 0x4, 1, 0x4, 1, [⟨0, 32, .ro, 0x0, 1, []⟩]⟩,
  ⟨0x1C0054, 0x4, 1, 0x4, 1, [⟨0, 32, .ro, 0x0, 1, []⟩]⟩,
  ⟨0x1C0058, 0x4, 1, 0x4, 1, [⟨0, 32, .ro, 0x0, 1, []⟩]⟩,
  ⟨0x1C005C, 0x4, 1, 0x4, 1, [⟨0, 32, .ro, 0x0, 1, []⟩]⟩,
  ⟨0x1C0060, 0x4, 1, 0x4, 1, [⟨0, 16, .ro, 0x0, 1, []⟩]⟩]

/-- The registers of block HST, with their field tables. -/
def hstRegs : List RegDef := [
  ⟨0x1D0000, 0x4, 1, 0x4, 1, [⟨2, 1, .wo, 0x0, 2, []⟩,
    ⟨0, 2, .rw, 0x2, 2, [(0x1, 0x3)]⟩]⟩,
  ⟨0x1D0004, 0x4, 1, 0x4, 1, [⟨31, 1, .rw1c, 0x0, 2, []⟩,
    ⟨3, 1, .rw1c, 0x0, 2, []⟩,
    ⟨2, 1, .rw1c, 0x0, 2, []⟩,
    ⟨1, 1, .rw1c, 0x0, 2, []⟩,
    ⟨0, 1, .rw1c, 0x0, 2, []⟩]⟩,
  ⟨0x1D0008, 0x4, 1, 0x4, 1, [⟨16, 16, .ro, 0x0, 2, []⟩,
    ⟨0, 16, .ro, 0x0, 2, []⟩]⟩,
  ⟨0x1D000C, 0x4, 1, 0x4, 1, [⟨16, 12, .ro, 0x0, 2, []⟩,
    ⟨0, 5, .ro, 0x0, 2, []⟩]⟩,
  ⟨0x1D0010, 0x4, 1, 0x4, 1, [⟨0, 7, .ro, 0x0, 3, []⟩]⟩,
  ⟨0x1D0020, 0x4, 1, 0x4, 1, [⟨0, 16, .ro, 0x0, 3, []⟩]⟩,
  ⟨0x1D0024, 0x4, 1, 0x4, 1, [⟨0, 16, .rw, 0x0, 3, []⟩]⟩,
  ⟨0x1D0028, 0x4, 1, 0x4, 1, [⟨0, 2, .rw, 0x1, 3, []⟩,
    ⟨2, 2, .rw, 0x1, 3, []⟩,
    ⟨4, 2, .rw, 0x1, 3, []⟩,
    ⟨6, 2, .rw, 0x1, 3, []⟩,
    ⟨8, 2, .rw, 0x1, 3, []⟩,
    ⟨10, 2, .rw, 0x1, 3, []⟩,
    ⟨12, 2, .rw, 0x1, 3, []⟩,
    ⟨14, 2, .rw, 0x1, 3, []⟩,
    ⟨16, 2, .rw, 0x1, 3, []⟩,
    ⟨18, 2, .rw, 0x1, 3, []⟩,
    ⟨20, 2, .rw, 0x1, 3, []⟩,
    ⟨22, 2, .rw, 0x1, 3, []⟩,
    ⟨24, 2, .rw, 0x1, 3, []⟩,
    ⟨26, 2, .rw, 0x1, 3, []⟩,
    ⟨28, 2, .rw, 0x1, 3, []⟩,
    ⟨30, 2, .rw, 0x1, 3, []⟩]⟩,
  ⟨0x1D002C, 0x4, 1, 0x4, 1, [⟨0, 4, .ro, 0x0, 3, []⟩,
    ⟨4, 4, .ro, 0x0, 3, []⟩,
    ⟨8, 4, .ro, 0x0, 3, []⟩,
    ⟨12, 4, .ro, 0x0, 3, []⟩,
    ⟨16, 4, .ro, 0x0, 3, []⟩,
    ⟨20, 4, .ro, 0x0, 3, []⟩,
    ⟨24, 4, .ro, 0x0, 3, []⟩,
    ⟨28, 4, .ro, 0x0, 3, []⟩]⟩,
  ⟨0x1D0030, 0x4, 1, 0x4, 1, [⟨0, 4, .ro, 0x0, 3, []⟩,
    ⟨4, 4, .ro, 0x0, 3, []⟩,
    ⟨8, 4, .ro, 0x0, 3, []⟩,
    ⟨12, 4, .ro, 0x0, 3, []⟩,
    ⟨16, 4, .ro, 0x0, 3, []⟩,
    ⟨20, 4, .ro, 0x0, 3, []⟩,
    ⟨24, 4, .ro, 0x0, 3, []⟩,
    ⟨28, 4, .ro, 0x0, 3, []⟩]⟩]

/-- The registers of the block whose addresses begin with `b` (its upper 16 address bits). The sixteen bricks share
the page 0x0010. -/
def blockRegs (b : Nat) : List RegDef :=
  match b with
  | 0x0 => glbRegs
  | 0x1 => rpcRegs
  | 0x2 => otpRegs
  | 0x3 => stmRegs
  | 0x4 => bkdRegs
  | 0x5 => bndRegs
  | 0x10 => brkRegs
  | 0x12 => vcpRegs
  | 0x13 => seqRegs
  | 0x14 => msrRegs
  | 0x15 => thmRegs
  | 0x16 => celRegs
  | 0x17 => cpmRegs
  | 0x18 => mtrRegs
  | 0x19 => jnlRegs
  | 0x1A => lnkRegs
  | 0x1B => icuRegs
  | 0x1C => wdgRegs
  | 0x1D => hstRegs
  | _ => []

/-- The definition that covers address `a`. -/
def regDefOf (a : Nat) : Option RegDef := (blockRegs (a / 0x10000)).find? (fun d => d.covers a)

/-- The field table of the register at `a`; empty where there is none. -/
def fieldsOf (a : Nat) : List FieldSpec :=
  match regDefOf a with
  | some d => d.fields
  | none => []

/-- The value a register takes when every field of it is restored (R7). -/
def regReset (a : Nat) : Word := resetOf (fieldsOf a)

end Sys2Proof.Machine
end

