-- ==== Sys2Proof/Machine/State.lean ====
section
/-! DEFINITION. The state of the EF4850: its registers, and block by block what the spec gives it beside them. -/
namespace Sys2Proof.Machine

/-- What stops the machine with a fault. No rule of the spec stops the block: every command has an effect or is
ignored, so no meaning raises one; the constructor keeps the type inhabited. Safe: a stop claims nothing. -/
inductive Fault where
  /-- Raised by no meaning. Safe. -/
  | halted
deriving DecidableEq, Repr

/-- Why a command has no meaning. -/
inductive Refusal where
  /-- The command named is not modelled yet; raised only by a refused arm of `exec`. Safe. -/
  | notModelled (mnemonic : String)
deriving DecidableEq, Repr

/-- The power states of R3, Idle and Run apart: both are `active`, and Run is `active` above course 0. -/
inductive Power where
  | off | dormant | starting | standby | active
deriving DecidableEq, Repr

/-- The level on an output ball: released (R45), driven low, driven high. -/
inductive Ball where
  | released | low | high
deriving DecidableEq, Repr

/-- Why a start does not go on by itself: RESET_N still low (R118), a TST ball high (R54), the OTP check failed (R123),
the restart limit (R116), a failed P1 (R110), loader mode (R134). -/
inductive Hold where
  | none | resetN | tst | otp | restarts | p1Off | loader
deriving DecidableEq, Repr

/-- Clocks and SYSTIME (chapter Clocks and system time). Tick counts are the model's own reading of elapsed time
(DESIGN CHOICE: log entry 2). -/
structure Clk where
  /-- CLK_CORE ticks, RC oscillator ticks and 32.768 kHz ticks counted since the model's reset state. -/
  core : Nat
  rc : Nat
  bak : Nat
  /-- The SYSTIME accumulator: 64 visible bits over 24 hidden fraction bits (R67); above them
  the wraps of the seconds are counted (R485). -/
  acc : BitVec 128
  /-- CLK_CORE, CLK_CONV, CLK_PERI and CLK_HK run from the RC oscillator (R64, R67). -/
  onRc : Bool
  /-- RC tick at which the running lock attempt began, and at which the reference qualified (R58). -/
  attemptAt : Option Nat
  qualifiedAt : Option Nat
  /-- The attempt has failed once: STAT shows 0b010, and the code to return to at lock (R58). -/
  clockFail : Bool
  statBefore : Nat
  /-- RC tick at which REF_LOST was set, and at which the running 100-cycle reference window began (R61, R63). -/
  refLostAt : Option Nat
  windowAt : Nat
  /-- What the next lock seeds SYSTIME for: 0 nothing, 1 first lock after a POR, 2 first lock after another L0, 3 the
  end of Standby (R69, R71). -/
  seedFor : Nat
  /-- Consecutive exchanges at or below 20 ns in ACQUIRE, above 1 µs in LOCKED; CLK_CORE tick of the last valid
  exchange; STM_INC at the last exchanges, newest first, at most 32 (R72). -/
  goodRun : Nat
  badRun : Nat
  lastSync : Nat
  incs : List Nat
deriving DecidableEq, Repr

/-- An event FIFO entry of the backup domain (R102, R103). -/
structure EvtEntry where
  sec : BitVec 36
  frac : BitVec 15
  level : Bool
  input : Nat
  journaled : Bool
deriving DecidableEq, Repr

/-- The backup domain beyond its registers (chapter Backup domain and real-time clock). No reset changes it (R4). -/
structure Bkd where
  /-- VBAK is at or above 1.6 V (R85). -/
  powered : Bool
  /-- The binary count (R86) and the ticks of the running 2²⁰-tick trim interval (R84). -/
  sec : BitVec 36
  frac : BitVec 15
  trimTick : Nat
  /-- The counts of the last 16 ticks, newest first (R102 stamps an edge with its first tick). -/
  recent : List (BitVec 36 × BitVec 15)
  /-- The commit waiting for its tick: seconds, fraction (R93), and the backup tick of the COMMIT write. -/
  commit : Option (BitVec 36 × BitVec 15)
  commitAt : Nat
  /-- The event FIFO, oldest first (R102, R103). -/
  fifo : List EvtEntry
  /-- Freezes in progress: path number and the backup tick at which each began; paths whose stale indicator is set
  (R88, R89). -/
  freezes : List (Nat × Nat)
  stale : List Nat
  /-- Backup fault codes whose sheet waits for P6 of the next L0 start (R99), and an alarm whose source waits for Idle
  (R101). -/
  lateCodes : List Nat
  lateAlarm : Bool
  /-- Backup tick from which VBAK can be sampled next, once every 32,768 ticks (R98). -/
  sampleAt : Nat
deriving DecidableEq, Repr

/-- One OTP row beyond all-0: its data, whether a single bit of it reads wrong, whether it reads uncorrectable (R122,
R123). -/
structure OtpRow where
  data : Word
  single : Bool
  bad : Bool
deriving DecidableEq, Repr

/-- A running OTP command (R125). -/
structure OtpCmd where
  program : Bool
  row : Nat
  data : Word
deriving DecidableEq, Repr

/-- Start-up, reset, OTP and images beyond the registers. -/
structure Boot where
  power : Power
  /-- The boot phase (0 to 6; 7 once P6 has ended), the level of the start in progress, and what holds it. -/
  phase : Nat
  level : Nat
  hold : Hold
  /-- The code on STAT_2 to STAT_0; `none` while the balls are released (R115). -/
  stat : Option Nat
  /-- Boot fault codes of this start that P6 has not written yet (R112, R137). -/
  faults : List Nat
  /-- RC ticks at which P0 or P1 began, and at which the 10 ms of R110 end. -/
  phaseAt : Nat
  retryAt : Nat
  /-- The start came from Off, from Dormant or with a power-on reset: SYSTIME stands until P0 has ended (R67). -/
  timeHeld : Bool
  /-- Restarts of P2 in the running 100 ms, and the RC tick of the first (R116). -/
  p2Restarts : Nat
  p2Since : Option Nat
  /-- A reset waiting for the all-off timeline: level and source bit (R120). -/
  waiting : Option (Nat × Nat)
  /-- An L2 or L3 restart in progress (R114). -/
  restart : Option Nat
  /-- The restart in progress was caused by the watchdog (R458). -/
  restartWdg : Bool
  /-- RC tick at which the last level was performed (R119). -/
  resetAt : Option Nat
  /-- The loaded option word and reset map (R107, R122). -/
  opt0 : Word
  rstMap : Word
  /-- OTP rows that are not all 0, by row number, and the command running (R125). -/
  otp : List (Nat × OtpRow)
  otpCmd : Option OtpCmd
  /-- The RESET_N ball is low, a TST ball is high. -/
  resetNLow : Bool
  tstHigh : Bool
  /-- VSYS and VPP in mV as last told (R124). -/
  vsys : Nat
  vpp : Nat
  /-- The running image's blocks as activated from SRAM, and whether it came through loader mode and still waits to be
  written to flash (R132, R134). -/
  image : List Byte
  imageToFlash : Bool
  /-- The update in progress (R136): its number of blocks, the bytes of the block being received, the blocks received;
  whether the whole image is being checked; whether it comes over the link. -/
  updBlocks : Nat
  updBytes : List Byte
  updImage : List Byte
  updCheck : Bool
  updLink : Bool
  /-- The loader's image requests: RC tick of the last request, port asked, tick of the last image frame (R134, R422). -/
  loaderAskAt : Nat
  loaderPort : Nat
  loaderFrameAt : Nat
deriving DecidableEq, Repr

/-- An entry of the host interrupt queue (R441). -/
structure QEntry where
  source : Nat
  prio : Nat
  stamp : Time
deriving DecidableEq, Repr

/-- The ICU beyond its registers (R439 to R443). -/
structure Icu where
  /-- Timestamps of pending sources. -/
  stamps : List (Nat × Time)
  /-- The host queue, in order of delivery. -/
  queue : List QEntry
  /-- Sources that became eligible behind a held group (R442); sources delivered to a destination that could not take
  them, a full queue or the head while the device has no address (R440, R441). -/
  waiting : List Nat
  stuck : List Nat
  /-- Held groups and the CLK_CORE tick at which each hold ends (R442). -/
  held : List (Nat × Nat)
  /-- INT_N is driven low; the CLK_CORE tick up to which it stays released (R443). -/
  intN : Bool
  gapEnd : Option Nat
  /-- The Standby latches are armed; sources caught more than once in this Standby (R445). -/
  armed : Bool
  again : List Nat
  /-- Latched stamps of this Standby, by latch bit. -/
  latchStamps : List (Nat × Time)
deriving DecidableEq, Repr

/-- The host ports beyond their registers (R430 to R436). -/
structure Hst where
  /-- The words driven by the last read transaction, the SPI status byte driven, the NACK of the last I²C write. -/
  dout : List Word
  status : Byte
  nack : Bool
  /-- What the previous SPI transaction did: set BUS_ERR, read late, ended with a frame or command error (R432). -/
  prevBus : Bool
  prevLate : Bool
  prevFrame : Bool
  /-- The address after the last word the I²C port accessed (R435). -/
  i2cNext : Nat
deriving DecidableEq, Repr

/-- The watchdog beyond its registers (R448 to R460). -/
structure Wdg where
  armed : Bool
  /-- Ticks since the cycle started; RC cycles of the running tick; frozen in Standby; stopped by a failure. -/
  count : Nat
  sub : Nat
  stopped : Bool
  /-- A cycle starts in the next tick: whether it is the first after arming; the RC tick at which the tick of the last
  failure began (R448, R453). -/
  starting : Option Bool
  failTick : Option Nat
  /-- The last failure found ALLOFF at 1; the all-off that is ACTIVE is the one it began (R13, R457). -/
  quiet : Bool
  began : Bool
  /-- The check-ins of one watchdog tick in the order of R453: the tick, IN before them, and rank, task and value of each. -/
  judged : Option (Nat × Nat × List (Nat × Nat × Nat))
  /-- T_open and T_close in force, in ticks (R449). -/
  tOpen : Nat
  tClose : Nat
  /-- RC tick at which the WDO pulse ends (R457). -/
  pulseEnd : Option Nat
  /-- Tasks 1 to 11 as the firmware asked for them at the last cycle start, a free value there (R450). -/
  firmReq : Nat
  /-- The stamp of the last good service since a POR or BOR (R459). -/
  lastGood : Time
deriving DecidableEq, Repr

/-- A sheet of the journal (R392): its stamp, its ADDRESS field, its number once it has one, its type and payload. -/
structure Sheet where
  stamp : Time
  address : BitVec 16
  seq : Option Nat
  type : Nat
  payload : List Byte
deriving DecidableEq, Repr

/-- The journal beyond its registers (R393 to R397). -/
structure Jnl where
  queue : List Sheet
  /-- The next slot and the next sequence number (R396). -/
  head : Nat
  next : Nat
  searching : Bool
  /-- The head sheet is being programmed, and into which slot (R395, R486). -/
  writing : Option Nat
  /-- CLK_CORE tick of the last drain (R395). -/
  drainAt : Nat
  /-- Sheets lost since the last 0x0A01 sheet, and the stamps of the first and the last loss (R394). -/
  lostNow : Nat
  lostFirst : Time
  lostLast : Time
  /-- Loads in progress: path number and slot (R397). -/
  loads : List (Nat × Nat)
  /-- Every fault recorded since the all-off carries 0x0221 (R213). -/
  onlyShorts : Bool
deriving DecidableEq, Repr

/-- The output balls that no register shows (R48, R51). Each GATE ball follows its route and its brick unless `gates` overrides
(`State.gateBall`). -/
structure Pins where
  /-- GATE_0 to GATE_31 taken together: released, driven low by an all-off, or (high) following the bricks. -/
  gates : Ball
  faultN : Ball
  wdo : Ball
  cascOut : Ball
  dswG : Ball
  preG : Ball
  auxEn : Ball
  ppaG : Ball
  ppbG : Ball
  /-- COURSE is held low by this device; the line's own level as last told (true: high). -/
  courseHold : Bool
  courseHigh : Bool
  cascIn : Bool
  mrgUp : Bool
  mrgDn : Bool
  /-- The output of AUX_1 and AUX_2 in mV, none while off (R237, R257); PRE, IO, CORE, ANA running. -/
  aux1 : Option Nat
  aux2 : Option Nat
  pre : Bool
  io : Bool
  core : Bool
  ana : Bool
  /-- Power-control GPIO driven by PIN_SET, by pin: its level (R237, R446). -/
  pinSet : List (Nat × Bool)
  /-- The GPIO balls that are no power-control outputs are released (R45, R52, R446). -/
  gpioReleased : Bool
  /-- The processors' balls HS_DO, HI_SDA, INT_N, VCP_DO and the flash balls are released (R52). -/
  hostReleased : Bool
deriving DecidableEq, Repr

/-- The bond loader beyond its registers (chapter The bond). -/
structure Bnd where
  /-- The bytes and tiles of the bond in force; empty with no bond. -/
  bytes : List Byte
  tiles : List Tile
  /-- The staging buffer (R151), the CLK_CORE tick of its last word. -/
  staging : List Byte
  wordAt : Nat
  /-- The request running: SRC, whether it only stores (CMD 1), whether it stores after T_eff, the device address that
  asked over the link for an answer (R421). -/
  src : Nat
  storeOnly : Bool
  storeAfter : Bool
  linkReq : Option Nat
  /-- The bytes of the slot not in use while a request with SRC 2 runs. -/
  offer : List Byte
  /-- A bond accepted by V1 to V9 and waiting for T_eff (R153). -/
  accepted : Option (List Byte × List Tile)
  /-- The bytes a running store programs, and whether their bond is applied (R150). -/
  storing : Option (List Byte × Bool)
  /-- A sheet whose write had started at the request is not complete yet (R23). -/
  afterSheet : Bool
  /-- A slot is in use (R155): BND_STAT.SLOT and BND_GEN name it. -/
  slotUsed : Bool
deriving DecidableEq, Repr

/-- A pulse of one of a brick's outputs that has not ended (R176 to R180): whether H, its rise and its fall in EU on the axis
of CLK_CORE, whether its rise has been emitted, whether its fall belongs to the next leg period (form C). -/
structure GatePulse where
  high : Bool
  rise : Int
  fall : Int
  up : Bool
  carries : Bool
deriving DecidableEq, Repr

/-- The edge generator of one leg (R176 to R180). Instants are EU on the axis of CLK_CORE: 256 to a tick. -/
structure Leg where
  /-- The leg emits edges: from the second update instant of a start on (R183). -/
  live : Bool
  /-- The running leg period: where it began and where it ends as known now. -/
  began : Int
  stop : Int
  /-- Leg start in force under form S; the next move of it is not limited (R178, R365). -/
  start : Int
  jump : Bool
  /-- The pulses still to come or under way, in the order of their rises. -/
  pulses : List GatePulse
  /-- The levels of H and L; their last falls, for the interlock (R179); the last rise of either, for the blanking (R205). -/
  hHigh : Bool
  lHigh : Bool
  lastH : Int
  lastL : Int
  rose : Option Int
deriving DecidableEq, Repr

/-- One lane's copy of its brick's state (R189): ref, the histories, the soft-start step, the trim, and the coefficient store
with its check value (R192). -/
structure LaneCopy where
  ref : Int
  e1 : Int
  e2 : Int
  e3 : Int
  y1 : Int
  y2 : Int
  y3 : Int
  step : Nat
  trim : Int
  store : List Word
  check : Word
deriving DecidableEq, Repr

/-- A leader's registers as of its last update instant, as READ answers them (R230). -/
structure Shown where
  fb : Int
  target : Int
  ref : Int
  stat : Word
  cmd : Word
deriving DecidableEq, Repr

/-- A follower's pass of the recursion at its leader's last update instant, until its own next one compares the lanes (R175,
R191): the error, and the histories and the trim before it. -/
structure TrimPass where
  e0 : Int
  e1 : Int
  e2 : Int
  e3 : Int
  y1 : Int
  y2 : Int
  y3 : Int
  trim : Int
deriving DecidableEq, Repr

/-- A brick beyond its registers (chapters Bricks; Lanes, limits and soft start). BRK_n_REF, BRK_n_CMD and the other
registers hold what they show. -/
structure Brick where
  /-- The histories (R172). -/
  e1 : Int
  e2 : Int
  e3 : Int
  y1 : Int
  y2 : Int
  y3 : Int
  /-- A follower's latest trim, and the pass that gave it while the lanes are not yet compared (R175, R191). -/
  trim : Int
  pass : Option TrimPass
  /-- What upsets that no check found leave in the next edge, in EU (R190, R191). -/
  edgeErr : Int
  /-- The command computed at the last update instant, in force from the next (R163); update instants since the
  start. -/
  next : Int
  updates : Nat
  /-- Staged words of the twelve COMP registers; a commit waits for the update instant (R184). -/
  staged : List (Nat × Word)
  commit : Bool
  /-- The source of the last target write since the last update instant: 1 VCP, 2 host port, 3 link, 4 course action
  (R167, R227). -/
  tgtSrc : Option Nat
  /-- A LOOP written in Starting or Running that differs from the one in force, until the next update instant (R168). -/
  loopNext : Option Bool
  /-- The settle detector: tgt of the last restart, in-band update instants since, deadline in CLK_CORE ticks, decided
  (R169, R170). -/
  settleTgt : Int
  inBand : Nat
  settleAt : Option Nat
  decided : Bool
  /-- The trigger number of the sample used last (R162). -/
  usedTrig : Option Nat
  /-- Phase-current samples of the averaging window: CLK_CORE tick and value (R207). -/
  window : List (Nat × Int)
  /-- The 32 fraction bits of Q; the slow threshold as of the brick's own last update instant (R208, R310). -/
  qFrac : Nat
  slowS : Nat
  /-- CLK_CORE tick at which Running began (R213). -/
  runSince : Option Nat
  /-- Stamps of the transients of lane A and lane B, newest first (R200). -/
  transA : List Time
  transB : List Time
  /-- A full test deferred to a lane (R195, R196), a lane that passed and waits to rejoin (R199). -/
  fullLater : Option Lane
  rejoin : Option Lane
  /-- CLK_CORE tick of the update instant that found the error of the running hold; an unresolved one (R194). -/
  holdAt : Nat
  holdBoth : Bool
  /-- Lanes whose full test is running (R199, R214). -/
  testing : List Lane
  /-- The copies of lane A and lane B (R189); CLK_CORE tick of the last scrub of their stores (R192). -/
  copyA : LaneCopy
  copyB : LaneCopy
  scrubAt : Nat
  /-- A retry of a short in soft start waits for this brick (R213). -/
  tripped : Bool
  /-- The next update instant and the brick's own period start before it, in EU on the axis of CLK_CORE; the next instant is
  the one half a period later (R158, R159). -/
  nextAt : Int
  perAt : Int
  second : Bool
  /-- The leg's edges. -/
  leg : Leg
  /-- CLK_CORE tick from which samples enter the average (R207). -/
  avgFrom : Nat
  /-- BRK_n_FAST, BRK_n_SLOW and BRK_n_I2T_LIMIT in force (R215). -/
  fastIn : Word
  slowIn : Word
  i2tIn : Word
  /-- What READ answers; none before the first update instant (R230). -/
  shown : Option Shown
deriving DecidableEq, Repr

/-- A course action (Table — Course action entry). -/
structure Action where
  op : Nat
  cascaded : Bool
  target : Nat
  arg : Nat
deriving DecidableEq, Repr

/-- What a device runs actions for: nothing, a step, a floor on the line, a rejoin, a link floor (R240, R242, R248,
R262). -/
inductive RunKind where
  | none | step | floor | rejoin | linkFloor
deriving DecidableEq, Repr

/-- What the action in progress waits for (R237, R244). -/
inductive Wait where
  | none
  | cascade
  | railOff (rail : Nat)
  | pg (rail : Nat) (deadline : Nat)
  | delay (deadline : Nat)
  | module
deriving DecidableEq, Repr

/-- What stood when the all-off that is ACTIVE began, as the further faults of its CLK_CORE cycle see it (R255): the cycle,
by its CLK_CORE and RC ticks; the brick whose fault gave the code; the bricks' STATE, the rails whose UV was armed, the run of
course actions, a rail above course 0, the course count and OUT, the start of the probe and a closed module switch before it; the
frames handed to the ports before its own. -/
structure OffMark where
  core : Nat
  rc : Nat
  brick : Option Nat
  states : List Nat
  armed : List Nat
  kind : RunKind
  todo : List Action
  wait : Wait
  up : Bool
  course : Nat
  gone : Bool
  probe : Option Nat
  closed : Bool
  out : Nat
deriving DecidableEq, Repr

/-- Courses and supervision beyond the registers. -/
structure Seq where
  kind : RunKind
  todo : List Action
  wait : Wait
  /-- CLK_CORE tick of the recognition of the step, and of the end of the shortest hold (R244, R241); the step changed no
  count, so that its hold is the shortest one (R240). -/
  stepAt : Nat
  holdMin : Nat
  cascSeen : Bool
  short : Bool
  /-- CLK_CORE tick from which the line counts as idle; none from the recognition of a step or a floor until the line is idle
  again (R239, R241, R113). The device has taken a hold since (R247). -/
  idleFrom : Option Nat
  tookHold : Bool
  /-- The device is OUT (R248); it takes part in stepping again from the next step. The string course its rejoin runs to. -/
  out : Bool
  rejoinTo : Nat
  /-- Power-good delays running: rail and deadline (R253). -/
  pgRun : List (Nat × Nat)
  /-- The retry of R213: its deadline. -/
  retryAt : Option Nat
  /-- Faults of the running all-off timeline (R48). -/
  timeline : Bool
  off : Option OffMark
  /-- By rail: the last compared values lay above OV (true) or below UV, how many in a row, whether the violation has
  been declared (R252). -/
  viol : List (Nat × (Bool × Nat × Bool))
  /-- The member waits for the confirmation until this tick (R247). -/
  confirmBy : Option Nat
  /-- The head: CLK_CORE tick of its pulse, direction and course given, whether the confirmation is out and when its
  answers end, the answers: address, status (0 IN, 1 OUT, 2 MISMATCH). -/
  pulseAt : Option Nat
  confirmEnd : Option Nat
  answers : List (Nat × Nat)
  floorDone : List Nat
  floorGiven : Bool
  /-- The course and direction the head's string is being stepped to; devices that answered other than IN while stepping
  down: address, answer (R260). -/
  headStep : Option (Nat × Bool)
  /-- A pulse that waits for the end of a rejoin or for the line, with whether it will be read back low (R248, R243). -/
  pulseHeld : Option Bool
  /-- Trunk steps that came while the string's own step was not complete, with whether the pulse will be read back low. -/
  steps : List ((Nat × Bool) × Bool)
  /-- The line state the head last reported (R246). -/
  lineTold : Nat
  concerned : List (Nat × Nat)
  /-- The head's own string course, as last confirmed (R248). -/
  strCourse : Nat
  /-- The course master: a step of the system runs, its course and direction, when it began, the heads that reported (R249); the
  last step's time was over before every head had reported. -/
  stepping : Bool
  sysCourse : Nat
  sysDown : Bool
  unreported : Bool
  trunkAt : Option Nat
  heads : List Nat
  /-- Addresses that reported supply-low and not good since; lines not idle or held, by head (R246, R259). -/
  lowSupply : List Nat
  lines : List (Nat × Nat)
  floorReq : Bool
  /-- Rejoin in progress on devices of the string, as reported. -/
  rejoining : List Nat
  /-- Invalid lows since the last 0x0546 sheet, and the CLK_CORE tick of that sheet (R264). -/
  invalidLows : Nat
  invalidAt : Option Nat
deriving DecidableEq, Repr

/-- A leg that emits nothing, its outputs low; nothing has fallen that a rise would wait for. -/
def Leg.idle : Leg := ⟨false, 0, 0, 0, false, [], false, false, -(2 ^ 40), -(2 ^ 40), none⟩

/-- A lane's copy before the bond is laid. -/
def LaneCopy.blank : LaneCopy := ⟨0, 0, 0, 0, 0, 0, 0, 0, 0, [], 0⟩

/-- A brick as it stands when the bond is applied. -/
def Brick.fresh : Brick where
  e1 := 0
  e2 := 0
  e3 := 0
  y1 := 0
  y2 := 0
  y3 := 0
  trim := 0
  pass := none
  edgeErr := 0
  next := 0
  updates := 0
  staged := []
  commit := false
  tgtSrc := none
  loopNext := none
  settleTgt := 0
  inBand := 0
  settleAt := none
  decided := false
  usedTrig := none
  window := []
  qFrac := 0
  slowS := 0
  runSince := none
  transA := []
  transB := []
  fullLater := none
  rejoin := none
  holdAt := 0
  holdBoth := false
  testing := []
  copyA := LaneCopy.blank
  copyB := LaneCopy.blank
  scrubAt := 0
  tripped := false
  nextAt := 0
  perAt := 0
  second := false
  leg := Leg.idle
  avgFrom := 0
  fastIn := 0
  slowIn := 0
  i2tIn := 0
  shown := none

/-- The setpoint port beyond its registers (chapter Voltage command port). Records' states are the VCP_REC registers. -/
structure Vcp where
  /-- By brick and SEQ: what a decided record answers (reason or source), the f at its decision, its TARGET (R227). -/
  info : List ((Nat × Nat) × (Nat × Int × Int))
  /-- By brick: the SEQ whose record belongs to the target in force; SEQs accepted since the last update instant, oldest
  first (R227). -/
  inForce : List (Nat × Nat)
  waiting : List (Nat × Nat)
  /-- By brick: CMD, SEQ and VALUE last accepted (R225). -/
  last : List (Nat × (Nat × Nat × Nat))
  /-- The 48-bit answer to the last frame; none where the device stayed silent or the answer was lost (R226). CLK_CORE tick up
  to which ACTIVE reads 1 (R234). -/
  answer : Option (BitVec 48)
  busyTill : Nat
  /-- Frame and CRC errors since the last 0x0403 sheet, and its CLK_CORE tick (R233). -/
  frames : Nat
  crcs : Nat
  sheetAt : Option Nat
deriving DecidableEq, Repr

/-- Charge control beyond its registers (chapter Charge and power path). -/
structure Cpm where
  /-- SYSTIME at which the open session started, CQ − DQ then in µAs (R364); the last evaluated multiple of 10 ms of
  SYSTIME (R360). -/
  openAt : Time
  chargeAt : Int
  evaluated : Nat
  /-- CLK_CORE tick and value of the samples of the bus voltage, the current and the voltage channel within the last
  second, newest first (R361 to R363). -/
  busHist : List (Nat × Int)
  curHist : List (Nat × Int)
  volHist : List (Nat × Int)
  /-- SYSTIME since which every evaluation met the termination condition (R361, R363). -/
  lowSince : Option Time
  /-- CLK_CORE ticks of the running dwell's end and of the next search; the reference bus voltage (R362). -/
  dwellAt : Option Nat
  searchAt : Option Nat
  vRef : Option Rat
  /-- The search limit I_S in sense units (R360). -/
  iS : Int
  /-- The manager's last target write: LOOP and TARGET (R361). -/
  written : Option (Bool × Int)
  /-- The precharge probe: CLK_CORE tick at which PRE_G rose, its T50 check made, the tick at which DSW_G closed, T_P in
  ticks, V_S in mV (R352). -/
  probeAt : Option Nat
  t50Done : Bool
  closedAt : Option Nat
  probeTime : Nat
  probeVs : Int
  /-- The newest decimated stack value that was not held, in mV (R352). -/
  stackV : Int
  /-- The SERVICE press: CLK_CORE tick at which it began; a switch-cycle request's deadline; ship mode waits for its sheet
  (R355 to R357). -/
  pressAt : Option Nat
  switchAt : Option Nat
  ship : Bool
  /-- The supply path: RC tick from which the qualification of each input counts; incoming source of a handover (true VIN_B),
  whether it is planned; SYSTIME of the losses of each input; RC tick since which an input under the long qualification is
  qualified (R345 to R349). -/
  qualA : Nat
  qualB : Nat
  handover : Option Bool
  planned : Bool
  lossesA : List Time
  lossesB : List Time
  longA : Option Nat
  longB : Option Nat
deriving DecidableEq, Repr

/-- What one conversion of the measurement chain converts (R276, R279, R286, R287). -/
inductive Conv where
  | sense (ch : Nat) | cell (c : Nat) | stack | hk (i : Nat) | ref
deriving DecidableEq, Repr

/-- What the calibration stage takes (R278): converter, input path, GAIN setting, the 14-bit code, the user trims. -/
structure RawSample where
  adc : Nat
  input : Nat
  gain : Nat
  raw : BitVec 14
  gainTrim : Int
  offset : Int
deriving DecidableEq, Repr

/-- A conversion that has not left the pipeline: its trigger's number, the number of its capture, its stamp and CLK_CORE tick,
the CLK_CONV cycle in which it starts (R267, R276), its code, its calibrated value, and whether it was clipped (R270, R278). -/
structure InFlight where
  conv : Conv
  trig : Nat
  cap : Nat
  stamp : Time
  tick : Nat
  start : Nat
  code : RawSample
  value : Int
  clipped : Bool
deriving DecidableEq, Repr

/-- An injection of the test DAC (R292): PATH, SEL, and CODE with its sign. -/
structure Inject where
  path : Nat
  sel : Nat
  code : Int
deriving DecidableEq, Repr

/-- A DMA stream beyond its registers (R288 to R290): the number of captures at its enable, records its source has
offered since, the number of captures at which it was disabled. -/
structure Stream where
  start : Nat
  offers : Nat
  stopAt : Option Nat
deriving DecidableEq, Repr

/-- The open-wire test (R294): idle, waiting for a measurement window to end, taking the baseline, waiting out WINDOW,
waiting out the gap after a tap. -/
inductive OwPhase where
  | idle | waiting | baseline | window | gap
deriving DecidableEq, Repr

/-- What a cell trigger fixes for its round (R284, R331): trigger number, cells held and cells the test DAC affects, and
the current sample of the same trigger. -/
structure Mark where
  trig : Nat
  held : List Nat
  test : List Nat
  current : Int
deriving DecidableEq, Repr

/-- The measurement chain beyond its registers (chapter Measurement chain). -/
structure Msr where
  /-- The pipelines of ADC_0 to ADC_3, oldest conversion first. -/
  pipe : List (List InFlight)
  /-- Captures since L1: accepted triggers, and housekeeping captures without one (R286). -/
  caps : Nat
  /-- Accepted triggers since L1; the CLK_CONV cycle of the last one; cycles in which the last conversion of it starts
  on ADC_0 and ADC_1, and of the last cell round on ADC_2 (R277, R282). -/
  trigs : Nat
  trigAt : Nat
  senseEnd : Nat
  cellEnd : Nat
  /-- The last edge on GPIO_0 (CLK_CONV cycle). -/
  extAt : Nat
  /-- The next instant of the periodic grid: second and index (R271). -/
  gridSec : Nat
  gridK : Nat
  /-- CLK_CORE tick up to which GPIO_1 is high (R275). -/
  pulseEnd : Option Nat
  /-- By channel: trigger number, value and tick of the newest sample (R162). -/
  last : List (Nat × (Nat × Int × Nat))
  /-- DIV count (R281); a skipped round makes the next accepted trigger a cell trigger (R282). -/
  cellCount : Nat
  cellLate : Bool
  /-- Marks of the cell rounds under conversion, the round whose samples leave the pipeline: trigger number, stamp and
  samples so far; CLK_CORE tick of the last cell trigger and its distance from the one before. -/
  marks : List Mark
  round : Option (Nat × Time × List Int)
  roundAt : Nat
  roundGap : Nat
  /-- The running block (R283, R284): its DEC, rounds summed, time, sums of cells 0 to N − 1 and the stack, cells held
  and cells the test DAC affected. -/
  dec : Nat
  rounds : Nat
  blockAt : Time
  sums : List Int
  blockHeld : List Nat
  blockTest : List Nat
  /-- CLK_CORE tick of the next housekeeping tick; a tick waiting for its capture; a captured round under conversion and
  whether reference slots were taken; completed rounds since P6 (R286). -/
  hkNext : Option Nat
  hkWait : Option Nat
  hkBusy : Bool
  hkRef : Bool
  hkRounds : Nat
  /-- Results of the round under conversion; inputs that were clipped in it; reference readings of ADC_0 to ADC_2;
  converters that deviated in the round before (R287). -/
  hkVals : List (Nat × Int)
  hkClip : List Nat
  refs : List (Nat × Int)
  refBad : List Nat
  /-- By code 0x0601 to 0x0603: CLK_CORE tick of the last sheet, events since (R298). -/
  sheets : List (Nat × (Nat × Nat))
  /-- Test DAC: what is injected now; a changed configuration and the accepted triggers until it takes effect (R292). -/
  dac : Option Inject
  dacNext : Option (Option Inject)
  dacWait : Nat
  /-- Open-wire test: phase, tap, last tap, window and threshold as taken at its start, cells of the rounds of the
  running average (newest first, at most 8), baseline sums, CLK_CORE deadline, an open tap found. -/
  ow : OwPhase
  owTap : Nat
  owLast : Nat
  owWindow : Nat
  owThr : Nat
  owRounds : List (List Int)
  owBase : List Int
  owAt : Nat
  owFound : Bool
  streams : List (Nat × Stream)
deriving DecidableEq, Repr

/-- One thermal sensor's consecutive-round counts (R307, R308, R311, R312): failing the range check, failing the
cross-check, failing neither, flagged broken, at or above SHUTDOWN, cool. -/
structure Sensor where
  range : Nat
  cross : Nat
  pass : Nat
  broken : Nat
  hotRun : Nat
  cool : Nat
deriving DecidableEq, Repr

/-- Thermal management beyond its registers: the sensors, the round whose throttle evaluation is still due, and a
thermal reset that waits for the all-off timeline (R309, R311). -/
structure Thm where
  sensors : List Sensor
  evalDue : Bool
  resetDue : Bool
deriving DecidableEq, Repr

/-- The window in progress (R321 to R328): frequency, lead-in start in ms since the epoch, method, slot, amplitude A of
an active window, cause of a disturbance (0 none), cells held in a round, rounds of the measuring part, lock-in sums of
the cells and of the current. -/
structure Window where
  j : Nat
  a : Nat
  measuring : Bool
  active : Bool
  slot : Nat
  amp : Int
  disturbed : Nat
  held : List Nat
  rounds : Nat
  acc : List (Int × Int)
  accI : Int × Int
deriving DecidableEq, Repr

/-- A cell round as the services see it (R331, R332): stamp, current sample, cell samples, cells held. -/
structure Round where
  stamp : Time
  current : Int
  cells : List Int
  held : List Nat
deriving DecidableEq, Repr

/-- A pulse being measured (R331): the means over the four rounds before (sums of four), the stamp and current of n0. -/
structure Pulse where
  baseI : Int
  baseV : List Int
  at0 : Time
  i0 : Int
  spoilt : Bool
deriving DecidableEq, Repr

/-- A rest point: Q, each cell's state of charge in 0.01 % where it got one, in the order of its cells (R332). -/
structure Rest where
  charge : Int
  soc : List (Nat × Rat)
deriving DecidableEq, Repr

/-- Impedance, health and balancing beyond the registers (chapter Cell impedance and balancing). -/
structure Cel where
  /-- The multiple of 60 s at which a requested sweep starts; t of the running sweep in ms; frequencies still to come,
  highest first; the window; the SYSTIME in ms below which the multiples of SWEEP_PERIOD are past. -/
  reqAt : Option Nat
  sweepT : Nat
  todo : List Nat
  window : Option Window
  lastStart : Option Nat
  /-- Result cells and frequencies of this sweep with the method (true active) (R336, impedance sheets). -/
  fresh : List ((Nat × Nat) × Bool)
  /-- By cell and bin: seconds of the window start and module temperature at its end (R329). -/
  info : List ((Nat × Nat) × (Nat × Int))
  /-- The last cell rounds, newest first (R331), the pulse under way, and by cell its last 16 accepted pulses. -/
  recent : List Round
  pulse : Option Pulse
  pulses : List (Nat × List Int)
  pulseMeta : List (Nat × (Nat × Int))
  /-- Pulse baselines, by cell: mean and temperature at that moment (R335). -/
  pulseBase : List (Nat × (Int × Int))
  /-- Q, signed 64 bits, in µAs, and the fraction of a µAs integrated beside it (R332); capacity estimates in mAh with their
  updates; stamp of the last round integrated. -/
  charge : BitVec 64
  chargeRem : Rat
  lastAt : Option Time
  caps : List (Nat × (Rat × Nat))
  /-- The running second: its number, sum of the current samples and their count; whole seconds of rest; mean current
  of the past second; the last rest point; charge drained by each balancing driver since, in µAs. -/
  secNo : Nat
  secSum : Int
  secCount : Nat
  restFor : Nat
  mean : Option Rat
  rest : Option Rest
  drained : List (Nat × Rat)
  /-- CLK_CORE tick and SYSTIME at which the drivers were switched on, and the tick at which their on-time ends. -/
  onSince : Nat
  onEnd : Option Nat
  /-- The charge limit L as evaluated, which CEL_BAL_LIM follows outside windows (R340). -/
  lim : Nat
  /-- SYSTIME second of the last balancing evaluation. -/
  balSec : Nat
  /-- CLK_CORE tick in which the last yield or open-wire test ended (R338). -/
  yieldEnd : Option Nat
deriving DecidableEq, Repr

/-- A couch bank beyond its registers: its points that are not 0, by index (R390). -/
structure Bank where
  words : List (Nat × Word)
  /-- The instant has been reached: the copy is made and the held state is due (R390). -/
  taken : Bool
deriving DecidableEq, Repr

/-- An increment of the meters (R371) that waits for its samples: trigger number, stamp, dt in 2⁻²⁸ s, the current and
the voltage sample. -/
structure Due where
  trig : Nat
  stamp : Time
  dt : Nat
  /-- Current and voltage channel, I_GAIN and V_GAIN in force at the trigger (R30). -/
  ch : Nat × Nat
  gain : Nat × Nat
  i : Option Int
  v : Option Int
deriving DecidableEq, Repr

/-- Four counters in units of 2⁻³² of their unit: CE, DE in µWh, CQ, DQ in µAs (R371). -/
structure Count where
  ce : Nat
  de : Nat
  cq : Nat
  dq : Nat
deriving DecidableEq, Repr

/-- The meters, reams and couch banks beyond their registers (chapter Meters, reams, couching and the journal). -/
structure Mtr where
  tot : Count
  run : Count
  /-- Totals, 0 to 3 for CE, DE, CQ, DQ, that would have passed 2⁶³ − 1 (R373); whether the bond that ran last has a meter tile
  (R370, R372). -/
  full : List Nat
  metered : Bool
  /-- Growth of DQ since the last counted cycle, in 2⁻³² µAs; CYCLES (R374). -/
  cycRem : Nat
  cycles : Nat
  /-- The running ream: index, flags, start, and the length in force (R378 to R383). -/
  index : Nat
  flags : Nat
  start : Time
  len : Nat
  /-- Bank entry the next latch writes (R379). -/
  slot : Nat
  /-- Stamp of the last accepted trigger; a resume after which the next trigger ends a gap, with the reset level or
  0xFF; the first trigger after a restore, with the totals sheet's stamp (R372, R384). -/
  last : Option Time
  resume : Option Nat
  restored : Option Time
  /-- Increments waiting for their samples; samples held for the new ream: increment, current, voltage (R379). -/
  due : List Due
  held : List Due
  /-- SYSTIME second last counted in the histogram, and the last UTC day with statistics sheets (R376, R377). -/
  histSec : Option Nat
  statDay : Option Nat
  /-- User points written since L1 (R385), the four couch banks, banks lost at a start whose sheets wait for P6:
  ID, T, state (R391). -/
  points : List (Nat × Word)
  banks : List Bank
  lost : List (Nat × Time × Nat)
deriving DecidableEq, Repr

/-- A frame handed to a port (R404): port 0 to 3 for A to D, TYPE, FLAGS, DEST, SRC, HOPS, TAG and payload. -/
structure Sent where
  port : Nat
  type : Nat
  flags : Nat
  dest : Nat
  src : Nat
  hops : Nat
  tag : Nat
  payload : List Byte
deriving DecidableEq, Repr

/-- A ring as this device knows it. Supervision (R407): the CLK_CORE tick of the next check, when the running check left,
checks in a row that failed and returned. The line an open ring leaves (R408): the last position, or string number, of its B
side, and whether this device stands on the A side. -/
structure Ring where
  nextAt : Nat
  sentAt : Option Nat
  missed : Nat
  returned : Nat
  sideB : Nat
  onSideA : Bool
deriving DecidableEq, Repr

/-- Passes of an enumeration (R411): none, claiming in the string, walking out of B, out of A, claiming on the trunk,
walking the trunk. -/
inductive Pass where
  | none | claim | walkB | walkA | trunkClaim | trunkWalk
deriving DecidableEq, Repr

/-- A distribution being received over the link (R421): kind (true image), APPLY, STORE, sender, length, bytes taken. -/
structure Dist where
  image : Bool
  apply : Bool
  store : Bool
  sender : Nat
  length : Nat
  got : Nat
deriving DecidableEq, Repr

/-- A distribution being sent (R421, R422): the bytes left, the offset of the next frame, MODE and target (in neighbour mode
the port), the CLK_CORE tick of the last frame. -/
structure Sending where
  rest : List Byte
  offset : Nat
  mode : Nat
  target : Nat
  last : Nat
deriving DecidableEq, Repr

/-- The Alraox link beyond its registers (chapter The Alraox link). -/
structure Lnk where
  /-- Frames handed to the ports, oldest first; the EVENT numbers used, by TYPE. -/
  out : List Sent
  events : List (Nat × Nat)
  /-- BOTH frames acted on: TYPE, SRC, EVENT and CLK_CORE tick (R408). -/
  seen : List (Nat × Nat × Nat × Nat)
  /-- The string ring and the trunk ring. -/
  string : Ring
  trunk : Ring
  /-- Enumeration: pass, tick of its last step, the device is still a candidate, serials reported at this walk with
  distance and side, the addresses of the last one (serial, position), heads of the trunk walk, the claims heard on the trunk
in this enumeration (serial, eligible), the entries of the assignment so far and whether one named this device; the devices
of the other strings, which no frame counts for the keystone. -/
  pass : Pass
  passAt : Nat
  candidate : Bool
  reports : List (BitVec 64 × Nat × Bool)
  table : List (BitVec 64 × Nat)
  heads : List (BitVec 64 × Nat)
  claims : List (BitVec 64 × Bool)
  assigned : Nat
  named : Bool
  others : Nat
  /-- A claim has passed since the device lost its address; late devices reported (R413). -/
  claimSeen : Bool
  late : List (BitVec 64)
  /-- CLK_CORE ticks: of the enumeration that is due, 200 ms after P6 or 100 ms after a HELLO; of the last own HELLO. -/
  enumAt : Option Nat
  helloAt : Nat
  /-- Remote access tags: tick of departure (R417). -/
  tags : List (Nat × Nat)
  /-- The exchange with the time parent: t1 and t4 in 2⁻³⁶ s, tick of SYNC_RSP; the last grid multiple used (R415). -/
  syncT1 : Option Nat
  syncT4 : Option (Nat × Nat)
  syncLast : Option Nat
  /-- The distribution being sent, the last one begun was an image, and the tick of its last frame; the image a neighbour is being served; the distribution
  being received. -/
  sending : Option Sending
  distImage : Bool
  distAt : Nat
  serve : Option Sending
  dist : Option Dist
  /-- Couch answers: tick of the request, ID, devices asked (R419). -/
  couchAt : Option Nat
  couchId : Nat
  /-- The forward FIFO, oldest first: address, source, timestamp (R423). -/
  fwd : List (Nat × Nat × Time)
  /-- Frame errors since the last 0x0B20 sheet, and the tick of that sheet (R425). -/
  crcNew : Nat
  codeNew : Nat
  errAt : Option Nat
deriving DecidableEq, Repr

/-- The state of the device. `pending` is the queue of commands that wait, first in first out
(DESIGN CHOICE: log entry 1). -/
structure State where
  pending : List Instr
  /-- Register words that differ from their reset value, by rising address. -/
  regs : List (Nat × Word)
  /-- What a path's reads return in place of the live word, by path (0 host, 1 link, 2 supervisor) and address (R81,
  R88, R387). -/
  shadow : List ((Nat × Nat) × Word)
  /-- Free values taken so far: the model's own counter, no part of the device (DESIGN CHOICE: log entry 24). -/
  free : Nat
  clk : Clk
  boot : Boot
  bkd : Bkd
  icu : Icu
  hst : Hst
  wdg : Wdg
  jnl : Jnl
  pins : Pins
  bnd : Bnd
  brk : List Brick
  seq : Seq
  vcp : Vcp
  cpm : Cpm
  msr : Msr
  thm : Thm
  cel : Cel
  mtr : Mtr
  lnk : Lnk
  /-- The sample RAM and the external flash, byte by byte where they differ from what an unlisted byte reads as. -/
  sram : List Host.Cell
  flash : List Host.Cell
deriving DecidableEq, Repr


/-! ### The machine right after a power-on reset -/

/-- The hidden state of each block as the power-on reset leaves it: nothing in progress, nothing held; the first lock is
the first after a power-on reset. -/
def Clk.initial : Clk where
  core := 0
  rc := 0
  bak := 0
  acc := 0
  onRc := true
  attemptAt := none
  qualifiedAt := none
  clockFail := false
  statBefore := 1
  refLostAt := none
  windowAt := 0
  seedFor := 1
  goodRun := 0
  badRun := 0
  lastSync := 0
  incs := []

def Bkd.initial : Bkd where
  powered := true
  sec := 0
  frac := 0
  trimTick := 0
  recent := []
  commit := none
  commitAt := 0
  fifo := []
  freezes := []
  stale := []
  lateCodes := []
  lateAlarm := false
  sampleAt := 0

/-- Before P0 ends; the OTP holds grade 1, -BGI, in FACTORY row 2 (R482 allows 1 and 2), the CRC-32 of rows 0 to 126 in row 127
and nothing else (a content the model names, so that a start from here passes R123: DESIGN CHOICE, unsafe, log entry 10). -/
def Boot.initial : Boot where
  power := .starting
  phase := 0
  level := 0
  hold := .none
  stat := none
  faults := []
  phaseAt := 0
  retryAt := 0
  timeHeld := true
  p2Restarts := 0
  p2Since := none
  waiting := none
  restart := none
  restartWdg := false
  resetAt := none
  opt0 := 0
  rstMap := 0
  otp := [(2, ⟨0x00000001, false, false⟩), (127, ⟨0xEAC08F68, false, false⟩)]
  otpCmd := none
  resetNLow := false
  tstHigh := false
  vsys := 0
  vpp := 0
  image := []
  imageToFlash := false
  updBlocks := 0
  updBytes := []
  updImage := []
  updCheck := false
  updLink := false
  loaderAskAt := 0
  loaderPort := 0
  loaderFrameAt := 0

def Icu.initial : Icu where
  stamps := []
  queue := []
  waiting := []
  stuck := []
  held := []
  intN := false
  gapEnd := none
  armed := false
  again := []
  latchStamps := []

def Hst.initial : Hst where
  dout := []
  status := 0
  nack := false
  prevBus := false
  prevLate := false
  prevFrame := false
  i2cNext := 0

def Wdg.initial : Wdg where
  armed := false
  count := 0
  sub := 0
  stopped := false
  starting := none
  failTick := none
  quiet := false
  began := false
  judged := none
  tOpen := 0
  tClose := 0
  pulseEnd := none
  firmReq := 0
  lastGood := 0

def Jnl.initial : Jnl where
  queue := []
  head := 0
  next := 0
  searching := true
  writing := none
  drainAt := 0
  lostNow := 0
  lostFirst := 0
  lostLast := 0
  loads := []
  onlyShorts := false

/-- Every output released, the regulators off; the levels of the inputs are the model's own (DESIGN CHOICE: log entry 6). -/
def Pins.initial : Pins where
  gates := .released
  faultN := .released
  wdo := .released
  cascOut := .released
  dswG := .released
  preG := .released
  auxEn := .released
  ppaG := .released
  ppbG := .released
  courseHold := false
  courseHigh := true
  cascIn := false
  mrgUp := false
  mrgDn := false
  aux1 := none
  aux2 := none
  pre := false
  io := false
  core := false
  ana := false
  pinSet := []
  gpioReleased := true
  hostReleased := true

def Bnd.initial : Bnd where
  bytes := []
  tiles := []
  staging := []
  wordAt := 0
  src := 0
  storeOnly := false
  storeAfter := false
  linkReq := none
  offer := []
  accepted := none
  storing := none
  afterSheet := false
  slotUsed := false

def Seq.initial : Seq where
  kind := .none
  todo := []
  wait := .none
  stepAt := 0
  holdMin := 0
  cascSeen := false
  short := false
  idleFrom := none
  tookHold := false
  out := false
  rejoinTo := 0
  timeline := false
  off := none
  pgRun := []
  retryAt := none
  viol := []
  confirmBy := none
  pulseAt := none
  confirmEnd := none
  answers := []
  floorDone := []
  floorGiven := false
  headStep := none
  pulseHeld := none
  steps := []
  lineTold := 0
  concerned := []
  strCourse := 0
  stepping := false
  sysCourse := 0
  sysDown := false
  unreported := false
  trunkAt := none
  heads := []
  lowSupply := []
  lines := []
  floorReq := false
  rejoining := []
  invalidLows := 0
  invalidAt := none

def Vcp.initial : Vcp where
  info := []
  inForce := []
  waiting := []
  last := []
  answer := none
  busyTill := 0
  frames := 0
  crcs := 0
  sheetAt := none

def Cpm.initial : Cpm where
  openAt := 0
  chargeAt := 0
  evaluated := 0
  busHist := []
  curHist := []
  volHist := []
  lowSince := none
  dwellAt := none
  searchAt := none
  vRef := none
  iS := 0
  written := none
  probeAt := none
  t50Done := false
  closedAt := none
  probeTime := 0
  probeVs := 0
  stackV := 0
  pressAt := none
  switchAt := none
  ship := false
  qualA := 0
  qualB := 0
  handover := none
  planned := false
  lossesA := []
  lossesB := []
  longA := none
  longB := none

def Msr.initial : Msr where
  pipe := [[], [], [], []]
  caps := 0
  trigs := 0
  trigAt := 0
  senseEnd := 0
  cellEnd := 0
  extAt := 0
  gridSec := 0
  gridK := 0
  pulseEnd := none
  last := []
  cellCount := 0
  cellLate := false
  marks := []
  round := none
  roundAt := 0
  roundGap := 0
  dec := 0
  rounds := 0
  blockAt := 0
  sums := []
  blockHeld := []
  blockTest := []
  hkNext := none
  hkWait := none
  hkBusy := false
  hkRef := false
  hkRounds := 0
  hkVals := []
  hkClip := []
  refs := []
  refBad := []
  sheets := []
  dac := none
  dacNext := none
  dacWait := 0
  ow := .idle
  owTap := 0
  owLast := 0
  owWindow := 0
  owThr := 0
  owRounds := []
  owBase := []
  owAt := 0
  owFound := false
  streams := []

def Thm.initial : Thm where
  sensors := List.replicate 13 ⟨0, 0, 0, 0, 0, 0⟩
  evalDue := false
  resetDue := false

def Cel.initial : Cel where
  reqAt := none
  sweepT := 0
  todo := []
  window := none
  lastStart := none
  fresh := []
  info := []
  recent := []
  pulse := none
  pulses := []
  pulseMeta := []
  pulseBase := []
  charge := 0
  chargeRem := 0
  lastAt := none
  caps := []
  secNo := 0
  secSum := 0
  secCount := 0
  restFor := 0
  mean := none
  rest := none
  drained := []
  onSince := 0
  onEnd := none
  lim := 16
  balSec := 0
  yieldEnd := none

def Bank.free : Bank := ⟨[], false⟩

def Mtr.initial : Mtr where
  tot := ⟨0, 0, 0, 0⟩
  run := ⟨0, 0, 0, 0⟩
  full := []
  metered := false
  cycRem := 0
  cycles := 0
  index := 0
  flags := 0
  start := 0
  len := 3600
  slot := 0
  last := none
  resume := none
  restored := none
  due := []
  held := []
  histSec := none
  statDay := none
  points := []
  banks := [Bank.free, Bank.free, Bank.free, Bank.free]
  lost := []

def Ring.initial : Ring := ⟨0, none, 0, 0, 0, false⟩

def Lnk.initial : Lnk where
  out := []
  events := []
  seen := []
  string := Ring.initial
  trunk := Ring.initial
  pass := .none
  passAt := 0
  candidate := false
  reports := []
  table := []
  heads := []
  claims := []
  assigned := 0
  named := false
  others := 0
  claimSeen := false
  late := []
  enumAt := none
  helloAt := 0
  tags := []
  syncT1 := none
  syncT4 := none
  syncLast := none
  sending := none
  distImage := false
  distAt := 0
  serve := none
  dist := none
  couchAt := none
  couchId := 0
  fwd := []
  crcNew := 0
  codeNew := 0
  errAt := none

/-- The device right after a power-on reset (R117): Starting, before P0 ends; every register at its reset value but
RPC_RST_CAUSE, whose bit 0 the reset sets, and MTR_STAT.RESTORING, which reads 1 from it (R384). The backup domain stands as at a first rise of VBAK.
The values no Reset column gives are DESIGN CHOICE, unsafe: log entry 6. -/
def State.reset : State where
  pending := []
  regs := [(0x10000, 1), (0x180004, 0x00100000)]
  shadow := []
  free := 0
  clk := Clk.initial
  boot := Boot.initial
  bkd := Bkd.initial
  icu := Icu.initial
  hst := Hst.initial
  wdg := Wdg.initial
  jnl := Jnl.initial
  pins := Pins.initial
  bnd := Bnd.initial
  brk := List.replicate 16 Brick.fresh
  seq := Seq.initial
  vcp := Vcp.initial
  cpm := Cpm.initial
  msr := Msr.initial
  thm := Thm.initial
  cel := Cel.initial
  mtr := Mtr.initial
  lnk := Lnk.initial
  sram := []
  flash := []

end Sys2Proof.Machine
end

