-- ==== Sys2Proof/Machine/Ops.lean ====
section
/-! DEFINITION. The operations every chapter shares: registers and fields, free values, timers, interrupts (R439 to
R443), sheets (R392 to R394), configuration and bus errors (R9, R10, R429). -/
namespace Sys2Proof.Machine

/-! ### Registers and fields -/

/-- The stored word of the register at `a`: its entry, or its reset value. -/
def State.reg (s : State) (a : Nat) : Word :=
  match findReg a s.regs with
  | some v => v
  | none => regReset a

/-- The register list with the word at `a` set, an entry that equals the reset value removed. -/
def setRegs (a : Nat) (v : Word) (l : List (Nat × Word)) : List (Nat × Word) :=
  if v = regReset a then dropReg a l else insertReg a v (dropReg a l)

/-- Set the word of the register at `a`. -/
def State.setReg (s : State) (a : Nat) (v : Word) : State := { s with regs := setRegs a v s.regs }

/-- The value of a field. -/
def State.fld (s : State) (f : Fld) : Nat := bitsOf (s.reg f.reg).toNat f.lo f.width

/-- Whether a one-bit field reads 1. -/
def State.flag (s : State) (f : Fld) : Bool := s.fld f != 0

/-- The value of a field read as a signed number. -/
def State.sfld (s : State) (f : Fld) : Int := (BitVec.ofNat f.width (s.fld f)).toInt

/-- Set a field; the value is cut to the field's width. -/
def State.setFld (s : State) (f : Fld) (v : Nat) : State := s.setReg f.reg (putBits (s.reg f.reg) f.lo f.width v)

/-- Set a one-bit field. -/
def State.setFlag (s : State) (f : Fld) (b : Bool) : State := s.setFld f (if b then 1 else 0)

/-- The low `width` bits of a signed number, as a field holds them. -/
def encodeInt (width : Nat) (i : Int) : Nat := (BitVec.ofInt width i).toNat

/-- Limit a number to the range of a signed field of `width` bits. -/
def clampInt (lo hi i : Int) : Int := if i < lo then lo else if hi < i then hi else i

/-- Count up by one and stop at the field's largest value. -/
def State.bump (s : State) (f : Fld) : State :=
  if s.fld f + 1 < 2 ^ f.width then s.setFld f (s.fld f + 1) else s

/-- Apply `f` for each element of a list, first element first. -/
def forEach {α : Type} (l : List α) (f : α → State → State) (s : State) : State := l.foldl (fun t a => f a t) s

/-- `f s` where `b` holds, else `s`. -/
def onlyIf (b : Bool) (f : State → State) (s : State) : State := if b then f s else s

/-- Take the next free value, below `2 ^ width`, and advance the counter: a value the spec leaves open (DESIGN
CHOICE, safe: log entry 24). -/
def State.takeFree (s : State) (width : Nat) : Nat × State :=
  (Config.freeValue s.free % 2 ^ width, { s with free := s.free + 1 })

/-- The `i`-th element of a list with a default. -/
def nth {α : Type} (l : List α) (i : Nat) (d : α) : α := l.getD i d

/-- The value a list of pairs holds for a key. -/
def lookupD {α β : Type} [DecidableEq α] (l : List (α × β)) (k : α) (d : β) : β :=
  match l.find? (fun p => decide (p.1 = k)) with
  | some p => p.2
  | none => d

/-- A list of pairs with the entry of a key replaced. -/
def putPair {α β : Type} [DecidableEq α] (l : List (α × β)) (k : α) (v : β) : List (α × β) :=
  (k, v) :: l.filter (fun p => !decide (p.1 = k))

/-- A list of pairs without the entry of a key. -/
def dropPair {α β : Type} [DecidableEq α] (l : List (α × β)) (k : α) : List (α × β) :=
  l.filter (fun p => !decide (p.1 = k))

/-! ### Time -/

/-- SYSTIME, the visible 64 bits of the accumulator (R67). -/
def State.now (s : State) : Time := (s.clk.acc >>> 24).setWidth 64

/-- SYSTIME and an instant near it as unbounded counts of 2⁻²⁸ s (R485). -/
def State.nowU (s : State) : Nat := (s.clk.acc >>> 24).toNat
def State.unbounded (s : State) (t : Time) : Nat := ((s.nowU : Int) + (t - s.now).toInt).toNat

/-- Whole seconds since the epoch, unbounded. -/
def State.secNow (s : State) : Nat := s.nowU / 2 ^ 28

/-- CLK_CORE ticks in one microsecond, and RC ticks (R59, R60). -/
def coreUs : Nat := 240
def rcUs : Nat := 10

/-- Whether a deadline has been reached. -/
def reached (deadline : Option Nat) (tick : Nat) : Bool :=
  match deadline with
  | some d => decide (d ≤ tick)
  | none => false

/-- The instant `t` reached at `s.now`: the difference modulo 2⁶⁴ read as signed (R68, R485). -/
def timeReached (t now : Time) : Bool := decide (0 ≤ (now - t).toInt)

/-- The device is in Idle or Run (R3). -/
def State.active (s : State) : Bool := s.boot.power == .active

/-- The device runs with some rail above course 0 (R3, Run). -/
def State.railUp (s : State) : Bool := s.active && (s.fld SEQ_STAT_DEV_COURSE != 0 || s.fld SEQ_ON_RAIL != 0)

/-- The device is in Idle: every rail at course 0 (R3). -/
def State.idle (s : State) : Bool := s.active && !s.railUp

/-- CLK_CORE runs: from P4, or in an L1 start whose PLL stayed locked, in Idle and Run (R58, R64, R70). -/
def State.coreRuns (s : State) : Bool :=
  match s.boot.power with
  | .active => true
  | .starting => !s.clk.onRc || decide (4 ≤ s.boot.phase)
  | _ => false

/-! ### The link's frames -/

/-- A bit as a number. -/
def bit (b : Bool) : Nat := if b then 1 else 0

/-- The bytes of a number, low byte first. -/
def leBytes : Nat → Nat → List Byte
  | 0, _ => []
  | n + 1, v => BitVec.ofNat 8 v :: leBytes n (v / 256)

/-- The symbols of a frame between its delimiters (R404): header, payload, and the CRC over the header with HOPS 0. -/
def Sent.wire (f : Sent) : List Byte :=
  let b := leBytes 1 f.type ++ leBytes 1 f.flags ++ leBytes 2 f.dest ++ leBytes 2 f.src
  let r := leBytes 1 f.tag ++ leBytes 2 f.payload.length ++ f.payload
  b ++ leBytes 1 f.hops ++ r ++ leBytes 4 (crc32 (b ++ leBytes 1 0 ++ r)).toNat

/-- The device is a head (or the keystone), the keystone, unaddressed (LNK_STAT.ROLE). -/
def State.isHead (s : State) : Bool := s.fld LNK_STAT_ROLE == 1 || s.fld LNK_STAT_ROLE == 2
def State.isKeystone (s : State) : Bool := s.fld LNK_STAT_ROLE == 2
def State.unaddressed (s : State) : Bool := s.flag LNK_ADDR_UNADDR

/-- An addressed device acts on delivered frames; an unaddressed one only on those of enumeration (R412). -/
def State.linked (s : State) : Bool := s.active && !s.unaddressed

/-- Port `p` is enabled (R401), and up besides (R403). -/
def State.portOn (s : State) (p : Nat) : Bool := bitsOf (s.fld LNK_STAT_EN) p 1 == 1
def State.portUp (s : State) (p : Nat) : Bool := s.portOn p && bitsOf (s.fld LNK_STAT_UP) p 1 == 1

/-- The port of the shorter way from `p` to `q` round a closed ring of `n` (R408): out of LNK_B or LNK_D on a tie. -/
def shorterWay (ring n p q : Nat) : Nat :=
  let fwd := (q + n - p) % (max n 1)
  if fwd ≤ n - fwd then 2 * ring + 1 else 2 * ring

/-- Put one frame on a port; a port that is not up carries nothing, nor does any while CLK_EDGE, which times the symbols, stops
(R59, R64), and none leaves with HOPS above 63 (R405). -/
def State.put (port type dest src hops tag : Nat) (both : Bool) (payload : List Byte) (s : State) : State :=
  if s.portUp port && !s.clk.onRc && decide (hops ≤ 63) then
    let f : Sent := ⟨port, type, (1 - port % 2) + 2 * (port / 2) + (if both then 4 else 0), dest, src, hops, tag, payload⟩
    { s with lnk := { s.lnk with out := s.lnk.out ++ [f] } }
  else s

/-- A frame of this device's own: HOPS 0. -/
def State.emit (port type dest tag : Nat) (both : Bool) (payload : List Byte) (s : State) : State :=
  s.put port type dest (if s.unaddressed then 0x8000 else s.fld LNK_ADDR_ADDR) 0 tag both payload

/-- The ports a broadcast on a ring leaves by (R408): LNK_B or LNK_D on a closed ring, both ways on an open one, and both
ways for ALLOFF and RING_STATE. -/
def State.castPorts (s : State) (ring : Nat) (both : Bool) : List Nat :=
  if both || (if ring = 0 then s.flag LNK_STAT_STR_OPEN else s.flag LNK_STAT_TRK_OPEN) then [2 * ring + 1, 2 * ring]
  else [2 * ring + 1]

def State.ring (s : State) (trunk : Bool) : Ring := if trunk then s.lnk.trunk else s.lnk.string
def State.setRing (trunk : Bool) (r : Ring) (s : State) : State :=
  if trunk then { s with lnk := { s.lnk with trunk := r } } else { s with lnk := { s.lnk with string := r } }

def openFld (trunk : Bool) : Fld := if trunk then LNK_STAT_TRK_OPEN else LNK_STAT_STR_OPEN

/-- On an open ring, whether the way from `p` to `q` leaves by LNK_B or LNK_D: the ring is a line whose B side ends at
`sideB`, and the A side stands on the other side of position 0. -/
def Ring.openWay (r : Ring) (p q : Nat) : Bool :=
  if r.onSideA then decide (p < q) || decide (q ≤ r.sideB) else decide (p < q) && decide (q ≤ r.sideB)

/-- The port from `p` to `q` of a ring of `n` (R408): the shorter way round a closed ring, the only way on an open one. -/
def State.ringPort (s : State) (trunk : Bool) (n p q : Nat) : Nat :=
  if s.flag (openFld trunk) then 2 * bit trunk + bit ((s.ring trunk).openWay p q) else shorterWay (bit trunk) n p q

/-- The port towards position `q` of the own string, and from a head towards string `t` of the trunk. -/
def State.stringPort (s : State) (q : Nat) : Nat := s.ringPort false (s.fld LNK_ADDR_NDEV) (s.fld LNK_ADDR_ADDR % 64) q
def State.trunkPort (s : State) (t : Nat) : Nat := s.ringPort true (s.fld LNK_ADDR_NSTR) (s.fld LNK_ADDR_ADDR / 64) t

/-- Send to one address (R408, R409): round the own string, or over the trunk through the heads. -/
def State.sendTo (type target tag : Nat) (payload : List Byte) (s : State) : State :=
  let p := if target / 64 = s.fld LNK_ADDR_ADDR / 64 then s.stringPort (target % 64)
    else if s.isHead then s.trunkPort (target / 64) else s.stringPort 0
  s.emit p type (target % 4096) tag false payload

/-- The next EVENT number of a type. -/
def State.eventNo (s : State) (type : Nat) : Nat := (lookupD s.lnk.events type 0) % 256

/-- Send a frame in a broadcast mode of R404 (2 own string, 3 whole system, 4 trunk, 5 head of the own string, 6
keystone) with the type's EVENT number; a device that is itself the head or the keystone sends nothing there. -/
def State.send (type mode : Nat) (both : Bool) (payload : List Byte) (s : State) : State :=
  let ev := s.eventNo type
  let cast (ring : Nat) (t : State) : State :=
    forEach (t.castPorts ring both) (fun p u => u.emit p type (mode * 4096) ev both payload) t
  let t := { s with lnk := { s.lnk with events := putPair s.lnk.events type ((ev + 1) % 256) } }
  match mode with
  | 2 => cast 0 t
  | 3 => if s.isHead then cast 1 (cast 0 t) else cast 0 t
  | 4 => cast 1 t
  | 5 => if s.isHead then s else t.emit (t.stringPort 0) type (mode * 4096) ev both payload
  | 6 => if s.isKeystone then s
    else t.emit (if s.isHead then t.trunkPort 0 else t.stringPort 0) type (mode * 4096) ev both payload
  | _ => s

/-- The device's own frame, or what it relayed itself, has come back: its originator removes it (R408, R409). -/
def State.ownReturn (f : FrameHead) (s : State) : Bool :=
  let own := s.fld LNK_ADDR_ADDR
  !s.unaddressed && decide (f.address.toNat = own) ||
    (s.isHead && f.mode == 3 && decide (f.port.toNat < 2) != decide (f.address.toNat / 64 = own / 64))

/-- A broadcast is not only for this device: it leaves by the other port of the ring it came by, one hop on (R405, R408). -/
def State.forward (f : FrameHead) (type src : Nat) (both : Bool) (payload : List Byte) (s : State) : State :=
  if 2 ≤ f.mode.toNat ∧ f.mode.toNat ≤ 4 then
    s.put (f.port.toNat + 1 - 2 * (f.port.toNat % 2)) type (f.mode.toNat * 4096) src (f.hops.toNat + 1) f.tag.toNat both payload
  else s

/-- A frame that is not only for this device goes on: forwarded on its ring, a system broadcast besides relayed by a head from
the trunk into its string and from its string onto the trunk (R405, R409). -/
def State.relay (f : FrameHead) (type src : Nat) (both : Bool) (payload : List Byte) (s : State) : State :=
  let t := s.forward f type src both payload
  if s.isHead && f.mode == 3 then
    forEach (s.castPorts (if f.port.toNat < 2 then 1 else 0) both)
      (fun p t => t.put p type 0x3000 src (f.hops.toNat + 1) f.tag.toNat both payload) t
  else t

/-- A frame that comes by a port is taken in: a disabled port takes none, and an own frame come back is removed instead (R401,
R408). -/
def State.takesIn (f : FrameHead) (s : State) : Bool := s.active && s.portOn f.port.toNat && !s.ownReturn f

/-- A frame that is taken in goes on. -/
def State.passOn (f : FrameHead) (type src : Nat) (both : Bool) (payload : List Byte) (s : State) : State :=
  if s.takesIn f then s.relay f type src both payload else s

/-- A frame sent in both directions is acted on once within 1 ms (R408). -/
def State.firstCopy (type src event : Nat) (s : State) : Bool × State :=
  let l := s.lnk.seen.filter (fun e => decide (s.clk.core ≤ e.2.2.2 + 1000 * coreUs))
  let dup := l.any (fun e => decide (e.1 = type) && decide (e.2.1 = src) && decide (e.2.2.1 = event))
  (!dup, { s with lnk := { s.lnk with seen := if dup then l else (type, src, event, s.clk.core) :: l } })

/-- Queue an entry in the head's forward FIFO (R423), source 683; a full one counts an overflow, and source 684 is raised
where FWD_OVF still increases (R426). The second answer is the source the caller raises. -/
def State.fwdPush (address source : Nat) (stamp : Time) (s : State) : State × Option Nat :=
  if s.lnk.fwd.length < 64 then
    ({ s with lnk := { s.lnk with fwd := s.lnk.fwd ++ [(address, source, stamp)] } }, some 683)
  else (s.bump LNK_DROP_CNT_FWD_OVF, if s.fld LNK_DROP_CNT_FWD_OVF < 255 then some 684 else none)

/-! ### Interrupts -/

/-- The ICU takes what its sources raise: from the end of P0, in Idle, in Run, and in Standby. INT_N itself stays released
until P4 takes its ball over (R45, R52; the phases before P4: DEDUCED, log entry 23). -/
def State.icuRuns (s : State) : Bool :=
  match s.boot.power with
  | .active => true
  | .standby => true
  | .starting => decide (1 ≤ s.boot.phase)
  | _ => false

/-- INT_N follows the queue, with at least 1 µs released after each release (R443). -/
def State.driveInt (s : State) : State :=
  let want := s.flag ICU_CTRL_INT_EN && !s.icu.queue.isEmpty && s.icuRuns && !s.pins.hostReleased
  if s.icu.intN then
    if want then s
    else { s with icu := { s.icu with intN := false, gapEnd := some (s.clk.core + coreUs) } }
  else if want && (s.icu.gapEnd.isNone || reached s.icu.gapEnd s.clk.core) then
    { s with icu := { s.icu with intN := true, gapEnd := none } }
  else s

/-- Whether entry `a` stands before entry `b` in the host queue: higher priority, then earlier stamp, then lower source
number (R441). -/
def QEntry.before (a b : QEntry) : Bool :=
  decide (b.prio < a.prio) || (decide (a.prio = b.prio) &&
    (decide ((a.stamp - b.stamp).toInt < 0) || (decide (a.stamp = b.stamp) && decide (a.source < b.source))))

/-- The head entry of the host queue (R441). -/
def headEntry : List QEntry → Option QEntry
  | [] => none
  | e :: r =>
    match headEntry r with
    | none => some e
    | some h => if h.before e then some h else some e

/-- A source neither waits behind a group nor for its destination. -/
def State.unwait (src : Nat) (s : State) : State :=
  { s with icu := { s.icu with
      waiting := s.icu.waiting.filter (fun e => !decide (e = src))
      stuck := s.icu.stuck.filter (fun e => !decide (e = src)) } }

/-- Remove the queue entry of a source (R441). -/
def State.dropEntry (src : Nat) (s : State) : State :=
  { s with icu := { s.icu with queue := s.icu.queue.filter (fun e => !decide (e.source = src)) } }

/-- Clear PEND and AGAIN of a source and remove its entry and its wait (R439, R441). -/
def State.clearPend (s : State) (src : Nat) : State :=
  let t := (((s.setFld (ICU_SRC_PEND src) 0).setFld (ICU_SRC_AGAIN src) 0).dropEntry src).unwait src
  { t with icu := { t.icu with stamps := dropPair t.icu.stamps src } }

/-- A source is eligible while PEND and EN are 1 (R439). -/
def State.eligible (s : State) (src : Nat) : Bool := s.flag (ICU_SRC_PEND src) && s.flag (ICU_SRC_EN src)

/-- A delivered source that its destination cannot take yet. -/
def State.addStuck (src : Nat) (s : State) : State := { s with icu := { s.icu with stuck := s.icu.stuck ++ [src] } }

/-- Deliver an eligible source to its destination (R440, R441). Answers the state and the source this raises in turn: 6 at a
full queue (QFULL_EV), 683 or 684 at the head's own forward FIFO (R423). -/
def State.deliver (s : State) (src : Nat) : State × Option Nat :=
  let was := s.icu.stuck.contains src
  let t := s.unwait src
  let stamp := lookupD s.icu.stamps src 0
  match s.fld (ICU_SRC_DEST src) with
  | 0 | 1 | 2 => (s.clearPend src, none)
  | 3 =>
    if s.icu.queue.any (fun e => decide (e.source = src)) then (t, none)
    else if s.icu.queue.length < 64 then
      let e : QEntry := ⟨src, s.fld (ICU_SRC_PRIO src), stamp⟩
      ({ t with icu := { t.icu with queue := t.icu.queue ++ [e] } }, none)
    else if was then (t.addStuck src, none)
    else ((t.addStuck src).setFld ICU_STAT_QFULL_EV 1, some 6)
  | _ =>
    -- DEST 4: an IRQ_FWD frame is sent; PEND clears when it has left, so the source stays pending without an address and
    -- while no port carries the frame (R440, R423)
    if s.unaddressed then (t.addStuck src, none)
    else if s.isHead then (s.clearPend src).fwdPush (s.fld LNK_ADDR_ADDR) src stamp
    else
      let c := s.send 0x71 5 false (leBytes 2 src ++ leBytes 2 0 ++ leBytes 8 stamp.toNat)
      if s.lnk.out.length < c.lnk.out.length then (c.clearPend src, none) else (t.addStuck src, none)

/-- The hold-off a source passes: its group's, 0 for GROUP 0xFF (R442). -/
def State.holdOff (s : State) (src : Nat) : Nat :=
  let g := s.fld (ICU_SRC_GROUP src)
  if g < 32 then s.fld (ICU_HOLD_HOLD g) else 0

/-- Offer an eligible source: delivered at once, with its group then held, or made to wait behind a held group
(R442). -/
def State.offer (s : State) (src : Nat) : State × Option Nat :=
  if s.eligible src then
    let g := s.fld (ICU_SRC_GROUP src)
    if s.icu.held.any (fun p => decide (p.1 = g)) then
      let t := s.unwait src
      ({ t with icu := { t.icu with waiting := t.icu.waiting ++ [src] } }, none)
    else
      let h := s.holdOff src
      let t := if h = 0 then s else
        { s with icu := { s.icu with held := putPair s.icu.held g (s.clk.core + h * coreUs) } }
      t.deliver src
  else (s.unwait src, none)

/-- Mark a source pending, or AGAIN where it is pending already, without delivery (R439). -/
def State.markPend (s : State) (src : Nat) (stamp : Time) : State :=
  if s.flag (ICU_SRC_PEND src) then s.setFld (ICU_SRC_AGAIN src) 1
  else
    let t := s.setFld (ICU_SRC_PEND src) 1
    { t with icu := { t.icu with stamps := putPair t.icu.stamps src stamp } }

/-- Raise a source with a stamp and offer it, once (R439). A full queue raises source 6 in turn (Table — Global
interrupt sources), by the wrapper below. -/
def State.raiseOnce (s : State) (src : Nat) (stamp : Time) : State × Option Nat :=
  let was := s.flag (ICU_SRC_PEND src)
  let t := s.markPend src stamp
  if was then (t, none) else t.offer src

/-- The sources that deliveries raise in turn, one after another. The chain ends by itself before `n` runs out: only 6, 683 and
684 are raised so, 6 at most once while it is pending, 683 while the forward FIFO of 64 has room, 684 while FWD_OVF of 8 bits
increases. -/
def State.chain : Nat → State × Option Nat → State
  | 0, r => match r.2 with
    | none => r.1
    | some k => r.1.markPend k r.1.now
  | n + 1, r => match r.2 with
    | none => r.1
    | some k => State.chain n (r.1.raiseOnce k r.1.now)

/-- The source a delivery raised in turn is raised and delivered itself (R439). -/
def State.afterFull (r : State × Option Nat) : State := State.chain 400 r

/-- Raise an interrupt source with a given stamp (R439, R445). -/
def State.raiseAt (src : Nat) (stamp : Time) (s : State) : State :=
  if s.icuRuns then (State.afterFull (s.raiseOnce src stamp)).driveInt else s

/-- Raise an interrupt source now (R439, R77). -/
def State.raise (src : Nat) (s : State) : State := s.raiseAt src s.now

/-- Deliver sources one after another; those no longer eligible drop out. -/
def State.deliverAll (srcs : List Nat) (s : State) : State :=
  (forEach srcs (fun src t => if t.eligible src then State.afterFull (t.deliver src) else t.unwait src) s).driveInt

/-- After queue entries left: deliveries that found the queue full are made while there is room (R441). -/
def State.refillQueue (s : State) : State :=
  s.deliverAll ((s.icu.stuck.filter (fun src => decide (s.fld (ICU_SRC_DEST src) = 3))).take (64 - s.icu.queue.length))

/-- The device has taken an address: the forwarded sources leave (R440). -/
def State.forwardStuck (s : State) : State :=
  s.deliverAll (s.icu.stuck.filter (fun src => decide (s.fld (ICU_SRC_DEST src) = 4)))

/-- Set a flag and raise the source listed as raised when it is set, whether or not it already reads 1 (R484). -/
def State.flagRaise (f : Fld) (src : Nat) (s : State) : State := (s.setFld f 1).raise src

/-! ### Sheets -/

/-- The ADDRESS field of a sheet made now (R392). -/
def State.sheetAddress (s : State) : BitVec 16 :=
  if s.flag LNK_ADDR_UNADDR then 0x8000 else BitVec.ofNat 16 (s.fld LNK_ADDR_ADDR)

/-- Put a sheet into the journal queue: numbered at once, or waiting for the head search; a full queue loses it
(R394). Source 617 at the rise from 23 to 24 (R399). -/
def State.queueSheet (type : Nat) (payload : List Byte) (s : State) : State :=
  if s.jnl.queue.length < 32 then
    let sh : Sheet := ⟨s.now, s.sheetAddress, if s.jnl.searching then none else some s.jnl.next, type, payload⟩
    let t := { s with jnl := { s.jnl with
      queue := s.jnl.queue ++ [sh], next := if s.jnl.searching then s.jnl.next else s.jnl.next + 1 } }
    onlyIf (t.jnl.queue.length == 24) (State.raise 617) t
  else
    let t := s.bump JNL_LOST_LOST
    let t := { t with jnl := { t.jnl with
      lostNow := t.jnl.lostNow + 1
      lostFirst := if t.jnl.lostNow = 0 then s.now else t.jnl.lostFirst
      lostLast := s.now } }
    t.flagRaise JNL_STAT_LOST_EV 615

/-- A type of Table — Fault code blocks: a fault's code (R13). -/
def isCode (type : Nat) : Bool := decide (0x0101 ≤ type) && decide (type ≤ 0x0EFF)

/-- A recorded fault with a code other than 0x0221 ends the hope of a retry (R213). -/
def State.noteFault (type : Nat) (s : State) : State :=
  if isCode type && type != 0x0221 then { s with jnl := { s.jnl with onlyShorts := false } } else s

/-- Make a sheet (R394). A code sheet that is made sets its GLB_SUMMARY block bit and LAST_CODE, source 7 (R447). -/
def State.sheet (type : Nat) (payload : List Byte) (s : State) : State :=
  let s := s.noteFault type
  if s.jnl.queue.length < 32 && isCode type then
    let t := s.queueSheet type payload
    let t := t.setFld GLB_SUMMARY_LAST_CODE type
    (t.setReg GLB_SUMMARY (t.reg GLB_SUMMARY ||| BitVec.ofNat 32 (1 <<< (type / 256)))).raise 7
  else s.queueSheet type payload

/-! ### Configuration errors -/

/-- The CFG_ERR flag, the record register and the interrupt source of the block at an address (R9, R10). -/
def cfgErrOf (a : Nat) : Fld × Nat × Nat :=
  match a / 0x10000 with
  | 0x0 => (GLB_STAT_CFG_ERR, 0, 1)
  | 0x1 => (RPC_CFG_ERR_INFO_CFG_ERR, RPC_CFG_ERR_INFO, 13)
  | 0x2 => (OTP_STAT_CFG_ERR, OTP_CFG_ERR_INFO, 14)
  | 0x3 => (STM_STAT_CFG_ERR, STM_CFG_ERR_INFO, 29)
  | 0x4 => (RTC_STAT_CFG_ERR, BKD_CFG_ERR_INFO, 792)
  | 0x5 => (BND_STAT_CFG_ERR, BND_CFG_ERR_INFO, 21)
  | 0x10 => (BRK_STAT_CFG_ERR (a / 0x1000 % 16), BRK_CFG_ERR_INFO (a / 0x1000 % 16), 64 + 16 * (a / 0x1000 % 16) + 5)
  | 0x12 => (VCP_STAT_CFG_ERR, VCP_CFG_ERR_INFO, 326)
  | 0x13 => (SEQ_STAT_CFG_ERR, SEQ_CFG_ERR_INFO, 365)
  | 0x14 => (MSR_STAT_CFG_ERR, MSR_CFG_ERR_INFO, 425)
  | 0x16 => (CEL_STAT_CFG_ERR, CEL_CFG_ERR_INFO, 521)
  | 0x17 => (CPM_CHG_STAT_CFG_ERR, CPM_CFG_ERR_INFO, 585)
  | 0x18 => (MTR_STAT_CFG_ERR, MTR_CFG_ERR_INFO, 614)
  | 0x19 => (JNL_STAT_CFG_ERR, JNL_CFG_ERR_INFO, 619)
  | 0x1A => (LNK_STAT_CFG_ERR, LNK_CFG_ERR_INFO, 686)
  | 0x1B => (ICU_STAT_CFG_ERR, ICU_CFG_ERR_INFO, 2)
  | 0x1C => (WDG_STAT_CFG_ERR, WDG_CFG_ERR_INFO, 770)
  | _ => (HST_STAT_CFG_ERR, HST_CFG_ERR_INFO, 3)

/-- The byte offset of a register within its block: within BRK_n for a brick, within the 64 KB window otherwise. -/
def blockOffset (a : Nat) : Nat := if a / 0x10000 = 0x10 then a % 0x1000 else a % 0x10000

/-- A write to `a` is ignored as a whole for the field at bit `b`: CFG_ERR is set and its source raised at every
occurrence (R484), the record takes the first error only (R9, R10). REG_OFFSET has 12 bits; for an offset that does not
fit them (the ICU_SRC words) the spec states no value, and the record takes a free one (DESIGN CHOICE, safe: log
entry 8). -/
def State.cfgErr (a b : Nat) (s : State) : State :=
  let e := cfgErrOf a
  let fresh := !s.flag e.1
  let s := if fresh && e.2.1 != 0 then
      if blockOffset a < 4096 then s.setReg e.2.1 (s.reg e.2.1 &&& 0x80000000 ||| BitVec.ofNat 32 (blockOffset a <<< 16 + b))
      else
        let r := s.takeFree 12
        r.2.setReg e.2.1 (BitVec.ofNat 32 (r.1 <<< 16 + b))
    else s
  s.flagRaise e.1 e.2.2

/-- PATH of GLB_BUS_ERR_INFO; it has one code for the device's processors (DEDUCED: log entry 37). -/
def pathCode : Path → Nat
  | .spi => 0 | .i2c => 1 | .link => 2 | .sup => 3 | .svc0 => 3 | .svc1 => 3

/-- The path of the shadows and buffers: the two host ports are one (R430). -/
def pathShadow : Path → Nat
  | .spi => 0 | .i2c => 0 | .link => 1 | .sup => 2 | .svc0 => 3 | .svc1 => 4

/-- A bus error of a kind at an address: the record takes the first one, source 0 is raised (R429, R484). -/
def State.busErr (p : Path) (kind : Nat) (a : Word) (s : State) : State :=
  let s := if s.flag GLB_STAT_BUS_ERR then s
    else (s.setReg GLB_BUS_ERR_INFO (BitVec.ofNat 32 (pathCode p <<< 30 + kind <<< 27))).setReg GLB_BUS_ERR_ADDR a
  s.flagRaise GLB_STAT_BUS_ERR 0

/-- Freeze a word for a path: its reads return `v` until it is frozen again or dropped (R81, R387). -/
def State.freeze (p : Path) (a : Nat) (v : Word) (s : State) : State :=
  { s with shadow := putPair s.shadow (pathShadow p, a) v }

/-! ### Byte memories -/

/-- The byte at an address: the listed cell, or what an unlisted one reads as. -/
def cellAt (d : Byte) : List Host.Cell → Nat → Byte
  | [], _ => d
  | c :: r, a => if c.1 = a then c.2 else cellAt d r a

/-- Insert a cell in rising order. -/
def insertCell (a : Nat) (v : Byte) : List Host.Cell → List Host.Cell
  | [] => [(a, v)]
  | c :: r => if a < c.1 then (a, v) :: c :: r else c :: insertCell a v r

/-- Remove the cell at an address. -/
def dropCell (a : Nat) : List Host.Cell → List Host.Cell
  | [] => []
  | c :: r => if c.1 = a then dropCell a r else c :: dropCell a r

/-- Write a byte, keeping the canonical form. -/
def setCell (d : Byte) (a : Nat) (v : Byte) (m : List Host.Cell) : List Host.Cell :=
  if v = d then dropCell a m else insertCell a v (dropCell a m)

/-- Write a byte string from an address on. -/
def setCells (d : Byte) : Nat → List Byte → List Host.Cell → List Host.Cell
  | _, [], m => m
  | a, b :: r, m => setCells d (a + 1) r (setCell d a b m)

/-- The canonical form of a byte memory: addresses strictly rising, no cell that equals what an unlisted byte reads as. -/
def Memory.wf (d : Byte) (m : List Host.Cell) : Bool :=
  decide (m.Pairwise (fun x y => x.1 < y.1)) && m.all (fun c => c.2 != d)

/-- The canonical form of the register list: addresses strictly rising, no word that equals its register's reset value. -/
def Registers.wf (l : List (Nat × Word)) : Bool :=
  decide (l.Pairwise (fun x y => x.1 < y.1)) && l.all (fun e => e.2 != regReset e.1)

/-- What an unlisted byte of the flash reads as: an erased one (R393; DESIGN CHOICE: log entry 7). -/
def flashBlank : Byte := 0xFF
/-- What an unlisted byte of the sample RAM reads as (DESIGN CHOICE, unsafe: log entry 7). -/
def sramBlank : Byte := 0

def State.flashAt (s : State) (a : Nat) : Byte := cellAt flashBlank s.flash a
/-- `n` bytes of flash from an address on. -/
def State.flashRead (s : State) (a n : Nat) : List Byte := (List.range n).map (fun i => s.flashAt (a + i))
def State.flashWrite (a : Nat) (l : List Byte) (s : State) : State := { s with flash := setCells flashBlank a l s.flash }
/-- Erase the flash bytes from `a` up to, not including, `e`. -/
def State.flashErase (a e : Nat) (s : State) : State :=
  { s with flash := s.flash.filter (fun c => decide (c.1 < a) || decide (e ≤ c.1)) }
/-- The byte offset in the sample RAM (R291). -/
def State.sramAt (s : State) (a : Nat) : Byte := cellAt sramBlank s.sram a
def State.sramWrite (a : Nat) (l : List Byte) (s : State) : State := { s with sram := setCells sramBlank a l s.sram }

/-! ### Bricks -/

/-- The hidden state of brick `n`; a fresh one where there is none. -/
def State.brick (s : State) (n : Nat) : Brick := s.brk.getD n Brick.fresh
def State.setBrick (n : Nat) (b : Brick) (s : State) : State := { s with brk := s.brk.set n b }
def State.updBrick (n : Nat) (f : Brick → Brick) (s : State) : State := s.setBrick n (f (s.brick n))

/-- Brick states (R182). -/
def brkUnassigned : Nat := 0
def brkStopped : Nat := 1
def brkStarting : Nat := 2
def brkRunning : Nat := 3
def brkStopping : Nat := 4
def brkHalted : Nat := 5

/-- Brick `n`'s interrupt source `k` (R188, R216). -/
def brkSrc (n k : Nat) : Nat := 64 + 16 * n + k

/-- Change a brick's STATE; source k = 5 at every change (R188, R484). -/
def State.setBrkState (n st : Nat) (s : State) : State :=
  if s.fld (BRK_STAT_STATE n) = st then s else (s.setFld (BRK_STAT_STATE n) st).raise (brkSrc n 5)

/-- The bricks of the converter that brick `ld` leads: the leader, its followers and secondaries. -/
def State.members (s : State) (ld : Nat) : List Nat :=
  (List.range 16).filter (fun n => s.fld (BRK_CFG_ROLE n) != 0 && s.fld (BRK_CFG_LEADER n) == ld)

/-! ### The bond in force -/

def State.tile (s : State) (type inst : Nat) : Option Tile := tileOf s.bnd.tiles type inst
/-- A byte, a 16-bit and a 32-bit field of a tile; a default where the bond has no such tile. -/
def State.t8 (s : State) (type inst o d : Nat) : Nat := match s.tile type inst with | some t => t.u8 o | none => d
def State.t16 (s : State) (type inst o d : Nat) : Nat := match s.tile type inst with | some t => t.u16 o | none => d
def State.t32 (s : State) (type inst o d : Nat) : Nat := match s.tile type inst with | some t => t.u32 o | none => d
def State.ts16 (s : State) (type inst o : Nat) (d : Int) : Int := match s.tile type inst with | some t => t.s16 o | none => d
/-- A bond is in force. -/
def State.hasBond (s : State) : Bool := !s.bnd.tiles.isEmpty

/-- FUNC and OFF_LEVEL of GPIO_n (pin tile). -/
def State.gpioFunc (s : State) (n : Nat) : Nat := s.t8 0xD 0 (4 * n) 0
def State.gpioOff (s : State) (n : Nat) : Bool := s.t8 0xD 0 (4 * n + 1) 0 == 1

end Sys2Proof.Machine
end

