-- ==== Sys2Proof/Machine/Tiles.lean ====
section
/-! DEFINITION. What the bond in force lays down for the measurement chain, the meters, the cells and the services (chapter
The bond, Payloads; Tables of parameters), and exact arithmetic the chapters share. -/
namespace Sys2Proof.Machine

/-! ### Arithmetic -/

/-- `n / d` rounded to the nearest whole number, halves away from zero; `d` positive. -/
def roundDiv (n : Int) (d : Nat) : Int :=
  if 0 ≤ n then (2 * n + d) / (2 * d) else -((2 * (-n) + d) / (2 * d))

/-- A rational rounded to the nearest whole number, halves away from zero. -/
def roundRat (q : Rat) : Int := roundDiv q.num q.den

/-- A rational rounded towards zero. -/
def truncRat (q : Rat) : Int := q.num.tdiv q.den

/-- The first SYSTIME instant at or after `num ÷ den` seconds since the epoch. -/
def instant (num den : Nat) : Time := BitVec.ofNat 64 ((num * 2 ^ 28 + den - 1) / den)

/-- The SYSTIME value of `num ÷ den` seconds, truncated. -/
def truncInstant (num den : Nat) : Time := BitVec.ofNat 64 (num * 2 ^ 28 / den)

/-- `b − a` as a signed number of 2⁻²⁸ s (R68). -/
def ticksBetween (a b : Time) : Int := (b - a).toInt

/-- SYSTIME has reached `ms` milliseconds since the epoch (R68). -/
def State.msReached (s : State) (ms : Nat) : Bool := decide (ms * 2 ^ 28 ≤ s.nowU * 1000)
/-- SYSTIME in ms, rounded up. -/
def State.msCeil (s : State) : Nat := (s.nowU * 1000 + 2 ^ 28 - 1) / 2 ^ 28

/-! ### Mortar and sense tile -/

/-- Voltage (`w = 0`) or current (`w = 1`) feedback channel of brick `n` (FB_ROUTE). -/
def State.fbChannel (s : State) (n w : Nat) : Option Nat :=
  let b := s.t8 4 0 (0x30 + 2 * n + w) 0
  if b < 128 then none else some (b % 32)

/-- The CS pair of brick `n`'s fast limit (CS_ROUTE). -/
def State.csPair (s : State) (n : Nat) : Option Nat :=
  let b := s.t8 4 0 (0x20 + n) 0
  if b < 128 then none else some (b % 16)

/-- The entry of sense channel `ch`: INPUT and GAIN. -/
def State.senseEntry (s : State) (ch : Nat) : Option (Nat × Nat) :=
  ((List.range (s.t8 7 0 1 0)).find? (fun k => s.t8 7 0 (8 + 4 * k) 255 == ch)).map
    (fun k => (s.t8 7 0 (9 + 4 * k) 0, s.t8 7 0 (10 + 4 * k) 0))

/-- The phase-current channel of a brick: the sense channel whose INPUT is its CS pair (R161); where two channels name the pair,
the lower-numbered one (DESIGN CHOICE: log entry 25). -/
def State.currentCh (s : State) (n : Nat) : Option Nat :=
  match s.csPair n with
  | none => none
  | some p => (List.range 24).find? (fun ch => (s.senseEntry ch).map Prod.fst == some (0x10 + p))

/-- Brick `n` uses a sense channel: as feedback, as phase current, as its rail's source (R293). -/
def State.usesChannel (s : State) (n ch : Nat) : Bool :=
  s.fbChannel n 0 == some ch || s.fbChannel n 1 == some ch || s.currentCh n == some ch ||
    ((s.tile 5 n).isSome && s.t8 5 n 0 255 == ch)

/-- Channels of one converter (0: 0 to 11, 1: 12 to 23) that have entries, ascending. -/
def State.adcChannels (s : State) (adc : Nat) : List Nat :=
  ((List.range 12).map (fun i => 12 * adc + i)).filter (fun ch => (s.senseEntry ch).isSome)

/-- TRIG_SRC and TRIG_PERIOD in force (MSR_TRIG). -/
def State.trigSrc (s : State) : Nat := s.t8 7 0 0 0
def State.trigPeriod (s : State) : Nat :=
  match s.tile 7 0 with
  | some t => t.u32 4
  | none => 600

/-! ### Cell, meter and service tiles -/

def State.cells (s : State) : Nat := s.t8 8 0 0 0
def State.balMode (s : State) : Nat := s.t8 8 0 1 0
def State.exciteMode (s : State) : Nat := s.t8 8 0 2 0
def State.excBrick (s : State) : Nat := s.t8 8 0 3 0xFF
def State.freqMask (s : State) : Nat := s.t16 8 0 4 0
def State.excAmpl (s : State) : Nat := s.t8 8 0 6 0
def State.cellCurrentCh (s : State) : Nat := s.t8 8 0 8 0xFF
def State.balDuty (s : State) : Nat := s.t8 8 0 9 0
/-- CAPACITY in mAh, which is the rating in mA (R317). -/
def State.capacity (s : State) : Nat := s.t32 8 0 0xC 0

def State.hasMeter (s : State) : Bool := (s.tile 0xA 0).isSome
def State.meterCurrentCh (s : State) : Nat := s.t8 0xA 0 4 0xFF
def State.meterVoltageCh (s : State) : Nat := s.t8 0xA 0 5 0xFF
/-- I_GAIN and V_GAIN of the meter tile, unsigned Q16.16. -/
def State.meterIGain (s : State) : Nat := s.t32 0xA 0 8 0
def State.meterVGain (s : State) : Nat := s.t32 0xA 0 0xC 0
def State.cycleThr (s : State) : Nat := s.t16 0xA 0 0x10 0
/-- The ream length the bond gives (R378). -/
def State.bondReamLen (s : State) : Nat := s.t32 0xA 0 0 3600

/-- The current scale of CEL in µA per sense unit, Q16.16: the scheduler's I_GAIN, or the meter tile's where it has the
same channel; 0 where there is none (R318). -/
def State.celIGain (s : State) : Nat :=
  let g := s.t32 0xE 3 8 0
  if g ≠ 0 then g
  else if s.hasMeter ∧ s.meterCurrentCh = s.cellCurrentCh then s.meterIGain else 0

/-- Impedance scheduler parameters (R341). -/
def State.sweepPeriod (s : State) : Nat := s.t32 0xE 3 4 3600
def State.iMin (s : State) : Nat := s.t16 0xE 3 0xC 50
def State.slotParam (s : State) : Nat := s.t8 0xE 3 0xE 0xFF
def State.pulseDi (s : State) : Nat := s.t16 0xE 3 0x10 100
def State.pulseDt (s : State) : Nat := s.t16 0xE 3 0x12 1000

/-- Cell health parameters (R341). -/
def State.refJ (s : State) : Nat := s.t8 0xE 1 4 14
def State.wAct (s : State) : Nat := s.t8 0xE 1 5 3
def State.wPas (s : State) : Nat := s.t8 0xE 1 6 1
def State.balWhen (s : State) : Nat := s.t8 0xE 1 7 0
def State.maxAge (s : State) : Nat := s.t32 0xE 1 8 604800
def State.restI (s : State) : Nat := s.t16 0xE 1 0xC 5
def State.restT (s : State) : Nat := s.t16 0xE 1 0xE 1800
def State.dsocMin (s : State) : Nat := s.t8 0xE 1 0x10 40
def State.balStart (s : State) : Nat := s.t8 0xE 1 0x11 15
def State.balStop (s : State) : Nat := s.t8 0xE 1 0x12 5
def State.cellVmax (s : State) : Nat := s.t16 0xE 1 0x14 4150
def State.balR (s : State) : Nat := s.t16 0xE 1 0x16 330
/-- CF_MAX and RG_MAX of class `c`, 0 for A to 3 for D. -/
def State.cfMax (s : State) (c : Nat) : Nat := s.t16 0xE 1 (0x18 + 4 * c) (100 * (c + 1))
def State.rgMax (s : State) (c : Nat) : Nat := s.t16 0xE 1 (0x1A + 4 * c) ([250, 500, 1000, 2000].getD c 0)
def State.spreadMax (s : State) : Nat := s.t16 0xE 1 0x28 100
/-- The OCV table: 21 values in mV, empty where it is all 0 or there is no tile. -/
def State.ocv (s : State) : List Nat :=
  let l := (List.range 21).map (fun i => s.t16 0xE 1 (0x2C + 2 * i) 0)
  if l.all (fun v => v == 0) then [] else l

/-- Charge manager parameters (Table — Charge manager parameters). -/
def State.busVCh (s : State) : Nat := s.t8 0xE 2 6 0xFF
def State.probeCh (s : State) : Nat := s.t8 0xE 2 7 0xFF
def State.searchStep (s : State) : Nat := s.t16 0xE 2 0xA 20
/-- CC_I in mA, 0 standing for half the rating; CV_V in mV, 0 for CELL_COUNT × 4,150 mV. -/
def State.ccI (s : State) : Rat :=
  let v := s.t32 0xE 2 0xC 0
  if v = 0 then (s.capacity : Rat) / 2 else v
def State.cvV (s : State) : Nat :=
  let v := s.t32 0xE 2 0x10 0
  if v = 0 then s.cells * 4150 else v
def State.termI (s : State) : Nat := s.t16 0xE 2 0x14 20
def State.droop (s : State) : Nat := s.t16 0xE 2 0x16 30
def State.tMax (s : State) : Nat := s.t32 0xE 2 0x18 43200
def State.probeT50 (s : State) : Nat := s.t32 0xE 2 0x1C 50000
def State.overTol (s : State) : Nat := s.t16 0xE 2 0x20 50

/-- Meter statistics parameters (R377). -/
def State.histBase (s : State) : Int := s.ts16 0xE 4 4 (-200)
def State.histStep (s : State) : Nat := s.t16 0xE 4 6 100

/-! ### Thermal tile -/

/-- EN and SAFETY, the neighbours, CURVE and the thresholds of sensor `i` (R304: with no tile only the die diode). -/
def State.senEn (s : State) (i : Nat) : Bool := if i = 12 then true else s.t8 9 0 (8 * i) 0 % 2 == 1
def State.senSafety (s : State) (i : Nat) : Bool := s.t8 9 0 (8 * i) 0 / 2 % 2 == 1
def State.senNeigh (s : State) (i w : Nat) : Nat := s.t8 9 0 (8 * i + 1 + w) 0xFF
def State.senCurve (s : State) (i : Nat) : Nat := s.t8 9 0 (8 * i + 3) 0
def State.senThrottle (s : State) (i : Nat) : Int := s.ts16 9 0 (8 * i + 4) (if i = 12 then 1250 else 0)
def State.senShutdown (s : State) (i : Nat) : Int := s.ts16 9 0 (8 * i + 6) (if i = 12 then 1450 else 0)
/-- A privileged sensor (R305). -/
def State.senPriv (s : State) (i : Nat) : Bool := i == 12 || (s.senEn i && s.senSafety i)
def State.senBroken (s : State) (i : Nat) : Bool := s.flag (THM_T_BROKEN i)
def State.senT (s : State) (i : Nat) : Int := s.sfld (THM_T_T i)

/-- The module temperature in 0.1 °C, exact (R329): the mean of the enabled NTCs not flagged broken, or the die's. -/
def State.moduleTempExact (s : State) : Rat :=
  let l := (List.range 12).filter (fun i => s.senEn i && !s.senBroken i)
  if l.isEmpty then s.senT 12 else (l.foldl (fun a i => a + s.senT i) 0 : Int) / (l.length : Rat)

/-- The module temperature rounded to 0.1 °C, as sheets and comparisons carry it. -/
def State.moduleTemp (s : State) : Int := roundRat s.moduleTempExact

/-! ### The periodic grid -/

/-- Interval of the periodic grid in force: TRIG_PERIOD with TRIG_SRC 0, 600 cycles in the fallback (R271, R274). -/
def State.gridPeriod (s : State) : Nat := if s.trigSrc = 0 then s.trigPeriod else 600

/-- The next grid instant set to the first one at or after the time now (R273). -/
def State.regrid (s : State) : State :=
  let p := s.gridPeriod
  let k := ((s.now.toNat % 2 ^ 28) * 60000000 + (p * 2 ^ 28 - 1)) / (p * 2 ^ 28)
  let sec := s.now.toNat / 2 ^ 28
  let g := if k * p < 60000000 then (sec, k) else (sec + 1, 0)
  { s with msr := { s.msr with gridSec := g.1, gridK := g.2 } }

/-- Pass to the grid instant after this one. -/
def State.stepGrid (s : State) : State :=
  let k := s.msr.gridK + 1
  if k * s.gridPeriod < 60000000 then { s with msr := { s.msr with gridK := k } }
  else { s with msr := { s.msr with gridSec := s.msr.gridSec + 1, gridK := 0 } }

/-- Numerator over 60,000,000 of the next grid instant, in seconds. -/
def State.gridNum (s : State) : Nat := s.msr.gridSec * 60000000 + s.msr.gridK * s.gridPeriod

/-- The fallback starts: TRIG_FB, and the grid of 600 cycles from now (R274). -/
def State.startFallback (s : State) : State :=
  (s.setFld MSR_STAT_TRIG_FB 1).regrid

/-- The named source has given its first trigger: the fallback ends (R274). -/
def State.endFallback (s : State) : State :=
  s.setFld MSR_STAT_TRIG_FB 0

/-- A leader leaves the switching states: the trigger it names falls back (R274). -/
def State.leaderOff (n : Nat) (s : State) : State := if s.trigSrc = n + 1 then s.startFallback else s

end Sys2Proof.Machine
end

