-- ==== Sys2Proof/Machine/AllOff.lean ====
section
/-! DEFINITION. All-off (R48, R255) as one shared operation, with what it ends: charge sessions (R364), setpoint records
(R227), a re-lay (R154). -/
namespace Sys2Proof.Machine

/-! ### Targets and charge sessions -/

/-- The register effect of a target write (R167, R168): TARGET and LOOP are stored; on a Stopped or Halted leader the
LOOP takes force at the write; on one that starts or runs a LOOP that differs waits for the next update instant. -/
def State.putTarget (n : Nat) (loop : Bool) (target : Nat) (src : Nat) (s : State) : State :=
  let t := (s.setFld (BRK_TARGET_TARGET n) target).setFlag (BRK_TARGET_LOOP n) loop
  let st := s.fld (BRK_STAT_STATE n)
  let t := t.updBrick n (fun b => { b with
    tgtSrc := some src
    loopNext := if st = brkStopping then b.loopNext
      else if (st = brkStarting ∨ st = brkRunning) ∧ loop ≠ s.flag (BRK_STAT_LOOP n) then some loop else none })
  if st = brkStopped ∨ st = brkHalted then t.setFlag (BRK_STAT_LOOP n) loop else t

/-- MODE of the charge manager and the leader it charges through; EN_GPIO (Table — Charge manager parameters). -/
def State.chgMode (s : State) : Nat := s.t8 0xE 2 4 2
def State.chgBrick (s : State) : Nat := s.t8 0xE 2 5 0xFF
def State.chgGpio (s : State) : Nat := s.t8 0xE 2 8 0xFF

/-- A session is open (R360). -/
def State.sessionOpen (s : State) : Bool := s.fld CPM_CHG_STAT_PHASE != 0

/-- CQ − DQ, in µAs. -/
def State.netCharge (s : State) : Int := ((s.mtr.tot.cq / 2 ^ 32 : Nat) : Int) - (s.mtr.tot.dq / 2 ^ 32 : Nat)

/-- Whole seconds between two SYSTIME instants. -/
def secondsBetween (a b : Time) : Nat := ((b - a) >>> 28).toNat

/-- Whether a value lies at or above a threshold that every device has somewhere from `lo` to `hi` + 1: within the range a free
bit says what this device detects (R466; safe: log entry 39). -/
def State.within (lo hi v : Nat) (s : State) : Bool × State :=
  if v < lo then (false, s)
  else if hi < v then (true, s)
  else
    let r := s.takeFree 1
    (decide (r.1 = 1), r.2)

/-- VSYS has stayed above the start threshold: rising 5.52 V to 5.68 V, with 80 mV to 120 mV of hysteresis below it (R466). -/
def State.aboveStart (vsys : Nat) (s : State) : Bool × State := s.within 5400 5680 vsys

/-- Drive a power-control GPIO to a level. -/
def State.drivePin (n : Nat) (level : Bool) (s : State) : State :=
  { s with pins := { s.pins with pinSet := putPair s.pins.pinSet n level } }

/-- The open session ends with a reason (R364): the sheet carries the reason, the duration and the charge moved, and the
reasons marked so write LOOP = 1 and TARGET = 0 in MODE 0; EN_GPIO goes to its OFF_LEVEL in MODE 1 (R363). -/
def State.endSession (reason : Nat) (s : State) : State :=
  if s.sessionOpen then
    let dur := secondsBetween s.cpm.openAt s.now
    let t := (s.setFld CPM_CHG_STAT_PHASE 0).setFld CPM_CHG_STAT_END_REASON reason
    let t := ((t.setFld CPM_CHG_STAT_SEARCHING 0).setFld CPM_CHG_STAT_ARMED 0).setReg CPM_CHG_TIME (BitVec.ofNat 32 dur)
    let t := { t with cpm := { t.cpm with
      dwellAt := none, searchAt := none, lowSince := none, written := none } }
    let t := if s.chgMode = 0 ∧ reason ∈ [1, 2, 3, 8, 11] then t.putTarget s.chgBrick true 0 2 else t
    let t := if s.chgMode = 1 ∧ s.chgGpio < 16 then t.drivePin s.chgGpio (s.gpioOff s.chgGpio) else t
    let t := t.sheet 0x1007 (leBytes 1 reason ++ leBytes 4 dur ++ leBytes 8 (encodeInt 64 (s.netCharge - s.cpm.chargeAt)))
    (t.flagRaise CPM_CHG_STAT_END_EV 577).raise 578
  else s

/-- A target write by a source (R167): it ends an open session on that leader unless the manager wrote it (R364). -/
def State.writeTarget (n : Nat) (loop : Bool) (target src : Nat) (s : State) : State :=
  let t := s.putTarget n loop target src
  if s.sessionOpen && s.chgMode == 0 && s.chgBrick == n then t.endSession 4 else t

/-! ### Setpoint records -/

/-- The VCP record registers' field of brick `n`, SEQ `q` (R227). -/
def recFld (n q : Nat) : Fld := if q < 8 then VCP_REC_LO_STATE n q else VCP_REC_HI_STATE n (q - 8)

/-- ANS codes (Table — VCP answers). -/
def ansAccept : Nat := 1
def ansSettled : Nat := 2
def ansFailed : Nat := 3
def ansSuperseded : Nat := 4
def ansPending : Nat := 5
def ansReject : Nat := 6
def ansDone : Nat := 7

/-- A record is decided: its state, what it answers beside f, and the f of the decision (R227). Its source is raised
(R235), a failure writes one sheet carrying group, SEQ, TARGET and f (R233). -/
def State.decideRec (n q state why : Nat) (s : State) : State :=
  let f := s.sfld (BRK_FB_FB n)
  let tgt := (lookupD s.vcp.info (n, q) (0, 0, 0)).2.2
  let t := s.setFld (recFld n q) state
  let t := { t with vcp := { t.vcp with info := putPair t.vcp.info (n, q) (why, f, tgt) } }
  let payload := leBytes 1 (s.fld (VCP_GRP_GROUP n)) ++ leBytes 1 q ++ leBytes 2 (encodeInt 16 tgt) ++ leBytes 2 (encodeInt 16 f)
  if state = ansFailed then (t.sheet (if why = 1 then 0x0401 else 0x0402) payload).raise 324
  else if state = ansSettled then t.raise 323
  else if state = ansSuperseded then t.raise 325
  else t

/-- The PENDING records of brick `n`. -/
def State.pendingRecs (s : State) (n : Nat) : List Nat :=
  (List.range 16).filter (fun q => s.fld (recFld n q) == ansPending)

/-- Every PENDING record of a brick fails with a reason (R227, RAIL_OFF and all-off). -/
def State.failRecs (n why : Nat) (s : State) : State :=
  let t := forEach (s.pendingRecs n) (fun q t => t.decideRec n q ansFailed why) s
  { t with vcp := { t.vcp with inForce := dropPair t.vcp.inForce n
                               waiting := t.vcp.waiting.filter (fun p => !decide (p.1 = n)) } }

/-! ### Re-lay -/

/-- BND_STAT.STATE values (R155). -/
def bndIdle : Nat := 0
def bndReceiving : Nat := 1
def bndValidating : Nat := 2
def bndApplying : Nat := 3
def bndStoring : Nat := 4

/-- Record a bond error (R147). TILE is 9 bits: an index of 512 or more, which a walk past TILE_COUNT can reach, stands there
by its low nine bits (DEDUCED: log entry 11). -/
def State.recordBond (e : BondErr) (s : State) : State :=
  (s.setReg BND_ERR (BitVec.ofNat 32 (e.reason <<< 24 + e.tile % 512))).setReg BND_ERR_BYTE (BitVec.ofNat 32 e.byte)

/-- The sheet of a bond fault: REASON, TILE, BYTE and, once V1 has passed, the offered BOND_ID (R156). -/
def State.bondSheet (code : Nat) (e : BondErr) (offered : Option Nat) (s : State) : State :=
  s.sheet code (leBytes 1 e.reason ++ leBytes 2 (e.tile % 512) ++ leBytes 3 e.byte ++
    (match offered with | some i => leBytes 4 i | none => []))

/-- Receiving has begun and no word of it has come yet: the staging buffer is still as it was before (R151). -/
def State.noWordYet (s : State) : Bool :=
  s.bnd.src != 2 && s.fld BND_STAT_STATE == bndReceiving && s.fld BND_STAT_RECEIVED == 0

/-- The bytes of the bond a request offers: the slot's with SRC 2, else those received or staged (R152). -/
def State.offered (s : State) : List Byte :=
  if s.bnd.src = 2 then s.bnd.offer else if s.noWordYet then [] else s.bnd.staging

/-- The BOND_ID of the offered bond once V1 has passed. -/
def State.offeredId (s : State) : Option Nat :=
  if 84 ≤ s.offered.length ∧ (v1 s.offered).isNone then some (u32 s.offered 16) else none

/-- Whether a re-lay or a store is between acceptance and T_eff or the end of its validation (R154). -/
def State.relayOpen (s : State) : Bool :=
  let st := s.fld BND_STAT_STATE
  st == bndReceiving || st == bndValidating || st == bndApplying

/-- A re-lay is in progress: the device does not act on COURSE, couches are busy (R24, R154). -/
def State.relayInProgress (s : State) : Bool := s.relayOpen && !s.bnd.storeOnly

/-! ### Who takes part in stepping -/

/-- HEAD_OK and KEYSTONE_OK of the link tile. -/
def State.headOk (s : State) : Bool := s.t8 0xB 0 0 0 % 2 == 1
def State.keystoneOk (s : State) : Bool := s.t8 0xB 0 0 0 / 2 % 2 == 1

/-- A solo device (R245): HEAD_OK = 1 and no enumerated link. -/
def State.solo (s : State) : Bool := s.headOk && s.unaddressed
/-- The course master (R245): the keystone or a solo device. -/
def State.courseMaster (s : State) : Bool := s.solo || (!s.unaddressed && s.isKeystone)
/-- The device acts as the head of a string. -/
def State.actsHead (s : State) : Bool := s.solo || (!s.unaddressed && s.isHead)

/-- SEQ_STAT.ROLE and the PHASE of a device at rest: 6 before P6 ends and while it is neither enumerated nor solo, and during a
re-lay of one that is not OUT (R24, R113, R250). -/
def State.seqRefresh (s : State) : State :=
  let role := if s.solo then 3 else if s.courseMaster then 2 else if s.actsHead then 1 else 0
  let t := s.setFld SEQ_STAT_ROLE role
  if s.seq.kind != .none then t
  else if s.boot.power == .starting || (s.unaddressed && !s.solo) then t.setFld SEQ_STAT_PHASE 6
  else if s.seq.out then t.setFld SEQ_STAT_PHASE 5
  else if s.relayInProgress then t.setFld SEQ_STAT_PHASE 6
  else t.setFld SEQ_STAT_PHASE 0

/-- A request ends with a RESULT and STATE 0. A staging buffer it used has no owner any more; a complete bond from the link
that was not applied stays in it, and one it never touched is as before (R151). -/
def State.endRequest (result : Nat) (s : State) : State :=
  let t := if s.bnd.src = 2 || s.noWordYet then s else s.setFld BND_STAT_OWNER 0
  let t := { t with bnd := { t.bnd with
      staging := if s.fld BND_STAT_STAGED = 1 then s.bnd.staging else [], offer := [], accepted := none } }
  (t.setFld BND_STAT_RESULT result).setFld BND_STAT_STATE bndIdle

/-- The bond of a request has been applied, RESULT 1: nothing of it waits in staging (R151). -/
def State.spendStaging (s : State) : State := (if s.bnd.src = 2 then s else s.setFld BND_STAT_STAGED 0).endRequest 1

/-- The answer a link-requested distribution receives (R421). -/
def State.answerDist (s : State) : State :=
  match s.bnd.linkReq with
  | some a =>
    let t := { s with bnd := { s.bnd with linkReq := none } }
    t.sendTo 0x62 a 0 (leBytes 1 (s.fld BND_STAT_RESULT) ++ leBytes 3 0)
  | none => s

/-- A re-lay or store before T_eff is aborted with a reason: RESULT 5, code 0x0D0F, source 20, the old bond in force
(R154, R156). PHASE leaves "not taking part" (R24). -/
def State.abortRelay (reason : Nat) (s : State) : State :=
  if s.relayOpen then
    let t := s.recordBond ⟨reason, 0, 0⟩
    let t := t.bondSheet 0x0D0F ⟨reason, 0, 0⟩ s.offeredId
    (t.endRequest 5).answerDist.seqRefresh.raise 20
  else s

/-! ### All-off -/

/-- Power-good of a rail changes: source 371 + n (R253, R266). -/
def State.setPg (rail : Nat) (b : Bool) (s : State) : State :=
  if s.flag (SEQ_RAIL_STAT_PG rail) = b then s
  else
    let t := s.setFlag (SEQ_RAIL_STAT_PG rail) b
    let t := t.setReg SEQ_PG (if b then t.reg SEQ_PG ||| maskAt rail 1 else t.reg SEQ_PG &&& ~~~(maskAt rail 1))
    t.raise (371 + rail)

/-- A rail's on bit in SEQ_ON. -/
def State.setOn (rail : Nat) (b : Bool) (s : State) : State :=
  s.setReg SEQ_ON (if b then s.reg SEQ_ON ||| maskAt rail 1 else s.reg SEQ_ON &&& ~~~(maskAt rail 1))

/-- A rail goes off: not on, no power-good, UV disarmed, its delay stopped (R252, R253). -/
def State.railDown (rail : Nat) (s : State) : State :=
  let t := (s.setOn rail false).setPg rail false
  let t := (t.setFld (SEQ_RAIL_STAT_UV_ARM rail) 0).setFld (SEQ_RAIL_STAT_STATE rail) 0
  { t with seq := { t.seq with pgRun := dropPair t.seq.pgRun rail } }

/-- An injection of the test DAC into a channel that brick `n` uses ends when the brick leaves Stopped (R293). -/
def State.dropInjection (n : Nat) (s : State) : State :=
  match s.msr.dac with
  | some d =>
    if d.path = 1 ∧ s.usesChannel n d.sel then
      (({ s with msr := { s.msr with dac := none, dacNext := none, dacWait := 0 } }).setFld MSR_TDAC_ACTIVE 0).raise 424
    else s
  | none => s

/-! ### Lanes and holds -/

def State.refVal (s : State) (n : Nat) : Int := (s.reg (BRK_REF n)).toInt

/-- The fields of a lane: its state and its error counter; its copy. -/
def laneFld (n : Nat) : Lane → Fld
  | .a => BRK_LANE_STAT_LANE_A n
  | .b => BRK_LANE_STAT_LANE_B n
def laneErr (n : Nat) : Lane → Fld
  | .a => BRK_LANE_A_CNT_ERR_CNT n
  | .b => BRK_LANE_B_CNT_ERR_CNT n
def otherLane : Lane → Lane
  | .a => .b
  | .b => .a
def Brick.copy (b : Brick) : Lane → LaneCopy
  | .a => b.copyA
  | .b => b.copyB
def Brick.setCopy (l : Lane) (c : LaneCopy) (b : Brick) : Brick :=
  match l with
  | .a => { b with copyA := c }
  | .b => { b with copyB := c }
def laneState (s : State) (n : Nat) (l : Lane) : Nat := s.fld (laneFld n l)
def laneRetired (s : State) (n : Nat) (l : Lane) : Bool := laneState s n l == 3
def laneActive (s : State) (n : Nat) (l : Lane) : Bool := laneState s n l == 0

/-- The active lanes hold the brick's state as it stands (R189). -/
def State.syncLanes (n : Nat) (s : State) : State :=
  let b := s.brick n
  let now (c : LaneCopy) : LaneCopy :=
    ⟨s.refVal n, b.e1, b.e2, b.e3, b.y1, b.y2, b.y3, s.fld (BRK_SS_SS_STEP n), b.trim, c.store, c.check⟩
  forEach [Lane.a, Lane.b] (fun l t =>
    onlyIf (laneActive s n l) (fun t => t.updBrick n (fun b => b.setCopy l (now (b.copy l)))) t) s

def laneNo : Lane → Nat
  | .a => 0
  | .b => 1
def State.driving (s : State) (n : Nat) : Lane := if s.flag (BRK_LANE_STAT_DRIVE n) then .b else .a

/-- A sheet of a lane case: brick, lane, and for a hold its length in CLK_CORE cycles (R193). -/
def State.laneSheet (code n : Nat) (l : Lane) (hold : Option Nat) (s : State) : State :=
  s.sheet code (leBytes 1 n ++ leBytes 1 (laneNo l) ++ (match hold with | some h => leBytes 2 (min h 65535) | none => []))

/-- A hold ends (R193, R194): its record and its sheet. -/
def State.endHold (n code : Nat) (l : Lane) (s : State) : State :=
  let len := s.clk.core - (s.brick n).holdAt
  let t := (s.setFld (BRK_LANE_STAT_HOLD n) 0).setFld (BRK_HOLD_HOLD_MAX n) (max (s.fld (BRK_HOLD_HOLD_MAX n)) (min len 65535))
  t.laneSheet code n l (some len)

/-- A hold that an all-off cuts ends with the brick halted (R197); its quick test runs on (R214). The sheet names the lane that
drove (DESIGN CHOICE: log entry 26). -/
def State.cutHold (n : Nat) (s : State) : State :=
  if s.flag (BRK_LANE_STAT_HOLD n) then s.endHold n (if (s.brick n).holdBoth then 0x0302 else 0x0304) (s.driving n) else s

/-- A brick halts at an all-off: its state, its outputs, its fold-back, its hold, its records, its retry clock (R182, R194, R209,
R214, R227); a settle timer under way runs on (R170). -/
def State.haltBrick (n : Nat) (s : State) : State :=
  let st := s.fld (BRK_STAT_STATE n)
  if st = brkUnassigned then s else
  let s := onlyIf (st == brkStopped) (State.dropInjection n) s
  let t := (((s.setBrkState n brkHalted).setReg (BRK_SS n) 0).setFld (BRK_LIM_STAT_FOLD n) 0).cutHold n
  let t := t.updBrick n (fun b => { b with runSince := none, loopNext := none, leg := { Leg.idle with rose := b.leg.rose } })
  let t := t.syncLanes n
  onlyIf (s.fld (BRK_CFG_ROLE n) == 1) (State.failRecs n 3) (t.leaderOff n)

/-- Every output and course effect of an all-off at its t0: gates, FAULT_N and CASC_OUT low where a boot phase or the bond has
taken them over (R51), bricks Halted, rails off, course 0, OUT, with the timeline of R48 running. A rejoin it breaks off is
reported to the head (R248). -/
def State.dropAll (s : State) : State :=
  let s := onlyIf (s.seq.kind == .rejoin) (State.send 0x31 5 false (leBytes 1 0 ++ leBytes 1 0 ++ leBytes 1 1 ++ leBytes 1 0)) s
  let s := forEach (List.range 16) State.haltBrick s
  let s := forEach ((List.range 21).filter (fun r => decide (r < 16) || decide (19 ≤ r))) State.railDown s
  let s := s.setFld SEQ_STAT_DEV_COURSE 0
  let s := if s.fld CPM_SW_STAT_PROBE = 1 then s.setFld CPM_SW_STAT_PROBE 0 else s
  let s := { s with cel := { s.cel with window := s.cel.window.map (fun (w : Window) => { w with disturbed := 1 }) } }
  let s : State := { s with
    pins := { s.pins with
      gates := if s.hasBond then .low else s.pins.gates
      faultN := if s.boot.power == .starting then s.pins.faultN else .low
      cascOut := if s.hasBond then .low else s.pins.cascOut
      dswG := .released, preG := .released }
    seq := { s.seq with
      kind := .none, todo := [], wait := .none, out := true, timeline := true, confirmBy := none, short := false }
    cpm := { s.cpm with probeAt := none, closedAt := none } }
  s.seqRefresh

/-- ALLOFF_SCOPE: this device without a link tile (R141). -/
def State.allOffScope (s : State) : Nat := s.t8 0xB 0 1 0

/-- What stood before the all-off that is ACTIVE, for faults found in its CLK_CORE cycle; none in every other cycle. Where
CLK_CORE stands, the RC cycle stands for it. -/
def State.offNow (s : State) : Option OffMark :=
  match s.seq.off with
  | some m =>
    if s.flag SEQ_FAULT_ACTIVE && m.core == s.clk.core && (s.coreRuns || m.rc == s.clk.rc) then some m else none
  | none => none

/-- STATE of brick `n` as the faults of this cycle see it. -/
def State.stateBefore (s : State) (n : Nat) : Nat :=
  match s.offNow with
  | some m => m.states.getD n 0
  | none => s.fld (BRK_STAT_STATE n)

/-- UV of rail `r` is armed, as the faults of this cycle see it. -/
def State.armedBefore (s : State) (r : Nat) : Bool :=
  match s.offNow with
  | some m => m.armed.contains r
  | none => s.flag (SEQ_RAIL_STAT_UV_ARM r)

/-- Some rail is above course 0, as the faults of this cycle see it. -/
def State.upBefore (s : State) : Bool :=
  match s.offNow with
  | some m => m.up
  | none => s.railUp

/-- The course count and OUT, as the faults of this cycle see them. -/
def State.courseBefore (s : State) : Nat × Bool :=
  match s.offNow with
  | some m => (m.course, m.gone)
  | none => (s.fld SEQ_STAT_DEV_COURSE, s.seq.out)

/-- The CLK_CORE tick at which PRE_G rose for the probe under way, and whether DSW_G is high, as the faults of this cycle see
them. -/
def State.probeBefore (s : State) : Option Nat × Bool :=
  match s.offNow with
  | some m => (m.probe, m.closed)
  | none => (s.cpm.probeAt, s.pins.dswG == .high)

/-- The run of course actions as the faults of this cycle see it. -/
def State.runBefore (s : State) : State :=
  match s.offNow with
  | some m => { s with seq := { s.seq with kind := m.kind, todo := m.todo, wait := m.wait } }
  | none => s

/-- Whether a fault's code goes before another's of the same cycle (R255): brick and lane faults first, the lowest-numbered
brick's, its lowest code; else the lowest code. -/
def faultBefore (brick : Option Nat) (code : Nat) (brick' : Option Nat) (code' : Nat) : Bool :=
  match brick, brick' with
  | some a, some b => decide (a < b) || (a == b && decide (code < code'))
  | some _, none => true
  | none, some _ => false
  | none, none => decide (code < code')

/-- The all-off that is ACTIVE takes another code of its own cycle: in the record and in the frames that carry it (R13,
R255). -/
def State.recode (brick : Option Nat) (code : Nat) (s : State) : State :=
  let own := if s.unaddressed then 0x8000 else s.fld LNK_ADDR_ADDR
  let recast (f : Sent) : Sent := if f.type = 0x50 ∧ f.src = own then { f with payload := leBytes 2 code ++ f.payload.drop 2 } else f
  let t := s.setFld SEQ_FAULT_CODE code
  match s.seq.off with
  | some m => { t with
      lnk := { t.lnk with out := t.lnk.out.take m.out ++ (t.lnk.out.drop m.out).map recast }
      seq := { t.seq with off := some { m with brick := brick } } }
  | none => t

/-- The record of an all-off that begins now, and what stood before it. -/
def State.markOff (brick : Option Nat) (code : Nat) (remote : Option (Nat × Bool)) (s : State) : State :=
  let orig : Nat × Bool := match remote with
    | some o => o
    | none => if s.flag LNK_ADDR_UNADDR then (0, true) else (s.fld LNK_ADDR_ADDR, false)
  let m : OffMark := ⟨s.clk.core, s.clk.rc, brick, (List.range 16).map (fun n => s.fld (BRK_STAT_STATE n)),
    (List.range 21).filter (fun r => s.flag (SEQ_RAIL_STAT_UV_ARM r)), s.seq.kind, s.seq.todo, s.seq.wait,
    s.railUp, s.fld SEQ_STAT_DEV_COURSE, s.seq.out, s.cpm.probeAt, s.pins.dswG == .high, s.lnk.out.length⟩
  ({ s with seq := { s.seq with off := some m } }).setReg SEQ_FAULT (BitVec.ofNat 32
    (2 ^ 31 + (if remote.isSome then 2 ^ 30 else 0) + (if orig.2 then 2 ^ 29 else 0) + orig.1 % 4096 * 65536 + code % 65536))

/-- What an all-off does beside the fault's own sheet: nothing while an earlier one is ACTIVE, but that a further fault of the
same cycle may give it its code (R255). -/
def State.allOffBody (brick : Option Nat) (code : Nat) (remote : Option (Nat × Bool)) (s : State) : State :=
  if s.flag SEQ_FAULT_ACTIVE then
    match s.offNow with
    | some m =>
      if remote.isNone && !s.flag SEQ_FAULT_REMOTE && faultBefore brick code m.brick (s.fld SEQ_FAULT_CODE) then
        s.recode brick code
      else s
    | none => s
  else
    let s := (s.markOff brick code remote).dropAll.endSession 6
    let s := if s.relayInProgress then s.abortRelay 0x33 else s
    let s := if remote.isNone ∧ s.allOffScope ≠ 0 then
        s.send 0x50 (s.allOffScope + 1) true (leBytes 2 code ++ leBytes 1 s.allOffScope ++ leBytes 1 0)
      else s
    let s := { s with jnl := { s.jnl with onlyShorts := code == 0x0221 } }
    s.raise (if remote.isSome then 358 else 357)

/-- The all-off of R48 for a fault found on this device (`remote = none`) or received in a frame (its originator, R255):
the fault's own sheet is written in every case. -/
def State.allOff (code : Nat) (payload : List Byte) (remote : Option (Nat × Bool)) (s : State) : State :=
  (s.sheet code payload).allOffBody none code remote

/-- The all-off of a brick or lane fault of brick `n` (R214). -/
def State.brickOff (n code : Nat) (payload : List Byte) (s : State) : State :=
  (s.sheet code payload).allOffBody (some n) code none

end Sys2Proof.Machine
end

