-- ==== Sys2Proof/Machine/Trigger.lean ====
section
/-! DEFINITION. The common trigger (R271 to R277, R281, R282, R286, R292): what an accepted trigger captures, and what it
makes due in the meters (R371, R372, R384). -/
namespace Sys2Proof.Machine

/-- The CLK_CONV cycle now (60 MHz, a quarter of CLK_CORE: R59). From the RC oscillator the dividers keep their ratios: four ticks of
CLK_CORE to a CLK_CONV cycle, 64 to one of CLK_HK (DESIGN CHOICE: log entry 2). -/
def State.convNow (s : State) : Nat := s.clk.core / 4

/-! ### Counted faults of the chain -/

/-- A sheet of a code that is written at most once per second, carrying in `size` bytes the increase of its counter since the
last one, to which this occurrence adds `grew` (R298). -/
def State.rateSheet (code size grew : Nat) (s : State) : State :=
  let e := s.msr.sheets.find? (fun p => decide (p.1 = code))
  let put (t : State) (v : Nat × Nat) : State := { t with msr := { t.msr with sheets := putPair t.msr.sheets code v } }
  match e with
  | none => put (s.sheet code (leBytes size grew)) (s.clk.core, 0)
  | some (_, at0, n) =>
    if s.clk.core < at0 + 1000000 * coreUs then put s (at0, n + grew)
    else put (s.sheet code (leBytes size (min (n + grew) (2 ^ (8 * size) - 1)))) (s.clk.core, 0)

/-- A counted fault of the chain: its counter, its flag and source, its sheet; a saturated counter does not increase (R298). -/
def State.countFault (cnt ev : Fld) (src code size : Nat) (s : State) : State :=
  let t := s.bump cnt
  (t.flagRaise ev src).rateSheet code size (t.fld cnt - s.fld cnt)

/-- A disturbance of the window in progress (R328). -/
def State.disturb (s : State) : State :=
  match s.cel.window with
  | none => s
  | some w => { s with cel := { s.cel with window := some { w with disturbed := 1 } } }

/-- A trigger that is not accepted (R277). -/
def State.missTrigger (s : State) : State :=
  (s.countFault MSR_CNT_TRIG_MISS_CNT MSR_STAT_TRIG_MISS_EV 416 0x0601 2).disturb

/-- A skipped cell round (R282). -/
def State.skipRound (s : State) : State :=
  let t := s.countFault MSR_CNT_CELL_SKIP_CNT MSR_STAT_CELL_SKIP_EV 417 0x0602 1
  let t := { t with msr := { t.msr with cellLate := true } }
  let t := { t with cel := { t.cel with pulse := t.cel.pulse.map (fun (p : Pulse) => { p with spoilt := true }) } }
  t.disturb

/-! ### Meters: what a trigger makes due -/

/-- RESTORING reads 1 (R384). -/
def State.restoring (s : State) : Bool := s.flag MTR_STAT_RESTORING

/-- GAP in every held bank entry whose interval a gap from `a` to `b` overlaps (R372). -/
def State.gapBank (a b : Time) (s : State) : State :=
  forEach (List.range 8) (fun e t =>
    let st : Time := BitVec.ofNat 64 ((t.reg (MTR_REAM e 2)).toNat + 2 ^ 32 * (t.reg (MTR_REAM e 3)).toNat)
    let en : Time := BitVec.ofNat 64 ((t.reg (MTR_REAM e 4)).toNat + 2 ^ 32 * (t.reg (MTR_REAM e 5)).toNat)
    if en ≠ 0 ∧ 0 < ticksBetween a en ∧ 0 < ticksBetween st b then t.setReg (MTR_REAM e 1) (t.reg (MTR_REAM e 1) ||| 4#32)
    else t) s

/-- A measurement gap that the trigger stamped `t` ends (R372): flags, sheet and source. -/
def State.meterGap (stamp : Time) (level : Nat) (s : State) : State :=
  let a := s.mtr.last.getD 0
  let t := s.gapBank a stamp
  let t := { t with mtr := { t.mtr with flags := if t.mtr.flags / 4 % 2 = 1 then t.mtr.flags else t.mtr.flags + 4 } }
  (t.sheet 0x0A02 (leBytes 8 a.toNat ++ leBytes 8 stamp.toNat ++ leBytes 1 level)).flagRaise MTR_STAT_GAP_EV 611

/-- An accepted trigger in the meters (R371, R372, R384): the increment its samples will make, or the gap it ends. With no
meter tile no gap is recorded and nothing is integrated (R370). -/
def State.meterTrigger (trig : Nat) (stamp : Time) (s : State) : State :=
  let seen (t : State) : State :=
    { t with mtr := { t.mtr with last := some stamp, resume := none, restored := none } }
  if s.restoring then s
  else
    match s.mtr.restored with
    | some sheetStamp =>
      -- the first trigger after a restore: its interval is the 0x0A03 sheet's alone
      let t := s.sheet 0x0A03 (leBytes 8 sheetStamp.toNat ++ leBytes 8 stamp.toNat)
      seen { t with mtr := { t.mtr with start := stamp } }
    | none =>
      if !s.hasMeter then seen s
      else
        match s.mtr.resume, s.mtr.last with
        | some lvl, _ => seen (s.meterGap stamp lvl)
        | none, none => seen s
        | none, some a =>
          let dt := ticksBetween a stamp
          if dt ≤ 0 then seen s
          else if 2 ^ 28 < dt * 10 then seen (s.meterGap stamp 0xFF)
          else seen { s with mtr := { s.mtr with due := s.mtr.due ++ [⟨trig, stamp, dt.toNat,
            (s.meterCurrentCh, s.meterVoltageCh), (s.meterIGain, s.meterVGain), none, none⟩] } }

/-! ### The trigger -/

/-- Channels of one converter in the order of R276: the triggering leader's feedback channels first. -/
def State.senseOrder (s : State) (adc : Nat) (lead : Option Nat) : List Nat :=
  let all := s.adcChannels adc
  let first := match lead with
    | some n => ((s.fbChannel n 0).toList ++ (s.fbChannel n 1).toList).filter (fun ch => all.contains ch)
    | none => []
  let first := first.foldl (fun acc ch => if acc.contains ch then acc else acc ++ [ch]) []
  first ++ all.filter (fun ch => !first.contains ch)

/-- The input numbers of the captured values an operand lists: sense channels from 0, cells from 24, the stack 56,
housekeeping inputs from 64, the reference as ADC_0 to ADC_2 convert it from 96. -/
def Conv.input (adc : Nat) : Conv → Nat
  | .sense ch => ch
  | .cell c => 24 + c
  | .stack => 56
  | .hk i => 64 + i
  | .ref => 96 + adc

/-- The programmed rows of the OTP FACTORY region. -/
def State.factoryRows (s : State) : List (Nat × Word) :=
  (s.boot.otp.filter (fun r => decide (r.1 < 128))).map (fun r => (r.1, r.2.data))

/-- The code a converter takes of an input, with its path and the user trims as they stand: user trims exist for sense channels
only (R278). An input the operand does not list holds code 0 (log entry 29). -/
def State.rawSample (s : State) (held : List (Nat × BitVec 14)) (adc : Nat) (c : Conv) : RawSample :=
  let code := lookupD held (c.input adc) 0
  match c with
  | .sense ch =>
    let e := (s.senseEntry ch).getD (0x100 + ch, 0)
    ⟨adc, e.1, e.2, code, s.sfld (MSR_TRIM_GAIN ch), s.sfld (MSR_TRIM_OFFSET ch)⟩
  | _ => ⟨adc, 0x100 + c.input adc, 0, code, 0, 0⟩

/-- The calibrated sample and whether it was clipped (R270, R278), under the trims of the band in force. -/
def State.calibrate (s : State) (x : RawSample) : Int × Bool :=
  let r := 4 * x.raw.toInt
  let band := s.fld STM_STAT_TBAND
  let gu : Rat := (x.gainTrim : Rat) / 2 ^ 20
  let y : Rat := r * (1 + Config.factoryGain s.factoryRows x.adc x.input x.gain band + gu) +
    Config.factoryOffset s.factoryRows x.adc x.input x.gain band + x.offset
  let v := 4 * roundRat (y / 4)
  (clampInt (-32768) 32764 v, decide (v < -32768) || decide (32764 < v) || r == -32768 || r == 32764)

/-- Conversions one CLK_CONV cycle apart from a first cycle on, of the values held at a capture. -/
def State.inFlight (s : State) (held : List (Nat × BitVec 14)) (adc trig : Nat) (stamp : Time) : Nat → List Conv → List InFlight
  | _, [] => []
  | c, x :: r =>
    let code := s.rawSample held adc x
    let v := s.calibrate code
    ⟨x, trig, s.msr.caps, stamp, s.clk.core, c, code, v.1, v.2⟩ :: s.inFlight held adc trig stamp (c + 1) r

/-- Append conversions to a converter's pipeline. -/
def State.pushPipe (adc : Nat) (l : List InFlight) (s : State) : State :=
  { s with msr := { s.msr with pipe := s.msr.pipe.set adc (s.msr.pipe.getD adc [] ++ l) } }

/-- Whether this trigger is a cell trigger by the divider (R281): by the index in the second with a periodic source, by
count otherwise; a skipped round makes the next accepted trigger one. -/
def State.isCellTrigger (s : State) (k : Nat) : Bool :=
  let div := max (s.fld MSR_CELL_CFG_DIV) 1
  0 < s.cells && (s.msr.cellLate || (if s.trigSrc = 0 then k % div == 0 else s.msr.cellCount % div == 0))

/-- The test DAC's countdown at an accepted trigger (R292): ACTIVE follows the injection, source 424. -/
def State.stepDac (s : State) : State :=
  match s.msr.dacNext with
  | none => s
  | some cfg =>
    if s.msr.dacWait ≤ 1 then
      let t := { s with msr := { s.msr with dac := cfg, dacNext := none, dacWait := 0 } }
      let was := s.msr.dac.isSome
      let t := t.setFlag MSR_TDAC_ACTIVE cfg.isSome
      onlyIf (was != cfg.isSome) (State.raise 424) t
    else { s with msr := { s.msr with dacWait := s.msr.dacWait - 1 } }

/-- Cells affected now by a test DAC injection, and by an open-wire test besides (R284, R292, R294). -/
def State.dacCells (s : State) : List Nat :=
  match s.msr.dac with
  | some d => if d.path = 2 then [d.sel] else []
  | none => []

/-- The input number a test DAC injection replaces, and G of its path (R292). -/
def State.injected (s : State) (d : Inject) : Nat × Int :=
  match d.path with
  | 1 => (d.sel, 2 ^ (((s.senseEntry d.sel).map Prod.snd).getD 0))
  | 2 => (24 + d.sel, 1)
  | _ => (64 + d.sel, 1)

/-- What the sample-and-holds capture while the test DAC injects: for its input the ideal code (−1)^POL × CODE × 2 × G, cut to
14 bits, with a free deviation within the DAC's own error (R292, R293; safe: log entry 29). -/
def State.injectHeld (held : List (Nat × BitVec 14)) (s : State) : List (Nat × BitVec 14) × State :=
  match s.msr.dac with
  | none => (held, s)
  | some d =>
    let p := s.injected d
    let r := s.takeFree 8
    let dev : Int := (r.1 % (6 * p.2.toNat + 1) : Nat) - 3 * p.2
    (putPair held p.1 (BitVec.ofInt 14 (clampInt (-8192) 8191 (2 * p.2 * d.code + dev))), r.2)
def State.heldCells (s : State) : List Nat :=
  s.dacCells ++ (match s.msr.ow with
    | .idle => []
    | .waiting => []
    | _ => (if 0 < s.msr.owTap then [s.msr.owTap - 1] else []) ++ [s.msr.owTap]).filter (fun c => decide (c < s.cells))

/-- The current sample that trigger `trig` captured for the cells' services, while it is in the pipeline. -/
def State.currentAt (s : State) (trig : Nat) : Option Int :=
  let ch := s.cellCurrentCh
  ((s.msr.pipe.getD (ch / 12) []).find? (fun f => decide (f.trig = trig) && decide (f.conv = .sense ch))).map InFlight.value

/-- The marks of the cell rounds follow the current samples still in the pipeline. -/
def State.syncMarks (s : State) : State :=
  { s with msr := { s.msr with
    marks := s.msr.marks.map (fun (m : Mark) => { m with current := (s.currentAt m.trig).getD m.current }) } }

/-- The reference trims of a new temperature band act from the next CLK_CONV edge: conversions that start there or later are
calibrated with them (R66). One already in the pipeline keeps its value; its error of at most 0.1 LSB is not shown (log
entry 29). -/
def State.retrim (s : State) : State :=
  let again (f : InFlight) : InFlight :=
    if s.convNow < f.start then
      let v := s.calibrate f.code
      { f with value := v.1, clipped := v.2 }
    else f
  State.syncMarks { s with msr := { s.msr with pipe := s.msr.pipe.map (fun l => l.map again) } }

/-- The cell round of a cell trigger (R279, R282, R283): captured, with its conversions appended, or skipped. The answer's
second part is the first free cycle of ADC_2. -/
def State.cellTrigger (held : List (Nat × BitVec 14)) (trig : Nat) (stamp : Time) (s : State) : State × Nat :=
  let c := s.convNow
  if c < s.msr.cellEnd then (s.skipRound, s.msr.cellEnd + 1)
  else
    let n := s.cells
    let convs := (List.range n).map Conv.cell ++ [Conv.stack]
    let t := s.pushPipe 2 (s.inFlight held 2 trig stamp (c + 1) convs)
    ({ t with msr := { t.msr with
        cellEnd := c + n + 1, cellLate := false, cellCount := 0
        marks := t.msr.marks ++ [⟨trig, s.heldCells, s.dacCells, (s.currentAt trig).getD 0⟩]
        roundAt := t.clk.core, roundGap := t.clk.core - t.msr.roundAt } }, c + n + 2)

/-- A common trigger stamped `stamp` (R271, R277): `k` is its index within the second on the periodic grid, `lead` the
leader that gives it, `held` the codes the sample-and-holds capture. -/
def State.trigger (held : List (Nat × BitVec 14)) (stamp : Time) (k : Nat) (lead : Option Nat) (s : State) : State :=
  let c := s.convNow
  -- GPIO_1 with FUNC 6 is high for 100 ns from each trigger (R275), but not while an L2 releases it (R52)
  let s := if s.gpioFunc 1 = 6 && !s.pins.gpioReleased then { s with msr := { s.msr with pulseEnd := some (s.clk.core + 24) } } else s
  let cell := s.isCellTrigger k
  let counted (t : State) : State := { t with msr := { t.msr with cellCount := t.msr.cellCount + 1 } }
  if c < s.msr.senseEnd then counted s.missTrigger
  else
    let trig := s.msr.trigs + 1
    let hk := s.msr.hkWait.isSome
    let convs (adc : Nat) : List Conv :=
      (s.senseOrder adc lead).map Conv.sense ++ (if hk then [Conv.ref] else [])
    let s := State.stepDac { s with msr := { s.msr with
      caps := s.msr.caps + 1, trigs := trig, trigAt := c, senseEnd := c + max (convs 0).length (convs 1).length } }
    let i := s.injectHeld held
    let held := i.1
    let s := i.2
    let t := (s.pushPipe 0 (s.inFlight held 0 trig stamp (c + 1) (convs 0))).pushPipe 1
      (s.inFlight held 1 trig stamp (c + 1) (convs 1))
    let r := if cell then t.cellTrigger held trig stamp else (t, max (c + 1) (t.msr.cellEnd + 1))
    let t := counted r.1
    let t := if hk then
        let u := t.pushPipe 2 (t.inFlight held 2 trig stamp r.2 [Conv.ref])
        let u := u.pushPipe 3 (t.inFlight held 3 trig stamp (c + 1) ((List.range 32).map Conv.hk))
        { u with msr := { u.msr with hkWait := none, hkBusy := true, hkRef := true, hkVals := [], hkClip := [], refs := [],
                                     cellEnd := max u.msr.cellEnd r.2 } }
      else t
    t.meterTrigger trig stamp

/-- A conversion captured anew by another trigger of its cycle. -/
def State.recapture (held : List (Nat × BitVec 14)) (stamp : Time) (s : State) (f : InFlight) : InFlight :=
  let code := s.rawSample held f.code.adc f.conv
  let v := s.calibrate code
  { f with stamp := stamp, code := code, value := v.1, clipped := v.2 }

/-- The first trigger from the source in the CLK_CONV cycle of a periodic trigger: the periodic one is dropped, and what it
captured is the source's (R274). -/
def State.retakeTrigger (held : List (Nat × BitVec 14)) (stamp : Time) (lead : Option Nat) (s : State) : State :=
  let i := s.injectHeld held
  let s := i.2
  let trig := s.msr.trigs
  let own (f : InFlight) : Bool := decide (f.trig = trig)
  let sense (adc : Nat) (l : List InFlight) : List InFlight :=
    let refs := (l.filter own).any (fun f => f.conv == .ref)
    l.filter (fun f => !own f) ++ s.inFlight i.1 adc trig stamp (s.convNow + 1)
      ((s.senseOrder adc lead).map Conv.sense ++ (if refs then [Conv.ref] else []))
  let others (l : List InFlight) : List InFlight := l.map (fun f => if own f then s.recapture i.1 stamp f else f)
  let was := s.mtr.last.getD stamp
  State.syncMarks { s with
    msr := { s.msr with pipe := s.msr.pipe.mapIdx (fun adc l => if adc < 2 then sense adc l else others l) }
    mtr := { s.mtr with
      last := s.mtr.last.map (fun _ => stamp)
      due := s.mtr.due.map (fun (d : Due) =>
        if d.trig = trig then { d with stamp := stamp, dt := (d.dt + ticksBetween was stamp).toNat } else d) } }

/-- A trigger from the source the sense tile names; the first one after a fallback takes the place of a periodic one of its
CLK_CONV cycle (R274). -/
def State.sourceTrigger (held : List (Nat × BitVec 14)) (stamp : Time) (lead : Option Nat) (first : Bool) (s : State) : State :=
  if first && s.msr.trigAt == s.convNow && s.msr.trigs != 0 then s.retakeTrigger held stamp lead else s.trigger held stamp 0 lead

/-- The triggers are on the periodic grid (R271, R274). -/
def State.onGrid (s : State) : Bool := s.trigSrc == 0 || s.flag MSR_STAT_TRIG_FB

/-- Triggers are taken: in Idle and Run, and in P6 of a start, since the trigger of a bond runs from the instant it takes effect
(R274 for TRIG_SRC 17 and the fallback; DEDUCED for the others: log entry 29). -/
def State.triggers (s : State) : Bool :=
  s.active || (s.boot.power == .starting && s.boot.phase == 6 && s.boot.hold == .none)

/-- PERIODIC_TRIGGER (R271 to R274): the next grid instant has been reached. Its stamp is the grid instant, truncated. -/
def execPeriodicTrigger (held : List (Nat × BitVec 14)) (s : State) : Host.Outcome State Fault Refusal :=
  .next (
    if s.triggers && s.onGrid && timeReached (instant s.gridNum 60000000) s.now then
      let k := s.msr.gridK
      (s.stepGrid).trigger held (truncInstant s.gridNum 60000000) k none
    else s)

/-- EXT_TRIGGER (R271, R274): an edge on GPIO_0 with FUNC 5. The first one ends the fallback. -/
def execExtTrigger (held : List (Nat × BitVec 14)) (s : State) : Host.Outcome State Fault Refusal :=
  .next (
    if s.triggers && s.trigSrc == 17 && s.gpioFunc 0 == 5 then
      let first := s.flag MSR_STAT_TRIG_FB
      let t := { s.endFallback with msr := { s.endFallback.msr with extAt := s.convNow } }
      t.sourceTrigger held s.now none first
    else s)

/-- TRIGGER_FALLBACK_TIMEOUT (R274): 1 ms, 60,000 CLK_CONV cycles, without an edge; an edge of the same cycle counts. -/
def execTriggerFallbackTimeout (s : State) : Host.Outcome State Fault Refusal :=
  .next (
    if s.triggers && s.trigSrc == 17 && !s.flag MSR_STAT_TRIG_FB && decide (s.msr.extAt + 60000 ≤ s.convNow) then
      s.startFallback
    else s)

end Sys2Proof.Machine
end

