-- ==== Sys2Proof/Machine/Live.lean ====
section
/-! DEFINITION. What a register shows that the register file does not hold: words read from the blocks' own state. -/
namespace Sys2Proof.Machine

/-- Bits as a word from (low bit, value) pairs. -/
def word (l : List (Nat × Nat)) : Word := BitVec.ofNat 32 (l.foldl (fun a p => a + p.2 <<< p.1) 0)

/-- Low and high word of a number. -/
def halfWord (n w : Nat) : Word := BitVec.ofNat 32 (n >>> (32 * w))

/-- A register word with the bits of a mask replaced. -/
def withMask (base : Word) (mask v : Nat) : Word :=
  (base &&& ~~~(BitVec.ofNat 32 mask)) ||| BitVec.ofNat 32 (Nat.land v mask)

/-- MTR_TOT_w and MTR_RUN_w (Table — Meter page words). -/
def State.totWord (s : State) (w : Nat) : Word :=
  let t := s.mtr.tot
  match w with
  | 8 => BitVec.ofNat 32 s.mtr.cycles
  | 9 => BitVec.ofNat 32 s.mtr.index
  | _ => halfWord ([t.ce, t.de, t.cq, t.dq].getD (w / 2) 0 / 2 ^ 32) (w % 2)

def State.runWord (s : State) (w : Nat) : Word :=
  let t := s.mtr.run
  match w with
  | 0 => BitVec.ofNat 32 s.mtr.index
  | 1 => BitVec.ofNat 32 s.mtr.flags
  | 2 => halfWord s.mtr.start.toNat 0
  | 3 => halfWord s.mtr.start.toNat 1
  | 4 => 0
  | 5 => 0
  | _ => halfWord ([t.ce, t.de, t.cq, t.dq].getD ((w - 6) / 2) 0 / 2 ^ 32) (w % 2)

/-- The supervisor processor runs: from P5, and not while it restarts. -/
def State.supervisorRuns (s : State) : Bool :=
  (s.active || (s.boot.power == .starting && decide (5 ≤ s.boot.phase))) && s.boot.restart != some 2

/-- JNL_OLDEST: the first slot of the sector after the head's next sector (R397); its reset value 0 stands until the search after a
POR has found the head (R400; DEDUCED: log entry 33). -/
def State.jnlOldest (s : State) : Nat := if s.jnl.searching then 0 else (s.jnl.head / 64 + 2) * 64 % 94208

/-- MTR and JNL words. -/
def State.liveMtr (s : State) (a : Nat) : Word :=
  if MTR_TOT 0 ≤ a ∧ a ≤ MTR_TOT 9 then s.totWord ((a - MTR_TOT 0) / 4)
  else if MTR_RUN 0 ≤ a ∧ a ≤ MTR_RUN 13 then s.runWord ((a - MTR_RUN 0) / 4)
  else s.reg a

def State.liveJnl (s : State) (a : Nat) : Word :=
  if a = JNL_STAT then withMask (s.reg a) 0x23F (s.jnl.queue.length + 512 * bit (s.jnl.searching && s.supervisorRuns))
  else if a = JNL_HEAD then BitVec.ofNat 32 s.jnl.head
  else if a = JNL_OLDEST then BitVec.ofNat 32 s.jnlOldest
  else if a = JNL_SEQ_LO then halfWord s.jnl.next 0
  else if a = JNL_SEQ_HI then halfWord s.jnl.next 1
  else s.reg a

/-! ### The calendar (R86, R87) -/

/-- Year, month and day of a day number counted from 2000-01-01, under Gregorian rules (400-year cycles of 146,097
days, counted from a 1 March). -/
def civil (days : Nat) : Nat × Nat × Nat :=
  let z := days + 730425                    -- days from 0000-03-01
  let era := z / 146097
  let doe := z % 146097
  let yoe := (doe - doe / 1460 + doe / 36524 - doe / 146096) / 365
  let doy := doe - (365 * yoe + yoe / 4 - yoe / 100)
  let mp := (5 * doy + 2) / 153
  let d := doy - (153 * mp + 2) / 5 + 1
  let m := if mp < 10 then mp + 3 else mp - 9
  let y := yoe + era * 400
  (if m ≤ 2 then y + 1 else y, m, d)

/-- Two and four BCD digits. -/
def bcd2 (n : Nat) : Nat := n / 10 % 10 * 16 + n % 10
def bcd4 (n : Nat) : Nat := bcd2 (n / 100) * 256 + bcd2 (n % 100)

/-- The last second of the calendar view: 2999-12-31 23:59:59 (R87). -/
def calLast : Nat := 0x758F1887F

/-- RTC_TIME and RTC_DATE for a binary count. -/
def calTime (sec : Nat) : Word :=
  word [(16, bcd2 (sec / 3600 % 24)), (8, bcd2 (sec / 60 % 60)), (0, bcd2 (sec % 60))]
def calDate (sec : Nat) : Word :=
  let c := civil (sec / 86400)
  word [(16, bcd4 c.1), (13, (sec / 86400 + 5) % 7 + 1), (8, bcd2 c.2.1), (0, bcd2 c.2.2)]

/-- The second the calendar view shows. -/
def State.calSec (s : State) : Nat := if s.flag RTC_STAT_CAL_OVR then calLast else s.bkd.sec.toNat

/-- The four live time words (R86 to R88). -/
def State.rtcWord (s : State) (w : Nat) : Word :=
  match w with
  | 0 => s.bkd.sec.setWidth 32
  | 1 => word [(16, s.bkd.sec.toNat / 2 ^ 32), (0, s.bkd.frac.toNat)]
  | 2 => calTime s.calSec
  | _ => calDate s.calSec

/-! ### Live words by block -/

/-- GLB_STAT.PSTATE (R3). -/
def State.pstate (s : State) : Nat :=
  match s.boot.power with
  | .active => if s.railUp then 4 else 3
  | _ => 5

def State.otpData (s : State) (row : Nat) : Word := (lookupD s.boot.otp row ⟨0, false, false⟩).data

def State.liveGlb (s : State) (a : Nat) : Word :=
  if a = GLB_STAT then withMask (s.reg a) 7 s.pstate
  else if a = GLB_SERIAL_LO then s.otpData 0
  else if a = GLB_SERIAL_HI then s.otpData 1
  else s.reg a

def State.liveRpc (s : State) (a : Nat) : Word :=
  if a = RPC_RST_STAT then withMask (s.reg a) 0x3F (8 * s.boot.phase + s.boot.stat.getD 0) else s.reg a

/-- VPP_EXT: VPP is above 6.0 V. -/
def State.liveOtp (s : State) (a : Nat) : Word :=
  if a = OTP_STAT then withMask (s.reg a) 0x100 (0x100 * bit (decide (6000 < s.boot.vpp))) else s.reg a

def State.liveStm (s : State) (a : Nat) : Word :=
  if a = STM_TIME_LO then halfWord s.now.toNat 0
  else if a = STM_TIME_HI then halfWord s.now.toNat 1
  else s.reg a

/-- The words of the backup domain. While VBAK is below 1.6 V only VBAK_OK is named (R85): the model reads every other field as 0
but CFG_ERR, which does not lie in the domain, so RTC_STALE, OSF and LBV read 0 too (DEDUCED: log entry 21). -/
def State.liveBkd (s : State) (a : Nat) : Word :=
  if !s.bkd.powered then (if a = RTC_STAT then s.reg a &&& 0x80000000#32 else 0)
  else if RTC_SEC_LO ≤ a ∧ a ≤ RTC_DATE then s.rtcWord ((a - RTC_SEC_LO) / 4)
  else if a = RTC_STAT then withMask (s.reg a) 0xC00 (0x800 + 0x400 * bit s.bkd.commit.isSome)
  else if a = EVT_HEAD_LO then match s.bkd.fifo with
    | [] => 0
    | e :: _ => e.sec.setWidth 32
  else if a = EVT_HEAD_HI then match s.bkd.fifo with
    | [] => 0
    | e :: _ => word [(31, 1), (30, bit e.level), (28, e.input), (24, e.sec.toNat / 2 ^ 32), (23, bit e.journaled),
        (0, e.frac.toNat)]
  else if a = EVT_STAT then withMask (s.reg a) 0x1F s.bkd.fifo.length
  else s.reg a

/-- The filtered COURSE and CASC_IN levels are shown from P6 on; before it LINE and CASC_IN read as at reset (R265; DEDUCED: log
entry 28). -/
def State.linesRead (s : State) : Bool := decide (6 ≤ s.boot.phase)

def State.liveSeq (s : State) (a : Nat) : Word :=
  if a = SEQ_STAT then withMask (s.reg a) 0x1C0000
    (word [(20, bit (s.linesRead && s.pins.courseHigh)), (19, bit (s.linesRead && s.pins.cascIn)), (18, bit (s.pins.cascOut == .high))]).toNat
  else if a = SEQ_ON then s.reg a ||| 0x70000#32
  else s.reg a

/-- The port takes frames (R217, R231): VCP_EN under a bond in force, from P6 on, outside an L2 restart. -/
def State.vcpUp (s : State) : Bool :=
  (s.active || (s.boot.power == .starting && decide (6 ≤ s.boot.phase))) && s.hasBond && s.flag VCP_STAT_EN &&
    s.boot.restart != some 2

/-- ACTIVE of VCP_STAT (R234): an answer is being driven, or VCP_SEL is low, in a frame still coming in too, whose falling edge no
row tells: a free value of the CLK_CORE tick (safe: log entry 27). -/
def State.vcpActive (s : State) : Bool :=
  decide (s.clk.core < s.vcp.busyTill) || (s.vcpUp && Config.selLow s.clk.core)
def State.liveVcp (s : State) (a : Nat) : Word :=
  if a = VCP_STAT then withMask (s.reg a) 0x40 (0x40 * bit s.vcpActive) else s.reg a

def State.liveCpm (s : State) (a : Nat) : Word :=
  if a = CPM_CHG_TIME ∧ s.sessionOpen then BitVec.ofNat 32 (secondsBetween s.cpm.openAt s.now)
  else if a = CPM_PP_STAT then withMask (s.reg a) 0x200 (0x200 * bit (s.pins.auxEn == .high))
  else if a = CPM_SW_STAT then
    let w := withMask (s.reg a) 0x30000000 (word [(29, bit (s.pins.dswG == .high)), (28, bit (s.pins.preG == .high))]).toNat
    match s.cpm.pressAt with
    | some t => withMask w 0x7FFF (min ((s.clk.core - t) / (10000 * coreUs)) 32767)
    | none => w
  else s.reg a

def State.liveLnk (s : State) (a : Nat) : Word :=
  match s.lnk.fwd with
  | [] => if a = LNK_FWD_0 ∨ a = LNK_FWD_1 ∨ a = LNK_FWD_2 then 0 else s.reg a
  | e :: r =>
    if a = LNK_FWD_0 then word [(31, 1), (23, r.length + 1), (10, e.1), (0, e.2.1)]
    else if a = LNK_FWD_1 then halfWord e.2.2.toNat 0
    else if a = LNK_FWD_2 then halfWord e.2.2.toNat 1
    else s.reg a

def State.liveIcu (s : State) (a : Nat) : Word :=
  let head := headEntry s.icu.queue
  if a = ICU_STAT then withMask (s.reg a) 0xFF (s.icu.queue.length + 128 * bit s.icu.intN)
  else if a = ICU_HOST_0 then match head with
    | none => 0
    | some e => word [(31, 1), (30, bit (s.flag (ICU_SRC_AGAIN e.source))), (28, e.prio), (16, s.icu.queue.length),
        (0, e.source)]
  else if a = ICU_HOST_1 then halfWord ((head.map (fun e => e.stamp.toNat)).getD 0) 0
  else if a = ICU_HOST_2 then halfWord ((head.map (fun e => e.stamp.toNat)).getD 0) 1
  else if ICU_HOLD 0 ≤ a ∧ a ≤ ICU_HOLD 31 then
    withMask (s.reg a) 0x80000000 (0x80000000 * bit (s.icu.held.any (fun p => decide (p.1 = (a - ICU_HOLD 0) / 4))))
  else if ICU_PEND 0 ≤ a ∧ a ≤ ICU_PEND 31 then
    word ((List.range 32).map (fun i => (i, bit (s.flag (ICU_SRC_PEND (32 * ((a - ICU_PEND 0) / 4) + i))))))
  else s.reg a

/-- The window and the count (R449, R461); OPEN reads 0 until the first cycle has started. -/
def State.liveWdg (s : State) (a : Nat) : Word :=
  if a = WDG_STAT then withMask (s.reg a) 0x787FFFFF
    (word [(30, bit s.wdg.armed), (29, bit (s.boot.opt0.getLsbD 1)), (28, bit s.wdg.pulseEnd.isSome),
      (27, bit (s.wdg.armed && s.wdg.starting != some true && decide (s.wdg.tOpen ≤ s.wdg.count))), (0, s.wdg.count)]).toNat
  else s.reg a

/-- The word the register at `a` shows now. -/
def State.live (s : State) (a : Nat) : Word :=
  match a / 0x10000 with
  | 0x0 => s.liveGlb a
  | 0x1 => s.liveRpc a
  | 0x2 => s.liveOtp a
  | 0x3 => s.liveStm a
  | 0x4 => s.liveBkd a
  | 0x12 => s.liveVcp a
  | 0x13 => s.liveSeq a
  | 0x17 => s.liveCpm a
  | 0x18 => s.liveMtr a
  | 0x19 => s.liveJnl a
  | 0x1A => s.liveLnk a
  | 0x1B => s.liveIcu a
  | 0x1C => s.liveWdg a
  | _ => s.reg a

/-! ### Points -/

/-- The register a live point mirrors (R385). -/
def State.pointReg (s : State) (p : Nat) : Option Nat :=
  let n := s.cells
  let when (b : Bool) (a : Nat) : Option Nat := if b then some a else none
  if p < 0x1000 then when (decide (p / 128 < n)) (if p % 2 = 0 then CEL_ZR (p / 128) (p % 128 / 2) else CEL_ZI (p / 128) (p % 128 / 2))
  else if p < 0x1020 then when (decide (p - 0x1000 < n)) (MSR_CELL (p - 0x1000))
  else if p < 0x1023 then when (decide (0 < n)) ([MSR_STACK, MSR_CELL_TS_LO, MSR_CELL_TS_HI].getD (p - 0x1020) 0)
  else if p < 0x1040 then none
  else if p < 0x1058 then when (s.senseEntry (p - 0x1040)).isSome (MSR_CH (p - 0x1040))
  else if p < 0x1060 then none
  else if p < 0x1080 then some (MSR_HK (p - 0x1060))
  else if p < 0x108D then some (THM_T (p - 0x1080))
  else if p < 0x10A0 then none
  else if p < 0x10C0 then when (decide (p - 0x10A0 < n)) (CEL_PULSE (p - 0x10A0))
  else if p < 0x10E0 then when (decide (p - 0x10C0 < n)) (CEL_HEALTH (p - 0x10C0))
  else if p = 0x10E0 then when (decide (0 < n)) CEL_STAT
  else if p < 0x1100 then none
  else if p < 0x1200 then
    let b := (p - 0x1100) / 16
    when (s.fld (BRK_STAT_STATE b) != brkUnassigned && decide (p % 16 < 12))
      ([BRK_STAT b, BRK_TARGET b, BRK_REF b, BRK_FB b, BRK_CMD b, BRK_INNER b, BRK_LANE_STAT b, BRK_HOLD b, BRK_I2T b,
        BRK_LIM_AVG b, BRK_LIM_STAT b, BRK_SS b].getD (p % 16) 0)
  else if p < 0x120A then some (MTR_TOT (p - 0x1200))
  else if p < 0x1210 then none
  else if p < 0x121E then some (MTR_RUN (p - 0x1210))
  else if p < 0x1220 then none
  else if p < 0x1240 then when (decide (p - 0x1220 < n)) (MTR_CELL_MM (p - 0x1220))
  else if p < 0x1250 then some (MTR_HIST (p - 0x1240))
  else if p < 0x1280 then none
  else if p < 0x1295 then
    let r := p - 0x1280
    when ((s.tile 5 r).isSome || (decide (16 ≤ r) && decide (r ≤ 18))) (SEQ_RAIL_STAT r)
  else if p < 0x12A0 then none
  else if p < 0x12AC then
    some ([SEQ_STAT, SEQ_FAULT, SEQ_PG, SEQ_ON, CPM_CHG_STAT, CPM_CHG_LIM, CPM_PP_STAT, CPM_SW_STAT, CPM_CHG_TIME,
      THM_STAT, STM_STAT, CEL_BAL_ON].getD (p - 0x12A0) 0)
  else none

/-- A user point (R385). -/
def isUserPoint (p : Nat) : Bool := decide (0x1300 ≤ p) && decide (p ≤ 0x1DFF)

/-- The word point `p` reads as: 0 where it is not live (R385). -/
def State.point (s : State) (p : Nat) : Word :=
  if isUserPoint p then lookupD s.mtr.points p 0
  else match s.pointReg p with
    | some a => s.live a
    | none => 0

end Sys2Proof.Machine
end

