-- ==== Sys2Proof/Machine/Meter.lean ====
section
/-! DEFINITION. Meters, statistics, reams and couches (R370 to R391), the search of journal sheets (R393, R396), and what a
SYSTIME step does to them (R76). Readings: log entry 33. -/
namespace Sys2Proof.Machine

/-! ### Integration -/

/-- The largest value of a counter, 2⁶³ − 1, with its fraction empty (R373). -/
def counterMax : Nat := (2 ^ 63 - 1) * 2 ^ 32

/-- Add to the four counters; each stays at 2⁶³ − 1 rather than pass it (R373). -/
def Count.add (a b : Count) : Count :=
  ⟨min (a.ce + b.ce) counterMax, min (a.de + b.de) counterMax, min (a.cq + b.cq) counterMax, min (a.dq + b.dq) counterMax⟩

/-- The increment of one sample (R371), in 2⁻³² of each unit, truncated. Charge: |i| × I_GAIN × dt in µAs. Energy:
|i| × v × I_GAIN × V_GAIN × dt ÷ 3,600 in pWh, a millionth of it in µWh. I_GAIN and V_GAIN are Q16.16, dt is in 2⁻²⁸ s. -/
def increment (i v : Int) (iGain vGain dt : Nat) : Count :=
  let q := i.natAbs * iGain * dt / 2 ^ 12
  let e := if 0 < v then i.natAbs * v.toNat * iGain * vGain * dt / (2 ^ 28 * 3600 * 1000000) else 0
  if 0 < i then ⟨e, 0, q, 0⟩ else if i < 0 then ⟨0, e, 0, q⟩ else ⟨0, 0, 0, 0⟩

/-- The totals, 0 to 3, that adding would carry past 2⁶³ − 1 (R373). -/
def Count.passing (a b : Count) : List Nat :=
  (List.range 4).filter (fun k => decide (counterMax < [a.ce + b.ce, a.de + b.de, a.cq + b.cq, a.dq + b.dq].getD k 0))

/-- A total would pass its largest value for the first time: SAT_EV and its one sheet (R373). -/
def State.saturate (k : Nat) (s : State) : State :=
  if s.mtr.full.contains k then s
  else
    let t := { s with mtr := { s.mtr with full := k :: s.mtr.full } }
    (t.sheet 0x0A05 []).flagRaise MTR_STAT_SAT_EV 613

/-- Integrate one sample into the totals, the running ream and the cycle count, which follows what DQ has grown by (R371, R373,
R374). -/
def State.integrate (d : Due) (s : State) : State :=
  let inc := increment (d.i.getD 0) (d.v.getD 0) d.gain.1 d.gain.2 d.dt
  let tot := s.mtr.tot.add inc
  let thr := s.cycleThr * s.capacity * 3600 * 2 ^ 32
  let rem := s.mtr.cycRem + (tot.dq - s.mtr.tot.dq)
  let m := { s.mtr with
    tot := tot
    run := s.mtr.run.add inc
    cycles := if thr = 0 then s.mtr.cycles else (s.mtr.cycles + rem / thr) % 2 ^ 32
    cycRem := if thr = 0 then s.mtr.cycRem else rem % thr }
  forEach (s.mtr.tot.passing inc) State.saturate { s with mtr := m }

/-! ### Reams -/

/-- The ream length in force, in seconds. -/
def State.reamLen (s : State) : Nat := max s.mtr.len 1

/-- The next ream boundary: the first multiple of L after the running ream's start (R76, R378). -/
def State.boundary (s : State) : Time :=
  BitVec.ofNat 64 ((s.unbounded s.mtr.start / 2 ^ 28 / s.reamLen + 1) * s.reamLen * 2 ^ 28)

/-- Bank `k` is pending and its instant has not been copied yet. -/
def State.couchPending (s : State) (k : Nat) : Bool :=
  s.fld (MTR_COUCH_STAT_STATE k) == 1 && !(s.mtr.banks.getD k ⟨[], false⟩).taken

/-- T of bank `k`. -/
def State.couchT (s : State) (k : Nat) : Time :=
  BitVec.ofNat 64 ((s.reg (MTR_COUCH_BT_LO k)).toNat + 2 ^ 32 * (s.reg (MTR_COUCH_BT_HI k)).toNat)

/-- A complete sample waits: for the latch at a reached boundary (R379), or for a couch whose T it does not lie before (R390). -/
def State.sampleWaits (s : State) (d : Due) : Bool :=
  timeReached s.boundary d.stamp || (List.range 4).any (fun k => s.couchPending k && timeReached (s.couchT k) d.stamp)

/-- A complete sample is integrated, or held. -/
def State.takeDue (d : Due) (s : State) : State :=
  if s.sampleWaits d then { s with mtr := { s.mtr with held := s.mtr.held ++ [d] } } else s.integrate d

/-- Integrate every sample that is complete, in order; one stamped at or after a reached boundary, or a couch to be taken, is
held (R379, R390). -/
def State.settleDue (s : State) : State :=
  forEach s.mtr.due (fun d t =>
    if d.i.isSome && d.v.isSome then
      State.takeDue d { t with mtr := { t.mtr with due := t.mtr.due.filter (fun e => !decide (e.trig = d.trig)) } }
    else t) s

/-- A sample of channel `ch` for trigger `trig` reaches the meters (R370). -/
def State.meterSample (ch trig : Nat) (v : Int) (s : State) : State :=
  let put (d : Due) : Due :=
    if d.trig = trig then
      { d with i := if ch = d.ch.1 then some v else d.i, v := if ch = d.ch.2 then some v else d.v }
    else d
  { s with mtr := { s.mtr with due := s.mtr.due.map put } }.settleDue

/-- The four counters' integer parts as sheet bytes: CE, DE, CQ, DQ. -/
def Count.bytes (c : Count) : List Byte :=
  leBytes 8 (c.ce / 2 ^ 32) ++ leBytes 8 (c.de / 2 ^ 32) ++ leBytes 8 (c.cq / 2 ^ 32) ++ leBytes 8 (c.dq / 2 ^ 32)

/-- The fourteen words of a bank entry (Table — Meter page words). -/
def State.bankWords (s : State) (flags : Nat) (e : Time) : List Word :=
  [BitVec.ofNat 32 s.mtr.index, BitVec.ofNat 32 flags, halfWord s.mtr.start.toNat 0, halfWord s.mtr.start.toNat 1,
    halfWord e.toNat 0, halfWord e.toNat 1] ++ (List.range 8).map (fun w => s.runWord (w + 6))

/-- Latch the running ream with end `e` and further flags (R379, R380): the bank entry, the restart, REAM_EV and source 608,
the ream sheet and the totals sheet. A ream whose start a backward step left after its end has no length in ms the spec states:
a free value (DESIGN CHOICE, safe: log entry 33). -/
def State.latchReam (e : Time) (extra : Nat) (s : State) : State :=
  let len := ticksBetween s.mtr.start e
  let partialFlag := if len = s.reamLen * 2 ^ 28 then 0 else 1
  let late := s.mtr.metered && (match s.mtr.last with
    | some a => decide (2 ^ 28 < 10 * ticksBetween a e)
    | none => false)
  let flags := Nat.lor (Nat.lor s.mtr.flags extra) (partialFlag + (if late then 4 else 0))
  let ws := s.bankWords flags e
  let t := forEach (List.range 14) (fun w t => t.setReg (MTR_REAM s.mtr.slot w) (ws.getD w 0)) s
  let t := t.setFld MTR_STAT_NEWEST s.mtr.slot
  let closed := s.mtr.index
  let old := s.mtr.run
  let t := { t with mtr := { t.mtr with
    run := ⟨0, 0, 0, 0⟩, index := (closed + 1) % 2 ^ 32, flags := 0, start := e, slot := (s.mtr.slot + 1) % 8 } }
  let t := t.flagRaise MTR_STAT_REAM_EV 608
  let ms := if 0 ≤ len then (len.toNat * 1000 / 2 ^ 28, t) else t.takeFree 32
  let t := ms.2.sheet 0x1020 (leBytes 4 closed ++ leBytes 1 flags ++ leBytes 1 0 ++ leBytes 4 ms.1 ++ old.bytes)
  t.sheet 0x1021 (t.mtr.tot.bytes ++ leBytes 4 t.mtr.cycles ++ leBytes 4 t.mtr.index ++ leBytes 2 0)

/-- Integrate the samples held for the new ream (R379), or for a couch now taken (R390). -/
def State.releaseHeld (s : State) : State :=
  forEach s.mtr.held State.takeDue { s with mtr := { s.mtr with held := [] } }

/-- The running ream exists: no restore is outstanding, and the restored ream has started (R384). -/
def State.reamRuns (s : State) : Bool := !s.restoring && s.mtr.restored.isNone

/-- The sample of channel `ch` that trigger `trig` captured and that has not left the pipeline. -/
def State.inPipe (s : State) (ch trig : Nat) : Option Int :=
  ((s.msr.pipe.getD (ch / 12) []).find? (fun f => decide (f.trig = trig) && decide (f.conv = .sense ch))).map (·.value)

/-- Integrate the samples stamped before `e` that are captured and still under conversion: they belong to the ream that ends
at `e`, one stamped at `e` to the next (R30, R379). -/
def State.drainDue (e : Time) (s : State) : State :=
  let fill (d : Due) : Due :=
    if ticksBetween d.stamp e ≤ 0 then d
    else
      { d with i := if d.i.isSome then d.i else s.inPipe d.ch.1 d.trig
               v := if d.v.isSome then d.v else s.inPipe d.ch.2 d.trig }
  { s with mtr := { s.mtr with due := s.mtr.due.map fill } }.settleDue

/-- T had been reached before the present CLK_CORE cycle (R389: an instant reached in the cycle of arrival counts as not
yet reached). -/
def State.reachedBefore (s : State) (t : Time) : Bool :=
  timeReached t (((s.clk.acc - (s.reg STM_INC).setWidth 128) >>> 24).setWidth 64)

/-- The latches a changed length owes in the tick of the change (R28, R29, R379): at a boundary of the old length that has been
reached and still waits for its samples, and then at the tick itself, unless that boundary falls in it or the ream starts in
it, so that no ream of no length is made. A multiple of the new length that falls within the tick, while SYSTIME of the tick
lies a unit or more past it: the spec does not say whether the ream opens there or at the tick; the model opens it at the
tick's SYSTIME, so that it carries PARTIAL (DEDUCED: log entry 33). -/
def State.latchChange (s : State) : State :=
  if timeReached s.boundary s.now then
    let t := (s.latchReam s.boundary 0).releaseHeld
    if s.reachedBefore s.boundary then t.latchReam s.now 0 else t
  else if timeReached s.mtr.start s.now && !s.reachedBefore s.mtr.start then s
  else s.latchReam s.now 0

/-- Change the ream length: a changed length latches the running ream as a partial one in the tick of the change (R28 to
R30). -/
def State.changeReamLen (len : Nat) (s : State) : State :=
  if s.mtr.len = len then s
  else
    let t := s.drainDue s.now
    let t := onlyIf t.reamRuns State.latchChange t
    { t with mtr := { t.mtr with len := len } }

/-! ### Couches -/

/-- Every live point that is not 0 (R390). -/
def State.livePoints (s : State) : List (Nat × Word) :=
  (List.range 0x1E00).filterMap (fun p => let w := s.point p; if w = 0 then none else some (p, w))

/-- The pending banks whose instant has been reached take their couch (R390): the live points as they stood in `was`, before
any update of the tick, the meter points with every sample stamped before T and no other; TSTATE and STEPPED, COUCH_EV and
source 609. -/
def State.takeCouches (step : Bool) (s was : State) : State :=
  let ks := (List.range 4).filter (fun k => s.couchPending k && timeReached (s.couchT k) s.now)
  if ks.isEmpty then s
  else
    let t := forEach ks (fun k t =>
      let t := { t with mtr := { t.mtr with banks := t.mtr.banks.set k ⟨(was.drainDue (s.couchT k)).livePoints, true⟩ } }
      (t.setFld (MTR_COUCH_STAT_TSTATE k) (was.fld STM_STAT_TSTATE)).setFlag (MTR_COUCH_STAT_STEPPED k) step) s
    t.releaseHeld.flagRaise MTR_STAT_COUCH_EV 609

/-- Free bank `k`, cancelling a pending one (R391). -/
def State.freeBank (k : Nat) (s : State) : State :=
  let t := ((s.setReg (MTR_COUCH_STAT k) 0).setReg (MTR_COUCH_BT_LO k) 0).setReg (MTR_COUCH_BT_HI k) 0
  { t with mtr := { t.mtr with banks := t.mtr.banks.set k ⟨[], false⟩ } }

/-- Check a couch request (R389) and take it into the lowest free bank: RESULT and the bank. `own` at the requesting
device. -/
def State.couchRequest (own : Bool) (id : Nat) (t : Time) (s : State) : (Nat × Nat) × State :=
  let st (k : Nat) : Nat := s.fld (MTR_COUCH_STAT_STATE k)
  let free := (List.range 4).find? (fun k => st k == 0)
  let result :=
    if s.relayInProgress then 2
    else if (if own then decide (200 * ticksBetween s.now t < 2 ^ 28) else s.reachedBefore t) then 3
    else if (List.range 4).any (fun k => st k != 0 && s.fld (MTR_COUCH_STAT_ID k) == id) then 4
    else if free.isNone then 2 else 1
  let k := free.getD 0
  if result = 1 then
    let u := (s.setReg (MTR_COUCH_STAT k) (word [(30, 1), (0, id)])).setReg (MTR_COUCH_BT_LO k) (halfWord t.toNat 0)
    ((1, k), u.setReg (MTR_COUCH_BT_HI k) (halfWord t.toNat 1))
  else ((result, 0), s)

/-- Record a request's outcome: MTR_COUCH_RES, and COUCH_REF_EV with source 610 for a refusal (R389). -/
def State.couchResult (result bank : Nat) (s : State) : State :=
  let t := s.setReg MTR_COUCH_RES (word [(4, bank), (0, result)])
  if result = 1 then t else t.flagRaise MTR_STAT_COUCH_REF_EV 610

/-! ### SYSTIME steps -/

/-- SYSTIME has stepped from what it was in `was` to the time now (R76, R273, R328, R380): couches and a ream that a forward
step passes are taken and latched in this tick, with the samples triggered before it, and a midnight it passes is reached
(R68, R377); the trigger grid moves with the time, a window in progress is disturbed. -/
def State.stepped (s was : State) : State :=
  let before := was.now
  let forward := decide (0 < ticksBetween before s.now)
  let t := if forward then s.takeCouches true was else s
  let t := t.flagRaise STM_STAT_TIME_STEPPED 27
  let t := t.sheet 0x1002 (leBytes 8 before.toNat ++ leBytes 8 s.now.toNat)
  let t := if forward && t.reamRuns && timeReached t.boundary s.now then
      let t := t.drainDue before
      let cut := if timeReached t.boundary before then (t.latchReam t.boundary 0).releaseHeld else t
      if timeReached cut.boundary s.now then (cut.latchReam s.now 2).releaseHeld else cut
    else t
  let t := { t with
    mtr := { t.mtr with statDay := t.mtr.statDay.map (fun d => min d (s.secNow / 86400)) }
    -- the sweeps' multiples from the time now on are still to be reached (R321)
    cel := { t.cel with lastStart := t.cel.lastStart.map (min s.msCeil) } }
  (if t.onGrid then t.regrid else t).disturb

/-! ### Rows of the meters -/

/-- REAM_LATCH (R378, R379): the boundary has been reached and every sample triggered before it is integrated. A couch that is
due is taken first, so that one whose T is the boundary shows the ream that ends there (R382). -/
def execReamLatch (s : State) : Host.Outcome State Fault Refusal :=
  .next (
    if s.reamRuns && timeReached s.boundary s.now && s.mtr.due.all (fun d => timeReached s.boundary d.stamp) then
      let t := s.takeCouches false s
      (t.latchReam t.boundary 0).releaseHeld
    else s)

/-- COUCH_INSTANT (R390): in the tick in which T is reached, with every sample stamped before T integrated. -/
def execCouchInstant (s : State) : Host.Outcome State Fault Refusal := .next (s.takeCouches false s)

/-- COUCH_HELD (R390): a taken couch reaches the held state and its sheet is written. -/
def execCouchHeld (bank : BitVec 2) (s : State) : Host.Outcome State Fault Refusal :=
  let k := bank.toNat
  .next (
    if s.fld (MTR_COUCH_STAT_STATE k) == 1 && (s.mtr.banks.getD k ⟨[], false⟩).taken then
      (s.setFld (MTR_COUCH_STAT_STATE k) 2).sheet 0x1023 (leBytes 2 (s.fld (MTR_COUCH_STAT_ID k)) ++ leBytes 1 k ++
        leBytes 1 (s.fld (MTR_COUCH_STAT_TSTATE k)) ++ leBytes 1 (s.fld (MTR_COUCH_STAT_STEPPED k)) ++ leBytes 1 0 ++
        leBytes 8 (s.couchT k).toNat)
    else s)

/-- The histogram bin of a temperature in 0.1 °C (R376). -/
def State.histBin (s : State) (t : Rat) : Nat :=
  ((List.range 15).filter (fun (n : Nat) => decide ((s.histBase : Rat) + (n : Rat) * s.histStep ≤ t))).length

/-- HIST_SECOND (R376): once per SYSTIME second the bin of the module temperature gains 1 s. -/
def execHistSecond (s : State) : Host.Outcome State Fault Refusal :=
  .next (
    if s.active && s.mtr.histSec != some (s.secNow) then
      let t := { s with mtr := { s.mtr with histSec := some (s.secNow) } }
      t.bump (MTR_HIST_SEC (s.histBin s.moduleTempExact))
    else s)

/-- Empty the histogram; the extremes. -/
def State.clearHist (s : State) : State := forEach (List.range 16) (fun i t => t.setReg (MTR_HIST i) 0) s
def State.clearExtremes (s : State) : State := forEach (List.range 32) (fun k t => t.setReg (MTR_CELL_MM k) 0xFFFF0000#32) s

/-- The lowest minimum and the highest maximum over the connected cells, with the cells that carry them; the lowest cell
number on a tie. -/
def State.extremes (s : State) : (Nat × Nat) × (Nat × Nat) :=
  (List.range s.cells).foldl (fun a k =>
    let mn := s.fld (MTR_CELL_MM_MIN k)
    let mx := s.fld (MTR_CELL_MM_MAX k)
    (if mn < a.1.1 then (mn, k) else a.1, if a.2.1 < mx then (mx, k) else a.2)) ((0xFFFF, 0), (0, 0))

/-- MIDNIGHT_STATS (R377): three statistics sheets at a UTC midnight, one set for all that a forward step passes (DEDUCED: log
entry 33). -/
def execMidnightStats (s : State) : Host.Outcome State Fault Refusal :=
  let day := s.secNow / 86400
  .next (
    if s.active && (match s.mtr.statDay with | some d => d != day | none => false) then
      let t := { s with mtr := { s.mtr with statDay := some day } }
      let half (h : Nat) : List Byte :=
        leBytes 1 h ++ ((List.range 8).map (fun i => leBytes 4 (s.reg (MTR_HIST (8 * h + i))).toNat)).flatten
      let e := s.extremes
      ((t.sheet 0x1022 (half 0)).sheet 0x1022 (half 1)).sheet 0x1022
        (leBytes 1 2 ++ leBytes 2 e.1.1 ++ leBytes 1 e.1.2 ++ leBytes 2 e.2.1 ++ leBytes 1 e.2.2)
    else s)

/-! ### Sheets in the journal -/

def slotAddress (slot : Nat) : Nat := 0x240000 + 64 * slot
def slotCount : Nat := 94208

/-- The slots that hold a byte other than 0xFF, ascending. -/
def State.usedSlots (s : State) : List Nat :=
  s.flash.foldl (fun acc c =>
    if 0x240000 ≤ c.1 ∧ c.1 < 0x800000 then
      let k := (c.1 - 0x240000) / 64
      if acc.getLast? = some k then acc else acc ++ [k]
    else acc) []

/-- A slot's bytes; whether they are a valid sheet (R393). -/
def State.slotBytes (s : State) (slot : Nat) : List Byte := s.flashRead (slotAddress slot) 64
def sheetValid (b : List Byte) : Bool := u32 b 0x3C == (crc32 (b.take 60)).toNat

/-- SEQ, TYPE and payload of a sheet's bytes (R392). -/
def sheetSeq (b : List Byte) : Nat := u32 b 0xA + 2 ^ 32 * u16 b 0xE
def sheetType (b : List Byte) : Nat := u16 b 0x10
def sheetPayload (b : List Byte) : List Byte := (b.drop 0x12).take 42
def sheetStamp (b : List Byte) : Nat := u32 b 0 + 2 ^ 32 * u32 b 4

/-- The valid sheets of the journal that satisfy a test, and the one with the highest sequence number among them; of two
with one number the later slot's (R396). -/
def State.newestSheet (s : State) (p : List Byte → Bool) : Option (List Byte × Nat) :=
  s.usedSlots.foldl (fun best k =>
    let b := s.slotBytes k
    if sheetValid b && p b then
      match best with
      | some (c, j) => if sheetSeq b < sheetSeq c then some (c, j) else some (b, k)
      | none => some (b, k)
    else best) none

/-- METER_RESTORE_DONE (R384): the meters and the ream index from the newest totals sheet, the histogram and the extremes
from the newest statistics sheets, RESTORING 0 and source 612. With no totals sheet everything starts from 0. -/
def execMeterRestoreDone (s : State) : Host.Outcome State Fault Refusal :=
  .next (
    if s.active && s.restoring then
      let p := match s.newestSheet (fun b => sheetType b == 0x1021) with
        | some (b, _) => b
        | none => []
      let pay := sheetPayload p
      let q (o : Nat) : Nat := (u32 pay o + 2 ^ 32 * u32 pay (o + 4)) * 2 ^ 32
      let m := if p.isEmpty then s.mtr else { s.mtr with
        tot := ⟨q 0, q 8, q 16, q 24⟩, cycles := u32 pay 32, index := u32 pay 36 }
      let t := { s with mtr := { m with
        run := ⟨0, 0, 0, 0⟩, full := [], cycRem := 0, flags := 9, restored := some (BitVec.ofNat 64 (if p.isEmpty then 0 else sheetStamp p))
        due := [], held := [] } }
      let stat (h : Nat) : List Byte :=
        match s.newestSheet (fun b => sheetType b == 0x1022 && u8 (sheetPayload b) 0 == h) with
        | some (b, _) => sheetPayload b
        | none => []
      let hist (h : Nat) (t : State) : State :=
        let b := stat h
        if b.isEmpty then t
        else forEach (List.range 8) (fun i t => t.setReg (MTR_HIST (8 * h + i)) (BitVec.ofNat 32 (u32 b (1 + 4 * i)))) t
      let t := hist 1 (hist 0 t)
      let b := stat 2
      let t := if b.isEmpty then t
        else (t.setFld (MTR_CELL_MM_MIN (u8 b 3)) (u16 b 1)).setFld (MTR_CELL_MM_MAX (u8 b 6)) (u16 b 4)
      (t.setFld MTR_STAT_RESTORING 0).raise 612
    else s)

end Sys2Proof.Machine
end

