-- ==== Sys2Proof/Machine/Steps.lean ====
section
/-! DEFINITION. The progress of a device's course actions (R237, R240 to R244, R248, R262): what the completion of an action
releases (readings: log entry 28). -/
namespace Sys2Proof.Machine

/-- The actions of course `c` in one direction (R236): down is true. -/
def State.courseActions (s : State) (c : Nat) (down : Bool) : List Action :=
  match s.tile 6 c with
  | none => []
  | some t =>
    ((List.range (t.u16 0)).map (fun k =>
      let o := 4 + 8 * k
      (t.u8 (o + 1) / 2 % 2 == 1, (⟨t.u8 o, t.u8 (o + 1) % 2 == 1, t.u8 (o + 2), t.u32 (o + 4)⟩ : Action)))).filterMap
      (fun p => if p.1 = down then some p.2 else none)

/-- A mark in the list of actions: the courses from `c` upwards have been left (op 0, target the count to show). -/
def courseMark (c : Nat) : Action := ⟨0, false, c, 0⟩

/-- The floor's actions (R242): DIR = 1 of every course from `c` down to 1, the count following. -/
def State.floorActions (s : State) (c : Nat) : List Action :=
  ((List.range c).reverse.map (fun i => s.courseActions (i + 1) true ++ [courseMark i])).flatten

/-- The rejoin's actions (R248): DIR = 0 of courses 1 to `c`. -/
def State.rejoinActions (s : State) (c : Nat) : List Action :=
  ((List.range c).map (fun i => s.courseActions (i + 1) false ++ [courseMark (i + 1)])).flatten

/-- Pass marks at the head of the list: the course count follows them, but that an OUT device has course 0 (R248). -/
def State.passMarks : List Action → State → State
  | [], s => { s with seq := { s.seq with todo := [] } }
  | a :: r, s =>
    if a.op = 0 then State.passMarks r (if s.seq.out then s else s.setFld SEQ_STAT_DEV_COURSE a.target)
    else { s with seq := { s.seq with todo := a :: r } }

/-- CASC_OUT rises once CASC_IN has been high in the step and no cascaded action is left (R244). -/
def State.raiseCasc (s : State) : State :=
  if s.seq.kind == .step && s.seq.cascSeen && !s.seq.todo.any (fun a => a.cascaded) then
    { s with pins := { s.pins with cascOut := .high } }
  else s

/-- A device reports its rejoin to the head: status 3 while it runs, 0 once the device is IN again (R248; the frame is
COURSE_ANS, R418; DEDUCED: log entry 28). -/
def State.reportRejoin (status : Nat) (s : State) : State :=
  s.send 0x31 5 false (leBytes 1 (s.fld SEQ_STAT_DEV_COURSE) ++ leBytes 1 (s.fld SEQ_STAT_DIR) ++ leBytes 1 status ++ leBytes 1 0)

/-- The run of actions has ended (R241, R242, R248, R262): a step's hold is released, at its shortest where no count changed
(R240), a floor's at course 0, a link floor is reported, a rejoined device is IN at the course its actions have reached. -/
def State.endRun (s : State) : State :=
  let idle (t : State) : State :=
    { t with seq := { t.seq with kind := .none, wait := .none } }.seqRefresh
  match s.seq.kind with
  | .none => s
  | .step =>
    if (s.pins.cascOut == .high || s.seq.short) && decide (s.seq.holdMin ≤ s.clk.core) then
      (idle { s with pins := { s.pins with courseHold := false } }).raise 353
    else s
  | .floor => (idle { s with pins := { s.pins with courseHold := false } }).setFld SEQ_STAT_DEV_COURSE 0
  | .linkFloor => ((idle s).setFld SEQ_STAT_DEV_COURSE 0).send 0x36 5 false []
  | .rejoin =>
    let t := idle { s with seq := { s.seq with out := false } }
    ((t.setFld SEQ_STAT_DEV_COURSE s.seq.rejoinTo).flagRaise SEQ_EV_REJOIN_EV 363).reportRejoin 0

/-- What follows from the actions left: marks passed, CASC_OUT raised, the run ended. -/
def State.settleStep (s : State) : State :=
  let t := (State.passMarks s.seq.todo s).raiseCasc
  if t.seq.todo.isEmpty && t.seq.wait == .none then t.endRun else t

/-- The action at the head has completed (R237). -/
def State.finishAction (s : State) : State :=
  ({ s with seq := { s.seq with todo := s.seq.todo.drop 1, wait := .none } }).settleStep

/-- The action at the head is one of an opcode and may start: nothing is waited for, and a cascaded action of a step has
seen CASC_IN high (R237, R244). -/
def State.nextAction (s : State) (op : Nat) : Option Action :=
  match s.seq.todo with
  | a :: _ =>
    if a.op = op && s.seq.wait == .none && s.seq.kind != .none && (s.seq.kind != .step || !a.cascaded || s.seq.cascSeen) then
      some a
    else none
  | [] => none

/-! ### Who takes part -/

/-- The device acts on the COURSE line (R24, R113, R239, R250): enumerated or solo, with no re-lay in progress, its clocks not
from the RC oscillator. -/
def State.onCourse (s : State) : Bool :=
  s.active && !s.relayInProgress && (!s.unaddressed || s.solo) && !s.clk.onRc

/-- The line is idle (R238), and every low on it since then has been a pulse in progress (R241). -/
def State.lineIdle (s : State) : Bool := reached s.seq.idleFrom s.clk.core

/-- The device recognises a step or a floor (R240 to R242, R248): on the line, not OUT, nothing running, from an idle line. -/
def State.stepsCourse (s : State) : Bool := s.onCourse && !s.seq.out && s.lineIdle && s.seq.kind == .none

/-- The margin M in force on a rail (R257). -/
def State.margin (s : State) (rail : Nat) : Int := s.sfld (SEQ_RAIL_MRG_M rail)

end Sys2Proof.Machine
end

