-- ==== Sys2Proof/Machine/Legs.lean ====
section
/-! DEFINITION. The edge generators of the bricks' legs and the GATE balls they drive (R158, R159, R176 to R182). Instants are EU
on the axis of CLK_CORE, 256 to a tick. Readings: log entry 25. -/
namespace Sys2Proof.Machine

/-! ### What the bond gives a brick -/

def State.role (s : State) (n : Nat) : Nat := s.fld (BRK_CFG_ROLE n)
def State.kind (s : State) (n : Nat) : Nat := s.fld (BRK_CFG_KIND n)
def State.leader (s : State) (n : Nat) : Nat := s.fld (BRK_CFG_LEADER n)
def State.brkState (s : State) (n : Nat) : Nat := s.fld (BRK_STAT_STATE n)
def State.period (s : State) (n : Nat) : Nat := s.fld (BRK_PERIOD_PERIOD n)
def State.updates (s : State) (n : Nat) : Nat := max (s.fld (BRK_CFG_UPDATES n)) 1
def State.dtRise (s : State) (n : Nat) : Nat := s.fld (BRK_DT_RISE_VALUE n)
def State.dtFall (s : State) (n : Nat) : Nat := s.fld (BRK_DT_FALL_VALUE n)
def State.cmdVal (s : State) (n : Nat) : Int := (s.reg (BRK_CMD n)).toInt
/-- Starting, Running or Stopping. -/
def switching (st : Nat) : Bool := st == brkStarting || st == brkRunning || st == brkStopping

/-- The start of CLK_CORE's present tick, and the end of it. -/
def State.euNow (s : State) : Int := 256 * s.clk.core
def State.euEnd (s : State) : Int := 256 * s.clk.core + 256

/-! ### Forms (Table — Leg forms, Table — Modulator equations) -/

inductive Form where
  | p | q | c | s
deriving DecidableEq, Repr

/-- Form, leg command and leg start of a leg (R176): `leg` is 0 for the leader and followers, PHASE_IDX of a secondary. -/
def legForm (kind leg : Nat) (c T : Int) (df δ : Int) : Form × Int × Int :=
  let h := T / 2
  let d := min δ h
  match kind with
  | 1 => (.p, c, 0)
  | 2 => (.q, c, 0)
  | 3 => if leg = 0 then (.p, min c (T - df), 0) else (.q, max (c - T + df) 0 + df, 0)
  | 4 => (.c, c, 0)
  | 5 => if leg = 0 then (.c, (T + c) / 2, 0) else (.c, (T - c) / 2, 0)
  | 6 => (.s, 0, if leg = 0 then 0 else c)
  | 7 => (.s, 0, [0, h, c, c + h].getD leg 0)
  | 8 => (.s, 0, [0, h - d, c, c + h - d].getD leg 0)
  | 9 => (.s, 0, [0, h - d, c, c + h].getD leg 0)
  | _ => (.s, 0, if leg = 0 then 0 else c / 2)

/-- What the equations ask of a leg now: form, period, leg command, the leg start they give, the dead times, the leg's fixed
offset from the leader's period start, that period start, and whether the period is the command (KIND 10). -/
structure LegPlan where
  form : Form
  T : Int
  p : Int
  target : Int
  dr : Int
  df : Int
  ofs : Int
  base : Int
  resonant : Bool
deriving DecidableEq, Repr

/-- The pulses of the leg period from `a` to `e`, in order. L of form C ends in the next one. -/
def LegPlan.pulses (w : LegPlan) (a e : Int) : List GatePulse :=
  let T := w.T
  match w.form with
  | .p => [⟨true, a + w.dr, a + w.p, false, false⟩, ⟨false, a + w.p + w.df, e, false, false⟩]
  | .q => [⟨false, a + w.df, a + w.p, false, false⟩, ⟨true, a + w.p + w.dr, e, false, false⟩]
  | .c => [⟨true, a + (T - w.p) / 2 + w.dr, a + (T + w.p) / 2, false, false⟩,
      ⟨false, a + (T + w.p) / 2 + w.df, a + T + (T - w.p) / 2, false, true⟩]
  | .s => [⟨true, a + w.dr, a + T / 2, false, false⟩, ⟨false, a + T / 2 + w.df, e, false, false⟩]

/-- Where the running leg period ends under the command in force (R178): under form S with the move of the leg start, within
T ÷ 16 unless the move is free of that limit (R365), under KIND 10 at the leg's start in the leader's period. -/
def LegPlan.due (w : LegPlan) (l : Leg) : Int :=
  match w.form with
  | .s =>
    if w.resonant then
      let next := w.base + (w.target + w.ofs) % max w.T 1
      if next ≤ l.began then next + w.T else next
    else l.began + w.T + (if l.jump then w.target - l.start else clampInt (-(w.T / 16)) (w.T / 16) (w.target - l.start))
  | _ => l.began + w.T

/-- L of form C that ends in the period from `a` on: its fall, and its rise while that has not been emitted, follow the
command in force. -/
def LegPlan.carry (w : LegPlan) (a u : Int) (q : GatePulse) : GatePulse :=
  { q with
    rise := if q.up then q.rise else max u (a + (w.T + w.p) / 2 + w.df - w.T)
    fall := max u (a + (w.T - w.p) / 2), carries := false }

/-- The leg's own period start: the period that ends is left, the next one laid out. -/
def LegPlan.roll (w : LegPlan) (l : Leg) : Leg :=
  let a := l.stop
  let m := { l with began := a, start := if w.resonant then w.target else l.start + (a - l.began - w.T), jump := false }
  let e := w.due m
  { m with
    stop := e
    pulses := l.pulses.map (fun q => if q.carries then w.carry a a q else q) ++ w.pulses a e }

/-- Move every edge not yet emitted at `u` to its new time, at `u` where that lies before it (R178). -/
def LegPlan.move (w : LegPlan) (u : Int) (l : Leg) : Leg :=
  let e := max u (w.due l)
  match w.form with
  | .s => { l with
      stop := e, pulses := l.pulses.map (fun q => if !q.high && q.fall == l.stop then { q with fall := e } else q) }
  | _ => { l with
      stop := e
      pulses := l.pulses.map (fun q =>
        if w.form = .c ∧ !q.high ∧ !q.carries then w.carry l.began u q
        else match (w.pulses l.began e).find? (fun x => x.high == q.high) with
          | some x => { q with rise := if q.up then q.rise else max u x.rise, fall := max u x.fall }
          | none => q) }

/-- The leg when its first command takes effect at `u` (R183): in the middle of its period under forms P, Q and C, waiting for
its own period start under form S. -/
def LegPlan.fresh (w : LegPlan) (u : Int) : Leg :=
  let T := max w.T 1
  let back := (u - w.base - w.ofs - (if w.form = .s ∧ !w.resonant then w.target else 0)) % T
  match w.form with
  | .s =>
    if w.resonant then
      let l := { Leg.idle with live := true, began := u - 1, start := w.target }
      { l with stop := w.due l }
    else
      let e := if back = 0 then u else u + w.T - back
      { Leg.idle with live := true, began := e - w.T, stop := e, start := w.target }
  | _ =>
    let a := u - back
    let e := a + w.T
    { Leg.idle with
      live := true, began := a, stop := e
      pulses := ((w.pulses a e).filter (fun q => decide (u < q.fall))).map (fun q => { q with rise := max u q.rise }) }

/-- A command takes effect on the leg at `u`. -/
def LegPlan.take (w : LegPlan) (u : Int) (l : Leg) : Leg :=
  let m := if !l.live then w.fresh u else if w.form ≠ .s ∧ l.stop ≤ u then l else w.move u l
  if m.stop ≤ u then w.roll m else m

/-! ### Emission (R179, R180) -/

/-- The rise of a pulse through the interlock (R179). -/
def LegPlan.rise (w : LegPlan) (l : Leg) (q : GatePulse) : Int :=
  max q.rise (if q.high then l.lastL + w.dr else l.lastH + w.df)

/-- What the next edge of a leg does: its instant, the leg after it, delayed rises and dropped pulses. -/
structure LegEvent where
  time : Int
  leg : Leg
  ilk : Nat
  drop : Nat
deriving DecidableEq, Repr

/-- One output of a leg set to a level. -/
def Leg.level (l : Leg) (high : Bool) : Bool := if high then l.hHigh else l.lHigh
def Leg.put (high v : Bool) (l : Leg) : Leg := if high then { l with hHigh := v } else { l with lHigh := v }

/-- A rise that is due (R179, R180): absorbed by an output that stayed high, dropped below the shortest width, or emitted. -/
def LegPlan.riseEvent (w : LegPlan) (l : Leg) (q : GatePulse) (rest : List GatePulse) : LegEvent :=
  let r := w.rise l q
  let ilk := if q.rise < r then 1 else 0
  if l.level q.high then ⟨q.rise, { l with pulses := { q with up := true } :: rest }, 0, 0⟩
  else if q.fall - r < 256 then ⟨min r q.fall, { l with pulses := rest }, ilk, 1⟩
  else ⟨r, { l.put q.high true with pulses := { q with rise := r, up := true } :: rest, rose := some r }, ilk, 0⟩

/-- A fall that is due: where the other output's next pulse is too short, that pulse is dropped and the output stays high
(R180). -/
def LegPlan.fallEvent (w : LegPlan) (l : Leg) (q x : GatePulse) (rest : List GatePulse) : LegEvent :=
  let fallen : Leg := if q.high then { l.put true false with lastH := q.fall } else { l.put false false with lastL := q.fall }
  let r := w.rise fallen x
  if x.fall - r < 256 then ⟨q.fall, { l with pulses := rest }, if x.rise < r then 1 else 0, 1⟩
  else ⟨q.fall, { fallen with pulses := x :: rest }, 0, 0⟩

/-- The next edge of a leg; none before the pulse after it is known. -/
def LegPlan.event (w : LegPlan) (l : Leg) : Option LegEvent :=
  match l.pulses with
  | [] => none
  | q :: rest =>
    if !q.up then some (w.riseEvent l q rest)
    else match rest with
      | [] => none
      | x :: more => some (w.fallEvent l q x more)

/-- The edges and own period starts of a leg before `lim`. -/
def LegPlan.run (w : LegPlan) (lim : Int) : Nat → Leg → Leg × Nat × Nat
  | 0, l => (l, 0, 0)
  | k + 1, l =>
    let rolled := if l.stop < lim then w.run lim k (w.roll l) else (l, 0, 0)
    match w.event l with
    | none => rolled
    | some e =>
      if e.time < min lim l.stop then
        let r := w.run lim k e.leg
        (r.1, r.2.1 + e.ilk, r.2.2 + e.drop)
      else rolled

/-- Count delayed rises and dropped pulses (R179, R180, R484). -/
def State.legEvents (n ilk drop : Nat) (s : State) : State :=
  let times (k : Nat) (f : State → State) (t : State) : State := forEach (List.range k) (fun _ u => f u) t
  let t := times ilk (fun t => (t.bump (BRK_CNT_ILK_CNT n)).flagRaise (BRK_STAT_ILK_EV n) (brkSrc n 5)) s
  times drop (fun t => (t.bump (BRK_CNT_DROP_CNT n)).flagRaise (BRK_STAT_DROP_EV n) (brkSrc n 3)) t

/-- The leg number of a brick under its leader's KIND: PHASE_IDX of a secondary. -/
def State.legNo (s : State) (m : Nat) : Nat := if s.role m = 3 then s.fld (BRK_CFG_PHASE_IDX m) else 0

/-- What the equations ask of brick `m`'s leg under the commands in force. A follower's own period start stands in for its
offset (R158). -/
def State.legPlan (s : State) (m : Nat) : LegPlan :=
  let ld := s.leader m
  let kind := s.kind ld
  let T : Int := s.period ld
  let own := s.role m == 2
  let f := legForm kind (s.legNo m) (s.cmdVal (if own then m else ld)) T (s.dtFall m) (s.fld (BRK_INNER_INNER ld))
  ⟨f.1, T, f.2.1, f.2.2, s.dtRise m, s.dtFall m, if own then 0 else s.fld (BRK_PHASE_OFS_VALUE m),
    (s.brick (if own then m else ld)).perAt, kind == 10⟩

/-- The edges of brick `m` before `lim`; none while CLK_EDGE stops (R64). -/
def State.runLeg (lim : Int) (m : Nat) (s : State) : State :=
  let l := (s.brick m).leg
  if l.live && !s.clk.onRc then
    let r := (s.legPlan m).run lim 16 l
    (s.updBrick m (fun b => { b with leg := r.1 })).legEvents m r.2.1 r.2.2
  else s

/-- An upset left `k` EU in the time of the leg's next edge (R190, R191). -/
def Leg.nudge (u k : Int) (l : Leg) : Leg :=
  match l.pulses with
  | [] => l
  | q :: r =>
    if k = 0 then l
    else { l with pulses := (if q.up then { q with fall := max u (q.fall + k) } else { q with rise := max u (q.rise + k) }) :: r }

/-- A command takes effect on brick `m`'s leg at `u`; no leg is driven while CLK_EDGE stops (R64). -/
def State.takeLeg (u : Int) (m : Nat) (s : State) : State :=
  let w := s.legPlan m
  if s.clk.onRc then s
  else s.updBrick m (fun b => { b with leg := (w.take u b.leg).nudge u b.edgeErr, edgeErr := 0 })

/-- An own period start of a leg at `u` with the command in force, during a hold (R194). -/
def State.rollLeg (u : Int) (m : Nat) (s : State) : State :=
  let w := s.legPlan m
  s.updBrick m (fun b => { b with leg := if b.leg.live && decide (b.leg.stop ≤ u) then w.roll b.leg else b.leg })

/-- The edges of CLK_CORE's present tick, up to the update instant that can still move them. -/
def State.emitEdges (s : State) : State :=
  forEach ((List.range 16).filter (fun m => s.role m != 0 && switching (s.brkState m))) (fun m t =>
    t.runLeg (min t.euEnd (t.brick (if t.role m = 2 then m else t.leader m)).nextAt) m) s

/-! ### The period counter and the update instants (R158, R159) -/

/-- A converter starts now: the leader's counter starts at 0, its own start is that of each follower's plus PHASE_OFS; with
UPDATES = 2 and an offset of half a period or more a follower's first instant is a half-period one. -/
def State.startClock (ld m : Nat) (s : State) : State :=
  let t0 := s.euNow
  let T : Int := s.period ld
  let o : Int := if s.role m = 2 then s.fld (BRK_PHASE_OFS_VALUE m) else 0
  if s.updates ld = 2 ∧ 0 ≤ o - T + T / 2 then
    s.updBrick m (fun b => { b with perAt := t0 + o - T, nextAt := t0 + o - T + T / 2, second := true })
  else s.updBrick m (fun b => { b with perAt := t0 + o, nextAt := t0 + o, second := false })

/-- Brick `m` passes its update instant: the next one, half a period on or at its next period start. -/
def State.passInstant (ld m : Nat) (s : State) : State :=
  let T : Int := s.period ld
  s.updBrick m (fun b =>
    if b.second then { b with nextAt := b.perAt + T, second := false }
    else if s.updates ld = 2 then { b with perAt := b.nextAt, nextAt := b.nextAt + T / 2, second := true }
    else { b with perAt := b.nextAt, nextAt := b.nextAt + T })

/-- The present update instant of brick `n` is its period start. -/
def State.atPeriodStart (s : State) (n : Nat) : Bool := !(s.brick n).second

/-- An update instant of brick `n` lies in CLK_CORE's present tick, or has passed. -/
def State.instantDue (s : State) (n : Nat) : Bool := decide ((s.brick n).nextAt < s.euEnd)

/-! ### GATE balls (R16, R48, R182) -/

/-- The level of GATE_g: released without a route, else what the all-off or the state of its brick makes of it. -/
def State.gateBall (s : State) (g : Nat) : Ball :=
  let route := s.t8 4 0 g 0
  let n := route % 32 / 2
  if route < 128 then .released
  else match s.pins.gates with
    | .high =>
      let st := s.brkState n
      if st = brkUnassigned then .released
      else if switching st && (s.brick n).leg.level (route % 2 == 0) then .high
      else .low
    | b => b

end Sys2Proof.Machine
end

