-- ==== Sys2Proof/Machine/Brick.lean ====
section
/-! DEFINITION. A brick's arithmetic and its update instant (chapter Bricks; averaging, slow limit, fold-back and ramps of chapter Lanes, limits and soft start). Readings: log entry 25. -/
namespace Sys2Proof.Machine

/-! ### Number formats (R171) -/

def sat16 (x : Int) : Int := clampInt (-32768) 32767 x
def sat24 (x : Int) : Int := clampInt (-8388608) 8388607 x
/-- An addition of the 48-bit accumulator. -/
def accAdd (a b : Int) : Int := clampInt (-(2 ^ 47 - 1)) (2 ^ 47 - 1) (a + b)
/-- A product with 20 fraction bits rounded, halves towards +∞ (R172). -/
def rnd20 (x : Int) : Int := (x + 2 ^ 19) / 2 ^ 20
/-- `n ÷ d` rounded up. -/
def ceilDiv (n d : Nat) : Nat := (n + d - 1) / d

/-! ### What the bond gives a brick -/

/-- PERIOD of the tile, the longest period under KIND 10. -/
def State.tilePeriod (s : State) (n : Nat) : Nat := s.t32 3 n 4 1
def State.followers (s : State) (ld : Nat) : List Nat := (s.members ld).filter (fun m => s.role m == 2)
/-- Coefficient `i` (0 to 8: B0 to B3, A1 to A3, KFF, KBST), CMD_MIN and CMD_MAX in force. -/
def State.coef (s : State) (n i : Nat) : Int := s.sfld (BRK_COMP_COEF n i)
def State.cmdMin (s : State) (n : Nat) : Int := s.sfld (BRK_COMP_CMD_MIN_LIMIT n)
def State.cmdMax (s : State) (n : Nat) : Int := s.sfld (BRK_COMP_CMD_MAX_LIMIT n)
def State.setRef (n : Nat) (v : Int) (s : State) : State := s.setReg (BRK_REF n) (BitVec.ofInt 32 v)
def State.setCmd (n : Nat) (v : Int) (s : State) : State := s.setReg (BRK_CMD n) (BitVec.ofInt 32 v)
def State.target (s : State) (n : Nat) : Int := s.sfld (BRK_TARGET_TARGET n)

/-- The limits lo and hi of a leader: CMD_MIN to CMD_MAX within the mode range (R173). -/
def State.cmdLimits (s : State) (n : Nat) : Int × Int :=
  let mr := modeRange (s.kind n) (s.tilePeriod n) (s.t32 3 n 8 1) (s.dtRise n) (s.dtFall n)
  (max (s.cmdMin n) mr.1, min (s.cmdMax n) mr.2)

/-! ### Samples (R162) -/

/-- The newest sample of a channel triggered up to now, converted or not: trigger number and value. -/
def State.newestSample (s : State) (ch : Nat) : Option (Nat × Int) :=
  match ((s.msr.pipe.getD (ch / 12) []).filter (fun f => decide (f.conv = .sense ch))).getLast? with
  | some f => some (f.trig, f.value)
  | none =>
    match s.msr.last.find? (fun p => decide (p.1 = ch)) with
    | some (_, t, v, _) => some (t, v)
    | none => none

/-- The newest completed sample (the recovery update, R194). -/
def State.completedSample (s : State) (ch : Nat) : Option (Nat × Int) :=
  match s.msr.last.find? (fun p => decide (p.1 = ch)) with
  | some (_, t, v, _) => some (t, v)
  | none => none

/-- The regulated feedback channel of a leader. -/
def State.feedbackCh (s : State) (n : Nat) : Option Nat := s.fbChannel n (s.fld (BRK_STAT_LOOP n))

/-! ### The compensator (R172) -/

/-- What one pass of the recursion gives: y0, v, c, frozen, boost, and the histories after it. -/
structure CompOut where
  y0 : Int
  v : Int
  c : Int
  frozen : Bool
  bst : Int
  hist : Brick
deriving DecidableEq, Repr

/-- What upsets add to one result. -/
def errAt (ups : List Upset) (p : LaneResult) : Int := ((ups.filter (fun u => u.place == p)).map Upset.error).foldl (· + ·) 0

/-- A value as a register of 24 bits holds it. -/
def wrap24 (x : Int) : Int := (BitVec.ofInt 24 x).toInt

/-- A result of 24 bits with the error an upset left in it. -/
def upset24 (ups : List Upset) (p : LaneResult) (x : Int) : Int := if errAt ups p = 0 then x else wrap24 (x + errAt ups p)

/-- R172 for error `e0`, feed-forward `ff` and boost `bst`, between `lo` and `hi`, with coefficients `k`, under upsets. -/
def compensate (k : Nat → Int) (b : Brick) (ups : List Upset) (e0 ff bst lo hi : Int) : CompOut :=
  let acc := accAdd (accAdd (accAdd (accAdd (accAdd (accAdd (accAdd 0 (k 0 * e0)) (k 1 * b.e1)) (k 2 * b.e2)) (k 3 * b.e3))
    (k 4 * b.y1)) (k 5 * b.y2)) (k 6 * b.y3) + errAt ups .acc
  let y0 := upset24 ups .y0 (sat24 (rnd20 acc))
  let v := y0 + bst + ff + errAt ups .v
  let c := upset24 ups .c (min (max v lo) hi)
  let frozen := (decide (hi < v) && decide (b.y1 < y0)) || (decide (v < lo) && decide (y0 < b.y1))
  ⟨y0, v, c, frozen, bst,
    if frozen then b else { b with e3 := b.e2, e2 := b.e1, e1 := e0, y3 := b.y2, y2 := b.y1, y1 := y0 }⟩

/-- The boost term (R172). -/
def boostTerm (kbst thr e0 : Int) : Int :=
  if thr < e0.natAbs then (if e0 < 0 then -1 else 1) * rnd20 (kbst * (e0.natAbs - thr)) else 0

/-! ### Excitation (R324) -/

/-- 2π in units of 2⁻⁸⁰. -/
def twoPi80 : Nat := 7595904947272677161575987

/-- Taylor terms of the sine of `x` in 2⁻⁸⁰, alternating: `t` is the last term, `k` its order. -/
def sinTerms (x : Int) : Nat → Nat → Int → Int
  | 0, _, _ => 0
  | fuel + 1, k, t => t + sinTerms x fuel (k + 2) (-(t * x / 2 ^ 80 * x / 2 ^ 80) / ((k + 1) * (k + 2)))

/-- The sine of `num ÷ den` turns, in 2⁻⁸⁰; `den` is even. -/
def sinTurns (num den : Nat) : Int :=
  let r := num % den
  let quarter (m : Nat) : Int := let x : Int := ((twoPi80 * m / den : Nat) : Int); sinTerms x 20 1 x
  if 4 * r ≤ den then quarter r
  else if 2 * r ≤ den then quarter (den / 2 - r)
  else if 4 * r ≤ 3 * den then -quarter (r - den / 2)
  else -quarter (den - r)

/-- Twice ten times F_j: the table of frequencies in 0.1 Hz (R319). -/
def freqTenths (j : Nat) : Nat :=
  [1, 2, 5, 10, 20, 50, 100, 200, 500, 1000, 2000, 4000, 5000, 8000, 10000, 20000].getD j 1

/-- W_j in ms (R319). -/
def windowMs (j : Nat) : Nat := 160000 / freqTenths j

/-- Numerator of f · (t − a) in turns, over `160000 · 2²⁸`, for slot `sl` and a start at `a` ms (R320). -/
def phaseNum (j sl a t : Nat) : Nat := freqTenths j * (16 + sl) * (t * 1000 - a * 2 ^ 28)
def phaseDen : Nat := 160000 * 2 ^ 28

/-- The excitation point x of leader `n` now: 0 outside an active window on it (R324, R325). -/
def State.excitePoint (s : State) (n : Nat) : Int :=
  match s.cel.window with
  | none => 0
  | some w =>
    if w.active && s.excBrick == n && decide (w.amp ≠ 0) && decide (w.a * 2 ^ 28 ≤ s.nowU * 1000) &&
        decide (s.nowU * 1000 ≤ (w.a + 2 * windowMs w.j) * 2 ^ 28) then
      let y : Int := w.amp * sinTurns (phaseNum w.j w.slot w.a s.nowU) phaseDen
      let m : Int := ((y.natAbs + 2 ^ 79 + 2 ^ 30) / 2 ^ 80 : Nat)
      if y < 0 then -m else m
    else 0

/-- A change of tgt or a fold-back on the exciting leader disturbs an active window (R328). -/
def State.disturbExciter (n : Nat) (s : State) : State :=
  match s.cel.window with
  | none => s
  | some w => if w.active && s.excBrick == n then s.disturb else s

/-- Whether the excitation of a window on `n` has to stop: the leader is not Running, regulates voltage or is held (R325). -/
def State.stopExcite (n : Nat) (s : State) : State :=
  match s.cel.window with
  | none => s
  | some w =>
    if w.active && s.excBrick == n && (s.brkState n != brkRunning || !s.flag (BRK_STAT_LOOP n) || s.flag (BRK_LANE_STAT_HOLD n)) then
      { s with cel := { s.cel with window := some { w with amp := 0, disturbed := 1 } } }
    else s

/-! ### Limits (R207 to R209) -/

/-- SLOW_WIN in µs and the slow threshold in force (R208, R215, R310). -/
def State.slowWin (s : State) (n : Nat) : Nat := bitsOf (s.brick n).slowIn.toNat 16 14
def State.slowThr (s : State) (n : Nat) : Nat := bitsOf (s.brick n).slowIn.toNat 0 15 * (16 - s.fld THM_STAT_K) / 16

/-- The samples of the averaging window: completed ones and those in the pipeline (R207). -/
def State.windowSamples (s : State) (n ch : Nat) : List Int :=
  let win := s.slowWin n * coreUs
  let b := s.brick n
  let inside (t : Nat) : Bool := decide (s.clk.core ≤ t + win) && decide (b.avgFrom ≤ t)
  (b.window.filter (fun p => inside p.1)).map Prod.snd ++
    ((s.msr.pipe.getD (ch / 12) []).filter (fun f => decide (f.conv = .sense ch) && inside f.tick)).map InFlight.value

/-- The average a of a leader or follower (R207). -/
def State.average (s : State) (n : Nat) : Nat :=
  match s.currentCh n with
  | none => 0
  | some ch =>
    let l := s.windowSamples n ch
    if l.isEmpty then ((s.newestSample ch).map (fun p => p.2.natAbs)).getD 0
    else (Int.fdiv (l.foldl (· + ·) 0) l.length).natAbs

/-- A finding of the slow limit: code and payload naming the brick. -/
def brickPayload (n : Nat) : List Byte := leBytes 1 n

/-- The average and the I²t accumulator of one update instant (R207, R208); the answer says whether Q reached its limit. -/
def State.slowLimit (n : Nat) (s : State) : State × Bool :=
  let a := s.average n
  let t := s.setFld (BRK_LIM_AVG_AVG n) a
  let t := t.updBrick n (fun b => { b with
    slowS := s.slowThr n
    window := b.window.filter (fun p => decide (s.clk.core ≤ p.1 + s.slowWin n * coreUs)) })
  if (s.currentCh n).isNone then (t, false)
  else
    let sl := s.slowThr n
    let u := s.period n / s.updates n
    let q : Nat := s.fld (BRK_I2T_Q n) * 2 ^ 32 + (s.brick n).qFrac
    let d : Int := ((a : Int) * a - (sl : Int) * sl) * (u : Int)
    let q' : Nat := ((q : Int) + d).toNat
    let t := (t.setFld (BRK_I2T_Q n) (min (q' / 2 ^ 32) (2 ^ 32 - 1))).updBrick n (fun b => { b with qFrac := q' % 2 ^ 32 })
    (t, decide ((s.brick n).i2tIn.toNat ≤ q' / 2 ^ 32))

/-- The slow-limit fault (R208, R214). -/
def State.slowFault (n : Nat) (s : State) : State :=
  ((s.setFld (BRK_LIM_STAT_I2T_TRIP n) 1).raise (brkSrc n 15)).brickOff n 0x0230 (brickPayload n)

/-- The brick of a converter with the largest a ÷ s among those with a > s, each as of its own last update instant (R209,
R310). -/
def State.worst (s : State) (ld : Nat) : Option (Nat × Nat) :=
  (ld :: s.followers ld).foldl (fun acc m =>
    let a := s.fld (BRK_LIM_AVG_AVG m)
    let sl := (s.brick m).slowS
    if sl < a && (s.currentCh m).isSome then
      match acc with
      | some (a2, s2) => if a2 * sl < a * s2 then some (a, sl) else acc
      | none => some (a, sl)
    else acc) none

/-! ### The lanes' copies (R189, R192) -/

/-- The words of a coefficient store as the values in force give them, in the order of R192. -/
def State.storeWords (s : State) (n : Nat) : List Word :=
  let b := s.brick n
  let nat (k : Nat) : Word := BitVec.ofNat 32 k
  (List.range 9).map (fun i => s.reg (BRK_COMP n i)) ++
    [s.reg (BRK_COMP_BST_THR n), s.reg (BRK_COMP_CMD_MIN n), s.reg (BRK_COMP_CMD_MAX n), nat (s.tilePeriod n),
      nat (s.t32 3 n 8 1), s.reg (BRK_DT_RISE n), s.reg (BRK_DT_FALL n), s.reg (BRK_PHASE_OFS n),
      nat (bitsOf b.fastIn.toNat 0 10), nat (bitsOf b.fastIn.toNat 16 9), nat (bitsOf b.slowIn.toNat 0 15),
      nat (bitsOf b.slowIn.toNat 16 14), b.i2tIn]

/-- The check value over a store: the CRC-32 of R140 over its words in order, each from its lowest byte. -/
def storeCheck (l : List Word) : Word := crc32 ((l.map (fun w => leBytes 4 w.toNat)).flatten)

/-- Both lanes' stores take the values in force, with their check value (R133, R184, R192). -/
def State.loadStores (n : Nat) (s : State) : State :=
  let l := s.storeWords n
  let k := storeCheck l
  s.updBrick n (fun b => { b with
    copyA := { b.copyA with store := l, check := k }, copyB := { b.copyB with store := l, check := k } })

/-- The limits written take force (R215). -/
def State.takeLimits (n : Nat) (s : State) : State :=
  let b := s.brick n
  let f := s.reg (BRK_FAST n)
  let w := s.reg (BRK_SLOW n)
  let i := s.reg (BRK_I2T_LIMIT n)
  if b.fastIn = f ∧ b.slowIn = w ∧ b.i2tIn = i then s
  else (s.updBrick n (fun b => { b with fastIn := f, slowIn := w, i2tIn := i })).loadStores n

/-! ### Coefficients (R184, R185) -/

/-- A staging write (R184); one after a commit that waits for its instant is copied with it, its limits not judged again (DEDUCED:
log entry 25). -/
def State.stage (n a : Nat) (w : Word) (s : State) : State :=
  let t := s.updBrick n (fun b => { b with staged := putPair b.staged a w })
  if w = s.reg a then t else t.setFld (BRK_STAT_STAGED n) 1

/-- Copy every staging value into force, in both lanes; one written after the commit too (R185; DEDUCED: log entry 25). -/
def State.applyStaged (n : Nat) (s : State) : State :=
  let comp (p : Nat × Word) : Bool := decide (BRK_COMP n 0 ≤ p.1) && decide (p.1 ≤ BRK_COMP_CMD_MAX n) && decide (p.1 % 4 = 0)
  let t := forEach ((s.brick n).staged.filter comp) (fun p t => t.setReg p.1 p.2) s
  ((t.updBrick n (fun b => { b with staged := [], commit := false })).setFld (BRK_STAT_STAGED n) 0).loadStores n

/-- Whether the staged limits keep R173 (leader) or R175 (follower). -/
def State.stagedOk (s : State) (n : Nat) : Bool :=
  let lim (a : Nat) : Int := (BitVec.ofNat 24 (lookupD (s.brick n).staged a (s.reg a)).toNat).toInt
  let lo := lim (BRK_COMP_CMD_MIN n)
  let hi := lim (BRK_COMP_CMD_MAX n)
  let T : Int := s.tilePeriod n
  let mr := modeRange (s.kind n) T (s.t32 3 n 8 1) (s.dtRise n) (s.dtFall n)
  decide (lo < hi) && (if s.role n = 1 then decide (mr.1 ≤ lo) && decide (hi ≤ mr.2)
    else decide (lo ≤ 0) && decide (0 ≤ hi) && decide (-(T / 4) ≤ lo) && decide (hi ≤ T / 4))

/-- A write of COEF_COMMIT = 1 (R184, R185, R197); a Halted brick has no update instant to come, and copies at once as a stopped one
does (DEDUCED: log entry 25). -/
def State.commitCoefs (n : Nat) (s : State) : State :=
  if !s.stagedOk n then s.cfgErr (0x100038 + 0x1000 * n) 0
  else if switching (s.brkState n) then s.updBrick n (fun b => { b with commit := true })
  else s.applyStaged n

/-! ### Starting and stopping (R183, R210, R211) -/

/-- Update instants of a ramp of `arg` µs on leader `n`: N of R210. -/
def State.rampSteps (s : State) (n arg : Nat) : Nat :=
  max 1 (61440 * arg / max (s.tilePeriod n / s.updates n) 1)

/-- The effective target tgt (R164). -/
def State.effTarget (s : State) (n : Nat) : Int :=
  if s.flag (BRK_STAT_LOOP n) then s.target n else sat16 (roundDiv (s.target n * (1000 + s.margin n)) 1000)

/-- STATE of rail `n` in SEQ_RAIL_n_STAT. -/
def State.setRail (n st : Nat) (s : State) : State := s.setFld (SEQ_RAIL_STAT_STATE n) st

/-- A leader passes from Stopped to Starting (R183, R210) with its followers and secondaries, but for those that have no lane
left (R202). -/
def State.startBrick (n arg : Nat) (s : State) : State :=
  let ri : Int := s.ts16 3 n 0x42 0
  let s := s.setFld (BRK_STAT_LOOP n) (s.fld (BRK_TARGET_LOOP n))
  let lim := s.cmdLimits n
  let c0 := min (max 0 lim.1) lim.2
  let step := ceilDiv (256 * (s.effTarget n - ri).natAbs) (s.rampSteps n arg)
  let s := (s.setRef n (256 * ri)).setFld (BRK_SS_SS_STEP n) step
  let s := s.setFld (BRK_LIM_AVG_SLEW_TGT n) (encodeInt 16 (s.effTarget n))
  let s := forEach ((s.members n).filter (fun m => !(laneRetired s m .a && laneRetired s m .b))) (fun m t =>
    let t := t.dropInjection m
    let t := t.updBrick m (fun b => { b with
      e1 := 0, e2 := 0, e3 := 0, y1 := 0, y2 := 0, y3 := 0, trim := 0, pass := none, edgeErr := 0, next := 0, updates := 0
      qFrac := 0, inBand := 0, loopNext := none, usedTrig := none, runSince := none, slowS := t.slowThr m, leg := Leg.idle })
    let t := t.setFld (BRK_LIM_STAT_FOLD m) 0
    let t := onlyIf (t.kind n == 10 && t.role m != 2) (State.setFld · (BRK_PERIOD_PERIOD m) (t.tilePeriod n)) t
    ((((t.setCmd m c0).setReg (BRK_I2T m) 0).startClock n m).syncLanes m).setBrkState m brkStarting) s
  (s.setRail n 1).setOn n true

/-- A leader passes to Stopping (R211); its records fail (R227), UV is disarmed (R252), a window on it is disturbed (R325). -/
def State.stopBrick (n arg : Nat) (s : State) : State :=
  let s := onlyIf (s.chgMode == 0 && s.chgBrick == n) (State.endSession 7) (s.failRecs n 2)
  let step := ceilDiv (s.refVal n).natAbs (s.rampSteps n arg)
  let s := s.setFld (BRK_SS_SS_STEP n) step
  let s := forEach ((s.members n).filter (fun m => switching (s.brkState m))) (fun m t => (t.setBrkState m brkStopping).updBrick m (fun b => { b with runSince := none })) s
  (((s.syncLanes n).stopExcite n).setRail n 3).setFld (SEQ_RAIL_STAT_UV_ARM n) 0

/-- ref has reached 0 while Stopping (R211): the brick, its followers and secondaries are Stopped, LOOP takes force (R168),
the rail is off, and a RAIL_OFF that waits for it completes. A settle timer under way runs on (R170). -/
def State.brickStopped (n : Nat) (s : State) : State :=
  let s := forEach ((s.members n).filter (fun m => switching (s.brkState m))) (fun m t =>
    let t := (t.setBrkState m brkStopped).setReg (BRK_SS m) 0
    let t := (t.setFld (BRK_LIM_STAT_FOLD m) 0).updBrick m (fun b => { b with loopNext := none, leg := Leg.idle })
    let t := t.syncLanes m
    (onlyIf (t.brick m).commit (State.applyStaged m) t).takeLimits m) s
  let s := (s.setFld (BRK_STAT_LOOP n) (s.fld (BRK_TARGET_LOOP n))).setFld (BRK_LIM_AVG_SLEW_TGT n) 0
  let s := (s.railDown n).leaderOff n
  if s.seq.wait = .railOff n then s.finishAction else s

/-! ### The update instant -/

/-- The records of R227 as target writes take effect with source `src`. -/
def State.recordsEffect (n src : Nat) (s : State) : State :=
  let ws := (s.vcp.waiting.filter (fun p => decide (p.1 = n))).map Prod.snd
  let win := if src = 1 then ws.getLast? else none
  let lose := (s.pendingRecs n).filter (fun q => some q != win)
  let t := forEach lose (fun q t => t.decideRec n q ansSuperseded src) s
  { t with vcp := { t.vcp with
    waiting := t.vcp.waiting.filter (fun p => !decide (p.1 = n))
    inForce := match win with
      | some q => putPair t.vcp.inForce n q
      | none => dropPair t.vcp.inForce n } }

/-- The detector's decision (R169, R170): SETTLED or SETTLE_FAIL, its source, the record in force decided. -/
def State.settleDecide (n : Nat) (ok : Bool) (s : State) : State :=
  let t := s.updBrick n (fun b => { b with decided := true, settleAt := none })
  let t := if ok then (t.setFld (BRK_STAT_SETTLED n) 1).raise (brkSrc n 0)
    else (t.setFld (BRK_STAT_SETTLE_FAIL n) 1).raise (brkSrc n 1)
  forEach ((t.pendingRecs n).filter (fun q => !t.vcp.waiting.contains (n, q)))
    (fun q t => if ok then t.decideRec n q ansSettled 0 else t.decideRec n q ansFailed 1) t

/-- The removal detector (R365), on the samples of the last two accepted triggers; `before` is the state before this one. -/
def State.removed (n : Nat) (before s : State) : Bool :=
  if s.sessionOpen && s.chgMode == 0 && s.chgBrick == n && s.trigSrc == n + 1 && s.msr.trigs == before.msr.trigs + 1 &&
      decide (s.msr.trigAt ≤ before.msr.trigAt + 300) && before.msr.trigs != 0 then
    let pair (w : Nat) : Option (Int × Int) :=
      match s.fbChannel n w with
      | none => none
      | some ch =>
        match before.newestSample ch, s.newestSample ch with
        | some (t1, v1), some (t2, v2) => if t2 = t1 + 1 ∧ t2 = s.msr.trigs then some (v1, v2) else none
        | _, _ => none
    let g : Int := s.meterIGain
    let r : Int := s.capacity * 1000 * 65536
    let byI := match pair 1 with
      | some (i1, i2) => s.flag (BRK_STAT_LOOP n) && decide (r < s.effTarget n * g * 10) && decide (r ≤ i1 * g * 10) && decide (i2 * g * 50 < r)
      | none => false
    let byV := match pair 0 with
      | some (v1, v2) => decide (v1.natAbs * (s.msr.trigAt - before.msr.trigAt) < (v2 - v1).natAbs * 1200)
      | none => false
    byI || byV
  else false

/-- What a detected removal does at the update instant `u` (R365). -/
def State.removal (n : Nat) (u : Int) (s : State) : State :=
  let s := (s.setRef n 0).putTarget n true 0 2
  let s := s.setFld (BRK_STAT_LOOP n) 1
  let s := forEach (s.members n) (fun m t =>
    (t.setCmd m 0).updBrick m (fun b => { b with
      e1 := 0, e2 := 0, e3 := 0, y1 := 0, y2 := 0, y3 := 0, pass := none, next := 0, leg := { b.leg with jump := true } })) s
  let s := forEach ((s.members n).filter (fun m => (s.brick m).leg.live)) (State.takeLeg u) s
  ((s.endSession 5).flagRaise CPM_CHG_STAT_REMOVE_EV 580).sheet 0x0920 (leBytes 1 n)

/-- SAT_HI, SAT_LO and FROZEN of an update instant; source k = 2 at a rise (R174, R188). -/
def State.saturation (n : Nat) (hi lo frozen : Bool) (s : State) : State :=
  let rose := (hi && !s.flag (BRK_STAT_SAT_HI n)) || (lo && !s.flag (BRK_STAT_SAT_LO n))
  let t := ((s.setFlag (BRK_STAT_SAT_HI n) hi).setFlag (BRK_STAT_SAT_LO n) lo).setFlag (BRK_STAT_FROZEN n) frozen
  onlyIf rose (State.raise (brkSrc n 2)) t

/-- One pass of the recursion of R172 with a follower's error `e0`, from the histories of `b` (R175). -/
def State.followerPass (s : State) (n : Nat) (b : Brick) (ups : List Upset) (e0 : Int) : CompOut :=
  compensate (s.coef n) b ups e0 0 0 (s.cmdMin n) (s.cmdMax n)

/-- The record of a pass with error `e0`; the brick before it. -/
def Brick.passOf (e0 : Int) (b : Brick) : TrimPass := ⟨e0, b.e1, b.e2, b.e3, b.y1, b.y2, b.y3, b.trim⟩
def Brick.before (p : TrimPass) (b : Brick) : Brick :=
  { b with e1 := p.e1, e2 := p.e2, e3 := p.e3, y1 := p.y1, y2 := p.y2, y3 := p.y3, trim := p.trim }

/-- The pass that no own update instant has taken up yet is discarded (R194). -/
def Brick.undoPass (b : Brick) : Brick :=
  match b.pass with
  | some p => { b.before p with pass := none }
  | none => b

/-- Share trims at a leader's update instant (R175): one pass of the recursion for each follower in `who`. Before every phase
current has a first sample the trims stand (DESIGN CHOICE: log entry 25). -/
def State.trims (n : Nat) (sample : State → Nat → Option (Nat × Int)) (who : List Nat) (s : State) : State :=
  let fs := s.followers n
  let vals := (n :: fs).map (fun m => match s.currentCh m with | some ch => sample s ch | none => none)
  if (n :: fs).any (fun m => (s.currentCh m).isNone) then
    forEach fs (fun m t => t.updBrick m (fun b => { b with trim := 0, pass := none, e1 := 0, e2 := 0, e3 := 0, y1 := 0, y2 := 0, y3 := 0 })) s
  else if vals.any Option.isNone then s
  else
    let vs := vals.map (fun v => (v.getD (0, 0)).2)
    let mean := Int.fdiv (vs.foldl (· + ·) 0) vs.length
    forEach ((fs.zip (vs.drop 1)).filter (fun p => who.contains p.1)) (fun p t =>
      let m := p.1
      if t.flag (BRK_LANE_STAT_HOLD m) then t else
      let e0 := sat16 (mean - p.2)
      let r := t.followerPass m (t.brick m) [] e0
      let t := t.setBrick m { r.hist with trim := r.c, pass := some ((t.brick m).passOf e0) }
      let t := (t.setFld (BRK_FB_FB m) (encodeInt 16 p.2)).setFld (BRK_FB_ERR m) (encodeInt 16 e0)
      (t.saturation m (decide (t.cmdMax m < r.v)) (decide (r.v < t.cmdMin m)) r.frozen).syncLanes m) s

/-- A LOOP that differs, written while the leader started or ran, takes force at this instant, a stop begun meanwhile or not
(R168): ref starts from the sample of the new channel. -/
def State.switchLoop (n : Nat) (sample : State → Nat → Option (Nat × Int)) (s : State) : State :=
  match (s.brick n).loopNext with
  | none => s
  | some loop =>
    let t := s.updBrick n (fun b => { b with loopNext := none })
    if loop = s.flag (BRK_STAT_LOOP n) then t
    else
      let t := (t.setFlag (BRK_STAT_LOOP n) loop).updBrick n (fun b => { b with e1 := 0, e2 := 0, e3 := 0 })
      match (t.feedbackCh n).bind (sample t) with
      | some (_, f) => t.setRef n (256 * f)
      | none => t

/-- The sample of this instant, new or used again (R162). With no triggered sample at all yet the spec is silent: the old FB stands,
and the instant counts as a reuse (DESIGN CHOICE: log entry 25). -/
def State.takeSample (n : Nat) (sample : State → Nat → Option (Nat × Int)) (s : State) : State :=
  let smp := (s.feedbackCh n).bind (sample s)
  let reused := match smp with
    | some (t, _) => (s.brick n).usedTrig == some t
    | none => true
  let s := if reused then (s.bump (BRK_CNT_STALE_CNT n)).flagRaise (BRK_STAT_STALE_EV n) (brkSrc n 4) else s
  match smp with
  | some (t, v) => (s.setFld (BRK_FB_FB n) (encodeInt 16 v)).updBrick n (fun b => { b with usedTrig := some t })
  | none => s

/-- The target writes and margin changes that take effect at this instant (R166, R167, R169): the records with f of this
instant (R227), the detector's restart, in Stopping too. -/
def State.takeTarget (n : Nat) (s : State) : State :=
  let b := s.brick n
  let st := s.brkState n
  let tgt := s.effTarget n
  let write := b.tgtSrc.isSome && st != brkStopping
  let s := if decide (tgt ≠ b.settleTgt) then s.disturbExciter n else s
  let s := if write then s.recordsEffect n (b.tgtSrc.getD 0) else s
  let s := s.updBrick n (fun b => { b with tgtSrc := none })
  if b.tgtSrc.isSome || b.updates == 0 || decide (tgt ≠ b.settleTgt) then
    let t := (s.setFld (BRK_STAT_SETTLED n) 0).setFld (BRK_STAT_SETTLE_FAIL n) 0
    t.updBrick n (fun b => { b with
      settleTgt := tgt, inBand := 0, decided := false, settleAt := some (s.clk.core + s.fld (BRK_SETTLE_TMO n) * 2400) })
  else s

/-- The registers READ answers from, as they stand, and kept until the leader's next update instant (R230). -/
def State.registers (s : State) (n : Nat) : Shown :=
  ⟨s.sfld (BRK_FB_FB n), s.target n, s.refVal n, s.reg (BRK_STAT n), s.reg (BRK_CMD n)⟩
def State.show (n : Nat) (s : State) : State := s.updBrick n (fun b => { b with shown := some (s.registers n) })

/-- What one update instant of a leader computes from: coefficients, limits, LOOP, sample, target, averages (R162, R166 to R168,
R184, R207, R208); the answer says whether Q reached its limit. -/
def State.leaderInputs (n : Nat) (sample : State → Nat → Option (Nat × Int)) (s : State) : State × Bool :=
  let s := (onlyIf (s.brick n).commit (State.applyStaged n) s).takeLimits n
  (((s.switchLoop n sample).takeSample n sample).takeTarget n).slowLimit n

/-- Where the slew engine goes: 0 in Stopping, under fold-back 256 × g in units of 256, else tgt (R165, R209, R211). -/
def State.leaderDest (s : State) (n : Nat) : Int :=
  if s.brkState n = brkStopping then 0
  else match s.worst n with
    | some (a, sl) => (s.effTarget n * sl).tdiv a
    | none => s.effTarget n

/-- The results of a leader's update instant: ref, e0, the compensator's, and what upsets add to the time of an edge. -/
structure LeaderOut where
  ref : Int
  e0 : Int
  out : CompOut
  edge : Int
deriving DecidableEq, Repr

/-- What a lane computes at a leader's update instant, under its upsets (R165, R172, R210). -/
def State.leaderOut (s : State) (n : Nat) (ups : List Upset) : LeaderOut :=
  let st := s.brkState n
  let dest := s.leaderDest n
  let step : Int := if st = brkRunning then s.fld (BRK_SLEW_SLEW n) else s.fld (BRK_SS_SS_STEP n)
  let ref := s.refVal n
  let ref' := upset24 ups .ref (if ref < 256 * dest then min (ref + step) (256 * dest) else max (ref - step) (256 * dest))
  let rInt := (ref' + 128) / 256
  let e0 := sat16 (rInt + s.excitePoint n - s.sfld (BRK_FB_FB n)) + errAt ups .e0
  let bst := if st = brkStarting then 0 else boostTerm (s.coef n 8) (s.fld (BRK_COMP_BST_THR_BST_THR n)) e0
  let lim := s.cmdLimits n
  ⟨ref', e0, compensate (s.coef n) (s.brick n) ups e0 (rnd20 (s.coef n 7 * rInt)) bst lim.1 lim.2,
    errAt ups .edge⟩

/-- Fold-back as it stands at this instant: FOLD, and at its first instant FOLD_EV, its source, sheet 0x0231 (R209). -/
def State.foldBack (n : Nat) (s : State) : State :=
  let fold := (s.worst n).isSome
  let t := s.setFlag (BRK_LIM_STAT_FOLD n) fold
  let t := onlyIf fold (State.disturbExciter n) t
  if fold && !s.flag (BRK_LIM_STAT_FOLD n) then
    (t.flagRaise (BRK_LIM_STAT_FOLD_EV n) (brkSrc n 14)).sheet 0x0231 (brickPayload n)
  else t

/-- The detector at this instant (R169). -/
def State.settleCheck (n : Nat) (x : Int) (s : State) : State :=
  let b := s.brick n
  let tgt := s.effTarget n
  if b.decided then s
  else
    let inb := if (s.sfld (BRK_FB_FB n) - x - tgt).natAbs ≤ s.fld (BRK_SETTLE_BAND n) then b.inBand + 1 else 0
    let t := s.updBrick n (fun b => { b with inBand := inb })
    if s.refVal n = 256 * tgt ∧ 8 ≤ inb then t.settleDecide n true else t

/-- Running from the instant at which ref reaches the target (R210). -/
def State.reachRunning (n : Nat) (s : State) : State :=
  if s.brkState n = brkStarting ∧ s.refVal n = 256 * s.effTarget n then
    let t := forEach ((s.members n).filter (fun m => s.brkState m == brkStarting)) (fun m t =>
      (t.setBrkState m brkRunning).updBrick m (fun b => { b with runSince := some t.clk.core })) s
    (t.setReg (BRK_SS n) 0).setRail n 2
  else s

/-- Reference, compensator, settle detection and limits of one leader update instant (R165, R169, R172, R207 to R211), with the
upsets that no check found. -/
def State.computeLeader (n : Nat) (ups : List Upset) (sample : State → Nat → Option (Nat × Int)) (s : State) : State :=
  let r := s.leaderInputs n sample
  let s := r.1
  if r.2 then s.slowFault n
  else
    let st := s.brkState n
    let dest := s.leaderDest n
    let s := ((s.foldBack n).setFld (BRK_LIM_AVG_SLEW_TGT n) (encodeInt 16 dest)).stopExcite n
    let o := s.leaderOut n ups
    let x := s.excitePoint n
    let lim := s.cmdLimits n
    let s := (s.setRef n o.ref).setBrick n { o.out.hist with next := o.out.c, edgeErr := o.edge }
    let s := (s.setFld (BRK_FB_ERR n) (encodeInt 16 o.e0)).setFlag (BRK_STAT_BOOST n) (decide (o.out.bst ≠ 0))
    let s := s.saturation n (decide (lim.2 < o.out.v)) (decide (o.out.v < lim.1)) o.out.frozen
    let s := (s.reachRunning n).settleCheck n x
    let s := (s.trims n sample (s.followers n)).syncLanes n
    if st = brkStopping ∧ o.ref = 0 then s.brickStopped n else s

/-- The bricks whose legs follow the leader's own command: itself and its secondaries. -/
def State.ownLegs (s : State) (n : Nat) : List Nat := (s.members n).filter (fun m => s.role m != 2)

/-- An active lane drives the brick. -/
def State.driven (s : State) (n : Nat) : Bool := laneActive s n (s.driving n)

/-- A lane of brick `m` takes commands: no hold keeps the command in force (R194). -/
def State.follows (s : State) (m : Nat) : Bool := s.driven m && !s.flag (BRK_LANE_STAT_HOLD m)

/-- The command computed at the instant before takes effect at `u`, on the leader's own and its secondaries' legs (R163, R178,
R183); under KIND 10 at the leader's period start, as the period (R187). The counter passes the instant. -/
def State.commandEffect (n : Nat) (u : Int) (s : State) : State :=
  let b := s.brick n
  if b.updates = 0 ∨ (s.kind n = 10 ∧ !s.atPeriodStart n) then s.passInstant n n
  else
    let t := forEach ((s.ownLegs n).filter s.follows) (fun m t =>
      onlyIf (s.kind n == 10) (State.setFld · (BRK_PERIOD_PERIOD m) b.next.toNat) (t.setCmd m b.next)) s
    forEach ((s.ownLegs n).filter (fun m => switching (s.brkState m))) (fun m t =>
      if s.follows m then t.takeLeg u m else t.rollLeg u m) (t.passInstant n n)

/-- A lane leaves for its full test, the other drives. -/
def State.toFullTest (n : Nat) (l : Lane) (s : State) : State :=
  (((s.setFld (laneFld n l) 2).setFld (BRK_LANE_STAT_DUAL n) 0).setFld (BRK_LANE_STAT_DRIVE n) (laneNo (otherLane l))).updBrick n
    (fun b => { b with testing := l :: b.testing.filter (fun k => k != l) })

/-- A hold begins (R194). -/
def State.beginHold (n : Nat) (both : Bool) (s : State) : State :=
  let t := (s.setFld (BRK_LANE_STAT_HOLD n) 1).setFld (BRK_LANE_STAT_DUAL n) 0
  let t := if both then (t.setFld (BRK_LANE_STAT_LANE_A n) 1).setFld (BRK_LANE_STAT_LANE_B n) 1
    else t.setFld (laneFld n (t.driving n)) 1
  let t := (t.updBrick n (fun b => { b with holdAt := s.clk.core, holdBoth := both })).bump (BRK_HOLD_HOLD_CNT n)
  (t.flagRaise (BRK_LANE_EV_UNRES_EV n) (brkSrc n 9)).stopExcite n

/-- Some error of a lane's results fails its residue check: it changes the residue modulo 7 (R190), whatever a later operation
masks. -/
def residueFails (ups : List Upset) : Bool := ups.any (fun u => decide (u.error % 7 ≠ 0))

/-- The lanes are compared at an update instant (R190, R191, R193): their upsets, and whether their results differ. The charged
lane leaves, or a hold begins; none as second part says that the results are discarded (R194), else it is what upsets, found by
no check, leave in the results of the lane that drives. Checks that fail in both lanes are taken as unresolved, and a failed
check of one lane that no result shows is charged and no more (DEDUCED: log entry 26). -/
def State.compareLanes (n : Nat) (upsA upsB : List Upset) (differ : Bool) (s : State) : State × Option (List Upset) :=
  let failA := residueFails upsA
  let failB := residueFails upsB
  let charge (l : Lane) (t : State) : State := t.bump (laneErr n l)
  if s.flag (BRK_LANE_STAT_DUAL n) then
    if failA != failB then
      let l := if failA then Lane.a else Lane.b
      if differ then
        let t := ((charge l (s.toFullTest n l))).flagRaise (BRK_LANE_EV_RES_EV n) (brkSrc n 8)
        (t.laneSheet 0x0301 n l none, some (if failA then upsB else upsA))
      else (charge l s, some upsA)
    else if failA then ((charge .b (charge .a s)).beginHold n true, none)
    else if differ then (s.beginHold n true, none)
    else (s, some upsA)
  else
    let l := s.driving n
    let ups := if l = .a then upsA else upsB
    if residueFails ups then (((charge l s).raise (brkSrc n 8)).beginHold n false, none) else (s, some ups)

/-- A leader's lanes compute different results from the same inputs (R191). -/
def State.leaderDiffers (n : Nat) (upsA upsB : List Upset) (s : State) : Bool :=
  let p := (s.leaderInputs n State.newestSample).1.stopExcite n
  p.leaderOut n upsA != p.leaderOut n upsB

/-- The update instant of a leader: edges before it, trigger (R160, R274), command in force, lanes, computation, the registers
READ answers from (R230). While a hold runs only the counter, the legs and the removal detector go on (R194, R365). -/
def State.leaderUpdate (n : Nat) (upsA upsB : List Upset) (held : List (Nat × BitVec 14)) (s : State) : State :=
  let u := (s.brick n).nextAt
  let count (t : State) : State := t.updBrick n (fun b => { b with updates := b.updates + 1 })
  let s0 := forEach ((s.ownLegs n).filter (fun m => switching (s.brkState m))) (State.runLeg u) s
  let s1 := if s.trigSrc = n + 1 then
      let first := s.flag MSR_STAT_TRIG_FB
      (if first then s0.endFallback else s0).sourceTrigger held s.now (some n) first
    else s0
  if s.flag (BRK_LANE_STAT_HOLD n) || !s.driven n then
    let t := forEach (s.ownLegs n) (State.rollLeg u) (count ((s1.stopExcite n).passInstant n n))
    (if t.removed n s then t.removal n u else t).show n
  else
    let s2 := s1.commandEffect n u
    let s2 := if s2.removed n s then s2.removal n u else s2
    let c := s2.compareLanes n upsA upsB (s2.leaderDiffers n upsA upsB)
    match c.2 with
    | none => (count c.1).show n
    | some ups => (count (c.1.computeLeader n ups State.newestSample)).show n

/-- The results of a follower's lane: e0 and the recursion's of its pass, its trim, its command, and what upsets add to the time of
an edge. -/
structure FollowerOut where
  e0 : Int
  out : Option CompOut
  trim : Int
  cmd : Int
  edge : Int
deriving DecidableEq, Repr

/-- What a follower's lane has computed at its update instant, under its upsets: the pass at its leader's last one, its trim, and
its command, the leader's in force plus the trim, within the leader's limits (R175). -/
def State.followerOut (s : State) (n : Nat) (ups : List Upset) : FollowerOut :=
  let b := s.brick n
  let lim := s.cmdLimits (s.leader n)
  let e0 := ((b.pass.map TrimPass.e0).getD 0) + errAt ups .e0
  let out := b.pass.map (fun p => s.followerPass n (b.before p) ups e0)
  let trim := upset24 ups .trim (match out with | some r => r.c | none => b.trim)
  ⟨e0, out, trim, upset24 ups .c (min (max (s.cmdVal (s.leader n) + trim) lim.1) lim.2), errAt ups .edge⟩

/-- A follower's results take force; its leg follows its command once the leader has a command in force. -/
def State.followerCommand (n : Nat) (o : FollowerOut) (u : Int) (s : State) : State :=
  let t := match o.out with
    | some r =>
      let t := (s.setBrick n { r.hist with pass := none }).setFld (BRK_FB_ERR n) (encodeInt 16 o.e0)
      t.saturation n (decide (t.cmdMax n < r.v)) (decide (r.v < t.cmdMin n)) r.frozen
    | none => s
  let t := (t.setCmd n o.cmd).updBrick n (fun b => { b with trim := o.trim, edgeErr := o.edge })
  if 2 ≤ (t.brick (t.leader n)).updates then t.takeLeg u n else t

/-- The update instant of a follower (R175, R207, R208): its lanes compared, its command from the leader's and its trim, its
averages. A comparison that begins a hold discards the pass of its trim too (R194). -/
def State.followerUpdate (n : Nat) (upsA upsB : List Upset) (s : State) : State :=
  let u := (s.brick n).nextAt
  let ld := s.leader n
  let count (t : State) : State := t.updBrick n (fun b => { b with updates := b.updates + 1 })
  let s := (s.runLeg u n).passInstant ld n
  if s.flag (BRK_LANE_STAT_HOLD n) || !s.driven n then count (s.rollLeg u n)
  else
    let c := s.compareLanes n upsA upsB (s.followerOut n upsA != s.followerOut n upsB)
    match c.2 with
    | none => count ((c.1.updBrick n Brick.undoPass).rollLeg u n)
    | some ups =>
      let t := c.1.followerCommand n (c.1.followerOut n ups) u
      let t := (onlyIf (t.brick n).commit (State.applyStaged n) t).takeLimits n
      let q := t.slowLimit n
      count (if q.2 then q.1.slowFault n else q.1.syncLanes n)

/-- The last update instant of leader `ld`, or one still to be passed, lies in CLK_CORE's present tick. -/
def State.leaderInstant (s : State) (ld : Nat) : Bool :=
  let b := s.brick ld
  let last : Int := if b.second || s.updates ld != 2 then b.perAt else b.perAt + (s.period ld : Int) / 2
  s.instantDue ld || (decide (s.euNow ≤ last) && decide (last < s.euEnd))

/-- A secondary's lanes at an update instant of its leader: they compute the edge times of its outputs, which are compared
(R189 to R191). -/
def State.secondaryUpdate (n : Nat) (upsA upsB : List Upset) (s : State) : State :=
  if s.follows n then
    let c := s.compareLanes n upsA upsB (errAt upsA .edge != errAt upsB .edge)
    match c.2 with
    | none => c.1
    | some ups => c.1.updBrick n (fun b => { b with edgeErr := errAt ups .edge })
  else s

/-- An update instant in the cycle of an all-off that has halted the brick: its slow limit is judged, and a fault found joins the
all-off (R214, R255). -/
def State.haltedUpdate (n : Nat) (s : State) : State :=
  let q := (s.takeLimits n).slowLimit n
  if q.2 then q.1.slowFault n else q.1

/-- BRICK_UPDATE (R158 to R180, R189 to R194, R207 to R211): an update instant of a brick that switches, once the period counter
has reached it; a secondary's is its leader's. -/
def execBrickUpdate (n : Nat) (lanes : LaneErrors) (held : List (Nat × BitVec 14)) (s : State) :
    Host.Outcome State Fault Refusal :=
  .next (
    if s.active && decide (n < 16) && switching (s.brkState n) &&
        (if s.role n = 3 then s.leaderInstant (s.leader n) else s.instantDue n) then
      if s.role n = 1 then s.leaderUpdate n lanes.a lanes.b held
      else if s.role n = 2 then s.followerUpdate n lanes.a lanes.b
      else if s.role n = 3 then s.secondaryUpdate n lanes.a lanes.b
      else s
    else if s.active && decide (n < 16) && s.offNow.isSome && switching (s.stateBefore n) && s.instantDue n &&
        !s.flag (BRK_LIM_STAT_I2T_TRIP n) && s.role n != 3 then
      s.haltedUpdate n
    else s)

/-- SETTLE_TIMEOUT (R170): the settle timer has expired and SETTLED is not set; it runs on CLK_CORE whatever the brick's state. -/
def execSettleTimeout (n : Nat) (s : State) : Host.Outcome State Fault Refusal :=
  .next (
    if decide (n < 16) && s.coreRuns && reached (s.brick n).settleAt s.clk.core && !(s.brick n).decided then
      s.settleDecide n false
    else s)

/-- RUNNING_1S_EXPIRY (R213): 1 s in Running without a break sets RETRY_LEFT to RETRY. -/
def execRunning1sExpiry (n : Nat) (s : State) : Host.Outcome State Fault Refusal :=
  .next (
    if decide (n < 16) && s.brkState n == brkRunning &&
        reached ((s.brick n).runSince.map (fun t => t + 1000000 * coreUs)) s.clk.core then
      (s.setFld (BRK_LIM_STAT_RETRY_LEFT n) (s.t8 3 n 0x19 0)).updBrick n (fun b => { b with runSince := none })
    else s)

end Sys2Proof.Machine
end

