-- ==== Sys2Proof/Machine/Lanes.lean ====
section
/-! DEFINITION. Lane errors, self-tests and their classification, the fast limit (R189 to R206, R212, R214), and the writes a
brick's role restricts (R186, R215). -/
namespace Sys2Proof.Machine

/-! ### Retirement and rail faults (R200, R201) -/

/-- A lane stands retired: RETIRE_EV and source k = 11 where it was not yet (R200, R484). -/
def State.layRetired (n : Nat) (l : Lane) (s : State) : State :=
  if laneRetired s n l then s else (s.setFld (laneFld n l) 3).flagRaise (BRK_LANE_EV_RETIRE_EV n) (brkSrc n 11)

/-- A rail fault: both lanes retired, source k = 12, the all-off (R201). A full test under way runs on (R196, R214). -/
def State.railFault (n code : Nat) (payload : List Byte) (s : State) : State :=
  let t := ((s.layRetired n .a).layRetired n .b).setFld (BRK_LANE_STAT_DUAL n) 0
  (t.raise (brkSrc n 12)).brickOff n code payload

/-- A lane is retired (R200), with its sheet; where the other lane has been retired already, a rail fault 0x0320 (R201). A lane
that a rail fault retired during its full test only gets the sheet of the test's outcome. -/
def State.retireLane (n code : Nat) (l : Lane) (s : State) : State :=
  let t := s.laneSheet code n l none
  if laneRetired s n l then t
  else
    let t := ((t.layRetired n l).setFld (BRK_LANE_STAT_DUAL n) 0).setFld (BRK_LANE_STAT_DRIVE n) (laneNo (otherLane l))
    if laneRetired t n (otherLane l) then t.railFault n 0x0320 (brickPayload n) else t

def laneTrans (n : Nat) : Lane → Fld
  | .a => BRK_LANE_A_CNT_TRANS_CNT n
  | .b => BRK_LANE_B_CNT_TRANS_CNT n
def laneCorr (n : Nat) : Lane → Fld
  | .a => BRK_LANE_A_CNT_CORR_CNT n
  | .b => BRK_LANE_B_CNT_CORR_CNT n

/-- A transient is counted (R199, R200); the answer says whether it was the third within 3,600 s, which retires the lane. -/
def State.countTransient (n : Nat) (l : Lane) (s : State) : State × Bool :=
  let b := s.brick n
  let h := match l with
    | .a => b.transA
    | .b => b.transB
  let h' := (s.now :: h).take 3
  let third := match h' with
    | [t2, _, t0] => decide (ticksBetween t0 t2 ≤ 3600 * 2 ^ 28)
    | _ => false
  let t := s.updBrick n (fun b => match l with
    | .a => { b with transA := h' }
    | .b => { b with transB := h' })
  let t := (t.bump (laneTrans n l)).flagRaise (BRK_LANE_EV_TRANS_EV n) (brkSrc n 10)
  (t.laneSheet 0x0310 n l none, third)

/-! ### Tests -/

/-- The recovery update on a lane (R194, R197): loaded from the state store, an update instant with the newest completed sample,
its command in force at once. A halted brick computes none (R214). -/
def State.recover (n : Nat) (l : Lane) (s : State) : State :=
  let t := (s.setFld (laneFld n l) 0).setFld (BRK_LANE_STAT_DRIVE n) (laneNo l)
  let u := s.euNow
  if !switching (t.brkState n) then t
  else if t.role n = 1 then
    let v := t.computeLeader n [] State.completedSample
    if !switching (v.brkState n) then v.show n
    else if v.kind n = 10 ∨ (v.brick n).updates = 0 then v.show n
    else
      let c := (v.brick n).next
      let legs := (v.ownLegs n).filter (fun m => switching (v.brkState m) && v.follows m)
      let v := forEach legs (fun m w => (w.runLeg u m).setCmd m c) v
      (forEach (legs.filter (fun m => (v.brick m).leg.live)) (State.takeLeg u) v).show n
  else if t.role n = 2 then
    let v := (onlyIf (t.brick n).commit (State.applyStaged n) t).takeLimits n
    let v := (v.trims (v.leader n) State.completedSample [n]).runLeg u n
    (v.followerCommand n (v.followerOut n []) u).syncLanes n
  else if t.role n = 3 then
    let v := (t.runLeg u n).setCmd n (t.cmdVal (t.leader n))
    if (v.brick n).leg.live then v.takeLeg u n else v
  else t

/-- QUICK_TEST_DONE (R194 to R196, R214): a test that an all-off overtook is classified as well. A lane that fails its quick test
is retired with the sheet 0x0311 of a failed test, since R200 names no code for it (DESIGN CHOICE: log entry 26). -/
def execQuickTestDone (n : Nat) (passA passB : Bool) (s : State) : Host.Outcome State Fault Refusal :=
  let quick (l : Lane) : Bool := laneState s n l == 1
  let hold := s.flag (BRK_LANE_STAT_HOLD n)
  let done (code : Nat) (l : Lane) (t : State) : State := if hold then t.endHold n code l else t
  .next (
    if decide (n < 16) && s.coreRuns && (hold || quick .a || quick .b) then
      if (s.brick n).holdBoth then
        let a := quick .a && passA
        let b := quick .b && passB
        let t := done 0x0302 (if a then .a else .b) s
        -- a lane that failed is retired at once; one that a store failure took away meanwhile is under its full test
        let t := if quick .a && !passA && b then t.retireLane n 0x0311 .a else t
        let t := if quick .b && !passB && a then t.retireLane n 0x0311 .b else t
        if a && b then
          ((t.toFullTest n .b).updBrick n (fun k => { k with fullLater := some .a })).recover n .a
        else if a then t.recover n .a
        else if b then t.recover n .b
        else t.railFault n 0x0321 (brickPayload n)
      else
        let l := s.driving n
        let pass := match l with
          | .a => passA
          | .b => passB
        let t := done 0x0304 l s
        if pass then
          let r := t.countTransient n l
          let u := if laneRetired r.1 n (otherLane l) || r.2 then r.1 else r.1.updBrick n (fun b => { b with fullLater := some l })
          let v := u.recover n l
          if r.2 then v.retireLane n 0x0312 l else v
        else t.railFault n 0x0320 (brickPayload n)
    else s)

/-- FULL_TEST_DONE (R196, R199, R200, R214): a pass counts a transient and waits for the leader's next period start; a failure or
a third transient in an hour retires the lane. -/
def execFullTestDone (n : Nat) (lane : Lane) (pass : Bool) (s : State) : Host.Outcome State Fault Refusal :=
  .next (
    if decide (n < 16) && s.coreRuns && (s.brick n).testing.contains lane then
      let s := s.updBrick n (fun b => { b with testing := b.testing.filter (fun k => k != lane) })
      if pass then
        let r := s.countTransient n lane
        if r.2 then r.1.retireLane n 0x0312 lane
        else if laneRetired s n lane then r.1
        else r.1.updBrick n (fun b => { b with rejoin := some lane })
      else s.retireLane n 0x0311 lane
    else s)

/-- The leader's period start from which a lane of brick `n` computes again: in CLK_CORE's present tick (R199). -/
def State.periodStartDue (s : State) (n : Nat) : Bool :=
  let ld := s.leader n
  let b := s.brick ld
  (s.atPeriodStart ld && s.instantDue ld) || (ld != n && decide (s.euNow ≤ b.perAt) && decide (b.perAt < s.euEnd))

/-- LANE_REJOIN (R199): at the leader's next period start a lane that passed takes its partner's state and store as they stand;
a test owed to its partner then starts (R195, R196). -/
def execLaneRejoin (n : Nat) (s : State) : Host.Outcome State Fault Refusal :=
  .next (
    match (s.brick n).rejoin with
    | some l =>
      if decide (n < 16) && switching (s.brkState n) && !s.flag (BRK_LANE_STAT_HOLD n) && s.periodStartDue n then
        let t := (s.setFld (laneFld n l) 0).updBrick n (fun b =>
          { b.setCopy l (b.copy (otherLane l)) with rejoin := none })
        if laneActive t n (otherLane l) then
          let t := (t.setFld (BRK_LANE_STAT_DUAL n) 1).setFld (BRK_LANE_STAT_DRIVE n) 0
          match (t.brick n).fullLater with
          | some k => (t.toFullTest n k).updBrick n (fun b => { b with fullLater := none })
          | none => t
        else t
      else s
    | none => s)

/-! ### Scrubs (R192, R193) -/

/-- The upsets of a store: words and masks, of their data bits and of the bits of their code. -/
structure Upsets where
  data : List (Nat × BitVec 32)
  code : List (Nat × BitVec 7)
deriving DecidableEq, Repr

/-- The masks of word `i` together. -/
def flipMask {w : Nat} (l : List (Nat × BitVec w)) (i : Nat) : BitVec w :=
  (l.filter (fun p => decide (p.1 = i))).foldl (fun m p => m ^^^ p.2) 0

/-- The upsets of word `i` of a store, as a mask over its 39 bits. -/
def Upsets.word (u : Upsets) (i : Nat) : BitVec 39 := flipMask u.code i ++ flipMask u.data i

/-- How many bits of a mask are set. -/
def bitsSet (m : BitVec 39) : Nat := ((List.range 39).filter m.getLsbD).length

/-- What a scrub makes of one store: words corrected, contents after it, and whether a word could not be corrected. -/
structure Scrub where
  corrected : Nat
  words : List Word
  lost : Bool
deriving DecidableEq, Repr

/-- Every word of a store is read: one flipped bit is corrected, more are found and left (R192). -/
def scrubWords (store : List Word) (flips : Upsets) : Scrub :=
  let hits (i : Nat) : Nat := bitsSet (flips.word i)
  let idx := List.range store.length
  ⟨(idx.filter (fun i => hits i == 1)).length,
    store.mapIdx (fun i w => if 2 ≤ hits i then w ^^^ (flips.word i).setWidth 32 else w),
    idx.any (fun i => decide (2 ≤ hits i))⟩

/-- A scrub of lane `l`: its corrections counted, and whether its store failed by a word or by the check value, which stands
after the words and carries no code of its own (DEDUCED: log entry 26). -/
def State.scrubLane (n : Nat) (l : Lane) (flips : Upsets) (s : State) : State × Bool :=
  let c := (s.brick n).copy l
  let r := scrubWords c.store flips
  let check := c.check ^^^ (flips.word c.store.length).setWidth 32
  let t := forEach (List.range (min r.corrected 255)) (fun _ u => u.bump (laneCorr n l)) s
  (onlyIf (decide (0 < r.corrected)) (State.setFld · (BRK_LANE_EV_CORR_EV n) 1) t, r.lost || storeCheck r.words != check)

/-- LANE_SCRUB (R192, R193): every 1 ms each lane that is neither under its full test nor retired scrubs its store, in which
upsets have flipped data bits and code bits. A failure with no other lane left to drive is taken as both
stores failing (DEDUCED: log entry 26). -/
def execLaneScrub (n : Nat) (dataA dataB : List (Nat × BitVec 32)) (codeA codeB : List (Nat × BitVec 7)) (s : State) :
    Host.Outcome State Fault Refusal :=
  let scrubs (l : Lane) : Bool := decide (laneState s n l ≤ 1)
  let run (l : Lane) (flips : Upsets) (t : State) : State × Bool :=
    if scrubs l then t.scrubLane n l flips else (t, false)
  let charge (l : Lane) (t : State) : State := t.bump (laneErr n l)
  let failed (t : State) : State := t.flagRaise (BRK_LANE_EV_STORE_EV n) (brkSrc n 8)
  let store (l : Lane) (t : State) : State :=
    let t := failed (charge l t)
    if scrubs (otherLane l) then
      let t := (t.laneSheet 0x0303 n l none).toFullTest n l
      t.updBrick n (fun b => { b with fullLater := if b.fullLater == some l then none else b.fullLater })
    else t.railFault n 0x0322 (brickPayload n ++ leBytes 1 (laneNo l))
  .next (
    if decide (n < 16) && s.coreRuns && s.role n != 0 && decide ((s.brick n).scrubAt + 1000 * coreUs ≤ s.clk.core) then
      let a := run .a ⟨dataA, codeA⟩ (s.updBrick n (fun b => { b with scrubAt := s.clk.core }))
      let b := run .b ⟨dataB, codeB⟩ a.1
      let t := b.1
      if a.2 && b.2 then (failed (charge .b (charge .a t))).railFault n 0x0322 (brickPayload n ++ leBytes 1 2)
      else if a.2 then store .a t
      else if b.2 then store .b t
      else t
    else s)

/-! ### Fast limit (R204 to R206, R212) -/

/-- The fast limit of brick `n` is armed, as the faults of this cycle see it. -/
def State.fastArmed (s : State) (n : Nat) : Bool :=
  decide (n < 16) && (s.role n == 1 || s.role n == 2) && switching (s.stateBefore n) && (s.csPair n).isSome &&
    !s.flag (BRK_LIM_STAT_FAST_TRIP n)

/-- The threshold in force, in µV (R204). -/
def State.fastThr (s : State) (n : Nat) : Nat := (bitsOf (s.brick n).fastIn.toNat 0 10 + 1) * 250

/-- |V(CS_nP) − V(CS_nN)| of so many µV reaches the threshold in force (R204), wherever in ±(2 % + 0.5 mV) of it the comparator's
own lies (R471). -/
def State.fastCrossed (s : State) (n microvolts : Nat) : Bool := decide (102 * s.fastThr n + 50000 ≤ 100 * microvolts)

/-- It lies in that band, where the spec lets a comparator trip or not: a free bit (safe: log entry 39). -/
def State.fastMay (s : State) (n microvolts : Nat) : Bool := decide (98 * s.fastThr n ≤ 100 * microvolts + 50000)

/-- The blanking after the last rise of H or L ends in this tick or has ended: BLANK ns in CLK_EDGE cycles, four to a tick of
CLK_CORE (R205). -/
def State.blankingOver (s : State) (n : Nat) : Bool :=
  match (s.brick n).leg.rose with
  | none => true
  | some r => decide (r / 64 + (ceilDiv (bitsOf (s.brick n).fastIn.toNat 16 9 * 96) 100 : Nat) ≤ 4 * (s.clk.core : Int) + 3)

/-- A trip (R206, R212): FAST_TRIP, its source, and the all-off with the code of the brick's state. -/
def State.fastTrip (n : Nat) (s : State) : State :=
  let code := if s.stateBefore n = brkStarting then (if 0 < s.fld (BRK_LIM_STAT_RETRY_LEFT n) then 0x0221 else 0x0222) else 0x0220
  let t := (s.setFld (BRK_LIM_STAT_FAST_TRIP n) 1).raise (brkSrc n 13)
  let t := if code = 0x0221 then
      { t.updBrick n (fun b => { b with tripped := true }) with
        seq := { t.seq with retryAt := some (s.clk.core + 100000 * coreUs) } }
    else t
  t.brickOff n code (brickPayload n)

/-- The comparator of brick `n` reads so many µV in this tick (R204, R205). -/
def State.fastSense (n microvolts : Nat) (s : State) : State :=
  if s.coreRuns && s.fastArmed n && s.blankingOver n && s.fastMay n microvolts then
    let r := s.takeFree 1
    if s.fastCrossed n microvolts then s.fastTrip n else if r.1 = 1 then r.2.fastTrip n else r.2
  else s

/-- FAST_LIMIT_TRIP (R204 to R206): a crossing, which counts outside the blanking. -/
def execFastLimitTrip (cs : CsSample) (s : State) : Host.Outcome State Fault Refusal :=
  .next (s.fastSense cs.brick cs.microvolts)

/-- BLANKING_END (R205): a crossing that lasts to the end of the blanking, or is first sampled there, counts. -/
def execBlankingEnd (n microvolts : Nat) (s : State) : Host.Outcome State Fault Refusal :=
  .next (s.fastSense n microvolts)

/-! ### Writes of brick registers (R186, R215) -/

/-- Offsets within BRK_n that only a leader may write, and offsets no secondary may write (staging and limit registers). -/
def brkLeaderOnly (o : Nat) : Bool := o == 0x18 || o == 0x1C || o == 0x30
def brkNoSecondary (o : Nat) : Bool :=
  (decide (0x100 ≤ o) && decide (o ≤ 0x12C)) || o == 0x220 || o == 0x224 || o == 0x228

/-- Whether a write to offset `o` of brick `n` breaks R186. -/
def State.brkRestricted (s : State) (n o : Nat) : Bool :=
  let r := s.role n
  r == 0 || (r != 1 && brkLeaderOnly o) || (r == 3 && brkNoSecondary o) ||
    (o == 0x2C && !(r == 1 && (s.kind n == 8 || s.kind n == 9)))

/-- RETRY_RST, LCNT_CLR and CNT_CLR (R213, R215, R187). -/
def State.retryRst (n : Nat) (s : State) : State := s.setFld (BRK_LIM_STAT_RETRY_LEFT n) (s.t8 3 n 0x19 0)
def State.lcntClr (n : Nat) (s : State) : State :=
  ((s.setReg (BRK_LANE_A_CNT n) 0).setReg (BRK_LANE_B_CNT n) 0).setReg (BRK_HOLD n) 0
def State.brkCntClr (n : Nat) (s : State) : State := s.setReg (BRK_CNT n) 0

end Sys2Proof.Machine
end

