-- ==== Sys2Proof/Machine/Course.lean ====
section
/-! DEFINITION. Courses and rail supervision (R236 to R266): steps, actions, the cascade, the head and the course master,
faults and their clearing, margins, supply loss. Readings: log entry 28. -/
namespace Sys2Proof.Machine

def coreMs : Nat := 1000 * coreUs

/-! ### Steps and floors at a device (R240 to R243) -/

/-- Put actions to run. -/
def State.beginRun (kind : RunKind) (todo : List Action) (phase : Nat) (s : State) : State :=
  ({ s with seq := { s.seq with kind := kind, todo := todo, wait := .none } }).setFld SEQ_STAT_PHASE phase

/-- The state of a head's line (R246): held faults, idle or not idle. -/
def State.lineState (s : State) : Nat :=
  if s.fld SEQ_STAT_LINE_FAULT ≠ 0 then s.fld SEQ_STAT_LINE_FAULT + 1 else 1 - bit (s.pins.courseHigh && s.lineIdle)

/-- A head reports its line at every change (R246, R418); that of an idle line comes with the passing of time. -/
def State.lineReport (s : State) : State :=
  if s.actsHead && !s.courseMaster && s.lineState != s.seq.lineTold then
    { s with seq := { s.seq with lineTold := s.lineState } }.send 0x37 6 false (leBytes 1 s.lineState ++ leBytes 3 0)
  else s

/-- The filtered COURSE line is read at a level. -/
def State.setLine (high : Bool) (s : State) : State :=
  if s.pins.courseHigh = high then s else ({ s with pins := { s.pins with courseHigh := high } }).lineReport

/-- A hold begins: the device takes the line low, which is idle no more (R240 to R242). -/
def State.takeHold (s : State) : State :=
  { s with pins := { s.pins with courseHold := true }, seq := { s.seq with tookHold := true } }

/-- The line goes low for a step or a floor that this device does not take part in: it is read low, and idle no more (R113,
R248, R250). -/
def State.seeLow (s : State) : State := { s.setLine false with seq := { (s.setLine false).seq with idleFrom := none } }

/-- A step is recognised (R240): counted, held, CASC_OUT low, its actions started. -/
def State.courseStep (down : Bool) (s : State) : State :=
  if s.stepsCourse then
    let c := s.fld SEQ_STAT_DEV_COURSE
    let moves := if down then decide (0 < c) else decide (c < 254)
    let c' := if moves then (if down then c - 1 else c + 1) else c
    let todo := if moves then s.courseActions (if down then c else c') down else []
    let t := (s.setFld SEQ_STAT_DEV_COURSE c').setFlag SEQ_STAT_DIR down
    let t := ((t.setLine false).beginRun .step todo 2).takeHold
    let t := { t with
      pins := { t.pins with cascOut := .low }
      seq := { t.seq with
        stepAt := s.clk.core, holdMin := s.clk.core + coreUs, cascSeen := s.pins.cascIn, short := !moves, idleFrom := none } }
    ((t.bump SEQ_CNT_STEP_CNT).flagRaise SEQ_EV_STEP_EV 352).settleStep
  else s.seeLow

def execCourseStepUp (s : State) : Host.Outcome State Fault Refusal := .next (s.courseStep false)
def execCourseStepDown (s : State) : Host.Outcome State Fault Refusal := .next (s.courseStep true)

/-- COURSE_FLOOR (R242). -/
def execCourseFloor (s : State) : Host.Outcome State Fault Refusal :=
  .next (
    if s.stepsCourse then
      let t := ((s.setFld SEQ_STAT_DIR 1).setLine false).flagRaise SEQ_EV_FLOOR_EV 356
      let t := { t with seq := { t.seq with idleFrom := none, short := false } }
      let c := s.fld SEQ_STAT_DEV_COURSE
      if c = 0 then t else (t.beginRun .floor (s.floorActions c) 3).takeHold.settleStep
    else s.seeLow)

/-- COURSE_INVALID_LOW (R243, R264): a low that started while the line was idle, and has ended; lows between a recognition and
the next idle line are holds (R241). The line is idle again 2 µs after it. -/
def execCourseInvalidLow (s : State) : Host.Outcome State Fault Refusal :=
  .next (
    if s.onCourse && s.lineIdle then
      let t := { s with seq := { s.seq with idleFrom := some (s.clk.core + 2 * coreUs) } }.lineReport
      let t := (t.bump SEQ_CNT_LINE_CNT).flagRaise SEQ_EV_LINE_EV 355
      let k := s.seq.invalidLows + 1
      let due := match s.seq.invalidAt with
        | some a => decide (a + 1000 * coreMs ≤ s.clk.core)
        | none => true
      if due then { t.sheet 0x0546 (leBytes 1 (min k 255)) with seq := { t.seq with invalidLows := 0, invalidAt := some s.clk.core } }
      else { t with seq := { t.seq with invalidLows := k } }
    else s)

/-! ### Actions (R237, R238) -/

/-- The leader of a rail cannot leave Stopped (R202, R238, R312). -/
def State.cannotStart (s : State) (n : Nat) : Bool :=
  s.stateBefore n == brkHalted || (laneRetired s n .a && laneRetired s n .b) || s.flag THM_STAT_THM_LOCK

/-- The output of an LDO rail in mV (R237, R257): SETPOINT under the margin in force, in steps of 10 mV within 1.04 V to 3.72 V.
Which step a value between two takes, the spec does not say: a free bit (DESIGN CHOICE, safe: log entry 28). -/
def State.ldoOut (rail : Nat) (s : State) : Nat × State :=
  let uv : Int := (s.t16 5 rail 0xA 0 : Int) * (1000 + s.margin rail)
  let step := (uv / 10000).toNat
  let r := if uv % 10000 = 0 then (0, s) else s.takeFree 1
  (min (max (10 * (step + r.1)) 1040) 3720, r.2)

def State.auxOut (s : State) (rail : Nat) : Option Nat := if rail = 19 then s.pins.aux1 else s.pins.aux2
def State.putAux (rail : Nat) (v : Option Nat) (s : State) : State :=
  { s with pins := if rail = 19 then { s.pins with aux1 := v } else { s.pins with aux2 := v } }

/-- AUX_1 or AUX_2 on or off. -/
def State.setAux (rail : Nat) (on : Bool) (s : State) : State :=
  if on then
    let v := s.ldoOut rail
    v.2.putAux rail (some v.1)
  else s.putAux rail none

/-- PG_DELAY of a rail starts (anew) in this cycle (R253). -/
def State.beginDelay (rail : Nat) (s : State) : State :=
  { s with seq := { s.seq with pgRun := putPair s.seq.pgRun rail (s.clk.core + s.fld (SEQ_RAIL_PGD_PG_DELAY rail) * coreUs) } }

/-- A fault in the course actions: an all-off naming the rail. -/
def State.courseFault (code rail : Nat) (s : State) : State := s.allOff code (leBytes 1 rail) none

/-- RAIL_ON (R237, R238, R210). In the cycle of an all-off one that cannot start is a fault all the same (R255). -/
def execRailOn (s : State) : Host.Outcome State Fault Refusal :=
  .next (
    match s.runBefore.nextAction 1 with
    | none => s
    | some a =>
      let r := a.target
      if s.offNow.isSome then
        if r < 16 ∧ !switching (s.stateBefore r) ∧ s.cannotStart r then s.courseFault 0x0521 r else s
      else if r < 16 then
        if switching (s.brkState r) then s.finishAction
        else if s.cannotStart r then s.courseFault 0x0521 r
        else if s.brkState r = brkStopped then (s.startBrick r a.arg).finishAction
        else s.finishAction
      else if 19 ≤ r then
        if bitsOf (s.fld SEQ_ON_RAIL) r 1 = 1 then s.finishAction
        else ((((s.setAux r true).setOn r true).setRail r 1).beginDelay r).finishAction
      else s.finishAction)

/-- RAIL_OFF (R237, R211). -/
def execRailOff (s : State) : Host.Outcome State Fault Refusal :=
  .next (
    match s.nextAction 2 with
    | none => s
    | some a =>
      let r := a.target
      if r < 16 then
        if switching (s.brkState r) then
          let t := if s.brkState r = brkStopping then s else s.stopBrick r a.arg
          { t with seq := { t.seq with wait := .railOff r } }
        else s.finishAction
      else if 19 ≤ r then ((s.setAux r false).railDown r).finishAction
      else s.finishAction)

/-- WAIT_PG (R237). -/
def execWaitPg (s : State) : Host.Outcome State Fault Refusal :=
  .next (
    match s.nextAction 3 with
    | none => s
    | some a =>
      if s.flag (SEQ_RAIL_STAT_PG a.target) then s.finishAction
      else { s with seq := { s.seq with wait := .pg a.target (s.clk.core + a.arg * coreUs) } })

/-- WAIT_PG_TIMEOUT (R238). -/
def execWaitPgTimeout (s : State) : Host.Outcome State Fault Refusal :=
  .next (
    match s.runBefore.seq.wait with
    | .pg r d => if d ≤ s.clk.core then s.courseFault 0x0520 r else s
    | _ => s)

/-- DELAY (R237). -/
def execDelay (s : State) : Host.Outcome State Fault Refusal :=
  .next (
    match s.nextAction 4 with
    | none => s
    | some a => { s with seq := { s.seq with wait := .delay (s.clk.core + a.arg * coreUs) } })

/-- DELAY_EXPIRY (R237). -/
def execDelayExpiry (s : State) : Host.Outcome State Fault Refusal :=
  .next (
    match s.seq.wait with
    | .delay d => if d ≤ s.clk.core then s.finishAction else s
    | _ => s)

/-- PIN_SET (R237, R446). -/
def execPinSet (s : State) : Host.Outcome State Fault Refusal :=
  .next (
    match s.nextAction 5 with
    | none => s
    | some a => (s.drivePin a.target (s.gpioOff a.target != (a.arg == 1))).finishAction)

/-- SET_REF (R237, R167). -/
def execSetRef (s : State) : Host.Outcome State Fault Refusal :=
  .next (
    match s.nextAction 6 with
    | none => s
    | some a => (s.writeTarget a.target (s.flag (BRK_TARGET_LOOP a.target)) (a.arg % 65536) 4).finishAction)

/-! ### The cascade (R244, R248) -/

/-- CASC_IN_RISE. A step that changed no count has left its hold before CASC_IN rose, and CASC_OUT follows it then (R244). -/
def execCascInRise (s : State) : Host.Outcome State Fault Refusal :=
  .next (
    let t := { s with pins := { s.pins with cascIn := true } }
    if s.active then
      if s.seq.out then (if s.seq.timeline then t else { t with pins := { t.pins with cascOut := .high } })
      else if s.seq.kind == .step then ({ t with seq := { t.seq with cascSeen := true } }).settleStep
      else if s.seq.short then { t with pins := { t.pins with cascOut := .high }, seq := { t.seq with short := false } }
      else t
    else t)

/-- CASC_IN_FALL. -/
def execCascInFall (s : State) : Host.Outcome State Fault Refusal :=
  .next (
    let t := { s with pins := { s.pins with cascIn := false } }
    if s.active && s.seq.out && !s.seq.timeline then { t with pins := { t.pins with cascOut := .low } } else t)

/-- CASC_TIMEOUT: a cascaded action has waited CASC_TMO ms from the recognition of the step. -/
def execCascTimeout (s : State) : Host.Outcome State Fault Refusal :=
  .next (
    match s.runBefore.seq.todo with
    | a :: _ =>
      if s.runBefore.seq.kind == .step && a.cascaded && !s.seq.cascSeen && s.runBefore.seq.wait == .none &&
          decide (s.seq.stepAt + s.fld SEQ_TMO_CASC_TMO * coreMs ≤ s.clk.core) then
        (s.flagRaise SEQ_EV_CASC_TMO_EV 370).allOff 0x0522 [] none
      else s
    | [] => s)

/-! ### Rejoin (R248) -/

/-- The system has a trunk with other heads. -/
def State.trunked (s : State) : Bool := !s.solo && decide (1 < s.fld LNK_ADDR_NSTR)

/-- The string course as last confirmed: STR_COURSE, but on the course master of a trunk, where that is the system's (R265). -/
def State.stringCourse (s : State) : Nat :=
  if s.courseMaster && s.trunked then s.seq.strCourse else s.fld SEQ_STAT_STR_COURSE

/-- A request to rejoin, by SEQ_CTRL or after a retry. One that comes while a re-lay is in progress runs its actions all the same:
R24 keeps the device from COURSE steps only (DESIGN CHOICE: log entry 28). -/
def State.requestRejoin (s : State) : State :=
  let c := s.stringCourse
  if !s.flag SEQ_FAULT_ACTIVE && s.seq.out && s.seq.kind == .none && decide (0 < c) then
    let t := { s with seq := { s.seq with rejoinTo := c } }
    ((t.reportRejoin 3).beginRun .rejoin (s.rejoinActions c) 4).settleStep
  else (s.setFld SEQ_STAT_REF_REASON 3).flagRaise SEQ_EV_CMD_REF_EV 361

/-! ### The fault and its clearing (R213, R256) -/

/-- Thresholds in force on a rail (R254): UV and OV under the margin. -/
def State.railUv (s : State) (r : Nat) : Int :=
  clampInt 0 1023 (roundDiv (s.fld (SEQ_RAIL_WIN_UV r) * (1000 + s.margin r)) 1000)
def State.railOv (s : State) (r : Nat) : Int :=
  clampInt 0 1023 (roundDiv (s.fld (SEQ_RAIL_WIN_OV r) * (1000 + s.margin r)) 1000)

/-- A rail is supervised (R252): EN = 1, or one of rails 16 to 18 without a tile. -/
def State.supervised (s : State) (r : Nat) : Bool :=
  match s.tile 5 r with
  | some t => t.u8 1 % 2 == 1
  | none => decide (16 ≤ r) && decide (r ≤ 18)

/-- OV and UV of a rail are armed (R252). -/
def State.ovArmed (s : State) (r : Nat) : Bool :=
  s.supervised r && (s.active || (s.boot.power == .standby && decide (16 ≤ r) && decide (r ≤ 18)))
def State.uvArmed (s : State) (r : Nat) : Bool :=
  if 16 ≤ r ∧ r ≤ 18 then s.supervised r && decide (2 ≤ s.boot.phase) else s.supervised r && s.armedBefore r

/-- An armed threshold of a rail shows a violation at its last compared value. -/
def State.showsViolation (s : State) (r : Nat) : Bool :=
  match s.seq.viol.find? (fun p => decide (p.1 = r)) with
  | some (_, above, _) => if above then s.ovArmed r else s.uvArmed r
  | none => false
def State.anyViolation (s : State) : Bool := (List.range 21).any s.showsViolation

/-- A Halted brick is Stopped: its LOOP (R168), a commit and limits that waited for an update instant take force (R184,
R215). -/
def State.unhalt (n : Nat) (s : State) : State :=
  let t := (s.setBrkState n brkStopped).setFld (BRK_STAT_LOOP n) (s.fld (BRK_TARGET_LOOP n))
  (onlyIf (t.brick n).commit (State.applyStaged n) t).takeLimits n

/-- What a clear does (R256). Before a bond has taken the balls over FAULT_N goes back to its resting state (R45, R51). -/
def State.clearFault (s : State) : State :=
  let t := s.setFld SEQ_FAULT_ACTIVE 0
  let t := { t with
    pins := { t.pins with
      faultN := if s.hasBond then .high else .released
      gates := if s.hasBond then .high else s.pins.gates }
    seq := { t.seq with retryAt := none, off := none } }
  let t := forEach (List.range 16) (fun n t =>
    let t := (t.setFld (BRK_LIM_STAT_FAST_TRIP n) 0).setFld (BRK_LIM_STAT_I2T_TRIP n) 0
    let t := t.updBrick n (fun b => { b with tripped := false })
    onlyIf (t.brkState n == brkHalted) (State.unhalt n) t) t
  t.raise 359

/-- A write of FAULT_CLR = 1: `blocked` says that a fast-limit comparator reads crossed or that an armed comparator of rails
16 to 20 shows a violation. -/
def State.faultClr (blocked : Bool) (s : State) : State :=
  if s.flag SEQ_FAULT_ACTIVE && !blocked && !s.anyViolation then s.clearFault
  else s.flagRaise SEQ_EV_CLR_REF_EV 360

/-- RETRY_TIMER_EXPIRY (R213). -/
def execRetryTimerExpiry (blocked : Bool) (s : State) : Host.Outcome State Fault Refusal :=
  .next (
    if reached s.seq.retryAt s.clk.core then
      let off := { s with seq := { s.seq with retryAt := none } }
      if s.flag SEQ_FAULT_ACTIVE && s.jnl.onlyShorts && !blocked && !s.anyViolation then
        let t := forEach (List.range 16) (fun n t =>
          if (t.brick n).tripped then t.setFld (BRK_LIM_STAT_RETRY_LEFT n) (t.fld (BRK_LIM_STAT_RETRY_LEFT n) - 1) else t) off
        t.clearFault.requestRejoin
      else off
    else s)

/-! ### The head (R245 to R249, R260, R262) -/

/-- Devices of the own string beside the head. -/
def State.stringMembers (s : State) : List Nat :=
  if s.solo then [] else (List.range (s.fld LNK_ADDR_NDEV)).filter (fun p => decide (0 < p))
def State.ownString (s : State) : Nat := s.fld LNK_ADDR_ADDR / 64

/-- A device's answer to a confirmation (R247, R24): the status 0 IN, 1 OUT, 2 MISMATCH, 3 rejoin in progress. A head's own
course moves once its string, or the system, is complete (R249). A mismatch found in the cycle of an all-off is a fault of that
cycle (R255). -/
def State.confirmed (course : Nat) (down : Bool) (s : State) : State × Nat :=
  let s := { s with seq := { s.seq with confirmBy := none } }
  let t := if s.actsHead then s else s.setFld SEQ_STAT_STR_COURSE course
  let was := s.courseBefore
  if !was.2 && !(was.1 == course && s.flag SEQ_STAT_DIR == down) then
    let t := (t.bump SEQ_CNT_MISMATCH_CNT).flagRaise SEQ_EV_MISMATCH_EV 354
    (t.allOff 0x0541 [] none, 2)
  else if s.seq.out then
    if s.seq.kind == .rejoin then (t, 3)
    else if course = 0 ∧ !s.flag SEQ_FAULT_ACTIVE then
      (({ t with seq := { t.seq with out := false } }).seqRefresh, 1)
    else (t, 1)
  else (t, 0)

/-- A line fault is held (R262): its code's sheet, source 368, the report. -/
def State.holdLineFault (v code : Nat) (s : State) : State :=
  (((s.sheet code []).setFld SEQ_STAT_LINE_FAULT v).raise 368).lineReport

/-- A device carries out a link floor (R262). A rejoin in progress is broken off, the courses it ran to are gone down again, and
the device stays OUT (DEDUCED: log entry 28). -/
def State.linkFloor (s : State) : State :=
  let c := s.fld SEQ_STAT_DEV_COURSE
  let t := { s with pins := { s.pins with courseHold := false } }
  if s.seq.out then
    if s.seq.kind == .rejoin then
      (((t.setFld SEQ_STAT_DIR 1).reportRejoin 1).beginRun .linkFloor (s.floorActions s.seq.rejoinTo) 3).settleStep
    else t.send 0x36 5 false []
  else ((t.setFld SEQ_STAT_DIR 1).beginRun .linkFloor (s.floorActions c) 3).settleStep

/-- The head sends a link floor to its string and carries it out itself. -/
def State.giveLinkFloor (s : State) : State :=
  let t := { s with seq := { s.seq with floorGiven := true, floorDone := [], pulseAt := none } }
  (t.send 0x35 2 false []).linkFloor

/-- The head gives a step or a floor on its line (R249, R262): by a link floor while a line fault is held, not at all upwards; an
own pulse not read back low is a stuck-high fault. The head classifies its own pulse (PHASE 1) until it recognises the step. -/
def State.givePulse (pulseSeen : Bool) (s : State) : State :=
  let abandon (t : State) : State :=
    { t with seq := { t.seq with headStep := none, stepping := t.seq.stepping && s.trunked } }
  match s.seq.headStep with
  | none => s
  | some (_, down) =>
    if s.fld SEQ_STAT_LINE_FAULT ≠ 0 then (if down then s.giveLinkFloor else abandon s)
    else if pulseSeen then
      let t := ({ s with seq := { s.seq with pulseAt := some s.clk.core } }).setLine false
      if s.stepsCourse then t.setFld SEQ_STAT_PHASE 1 else t
    else abandon (s.holdLineFault 2 0x0545)

/-- The head gives its step now, or once no device of its string, itself included, is rejoining and the line is idle (R243,
R248). -/
def State.offerPulse (pulseSeen : Bool) (s : State) : State :=
  if s.seq.rejoining.isEmpty && s.seq.kind != .rejoin && (s.lineIdle || s.fld SEQ_STAT_LINE_FAULT != 0) then
    ({ s with seq := { s.seq with pulseHeld := none } }).givePulse pulseSeen
  else { s with seq := { s.seq with pulseHeld := some pulseSeen } }

/-- A step that had to wait is given as soon as it may be; a trunk step that came meanwhile follows. -/
def State.heldPulse (s : State) : State :=
  if s.clk.onRc then s
  else match s.seq.pulseHeld, s.seq.headStep, s.seq.steps with
    | some seen, _, _ => s.offerPulse seen
    | none, none, (step, seen) :: r =>
      ({ s with seq := { s.seq with headStep := some step, steps := r } }).offerPulse seen
    | _, _, _ => s

/-- The system's step is complete (R249): the system course, the end of a descent at course 0 (R258). -/
def State.systemDone (course : Nat) (s : State) : State :=
  let t := { s with seq := { s.seq with stepping := false, unreported := false, trunkAt := none, heads := [] } }
  let t := t.setFld SEQ_STAT_STR_COURSE course
  if course = 0 ∧ s.flag SEQ_STAT_DESCENT then (t.setFld SEQ_STAT_DESCENT 0).raise 369 else t

/-- The reports of the system's step are taken: while it runs, and after its time too, until the next one begins (R249, R258). -/
def State.takesReports (s : State) : Bool := s.seq.stepping || s.seq.unreported

/-- Every enumerated head has reported. -/
def State.allHeads (s : State) : Bool := (List.range (max (s.fld LNK_ADDR_NSTR) 1)).all (fun k => s.seq.heads.contains k)

/-- The head reports its string complete: to itself as course master, whose system course moves only once every head has
reported, else by HEAD_DONE (R249). -/
def State.stringDone (course : Nat) (down : Bool) (s : State) : State :=
  let t := (if s.courseMaster then s else s.setFld SEQ_STAT_STR_COURSE course).raise 366
  let t := { t with seq := { t.seq with headStep := none, pulseAt := none, floorGiven := false, strCourse := course } }
  if s.courseMaster then
    if s.trunked then
      let u := { t with seq := { t.seq with heads := if t.seq.heads.contains 0 then t.seq.heads else 0 :: t.seq.heads } }
      if !s.takesReports then t else if u.allHeads then u.systemDone u.seq.sysCourse else u
    else t.systemDone course
  else t.send 0x33 6 false (leBytes 1 course ++ leBytes 1 (if down then 1 else 0) ++ leBytes 2 0)

/-- The sheets of R260: up to 20 entries each. -/
def State.faultDownSheets (l : List (Nat × Nat)) (s : State) : State :=
  let sorted := l.mergeSort (fun a b => decide (a.1 ≤ b.1))
  forEach (List.range ((l.length + 19) / 20)) (fun k t =>
    t.sheet 0x0561 (leBytes 1 l.length ++ leBytes 1 (20 * k) ++
      (((sorted.drop (20 * k)).take 20).map (fun e => leBytes 2 (e.1 + 4096 * e.2))).flatten)) s

/-- A descent begins (R258): DESCENT, TARGET 0; at course 0 with no step running and no report missing it is over at once. -/
def State.startDescent (s : State) : State :=
  if s.flag SEQ_STAT_DESCENT then s
  else
    let t := (s.setFld SEQ_STAT_DESCENT 1).setFld SEQ_CMD_TARGET 0
    if s.fld SEQ_STAT_STR_COURSE = 0 ∧ !s.takesReports then (t.setFld SEQ_STAT_DESCENT 0).raise 369 else t

/-- COURSE_LINE_IDLE (R247): the line has been idle after a step or a floor; the head confirms, a member that took a hold waits
for it. -/
def execCourseLineIdle (s : State) : Host.Outcome State Fault Refusal :=
  .next (
    if s.boot.power == .starting && !s.pins.courseHigh then s.setLine true
    else if s.active && !s.pins.courseHigh && !s.pins.courseHold then
      let held := s.seq.tookHold
      let t := { s with seq := { s.seq with idleFrom := some s.clk.core, tookHold := false } }.setLine true
      match s.seq.headStep, s.seq.pulseAt with
      | some (c, down), some _ =>
        let t := t.send 0x30 2 false (leBytes 1 c ++ leBytes 1 (if down then 1 else 0) ++ leBytes 2 0)
        let t := { t with seq := { t.seq with pulseAt := none, confirmEnd := some (s.clk.core + coreMs), answers := [] } }
        let r := t.confirmed c down
        { r.1 with seq := { r.1.seq with answers := [(0, if r.2 = 3 then 1 else r.2)] } }
      | _, _ => if s.actsHead || !held then t else { t with seq := { t.seq with confirmBy := some (s.clk.core + 2 * coreMs) } }
    else s)

/-- CONFIRM (R247), which goes on along the string (R405). -/
def execConfirm (course : Framed (BitVec 8)) (down : Bool) (s : State) : Host.Outcome State Fault Refusal :=
  let n := course.body.toNat
  let t := s.passOn course.head 0x30 course.head.address.toNat false (leBytes 1 n ++ leBytes 1 (bit down) ++ leBytes 2 0)
  .next (
    if s.takesIn course.head && !s.unaddressed && !s.isHead then
      let r := t.confirmed n down
      r.1.send 0x31 5 false (leBytes 1 (r.1.fld SEQ_STAT_DEV_COURSE) ++ leBytes 1 (r.1.fld SEQ_STAT_DIR) ++ leBytes 1 r.2 ++ leBytes 1 0)
    else t)

/-- COURSE_ANS (R247, R248). The answer's count and direction repeat what its status says; the head acts on the status. -/
def execCourseAns (address : BitVec 12) (_course : BitVec 8) (_down : Bool) (status : BitVec 2) (rejoin : Bool) (s : State) :
    Host.Outcome State Fault Refusal :=
  let p := address.toNat % 64
  let re := rejoin || status == 3
  .next (
    if s.active && s.actsHead && !s.solo && decide (address.toNat / 64 = s.ownString) then
      let t := { s with seq := { s.seq with
        rejoining := if re then p :: s.seq.rejoining.filter (fun x => !decide (x = p)) else s.seq.rejoining.filter (fun x => !decide (x = p)) } }
      if s.seq.confirmEnd.isSome then
        { t with seq := { t.seq with answers := putPair t.seq.answers p (if status == 3 then 1 else status.toNat) } }
      else t
    else s)

/-- CONFIRM_ANSWER_TIMEOUT (R247, R260). -/
def execConfirmAnswerTimeout (s : State) : Host.Outcome State Fault Refusal :=
  .next (
    match s.seq.headStep with
    | some (c, down) =>
      if reached s.seq.confirmEnd s.clk.core then
        let ans (p : Nat) : Nat := lookupD s.seq.answers p 3
        let addr (p : Nat) : Nat := 64 * s.ownString + p
        let all := 0 :: s.stringMembers
        let t := { s with seq := { s.seq with confirmEnd := none } }
        let t := forEach all (fun p t =>
          if ans p = 2 then
            (((t.sheet 0x0542 (leBytes 2 (addr p))).bump SEQ_HEAD_MIS_CNT).setFld SEQ_HEAD_LAST_ADDR (addr p)).raise 367
          else if ans p = 3 then
            (((t.sheet 0x0543 (leBytes 2 (addr p))).bump SEQ_HEAD_LOST_CNT).setFld SEQ_HEAD_LAST_ADDR (addr p)).raise 367
          else t) t
        let bad := (all.filter (fun p => ans p != 0)).map (fun p => (addr p, ans p))
        let conc := if down then bad.foldl (fun l e => putPair l e.1 e.2) s.seq.concerned else []
        let t := { t with seq := { t.seq with concerned := if c = 0 then [] else conc } }
        let t := if c = 0 ∧ down ∧ !conc.isEmpty then t.faultDownSheets conc else t
        t.stringDone c down
      else s
    | none => s)

/-- CONFIRM_MISSING_TIMEOUT (R247). -/
def execConfirmMissingTimeout (s : State) : Host.Outcome State Fault Refusal :=
  .next (
    if reached s.seq.confirmBy s.clk.core then
      ({ s with seq := { s.seq with confirmBy := none } }).sheet 0x0549 []
    else s)

/-- COURSE_MASTER_STEP (R245, R249): with no step running, no rejoin in progress and the line idle, the next step towards TARGET,
or the floor; no step up while a line fault is held (R246, R262). -/
def execCourseMasterStep (pulseSeen : Bool) (s : State) : Host.Outcome State Fault Refusal :=
  .next (
    let c := s.fld SEQ_STAT_STR_COURSE
    let g := s.fld SEQ_CMD_TARGET
    let next : Nat × Bool := if s.seq.floorReq then (0, true) else if c < g then (c + 1, false) else (c - 1, true)
    let faults := s.fld SEQ_STAT_LINE_FAULT != 0 || s.seq.lines.any (fun p => decide (2 ≤ p.2))
    if s.onCourse && s.courseMaster && !s.seq.stepping && s.seq.headStep.isNone && s.seq.rejoining.isEmpty &&
        s.seq.kind != .rejoin && (s.lineIdle || s.fld SEQ_STAT_LINE_FAULT != 0) && (s.seq.floorReq || c != g) && (next.2 || !faults) then
      let t := { s with seq := { s.seq with
        floorReq := false, stepping := true, unreported := false, sysCourse := next.1, sysDown := next.2, headStep := some next
        heads := [] } }
      let t := if s.seq.floorReq then t.setFld SEQ_CMD_TARGET 0 else t
      let t := if s.trunked then
          ({ t with seq := { t.seq with trunkAt := some s.clk.core } }).send 0x32 4 false
            (leBytes 1 next.1 ++ leBytes 1 (if next.2 then 1 else 0) ++ leBytes 2 0)
        else t
      t.givePulse pulseSeen
    else s)

/-- TRUNK_STEP (R249): a head gives its pulse, or its floor; one that comes before the string's step is complete waits for
it. The frame goes on along the trunk (R405). -/
def execTrunkStep (course : Framed (BitVec 8)) (down floor pulseSeen : Bool) (s : State) : Host.Outcome State Fault Refusal :=
  let step := if floor then (0, true) else (course.body.toNat, down)
  let t := s.passOn course.head 0x32 course.head.address.toNat false (leBytes 1 step.1 ++ leBytes 1 (bit step.2) ++ leBytes 2 0)
  .next (
    if s.takesIn course.head && s.onCourse && s.actsHead && !s.courseMaster then
      if t.seq.headStep.isSome then { t with seq := { t.seq with steps := t.seq.steps ++ [(step, pulseSeen)] } }
      else ({ t with seq := { t.seq with headStep := some step } }).offerPulse pulseSeen
    else t)

/-- HEAD_DONE (R249): it counts for the step it names; one that comes after its step's time still confirms its course until the next
step begins (R258; DEDUCED: log entry 28). -/
def execHeadDone (address : HeadReport) (s : State) : Host.Outcome State Fault Refusal :=
  .next (
    if s.active && s.courseMaster && s.takesReports && s.trunked && decide (address.course.toNat = s.seq.sysCourse) &&
        address.down == s.seq.sysDown then
      let k := address.address.toNat / 64
      let u := { s with seq := { s.seq with heads := if s.seq.heads.contains k then s.seq.heads else k :: s.seq.heads } }
      if u.allHeads then u.systemDone u.seq.sysCourse else u
    else s)

/-- HEAD_REPORT_TIMEOUT (R249). The strings that reported stand at the step's course, and the descent begins from it (DEDUCED: log
entry 28). -/
def execHeadReportTimeout (s : State) : Host.Outcome State Fault Refusal :=
  .next (
    if s.seq.stepping && !s.allHeads && reached (s.seq.trunkAt.map (fun t => t + s.fld SEQ_TMO_STEP_TMO * coreMs)) s.clk.core then
      let t := (s.sheet 0x0547 []).setFld SEQ_STAT_STR_COURSE s.seq.sysCourse
      ({ t with seq := { t.seq with stepping := false, unreported := true, trunkAt := none } }).startDescent
    else s)

/-- STEP_TIMEOUT (R262). -/
def execStepTimeout (s : State) : Host.Outcome State Fault Refusal :=
  .next (
    if !s.pins.courseHigh && s.actsHead && reached (s.seq.pulseAt.map (fun t => t + s.fld SEQ_TMO_STEP_TMO * coreMs)) s.clk.core then
      (s.holdLineFault 1 0x0544).giveLinkFloor
    else s)

/-- The header of a LINK_FLOOR that comes in. It is the head's broadcast, so it comes by the port towards the head; the row tells
neither its EVENT number nor its HOPS, nor a device without an address its head and, on an open ring, that port: free values (log
entry 34). -/
def State.floorFrame (s : State) : FrameHead × State :=
  let r := s.takeFree 21
  let port := if !s.flag LNK_STAT_STR_OPEN then 0 else if s.unaddressed then r.1 % 2 else s.stringPort 0
  let string := if s.unaddressed then r.1 / 2 % 64 else s.ownString
  (⟨BitVec.ofNat 2 port, 2, BitVec.ofNat 12 (64 * string), BitVec.ofNat 8 (r.1 / 128), BitVec.ofNat 8 (r.1 / 2 ^ 15)⟩, r.2)

/-- LINK_FLOOR (R262), which goes on along the string (R405). -/
def execLinkFloor (s : State) : Host.Outcome State Fault Refusal :=
  .next (
    if s.active && !s.isHead then
      let f := s.floorFrame
      if s.portOn f.1.port.toNat then
        let t := f.2.relay f.1 0x35 f.1.address.toNat false []
        if s.unaddressed then t else t.linkFloor
      else s
    else s)

/-- Every device of the string has reported course 0: the string stands there (R262). -/
def State.floorComplete (s : State) : State :=
  if s.seq.floorGiven && s.seq.kind == .none && s.stringMembers.all (fun p => s.seq.floorDone.contains p) then
    let t := if s.courseMaster && !s.trunked then s.setFld SEQ_CMD_TARGET 0 else s
    t.stringDone 0 true
  else s

/-- FLOOR_DONE (R262): a device's report; the head's own run ends with its last action. -/
def execFloorDone (address : BitVec 12) (s : State) : Host.Outcome State Fault Refusal :=
  .next (
    if s.linked && s.actsHead && s.seq.floorGiven then
      let p := address.toNat % 64
      ({ s with seq := { s.seq with floorDone := if s.seq.floorDone.contains p then s.seq.floorDone else p :: s.seq.floorDone } }).floorComplete
    else s)

/-- LINE_STATE (R246). -/
def execLineState (address : BitVec 12) (state : BitVec 2) (s : State) : Host.Outcome State Fault Refusal :=
  .next (
    if s.linked && s.courseMaster then
      { s with seq := { s.seq with lines := putPair s.seq.lines (address.toNat / 64) state.toNat } }
    else s)

/-! ### Commands of the course master and writes of SEQ_CTRL (R245, R246, R262) -/

/-- A line of the system is not idle or a line fault is held. -/
def State.someLineBusy (s : State) : Bool :=
  !(s.pins.courseHigh && s.lineIdle) || s.fld SEQ_STAT_LINE_FAULT != 0 || s.seq.lines.any (fun p => p.2 != 0)

/-- A write of SEQ_CMD (R245, R246). A descent forces TARGET to 0, and a write that is no step up leaves it there (R258; DEDUCED:
log entry 28). -/
def State.seqCmd (w : Word) (s : State) : State :=
  if !s.courseMaster then s.cfgErr SEQ_CMD 0
  else if w.getLsbD 8 then { s with seq := { s.seq with floorReq := true } }
  else
    let g := bitsOf w.toNat 0 8
    let put (t : State) : State := if s.flag SEQ_STAT_DESCENT then t else t.setFld SEQ_CMD_TARGET g
    let refuse (why : Nat) : State := (s.setFld SEQ_STAT_REF_REASON why).flagRaise SEQ_EV_CMD_REF_EV 361
    if s.fld SEQ_STAT_STR_COURSE < g then
      if s.flag SEQ_STAT_DESCENT then refuse 0
      else if !s.seq.lowSupply.isEmpty then refuse 1
      else if s.someLineBusy then refuse 2
      else put s
    else put s

/-- LINE_CLR. -/
def State.lineClr (s : State) : State :=
  if s.pins.courseHigh && s.lineIdle then
    if s.fld SEQ_STAT_LINE_FAULT = 0 then s else (s.setFld SEQ_STAT_LINE_FAULT 0).lineReport
  else s.flagRaise SEQ_EV_CLR_REF_EV 360

/-- CNT_CLR. -/
def State.seqCntClr (s : State) : State := (s.setReg SEQ_CNT 0).setReg SEQ_HEAD 0

/-! ### Rail supervision (R251 to R254) -/

/-- Power-good rises on a rail (R253, R252): UV is armed at the first one after RAIL_ON, unless the RAIL_OFF has begun; a WAIT_PG
for it completes. -/
def State.pgRise (r : Nat) (s : State) : State :=
  let t := { s with seq := { s.seq with pgRun := dropPair s.seq.pgRun r } }
  let t := t.setPg r true
  let t := if (r < 16 ∧ s.brkState r ≠ brkStopping) ∨ 19 ≤ r then t.setFlag (SEQ_RAIL_STAT_UV_ARM r) (s.supervised r) else t
  let t := if 19 ≤ r then t.setRail r 2 else t
  match t.seq.wait with
  | .pg q _ => if q = r then t.finishAction else t
  | _ => t

/-- A rail is on: rails 16 to 18 always (R265). -/
def State.railIsOn (s : State) (r : Nat) : Bool := (decide (16 ≤ r) && decide (r ≤ 18)) || bitsOf (s.fld SEQ_ON_RAIL) r 1 == 1

/-- One comparison of a rail with its window (R251 to R253): the run of violations, power-good falling with the first value outside,
PG_DELAY started by the first value inside. -/
def State.railCompare (r : Nat) (above under : Bool) (s : State) : State :=
  let entry : Bool × Nat × Bool := match s.seq.viol.find? (fun p => decide (p.1 = r)) with
    | some (_, o, k, d) => if o = above then (above, k + 1, d) else (above, 1, false)
    | none => (above, 1, false)
  if above || under then
    ({ s with seq := { s.seq with viol := putPair s.seq.viol r entry, pgRun := dropPair s.seq.pgRun r } }).setPg r false
  else
    let t := { s with seq := { s.seq with viol := dropPair s.seq.viol r } }
    if s.railIsOn r ∧ !s.flag (SEQ_RAIL_STAT_PG r) ∧ !s.seq.pgRun.any (fun p => decide (p.1 = r)) then t.beginDelay r else t

/-- A sample of a rail 0 to 15 is compared, in sense units against 32 × UV and 32 × OV (R251). -/
def State.railSample (r : Nat) (v : Int) (s : State) : State :=
  let s := s.setFld (SEQ_RAIL_STAT_VALUE r) (encodeInt 16 v)
  s.railCompare r (decide (32 * s.railOv r < v)) (decide (v < 32 * s.railUv r))

/-- Microvolts per code of the window comparators of rails 16 to 20 (Table — Rail full scales). -/
def railCodeUv (rail : Nat) : Int := if rail = 16 then 6250 else if rail = 18 then 1000 else 4000

/-- A CLK_HK cycle of the window comparator of a rail 16 to 20 with its regulator at `uv` microvolts (R251). VALUE is the code of
the crossing. -/
def State.railWindow (r : Nat) (uv : Nat) (s : State) : State :=
  let s := s.setFld (SEQ_RAIL_STAT_VALUE r) (min (uv / (railCodeUv r).toNat) 1023)
  s.railCompare r (decide (railCodeUv r * s.railOv r < uv)) (decide ((uv : Int) < railCodeUv r * s.railUv r))

/-- PG_DELAY_EXPIRY (R253): every value has lain inside the window for PG_DELAY; one outside would have restarted the delay. -/
def execPgDelayExpiry (rail : Nat) (s : State) : Host.Outcome State Fault Refusal :=
  .next (
    if decide (rail ≤ 20) && (s.active || s.boot.power == .standby) && s.railIsOn rail && !s.flag (SEQ_RAIL_STAT_PG rail) &&
        reached ((s.seq.pgRun.find? (fun p => decide (p.1 = rail))).map Prod.snd) s.clk.core then
      s.pgRise rail
    else s)

/-- Code of a violation (R44, R252). -/
def railCode (rail : Nat) (above : Bool) : Nat :=
  let base := match rail with
    | 16 => 0x0110 | 17 => 0x0120 | 18 => 0x0150 | 19 => 0x0130 | 20 => 0x0140 | _ => 0x0510
  base + (if above then 1 else 0)

/-- Consecutive violations that count (R252): 4 samples, or 8 CLK_HK cycles. -/
def railNeed (rail : Nat) : Nat := if rail < 16 then 4 else 8

/-- PRE, IO and CORE are switched off at their own overvoltage, CORE and ANA with PRE, their input (R44); the brown-out reset that
follows the loss of CORE comes with the next RC cycle (`State.coreLost`, R43). One that falls into an all-off already ACTIVE
switches off as well (DEDUCED: log entry 28). -/
def State.cutRegulator (rail : Nat) (s : State) : State :=
  match rail with
  | 16 => { s.setRail 16 0 with pins := { s.pins with pre := false, core := false, ana := false } }
  | 17 => { s.setRail 17 0 with pins := { s.pins with io := false } }
  | 18 => { s.setRail 18 0 with pins := { s.pins with core := false } }
  | _ => s

/-- A violation that has lasted long enough on an armed threshold is a supervisor fault, once in its run (R252, R44). -/
def State.judgeRail (rail : Nat) (s : State) : State :=
  match s.seq.viol.find? (fun p => decide (p.1 = rail)) with
  | some (_, above, k, d) =>
    if (if above then s.ovArmed rail else s.uvArmed rail) ∧ railNeed rail ≤ k ∧ !d then
      let t := s.allOff (railCode rail above) (leBytes 1 rail) none
      let t := { t with seq := { t.seq with viol := putPair t.seq.viol rail (above, k, true) } }
      if above then t.cutRegulator rail else t
    else s
  | none => s

/-- The regulators run, and their comparators with them: from the end of P1 (R109, R252). -/
def State.railsRun (s : State) : Bool :=
  match s.boot.power with
  | .active => true
  | .standby => true
  | .starting => decide (2 ≤ s.boot.phase)
  | _ => false

/-- RAIL_VIOLATION (R251, R252, R44): of a rail 0 to 15, whose samples have been compared as they came, the violation counts; of a
rail 16 to 20 the comparator has seen the given microvolts in successive CLK_HK cycles. -/
def execRailViolation (rail : Nat) (microvolts : List Nat) (s : State) : Host.Outcome State Fault Refusal :=
  .next (
    if !s.railsRun || decide (20 < rail) then s
    else if rail < 16 then s.judgeRail rail
    else forEach microvolts (fun uv t => (t.railWindow rail uv).judgeRail rail) s)

/-! ### Margins (R257) -/

/-- The margin a rail takes from the pins and its MRG field. -/
def State.marginOf (s : State) (r : Nat) : Int :=
  if 16 ≤ r ∧ r ≤ 18 then 0
  else
    let own := s.sfld (SEQ_RAIL_MRG_MRG r)
    match s.tile 5 r with
    | some t =>
      if t.u8 1 / 2 % 2 = 1 ∧ s.flag SEQ_MRG_PIN_UP ≠ s.flag SEQ_MRG_PIN_DN then
        (if s.flag SEQ_MRG_PIN_UP then t.s8 0xC else t.s8 0xD)
      else own
    | none => own

/-- Put every rail's margin in force, on a running LDO too; source 364 when any M changes. -/
def State.applyMargins (s : State) : State :=
  let t := forEach (List.range 21) (fun r t => t.setFld (SEQ_RAIL_MRG_M r) (encodeInt 8 (s.marginOf r))) s
  let t := forEach [19, 20] (fun r t => onlyIf ((t.auxOut r).isSome && t.margin r != s.margin r) (State.setAux r true) t) t
  onlyIf ((List.range 21).any (fun r => decide (s.marginOf r ≠ s.margin r))) (State.raise 364) t

/-- MARGIN_PIN_CHANGE (R257): the debounced levels. -/
def execMarginPinChange (up dn : Bool) (s : State) : Host.Outcome State Fault Refusal :=
  .next (
    if s.active then
      let t := { s with pins := { s.pins with mrgUp := up, mrgDn := dn } }
      let t := (t.setFlag SEQ_MRG_PIN_UP up).setFlag SEQ_MRG_PIN_DN dn
      (onlyIf (up && dn) (State.flagRaise SEQ_EV_MRG_PIN_EV 364) t).applyMargins
    else s)

/-! ### Supply loss (R258, R259) -/

/-- The course master takes a report. -/
def State.supplyReport (address : Nat) (low : Bool) (s : State) : State :=
  if low then
    ({ s with seq := { s.seq with lowSupply := if s.seq.lowSupply.contains address then s.seq.lowSupply else address :: s.seq.lowSupply } }).startDescent
  else { s with seq := { s.seq with lowSupply := s.seq.lowSupply.filter (fun a => !decide (a = address)) } }

/-- Report the own supply to the course master. -/
def State.reportSupply (low : Bool) (s : State) : State :=
  if s.courseMaster then s.supplyReport (s.fld LNK_ADDR_ADDR) low
  else s.send 0x34 6 false (leBytes 1 (if low then 1 else 0) ++ leBytes 3 0)

/-- SUPPLY_LOW (R258): VSYS has stayed below the supply-low threshold, which lies within 5.32 V to 5.48 V (R466). -/
def execSupplyLow (vsys : Nat) (s : State) : Host.Outcome State Fault Refusal :=
  .next (
    if s.active && !s.flag SEQ_STAT_SUP_LOW then
      let r := s.within 5320 5479 vsys
      if r.1 then r.2
      else
        let t := { r.2 with boot := { s.boot with vsys := vsys } }
        ((((t.setFld SEQ_STAT_SUP_LOW 1).flagRaise SEQ_EV_SUP_EV 362).sheet 0x0548 []).reportSupply true)
    else s)

/-- SUPPLY_GOOD (R259). -/
def execSupplyGood (vsys : Nat) (s : State) : Host.Outcome State Fault Refusal :=
  .next (
    if s.active && s.flag SEQ_STAT_SUP_LOW then
      let r := s.aboveStart vsys
      if r.1 then
        let t := { r.2 with boot := { s.boot with vsys := vsys } }
        ((t.setFld SEQ_STAT_SUP_LOW 0).flagRaise SEQ_EV_SUP_EV 362).reportSupply false
      else r.2
    else s)

/-- SUPPLY (R258, R259): a report reaches the course master. -/
def execSupply (address : BitVec 12) (low : Bool) (s : State) : Host.Outcome State Fault Refusal :=
  .next (if s.linked && s.courseMaster then s.supplyReport address.toNat low else s)

/-- ALLOFF (R255, R408, R409, R420): the first copy of an all-off frame from another device goes on, and an addressed device performs
it. -/
def execAlloff (code : BitVec 16) (source : FrameHead) (unaddressed : Bool) (s : State) : Host.Outcome State Fault Refusal :=
  let src := if unaddressed then 0x8000 else source.address.toNat
  .next (
    if s.active && s.portOn source.port.toNat && (unaddressed || !s.ownReturn source) then
      let r := s.firstCopy 0x50 src source.tag.toNat
      if r.1 then
        let t := r.2.relay source 0x50 src true (leBytes 2 code.toNat ++ leBytes 1 (source.mode.toNat - 1) ++ leBytes 1 0)
        if s.unaddressed then t else t.allOff code.toNat [] (some (src % 0x8000, unaddressed))
      else r.2
    else s)

/-! ### The end of the timeline (R48, R248) -/

/-- The 2 µs of R48 are over: AUX off, gates, GPIO power-control outputs and COURSE released; CASC_OUT follows CASC_IN. -/
def State.endTimeline (s : State) : State :=
  { s with
    pins := { s.pins with
      gates := if s.pins.gates == .low then .released else s.pins.gates
      aux1 := none, aux2 := none, dswG := .released, preG := .released, pinSet := [], courseHold := false
      cascOut := if !s.hasBond then s.pins.cascOut else if s.pins.cascIn then .high else .low }
    seq := { s.seq with timeline := false } }

end Sys2Proof.Machine
end

