-- ==== Sys2Proof/Machine/Cpm.lean ====
section
/-! DEFINITION. Charge and power path (R345 to R368): the supply path, the module switch and its probe, the SERVICE button,
charge sessions. -/
namespace Sys2Proof.Machine

/-! ### The supply path (R345 to R350) -/

/-- PPA_G, PPB_G and AUXEN are driven: from the end of P1 until the next L0 or L1 reset, or Dormant (R345, R45). -/
def State.pathDriven (s : State) : Bool :=
  match s.boot.power with
  | .active => true
  | .standby => true
  | .starting => decide (2 ≤ s.boot.phase)
  | _ => false

/-- A source's fields: qualified, long qualification. -/
def qualFld (b : Bool) : Fld := if b then CPM_PP_STAT_B_QUAL else CPM_PP_STAT_A_QUAL
def longFld (b : Bool) : Fld := if b then CPM_PP_STAT_B_LONG else CPM_PP_STAT_A_LONG
/-- A source as USE names it. -/
def useCode (b : Bool) : Nat := if b then 2 else 1
def State.qualified (s : State) (b : Bool) : Bool := s.flag (qualFld b)

def ballOf (high : Bool) : Ball := if high then .high else .low

/-- The balls of the supply path follow it: not in loader mode, which keeps them released (R134). -/
def State.pathShown (s : State) : Bool := s.pathDriven && s.boot.hold != .loader

/-- AUXEN (R350). -/
def State.driveAux (s : State) : State :=
  if s.pathShown then
    let low := s.flag CPM_PP_CTRL_AUX_MODE && s.fld CPM_PP_STAT_USE == 1 && s.qualified false
    { s with pins := { s.pins with auxEn := ballOf (!low) } }
  else s

/-- The FETs as driven: those of the named sources are on. -/
def State.driveGates (a b : Bool) (s : State) : State :=
  if s.pathShown then { s with pins := { s.pins with ppaG := ballOf a, ppbG := ballOf b } } else s

/-- The balls of the path take the levels of the source in use, none during a handover. -/
def State.drivePath (s : State) : State :=
  let on := s.cpm.handover.isNone
  (s.driveGates (on && s.fld CPM_PP_STAT_USE == 1) (on && s.fld CPM_PP_STAT_USE == 2)).driveAux

/-- USE changes, the gates with it; source 582 (R346, R347, R368). -/
def State.setUse (u : Nat) (s : State) : State :=
  let t := (s.driveGates (u == 1) (u == 2))
  let was := s.fld CPM_PP_STAT_USE
  (onlyIf (was != u) (fun t => (t.setFld CPM_PP_STAT_USE u).raise 582) t).driveAux

/-- A handover to source `b` begins: the other gate goes low (R347). -/
def State.beginHandover (b planned : Bool) (s : State) : State :=
  ({ s with cpm := { s.cpm with handover := some b, planned := planned } }).driveGates false false

/-- The choice of R346 with no handover in progress: nothing in use is replaced at once, a source in use by a planned
handover to the preferred one. -/
def State.choosePath (s : State) : State :=
  if s.cpm.handover.isSome || !s.pathDriven then s
  else
    let p := s.flag CPM_PP_CTRL_PREF
    let u := s.fld CPM_PP_STAT_USE
    if u = 0 then
      if s.qualified p then s.setUse (useCode p)
      else if s.qualified (!p) then s.setUse (useCode (!p))
      else s.setUse 0
    else if s.qualified p ∧ u ≠ useCode p then s.beginHandover p true
    else s

/-- The supply path reacts: from the end of P0. -/
def State.pathRuns (s : State) : Bool :=
  s.boot.power == .active || s.boot.power == .standby || (s.boot.power == .starting && decide (1 ≤ s.boot.phase))

/-- The qualification of a source counts from this RC tick (R345, R348). -/
def State.restartQual (b : Bool) (s : State) : State :=
  { s with cpm := if b then { s.cpm with qualB := s.clk.rc } else { s.cpm with qualA := s.clk.rc } }

/-- A source can have qualified: 10 ms, or 1 s under the longer qualification, have passed since the end of P0, its last loss or
the last handover (R345, R348, R349). -/
def State.qualDue (s : State) (b : Bool) : Bool :=
  decide ((if b then s.cpm.qualB else s.cpm.qualA) + (if s.flag (longFld b) then 1000000 else 10000) * rcUs ≤ s.clk.rc)

/-- SOURCE_QUALIFIED (R345, R347, R348): ignored during a handover. -/
def execSourceQualified (b : Bool) (s : State) : Host.Outcome State Fault Refusal :=
  .next (
    if s.pathRuns && s.cpm.handover.isNone && !s.qualified b && s.qualDue b then
      let t := (s.setFld (qualFld b) 1).raise 583
      let at0 := if s.flag (longFld b) then some s.clk.rc else none
      let t := { t with cpm := if b then { t.cpm with longB := at0 } else { t.cpm with longA := at0 } }
      t.choosePath.driveAux
    else s)

/-- The losses of the last 10 s of SYSTIME. -/
def recentLosses (now : Time) (l : List Time) : List Time :=
  l.filter (fun t => decide (ticksBetween t now ≤ 10 * 2 ^ 28))

/-- A source is lost (R345, R349): unqualified; the fourth loss in 10 s starts the longer qualification, whether or not the source had
qualified again since the one before. -/
def State.loseSource (b : Bool) (s : State) : State :=
  let t := onlyIf (s.qualified b) (fun t => (t.setFld (qualFld b) 0).raise 583) (s.restartQual b)
  let l := s.now :: recentLosses s.now (if b then s.cpm.lossesB else s.cpm.lossesA)
  let t := { t with cpm := if b then { t.cpm with lossesB := l, longB := none } else { t.cpm with lossesA := l, longA := none } }
  if 4 ≤ l.length ∧ !s.flag (longFld b) then
    ((t.setFld (longFld b) 1).flagRaise CPM_PP_STAT_CHAT_EV 586).sheet 0x0932 []
  else t

/-- SOURCE_LOST (R347 to R349). During a handover only a loss of the incoming source of a planned one counts: it turns back
to the source that was in use. The loss of an unqualified source restarts its qualification and counts too (R349, R366). -/
def execSourceLost (b : Bool) (s : State) : Host.Outcome State Fault Refusal :=
  .next (
    if s.pathRuns && s.qualified b then
      match s.cpm.handover with
      | some c =>
        if c = b ∧ s.cpm.planned then
          let t := s.loseSource b
          if t.qualified (!b) then t.beginHandover (!b) false
          else ({ t with cpm := { t.cpm with handover := none } }).setUse 0
        else s
      | none =>
        let t := s.loseSource b
        if s.fld CPM_PP_STAT_USE = useCode b then
          let t := (t.setFld CPM_PP_STAT_LOSS_EV 1).sheet (if b then 0x0931 else 0x0930) []
          let t := if t.qualified (!b) then t.beginHandover (!b) false else t.setUse 0
          t.driveAux
        else t
    else if s.pathRuns && s.cpm.handover.isNone then s.loseSource b
    else s)

/-- SOURCE_OV (R345). -/
def execSourceOv (b : Bool) (s : State) : Host.Outcome State Fault Refusal :=
  .next (
    if s.pathRuns && s.qualified b then (s.flagRaise CPM_PP_STAT_OV_EV 586).sheet 0x0933 []
    else s)

/-- HANDOVER_DONE (R347, R348): the incoming gate is on; the qualification of what is not qualified starts only now; a PREF
written meanwhile takes effect. -/
def execHandoverDone (s : State) : Host.Outcome State Fault Refusal :=
  .next (
    match s.cpm.handover with
    | none => s
    | some b =>
      let t := ({ s with cpm := { s.cpm with handover := none, planned := false } }).setUse (useCode b)
      let t := forEach ([false, true].filter (fun c => !t.qualified c)) State.restartQual t
      ((t.bump CPM_PP_STAT_HO_CNT).setFld CPM_PP_STAT_HO_EV 1).choosePath)

/-- LONG_QUAL_END (R349): 60 s of the RC oscillator since it qualified. -/
def execLongQualEnd (b : Bool) (s : State) : Host.Outcome State Fault Refusal :=
  .next (
    if s.flag (longFld b) && s.qualified b &&
        reached ((if b then s.cpm.longB else s.cpm.longA).map (fun t => t + 60000000 * rcUs)) s.clk.rc then
      let t := s.setFld (longFld b) 0
      { t with cpm := if b then { t.cpm with longB := none } else { t.cpm with longA := none } }
    else s)

/-- What an accepted write of CPM_PP_CTRL does (R347, R350). -/
def State.ppCtrlWritten (s : State) : State := s.driveAux.choosePath

/-! ### Module switch and probe (R351 to R354) -/

/-- A tap is open, or the module's stack value is too low (R352). -/
def State.moduleMissing (s : State) : Bool :=
  decide (0 < s.cells) &&
    (s.reg MSR_OW_RES != 0 || s.flag MSR_OW_STAT_OPEN_32 || decide (s.cpm.stackV < s.cells * 1000))

/-- PROBE changes to passed or failed: source 581. -/
def State.setProbe (v : Nat) (s : State) : State := (s.setFld CPM_SW_STAT_PROBE v).raise 581

/-- A failed probe (R353); a PRE_G that an all-off of the cycle has released stays so (R351). -/
def State.probeFail (code : Nat) (s : State) : State :=
  let t : State := { s with
    pins := { s.pins with preG := if s.pins.preG = Ball.released then Ball.released else Ball.low }
    cpm := { s.cpm with probeAt := none }
    seq := { s.seq with off := s.seq.off.map (fun m => { m with probe := none }) } }
  (t.setProbe 3).allOff code [] none

/-- The pass: DSW_G is driven high (R352). -/
def State.probePass (s : State) : State :=
  let t := { s with
    pins := { s.pins with dswG := .high }
    cpm := { s.cpm with probeAt := none, closedAt := some s.clk.core } }
  t.setProbe 2

/-- The probe watches a channel. -/
def State.probeWatches (s : State) : Bool := s.probeCh != 0xFF && decide (0 < s.cells)

/-- `num ÷ den` of V_S is reached by V_L = `v` × V_GAIN (Q16.16, in µV). -/
def State.probeReached (s : State) (v : Int) (num den : Int) : Bool :=
  decide (s.cpm.probeVs * 1000 * 65536 * num ≤ v * s.meterVGain * den)

/-- The newest sample of PROBE_CH; 0 before any. -/
def State.probeSample (s : State) : Int := ((s.completedSample s.probeCh).map Prod.snd).getD 0

/-- A sample of PROBE_CH (R352, PROBE_PASS). -/
def State.probeStep (ch : Nat) (v : Int) (s : State) : State :=
  if s.cpm.probeAt.isSome && s.probeWatches && ch == s.probeCh && s.probeReached v 95 100 then s.probePass else s

/-- MODULE_CLOSE (R352). In the cycle of an all-off a failed open check is a fault all the same (R255). -/
def execModuleClose (s : State) : Host.Outcome State Fault Refusal :=
  .next (
    match s.runBefore.nextAction 7 with
    | none => s
    | some a =>
      if s.probeBefore.2 then (if s.offNow.isSome then s else s.finishAction)
      else if s.moduleMissing then s.probeFail 0x0910
      else if s.offNow.isSome then s
      else
        ({ s with
          pins := { s.pins with preG := .high }
          seq := { s.seq with wait := .module }
          cpm := { s.cpm with
            probeAt := some s.clk.core, t50Done := false, probeTime := a.arg * coreUs, probeVs := s.cpm.stackV } }).setFld
          CPM_SW_STAT_PROBE 1)

/-- The ticks of PROBE_T50. -/
def State.t50Ticks (s : State) : Nat := s.probeT50 * coreUs

/-- PROBE_T50_EXPIRY (R352). -/
def execProbeT50Expiry (s : State) : Host.Outcome State Fault Refusal :=
  .next (
    if s.probeWatches && !s.cpm.t50Done && decide (s.t50Ticks < s.cpm.probeTime) &&
        reached (s.probeBefore.1.map (fun t => t + s.t50Ticks)) s.clk.core then
      if s.probeReached s.probeSample 1 2 then { s with cpm := { s.cpm with t50Done := true } }
      else s.probeFail 0x0911
    else s)

/-- PROBE_TIMEOUT (R352). -/
def execProbeTimeout (s : State) : Host.Outcome State Fault Refusal :=
  .next (
    if reached (s.probeBefore.1.map (fun t => t + s.cpm.probeTime)) s.clk.core then
      let pass := if s.offNow.isSome then s else s.probePass
      if !s.probeWatches then pass
      else if s.probeReached s.probeSample 95 100 then pass
      else if s.cpm.probeTime ≤ s.t50Ticks ∧ !s.probeReached s.probeSample 1 2 then s.probeFail 0x0911
      else s.probeFail 0x0912
    else s)

/-- PRECHARGE_OFF_TIMER (R352). -/
def execPrechargeOffTimer (s : State) : Host.Outcome State Fault Refusal :=
  .next (
    if reached (s.cpm.closedAt.map (fun t => t + 10 * coreMs)) s.clk.core then
      let t := { s with pins := { s.pins with preG := .low }, cpm := { s.cpm with closedAt := none } }
      if t.seq.wait == .module then t.finishAction else t
    else s)

/-- DSW_G and PRE_G go low; an all-off's release stands (R351, R354). -/
def State.openModule (s : State) : State :=
  let low (b : Ball) : Ball := if b == .released then .released else .low
  let t := { s with pins := { s.pins with dswG := low s.pins.dswG, preG := low s.pins.preG }
                    cpm := { s.cpm with closedAt := none, probeAt := none } }
  t.endSession 8

/-- MODULE_OPEN (R354). -/
def execModuleOpen (s : State) : Host.Outcome State Fault Refusal :=
  .next (
    match s.nextAction 8 with
    | none => s
    | some _ =>
      let t := { s with pins := { s.pins with dswG := .low, preG := .low } }
      t.openModule.finishAction)

/-! ### The SERVICE button (R355 to R357) -/

/-- The length of the press in CLK_HK ticks. -/
def State.pressTicks (s : State) (t : Nat) : Nat := s.clk.core / 64 - t / 64

/-- SERVICE_PRESS (R355): a press begins; ignored during the 2 s of a switch-cycle request. -/
def execServicePress (s : State) : Host.Outcome State Fault Refusal :=
  .next (
    if s.active && s.cpm.pressAt.isNone && s.cpm.switchAt.isNone && !s.cpm.ship then
      ({ s with cpm := { s.cpm with pressAt := some s.clk.core } }).setFld CPM_SW_STAT_PRESSED 1
    else s)

/-- A press has been classified: HELD, PRESSED, source 584. -/
def State.pressEnd (t : Nat) (s : State) : State :=
  let ms10 := min ((s.clk.core - t) / (10000 * coreUs)) 32767
  ((({ s with cpm := { s.cpm with pressAt := none } }).setFld CPM_SW_STAT_PRESSED 0).setFld CPM_SW_STAT_HELD ms10).raise 584

/-- SERVICE_RELEASE (R355, R356): 8 s and 20 s are 30,000,000 and 75,000,000 ticks of CLK_HK. -/
def execServiceRelease (s : State) : Host.Outcome State Fault Refusal :=
  .next (
    match s.cpm.pressAt with
    | none => s
    | some t =>
      if s.active then
        let u := s.pressEnd t
        if s.pressTicks t ≤ 30000000 then u.setFld CPM_SW_STAT_LAST_PRESS 1
        else
          let u := u.setFld CPM_SW_STAT_LAST_PRESS 2
          let u := if s.upBefore then u.allOff 0x0940 [] none else u
          let u := u.openModule
          { u with cpm := { u.cpm with switchAt := some (s.clk.core + 2000 * coreMs) } }
      else s)

/-- SERVICE_HELD_20S (R355, R357). -/
def execServiceHeld20s (s : State) : Host.Outcome State Fault Refusal :=
  .next (
    match s.cpm.pressAt with
    | none => s
    | some t =>
      if s.active && decide (75000000 ≤ s.pressTicks t) then
        let u := s.pressEnd t
        let u := if s.upBefore then u.allOff 0x0941 [] none else u
        let u := u.openModule.sheet 0x1006 []
        { u with cpm := { u.cpm with ship := true } }
      else s)

/-! ### Charge sessions (R358 to R364) -/

/-- mA and mV in sense units, towards zero (R358). -/
def State.iUnits (s : State) (ma : Rat) : Int := truncRat (ma * 1000 * 65536 / s.meterIGain)
def State.vUnits (s : State) (mv : Rat) : Int := truncRat (mv * 1000 * 65536 / s.meterVGain)
/-- Thousandths of the rating in sense units. -/
def State.ratingUnits (s : State) (permille : Nat) : Int := s.iUnits ((s.capacity : Rat) * permille / 1000)

/-- Store a number of sense units that a register of `width` bits shows; one it cannot hold is a free value (DESIGN
CHOICE: log entry 32). -/
def State.showUnits (f : Fld) (hi v : Int) (s : State) : State :=
  if 0 ≤ v ∧ v ≤ hi then s.setFld f v.toNat
  else
    let r := s.takeFree f.width
    r.2.setFld f r.1

/-- The manager writes the leader's target (R361): ranked as a host-port write; a number no target can hold is a free
value. -/
def State.managerWrite (loop : Bool) (v : Int) (s : State) : State :=
  let t := { s with cpm := { s.cpm with written := some (loop, v) } }
  if -32768 ≤ v ∧ v ≤ 32767 then t.putTarget s.chgBrick loop (encodeInt 16 v) 2
  else
    let r := t.takeFree 16
    r.2.putTarget s.chgBrick loop r.1 2

/-- I_lim without the search limit (R360). -/
def State.chargeCap (s : State) : Int :=
  let cc := s.iUnits s.ccI
  let k := s.iUnits (s.ccI * (16 - s.fld THM_STAT_K : Nat) / 16)
  let l := s.iUnits ((s.fld CEL_BAL_LIM_L : Rat) * s.capacity / 16)
  min cc (min k l)

/-- I_S and I_lim. -/
def State.searchLimit (s : State) : Int := s.cpm.iS
def State.chargeLimit (s : State) : Int := if s.chgMode = 0 then min s.chargeCap s.searchLimit else s.chargeCap

/-- The mean of a history over the last `ms` milliseconds. -/
def State.meanOver (s : State) (h : List (Nat × Int)) (ms : Nat) : Option Rat :=
  let l := h.filter (fun p => decide (s.clk.core ≤ p.1 + ms * coreMs))
  if l.isEmpty then none else some ((l.foldl (fun a p => a + p.2) 0 : Int) / (l.length : Rat))

/-- A comparison with a mean; one that has no sample holds of nothing. -/
def meets (m : Option Rat) (p : Rat → Bool) : Bool :=
  match m with
  | some x => p x
  | none => false

/-- PHASE changes: source 578. -/
def State.setChargePhase (p : Nat) (s : State) : State :=
  if s.fld CPM_CHG_STAT_PHASE = p then s else (s.setFld CPM_CHG_STAT_PHASE p).raise 578

/-- The search limit I_S takes a value, and CPM_CHG_LIM shows it (R360). -/
def State.takeSearchLimit (i : Int) (s : State) : State :=
  ({ s with cpm := { s.cpm with iS := i } }).showUnits CPM_CHG_LIM_I_S 65535 i

/-- A search ends: the next one is due 60 s later (R362). -/
def State.endSearch (s : State) : State :=
  ({ s with cpm := { s.cpm with dwellAt := none, searchAt := some (s.clk.core + 60000 * coreMs) } }).setFld
    CPM_CHG_STAT_SEARCHING 0

/-- One turn of the search loop's head (R362): the limit rises by a step, up to the cap. -/
def State.searchRaise (s : State) : State :=
  let i := s.searchLimit + s.ratingUnits s.searchStep
  if s.chargeCap ≤ i then (s.takeSearchLimit s.chargeCap).endSearch
  else
    let t := s.takeSearchLimit i
    { t with cpm := { t.cpm with dwellAt := some (s.clk.core + 200 * coreMs) } }

/-- A search starts (R362). -/
def State.beginSearch (s : State) : State :=
  let v := if s.busVCh = 0xFF then none else s.meanOver s.cpm.busHist 100
  (({ s with cpm := { s.cpm with vRef := v, searchAt := none } }).setFld CPM_CHG_STAT_SEARCHING 1).searchRaise

/-- CPM_CHG_LIM shows I_lim as an evaluation forms it (R360). -/
def State.showLimit (s : State) : State := s.showUnits CPM_CHG_LIM_I_LIM 65535 s.chargeLimit

/-- The first condition of R359 that fails. -/
def State.startRefusal (s : State) : Nat :=
  if s.sessionOpen then 1
  else if 2 ≤ s.chgMode then 2
  else if s.chgMode = 0 ∧ s.brkState s.chgBrick ≠ brkRunning then 3
  else if s.chgMode = 0 ∧ s.pins.dswG ≠ .high then 4
  else if s.flag SEQ_FAULT_ACTIVE then 5
  else if s.relayInProgress then 6
  else 0

/-- A write of CPM_CTRL.START (R359, R361, R362, R365). -/
def State.chargeStart (s : State) : State :=
  let why := s.startRefusal
  if why ≠ 0 then (s.setFld CPM_CHG_STAT_REF_REASON why).flagRaise CPM_CHG_STAT_REF_EV 585
  else
    let t := { s with cpm := { s.cpm with
      openAt := s.now, chargeAt := s.netCharge, evaluated := s.nowU * 100 / 2 ^ 28
      lowSince := none, written := none, dwellAt := none, searchAt := none } }
    let t := ((t.takeSearchLimit (if s.chgMode = 0 then s.ratingUnits s.searchStep else 0)).raise 576).setChargePhase 1
    if s.chgMode = 0 then
      (t.setFlag CPM_CHG_STAT_ARMED (s.trigSrc == s.chgBrick + 1)).beginSearch
    else if s.chgGpio < 16 then t.drivePin s.chgGpio (!s.gpioOff s.chgGpio)
    else t

/-- A write of CPM_CTRL.STOP (R364). -/
def State.chargeStop (s : State) : State := s.endSession 1

/-- 60 s of SYSTIME with the termination condition met at every evaluation (R361, R363). -/
def State.termination (low : Bool) (s : State) : State :=
  if low then
    let since := s.cpm.lowSince.getD s.now
    if decide (60 * 2 ^ 28 ≤ ticksBetween since s.now) then s.endSession 2
    else { s with cpm := { s.cpm with lowSince := some since } }
  else { s with cpm := { s.cpm with lowSince := none } }

/-- CC to CV (R361): LOOP 0 with CV_V, PHASE CV; a search in progress is abandoned, and I_S keeps its value (R362, R366). -/
def State.enterCv (s : State) : State :=
  let t := (s.managerWrite false (s.vUnits s.cvV)).setChargePhase 2
  let t := { t with cpm := { t.cpm with lowSince := none } }
  if s.flag CPM_CHG_STAT_SEARCHING then t.endSearch else t

/-- A completed sample in the manager's histories, kept for 1 s (R361 to R363); in CC the leader's voltage feedback sample that
reaches CV_V changes to CV at once (R361). -/
def State.chargeSample (ch tick : Nat) (v : Int) (s : State) : State :=
  if s.chgMode ≤ 1 then
    let put (l : List (Nat × Int)) : List (Nat × Int) :=
      (tick, v) :: l.filter (fun p => decide (s.clk.core ≤ p.1 + 1000 * coreMs))
    let hit := s.sessionOpen && s.chgMode == 0 && s.fld CPM_CHG_STAT_PHASE == 1 && s.fbChannel s.chgBrick 0 == some ch &&
      decide (s.vUnits s.cvV ≤ v)
    onlyIf hit State.enterCv { s with cpm := { s.cpm with
      busHist := if ch = s.busVCh then put s.cpm.busHist else s.cpm.busHist
      curHist := if ch = s.meterCurrentCh then put s.cpm.curHist else s.cpm.curHist
      volHist := if ch = s.meterVoltageCh then put s.cpm.volHist else s.cpm.volHist } }
  else s

/-- An evaluation in MODE 0 (R361). -/
def State.evalConverter (s : State) : State :=
  let lim := s.chargeLimit
  let mean := s.meanOver s.cpm.curHist 10
  if s.fld CPM_CHG_STAT_PHASE = 1 then
    if s.cpm.written = some (true, lim) then s else s.managerWrite true lim
  else if meets mean (fun m => decide ((lim : Rat) < m)) then
    let t := (s.managerWrite true lim).setChargePhase 1
    { t with cpm := { t.cpm with lowSince := none } }
  else s.termination (meets mean (fun m => decide (m < s.ratingUnits s.termI)))

/-- An evaluation in MODE 1 (R363). -/
def State.evalCharger (s : State) : State :=
  let i1 := s.meanOver s.cpm.curHist 1000
  let v10 := s.meanOver s.cpm.volHist 10
  let i10 := s.meanOver s.cpm.curHist 10
  let cv : Rat := s.vUnits s.cvV
  if meets i1 (fun m => decide (((s.chargeLimit + s.ratingUnits s.overTol : Int) : Rat) < m)) then
    (s.sheet 0x0921 []).endSession 9
  else if meets v10 (fun m => decide (cv * 101 / 100 < m)) then (s.sheet 0x0922 []).endSession 10
  else s.termination (meets v10 (fun v => decide (cv * 995 / 1000 ≤ v)) &&
    meets i10 (fun m => decide (m < s.ratingUnits s.termI)))

/-- CHARGE_EVAL (R360 to R363): a multiple of 10 ms of SYSTIME has been reached with a session open. -/
def execChargeEval (s : State) : Host.Outcome State Fault Refusal :=
  let k := s.nowU * 100 / 2 ^ 28
  .next (
    if s.sessionOpen && s.chgMode ≤ 1 && s.cpm.evaluated != k then
      let t := ({ s with cpm := { s.cpm with evaluated := k } }).showLimit
      if s.chgMode = 0 then t.evalConverter else t.evalCharger
    else s)

/-- SEARCH_DWELL_END (R362): droop and stuck are judged after the 200 ms. -/
def execSearchDwellEnd (s : State) : Host.Outcome State Fault Refusal :=
  .next (
    if s.sessionOpen && s.fld CPM_CHG_STAT_PHASE == 1 && reached s.cpm.dwellAt s.clk.core then
      let step := s.ratingUnits s.searchStep
      let droop := match s.cpm.vRef with
        | none => false
        | some v => meets (s.meanOver s.cpm.busHist 20) (fun m => decide (v * s.droop / 1000 < v - m))
      let target : Int := match s.cpm.written with
        | some (_, v) => v
        | none => 0
      let stuck := meets (s.meanOver s.cpm.curHist 20) (fun m => decide (m < (target : Rat) - (step : Rat) / 2))
      if droop || stuck then
        (s.takeSearchLimit (max (s.searchLimit - 2 * step) step)).endSearch.flagRaise CPM_CHG_STAT_SEARCH_EV 579
      else s.searchRaise
    else s)

/-- SEARCH_REPEAT (R362): 60 s after a search ended, in PHASE CC. -/
def execSearchRepeat (s : State) : Host.Outcome State Fault Refusal :=
  .next (
    if s.sessionOpen && s.chgMode == 0 && s.fld CPM_CHG_STAT_PHASE == 1 && reached s.cpm.searchAt s.clk.core then s.beginSearch
    else s)

/-- SESSION_TMAX (R364). -/
def execSessionTmax (s : State) : Host.Outcome State Fault Refusal :=
  .next (
    if s.sessionOpen && decide ((s.tMax : Int) * 2 ^ 28 ≤ ticksBetween s.cpm.openAt s.now) then
      (s.sheet 0x0923 []).endSession 3
    else s)

end Sys2Proof.Machine
end

