-- ==== Sys2Proof/Machine/Msr.lean ====
section
/-! DEFINITION. The measurement chain behind its converters (R281 to R296): decimated blocks, streams, the test DAC, the
open-wire test. -/
namespace Sys2Proof.Machine

/-! ### Streams (R288 to R291) -/

/-- The channels a mask sets, ascending. -/
def maskChannels (m : Nat) : List Nat := (List.range 24).filter (fun k => bitsOf m k 1 == 1)

/-- Record size of a source with its mask (R288). -/
def State.recordSize (s : State) (src mask : Nat) : Nat :=
  let count := if src = 0 then (maskChannels mask).length else if src = 1 then s.cells + 1 else 32
  4 * ((count + 1) / 2)

/-- The areas of stream `k`: buffer and stamps, as first offset and length. -/
def State.streamAreas (s : State) (k : Nat) : List (Nat × Nat) :=
  [(s.fld (MSR_DMA_BASE_ADDR k), s.fld (MSR_DMA_GEOM_NBLK k) * s.fld (MSR_DMA_GEOM_BLKLEN k)),
    (s.fld (MSR_DMA_STAMP_ADDR k), 8 * s.fld (MSR_DMA_GEOM_NBLK k))]

def disjoint (a b : Nat × Nat) : Bool := decide (a.1 + a.2 ≤ b.1) || decide (b.1 + b.2 ≤ a.1)

/-- The conditions of R290 for enabling stream `k` with a SRC and a CH_MASK. -/
def State.streamOk (s : State) (k src mask : Nat) : Bool :=
  let rec' := s.recordSize src mask
  let len := s.fld (MSR_DMA_GEOM_BLKLEN k)
  let nb := s.fld (MSR_DMA_GEOM_NBLK k)
  let own := s.streamAreas k
  let others := ((List.range 16).filter (fun j => j != k && s.flag (MSR_DMA_CFG_EN j))).flatMap s.streamAreas
  decide (0 < len) && decide (0 < rec') && len % rec' == 0 && len % 4 == 0 && decide (1 ≤ nb) && decide (nb ≤ 1024) &&
    own.all (fun a => decide (a.1 + a.2 ≤ 0x40000)) && disjoint (own.getD 0 (0, 0)) (own.getD 1 (0, 0)) &&
    own.all (fun a => others.all (disjoint a)) &&
    (if src = 0 then mask != 0 && (maskChannels mask).all (fun ch => (s.senseEntry ch).isSome)
     else if src = 1 then decide (0 < s.cells) && mask == 0
     else mask == 0)

/-- Bytes of one record (R288). -/
def recordBytes (samples : List Int) : List Byte :=
  (samples.map (fun v => leBytes 2 (encodeInt 16 v))).flatten ++ (if samples.length % 2 = 1 then leBytes 2 1 else [])

/-- Write one record of stream `k` (R289). -/
def State.writeRecord (k : Nat) (stamp : Time) (samples : List Int) (s : State) : State :=
  let w := s.fld (MSR_DMA_WPTR_WPTR k)
  let len := max (s.fld (MSR_DMA_GEOM_BLKLEN k)) 1
  let total := s.fld (MSR_DMA_GEOM_NBLK k) * len
  let t := if w % len = 0 then s.sramWrite (s.fld (MSR_DMA_STAMP_ADDR k) + 8 * (w / len)) (leBytes 8 stamp.toNat) else s
  let b := recordBytes samples
  let t := t.sramWrite (s.fld (MSR_DMA_BASE_ADDR k) + w) b
  let w' := w + b.length
  let wrap := decide (total ≤ w')
  let next := if wrap then 0 else w'
  let t := (t.setFld (MSR_DMA_WPTR_WPTR k) next).setFld (MSR_DMA_STAT_CUR_BLK k) (next / len)
  let t := if wrap then t.setReg (MSR_DMA_WRAP k) (t.reg (MSR_DMA_WRAP k) + 1) else t
  let t := onlyIf (w' % len == 0) (State.raise (432 + k)) t
  onlyIf wrap (State.raise (448 + k)) t

/-- A source offers the record of capture `cap` to stream `k` (R288, R290). -/
def State.offerRecord (k cap : Nat) (stamp : Time) (samples : List Int) (s : State) : State :=
  match s.msr.streams.find? (fun p => decide (p.1 = k)) with
  | none => s
  | some (_, st) =>
    let late := match st.stopAt with
      | some m => decide (m < cap)
      | none => false
    if cap ≤ st.start then s
    else if late then { s with msr := { s.msr with streams := dropPair s.msr.streams k } }
    else
      let t := { s with msr := { s.msr with streams := putPair s.msr.streams k { st with offers := st.offers + 1 } } }
      if st.offers % (max (s.fld (MSR_DMA_DIV_DIV k)) 1) = 0 then t.writeRecord k stamp samples else t

/-- The streams that run from a source. -/
def State.streamsOf (s : State) (src : Nat) : List Nat :=
  (List.range 16).filter (fun k => s.fld (MSR_DMA_CFG_SRC k) == src && s.msr.streams.any (fun p => decide (p.1 = k)))

/-- Sense streams: a record is offered once every channel of the mask has the sample of one trigger; `ch` is the channel whose sample
came last. -/
def State.offerSense (ch trig cap : Nat) (stamp : Time) (s : State) : State :=
  forEach (s.streamsOf 0) (fun k t =>
    let chs := maskChannels (s.fld (MSR_DMA_CFG_CH_MASK k))
    let vals := chs.map (fun c => match s.msr.last.find? (fun p => decide (p.1 = c)) with
      | some (_, n, v, _) => if n = trig then some v else none
      | none => none)
    if chs.contains ch && vals.all Option.isSome then t.offerRecord k cap stamp (vals.map (fun v => v.getD 0)) else t) s

/-- What an accepted write of MSR_DMA_s_CFG starts or stops; `was` is EN before it. -/
def State.dmaCfgWritten (k : Nat) (was : Bool) (s : State) : State :=
  let en := s.flag (MSR_DMA_CFG_EN k)
  if en && !was then
    let t := (s.setReg (MSR_DMA_WPTR k) 0).setReg (MSR_DMA_WRAP k) 0
    let t := t.setReg (MSR_DMA_STAT k)
      (BitVec.ofNat 32 (s.recordSize (s.fld (MSR_DMA_CFG_SRC k)) (s.fld (MSR_DMA_CFG_CH_MASK k))))
    { t with msr := { t.msr with streams := putPair t.msr.streams k ⟨t.msr.caps, 0, none⟩ } }
  else if was && !en then
    { s with msr := { s.msr with streams := s.msr.streams.map (fun p =>
        if p.1 = k then (k, { p.2 with stopAt := some s.msr.caps }) else p) } }
  else s

/-- FIELD_BIT of a write of MSR_DMA_s_CFG that R290 turns away. -/
def State.dmaCfgRefused (s : State) (k : Nat) (w : Word) : Option Nat :=
  let src := bitsOf w.toNat 28 3
  let mask := bitsOf w.toNat 0 24
  if s.flag (MSR_DMA_CFG_EN k) then
    if mask ≠ s.fld (MSR_DMA_CFG_CH_MASK k) then some 0
    else if src ≠ s.fld (MSR_DMA_CFG_SRC k) then some 28
    else none
  else if w.getLsbD 31 && !s.streamOk k src mask then some 31
  else none

/-! ### The test DAC (R292, R293) -/

/-- A channel is the feedback, phase-current or rail source of a brick that is neither Stopped nor Unassigned. -/
def State.channelBusy (s : State) (ch : Nat) : Bool :=
  (List.range 16).any (fun n =>
    s.brkState n != brkUnassigned && s.brkState n != brkStopped &&
      s.usesChannel n ch)

/-- A write of MSR_TDAC breaks the rule of R293 (FIELD_BIT 16). -/
def State.tdacRefused (s : State) (w : Word) : Bool :=
  let sel := bitsOf w.toNat 16 5
  match bitsOf w.toNat 24 3 with
  | 1 => (s.senseEntry sel).isNone || (s.hasMeter && (sel == s.meterCurrentCh || sel == s.meterVoltageCh)) || s.channelBusy sel
  | 2 => decide (s.cells ≤ sel)
  | 3 => sel == 13 || sel == 29
  | _ => false

/-- An accepted write of MSR_TDAC: it takes effect from the second accepted trigger after it (R292). -/
def State.tdacWritten (s : State) : State :=
  let p := s.fld MSR_TDAC_PATH
  let code : Int := s.fld MSR_TDAC_CODE
  let d : Inject := ⟨p, s.fld MSR_TDAC_SEL, if s.flag MSR_TDAC_POL then -code else code⟩
  { s with msr := { s.msr with dacNext := some (if p = 0 then none else some d), dacWait := 2 } }

/-! ### Balancing drivers (R332, R337, R338) -/

/-- Switch the balancing drivers: the charge each has drained, V_cell ÷ BAL_R over its on-time, is counted as it goes off; a
pulse being measured is spoilt by any change (R331). -/
def State.switchDrivers (on : Word) (onEnd : Option Nat) (s : State) : State :=
  let was := s.reg CEL_BAL_ON
  let ticks := s.clk.core - s.cel.onSince
  let gone := (List.range s.cells).filter (fun c => was.getLsbD c)
  let drained := gone.foldl (fun l c =>
    let q : Rat := (s.sfld (MSR_CELL_V c) : Rat) * 10 / s.balR * ticks / 240000000
    putPair l c (lookupD l c 0 + q)) s.cel.drained
  let t := s.setReg CEL_BAL_ON on
  { t with cel := { t.cel with
      drained := drained, onSince := s.clk.core, onEnd := onEnd
      pulse := if was = on then s.cel.pulse else s.cel.pulse.map (fun (p : Pulse) => { p with spoilt := true }) } }

/-- Every driver off. -/
def State.driversOff (s : State) : State := if s.reg CEL_BAL_ON = 0 then s else s.switchDrivers 0 none

/-! ### The open-wire test (R294 to R296) -/

/-- Tap `k` reads open. -/
def State.tapOpen (s : State) (k : Nat) : Bool :=
  if k = 32 then s.flag MSR_OW_STAT_OPEN_32 else bitsOf (s.reg MSR_OW_RES).toNat k 1 == 1

/-- Set the verdict on tap `k`. OPEN of the cells beside it follows with the next block that no test affects (R284, R295). -/
def State.setTap (k : Nat) (b : Bool) (s : State) : State :=
  if k = 32 then s.setFlag MSR_OW_STAT_OPEN_32 b else s.setFlag ⟨MSR_OW_RES, k, 1⟩ b

/-- The test ends with a RESULT: source 421. -/
def State.owEnd (result : Nat) (s : State) : State :=
  -- a sweep in progress goes on from here: no window opened during the test
  let t := { s with
    msr := { s.msr with ow := .idle }
    cel := { s.cel with
      sweepT := max s.cel.sweepT ((s.nowU * 1000 + 2 ^ 28 - 1) / 2 ^ 28), yieldEnd := some s.clk.core } }
  ((t.setFld MSR_OW_STAT_BUSY 0).setFld MSR_OW_STAT_RESULT result).raise 421

/-- The test is aborted (R296). -/
def State.owAbort (s : State) : State :=
  if s.msr.ow = .idle then s else (s.owEnd 3).sheet 0x0611 []

/-- The test of the tap in hand begins with its baseline; its rounds have to come within WINDOW. -/
def State.owTapStart (s : State) : State :=
  ({ s with msr := { s.msr with ow := .baseline, owRounds := [], owAt := s.clk.core + s.msr.owWindow * coreMs } }).setFld
    MSR_OW_STAT_TAP s.msr.owTap

/-- A test that waited for a measurement window begins (R294). -/
def State.owRelease (s : State) : State :=
  if s.msr.ow = .waiting then s.owTapStart else s

/-- Whether 8 cell rounds fit in WINDOW ms at the cell rate in force (R296). -/
def State.owFits (s : State) (window : Nat) : Bool :=
  decide (0 < s.cells) &&
    (if s.onGrid then decide (8 * (max (s.fld MSR_CELL_CFG_DIV) 1 * s.gridPeriod) ≤ window * 60000)
     else decide (0 < s.msr.roundGap) && decide (8 * s.msr.roundGap ≤ window * coreMs))

/-- OW_GO = 1 with BUSY 0 (R294, R296). -/
def State.owGo (s : State) : State :=
  let first := s.fld MSR_OW_CFG_FIRST
  let last := s.fld MSR_OW_CFG_LAST
  let window := s.fld MSR_OW_CFG_WINDOW
  if !s.owFits window || decide (s.cells < last) || decide (last < first) then
    (s.setFld MSR_OW_STAT_RESULT 3).sheet 0x0611 []
  else
    let t := { s with msr := { s.msr with
      ow := .waiting, owTap := first, owLast := last, owWindow := window, owThr := s.fld MSR_OW_CFG_THR, owFound := false } }
    let t := ((t.setFld MSR_OW_STAT_BUSY 1).setFld MSR_OW_STAT_TAP first).driversOff
    if s.cel.window.isSome then t else t.owRelease

/-- Sum lists cell by cell. -/
def addLists (a b : List Int) : List Int :=
  (List.range (max a.length b.length)).map (fun i => a.getD i 0 + b.getD i 0)

/-- A cell round in the open-wire test: the running average of 8, the end of the baseline (R294). -/
def State.owRound (cells : List Int) (s : State) : State :=
  match s.msr.ow with
  | .baseline =>
    let l := cells :: s.msr.owRounds
    if 8 ≤ l.length then
      { s with msr := { s.msr with
        ow := .window, owBase := l.foldl addLists [], owRounds := [], owAt := s.clk.core + s.msr.owWindow * coreMs } }
    else { s with msr := { s.msr with owRounds := l } }
  | .window => { s with msr := { s.msr with owRounds := (cells :: s.msr.owRounds).take 8 } }
  | _ => s

/-- OW_WINDOW_END (R294 to R296): the tap is judged; a window or a baseline without its 8 rounds has lost them. -/
def execOwWindowEnd (s : State) : Host.Outcome State Fault Refusal :=
  .next (
    if s.msr.owAt ≤ s.clk.core then
      match s.msr.ow with
      | .baseline => s.owAbort
      | .window =>
        if s.msr.owRounds.length < 8 then s.owAbort
        else
          let now := s.msr.owRounds.foldl addLists []
          let k := s.msr.owTap
          -- sums of 8 samples of 200 µV against THR × 10 mV
          let fell (c : Nat) : Bool := decide ((s.msr.owThr * 10000 * 8 : Int) < (s.msr.owBase.getD c 0 - now.getD c 0) * 200)
          let rose (c : Nat) : Bool := decide ((s.msr.owThr * 10000 * 8 : Int) < (now.getD c 0 - s.msr.owBase.getD c 0) * 200)
          let isOpen := if k = 0 then fell 0 else if k < s.cells then fell (k - 1) && rose k else fell (k - 1)
          let t := s.setTap k isOpen
          let t := if isOpen then (t.sheet 0x0610 (leBytes 1 k)).raise 422 else t
          { t with msr := { t.msr with ow := .gap, owAt := s.clk.core + coreMs, owFound := t.msr.owFound || isOpen } }
      | _ => s
    else s)

/-- OW_TAP_GAP_END (R294): the next tap, or the end of the test. -/
def execOwTapGapEnd (s : State) : Host.Outcome State Fault Refusal :=
  .next (
    if s.msr.ow = .gap ∧ s.msr.owAt ≤ s.clk.core then
      if s.msr.owTap < s.msr.owLast then ({ s with msr := { s.msr with owTap := s.msr.owTap + 1 } }).owTapStart
      else s.owEnd (if s.msr.owFound then 2 else 1)
    else s)

/-! ### Decimated blocks (R283, R284, R376) -/

/-- µV of a cell and mV of the stack from a sum over 2^DEC rounds. -/
def blockValue (scale sum : Int) (dec : Nat) : Int := roundDiv (scale * sum) (2 ^ dec)

/-- A cell's extremes from a block (R376), in 0.1 mV. -/
def State.takeExtreme (c : Nat) (uv : Int) (s : State) : State :=
  let v := (clampInt 0 65535 (roundDiv uv 100)).toNat
  let t := s.setFld (MTR_CELL_MM_MIN c) (min v (s.fld (MTR_CELL_MM_MIN c)))
  t.setFld (MTR_CELL_MM_MAX c) (max v (s.fld (MTR_CELL_MM_MAX c)))

/-- Publish the block and begin the next (R283, R284). -/
def State.publishBlock (s : State) : State :=
  let n := s.cells
  let dec := s.msr.dec
  let t := forEach (List.range n) (fun c t =>
    let t := t.setFlag (MSR_CELL_TEST c) (s.msr.blockTest.contains c)
    if s.msr.blockHeld.contains c then t.setFld (MSR_CELL_HOLD c) 1
    else
      let v := blockValue 200 (s.msr.sums.getD c 0) dec
      let t := (t.setFld (MSR_CELL_HOLD c) 0).setFld (MSR_CELL_V c) (encodeInt 24 v)
      let t := t.setFlag (MSR_CELL_OPEN c) (t.tapOpen c || t.tapOpen (c + 1))
      if t.flag (MSR_CELL_OPEN c) then t else t.takeExtreme c v) s
  let mv := blockValue 5 (s.msr.sums.getD n 0) dec
  let t := (t.setFld MSR_STACK_HOLD 0).setFld MSR_STACK_V (encodeInt 24 mv)
  let t := (t.setReg MSR_CELL_TS_LO (halfWord s.msr.blockAt.toNat 0)).setReg MSR_CELL_TS_HI (halfWord s.msr.blockAt.toNat 1)
  let t := { t with
    msr := { t.msr with rounds := 0, sums := [], blockHeld := [], blockTest := [] }
    cpm := { t.cpm with stackV := mv } }
  t.raise 420

/-- A block has all its rounds. -/
def State.blockFull (s : State) : Bool := decide (0 < s.msr.rounds) && decide (2 ^ s.msr.dec ≤ s.msr.rounds)

/-- A completed cell round in the running block. -/
def State.blockRound (stamp : Time) (vals : List Int) (m : Mark) (s : State) : State :=
  let s := if s.blockFull then s.publishBlock else s
  let first := s.msr.rounds = 0
  { s with msr := { s.msr with
    dec := if first then s.fld MSR_CELL_CFG_DEC else s.msr.dec
    blockAt := if first then stamp else s.msr.blockAt
    rounds := s.msr.rounds + 1
    sums := addLists s.msr.sums vals
    blockHeld := s.msr.blockHeld ++ m.held.filter (fun c => !s.msr.blockHeld.contains c)
    blockTest := s.msr.blockTest ++ m.test.filter (fun c => !s.msr.blockTest.contains c) } }

/-- CELL_BLOCK_DONE (R283). -/
def execCellBlockDone (s : State) : Host.Outcome State Fault Refusal :=
  .next (if s.blockFull then s.publishBlock else s)

/-- MSR_CTRL.CNT_CLR. -/
def State.msrCntClr (s : State) : State := s.setReg MSR_CNT 0

/-! ### Housekeeping ticks (R286) -/

/-- CLK_CORE ticks of 37,500 CLK_HK cycles. -/
def hkPeriod : Nat := 37500 * 64

/-- HK_TICK. -/
def execHkTick (s : State) : Host.Outcome State Fault Refusal :=
  .next (
    if s.active && reached s.msr.hkNext s.clk.core then
      { s with msr := { s.msr with hkNext := s.msr.hkNext.map (fun t => t + hkPeriod), hkWait := some s.clk.core } }
    else s)

/-- HK_CAPTURE_TIMEOUT: no trigger was accepted within 1 ms of the tick; ADC_3 captures alone. -/
def execHkCaptureTimeout (held : List (Nat × BitVec 14)) (s : State) : Host.Outcome State Fault Refusal :=
  .next (
    if s.active && reached (s.msr.hkWait.map (fun t => t + coreMs)) s.clk.core then
      let i := ({ s with msr := { s.msr with caps := s.msr.caps + 1 } }).injectHeld held
      let t := i.2.pushPipe 3 (i.2.inFlight i.1 3 s.msr.trigs s.now (s.convNow + 1) ((List.range 32).map Conv.hk))
      { t with msr := { t.msr with hkWait := none, hkBusy := true, hkRef := false, hkVals := [], hkClip := [], refs := [] } }
    else s)

end Sys2Proof.Machine
end

