-- ==== Sys2Proof/Machine/Thm.lean ====
section
/-! DEFINITION. Thermal management (R301 to R313) and the temperature band (R65): what one housekeeping round does. -/
namespace Sys2Proof.Machine

/-! ### Conversion (R302, R303) -/

/-- ln 2 in units of 2⁻⁶⁴. -/
def ln2 : Int := 12786308645202655660

/-- Terms of 2 · artanh(y) for y in 2⁻⁶⁴: `p` is y to the power `k`. -/
def artanhTerms (y2 : Int) : Nat → Nat → Int → Int
  | 0, _, _ => 0
  | fuel + 1, k, p => 2 * p / k + artanhTerms y2 fuel (k + 2) (p * y2 / 2 ^ 64)

/-- ln(num ÷ den) in units of 2⁻⁶⁴, for positive numbers: a power of 2 times a number from 1/2 to 2. -/
def lnFix (num den : Nat) : Int :=
  let k : Int := (num.log2 : Int) - den.log2
  let n := if 0 ≤ k then num else num * 2 ^ k.natAbs
  let d := if 0 ≤ k then den * 2 ^ k.natAbs else den
  let y : Int := ((n : Int) - d) * 2 ^ 64 / ((n : Int) + d)
  k * ln2 + artanhTerms (y * y / 2 ^ 64) 24 1 y

/-- B of a CURVE (Table — NTC curves); R25 equals R_B in every curve. -/
def curveB (c : Nat) : Nat := [3435, 3950, 4250, 4050].getD c 3435

/-- q of R302 from the samples of inputs n, 20 and 24: 62.5 µV and 125 µV per unit. -/
def ntcRatio (n ana vio : Int) : Rat := if vio = 0 then 0 else (n * ana : Rat) / (65536 * vio)

/-- T of R302 in tenths of a degree, by the formula: none where q is no ratio of two resistors, or where T does not fit the
register. -/
def ntcFormula (curve : Nat) (q : Rat) : Option Int :=
  let num := q.num.toNat
  let rest := (1 - q).num.toNat * q.den / (max (1 - q).den 1)
  let b : Int := curveB curve
  let k : Int := 20 * b * 2 ^ 64 + 5963 * lnFix num (max rest 1)
  let t := roundRat ((10 : Rat) * (5963 * b * 2 ^ 64 : Int) / (k : Rat) - 5463 / 2)
  if 0 < q ∧ q < 1 ∧ 0 < k ∧ -32767 ≤ t ∧ t ≤ 32766 then some t else none

/-- The temperature of an NTC (R302): one of the tenths within 0.1 °C of the formula, which the rule promises between −40 °C
and +125 °C and the model takes everywhere (DEDUCED); a free value where there is none (safe: log entry 30). -/
def State.ntcTemp (s : State) (curve : Nat) (q : Rat) : Int × State :=
  match ntcFormula curve q with
  | some t =>
    let r := s.takeFree 8
    (t + (r.1 % 3 : Nat) - 1, r.2)
  | none =>
    let r := s.takeFree 16
    ((BitVec.ofNat 16 r.1).toInt, r.2)

/-- The die temperature in 0.1 °C (R303). -/
def dieTemp (v : Int) : Int := roundDiv (10 * v - 174816) 64

/-! ### The temperature band (R65) -/

/-- Upper boundary of a band, in 0.1 °C. -/
def bandTop (b : Nat) : Int := [-200, 0, 250, 500, 750, 1000, 1250].getD b 32768

/-- Move a band up while the temperature reaches its upper boundary. -/
def bandUp (t : Int) : Nat → Nat → Nat
  | 0, b => b
  | fuel + 1, b => if bandTop b ≤ t then bandUp t fuel (b + 1) else b

/-- Move a band down while the temperature lies 2 °C below its lower boundary. -/
def bandDown (t : Int) : Nat → Nat
  | 0 => 0
  | b + 1 => if t ≤ bandTop b - 20 then bandDown t b else b + 1

/-- The band after a die temperature; source 28 at a change. The trims of the new band apply to the conversions that start at
the next CLK_CONV edge or later (R66). -/
def State.stepBand (t : Int) (s : State) : State :=
  let b := s.fld STM_STAT_TBAND
  let b' := if bandTop b ≤ t then bandUp t 8 b else bandDown t b
  if b' = b then s else ((s.setFld STM_STAT_TBAND b').raise 28).retrim

/-! ### The reference check (R287) -/

/-- Readings that deviate by more than 82 sense units: once REF_EV, twice in a row the fault. -/
def State.refCheck (s : State) : State :=
  let reads := s.msr.refs ++ [(3, lookupD s.msr.hkVals 29 16384)]
  let devs := (reads.filter (fun p => decide (82 < (p.2 - 16384).natAbs))).map Prod.fst
  let again := (devs.filter (fun a => s.msr.refBad.contains a)).mergeSort
  let kept := s.msr.refBad.filter (fun a => !reads.any (fun p => decide (p.1 = a)))
  let t := { s with msr := { s.msr with refBad := kept ++ devs } }
  let t := if devs.isEmpty then t else t.flagRaise MSR_STAT_REF_EV 423
  forEach again (fun a t => (t.setFld MSR_STAT_REF_FAIL a).allOff 0x0630 [] none) t

/-! ### The sensors (R306 to R312) -/

/-- The hidden counts of sensor `i`. -/
def State.sensor (s : State) (i : Nat) : Sensor := s.thm.sensors.getD i ⟨0, 0, 0, 0, 0, 0⟩
def State.setSensor (i : Nat) (v : Sensor) (s : State) : State := { s with thm := { s.thm with sensors := s.thm.sensors.set i v } }

/-- Flagging or unflagging of the sensor is due (R307). -/
def State.flagDue (s : State) (i : Nat) : Bool :=
  let c := s.sensor i
  s.senEn i && (if s.senBroken i then decide (100 ≤ c.pass) else decide (3 ≤ c.range) || decide (10 ≤ c.cross))

/-- BROKEN of a sensor once R307 has run in this round. -/
def State.brokenAfter (s : State) (i : Nat) : Bool := s.senBroken i != s.flagDue i

/-- A sensor, broken or not, counts for throttling, shutdown and the lock (R304, R308). -/
def State.countedIf (s : State) (i : Nat) (broken : Bool) : Bool := s.senEn i && (!broken || s.senPriv i)
def State.senCounted (s : State) (i : Nat) : Bool := s.countedIf i (s.senBroken i)

/-- A sensor has a THROTTLE: the die, and each entry of a thermal tile. -/
def State.hasThrottle (s : State) (i : Nat) : Bool := i == 12 || (s.tile 9 0).isSome

/-- Hot by temperature alone (R309), or broken and privileged (R308). -/
def State.hotIf (s : State) (i : Nat) (broken : Bool) : Bool :=
  (s.hasThrottle i && decide (s.senThrottle i ≤ s.senT i)) || (s.senPriv i && broken)
def State.senHot (s : State) (i : Nat) : Bool := s.hotIf i (s.senBroken i)

/-- Cool (R309); a broken privileged sensor counts as hot. -/
def State.coolIf (s : State) (i : Nat) (broken : Bool) : Bool :=
  s.hasThrottle i && !(s.senPriv i && broken) && decide (s.senT i < s.senThrottle i - 20)
def State.senCool (s : State) (i : Nat) : Bool := s.coolIf i (s.senBroken i)

/-- The cross-check (R306): none where it is suspended, else whether it fails. -/
def State.crossFails (s : State) (i : Nat) : Option Bool :=
  let ns := if i = 12 then [] else [s.senNeigh i 0, s.senNeigh i 1].filter (fun k => decide (k < 13))
  if ns.isEmpty then some false
  else
    match ns.filter (fun k => !s.senBroken k) with
    | [] => none
    | [a] => some (decide (80 < (s.senT i - s.senT a).natAbs))
    | a :: b :: _ => some (decide (80 < (s.senT i - roundDiv (s.senT a + s.senT b) 2).natAbs))

/-- The checks of one enabled sensor in a round (R306); `range` says whether the range check fails. -/
def State.checkSensor (i : Nat) (range : Bool) (s : State) : State :=
  let c := s.sensor i
  match s.crossFails i with
  | none => s
  | some x => s.setSensor i { c with
      range := if range then c.range + 1 else 0
      cross := if x then c.cross + 1 else 0
      pass := if range || x then 0 else c.pass + 1 }

/-- The counts of R308, R311 and R312 of one enabled sensor in a round, with the flag as R307 leaves it (R313). A sensor
flagged in this round restarts its shutdown count. -/
def State.countSensor (i : Nat) (s : State) : State :=
  let c := s.sensor i
  let broken := s.brokenAfter i
  let flagged := broken && !s.senBroken i
  s.setSensor i { c with
    broken := if broken then c.broken + 1 else 0
    hotRun := if s.countedIf i broken && !flagged && decide (s.senShutdown i ≤ s.senT i) then c.hotRun + 1 else 0
    cool := if s.coolIf i broken then c.cool + 1 else 0 }

/-- HOT of a sensor, with BROKEN as R307 leaves it in the round (R313): source 483 as it becomes hot (R315). -/
def State.showHot (i : Nat) (s : State) : State :=
  let h := s.hotIf i (s.brokenAfter i)
  if s.flag (THM_T_HOT i) = h then s
  else
    let t := (s.setFlag (THM_T_HOT i) h).setFlag ⟨THM_HOT, i, 1⟩ h
    if h then t.flagRaise THM_STAT_HOT_EV 483 else t

/-- A round's temperatures and counts. -/
def State.thermalRound (s : State) : State :=
  let v (i : Nat) : Int := lookupD s.msr.hkVals i 0
  let q (i : Nat) : Rat := ntcRatio (v i) (v 20) (v 24)
  let s := forEach (List.range 12) (fun i t =>
    let r := t.ntcTemp (t.senCurve i) (q i)
    r.2.setFld (THM_T_T i) (encodeInt 16 r.1)) s
  let die := dieTemp (v 12)
  let s := s.setFld (THM_T_T 12) (encodeInt 16 die)
  let clip (i : Nat) : Bool := s.msr.hkClip.contains i
  let fails (i : Nat) : Bool :=
    if i = 12 then decide (die < -550) || decide (1750 < die) || clip 12
    else decide (q i < 1 / 100) || decide (99 / 100 < q i) || clip i
  let on := (List.range 13).filter s.senEn
  let s := forEach on (fun i t => t.checkSensor i (fails i)) s
  let s := forEach on State.countSensor s
  let s := forEach (List.range 13) State.showHot s
  let s := { s with thm := { s.thm with evalDue := s.thm.evalDue || s.msr.hkRounds % 100 == 0 } }
  onlyIf (!s.brokenAfter 12) (State.stepBand die) s

/-- HK_ROUND_DONE (R286, R287, R302 to R313): results, the reference check, the band and the sensors' counts. -/
def execHkRoundDone (s : State) : Host.Outcome State Fault Refusal :=
  .next (
    if s.msr.hkBusy && s.coreRuns && decide (32 ≤ s.msr.hkVals.length) && (!s.msr.hkRef || decide (3 ≤ s.msr.refs.length)) then
      let n := s.msr.hkRounds + 1
      let t := { s with msr := { s.msr with hkBusy := false, hkRounds := n } }
      let t := forEach (List.range 32) (fun i t =>
        (t.setFld (MSR_HK_ROUND i) (n % 65536)).setFld (MSR_HK_SAMPLE i) (encodeInt 16 (lookupD s.msr.hkVals i 0))) t
      (t.raise 419).refCheck.thermalRound
    else s)

/-- BROKEN of a sensor in both registers. -/
def State.setBroken (i : Nat) (b : Bool) (s : State) : State :=
  (s.setFlag (THM_T_BROKEN i) b).setFlag ⟨THM_BROKEN, i, 1⟩ b

/-- SENSOR_FLAG_BROKEN (R307). -/
def execSensorFlagBroken (sensor : Nat) (s : State) : Host.Outcome State Fault Refusal :=
  .next (
    if decide (sensor < 13) && !s.senBroken sensor && s.flagDue sensor then
      let t := s.setBroken sensor true
      let t := t.setSensor sensor { s.sensor sensor with pass := 0 }
      let t := t.sheet (if sensor = 12 then 0x0712 else 0x0710) []
      (t.flagRaise THM_STAT_BRK_EV 481).showHot sensor
    else s)

/-- SENSOR_UNFLAG (R307). -/
def execSensorUnflag (sensor : Nat) (s : State) : Host.Outcome State Fault Refusal :=
  .next (
    if decide (sensor < 13) && s.senBroken sensor && s.flagDue sensor then
      let t := (s.setBroken sensor false).setSensor sensor { s.sensor sensor with pass := 0, range := 0, cross := 0 }
      ((t.sheet 0x0711 []).raise 482).showHot sensor
    else s)

/-- A thermal shutdown (R311): the all-off, the lock, and the reset once the timeline has ended. -/
def State.thermalShutdown (code sensor : Nat) (s : State) : State :=
  let t := s.allOff code [] none
  let t := (t.setFld THM_STAT_THM_LOCK 1).setFld THM_STAT_LAST_SRC sensor
  { t with thm := { t.thm with resetDue := true } }

/-- PRIV_BROKEN_TIMEOUT (R308): 6,000 consecutive broken rounds; an unflagging in the last of them comes first. -/
def execPrivBrokenTimeout (sensor : Nat) (s : State) : Host.Outcome State Fault Refusal :=
  .next (
    if decide (sensor < 13) && s.coreRuns && s.senPriv sensor && s.senBroken sensor && !s.flagDue sensor && decide (6000 ≤ (s.sensor sensor).broken) then
      (s.setSensor sensor { s.sensor sensor with broken := 0 }).thermalShutdown 0x0702 sensor
    else s)

/-- THERMAL_SHUTDOWN (R311): three consecutive rounds at or above SHUTDOWN; a flagging of the same round comes first. -/
def execThermalShutdown (sensor : Nat) (s : State) : Host.Outcome State Fault Refusal :=
  .next (
    if decide (sensor < 13) && s.coreRuns && s.senCounted sensor && !s.flagDue sensor && decide (3 ≤ (s.sensor sensor).hotRun) then
      (s.setSensor sensor { s.sensor sensor with hotRun := 0 }).thermalShutdown 0x0701 sensor
    else s)

/-- THROTTLE_EVAL (R309): every 100th round, after its flaggings. -/
def execThrottleEval (s : State) : Host.Outcome State Fault Refusal :=
  .next (
    if s.thm.evalDue && !(List.range 13).any s.flagDue then
      let s := { s with thm := { s.thm with evalDue := false } }
      let k := s.fld THM_STAT_K
      let counted := (List.range 13).filter s.senCounted
      let k' := if counted.any s.senHot then min (k + 1) 15 else if counted.all s.senCool then k - 1 else k
      if k' = k then s
      else
        let t := (s.setFld THM_STAT_K k').flagRaise THM_STAT_THR_EV 480
        if k = 0 then t.sheet 0x0720 [] else if k' = 0 then t.sheet 0x0721 [] else t
    else s)

/-- THM_LOCK_CLEAR (R312), after the round's flaggings (R313). -/
def execThmLockClear (s : State) : Host.Outcome State Fault Refusal :=
  .next (
    if s.flag THM_STAT_THM_LOCK && !(List.range 13).any s.flagDue && ((List.range 13).filter s.senCounted).all (fun i => decide (6000 ≤ (s.sensor i).cool)) &&
        (List.range 13).all (fun i => !(s.senPriv i && s.senBroken i)) then
      (s.setFld THM_STAT_THM_LOCK 0).raise 484
    else s)

end Sys2Proof.Machine
end

