-- ==== Sys2Proof/Machine/Cel.lean ====
section
/-! DEFINITION. Cell impedance and balancing (R317 to R340): sweeps and windows, lock-in, pulses, health, balancing. -/
namespace Sys2Proof.Machine

/-! ### Scales -/

/-- A current in sense units in µA (R318); the rating is CAPACITY thousand µA (R317). -/
def State.celMicroAmps (s : State) (i : Rat) : Rat := i * s.celIGain / 65536
/-- Thousandths of the rating in µA. -/
def State.permille (s : State) (x : Nat) : Rat := (s.capacity : Rat) * x
def absRat (q : Rat) : Rat := if q < 0 then -q else q

def State.openCell (s : State) (c : Nat) : Bool := s.flag (MSR_CELL_OPEN c)
/-- The bins of a cell, and an empty one (R329). -/
def emptyBin : Word := 0x80000000#32
def State.binEmpty (s : State) (c b : Nat) : Bool := s.reg (CEL_ZR c b) == emptyBin && s.reg (CEL_ZI c b) == emptyBin
def State.setBin (c b : Nat) (re im : Word) (s : State) : State := (s.setReg (CEL_ZR c b) re).setReg (CEL_ZI c b) im

/-! ### Health estimates (R332 to R334) -/

/-- The relative growth of two values that are both available (R333): their seconds and temperatures. -/
def State.growth (s : State) (now base : Rat) (meta' : Nat × Int) (baseTemp : Int) : Option Rat :=
  if base ≠ 0 ∧ s.secNow ≤ meta'.1 + s.maxAge ∧ (meta'.2 - baseTemp).natAbs ≤ 50 then some (now / base - 1) else none

/-- The mean of a cell's pulses. -/
def pulseMean (l : List Int) : Int := roundRat ((l.foldl (· + ·) 0 : Int) / (l.length : Rat))

/-- g_p, g_a and g_s of a cell (R333). -/
def State.pulseGrowth (s : State) (c : Nat) : Option Rat :=
  let l := lookupD s.cel.pulses c []
  match s.cel.pulseBase.find? (fun p => decide (p.1 = c)), s.cel.pulseMeta.find? (fun p => decide (p.1 = c)) with
  | some (_, b, bt), some (_, m) => if l.isEmpty then none else s.growth (pulseMean l) b m bt
  | _, _ => none
def State.binGrowth (s : State) (c m : Nat) : Option Rat :=
  let b := 4 * s.refJ + m
  match s.cel.info.find? (fun p => decide (p.1 = (c, b))), s.cel.info.find? (fun p => decide (p.1 = (c, b + 2))) with
  | some (_, i), some (_, j) =>
    if s.binEmpty c b || s.binEmpty c (b + 2) then none
    else s.growth (s.reg (CEL_ZR c b)).toInt (s.reg (CEL_ZR c (b + 2))).toInt i j.2
  | _, _ => none

/-- RG of a cell in 0.1 %; none is unknown (R333). -/
def State.growthOf (s : State) (c : Nat) : Option Int :=
  let terms := ([(s.wAct, s.binGrowth c 0), (s.wPas, s.binGrowth c 1)].filter (fun p => p.1 != 0)).filterMap
    (fun p => p.2.map (fun g => ((p.1 : Rat), g)))
  let gz : Option Rat := if terms.isEmpty then none
    else some ((terms.foldl (fun a p => a + p.1 * p.2) 0) / terms.foldl (fun a p => a + p.1) 0)
  let g := match s.pulseGrowth c, gz with
    | some a, some b => some (max a b)
    | some a, none => some a
    | none, r => r
  g.map (fun r => clampInt (-32767) 32767 (roundRat (1000 * r)))

/-- CF of a cell in 0.1 % (R332): unknown until three updates, and without an OCV table. -/
def State.fadeOf (s : State) (c : Nat) : Option Int :=
  match s.cel.caps.find? (fun p => decide (p.1 = c)) with
  | some (_, est, n) => if 3 ≤ n && !s.ocv.isEmpty then some (clampInt (-32767) 32767 (roundRat (1000 * (1 - est / s.capacity)))) else none
  | none => none

def healthWord (o : Option Int) : Nat := encodeInt 16 (o.getD (-32768))

/-- CEL_HEALTH_k follows the estimates; source 518 at a change (R343). -/
def State.showHealth (s : State) : State :=
  let w (c : Nat) : Word := BitVec.ofNat 32 (healthWord (s.fadeOf c) <<< 16 + healthWord (s.growthOf c))
  let changed := (List.range s.cells).any (fun c => s.reg (CEL_HEALTH c) != w c)
  onlyIf changed (State.raise 518) (forEach (List.range s.cells) (fun c t => t.setReg (CEL_HEALTH c) (w c)) s)

/-- A cell's grade (R334): 1 A to 4 D, 5 F, 0 unknown. -/
def State.cellGrade (s : State) (c : Nat) : Nat :=
  if s.openCell c then 5
  else
    match s.fadeOf c, s.growthOf c with
    | some cf, some rg =>
      match (List.range 4).find? (fun k => decide (cf ≤ s.cfMax k) && decide (rg ≤ s.rgMax k)) with
      | some k => k + 1
      | none => 5
    | _, _ => 0

/-- The module grade (R334, R336) and the worst cell. -/
def State.moduleGrade (s : State) : Nat × Nat :=
  let gs := (List.range s.cells).map (fun c => (c, s.cellGrade c))
  let worst := gs.foldl (fun (a : Nat × Nat) p => if a.2 < p.2 then p else a) (0, 0)
  if !s.flag CEL_STAT_RESTORED || gs.isEmpty || gs.any (fun p => p.2 == 0) then (0, worst.1)
  else
    let est := s.cel.caps.map (fun p => p.2.1)
    let spread := match est with
      | [] => 0
      | e :: r => r.foldl max e - r.foldl min e
    let lower := decide ((s.spreadMax : Rat) / 1000 * s.capacity < spread)
    (if lower then min (worst.2 + 1) 5 else worst.2, worst.1)

/-- Evaluate the grade: a change writes a grade sheet (R334, R336). -/
def State.evalGrade (s : State) : State :=
  let g := s.moduleGrade
  let old := s.fld CEL_STAT_GRADE
  if g.1 = old then s
  else
    let t := s.setFld CEL_STAT_GRADE g.1
    let t := if s.flag CEL_STAT_RESTORED then
        t.sheet 0x1014 (leBytes 1 old ++ leBytes 1 g.1 ++ leBytes 1 g.2 ++ leBytes 2 (healthWord (s.fadeOf g.2)) ++
          leBytes 2 (healthWord (s.growthOf g.2)))
      else t
    t.flagRaise CEL_STAT_GRADE_EV 517

/-! ### Sheets of the services (R336) -/

/-- The smallest exponent 0 to 7 that fits every value into 16 bits. -/
def fitExponent (vs : List Int) : Nat :=
  ((List.range 7).find? (fun e => vs.all (fun v => decide ((roundDiv v (2 ^ e)).natAbs ≤ 32767)))).getD 7

/-- 16 bits of a value in units of 2^E; one that does not fit even then is a free value (log entry 31). -/
def State.packValue (e : Nat) (v : Int) (s : State) : List Byte × State :=
  let q := roundDiv v (2 ^ e)
  if q.natAbs ≤ 32767 then (leBytes 2 (encodeInt 16 q), s)
  else
    let r := s.takeFree 16
    (leBytes 2 r.1, r.2)

/-- The bytes of a list of optional values; an absent one is 0x8000. -/
def State.packAll (e : Nat) : List (Option Int) → State → List Byte × State
  | [], s => ([], s)
  | o :: r, s =>
    let h := match o with
      | some v => s.packValue e v
      | none => (leBytes 2 0x8000, s)
    let t := State.packAll e r h.2
    (h.1 ++ t.1, t.2)

/-- An impedance sheet of a cell's half: for each of its eight frequencies the bin shown, none where there is no result, and
the method. -/
def State.impedanceSheet (type c half : Nat) (bins : List (Option Nat × Bool)) (s : State) : State :=
  let vals := (bins.map (fun p => match p.1 with
    | some b => [some (s.reg (CEL_ZR c b)).toInt, some (s.reg (CEL_ZI c b)).toInt]
    | none => [none, none])).flatten
  let e := fitExponent (vals.filterMap id)
  let methods := (bins.zipIdx.map (fun p => if p.1.2 then 2 ^ p.2 else 0)).foldl (· + ·) 0
  let r := State.packAll e vals s
  r.2.sheet type (leBytes 1 c ++ leBytes 1 half ++ leBytes 1 e ++ leBytes 1 methods ++ r.1)

/-- Sheets at sweep end: two per connected cell. -/
def State.sweepSheets (s : State) : State :=
  forEach (List.range s.cells) (fun c t => forEach [0, 1] (fun h t =>
    t.impedanceSheet 0x1010 c h ((List.range 8).map (fun i =>
      let j := 8 * h + i
      match s.cel.fresh.find? (fun p => decide (p.1 = (c, j))) with
      | some (_, act) => (some (4 * j + (if act then 0 else 1)), act)
      | none => (none, false)))) t) s

/-- The baseline sheet of a cell's half for one method. -/
def State.baselineSheet (c half : Nat) (act : Bool) (s : State) : State :=
  s.impedanceSheet 0x1011 c half ((List.range 8).map (fun i =>
    let b := 4 * (8 * half + i) + (if act then 2 else 3)
    (if s.binEmpty c b then none else some b, act)))

/-- The health state sheets: each quarter that holds a connected cell. -/
def State.healthSheets (s : State) : State :=
  forEach ((List.range 4).filter (fun q => decide (8 * q < s.cells))) (fun q t =>
    let cap (c : Nat) : Rat × Nat := lookupD s.cel.caps c (0, 0)
    let est := (List.range 8).map (fun i => leBytes 2 (encodeInt 16 (roundRat (1000 * (cap (8 * q + i)).1 / s.capacity))))
    let cnt := (List.range 8).map (fun i => leBytes 1 (min (cap (8 * q + i)).2 255))
    t.sheet 0x1013 (leBytes 1 q ++ est.flatten ++ cnt.flatten ++ leBytes 8 s.cel.charge.toNat)) s

/-! ### Sweeps and windows (R319 to R328) -/

/-- YIELD; source 520 at a change (R338). -/
def State.setYield (b : Bool) (s : State) : State :=
  if s.flag CEL_STAT_YIELD = b then s else (s.setFlag CEL_STAT_YIELD b).raise 520

/-- CEL_BAL_LIM follows the evaluated limit outside windows (R340). -/
def State.showLim (s : State) : State :=
  if s.fld CEL_BAL_LIM_L = s.cel.lim ∨ s.cel.window.isSome then s else (s.setFld CEL_BAL_LIM_L s.cel.lim).raise 522

/-- Lead-in start of the next window of the sweep: the first multiple of W_j at or after t. -/
def State.nextLeadIn (s : State) : Option (Nat × Nat) :=
  match s.cel.todo with
  | [] => none
  | j :: _ => some (j, (s.cel.sweepT + windowMs j - 1) / windowMs j * windowMs j)

/-- A lead-in start has been reached. -/
def State.leadInDue (s : State) : Bool :=
  s.flag CEL_STAT_SWEEP && s.cel.window.isNone && s.msr.ow == .idle &&
    (match s.nextLeadIn with
     | some (_, a) => s.msReached a
     | none => false)

/-- What SYSTIME has reached by the tick now ending and no row has begun is past (R68): a multiple of SWEEP_PERIOD, a requested
multiple of 60 s (R321), a lead-in that an open-wire test held off, whose window waits for the next multiple of W_j (R294,
R319). -/
def State.sweepLapse (s : State) : State :=
  let m := 1000 * (s.secNow / s.sweepPeriod * s.sweepPeriod)
  let missed := s.flag CEL_STAT_SWEEP && s.cel.window.isNone &&
    (match s.nextLeadIn with
     | some (_, a) => s.msReached a
     | none => false)
  { s with cel := { s.cel with
    lastStart := some (max (s.cel.lastStart.getD 0) (m + 1))
    reqAt := match s.cel.reqAt with
      | some r => if s.msReached (1000 * r) then none else some r
      | none => none
    sweepT := if missed then s.msCeil else s.cel.sweepT } }

/-- The sweep ends (R321): counter, source, sheets, grade. -/
def State.sweepEnd (s : State) : State :=
  let t := s.setFld CEL_STAT_SWEEP 0
  let t := t.setFld CEL_SWEEP_SWEEP_CNT (t.fld CEL_SWEEP_SWEEP_CNT + 1)
  let t := t.flagRaise CEL_STAT_SWEEP_EV 512
  let t := t.sweepSheets.showHealth.evalGrade
  { t with cel := { t.cel with
      fresh := [], lastStart := some (s.msCeil + 1) } }

/-- SWEEP_START (R321): at a multiple of SWEEP_PERIOD, or at the multiple of 60 s a request named. -/
def execSweepStart (s : State) : Host.Outcome State Fault Refusal :=
  let m := s.secNow / s.sweepPeriod * s.sweepPeriod
  let byGrid := decide (s.cel.lastStart.getD 0 ≤ 1000 * m)
  let byReq := match s.cel.reqAt with
    | some r => s.msReached (1000 * r)
    | none => false
  .next (
    if s.active && decide (0 < s.cells) && s.exciteMode != 0 && !s.flag CEL_STAT_SWEEP && (byGrid || byReq) then
      let t0 := 1000 * (if byGrid then m else s.cel.reqAt.getD 0)
      let t := s.setFld CEL_STAT_SWEEP 1
      let t := { t with cel := { t.cel with
        sweepT := t0, lastStart := some (t0 + 1), fresh := [], reqAt := if byReq then none else s.cel.reqAt
        todo := (List.range 16).reverse.filter (fun j => bitsOf s.freqMask j 1 == 1) } }
      if t.cel.todo.isEmpty then t.sweepEnd else t
    else s)

/-- SWEEP_REQ (R321). -/
def State.sweepReq (s : State) : State :=
  { s with cel := { s.cel with reqAt := some ((s.secNow / 60 + 1) * 60) } }

/-- The slot of an active window (R320). -/
def State.activeSlot (s : State) : Nat :=
  if s.slotParam < 4 then s.slotParam else if s.unaddressed then 0 else s.fld LNK_ADDR_ADDR % 64 % 4

/-- Whether active excitation is possible (R323). -/
def State.excitable (s : State) : Bool :=
  let n := s.excBrick
  s.brkState n == brkRunning && s.flag (BRK_STAT_LOOP n) && s.fbChannel n 1 == some s.cellCurrentCh &&
    (s.fld STM_STAT_TSTATE == 0 || s.fld STM_STAT_TSTATE == 2)

/-- WINDOW_LEADIN_START (R323, R324, R338). -/
def execWindowLeadinStart (s : State) : Host.Outcome State Fault Refusal :=
  .next (
    match s.nextLeadIn with
    | none => s
    | some (j, a) =>
      if s.leadInDue then
        let want := s.exciteMode == 2
        let act := want && s.excitable
        let slot := if act then s.activeSlot else 0
        let amp : Int := if act then roundRat ((s.excAmpl : Rat) * s.capacity * 65536 / s.celIGain) else 0
        let w : Window := ⟨j, a, false, act, slot, amp, 0, [], 0, [], (0, 0)⟩
        let t := { s with cel := { s.cel with window := some w } }
        let t := ((t.setFld CEL_STAT_WIN 1).setFlag CEL_STAT_METHOD act).setFld CEL_STAT_J j
        let t := (t.setFld CEL_STAT_SLOT slot).setFlag CEL_STAT_ACT_OK act
        let t := if want && !act then (t.setFld (CEL_FQ_A_STAT j) 7).sheet 0x0802 [] else t
        t.driversOff.setYield true
      else s)

/-- WINDOW_MEASURE_START (R322). -/
def execWindowMeasureStart (s : State) : Host.Outcome State Fault Refusal :=
  .next (
    match s.cel.window with
    | some w =>
      if !w.measuring && s.msReached (w.a + windowMs w.j) then
        ({ s with cel := { s.cel with window := some { w with measuring := true } } }).setFld CEL_STAT_WIN 2
      else s
    | none => s)

/-- A window's status in its frequency's register (R326 to R328). -/
def State.windowStatus (w : Window) (v : Nat) (s : State) : State :=
  let t := s.setFld (if w.active then CEL_FQ_A_STAT w.j else CEL_FQ_P_STAT w.j) v
  if w.active then t.setFld (CEL_FQ_SLOT w.j) w.slot else t

/-- The square of the current amplitude in µA (R326). -/
def State.ampSquare (s : State) (w : Window) : Rat :=
  if w.rounds = 0 then 0
  else
    let k : Rat := 2 * (s.celIGain : Rat) / 65536 / w.rounds / Config.lockScale
    k * k * ((w.accI.1 * w.accI.1 + w.accI.2 * w.accI.2 : Int) : Rat)

/-- The nearest whole number to a square root. -/
def sqrtRound (q : Rat) : Nat := ((4 * q).floor.toNat.sqrt + 1) / 2

/-- Z of a cell from its sums (R326); with no current at all its value is free (log entry 31). -/
def State.zOf (w : Window) (acc : Int × Int) (s : State) : (Int × Int) × State :=
  let norm := w.accI.1 * w.accI.1 + w.accI.2 * w.accI.2
  if norm = 0 then
    let r := s.takeFree 32
    let q := r.2.takeFree 32
    (((BitVec.ofNat 32 r.1).toInt, (BitVec.ofNat 32 q.1).toInt), q.2)
  else
    let k : Rat := 200000000 * 65536 / s.celIGain / norm
    let re : Rat := (acc.1 * w.accI.1 + acc.2 * w.accI.2 : Int)
    let im : Rat := (acc.2 * w.accI.1 - acc.1 * w.accI.2 : Int)
    let sat (q : Rat) : Int := clampInt (-(2 ^ 31 - 1)) (2 ^ 31 - 1) (roundRat q)
    ((sat (re * k), sat (im * k)), s)

/-- One cell's result into its bins, its baseline if that is empty (R329, R335). The answer says whether a baseline was
filled. -/
def State.storeResult (w : Window) (c : Nat) (s : State) : State × Bool :=
  let z := s.zOf w (w.acc.getD c (0, 0))
  let b := 4 * w.j + (if w.active then 0 else 1)
  let re := BitVec.ofInt 32 z.1.1
  let im := BitVec.ofInt 32 z.1.2
  let meta' : Nat × Int := (w.a / 1000, s.moduleTemp)
  let t := z.2.setBin c b re im
  let t := { t with cel := { t.cel with
    info := putPair t.cel.info (c, b) meta', fresh := putPair t.cel.fresh (c, w.j) w.active } }
  if t.binEmpty c (b + 2) then
    let u := t.setBin c (b + 2) re im
    let u := { u with cel := { u.cel with info := putPair u.cel.info (c, b + 2) meta' } }
    ((u.baselineSheet c (w.j / 8) w.active).flagRaise CEL_STAT_BASE_EV 515, true)
  else (t, false)

/-- The results of a window that is neither aborted nor without a scale (R326 to R328): its status, its bins. -/
def State.windowResult (w : Window) (s : State) : State :=
  let amp := s.ampSquare w
  let unit : Rat := (s.capacity : Rat) / 10
  let s := s.setFld (CEL_FQ_IAMP w.j) (min (sqrtRound (amp / (unit * unit))) 65535)
  let need : Rat := if w.active then (w.amp : Rat) * s.celIGain / 65536 / 2 else (s.iMin : Rat) * unit
  if w.disturbed ≠ 0 then
    let r := s.takeFree 8
    ((r.2.windowStatus w 4).bump CEL_SWEEP_DIST_CNT).sheet 0x0801 (leBytes 1 w.j ++ leBytes 1 r.1)
      |>.flagRaise CEL_STAT_DIST_EV 513
  else if w.rounds < 4 * (16 + w.slot) then s.windowStatus w 5
  else if amp < need * need then s.windowStatus w 3
  else
    let cs := (List.range s.cells).filter (fun c => !w.held.contains c)
    let t := forEach cs (fun c t => (t.storeResult w c).1) (s.windowStatus w (if w.held.isEmpty then 1 else 2))
    (onlyIf (!cs.isEmpty) (State.raise 514) t).showHealth

/-- The window is closed: balancing may resume, the sweep goes on or ends. -/
def State.closeWindow (s : State) : State :=
  let t := { s with cel := { s.cel with window := none, yieldEnd := some s.clk.core } }
  ((t.setFld CEL_STAT_WIN 0).setYield false).showLim.owRelease

/-- A re-lay taking effect, an L2 or an L3 abandons the sweep (R328). -/
def State.abandonSweep (s : State) : State :=
  if !s.flag CEL_STAT_SWEEP then s else
  let t := match s.cel.window with
    | some w => (s.windowStatus w 6).closeWindow
    | none => s
  let t := { t with cel := { t.cel with todo := [], fresh := [], lastStart := some (s.msCeil + 1) } }
  t.setFld CEL_STAT_SWEEP 0

/-! ### A cell round in the services (R322, R326, R331, R332) -/

/-- Entry `k` of the sine table of 4,096 entries (R326). -/
def sineEntry (k : Nat) : Int := roundDiv (Config.lockScale * sinTurns (k % 4096) 4096) (2 ^ 80)

/-- A 48-bit sum (R326); what one holds that does not fit the spec leaves open: a free value (safe: log entry 31). -/
def State.sum48 (x : Int) (s : State) : Int × State :=
  if -(2 ^ 47) ≤ x ∧ x < 2 ^ 47 then (x, s)
  else
    let r := s.takeFree 48
    ((BitVec.ofNat 48 r.1).toInt, r.2)

/-- One engine's sum takes a sample at a phase with cosine `c` and sine `d`. -/
def State.addLocked (c d : Int) (a : Int × Int) (x : Int) (s : State) : (Int × Int) × State :=
  let p := s.sum48 (a.1 + x * c)
  let q := p.2.sum48 (a.2 - x * d)
  ((p.1, q.1), q.2)
def State.addAll (c d : Int) : List ((Int × Int) × Int) → State → List (Int × Int) × State
  | [], s => ([], s)
  | p :: r, s =>
    let h := s.addLocked c d p.1 p.2
    let t := State.addAll c d r h.2
    (h.1 :: t.1, t.2)

/-- The engines take a round of the measuring part. A phase between two entries takes either (a free bit, safe: log entry
31). -/
def State.lockIn (r : Round) (s : State) : State :=
  match s.cel.window with
  | none => s
  | some w =>
    let t := s.unbounded r.stamp
    if (w.a + windowMs w.j) * 2 ^ 28 ≤ t * 1000 ∧ t * 1000 < (w.a + 2 * windowMs w.j) * 2 ^ 28 then
      let num := phaseNum w.j w.slot w.a t
      let f := s.takeFree 1
      let k := 4096 * num / phaseDen + (if 4096 * num % phaseDen = 0 then 0 else f.1)
      let c := sineEntry (k + 1024)
      let d := sineEntry k
      let cells := f.2.addAll c d ((List.range s.cells).map (fun k => (w.acc.getD k (0, 0), r.cells.getD k 0)))
      let current := cells.2.addLocked c d w.accI r.current
      let w' := { w with
        rounds := w.rounds + 1
        held := w.held ++ r.held.filter (fun k => !w.held.contains k)
        acc := cells.1
        accI := current.1 }
      { current.2 with cel := { current.2.cel with window := some w' } }
    else s

/-- The cell rounds captured and still being converted, as the services will take them. -/
def State.lateRounds (s : State) : List Round :=
  s.msr.marks.filterMap (fun m =>
    let left := (s.msr.pipe.getD 2 []).filter (fun f => decide (f.trig = m.trig) && f.conv != .ref)
    let soFar := match s.msr.round with
      | some (t, _, l) => if t = m.trig then l else []
      | none => []
    left.head?.map (fun f => ⟨f.stamp, m.current, (soFar ++ left.map InFlight.value).take s.cells,
      m.held ++ (List.range s.cells).filter (fun c => s.openCell c && !m.held.contains c)⟩))

/-- WINDOW_END (R325 to R328): `enginesAgree` says whether the four current accumulators agree. The rounds triggered before the
end belong to the window, also those still being converted (R322). -/
def execWindowEnd (enginesAgree : Bool) (s : State) : Host.Outcome State Fault Refusal :=
  .next (
    match s.cel.window.map (fun w => w.a + 2 * windowMs w.j) with
    | none => s
    | some e =>
      if s.msReached e then
        let s := forEach s.lateRounds State.lockIn s
        match s.cel.window with
        | none => s
        | some w =>
        let w := if enginesAgree then w else { w with disturbed := 1 }
        let t := if s.celIGain = 0 then s.windowStatus w 7 else s.windowResult w
        let t := { t with cel := { t.cel with sweepT := e, todo := t.cel.todo.drop 1 } }
        let t := t.closeWindow
        if t.cel.todo.isEmpty then t.sweepEnd else t
      else s)

/-- An accepted pulse (R331, R335): R of every cell into its mean of 16, the baseline at the first full mean. -/
def State.acceptPulse (p : Pulse) (r : Round) (s : State) : State :=
  let di : Rat := (r.current : Rat) - (p.baseI : Rat) / 4
  let temp := s.moduleTemp
  let cells := List.range s.cells
  let t := forEach cells (fun c t =>
    let dv : Rat := (r.cells.getD c 0 : Rat) - (p.baseV.getD c 0 : Rat) / 4
    let ohm := roundRat (dv / di * 200000000 * 65536 / s.celIGain)
    let l := (ohm :: lookupD t.cel.pulses c []).take 16
    let t := { t with cel := { t.cel with
      pulses := putPair t.cel.pulses c l, pulseMeta := putPair t.cel.pulseMeta c (s.secNow, temp) } }
    (t.showUnits (CEL_PULSE_R c) (2 ^ 24 - 1) (pulseMean l)).setFld (CEL_PULSE_N c) l.length) s
  let t := t.flagRaise CEL_STAT_PULSE_EV 516
  let fill := cells.filter (fun c => (lookupD t.cel.pulses c []).length == 16 && !t.cel.pulseBase.any (fun q => decide (q.1 = c)))
  if fill.isEmpty then t.showHealth
  else
    let t := forEach fill (fun c t =>
      { t with cel := { t.cel with pulseBase := putPair t.cel.pulseBase c (pulseMean (lookupD t.cel.pulses c []), temp) } }) t
    let t := forEach ((List.range 2).filter (fun h => decide (16 * h < s.cells))) (fun h t =>
      let vals := (List.range 16).map (fun i => if 16 * h + i < s.cells then
        some (lookupD t.cel.pulseBase (16 * h + i) (0, 0)).1 else none)
      let e := fitExponent (vals.filterMap id)
      let q := State.packAll e vals t
      q.2.sheet 0x1012 (leBytes 1 h ++ leBytes 1 e ++ q.1 ++ leBytes 2 (encodeInt 16 temp))) t
    (t.flagRaise CEL_STAT_BASE_EV 515).showHealth

/-- The pulse watch (R331). -/
def State.watchPulse (r : Round) (s : State) : State :=
  let four (l : List Round) : Int := l.foldl (fun a q => a + q.current) 0
  let s := match s.cel.pulse with
    | some p =>
      let p := if r.held.isEmpty then p else { p with spoilt := true }
      if s.pulseDt * 2 ^ 28 ≤ ticksBetween p.at0 r.stamp * 1000000 then
        let ib : Rat := (p.baseI : Rat) / 4
        let steady := decide (absRat ((r.current : Rat) - p.i0) ≤ absRat ((p.i0 : Rat) - ib) / 4)
        let slow := decide (2 * s.msr.roundGap ≤ s.pulseDt * coreUs)
        let t := { s with cel := { s.cel with pulse := none } }
        if !p.spoilt && steady && slow && decide ((r.current : Rat) ≠ ib) then t.acceptPulse p r else t
      else { s with cel := { s.cel with pulse := some p } }
    | none =>
      if s.cel.recent.length = 4 then
        let sumI := four s.cel.recent
        if s.permille s.pulseDi ≤ s.celMicroAmps (absRat ((r.current : Rat) - (sumI : Rat) / 4)) then
          let sumV := s.cel.recent.foldl (fun a (q : Round) => addLists a q.cells) []
          { s with cel := { s.cel with pulse := some ⟨sumI, sumV, r.stamp, r.current, !r.held.isEmpty⟩ } }
        else s
      else s
  { s with cel := { s.cel with recent := (r :: s.cel.recent).take 4 } }

/-- Q takes a charge in µAs (R332): whole µAs go into its 64 bits, the fraction is kept beside them. A Q that does not fit is
left open: a free value (safe: log entry 31). -/
def State.addCharge (q : Rat) (s : State) : State :=
  let all := s.cel.chargeRem + q
  let sum := s.cel.charge.toInt + all.floor
  let r := if -(2 ^ 63) ≤ sum ∧ sum < 2 ^ 63 then (BitVec.ofInt 64 sum, s) else
    let f := s.takeFree 64
    (BitVec.ofNat 64 f.1, f.2)
  { r.2 with cel := { r.2.cel with charge := r.1, chargeRem := all - all.floor } }

/-- The mean of the running second's current samples. -/
def State.secMean (s : State) : Option Rat :=
  if s.cel.secCount = 0 then none else some ((s.cel.secSum : Rat) / s.cel.secCount)

/-- Charge, and the mean current of each second (R332). -/
def State.integrateCell (r : Round) (s : State) : State :=
  let dt : Int := match s.cel.lastAt with
    | some a => max 0 (ticksBetween a r.stamp)
    | none => 0
  let q := s.celMicroAmps r.current * dt / 2 ^ 28
  let sec := s.unbounded r.stamp / 2 ^ 28
  let s := s.addCharge q
  let s := { s with cel := { s.cel with lastAt := some r.stamp } }
  if sec = s.cel.secNo then
    { s with cel := { s.cel with secSum := s.cel.secSum + r.current, secCount := s.cel.secCount + 1 } }
  else
    let mean := if sec = s.cel.secNo + 1 then s.secMean else none
    let quiet := match mean with
      | some m => decide (s.celMicroAmps (absRat m) ≤ s.permille s.restI)
      | none => false
    { s with cel := { s.cel with
      secNo := sec, secSum := r.current, secCount := 1, mean := mean, restFor := if quiet then s.cel.restFor + 1 else 0 } }

/-- A completed cell round reaches the services. -/
def State.celRound (r : Round) (s : State) : State :=
  if s.celIGain = 0 then s.lockIn r
  else ((s.lockIn r).watchPulse r).integrateCell r

/-! ### Rest points (R332) -/

/-- The state of charge in percent of a cell voltage in µV, by the OCV table. -/
def socOf (ocv : List Nat) (uv : Int) : Option Rat :=
  if ocv.isEmpty then none
  else
    let mv : Rat := (uv : Rat) / 1000
    let v (i : Nat) : Rat := ocv.getD i 0
    if mv ≤ v 0 then some 0
    else if v 20 ≤ mv then some 100
    else
      let i := ((List.range 20).filter (fun k => decide (v k ≤ mv))).length - 1
      some (5 * (i + (mv - v i) / (v (i + 1) - v i)))

/-- REST_POINT (R332): REST_T seconds of rest have passed. -/
def execRestPoint (s : State) : Host.Outcome State Fault Refusal :=
  .next (
    if s.active && decide (0 < s.cells) && s.celIGain != 0 && decide (s.restT ≤ s.cel.restFor) then
      let soc := (List.range s.cells).filterMap (fun c =>
        if s.flag (MSR_CELL_HOLD c) || s.openCell c then none
        else (socOf s.ocv (s.sfld (MSR_CELL_V c))).map (fun v => (c, v)))
      let updates : List (Nat × Rat) := match s.cel.rest with
        | none => []
        | some p => soc.filterMap (fun q =>
          match p.soc.find? (fun x => decide (x.1 = q.1)) with
          | some (_, v0) =>
            let d := q.2 - v0
            if (s.dsocMin : Rat) ≤ absRat d then
              some (q.1, (((s.cel.charge.toInt - p.charge : Int) : Rat) - lookupD s.cel.drained q.1 0) / (d / 100) / 3600000)
            else none
          | none => none)
      let caps := updates.foldl (fun l u =>
        match l.find? (fun x => decide (x.1 = u.1)) with
        | some (_, est, n) => putPair l u.1 (est + (u.2 - est) / 4, n + 1)
        | none => putPair l u.1 (u.2, 1)) s.cel.caps
      let t := { s with cel := { s.cel with
        caps := caps, rest := some ⟨s.cel.charge.toInt, soc⟩, drained := [], restFor := 0 } }
      if updates.isEmpty then t else t.showHealth.healthSheets.evalGrade
    else s)

/-! ### Baselines and the restore (R335, R336) -/

/-- BASE_RST: every baseline is emptied. -/
def State.baseRst (s : State) : State :=
  let t := forEach (List.range 32) (fun c t => forEach (List.range 16) (fun j t =>
    (t.setBin c (4 * j + 2) emptyBin emptyBin).setBin c (4 * j + 3) emptyBin emptyBin) t) s
  ({ t with cel := { t.cel with pulseBase := [], info := t.cel.info.filter (fun p => decide (p.1.2 % 4 < 2)) } }).showHealth

/-- Everything R336 keeps, emptied (a re-lay that changes CELL_COUNT, L1, L0). -/
def State.emptyCells (s : State) : State :=
  let known := (List.range 32).any (fun c => decide (s.reg (CEL_HEALTH c) ≠ 0x80008000#32))
  let t := forEach (List.range 32) (fun c t =>
    ((forEach (List.range 64) (fun b t => t.setBin c b emptyBin emptyBin) t).setReg (CEL_PULSE c) 0).setReg
      (CEL_HEALTH c) 0x80008000#32) s
  let t := onlyIf known (State.raise 518) t
  { t with cel := { t.cel with
      info := [], pulses := [], pulseMeta := [], pulseBase := [], charge := 0, chargeRem := 0, caps := [], rest := none, drained := []
      recent := [], pulse := none, restFor := 0, lastAt := none } }

/-- A signed 16-bit value of a sheet in units of 2^E; 0x8000 is absent. -/
def unpack (b : List Byte) (o e : Nat) : Option Int :=
  if u16 b o = 0x8000 then none else some ((BitVec.ofNat 16 (u16 b o)).toInt * 2 ^ e)

/-- The bins of one half of a cell from an impedance sheet's payload; `base` says that they are baselines. The sheets carry
neither the second of the window nor the temperature of a result or a baseline (R17, R329): none is restored, so a growth term
stays unavailable until both of its values have been measured again (DEDUCED: log entry 31). -/
def State.restoreBins (c half : Nat) (p : List Byte) (base : Bool) (s : State) : State :=
  forEach (List.range 8) (fun i t =>
    let act := bitsOf (u8 p 3) i 1 == 1
    let b := 4 * (8 * half + i) + (if act then 0 else 1) + (if base then 2 else 0)
    match unpack p (4 + 4 * i) (u8 p 2), unpack p (6 + 4 * i) (u8 p 2) with
    | some re, some im => t.setBin c b (BitVec.ofInt 32 re) (BitVec.ofInt 32 im)
    | _, _ => t) s

/-- A sheet of a type whose payload begins as given. -/
def celSheet (type : Nat) (start : List Nat) (b : List Byte) : Bool :=
  sheetType b == type && start.zipIdx.all (fun p => u8 (sheetPayload b) p.2 == p.1)

/-- CEL_RESTORE_DONE (R336): bins, baselines, estimates and Q from the newest sheets of each type and part. -/
def execCelRestoreDone (s : State) : Host.Outcome State Fault Refusal :=
  .next (
    if s.active && !s.jnl.searching && !s.flag CEL_STAT_RESTORED then
      let get (type : Nat) (start : List Nat) : Option (List Byte) :=
        (s.newestSheet (celSheet type start)).map (fun r => sheetPayload r.1)
      let t := forEach (List.range s.cells) (fun c t => forEach [0, 1] (fun h t =>
        let t := match get 0x1010 [c, h] with
          | some p => t.restoreBins c h p false
          | none => t
        forEach [0, 255] (fun m t =>
          match (s.newestSheet (fun b => celSheet 0x1011 [c, h] b && u8 (sheetPayload b) 3 == m)).map (fun r => sheetPayload r.1) with
          | some p => t.restoreBins c h p true
          | none => t) t) t) s
      let t := forEach [0, 1] (fun h t =>
        match get 0x1012 [h] with
        | some p => forEach (List.range 16) (fun i t =>
            match unpack p (2 + 2 * i) (u8 p 1) with
            | some v => { t with cel := { t.cel with
                pulseBase := putPair t.cel.pulseBase (16 * h + i) (v, (BitVec.ofNat 16 (u16 p 34)).toInt) } }
            | none => t) t
        | none => t) t
      let t := forEach (List.range 4) (fun q t =>
        match get 0x1013 [q] with
        | some p => forEach (List.range 8) (fun i t =>
            let n := u8 p (17 + i)
            let est : Rat := ((BitVec.ofNat 16 (u16 p (1 + 2 * i))).toInt : Rat) * s.capacity / 1000
            if n = 0 then t else { t with cel := { t.cel with caps := putPair t.cel.caps (8 * q + i) (est, n) } }) t
        | none => t) t
      let t := match get 0x1013 [] with
        | some p => { t with cel := { t.cel with
            charge := BitVec.ofNat 64 (u32 p 25 + 2 ^ 32 * u32 p 29), chargeRem := 0 } }
        | none => t
      let t := match get 0x1014 [] with
        | some p => t.setFld CEL_STAT_GRADE (u8 p 1)
        | none => t
      let t := forEach [0x1010, 0x1011, 0x1012, 0x1013, 0x1014] (fun ty t =>
        if (get ty []).isNone then t.sheet 0x0803 [] else t) t
      ((t.setFld CEL_STAT_RESTORED 1).raise 523).showHealth
    else s)

/-! ### Balancing (R337 to R340) -/

/-- The mean current of the second that ended last: the running sums where no round of the new second has come yet. -/
def State.pastMean (s : State) : Option Rat :=
  if s.cel.secNo + 1 = s.secNow then s.secMean else if s.cel.secNo = s.secNow then s.cel.mean else none

/-- BAL_WHEN holds for the mean current of the past second (R337). -/
def State.balAllowed (s : State) : Bool :=
  match s.balWhen with
  | 0 => true
  | 1 => (match s.pastMean with
    | some m => decide (s.celMicroAmps (absRat m) ≤ s.permille s.restI)
    | none => false)
  | _ => (match s.pastMean with
    | some m => decide (s.permille s.restI < s.celMicroAmps m)
    | none => false)

/-- The service's choice from the newest block (R337). -/
def State.balChoice (s : State) : Word :=
  let ok := (List.range s.cells).filter (fun c => !s.openCell c)
  let v (c : Nat) : Int := s.sfld (MSR_CELL_V c)
  match ok with
  | [] => 0
  | c0 :: r =>
    let low := r.foldl (fun m c => min m (v c)) (v c0)
    let sel := s.reg CEL_BAL_SEL
    if s.balMode = 0 || !s.balAllowed then 0
    else ok.foldl (fun w c =>
      let d := v c - low
      let on := if (s.balStart * 1000 : Int) < d then true else if d < s.balStop * 1000 then false else sel.getLsbD c
      if on then w ||| maskAt c 1 else w) 0

/-- L at a second boundary (R340). -/
def State.stepLim (s : State) : State :=
  let l := s.cel.lim
  let l' :=
    if s.balMode ≠ 2 then 16
    else
      let top := (List.range s.cells).foldl (fun (m : Int) c => max m (s.sfld (MSR_CELL_V c))) 0
      if (s.cellVmax * 1000 : Int) < top then max (l - 1) 1
      else if top < s.cellVmax * 1000 - 10000 then min (l + 1) 16
      else l
  ({ s with cel := { s.cel with lim := l' } }).showLim

/-- The balancing of a new bond (R337, R340): without BAL_MODE 2 L reads 16 from T_eff on; without a balancing service nothing is
selected, and no cell that is not there. With BAL_MODE 2 L goes on from where it stood (DEDUCED: log entry 31). -/
def State.layBalance (s : State) : State :=
  let sel := if s.balMode = 0 then 0 else s.reg CEL_BAL_SEL &&& BitVec.ofNat 32 (2 ^ s.cells - 1)
  let t := onlyIf (s.reg CEL_BAL_SEL != sel) (State.raise 519) (s.setReg CEL_BAL_SEL sel)
  ({ t with cel := { t.cel with lim := if s.balMode = 2 then s.cel.lim else 16 } }).showLim

/-- Balancing yields: a window or an open-wire test is under way, or has ended in this CLK_CORE cycle, since the drivers resume at
the first boundary after it (R338). -/
def State.yields (s : State) : Bool :=
  s.cel.window.isSome || s.msr.ow != .idle || s.cel.yieldEnd == some s.clk.core

/-- BAL_SECOND_BOUNDARY (R337 to R340): one sheet for each OPEN cell that is dropped; RG of a figure past its age becomes
unknown (R333; DEDUCED: log entry 31). -/
def execBalSecondBoundary (s : State) : Host.Outcome State Fault Refusal :=
  .next (
    if s.active && decide (0 < s.cells) && s.cel.balSec != s.secNow then
      let t := { s with cel := { s.cel with balSec := s.secNow } }
      let was := s.reg CEL_BAL_SEL
      let openMask := (List.range s.cells).foldl (fun w c => if s.openCell c then w ||| maskAt c 1 else w) (0 : Word)
      let sel := if s.flag CEL_BAL_CTRL_HOST then s.reg CEL_BAL_MAN &&& ~~~openMask else s.balChoice
      let t := forEach ((List.range s.cells).filter (fun c => (was &&& openMask).getLsbD c)) (fun _ t => t.sheet 0x0804 []) t
      let t := onlyIf (was != sel) (State.raise 519) (t.setReg CEL_BAL_SEL sel)
      let pct := s.balDuty * (16 - s.fld THM_STAT_K) / 16
      let t := if s.yields || s.leadInDue || pct == 0 then t.driversOff
        else t.switchDrivers sel (if sel = 0 then none else some (s.clk.core + pct * 10 * coreMs))
      t.stepLim.showHealth
    else s)

/-- BAL_ON_TIME_END (R337). -/
def execBalOnTimeEnd (s : State) : Host.Outcome State Fault Refusal :=
  .next (if reached s.cel.onEnd s.clk.core then s.driversOff else s)

end Sys2Proof.Machine
end

