-- ==== Sys2Proof/Machine/Convert.lean ====
section
/-! DEFINITION. CONVERSION_DONE (R267, R270, R276): where a calibrated sample goes. -/
namespace Sys2Proof.Machine

/-- A clipped sample (R270, R298). -/
def State.clipped (s : State) : State :=
  s.countFault MSR_CNT_OVR_CNT MSR_STAT_OVR_EV 418 0x0603 1

/-- The averaging windows of the bricks whose phase current the channel is (R207). -/
def State.windowSample (ch tick : Nat) (v : Int) (s : State) : State :=
  forEach ((List.range 16).filter (fun n => s.currentCh n == some ch && decide ((s.brick n).avgFrom ≤ tick)))
    (fun n t => t.updBrick n (fun b => { b with window := (tick, v) :: b.window })) s

/-- The rails a channel is the source of. -/
def State.railsOf (s : State) (ch : Nat) : List Nat :=
  (List.range 16).filter (fun r => (s.tile 5 r).isSome && s.t8 5 r 0 255 == ch)

/-- A sense sample: its register, bricks, supervisors, meters, charge manager, probe, streams. N stays 0 for a channel that has
lost its sense entry since the trigger (R300). -/
def State.senseSample (ch : Nat) (f : InFlight) (s : State) : State :=
  let t := s.setReg (MSR_CH ch) (BitVec.ofNat 32
    ((if (s.senseEntry ch).isSome then f.trig % 65536 else 0) <<< 16 + encodeInt 16 f.value))
  let t := { t with msr := { t.msr with last := putPair t.msr.last ch (f.trig, f.value, f.tick) } }
  let t := t.windowSample ch f.tick f.value
  let t := forEach (t.railsOf ch) (fun r t => t.railSample r f.value) t
  let t := (t.meterSample ch f.trig f.value).chargeSample ch f.tick f.value
  (t.probeStep ch f.value).offerSense ch f.trig f.cap f.stamp

/-- A cell round has all its samples: block, open-wire test, services, streams. -/
def State.roundDone (trig cap : Nat) (stamp : Time) (vals : List Int) (s : State) : State :=
  let m := (s.msr.marks.find? (fun k => decide (k.trig = trig))).getD ⟨trig, [], [], 0⟩
  let t := { s with msr := { s.msr with round := none, marks := s.msr.marks.filter (fun k => !decide (k.trig = trig)) } }
  let cells := vals.take s.cells
  let held := m.held ++ (List.range s.cells).filter (fun c => s.openCell c && !m.held.contains c)
  let t := (t.blockRound stamp vals m).owRound cells
  let t := t.celRound ⟨stamp, m.current, cells, held⟩
  forEach (t.streamsOf 1) (fun k t => t.offerRecord k cap stamp vals) t

/-- A sample of ADC_2's cell chain. -/
def State.cellSample (f : InFlight) (s : State) : State :=
  let soFar := match s.msr.round with
    | some (t, _, l) => if t = f.trig then l else []
    | none => []
  let vals := soFar ++ [f.value]
  match f.conv with
  | .stack => s.roundDone f.trig f.cap f.stamp vals
  | _ => { s with msr := { s.msr with round := some (f.trig, f.stamp, vals) } }

/-- A housekeeping input; inputs 30 and 31 read 0 (R286). The last one offers the round to the streams. -/
def State.hkSample (i : Nat) (f : InFlight) (s : State) : State :=
  let v := if 30 ≤ i then 0 else f.value
  let t := { s with msr := { s.msr with
    hkVals := putPair s.msr.hkVals i v, hkClip := if f.clipped then i :: s.msr.hkClip else s.msr.hkClip } }
  if i = 31 then
    let vals := (List.range 32).map (fun k => lookupD t.msr.hkVals k 0)
    forEach (t.streamsOf 2) (fun k t => t.offerRecord k f.cap f.stamp vals) t
  else t

/-- CONVERSION_DONE (R267): the oldest conversion of a converter is available 8 CLK_CONV cycles after its start. -/
def execConversionDone (adc : BitVec 2) (s : State) : Host.Outcome State Fault Refusal :=
  let a := adc.toNat
  .next (
    match s.msr.pipe.getD a [] with
    | [] => s
    | f :: r =>
      if f.start + 8 ≤ s.convNow then
        let t := { s with msr := { s.msr with pipe := s.msr.pipe.set a r } }
        let t := onlyIf f.clipped State.clipped t
        match f.conv with
        | .sense ch => t.senseSample ch f
        | .cell _ => t.cellSample f
        | .stack => t.cellSample f
        | .hk i => t.hkSample i f
        | .ref => { t with msr := { t.msr with refs := putPair t.msr.refs a f.value } }
      else s)

end Sys2Proof.Machine
end

