-- ==== Sys2Proof/Machine/Vcp.lean ====
section
/-! DEFINITION. The voltage command port (R217 to R233): frames, answers, records. -/
namespace Sys2Proof.Machine

/-! ### Frames (R221) -/

/-- Eight shifts of the CRC-8 register. -/
def crc8Shift : Nat → BitVec 8 → BitVec 8
  | 0, c => c
  | k + 1, c => crc8Shift k (if c.getLsbD 7 then (c <<< 1) ^^^ 7#8 else c <<< 1)

/-- The CRC-8 of a byte string. -/
def crc8 (l : List Byte) : BitVec 8 := l.foldl (fun c b => crc8Shift 8 (c ^^^ b)) 0

/-- A 48-bit frame: group, CMD or ANS, SEQ, 24 bits, CRC. -/
def vcpWord (group code seq data : Nat) : BitVec 48 :=
  let top := group % 256 * 2 ^ 32 + code % 16 * 2 ^ 28 + seq % 16 * 2 ^ 24 + data % 2 ^ 24
  let bytes := (leBytes 5 top).reverse
  BitVec.ofNat 48 (top * 256 + (crc8 bytes).toNat)

/-- The last bit of a frame has been sampled: no answer yet; VCP_SEL stays low for a time the controller sets, a free value (R220,
R226, R234; safe: log entry 27). -/
def State.beginAnswer (s : State) : State :=
  let r := s.takeFree 64
  { r.2 with vcp := { r.2.vcp with answer := none, busyTill := s.clk.core + r.1 } }

/-- An answer is driven: over 50 periods of VCP_CK, 1 µs at least, and VCP_SEL low to its end (R226). -/
def State.holdAnswer (s : State) : State := { s with vcp := { s.vcp with busyTill := s.vcp.busyTill + coreUs } }

/-- VCP_SEL has risen: nothing is driven (R220, R226). -/
def State.endFrame (s : State) : State :=
  { s with vcp := { s.vcp with answer := none, busyTill := s.clk.core } }

/-- VCP_SEL rises before the answer is out: it is lost (R226). When, a free value says: 102 edges of 10 MHz is the longest
transaction. -/
def State.cutAnswer (s : State) : State :=
  let r := s.takeFree 12
  { r.2 with vcp := { r.2.vcp with answer := none, busyTill := s.clk.core + r.1 % 2448 } }

/-- The leader that owns a group (R218). -/
def State.groupOwner (s : State) (group : Nat) : Option Nat :=
  if group = 0xFF then none
  else (List.range 16).find? (fun n => s.role n == 1 && s.fld (VCP_GRP_GROUP n) == group)

/-! ### Errors (R220, R222, R233) -/

/-- The sheet of frame and CRC errors, at most one per second. -/
def State.vcpErrors (frame : Bool) (s : State) : State :=
  let f := s.vcp.frames + (if frame then 1 else 0)
  let c := s.vcp.crcs + (if frame then 0 else 1)
  let due := match s.vcp.sheetAt with
    | some a => decide (a + 1000 * coreMs ≤ s.clk.core)
    | none => true
  if due then
    { s.sheet 0x0403 (leBytes 2 (min f 65535) ++ leBytes 2 (min c 65535)) with
      vcp := { s.vcp with frames := 0, crcs := 0, sheetAt := some s.clk.core } }
  else { s with vcp := { s.vcp with frames := f, crcs := c } }

/-- VCP_SHORT_FRAME (R220). -/
def execVcpShortFrame (s : State) : Host.Outcome State Fault Refusal :=
  .next (
    if s.vcpUp then ((s.endFrame.bump VCP_ERR_CNT_FRAME_CNT).flagRaise VCP_STAT_FRAME_EV 321).vcpErrors true
    else s.endFrame)

/-! ### Answers (R223, R226) -/

/-- Drive an answer: counters, events, the group's last frame. -/
def State.vcpAnswer (n cmd seq ans data : Nat) (s : State) : State :=
  let t := { s with vcp := { s.vcp with answer := some (vcpWord (s.fld (VCP_GRP_GROUP n)) ans seq data) } }.holdAnswer
  let t := ((t.setFld (VCP_GRP_LAST_SEQ n) seq).setFld (VCP_GRP_LAST_CMD n) cmd).setFld (VCP_GRP_LAST_ANS n) ans
  if ans = ansAccept then
    let t := t.bump VCP_ANS_CNT_ACC_CNT
    if cmd ≠ 3 ∧ data / 65536 = 1 then t else t.raise 327
  else if ans = ansReject then (t.bump VCP_ANS_CNT_REJ_CNT).flagRaise VCP_STAT_REJ_EV 322
  else t

/-- A sign-extended 24-bit DATA. -/
def data24 (v : Int) : Nat := encodeInt 24 v

/-- The record of a SEQ is overwritten with a state and its TARGET (R224, R227). -/
def State.putRec (n q state : Nat) (target : Int) (s : State) : State :=
  let t := s.setFld (recFld n q) state
  let keep := t.vcp.waiting.filter (fun p => !decide (p = (n, q)))
  { t with vcp := { t.vcp with
      info := putPair t.vcp.info (n, q) (0, 0, target)
      inForce := if lookupD t.vcp.inForce n 16 = q then dropPair t.vcp.inForce n else t.vcp.inForce
      waiting := if state = ansPending then keep ++ [(n, q)] else keep } }

/-- SET_V and SET_I (R223 to R225). -/
def State.vcpSet (n cmd seq value : Nat) (s : State) : State :=
  let raw := value % 65536
  let tgt : Int := (BitVec.ofNat 16 raw).toInt
  let st := s.brkState n
  if data24 tgt ≠ value then s.vcpAnswer n cmd seq ansReject 2
  else if st = brkHalted then s.vcpAnswer n cmd seq ansReject 3
  else if s.vcp.last.any (fun p => decide (p = (n, cmd, seq, value))) then s.vcpAnswer n cmd seq ansAccept (65536 + raw)
  else
    let t := s.writeTarget n (cmd == 2) raw 1
    let t := t.putRec n seq (if st = brkStarting ∨ st = brkRunning then ansPending else ansDone) tgt
    let t := { t with vcp := { t.vcp with last := putPair t.vcp.last n (cmd, seq, value) } }
    t.vcpAnswer n cmd seq ansAccept raw

/-- SET_SLEW (R223). -/
def State.vcpSlew (n seq value : Nat) (s : State) : State :=
  if value = 0 then s.vcpAnswer n 3 seq ansReject 2
  else if s.brkState n = brkHalted then s.vcpAnswer n 3 seq ansReject 3
  else (s.setFld (BRK_SLEW_SLEW n) value).vcpAnswer n 3 seq ansAccept value

/-- POLL (R229). -/
def State.vcpPoll (n seq value : Nat) (s : State) : State :=
  if value ≠ 0 then s.vcpAnswer n 4 seq ansReject 2
  else
    let st := s.fld (recFld n seq)
    let i := lookupD s.vcp.info (n, seq) (0, 0, 0)
    let data :=
      if st = ansPending then data24 (s.sfld (BRK_FB_FB n))
      else if st = ansSettled then data24 i.2.1
      else if st = ansFailed ∨ st = ansSuperseded then i.1 * 65536 + encodeInt 16 i.2.1
      else if st = ansDone then encodeInt 16 i.2.2
      else 0
    s.vcpAnswer n 4 seq st data

/-- READ (R230): the registers as of the leader's last update instant; before the first one as they stand. -/
def State.vcpRead (n seq value : Nat) (s : State) : State :=
  let v : Shown := ((s.brick n).shown).getD (s.registers n)
  let item : Option Nat := match value with
    | 0 => some (data24 v.fb)
    | 1 => some (data24 v.target)
    | 2 => some (data24 ((v.ref + 128) / 256))
    | 3 => some (v.stat.toNat / 8 % 2 ^ 24)
    | 4 => some (v.cmd.toNat % 2 ^ 24)
    | _ => none
  match item with
  | some d => s.vcpAnswer n 5 seq ansDone d
  | none => s.vcpAnswer n 5 seq ansReject 2

/-- A command frame whose CRC passed (R218, R222, R223): silent for a group no leader of the device owns, and where VCP_SEL
rises early (`cut`) the answer is lost, the effect stands (R226). -/
def State.vcpFrame (cmd group seq value : Nat) (cut : Bool) (s : State) : State :=
  if s.vcpUp then
    let s := s.beginAnswer
    let t := match s.groupOwner group with
      | none => s
      | some n =>
        let w := vcpWord group cmd seq value
        let t := (s.setReg VCP_LAST_LO (w.setWidth 32)).setReg VCP_LAST_HI ((w >>> 32).setWidth 32)
        match cmd with
        | 1 => t.vcpSet n 1 seq value
        | 2 => t.vcpSet n 2 seq value
        | 3 => t.vcpSlew n seq value
        | 4 => t.vcpPoll n seq value
        | 5 => t.vcpRead n seq value
        | _ => t.vcpAnswer n cmd seq ansReject 1
    if cut then t.cutAnswer else t
  else s.endFrame

def execSetV (group : BitVec 8) (seq : BitVec 4) (value : VcpValue) (s : State) :
    Host.Outcome State Fault Refusal :=
  .next (s.vcpFrame 1 group.toNat seq.toNat value.value.toNat value.cut)
def execSetI (group : BitVec 8) (seq : BitVec 4) (value : VcpValue) (s : State) :
    Host.Outcome State Fault Refusal :=
  .next (s.vcpFrame 2 group.toNat seq.toNat value.value.toNat value.cut)
def execSetSlew (group : BitVec 8) (seq : BitVec 4) (value : VcpValue) (s : State) :
    Host.Outcome State Fault Refusal :=
  .next (s.vcpFrame 3 group.toNat seq.toNat value.value.toNat value.cut)
def execPoll (group : BitVec 8) (seq : BitVec 4) (value : VcpValue) (s : State) :
    Host.Outcome State Fault Refusal :=
  .next (s.vcpFrame 4 group.toNat seq.toNat value.value.toNat value.cut)
def execRead (group : BitVec 8) (seq : BitVec 4) (value : VcpValue) (s : State) :
    Host.Outcome State Fault Refusal :=
  .next (s.vcpFrame 5 group.toNat seq.toNat value.value.toNat value.cut)
/-- VCP_RESERVED_CMD (R223): a frame's CMD decides what it is. -/
def execVcpReservedCmd (command : BitVec 4) (group : BitVec 8) (seq : BitVec 4) (value : VcpValue) (s : State) :
    Host.Outcome State Fault Refusal :=
  .next (s.vcpFrame command.toNat group.toNat seq.toNat value.value.toNat value.cut)

/-- VCP_CRC_FAIL (R222): counted; no device answers. -/
def execVcpCrcFail (s : State) : Host.Outcome State Fault Refusal :=
  .next (
    if s.vcpUp then ((s.beginAnswer.bump VCP_ERR_CNT_CRC_CNT).flagRaise VCP_STAT_CRC_EV 320).vcpErrors false
    else s.endFrame)

/-- REC_CLR, T_eff and L2: every record UNKNOWN, the repeat memory cleared (R231, R232, R234). -/
def State.clearRecords (s : State) : State :=
  let t := forEach (List.range 16) (fun n t => (t.setReg (VCP_REC_LO n) 0x88888888#32).setReg (VCP_REC_HI n) 0x88888888#32) s
  { t with vcp := { t.vcp with info := [], inForce := [], waiting := [], last := [] } }

/-- CNT_CLR. -/
def State.vcpCntClr (s : State) : State := (s.setReg VCP_ERR_CNT 0).setReg VCP_ANS_CNT 0

end Sys2Proof.Machine
end

