-- ==== Sys2Proof/Machine/Icu.lean ====
section
/-! DEFINITION. The interrupt controller's own operations (R437 to R443) and the external edges (R438): what a write of its
registers does, the hold-off groups, INT_N. -/
namespace Sys2Proof.Machine

/-! ### One source (R439, R441) -/

/-- Set EN, PRIO, DEST and GROUP of a source from the low half of its word. -/
def State.setRoute (src : Nat) (w : Word) (s : State) : State :=
  s.setReg (ICU_SRC src) (withMask (s.reg (ICU_SRC src)) 0xB7FF w.toNat)

/-- The route of a source has changed from that of `s` (R439, R441): one no longer enabled neither waits nor is stuck; it is
delivered anew where DEST changed, offered where it becomes eligible or waits behind a group it has left. A source that found
its destination full, and goes there still, keeps its place. -/
def State.offerRouted (src : Nat) (s t : State) : State :=
  let moved := t.fld (ICU_SRC_DEST src) != s.fld (ICU_SRC_DEST src)
  let regrouped := s.icu.waiting.contains src && t.fld (ICU_SRC_GROUP src) != s.fld (ICU_SRC_GROUP src)
  if !t.flag (ICU_SRC_EN src) then t.unwait src
  else if moved || regrouped || !s.flag (ICU_SRC_EN src) then State.afterFull ((t.unwait src).offer src)
  else t

/-- The route of a source changes (R439, R441): its entry goes where DEST leaves 3. -/
def State.reroute (src : Nat) (w : Word) (s : State) : State :=
  let t := s.setRoute src w
  let left := s.fld (ICU_SRC_DEST src) == 3 && t.fld (ICU_SRC_DEST src) != 3
  s.offerRouted src (onlyIf left (State.dropEntry src) t)

/-- A write of ICU_SRC_s (R439): the clear of PEND comes before the rest. -/
def State.srcWritten (src : Nat) (w : Word) (s : State) : State :=
  let t := if w.getLsbD 31 then s.clearPend src else s
  (t.reroute src w).refillQueue

/-- A re-lay's replacement of a source's configuration (R153, R441): PEND is kept, and the entry of a source that is
disabled or routed away from DEST 3 goes. -/
def State.relaySrc (src : Nat) (w : Word) (s : State) : State :=
  let t := s.setRoute src w
  let left := s.fld (ICU_SRC_DEST src) == 3 && t.fld (ICU_SRC_DEST src) != 3
  s.offerRouted src (onlyIf (!t.flag (ICU_SRC_EN src) || left) (State.dropEntry src) t)

/-- A write of ICU_CTRL.POP (R441): the head entry leaves and its source is cleared; nothing with the queue empty. -/
def State.icuPopHead (s : State) : State :=
  match headEntry s.icu.queue with
  | none => s
  | some e => (s.clearPend e.source).refillQueue

/-- An accepted write of ICU_DOORBELL (R437). -/
def State.ringDoorbell (src : Nat) (s : State) : State := if 832 ≤ src ∧ src ≤ 1023 then s.raise src else s

/-! ### Hold-off groups (R442) -/

/-- Sources waiting behind a group. -/
def State.groupWaits (s : State) (g : Nat) : List Nat :=
  s.icu.waiting.filter (fun src => decide (s.fld (ICU_SRC_GROUP src) = g))

/-- Group `g` opens. -/
def State.openGroup (g : Nat) (s : State) : State := { s with icu := { s.icu with held := dropPair s.icu.held g } }

/-- A write of 0 to HOLD opens the group at once and delivers every waiting source; another value takes effect at the next
start of a hold. -/
def State.holdWritten (g : Nat) (s : State) : State :=
  if s.fld (ICU_HOLD_HOLD g) = 0 then (s.openGroup g).deliverAll (s.groupWaits g) else s

/-- HOLDOFF_EXPIRY: what waits is delivered as one batch and the group is held again, or the group opens. -/
def execHoldoffExpiry (g : Nat) (s : State) : Host.Outcome State Fault Refusal :=
  .next (
    match s.icu.held.find? (fun p => decide (p.1 = g)) with
    | none => s
    | some (_, d) =>
      if d ≤ s.clk.core then
        let batch := (s.groupWaits g).filter s.eligible
        let h := s.fld (ICU_HOLD_HOLD g)
        let t := s.openGroup g
        if batch.isEmpty then t
        else
          let t := t.deliverAll (s.groupWaits g)
          if h = 0 then t else { t with icu := { t.icu with held := putPair t.icu.held g (s.clk.core + h * coreUs) } }
      else s)

/-- INT_N_GAP_END (R443): the 1 µs minimum release of INT_N has passed. -/
def execIntNGapEnd (s : State) : Host.Outcome State Fault Refusal :=
  .next (if reached s.icu.gapEnd s.clk.core then ({ s with icu := { s.icu with gapEnd := none } }).driveInt else s)

/-! ### External edges (R438) -/

/-- An edge selector of two bits (0 off, 1 rising, 2 falling, 3 both) selects an edge. -/
def selects (sel : Nat) (rising : Bool) : Bool := bitsOf sel (if rising then 0 else 1) 1 == 1

/-- IRQ_EDGE of IRQ_n (pin tile). -/
def State.irqEdgeOf (s : State) (n : Nat) : Nat := s.t8 0xD 0 (0x40 + n) 0

/-- The synchronous inputs are sampled: the ICU runs and the device is not in Standby (R438, R445). -/
def State.edgesSampled (s : State) : Bool := s.icuRuns && s.boot.power != .standby

/-- A Standby latch is armed (R445): 0 to 7 IRQ_n, 8 WAKE, 9 to 12 the ports. -/
def State.latchArmed (s : State) (k : Nat) : Bool :=
  bitsOf (s.reg GLB_WAKE_MASK).toNat k 1 == 1 && decide (k < 13) &&
    (if k < 8 then s.irqEdgeOf k != 0 else if k = 8 then true else s.portOn (k - 9))

/-- The source a latch raises (Table — External interrupt sources). -/
def latchSource (k : Nat) : Nat := 800 + k

/-- An edge in Idle cancels a Standby request whose latches are armed (R444). -/
def State.cancelStandby (k : Nat) (s : State) : State :=
  if s.active && s.icu.armed && s.latchArmed k then { s with icu := { s.icu with armed := false } } else s

/-- IRQ_EDGE: IRQ_n shows an edge; the one its pin tile selects raises its source. -/
def execIrqEdge (n : Nat) (rising : Bool) (s : State) : Host.Outcome State Fault Refusal :=
  .next (
    if s.edgesSampled && decide (n < 8) && selects (s.irqEdgeOf n) rising then (s.cancelStandby n).raise (800 + n) else s)

/-- GPIO_EDGE: GPIO_n with FUNC 4 shows an edge that HST_GPIO_EDGE selects. -/
def execGpioEdge (n : Nat) (rising : Bool) (s : State) : Host.Outcome State Fault Refusal :=
  .next (
    if s.edgesSampled && decide (n < 16) && s.gpioFunc n == 4 && selects (bitsOf (s.reg HST_GPIO_EDGE).toNat (2 * n) 2) rising
    then s.raise (816 + n) else s)

/-- WAKE_RISE: WAKE rises in Idle or Run. -/
def execWakeRise (s : State) : Host.Outcome State Fault Refusal :=
  .next (if s.active then (s.cancelStandby 8).raise 808 else s)

end Sys2Proof.Machine
end

