-- ==== Sys2Proof/Machine/Ring.lean ====
section
/-! DEFINITION. The state of a ring (R403, R405, R407): who supervises it, the time parent that follows from it, and how a change is
told. -/
namespace Sys2Proof.Machine

/-- Devices of the own string, strings of the trunk; this device's place on the ring. -/
def State.ringSize (s : State) (trunk : Bool) : Nat := s.fld (if trunk then LNK_ADDR_NSTR else LNK_ADDR_NDEV)
def State.ringPlace (s : State) (trunk : Bool) : Nat :=
  if trunk then s.fld LNK_ADDR_ADDR / 64 else s.fld LNK_ADDR_ADDR % 64

/-- The port towards the time parent (R414), and LNK_SYNC: the keystone has none, nor has a device whose path there is cut. -/
def State.parentPort (s : State) : Nat := if s.isHead then s.trunkPort 0 else s.stringPort 0
def State.showParent (s : State) : State :=
  if s.unaddressed || s.isKeystone then s.setFld LNK_SYNC_NO_PARENT 1
  else (s.setFld LNK_SYNC_PARENT s.parentPort).setFld LNK_SYNC_NO_PARENT (1 - bit (s.portUp s.parentPort))

/-- The device supervises a ring: the head its string, the keystone the trunk (R407). -/
def State.supervises (s : State) (trunk : Bool) : Bool := s.linked && (if trunk then s.isKeystone else s.isHead)

/-- A ring's state stands here: the routing follows; at a change its bit, RING_EV, source 673 or 674. -/
def State.showRing (trunk opened : Bool) (s : State) : State :=
  if s.flag (openFld trunk) = opened then s.showParent
  else (((s.setFlag (openFld trunk) opened).setFld LNK_STAT_RING_EV 1).showParent).raise (if trunk then 674 else 673)

/-- RING_STATE in both directions of a ring. -/
def State.sendRing (trunk opened : Bool) (s : State) : State :=
  s.send 0x07 (if trunk then 4 else 2) true (leBytes 1 (bit opened) ++ leBytes 3 0)

/-- The head or the keystone declares a change: the broadcast and the sheet (R407). -/
def State.declareRing (trunk opened : Bool) (s : State) : State :=
  if s.flag (openFld trunk) = opened then s.showParent
  else
    let t := (s.showRing trunk opened).setRing trunk { s.ring trunk with missed := 0, returned := 0 }
    (t.sendRing trunk opened).sheet (if opened then (if trunk then 0x0B03 else 0x0B02) else 0x0B04) []

/-- The ring opens at one of this device's own ports (R407): the break follows. -/
def Ring.openedHere (r : Ring) (n p : Nat) (portA : Bool) : Ring :=
  { r with sideB := if portA then (p + n - 1) % max n 1 else p, onSideA := portA && p != 0 }

/-- A port that was up is down (R407): RING_STATE leaves in both directions, and the ring stands open here, which its head or the
keystone declares. -/
def State.portLost (p : Nat) (s : State) : State :=
  let trunk := decide (2 ≤ p)
  let t := s.sendRing trunk true
  let t := t.setRing trunk ((t.ring trunk).openedHere (t.ringSize trunk) (t.ringPlace trunk) (p % 2 == 0))
  if s.supervises trunk then t.declareRing trunk true else t.showRing trunk true

end Sys2Proof.Machine
end

