-- ==== Sys2Proof/Machine/Bond.lean ====
section
/-! DEFINITION. The bond at work (R148 to R156): the flash slots, receiving, validation and storing, and what taking a bond
lays into every block, at start (R149) and at a re-lay (R153, R28 to R30). -/
namespace Sys2Proof.Machine

/-! ### Restoring registers (R7) -/

/-- The word of the register at `a` after a reset of level `lvl` restores its fields. -/
def restoredWord (lvl a : Nat) (w : Word) : Word :=
  let m := maskOf (restoredAt lvl) (fieldsOf a)
  (w &&& ~~~m) ||| (regReset a &&& m)

/-- Restore the registers whose address satisfies `p` at a level. -/
def State.restore (lvl : Nat) (p : Nat → Bool) (s : State) : State :=
  { s with regs := s.regs.filterMap (fun e =>
      if p e.1 then
        let v := restoredWord lvl e.1 e.2
        if v = regReset e.1 then none else some (e.1, v)
      else some e) }

/-! ### The flash slots (R148, R149) -/

/-- A seal that stands in a slot: GEN, LENGTH and its ACTIVE word. -/
structure Seal where
  gen : Nat
  length : Nat
  active : Nat
deriving DecidableEq, Repr

def slotBase (k : Nat) : Nat := 0x200000 + 0x20000 * k

/-- The seal of slot `k` (0 A, 1 B) where MAGIC, CRC and LENGTH are correct. -/
def State.sealAt (s : State) (k : Nat) : Option Seal :=
  let b := s.flashRead (slotBase k + 0x10000) 20
  let len := u32 b 8
  if b.take 4 = [0x42, 0x4E, 0x44, 0x53] ∧ u32 b 0xC = (crc32 (b.take 12)).toNat ∧ 84 ≤ len ∧ len ≤ 65536 then
    some ⟨u32 b 4, len, u32 b 0x10⟩
  else none

/-- A valid seal: ACTIVE reads 0 (R149). -/
def State.validSeal (s : State) (k : Nat) : Option Seal :=
  match s.sealAt k with
  | some e => if e.active = 0 then some e else none
  | none => none

/-- The slot a start takes: the higher GEN, slot A on a tie (R149). -/
def State.startSlot (s : State) : Option (Nat × Seal) :=
  match s.validSeal 0, s.validSeal 1 with
  | some a, some b => if a.gen < b.gen then some (1, b) else some (0, a)
  | some a, none => some (0, a)
  | none, some b => some (1, b)
  | none, none => none

/-- The slot not in use: B or A beside the one in use, A while none is. -/
def State.otherSlot (s : State) : Nat := if s.bnd.slotUsed then 1 - s.fld BND_STAT_SLOT else 0

/-- The pending seal of the slot not in use (R152). -/
def State.pendingSeal (s : State) : Option Seal :=
  match s.sealAt s.otherSlot with
  | some e => if e.active = 0xFFFFFFFF then some e else none
  | none => none

/-! ### Keys -/

/-- The grade in OTP FACTORY row 2 (R482): 1 for -BGI, 2 for -BGE. -/
def State.grade (s : State) : Nat := bitsOf (s.otpData 2).toNat 0 4

/-- The bytes of OTP rows. -/
def State.otpBytes (s : State) (row n : Nat) : List Byte :=
  ((List.range n).map (fun i => leBytes 4 (s.otpData (row + i)).toNat)).flatten

/-- CUST_KEY_HASH where one is programmed, else GM_KEY_HASH (R123, R144). -/
def State.keyHash (s : State) : List Byte :=
  let c := s.otpBytes 200 8
  if c.all (fun b => b == 0) then s.otpBytes 192 8 else c

/-- BOND_SIGNED (Table — Options). -/
def State.bondSigned (s : State) : Bool := s.boot.opt0.getLsbD 2

/-! ### Taking a bond (R133, R153) -/

/-- The code on the STAT balls, or the one they return to once a failed lock attempt is withMask (R58, R115). -/
def State.showStat (code : Nat) (s : State) : State :=
  if s.clk.clockFail then { s with clk := { s.clk with statBefore := code } }
  else { s with boot := { s.boot with stat := some code } }

/-- Brick `n` takes its configuration: every register but its lane states and lane counters (R202), and FAST_TRIP and
I2T_TRIP while a fault is ACTIVE (R153). At a start STATE takes its reset value, which changes nothing (R187). -/
def State.layBrick (n : Nat) (s : State) : State :=
  let a0 := 0x100000 + 0x1000 * n
  let kept := [BRK_LANE_A_CNT n, BRK_LANE_B_CNT n, BRK_HOLD n]
  let active := s.flag SEQ_FAULT_ACTIVE
  let b := s.brick n
  let was := s.brkState n
  let t := s.restore 3 (fun a => decide (a0 ≤ a) && decide (a < a0 + 0x1000) && !kept.contains a)
  let t := (t.setFld (BRK_LANE_STAT_LANE_A n) (laneState s n .a)).setFld (BRK_LANE_STAT_LANE_B n) (laneState s n .b)
  let t := if active then
      (t.setFlag (BRK_LIM_STAT_FAST_TRIP n) (s.flag (BRK_LIM_STAT_FAST_TRIP n))).setFlag (BRK_LIM_STAT_I2T_TRIP n)
        (s.flag (BRK_LIM_STAT_I2T_TRIP n))
    else t
  let t := t.setBrick n { Brick.fresh with
    transA := b.transA, transB := b.transB, fullLater := b.fullLater, rejoin := b.rejoin, testing := b.testing,
    holdBoth := b.holdBoth, scrubAt := s.clk.core, avgFrom := s.clk.core }
  let enter (st : Nat) (t : State) : State := if s.active then t.setBrkState n st else t.setFld (BRK_STAT_STATE n) st
  let t := t.setFld (BRK_STAT_STATE n) was
  match s.tile 3 n with
  | none => enter brkUnassigned t
  | some x =>
    let role := x.u8 0
    let t := (((((t.setFld (BRK_CFG_ROLE n) role).setFld (BRK_CFG_KIND n) (x.u8 1)).setFld (BRK_CFG_LEADER n) (x.u8 2)).setFld
      (BRK_CFG_PHASE_IDX n) (x.u8 3)).setFld (BRK_CFG_UPDATES n) (x.u8 0x18)).setFld (BRK_CFG_VCP_GROUP n) (x.u8 0x1A)
    let t := (((t.setFld (BRK_PERIOD_PERIOD n) (x.u32 4)).setFld (BRK_DT_RISE_VALUE n) (x.u32 0xC)).setFld
      (BRK_DT_FALL_VALUE n) (x.u32 0x10)).setFld (BRK_PHASE_OFS_VALUE n) (x.u32 0x14)
    let t := t.setFld (BRK_LIM_STAT_RETRY_LEFT n) (x.u8 0x19)
    let t := forEach (List.range 9) (fun i t => t.setReg (BRK_COMP n i) (BitVec.ofNat 32 (x.u32 (0x1C + 4 * i)))) t
    let ref := x.s16 0x42
    let t := (t.setFld (BRK_COMP_BST_THR_BST_THR n) (x.u16 0x40)).setFld (BRK_TARGET_TARGET n) (encodeInt 16 ref)
    let t := (t.setRef n (256 * ref)).setFld (BRK_SLEW_SLEW n) (x.u32 0x44)
    let t := (t.setReg (BRK_COMP_CMD_MIN n) (BitVec.ofNat 32 (x.u32 0x48))).setReg (BRK_COMP_CMD_MAX n) (BitVec.ofNat 32 (x.u32 0x4C))
    let t := (t.setFld (BRK_I2T_LIMIT_LIMIT n) (x.u32 0x50)).setFld (BRK_FAST_THR n) (x.u16 0x54)
    let t := ((t.setFld (BRK_FAST_BLANK n) (x.u16 0x56)).setFld (BRK_SLOW_THR n) (x.u16 0x58)).setFld (BRK_SLOW_WIN n) (x.u16 0x5A)
    let t := (t.setFld (BRK_SETTLE_BAND n) (x.u16 0x5C)).setFld (BRK_SETTLE_TMO n) (x.u16 0x5E)
    if role = 0 then enter brkUnassigned t
    else
      let la := laneState t n .a
      let lb := laneState t n .b
      let t := (t.setFlag (BRK_LANE_STAT_DUAL n) (la == 0 && lb == 0)).setFlag (BRK_LANE_STAT_DRIVE n) (la != 0 && lb == 0)
      let t := (t.takeLimits n).loadStores n
      enter (if active then brkHalted else brkStopped) (t.syncLanes n)

/-- Thresholds of rails 16 to 18 with no tile: −10 % and +10 % of nominal (Table — Tile types). -/
def defaultWindow (r : Nat) : Nat × Nat :=
  match r with
  | 16 => (720, 880)
  | 17 => (743, 907)
  | 18 => (810, 990)
  | _ => (0, 0)

/-- Every rail takes its windows and its power-good delay; they apply from the next sample (R153). -/
def State.layRails (s : State) : State :=
  let t := forEach (List.range 21) (fun r t =>
    let d := defaultWindow r
    ((t.setFld (SEQ_RAIL_WIN_UV r) (s.t16 5 r 4 d.1)).setFld (SEQ_RAIL_WIN_OV r) (s.t16 5 r 6 d.2)).setFld
      (SEQ_RAIL_PGD_PG_DELAY r) (s.t16 5 r 8 0)) s
  { t with seq := { t.seq with viol := [] } }

/-- Sensors (R304, R305): a sensor that is not enabled has no broken flag and no count; HOT follows the new THROTTLE once there
has been a round. -/
def State.layThermal (s : State) : State :=
  forEach (List.range 13) (fun i t =>
    let t := (t.setFlag (THM_T_EN i) (t.senEn i)).setFlag (THM_T_PRIV i) (t.senPriv i)
    let t := (t.setFld (THM_LIM_THROTTLE i) (encodeInt 16 (t.senThrottle i))).setFld (THM_LIM_SHUTDOWN i) (encodeInt 16 (t.senShutdown i))
    let t := if t.senEn i then t else (t.setBroken i false).setSensor i ⟨0, 0, 0, 0, 0, 0⟩
    onlyIf (decide (0 < t.msr.hkRounds)) (State.showHot i) t) s

/-- The interrupt tile: HOLD of every group and the route of every source, a source with no entry being disabled (R439); then
a HOLD of 0 opens its group, so that what waits is delivered under the new routes (R153). -/
def State.layIcu (s : State) : State :=
  let t := forEach (List.range 32) (fun g t => t.setFld (ICU_HOLD_HOLD g) (s.t32 0xC 0 (4 * g) 0)) s
  let entries := (List.range (s.t16 0xC 0 0x80 0)).map (fun k =>
    (s.t16 0xC 0 (0x84 + 4 * k) 0, 256 * s.t8 0xC 0 (0x86 + 4 * k) 0 + s.t8 0xC 0 (0x87 + 4 * k) 0))
  let t := forEach (List.range 1024) (fun src t => t.relaySrc src (BitVec.ofNat 32 (lookupD entries src 0x00FF))) t
  (forEach (List.range 32) State.holdWritten t).refillQueue

/-- The link tile: the ports enabled; a port that is no longer enabled goes down, which the device tells (R401, R403, R407). -/
def State.layLink (s : State) : State :=
  let en := s.t8 0xB 0 2 0xF
  let up := s.fld LNK_STAT_UP
  let t := (s.setFld LNK_STAT_EN en).setFld LNK_STAT_UP (Nat.land up en)
  let t := onlyIf (Nat.land up en != up) (State.raise 672) t
  if s.active then
    forEach ((List.range 4).filter (fun p => bitsOf up p 1 == 1 && bitsOf en p 1 == 0)) State.portLost t
  else t

/-- The pin tile: GPIO functions, the output levels of the output pins only, VCP. -/
def State.layPins (s : State) : State :=
  let t := forEach (List.range 16) (fun j t =>
    t.setFld (if j < 8 then HST_GPIO_FUNC_LO_FUNC j else HST_GPIO_FUNC_HI_FUNC (j - 8)) (s.gpioFunc j)) s
  let outs := (List.range 16).foldl (fun m j => if s.gpioFunc j = 2 then m + 2 ^ j else m) 0
  let t := t.setReg HST_GPIO_OUT (t.reg HST_GPIO_OUT &&& BitVec.ofNat 32 outs)
  let t := t.setFld VCP_STAT_EN (s.t8 0xD 0 0x48 0)
  let t := forEach (List.range 16) (fun n t => t.setFld (VCP_GRP_GROUP n) (s.t8 3 n 0x1A 0xFF)) t
  t.clearRecords

/-- The sense, cell, clock and service tiles; the trigger starts anew (R271, R274). -/
def State.layMeasure (s : State) : State :=
  let t := ((s.setFld MSR_TRIG_SRC s.trigSrc).setFld MSR_TRIG_PERIOD s.trigPeriod).setFld MSR_CELL_CFG_CELLS s.cells
  let t := { t with msr := { t.msr with cellCount := 0, cellLate := false } }
  let t := if s.trigSrc = 0 then (t.endFallback).regrid else t.startFallback
  let t := forEach ((List.range 24).filter (fun ch => (s.senseEntry ch).isNone)) (fun ch t => t.setFld (MSR_CH_N ch) 0) t
  let t := t.setFld CPM_CHG_VLIM_CV_MV s.cvV
  match s.tile 2 0 with
  | some x => (t.setFld STM_CTRL_SLEW_MAX (x.u8 0)).setFld STM_CTRL_STEP_EN (x.u8 1)
  | none => t

/-- The bond has a course action of MODULE_CLOSE or MODULE_OPEN: it drives DSW_G and PRE_G. -/
def State.drivesModule (s : State) : Bool :=
  (tilesOf s.bnd.tiles 6).any (fun t => (List.range (t.u16 0)).any (fun k =>
    t.u8 (4 + 8 * k) == 7 || t.u8 (4 + 8 * k) == 8))

/-- The balls that a bond drives take their resting level; all others are released (R45, R153). An all-off that is ACTIVE keeps
its levels, and CASC_OUT of an OUT device follows CASC_IN (R248). The GATE balls follow `State.gateBall`. -/
def State.layBalls (s : State) : State :=
  let active := s.flag SEQ_FAULT_ACTIVE
  let sw := if s.drivesModule && !active then Ball.low else Ball.released
  { s with pins := { s.pins with
      gates := if active then s.pins.gates else .high
      faultN := if active then s.pins.faultN else .high
      cascOut := if active then s.pins.cascOut else if s.seq.out && !s.pins.cascIn then .low else .high
      dswG := sw, preG := sw, pinSet := [], gpioReleased := false } }

/-- Every block takes the bond of the given bytes and tiles in one tick (R133, R153). Each service restarts on its new parameters;
whether its running times begin anew the rule does not say: the rest time, the pulse watch, the last samples and the sums of the
running second run on over the new parameters (DESIGN CHOICE: log entry 31). -/
def State.layBond (bytes : List Byte) (tiles : List Tile) (s : State) : State :=
  let cells := s.cells
  let hist := (s.histBase, s.histStep)
  let relay := s.active
  let s := if relay then s.driversOff.abandonSweep else s
  -- a Stopped brick that the new bond does not assign leaves Stopped (R293)
  let s := forEach ((List.range 16).filter (fun n => roleOf tiles n == 0 && s.brkState n == brkStopped)) State.dropInjection s
  let s := { s with bnd := { s.bnd with bytes := bytes, tiles := tiles } }
  let s := s.layIcu
  let s := forEach (List.range 16) State.layBrick s
  let s := forEach (List.range 8) (fun k t => t.setReg (BND_GROUTE k) (BitVec.ofNat 32 (s.t32 4 0 (4 * k) 0))) s
  let s := s.layRails.layThermal.layPins.layMeasure.layLink.layBalance
  let s := if relay && s.cells != cells then
      let t := s.emptyCells
      { t with msr := { t.msr with
          pipe := t.msr.pipe.set 2 [], marks := [], round := none, rounds := 0, sums := [], blockHeld := [], blockTest := [] } }
    else s
  let s := if relay && (s.histBase, s.histStep) != hist then s.clearHist else s
  let s := (s.setFld MTR_REAM_LEN_LEN s.bondReamLen).changeReamLen s.bondReamLen
  let s := { s with mtr := { s.mtr with metered := s.hasMeter } }
  let s := s.setReg BND_ID (BitVec.ofNat 32 (s.t32 1 0 0 0))
  let s := (s.setReg BND_EFF_LO (halfWord s.now.toNat 0)).setReg BND_EFF_HI (halfWord s.now.toNat 1)
  let s := s.layBalls.showStat 7
  if relay then
    let t := forEach [16, 17, 18] (fun r t => t.setFlag (SEQ_RAIL_STAT_UV_ARM r) (t.supervised r)) s
    t.applyMargins.seqRefresh.showHealth
  else s

/-- Slot `k` with generation `gen` is the slot in use, and the bond in force is sealed active in it (R155, R156). -/
def State.useSlot (k gen : Nat) (s : State) : State :=
  let t := ((s.setFld BND_STAT_SLOT k).setReg BND_GEN (BitVec.ofNat 32 gen)).setFld BND_STAT_STORED 1
  ({ t with bnd := { t.bnd with slotUsed := true } }).raise 19

/-- P5 (R149): the slot's bond is validated and applied; the answer says which error was recorded, if any. -/
def State.bondAtStart (s : State) : State × Option BondErr :=
  match s.startSlot with
  | none => (s.recordBond ⟨0x30, 0, 0⟩, some ⟨0x30, 0, 0⟩)
  | some (k, e) =>
    let b := s.flashRead (slotBase k) e.length
    match validate b e.length s.bondSigned s.keyHash with
    | .ok ts => ((s.layBond b ts).useSlot k e.gen, none)
    | .error err => ((s.recordBond err).setFld BND_STAT_RESULT 2, some err)

/-! ### Storing (R150) -/

/-- The bytes a store programs: the bond, and from the seal's place its first 16 bytes. -/
def sealBytes (gen : Nat) (b : List Byte) : List Byte :=
  let h : List Byte := [0x42, 0x4E, 0x44, 0x53] ++ leBytes 4 gen ++ leBytes 4 b.length
  h ++ leBytes 4 (crc32 h).toNat

/-- A store has ended with RESULT 7 (R150, R154); the fault's sheet carries the reason, or a free value where the table
names none (log entry 13). -/
def State.storeFailed (reason : Option Nat) (s : State) : State :=
  let id := if (s.bnd.storing.map Prod.fst).getD [] = [] then s.offeredId
    else (s.bnd.storing.map (fun p => u32 p.1 16))
  let t := match reason with
    | some r => (s.recordBond ⟨r, 0, 0⟩).bondSheet 0x0D0F ⟨r, 0, 0⟩ id
    | none =>
      let r := s.takeFree 8
      let t := r.2.takeFree 9
      let b := t.2.takeFree 17
      b.2.bondSheet 0x0D10 ⟨r.1, t.1, b.1⟩ id
  let t := (t.endRequest 7).answerDist
  ({ t with bnd := { t.bnd with storing := none } }).raise 20

/-- How far a store that did not complete had got is left open: a free number of its steps, sectors erased, then bytes
programmed, stands in the slot (DEDUCED: log entry 13). Of an applied bond the last word is ACTIVE. -/
def State.storePartly (s : State) : State :=
  match s.bnd.storing with
  | none => s
  | some (b, applied) =>
    let r := s.takeFree 24
    let base := slotBase s.otherSlot
    let p := r.1 % (18 + b.length + 16 + if applied then 3 else 0)
    if p < 18 then r.2.flashErase base (base + 0x1000 * p)
    else
      let n := p - 17
      ((r.2.flashErase base (base + 0x11000)).flashWrite base (b.take n)).flashWrite (base + 0x10000)
        ((sealBytes ((s.reg BND_GEN).toNat + 1) b ++ leBytes 4 0).take (n - b.length))

/-- A store begins, or is refused where the generation cannot grow (R150). -/
def State.beginStore (b : List Byte) (applied : Bool) (s : State) : State :=
  let t := (s.setFld BND_STAT_STATE bndStoring)
  let t := { t with bnd := { t.bnd with storing := some (b, applied) } }
  if s.reg BND_GEN = 0xFFFFFFFF#32 then t.storeFailed none else t

/-- The ACTIVE word has been programmed: the bond in force is sealed active (R150). -/
def State.sealActive (k gen : Nat) (s : State) : State :=
  let t := s.flashWrite (slotBase k + 0x10010) (leBytes 4 0)
  ((t.setFld BND_STAT_RESULT 6).setFld BND_STAT_STATE bndIdle).useSlot k gen

/-- The ACTIVE word could not be programmed: what the flash holds there is left open (R150, log entry 13). -/
def State.sealFails (k : Nat) (s : State) : State :=
  let r := s.takeFree 32
  (r.2.flashWrite (slotBase k + 0x10010) (leBytes 4 r.1)).storeFailed none

/-- BOND_STORE_DONE (R150): the last step of the store, or a flash error. -/
def execBondStoreDone (flashError : Bool) (s : State) : Host.Outcome State Fault Refusal :=
  .next (
    match s.bnd.storing with
    | none => s
    | some (b, applied) =>
      if s.boot.restart.isSome then s
      else if flashError then s.storePartly.storeFailed none
      else
        let k := s.otherSlot
        let base := slotBase k
        let gen := (s.reg BND_GEN).toNat + 1
        let t := ((s.flashErase base (base + 0x11000)).flashWrite base b).flashWrite (base + 0x10000) (sealBytes gen b)
        let t := { t with bnd := { t.bnd with storing := none } }
        if applied then (t.sealActive k gen).answerDist
        else (t.endRequest 6).answerDist)

/-! ### Requests (R151, R152) -/

/-- The first broken condition of a re-lay request (R22, R152). -/
def State.relayReason (src : Nat) (s : State) : Option Nat :=
  let bank (v : Nat) : Bool := (List.range 4).any (fun k => s.fld (MTR_COUCH_STAT_STATE k) == v)
  if !s.idle then some 0x20
  else if bank 2 then some 0x21
  else if bank 1 then some 0x22
  else if s.sessionOpen then some 0x23
  else if src = 2 ∧ s.pendingSeal.isNone then some 0x24
  else none

/-- A request is accepted: receiving for SRC 0, validation otherwise (R153). A sheet being written is completed first
(R23). A bond staged by the link stays until the first word of another takes its place (R151). SRC 1 while nothing is staged:
the spec names no refusal, so the request is accepted, and validation finds an empty buffer, reason 0x01 at byte 0 (DEDUCED:
log entry 13). -/
def State.acceptBond (src : Nat) (storeOnly storeAfter : Bool) (link : Option Nat) (s : State) : State :=
  let t := (s.setFld BND_STAT_RESULT 0).setFld BND_STAT_STATE (if src = 0 then bndReceiving else bndValidating)
  let t := if src = 0 then t.setFld BND_STAT_RECEIVED 0 else t
  let offer := match s.pendingSeal with
    | some e => if src = 2 then s.flashRead (slotBase s.otherSlot) e.length else []
    | none => []
  let t := { t with bnd := { t.bnd with
    src := src, storeOnly := storeOnly, storeAfter := storeAfter, linkReq := link, wordAt := s.clk.core, offer := offer
    afterSheet := s.jnl.writing.isSome } }
  t.seqRefresh

/-- A re-lay request (CMD 2, or a distribution that asks for one): refused or accepted (R152). -/
def State.requestRelay (src : Nat) (store : Bool) (link : Option Nat) (s : State) : State :=
  match s.relayReason src with
  | some r =>
    let e : BondErr := ⟨r, 0, 0⟩
    let t := { s with bnd := { s.bnd with src := src, linkReq := link } }
    let t := (t.recordBond e).bondSheet 0x0D0E e (if src = 1 then t.offeredId else none)
    ((t.setFld BND_STAT_RESULT 3).answerDist).raise 18
  | none => s.acceptBond src false store link

/-- The staging buffer belongs to the other path: RESULT 4 (R151). -/
def State.bondBusy (s : State) : State := (s.setFld BND_STAT_RESULT 4).raise 18

/-- The bit of BND_CTRL a write breaks (R155, R9): CMD 4 to 7 and SRC 3 are reserved encodings; KEY and SRC stand against
CMD, CMD 1 or 2 against STATE, STORE against SRC. Of several the lowest counts (log entry 9). CMD 1 or 2 while a link bond is
received or worked on: R155 has it ignored with CFG_ERR, and R151 answers RESULT 4; the model takes R155, which names the
STATE, and leaves RESULT 4 to a buffer the link owns with STATE 0 (DEDUCED: log entry 13). -/
def State.bndCtrlRefused (s : State) (w : Word) : Option Nat :=
  let cmd := bitsOf w.toNat 0 3
  let src := bitsOf w.toNat 8 2
  let asks := cmd = 1 ∨ cmd = 2
  if 4 ≤ cmd ∨ (cmd = 1 ∧ 2 ≤ src) ∨ (asks ∧ (bitsOf w.toNat 24 8 ≠ 0x3C ∨ s.fld BND_STAT_STATE ≠ bndIdle)) then some 0
  else if src = 3 ∨ (src = 2 ∧ w.getLsbD 10) then some 8
  else none

/-- CMD 3 (R154): a re-lay or store before T_eff is aborted, a running store ends. -/
def State.bondAbort (s : State) : State :=
  if s.bnd.storing.isSome then s.storePartly.storeFailed (some 0x32)
  else (s.abortRelay 0x32).seqRefresh

/-- An accepted write of BND_CTRL (R151, R152, R155). -/
def State.bndCtrlWritten (w : Word) (s : State) : State :=
  let src := bitsOf w.toNat 8 2
  let linkOwns := s.fld BND_STAT_OWNER == 2
  match bitsOf w.toNat 0 3 with
  | 1 => if src = 0 ∧ linkOwns then s.bondBusy else s.acceptBond src true false none
  | 2 => if src = 0 ∧ linkOwns then s.bondBusy else s.requestRelay src (w.getLsbD 10) none
  | 3 => s.bondAbort
  | _ => s

/-- A rejected bond (R146, R147, R156). -/
def State.rejectBond (e : BondErr) (s : State) : State :=
  let t := (s.recordBond e).bondSheet 0x0D0D e s.offeredId
  ((t.endRequest 2).answerDist.raise 17).seqRefresh

/-- Bytes enter the staging buffer, the first of them in the place of whatever waited there (R151): V1 at the 84th byte, and
whether TOTAL_LENGTH is reached. The answer is none
while receiving goes on, an error, or completion. Receiving ends at the byte that ends it: bytes of the same frame after it
are not taken (DEDUCED: log entry 13). -/
def State.stageBytes (owner : Nat) (bs : List Byte) (s : State) : State × Option (Option BondErr) :=
  let old := s.offered
  let before := old.length
  let offered := old ++ bs
  let e := if before < 84 ∧ 84 ≤ offered.length then v1 offered else none
  let all := offered.take (if e.isSome then 84 else if 84 ≤ offered.length then u32 offered 0x1C else 84)
  let t := ((s.setFld BND_STAT_OWNER owner).setFld BND_STAT_RECEIVED all.length).setFld BND_STAT_STAGED 0
  let t := { t with bnd := { t.bnd with staging := all, wordAt := s.clk.core } }
  (t, match e with
    | some e => some (some e)
    | none => if 84 ≤ all.length ∧ u32 all 0x1C ≤ all.length then some none else none)

/-- A write of BND_DATA outside receiving from the host is ignored with CFG_ERR (R151). -/
def State.bndDataRefused (s : State) : Bool :=
  s.fld BND_STAT_STATE != bndReceiving || s.bnd.src != 0 || s.fld BND_STAT_OWNER == 2

/-- The next four bond bytes from the host (R151). -/
def State.bndDataWritten (w : Word) (s : State) : State :=
  let r := s.stageBytes 1 (leBytes 4 w.toNat)
  match r.2 with
  | none => r.1
  | some (some e) => r.1.rejectBond e
  | some none => r.1.setFld BND_STAT_STATE bndValidating

/-- BOND_RECEIVE_TIMEOUT (R151): 1 s without a word. -/
def execBondReceiveTimeout (s : State) : Host.Outcome State Fault Refusal :=
  .next (
    if s.fld BND_STAT_STATE = bndReceiving ∧ s.boot.restart = none ∧ s.bnd.wordAt + 1000000 * coreUs ≤ s.clk.core then
      (s.abortRelay 0x31).seqRefresh
    else s)

/-- BOND_VALIDATION_DONE (R146, R153): V1 to V9 have run. -/
def execBondValidationDone (s : State) : Host.Outcome State Fault Refusal :=
  .next (
    if s.fld BND_STAT_STATE = bndValidating ∧ s.boot.restart = none ∧ !s.bnd.afterSheet then
      match validate s.offered s.offered.length s.bondSigned s.keyHash with
      | .error e => s.rejectBond e
      | .ok ts =>
        if s.bnd.storeOnly then s.beginStore s.offered false
        else
          let t := s.setFld BND_STAT_STATE bndApplying
          { t with bnd := { t.bnd with accepted := some (s.offered, ts) } }
    else s)

/-- BOND_TAKES_EFFECT: T_eff (R153): the bond-re-laid sheet (R26), and the store that follows. Where GEN, which the sheet carries
(R155), stands in the payload the spec does not say: after the items R26 lists (DESIGN CHOICE: log entry 13). With SRC 2 the ACTIVE word is
programmed at once, which the flash can fail: a free bit (R150; DESIGN CHOICE: log entry 13). -/
def execBondTakesEffect (s : State) : Host.Outcome State Fault Refusal :=
  .next (
    match s.bnd.accepted with
    | none => s
    | some (b, ts) =>
      if s.active ∧ s.fld BND_STAT_STATE = bndApplying ∧ s.boot.restart = none then
        let old := (s.reg BND_ID).toNat
        let t := ((s.setFld BND_STAT_STATE bndIdle).setFld BND_STAT_STORED 0).layBond b ts
        let t := t.sheet 0x1005 (leBytes 4 old ++ leBytes 4 (t.reg BND_ID).toNat ++ t.otpBytes 0 2 ++ leBytes 8 t.now.toNat ++
          leBytes 4 (t.reg BND_GEN).toNat)
        let t := t.raise 16
        if s.bnd.src = 2 then
          match s.pendingSeal with
          | some e =>
            let r := t.takeFree 1
            if r.1 = 1 then r.2.sealFails t.otherSlot
            else (r.2.spendStaging.sealActive t.otherSlot e.gen).answerDist
          | none => (t.spendStaging).answerDist
        else if s.bnd.storeAfter then
          let u := (t.spendStaging).answerDist
          u.beginStore b true
        else (t.spendStaging).answerDist
      else s)

/-- An L2 or L3 restart aborts what was open before it (R154): recorded after the restart. -/
def State.bondRestarted (s : State) : State :=
  if s.bnd.storing.isSome then s.storePartly.storeFailed (some 0x34)
  else (s.abortRelay 0x34).seqRefresh

end Sys2Proof.Machine
end

