-- ==== Sys2Proof/Machine/Clock.lean ====
section
/-! DEFINITION. The reference, the root PLL and SYSTIME (R55 to R82): qualification, loss and return of the reference, loss of
lock, seeds and steps of SYSTIME, the time servo. -/
namespace Sys2Proof.Machine

/-! ### Setting SYSTIME (R68 to R76, R485) -/

/-- The unbounded count nearest the present one that reads as `t`; counts below 0 do not exist, and the next one up stands
for those. -/
def State.countOf (t : Time) (s : State) : Nat :=
  let n : Int := (s.nowU : Int) + (t - s.now).toInt
  (if n < 0 then n + 2 ^ 64 else n).toNat

/-- SYSTIME takes the value nearest the present count, its hidden fraction cleared. -/
def State.setTime (t : Time) (s : State) : State :=
  { s with clk := { s.clk with acc := BitVec.ofNat 128 (s.countOf t * 2 ^ 24) } }

/-- The SYSTIME of the RTC: its seconds, and its fraction shifted left by 13 bits (R69); 0 while VBAK_OK is 0 (R85). -/
def State.rtcSeed (s : State) : Time :=
  if s.bkd.powered then BitVec.ofNat 64 (s.bkd.sec.toNat * 2 ^ 28 + s.bkd.frac.toNat * 2 ^ 13) else 0

/-- A backup fault code (R99): its sheet now in Idle or Run, else in P6 of the next L0 start. -/
def State.bkdCode (code : Nat) (s : State) : State :=
  if s.active then s.sheet code [] else { s with bkd := { s.bkd with lateCodes := s.bkd.lateCodes ++ [code] } }

/-- SYSTIME is taken from the RTC; RTC_UNTRUSTED where OSF is set or VBAK_OK is 0 (R69, R80), the latter with code 0x0E03
(R99). -/
def State.seedTime (s : State) : State :=
  let t := s.setTime s.rtcSeed
  let t := if s.bkd.powered then t else t.bkdCode 0x0E03
  if s.flag RTC_STAT_OSF || !s.bkd.powered then t.setFld STM_STAT_RTC_UNTRUSTED 1 else t

/-- TSTATE changes: source 26; LOCKED clears RTC_UNTRUSTED, and STM_OFFSET reads 0 in MASTER (R80, R82). -/
def State.setTstate (v : Nat) (s : State) : State :=
  if s.fld STM_STAT_TSTATE = v then s
  else
    let t := s.setFld STM_STAT_TSTATE v
    let t := { t with clk := { t.clk with goodRun := 0, badRun := 0 } }
    let t := if v = 2 then t.setFld STM_STAT_RTC_UNTRUSTED 0 else if v = 0 then t.setReg STM_OFFSET 0 else t
    t.raise 26

/-- The seed a lock owes (R69, R71): none, the first after a POR, which is no step, or a step; after Standby the servo of a
device that follows, one not in MASTER, enters ACQUIRE. -/
def State.seedAtLock (s : State) : State :=
  let t := { s with clk := { s.clk with seedFor := 0 } }
  match s.clk.seedFor with
  | 0 => s
  | 1 => t.seedTime
  | 3 =>
    let u := t.seedTime.stepped s
    if u.fld STM_STAT_TSTATE = 0 then u else u.setTstate 1
  | _ => t.seedTime.stepped s

/-- Whether SET_GO is refused: the device is not in MASTER (R75). -/
def State.setGoRefused (s : State) : Bool := s.fld STM_STAT_TSTATE != 0

/-- A write of SET_GO (R75, R76): SYSTIME takes the staged value; it clears RTC_UNTRUSTED (R80). -/
def State.setGo (s : State) : State :=
  let t := s.setTime (BitVec.ofNat 64 ((s.reg STM_SET_LO).toNat + 2 ^ 32 * (s.reg STM_SET_HI).toNat))
  (t.setFld STM_STAT_RTC_UNTRUSTED 0).stepped s

/-! ### The time servo (R72) -/

/-- STM_INC lies within nominal ± SLEW_MAX (R67): at most 25 × SLEW_MAX ppm from 2⁵² ÷ 240,000,000. -/
def State.incInRange (s : State) (inc : Nat) : Bool :=
  decide (((inc : Int) * 240000000 - 2 ^ 52).natAbs * 1000000 ≤ 25 * s.fld STM_CTRL_SLEW_MAX * 2 ^ 52)

/-- The least and the largest STM_INC within the range. -/
def State.incBounds (s : State) : Nat × Nat :=
  let d := 25 * s.fld STM_CTRL_SLEW_MAX * 2 ^ 52
  ((2 ^ 52 * 1000000 - d + 240000000000000 - 1) / 240000000000000, (2 ^ 52 * 1000000 + d) / 240000000000000)

/-- The servo adjusts STM_INC: the spec gives the range and no law, so the value within it is free (R72; DESIGN CHOICE,
safe: log entry 35). -/
def State.slewInc (s : State) : State :=
  let b := s.incBounds
  let r := s.takeFree 32
  r.2.setReg STM_INC (BitVec.ofNat 32 (b.1 + r.1 % (b.2 - b.1 + 1)))

/-- One valid exchange (R72): `o` is the offset in 2⁻³⁷ s, `o28` the value STM_OFFSET takes. -/
def State.servo (o : Int) (o28 : Int) (s : State) : State :=
  let big := decide (2 ^ 37 < o.natAbs * 1000000)
  let good := decide (o.natAbs * 50000000 ≤ 2 ^ 37)
  let t := s.setReg STM_OFFSET (BitVec.ofInt 32 (clampInt (-(2 ^ 31)) (2 ^ 31 - 1) o28))
  let t := { t with clk := { t.clk with
    lastSync := s.clk.core, incs := ((s.reg STM_INC).toNat :: s.clk.incs).take 32 } }
  match s.fld STM_STAT_TSTATE with
  | 1 =>
    let t := if big && s.flag STM_CTRL_STEP_EN then
        let u := { t with clk := { t.clk with acc := t.clk.acc - BitVec.ofInt 128 (o * 2 ^ 15), goodRun := 0 } }
        (u.setFld STM_STAT_RTC_UNTRUSTED 0).stepped s
      else t.slewInc
    let run : Nat := if good then t.clk.goodRun + 1 else 0
    let t := { t with clk := { t.clk with goodRun := run } }
    if 8 ≤ run then t.setTstate 2 else t
  | 2 =>
    let run : Nat := if big then t.clk.badRun + 1 else 0
    let t := { t with clk := { t.clk with badRun := run } }
    if 4 ≤ run then t.setTstate 1 else t.slewInc
  | 3 => if big then t.setTstate 1 else (t.setTstate 2).slewInc
  | _ => s

/-- The mean of the increments of the last 32 exchanges, each counted with the increment it found before its own adjustment;
with fewer exchanges the mean of those there are, with none STM_INC stands. Of a mean between two whole numbers the spec does not
say which is held, and a free bit does (DESIGN CHOICE: log entry 35). -/
def State.meanInc (s : State) : State :=
  let n := s.clk.incs.length
  if n = 0 then s
  else
    let sum := s.clk.incs.foldl (· + ·) 0
    if sum % n = 0 then s.setReg STM_INC (BitVec.ofNat 32 (sum / n))
    else
      let r := s.takeFree 1
      r.2.setReg STM_INC (BitVec.ofNat 32 (sum / n + r.1))

/-- SYNC_HOLDOVER_TIMEOUT (R72): 500 ms without a valid exchange in LOCKED. -/
def execSyncHoldoverTimeout (s : State) : Host.Outcome State Fault Refusal :=
  .next (
    if s.fld STM_STAT_TSTATE = 2 ∧ s.clk.lastSync + 500000 * coreUs ≤ s.clk.core then s.meanInc.setTstate 3 else s)

/-! ### Reference and lock (R57, R58, R61 to R64) -/

/-- REF_SEL (Table — Options). -/
def State.refSel (s : State) : Bool := s.boot.opt0.getLsbD 0

/-- The RC oscillator runs and the reference monitor with it, from the end of P0 (R60, R61). -/
def State.refWatched (s : State) : Bool :=
  match s.boot.power with
  | .off => false
  | .dormant => false
  | .starting => decide (1 ≤ s.boot.phase)
  | _ => true

/-- The reference is lost: REF_LOST, REF_LOST_EV and source 24 (R61, R82). A further failing window while REF_LOST is set
finds nothing new and raises nothing (DEDUCED: log entry 35). -/
def State.loseRef (s : State) : State :=
  if s.flag STM_STAT_REF_LOST then s
  else
    let t := { s with clk := { s.clk with refLostAt := some s.clk.rc } }
    (t.setFld STM_STAT_REF_LOST 1).flagRaise STM_STAT_REF_LOST_EV 24

/-- The reference has qualified: REF_LOST clears, and with REF_SEL = 1 the port in use shows. -/
def State.findRef (port : Bool) (s : State) : State :=
  let t := { s with clk := { s.clk with refLostAt := none } }
  let t := t.setFld STM_STAT_REF_LOST 0
  if s.refSel then t.setFlag STM_STAT_REF_PORT port else t

/-- A lock attempt is running and the reference has qualified for it. -/
def State.qualify (port : Bool) (s : State) : State :=
  let t := s.findRef port
  if s.clk.attemptAt.isSome && s.clk.qualifiedAt.isNone then { t with clk := { t.clk with qualifiedAt := some s.clk.rc } }
  else t

/-- REF_QUALIFIED (R57): the reference has been valid for 1 ms while a lock attempt waits for it. -/
def execRefQualified (port : Bool) (s : State) : Host.Outcome State Fault Refusal :=
  .next (if s.clk.attemptAt.isSome && s.clk.qualifiedAt.isNone then s.qualify port else s)

/-- REF_RETURN (R62): the lost reference has qualified again. -/
def execRefReturn (port : Bool) (s : State) : Host.Outcome State Fault Refusal :=
  .next (if s.flag STM_STAT_REF_LOST && s.refWatched then s.qualify port else s)

/-- LOCK_ATTEMPT_TIMEOUT (R58): 1 ms after qualification, or 6 ms after the attempt began without one. The PLL is reset and
tries again; the balls show 0b010 until lock, where a boot phase has taken them over (R45). -/
def execLockAttemptTimeout (s : State) : Host.Outcome State Fault Refusal :=
  let due := match s.clk.attemptAt, s.clk.qualifiedAt with
    | some _, some q => decide (q + 1000 * rcUs ≤ s.clk.rc)
    | some a, none => decide (a + 6000 * rcUs ≤ s.clk.rc)
    | none, _ => false
  .next (
    if due then
      let t := if s.clk.clockFail then s
        else { s with clk := { s.clk with clockFail := true, statBefore := s.boot.stat.getD 1 }
                      boot := { s.boot with stat := s.boot.stat.map (fun _ => 2) } }
      { t with clk := { t.clk with attemptAt := some s.clk.rc, qualifiedAt := s.clk.qualifiedAt.map (fun _ => s.clk.rc) } }
    else s)

/-- REF_WINDOW_END (R61): a window of 100 RC cycles ends with a count of reference edges. -/
def execRefWindowEnd (edges : Nat) (s : State) : Host.Outcome State Fault Refusal :=
  .next (
    if s.refWatched && decide (s.clk.windowAt + 100 ≤ s.clk.rc) then
      let t := { s with clk := { s.clk with windowAt := s.clk.windowAt + 100 } }
      if edges < 200 then t.loseRef else t
    else s)

/-- REF_LOST_TIMEOUT (R63): 100 ms without a return. -/
def execRefLostTimeout (s : State) : Host.Outcome State Fault Refusal :=
  .next (
    match s.clk.refLostAt with
    | some a =>
      if a + 100000 * rcUs ≤ s.clk.rc then
        let t := { s with clk := { s.clk with refLostAt := none } }
        if s.upBefore then t.allOff 0x0161 [] none else t
      else s
    | none => s)

/-- A lock attempt begins (R58): a reference that is not lost counts as qualified already. -/
def State.beginAttempt (qualified : Bool) (s : State) : State :=
  { s with clk := { s.clk with attemptAt := some s.clk.rc, qualifiedAt := if qualified then some s.clk.rc else none } }

/-- LOSS_OF_LOCK (R64): the all-off, the clocks from the RC oscillator, a new lock attempt; in an L1 start and under its hold
too, where the lock stayed (R108). CLK_EDGE stops with the lock: no edge and no symbol leaves (R59), while the receivers, which take their
timing from the incoming signal, go on (DEDUCED: log entry 35). -/
def execLossOfLock (s : State) : Host.Outcome State Fault Refusal :=
  .next (
    if s.flag STM_STAT_PLL_LOCKED && s.refWatched && s.boot.power != .standby then
      let t := s.allOff 0x0160 [] none
      let t := { t with clk := { t.clk with onRc := true } }
      let t := t.setFld STM_STAT_PLL_LOCKED 0
      (t.beginAttempt (!t.flag STM_STAT_REF_LOST)).flagRaise STM_STAT_UNLOCK_EV 25
    else s)

/-- The clocks come back from the RC oscillator, and the balls show the code they showed before (R58, R64). -/
def State.lockClocks (s : State) : State :=
  let t := { s with clk := { s.clk with onRc := false, attemptAt := none, qualifiedAt := none, clockFail := false } }
  let t := if s.clk.clockFail then { t with boot := { t.boot with stat := t.boot.stat.map (fun _ => s.clk.statBefore) } } else t
  t.setFld STM_STAT_PLL_LOCKED 1

end Sys2Proof.Machine
end

