-- ==== Sys2Proof/Machine/Backup.lean ====
section
/-! DEFINITION. The backup domain (R83 to R106): the count, the freeze, commits, trust flags, the alarm, the event FIFO. -/
namespace Sys2Proof.Machine

/-! ### The count (R84, R86, R87) -/

/-- Counts that CAL = c has added by tick `k` of its interval of 2²⁰ ticks, spread evenly (R84). -/
def calCounts (c : Int) (k : Nat) : Int := (c * k).tdiv (2 ^ 20)

/-- One oscillator tick: the fraction advances by one and by what the rate trim adds in this tick; the last sixteen counts
are kept for event stamps. Where the intervals of 2²⁰ ticks start the spec does not say: the model counts them from the first rise
of VBAK, and a new CAL acts within the interval that runs (R84; DESIGN CHOICE: log entry 36). `set` is the count a commit puts in
place of the advance (R94). -/
def State.bakTick (set : Option (BitVec 36 × BitVec 15)) (s : State) : State :=
  let cal := s.sfld RTC_TRIM_CAL
  let k := s.bkd.trimTick
  let add := 1 + (calCounts cal (k + 1) - calCounts cal k)
  let n := ((s.bkd.sec.toNat * 2 ^ 15 + s.bkd.frac.toNat : Nat) : Int) + add
  let v : BitVec 36 × BitVec 15 := match set with
    | some c => c
    | none => (BitVec.ofInt 36 (n / 2 ^ 15), BitVec.ofInt 15 (n % 2 ^ 15))
  let t := { s with clk := { s.clk with bak := s.clk.bak + 1 } }
  if s.bkd.powered then
    { t with bkd := { t.bkd with
        sec := v.1, frac := v.2, trimTick := (k + 1) % 2 ^ 20, recent := (v :: s.bkd.recent).take 16 } }
  else t

/-- CAL_OVERFLOW (R87): the binary seconds have reached 3000-01-01. Each passage raises source 791, whatever CAL_OVR reads
(R484); a passage is one whose tick before still stood below it. -/
def execCalOverflow (s : State) : Host.Outcome State Fault Refusal :=
  .next (
    if s.bkd.powered && decide (calLast < s.bkd.sec.toNat) &&
        (!s.flag RTC_STAT_CAL_OVR || (s.bkd.recent.getD 1 (s.bkd.sec, s.bkd.frac)).1.toNat ≤ calLast) then
      s.flagRaise RTC_STAT_CAL_OVR 791
    else s)

/-! ### VBAK (R83, R85, R97, R98) -/

/-- The contents of the domain as they stand at a first rise of VBAK: every field marked / BKP at its reset value. Codes and an
alarm that wait for the core are the core's record of them and stay (DESIGN CHOICE: log entry 36). -/
def State.bkdReset (s : State) : State :=
  let t := { s with regs := s.regs.filterMap (fun (e : Nat × Word) =>
      if e.1 / 0x10000 = 4 then
        let m := maskOf (fun f => f.level == 0) (fieldsOf e.1)
        let v := (e.2 &&& ~~~m) ||| (regReset e.1 &&& m)
        if v = regReset e.1 then none else some (e.1, v)
      else some e) }
  { t with bkd := { t.bkd with sec := 0, frac := 0, trimTick := 0, recent := [], commit := none, commitAt := 0, fifo := [] } }

/-- VBAK_FIRST_RISE (R4, R83, R97, R98): OSF and LBV are set. -/
def execVbakFirstRise (s : State) : Host.Outcome State Fault Refusal :=
  .next (
    if s.bkd.powered then s
    else
      let t := { s with bkd := { s.bkd with powered := true, sampleAt := s.clk.bak } }
      (t.bkdReset.raise 787).raise 788)

/-- VBAK_LOSS (R83, R85): VBAK falls below 1.6 V and the contents are lost. R89 names no such end of a freeze in progress; the model
ends every freeze with the contents and sets no stale indicator for it (DESIGN CHOICE: log entry 36). -/
def execVbakLoss (s : State) : Host.Outcome State Fault Refusal :=
  .next (if s.bkd.powered then { s.bkdReset with bkd := { s.bkdReset.bkd with powered := false, freezes := [] } } else s)

/-- OSC_STOP_DETECT (R97, R99): four or more missing oscillator periods. The sheet is that of the flag's rise: one found
while OSF stands raises its source again and writes no second one (DEDUCED: log entry 36). -/
def execOscStopDetect (s : State) : Host.Outcome State Fault Refusal :=
  .next (
    if s.bkd.powered then
      let t := if s.flag RTC_STAT_OSF then s else s.bkdCode 0x0E01
      t.flagRaise RTC_STAT_OSF 787
    else s)

/-- The next sample of VBAK stands 32,768 ticks, or a multiple of that, after the last one (R98). -/
def State.nextSample (s : State) : State :=
  { s with bkd := { s.bkd with sampleAt := s.bkd.sampleAt + 32768 * ((s.clk.bak - s.bkd.sampleAt) / 32768 + 1) } }

/-- VBAK_SAMPLE (R98, R99), once every 32,768 ticks: below 2.07 V LBV is set, from 2.13 V on it is not; between the two the tolerance
leaves it open (log entry 36); the sheet is that of LBV's rise, as for OSF. -/
def execVbakSample (millivolts : Nat) (s : State) : Host.Outcome State Fault Refusal :=
  .next (
    if !s.bkd.powered || decide (s.clk.bak < s.bkd.sampleAt) then s
    else
      let s := s.nextSample
      let r := if 2070 ≤ millivolts ∧ millivolts < 2130 then s.takeFree 1 else (if millivolts < 2070 then 1 else 0, s)
      if r.1 = 1 then
        let t := if s.flag RTC_STAT_LBV then r.2 else r.2.bkdCode 0x0E02
        t.flagRaise RTC_STAT_LBV 788
      else r.2)

/-! ### Reading: the freeze (R88, R89) -/

/-- A read of time word `w` (0 SEC_LO, 1 SEC_HI, 2 TIME, 3 DATE) on a path: a freeze starts unless one is in progress, and
the word comes from the shadow. -/
def State.rtcTimeRead (path w : Nat) (s : State) : Word × State :=
  let t := if s.bkd.freezes.any (fun f => decide (f.1 = path)) then s
    else
      let u := { s with bkd := { s.bkd with freezes := putPair s.bkd.freezes path s.clk.bak } }
      forEach (List.range 4) (fun k v => { v with shadow := putPair v.shadow (path, RTC_SEC_LO + 4 * k) (s.rtcWord k) }) u
  (lookupD t.shadow (path, RTC_SEC_LO + 4 * w) 0, t)

/-- A read of RTC_STAT on a path: the stale indicator is returned and cleared, and the freeze ends. -/
def State.rtcStatRead (path : Nat) (s : State) : Word × State :=
  let w := withMask (s.live RTC_STAT) 8 (8 * bit (s.bkd.stale.contains path))
  (w, { s with bkd := { s.bkd with
    freezes := dropPair s.bkd.freezes path, stale := s.bkd.stale.filter (fun p => !decide (p = path)) } })

/-- RTC_FREEZE_TIMEOUT (R89): the 64th tick ends the freeze and sets the stale indicator. -/
def execRtcFreezeTimeout (path : Path) (s : State) : Host.Outcome State Fault Refusal :=
  let p := pathShadow path
  .next (
    match s.bkd.freezes.find? (fun f => decide (f.1 = p)) with
    | some (_, at0) =>
      if at0 + 64 ≤ s.clk.bak then
        ({ s with bkd := { s.bkd with
            freezes := dropPair s.bkd.freezes p
            stale := if s.bkd.stale.contains p then s.bkd.stale else p :: s.bkd.stale } }).raise 790
      else s
    | none => s)

/-! ### Setting the time (R91 to R96) -/

/-- A leap year under full Gregorian rules (R86). -/
def leapYear (y : Nat) : Bool := y % 400 == 0 || (y % 4 == 0 && y % 100 != 0)

def monthLength (y m : Nat) : Nat :=
  if m = 2 then (if leapYear y then 29 else 28) else if m = 4 ∨ m = 6 ∨ m = 9 ∨ m = 11 then 30 else 31

/-- The value of a BCD number of `k` digits, none where a digit exceeds 9. -/
def ofBcd : Nat → Nat → Option Nat
  | 0, _ => some 0
  | k + 1, n =>
    match ofBcd k (n / 16) with
    | some h => if n % 16 ≤ 9 then some (10 * h + n % 16) else none
    | none => none

/-- Days from 2000-01-01 to the first of a month. -/
def daysTo (y m : Nat) : Nat :=
  let k := y - 2000
  365 * k + ((k + 3) / 4 - (k + 99) / 100 + (k + 399) / 400) + ((List.range (m - 1)).foldl (fun a i => a + monthLength y (i + 1)) 0)

/-- The check of a calendar commit (R92): the first offending field in the order seconds, minutes, hours, day, month, year,
or the binary seconds. Against a month that is no month, a day of 1 to 31 stands; against February of a year that is no BCD
number, 1 to 29 (DESIGN CHOICE: log entry 36). -/
def calendarOf (time date : Nat) : Nat ⊕ Nat :=
  let sec := ofBcd 2 (bitsOf time 0 7)
  let min := ofBcd 2 (bitsOf time 8 7)
  let hour := ofBcd 2 (bitsOf time 16 7)
  let day := ofBcd 2 (bitsOf date 0 6)
  let month := ofBcd 2 (bitsOf date 8 5)
  let year := ofBcd 4 (bitsOf date 16 16)
  let upTo (o : Option Nat) (lo hi : Nat) : Bool := match o with
    | some v => decide (lo ≤ v) && decide (v ≤ hi)
    | none => false
  let monthOk := upTo month 1 12
  let longest := if !monthOk then 31
    else match year with
      | some y => monthLength y (month.getD 1)
      | none => if month = some 2 then 29 else monthLength 2000 (month.getD 1)
  if !upTo sec 0 59 then .inl 1
  else if !upTo min 0 59 then .inl 2
  else if !upTo hour 0 23 then .inl 3
  else if !upTo day 1 longest then .inl 4
  else if !monthOk then .inl 5
  else if !upTo year 2000 2999 then .inl 6
  else .inr ((daysTo (year.getD 2000) (month.getD 1) + day.getD 1 - 1) * 86400 + hour.getD 0 * 3600 + min.getD 0 * 60 + sec.getD 0)

/-- The commit part of an accepted write of RTC_CTRL (R91 to R93, R96). -/
def State.commitWritten (code : Nat) (s : State) : State :=
  let take (v : BitVec 36 × BitVec 15) : State := { s with bkd := { s.bkd with commit := some v, commitAt := s.clk.bak } }
  match code with
  | 1 => take (BitVec.ofNat 36 ((s.reg RTC_SET_SEC_LO).toNat + 2 ^ 32 * s.fld RTC_SET_SEC_HI_SET_SEC_HI),
      BitVec.ofNat 15 (s.fld RTC_SET_SEC_HI_SET_FRAC))
  | 2 =>
    match calendarOf (s.reg RTC_SET_TIME).toNat (s.reg RTC_SET_DATE).toNat with
    | .inr sec => take (BitVec.ofNat 36 sec, 0)
    | .inl f =>
      let t := if s.flag RTC_STAT_RTC_WERR then s else s.setFld RTC_STAT_WERR_FIELD f
      (t.bkdCode 0x0E04).flagRaise RTC_STAT_RTC_WERR 789
  | _ => s

/-- COMMIT_APPLY (R94, R96): the tick of the commit, the first one after its write has been synchronised. -/
def execCommitApply (s : State) : Host.Outcome State Fault Refusal :=
  .next (
    match s.bkd.commit with
    | none => s
    | some v =>
      if s.bkd.powered && decide (s.bkd.commitAt + 1 ≤ s.clk.bak) then
        let before := leBytes 5 s.bkd.sec.toNat ++ leBytes 2 s.bkd.frac.toNat
        let t := s.bakTick (some v)
        let t := { t with bkd := { t.bkd with commit := none } }
        let ovr := decide (calLast < v.1.toNat)
        let t := if ovr then t.flagRaise RTC_STAT_CAL_OVR 791 else t.setFld RTC_STAT_CAL_OVR 0
        let t := t.setFld RTC_STAT_OSF 0
        onlyIf s.active (State.sheet 0x1003 (before ++ leBytes 5 v.1.toNat ++ leBytes 2 v.2.toNat)) t
      else s)

/-! ### Alarm (R100, R101) -/

/-- ALARM_FIRE: the binary seconds are at or above the alarm value. Where the ICU does not run, and in Standby, the source
waits for Idle (R101). -/
def execAlarmFire (s : State) : Host.Outcome State Fault Refusal :=
  .next (
    if s.bkd.powered && s.flag RTC_CTRL_ALM_EN &&
        decide ((s.reg RTC_ALM_LO).toNat + 2 ^ 32 * s.fld RTC_ALM_HI_ALM_HI ≤ s.bkd.sec.toNat) then
      let t := (s.setFld RTC_CTRL_ALM_EN 0).setFld RTC_STAT_ALM_EV 1
      if s.icuRuns && s.boot.power != .standby then t.raise 784 else { t with bkd := { t.bkd with lateAlarm := true } }
    else s)

/-- What the domain owes when the device reaches Idle (R101). -/
def State.lateAlarm (s : State) : State :=
  if s.bkd.lateAlarm then { s with bkd := { s.bkd with lateAlarm := false } }.raise 784 else s

/-! ### Event inputs (R102 to R104) -/

/-- The tamper sheet of an entry. The spec lists no items for it; the entry's own are taken, in the order of R102 (DESIGN
CHOICE: log entry 36). -/
def State.evtSheet (e : EvtEntry) (s : State) : State :=
  s.sheet 0x1004 (leBytes 5 e.sec.toNat ++ leBytes 2 e.frac.toNat ++ leBytes 1 e.input ++ leBytes 1 (bit e.level))

/-- EVT_EDGE_ACCEPT: a selected change of level has been stable for FILT + 1 ticks; it is stamped with the first of them (R102).
R103's "same timestamp" for edges of one tick is read of inputs with one FILT; with different FILT each keeps its own first tick
(DEDUCED: log entry 36). An entry whose sheet a full journal queue loses (R394) is marked JOURNALED all the same, since R104 ties
the mark to the writing and R394 counts the loss (DEDUCED: log entry 36). -/
def execEvtEdgeAccept (input : Nat) (level : Bool) (s : State) : Host.Outcome State Fault Refusal :=
  .next (
    if s.bkd.powered && decide (input < 4) && selects (s.fld (EVT_CFG_EDGE input)) level then
      if 16 ≤ s.bkd.fifo.length then (if s.fld EVT_STAT_OVF_CNT = 255 then s else ((s.bump EVT_STAT_OVF_CNT).bkdCode 0x0E05).raise 786)
      else
        let at0 := s.bkd.recent.getD (s.fld (EVT_CFG_FILT input)) (s.bkd.sec, s.bkd.frac)
        let e : EvtEntry := ⟨at0.1, at0.2, level, input, s.active⟩
        let t := { s with bkd := { s.bkd with fifo := s.bkd.fifo ++ [e] } }
        (onlyIf s.active (State.evtSheet e) t).raise 785
    else s)

/-- POP: the head entry leaves. -/
def State.evtPop (s : State) : State := { s with bkd := { s.bkd with fifo := s.bkd.fifo.drop 1 } }

/-- The codes found while no sheet could be written, which P6 of an L0 start writes (R99). -/
def State.codeSheets (s : State) : State :=
  forEach s.bkd.lateCodes (fun c t => t.sheet c []) { s with bkd := { s.bkd with lateCodes := [] } }

/-- A sheet for every entry not yet marked (R104): in P6 of every start, and at the end of Standby. -/
def State.evtSheets (s : State) : State :=
  let t := forEach (s.bkd.fifo.filter (fun e => !e.journaled)) State.evtSheet s
  { t with bkd := { t.bkd with fifo := t.bkd.fifo.map (fun e => { e with journaled := true }) } }

end Sys2Proof.Machine
end

