-- ==== Sys2Proof/Machine/Journal.lean ====
section
/-! DEFINITION. The journal in flash (R392 to R397, R486): draining the queue, the head search, read-out. -/
namespace Sys2Proof.Machine

/-- The 64 bytes of a sheet (Table — Sheet layout). -/
def Sheet.bytes (sh : Sheet) : List Byte :=
  let b := leBytes 8 sh.stamp.toNat ++ leBytes 2 sh.address.toNat ++ leBytes 6 (sh.seq.getD 0) ++ leBytes 2 sh.type
  let b := b ++ (sh.payload ++ List.replicate 42 0).take 42
  b ++ leBytes 4 (crc32 b).toNat

/-- An image update holds the flash (R136, R395). -/
def State.updating (s : State) : Bool := s.fld RPC_UPD_STAT_STATE == 1

/-- The journal queue may be drained (R395): P6, Idle or Run, no store and no update holding the flash, and no restart that
has released the flash balls. -/
def State.mayDrain (s : State) : Bool :=
  (s.active || (s.boot.power == .starting && s.boot.phase == 6)) && s.bnd.storing.isNone && !s.updating &&
    s.boot.restart != some 2

/-- JOURNAL_DRAIN (R395): the head sheet goes to the next slot, at most one per 100 µs. The slot counts as used. -/
def execJournalDrain (s : State) : Host.Outcome State Fault Refusal :=
  .next (
    if s.mayDrain && !s.jnl.searching && !s.jnl.queue.isEmpty && s.jnl.writing.isNone &&
        decide (s.jnl.drainAt + 100 * coreUs ≤ s.clk.core) then
      { s with jnl := { s.jnl with
          writing := some s.jnl.head, head := (s.jnl.head + 1) % slotCount, drainAt := s.clk.core } }
    else s)

/-- A program that did not complete: a free number of the slot's bytes, from none to all, stands in it (R486; DESIGN CHOICE: log
entry 14). -/
def State.sheetPartly (slot : Nat) (s : State) : State :=
  match s.jnl.queue with
  | [] => s
  | sh :: _ =>
    let r := s.takeFree 7
    r.2.flashWrite (slotAddress slot) (sh.bytes.take (r.1 % 65))

/-- When the first slot of a sector is written, the next sector is erased (R395). -/
def State.eraseAhead (slot : Nat) (s : State) : State :=
  if slot % 64 = 0 then
    let a := slotAddress ((slot + 64) % slotCount)
    s.flashErase a (a + 4096)
  else s

/-- The queue holds 16 sheets or fewer: what was lost is reported (R394). -/
def State.reportLost (s : State) : State :=
  if 0 < s.jnl.lostNow ∧ s.jnl.queue.length ≤ 16 then
    let n := min s.jnl.lostNow (2 ^ 32 - 1)
    let t := { s with jnl := { s.jnl with lostNow := 0 } }
    t.sheet 0x0A01 (leBytes 4 n ++ leBytes 8 s.jnl.lostFirst.toNat ++ leBytes 8 s.jnl.lostLast.toNat)
  else s

/-- SHEET_WRITTEN (R394, R395, R486): the program completes and the sheet leaves the queue, or it fails: the device moves to
the next sector and writes the sheet again there. -/
def execSheetWritten (flashError : Bool) (s : State) : Host.Outcome State Fault Refusal :=
  .next (
    match s.jnl.writing, s.jnl.queue with
    | some slot, sh :: rest =>
      if flashError then
        let t := (s.sheetPartly slot).eraseAhead slot
        let t := { t with jnl := { t.jnl with writing := none, head := (slot / 64 + 1) * 64 % slotCount } }
        (t.sheet 0x0A10 []).flagRaise JNL_STAT_FL_ERR_EV 616
      else
        let t := (s.eraseAhead slot).flashWrite (slotAddress slot) sh.bytes
        let t := { t with jnl := { t.jnl with writing := none, queue := rest }, bnd := { t.bnd with afterSheet := false } }
        t.reportLost
    | _, _ => s)

/-- A reset that releases the flash balls, or an input collapse, cuts the program in progress (R486); the sheet is written again in the
slot after it, so the sector ahead of a first slot is erased all the same (R395; DEDUCED: log entry 14). -/
def State.cutSheet (s : State) : State :=
  match s.jnl.writing with
  | none => s
  | some slot =>
    let t := (s.sheetPartly slot).eraseAhead slot
    { t with jnl := { t.jnl with writing := none } }

/-- Sheets that wait without a number take theirs in the order in which they were made. -/
def numberSheets : Nat → List Sheet → List Sheet × Nat
  | n, [] => ([], n)
  | n, sh :: r =>
    match sh.seq with
    | some _ => let q := numberSheets n r; (sh :: q.1, q.2)
    | none => let q := numberSheets (n + 1) r; ({ sh with seq := some n } :: q.1, q.2)

/-- HEAD_SEARCH_DONE (R396): the slot after the valid sheet with the highest number, and that number plus one; slot 0 and
number 0 with no valid sheet. -/
def execHeadSearchDone (s : State) : Host.Outcome State Fault Refusal :=
  .next (
    if s.jnl.searching && s.supervisorRuns then
      let found := match s.newestSheet (fun _ => true) with
        | some (b, k) => ((k + 1) % slotCount, sheetSeq b + 1)
        | none => (0, 0)
      let q := numberSheets found.2 s.jnl.queue
      { s with jnl := { s.jnl with searching := false, head := found.1, next := q.2, queue := q.1 } }
    else s)

/-- A write of JNL_RD_SLOT on a path (R397): the load begins and RD_READY of the path reads 0. -/
def State.jnlLoad (path slot : Nat) (s : State) : State :=
  { s with
    jnl := { s.jnl with loads := putPair s.jnl.loads path slot }
    shadow := putPair s.shadow (path, JNL_RD_SLOT) (BitVec.ofNat 32 slot) }

/-- JNL_RD_LOADED (R397): the slot stands in the path's buffer. -/
def execJnlRdLoaded (path : Path) (s : State) : Host.Outcome State Fault Refusal :=
  let p := pathShadow path
  .next (
    match s.jnl.loads.find? (fun l => decide (l.1 = p)) with
    | none => s
    | some (_, slot) =>
      let b := s.slotBytes slot
      let t := { s with jnl := { s.jnl with loads := dropPair s.jnl.loads p } }
      (forEach (List.range 16) (fun k t =>
        { t with shadow := putPair t.shadow (p, JNL_RD_W k) (BitVec.ofNat 32 (u32 b (4 * k))) }) t).raise 618)

end Sys2Proof.Machine
end

