-- ==== Sys2Proof/Machine/Link.lean ====
section
/-! DEFINITION. The Alraox link (R401 to R427): ports, rings, enumeration, time exchange, couch frames, doorbells and
forwarded interrupts, the requester's side of remote access. Frames are delivered whole; a frame that is not only for this device
goes on in the same step. No row delivers a frame that is only for another device, so its cut-through relaying is not modelled (log
entry 34). -/
namespace Sys2Proof.Machine

/-! ### Ports and rings (R403, R405, R407) -/

/-- The 64-bit serial number (OTP FACTORY rows 0 and 1). -/
def State.serial (s : State) : BitVec 64 := BitVec.ofNat 64 ((s.otpData 0).toNat + 2 ^ 32 * (s.otpData 1).toNat)

/-- The ports run: in Idle and Run, and in loader mode in neighbour mode only (R108, R414). -/
def State.loaderMode (s : State) : Bool := s.boot.power == .starting && s.boot.hold == .loader
def State.portsRun (s : State) : Bool := s.active || s.loaderMode

/-- A frame can come in on a ring: one of its ports is enabled (R401). -/
def State.ringOn (s : State) (trunk : Bool) : Bool := s.portOn (2 * bit trunk) || s.portOn (2 * bit trunk + 1)

/-- PORT_UP (R403). -/
def execPortUp (port : BitVec 2) (s : State) : Host.Outcome State Fault Refusal :=
  let p := port.toNat
  .next (
    if s.portsRun && s.portOn p && !s.portUp p then ((s.setFld ⟨LNK_STAT, p, 1⟩ 1).showParent.raise 672).forwardStuck
    else s)

/-- With REF_SEL = 1, loss of signal on the port whose signal is the reference in use loses it at once (R61), whether or not the
port carries frames yet. -/
def State.loseSignal (p : Nat) (s : State) : State :=
  let used := s.flag STM_STAT_PLL_LOCKED || s.clk.qualifiedAt.isSome
  if s.refSel && s.refWatched && used && decide (p = s.fld STM_STAT_REF_PORT) then s.loseRef else s

/-- PORT_DOWN (R403, R407): the sheet, RING_STATE, the own ring declared open by its head; with REF_SEL = 1 the loss of the
reference in use (R61). Positions on the B side follow from the end that failed. -/
def execPortDown (port : BitVec 2) (s : State) : Host.Outcome State Fault Refusal :=
  let p := port.toNat
  .next (
    if s.portsRun && s.portUp p then
      let t := (((s.setFld ⟨LNK_STAT, p, 1⟩ 0).raise 672).sheet 0x0B01 (leBytes 1 p)).loseSignal p
      if s.loaderMode then t else t.portLost p
    else s.loseSignal p)

/-- RING_CHECK_SEND (R407): every 1 ms out of LNK_B or LNK_D. -/
def execRingCheckSend (trunk : Bool) (s : State) : Host.Outcome State Fault Refusal :=
  .next (
    if s.supervises trunk && decide ((s.ring trunk).nextAt ≤ s.clk.core) then
      let r := s.ring trunk
      let t := s.setRing trunk { r with nextAt := s.clk.core + 1000 * coreUs, sentAt := some s.clk.core }
      t.emit (if trunk then 3 else 1) 0x06 0x1000 (t.eventNo 0x06) false (leBytes 8 s.serial.toNat)
    else s)

/-- RING_CHECK (R405, R407): relayed onward, or back at its originator: the third return in a row closes the ring. -/
def execRingCheck (port : FrameHead) (serial : BitVec 64) (s : State) : Host.Outcome State Fault Refusal :=
  let p := port.port.toNat
  let trunk := decide (2 ≤ p)
  .next (
    if !s.active || !s.portOn p then s
    else if serial ≠ s.serial then
      s.put (if p % 2 = 0 then p + 1 else p - 1) 0x06 0x1000 port.address.toNat (port.hops.toNat + 1) port.tag.toNat false
        (leBytes 8 serial.toNat)
    else if s.supervises trunk then
      let r := s.ring trunk
      match r.sentAt with
      | some a =>
        if s.clk.core ≤ a + 100 * coreUs then
          let t := s.setRing trunk { r with sentAt := none, missed := 0, returned := r.returned + 1 }
          if 3 ≤ r.returned + 1 then t.declareRing trunk false else t
        else s
      | none => s
    else s)

/-- RING_CHECK_TIMEOUT (R407): not back within 100 µs; the second in a row opens the ring. Where the break lies the check
does not say, and a free value stands for the end of the B side (log entry 34). -/
def execRingCheckTimeout (trunk : Bool) (s : State) : Host.Outcome State Fault Refusal :=
  .next (
    let r := s.ring trunk
    if s.supervises trunk && reached (r.sentAt.map (· + 100 * coreUs)) s.clk.core then
      let t := s.setRing trunk { r with sentAt := none, missed := r.missed + 1, returned := 0 }
      if 2 ≤ r.missed + 1 && !s.flag (openFld trunk) then
        let q := t.takeFree 6
        (q.2.setRing trunk { q.2.ring trunk with sideB := q.1 }).declareRing trunk true
      else t
    else s)

/-- Where a ring reported open is broken, for the device at `p`. A device at `q` that lost LNK_A (LNK_C) reports out of LNK_B
(LNK_D) only, so that its frame comes in by LNK_A (LNK_C); one that lost the other port the other way round. The supervisor's
report, from place 0, tells the side this device stands on and not the break: what was known stands where it fits, else a free
value `f` stands for it (DEDUCED: log entry 34). -/
def Ring.openedAt (r : Ring) (wasOpen : Bool) (p q : Nat) (portA : Bool) (f : Nat) : Ring :=
  if q ≠ 0 then
    let b := if portA then q - 1 else q
    { r with sideB := b, onSideA := decide (b < p) }
  else if wasOpen && r.onSideA == !portA then r
  else { r with sideB := if portA then p + f else f % max p 1, onSideA := !portA }

/-- RING_STATE (R405, R407, R408): the first copy of another device's report goes on, and the routing follows. A reporter without an
address names no place: the break is then as open as in a report from place 0 (DEDUCED: log entry 34). -/
def execRingState (trunk opened : Bool) (source : RingReporter) (event : Byte) (s : State) :
    Host.Outcome State Fault Refusal :=
  let head : FrameHead := ⟨source.port, if trunk then 4 else 2, source.address, event, source.hops⟩
  let src := if source.unaddressed then 0x8000 else source.address.toNat
  .next (
    if s.active && s.portOn source.port.toNat && (source.unaddressed || !s.ownReturn head) then
      let r := s.firstCopy 0x07 src event.toNat
      let g := r.2.relay head 0x07 src true (leBytes 1 (bit opened) ++ leBytes 3 0)
      if !r.1 then r.2
      else if s.unaddressed || (trunk && !s.isHead) then g
      else
        let r := (r.1, g)
        let q := if source.unaddressed then 0 else if trunk then source.address.toNat / 64 else source.address.toNat % 64
        let f := r.2.takeFree 6
        let t := if opened then f.2.setRing trunk ((f.2.ring trunk).openedAt (s.flag (openFld trunk)) (s.ringPlace trunk) q
            (source.port.toNat % 2 == 0) f.1)
          else r.2
        if s.supervises trunk then (if opened then t.declareRing trunk true else t) else t.showRing trunk opened
    else s)

/-- LINK_FRAME_ERROR (R405, R425): counted, and reported at most once per second. -/
def execLinkFrameError (crc : Bool) (s : State) : Host.Outcome State Fault Refusal :=
  .next (
    if s.portsRun then
      let t := (s.bump (if crc then LNK_ERR_CNT_CRC_CNT else LNK_ERR_CNT_CODE_CNT)).flagRaise LNK_STAT_ERR_EV 677
      let c := s.lnk.crcNew + (if crc then 1 else 0)
      let d := s.lnk.codeNew + (if crc then 0 else 1)
      let quiet := match s.lnk.errAt with
        | some a => decide (s.clk.core < a + 1000000 * coreUs)
        | none => false
      if quiet then { t with lnk := { t.lnk with crcNew := c, codeNew := d } }
      else
        let u := t.sheet 0x0B20 (leBytes 2 (min c 65535) ++ leBytes 2 (min d 65535))
        { u with lnk := { u.lnk with crcNew := 0, codeNew := 0, errAt := some s.clk.core } }
    else s)

/-! ### Enumeration (R410 to R413) -/

/-- A trunk port is up; the device may be keystone (R410). -/
def State.trunkUp (s : State) : Bool := s.portUp 2 || s.portUp 3
def State.eligibleKey (s : State) : Bool := s.keystoneOk && !s.refSel

/-- The rank a CLAIM carries: 2 for a trunk port up, 1 for eligible. -/
def State.rank (s : State) : Nat := 2 * bit s.trunkUp + bit s.eligibleKey

/-- Whether a claim (rank, serial) stands before another. -/
def outranks (a b : Nat × BitVec 64) : Bool := decide (b.1 < a.1) || (decide (a.1 = b.1) && decide (a.2.toNat < b.2.toNat))

/-- A pass begins; the claims heard on the trunk go with the end of the last one. -/
def State.setPass (p : Pass) (s : State) : State :=
  ({ s with lnk := { s.lnk with
      pass := p, passAt := s.clk.core, claims := if p == Pass.none then [] else s.lnk.claims } }).setFlag
    LNK_STAT_ENUMERATING (p != Pass.none)

/-- The claim of the device on its string or on the trunk. -/
def State.sendClaim (trunk : Bool) (s : State) : State :=
  s.send 0x02 (if trunk then 4 else 2) false (leBytes 8 s.serial.toNat ++ leBytes 1 s.rank ++ leBytes 3 0)

/-- Enumeration starts (R411): a candidate claims its string; above course 0 a head only walks (R413). -/
def State.startEnum (s : State) : State :=
  let t := { s with lnk := { s.lnk with enumAt := none, reports := [], heads := [] } }
  if s.headOk then
    let u := { t with lnk := { t.lnk with candidate := true } }
    (u.setPass .claim).sendClaim false
  else t

/-- A WALK of this device on its string or on the trunk. -/
def State.sendWalk (port side : Nat) (s : State) : State :=
  s.emit port 0x03 0x1000 (s.eventNo 0x03) false
    (leBytes 1 1 ++ leBytes 1 side ++ leBytes 1 (s.fld LNK_ADDR_ADDR / 64) ++ leBytes 1 0)

/-- The walk of the string begins out of LNK_B (R411). -/
def State.beginWalk (s : State) : State :=
  ((({ s with lnk := { s.lnk with reports := [] } }).setRing false { s.ring false with sideB := 0, onSideA := false }).setPass
    .walkB).sendWalk 1 0

/-- HELLO_SEND (R411): every 100 ms while the device has no address. -/
def execHelloSend (s : State) : Host.Outcome State Fault Refusal :=
  .next (
    if s.active && s.unaddressed && decide (s.lnk.helloAt + 100000 * coreUs ≤ s.clk.core) then
      let t := { s with lnk := { s.lnk with helloAt := s.clk.core } }
      t.send 0x01 2 false (leBytes 8 s.serial.toNat ++ leBytes 1 (bit s.headOk) ++ leBytes 1 (bit s.eligibleKey) ++
        leBytes 1 (bit s.trunkUp) ++ leBytes 1 0)
    else s)

/-- HELLO (R405, R411, R413): it goes on along the string; at string course 0 an enumeration 100 ms later; above it the walk that finds the device, or sheet
0x0B14 for one that the last walk did not know. -/
def execHello (serial : Framed HelloBody) (s : State) : Host.Outcome State Fault Refusal :=
  let b := serial.body
  let n := b.serial
  .next (
    if s.active && s.portOn serial.head.port.toNat && n != s.serial then
      let s := s.relay serial.head 0x01 0x8000 false
        (leBytes 8 n.toNat ++ leBytes 1 (bit b.headOk) ++ leBytes 1 (bit b.eligible) ++ leBytes 1 (bit b.trunkUp) ++ leBytes 1 0)
      if !(s.linked && s.isHead) then s
      else if s.fld SEQ_STAT_STR_COURSE = 0 then
        if s.lnk.enumAt.isSome then s else { s with lnk := { s.lnk with enumAt := some (s.clk.core + 100000 * coreUs) } }
      else if s.lnk.table.any (fun e => decide (e.1 = n)) then
        if s.lnk.pass == .none then s.beginWalk else s
      else if s.lnk.late.contains n then s
      else ({ s with lnk := { s.lnk with late := n :: s.lnk.late } }).sheet 0x0B14 (leBytes 8 n.toNat)
    else s)

/-- ENUM_AUTO_START (R411): 200 ms after P6, or 100 ms after a HELLO, while the course is 0. -/
def execEnumAutoStart (s : State) : Host.Outcome State Fault Refusal :=
  .next (
    if s.active && reached s.lnk.enumAt s.clk.core then
      if s.fld SEQ_STAT_STR_COURSE = 0 then s.startEnum else { s with lnk := { s.lnk with enumAt := none } }
    else s)

/-- Whether an ENUM write is refused (R411, R427): not on a head, or above course 0. -/
def State.enumRefused (s : State) : Bool := !(s.linked && s.isHead) || s.fld SEQ_STAT_STR_COURSE != 0

/-- A candidate on the trunk loses to a claim heard there: sheet 0x0B12 (R410). -/
def State.judgeTrunk (s : State) : State :=
  if s.lnk.candidate && s.lnk.claims.any (fun c => c.2 && decide (c.1.toNat < s.serial.toNat)) then
    ({ s with lnk := { s.lnk with candidate := false } }).sheet 0x0B12 []
  else s

/-- The trunk pass of a head: it claims, and is a candidate where it is eligible; the claims that came before its own count
too. -/
def State.claimTrunk (s : State) : State :=
  ((({ s with lnk := { s.lnk with candidate := s.eligibleKey } }).setPass .trunkClaim).sendClaim true).judgeTrunk

/-- CLAIM (R405, R410): it goes on along its ring; a candidate that is outranked loses with sheet 0x0B12; one that has not claimed
yet does so first. On the trunk every head claims, one that no pass occupies at the first claim of another (DEDUCED: log entry
34). -/
def execClaim (trunk : Bool) (serial : Framed Claimant) (rank : Byte) (s : State) : Host.Outcome State Fault Refusal :=
  let head := serial.head
  let src := if serial.body.unaddressed then 0x8000 else head.address.toNat
  let serial := serial.body.serial
  .next (
    if !s.active || !s.portOn head.port.toNat || serial == s.serial then s
    else
      let s := s.relay head 0x02 src false (leBytes 8 serial.toNat ++ leBytes 1 rank.toNat ++ leBytes 3 0)
      if trunk then
        let t := { s with lnk := { s.lnk with claims := putPair s.lnk.claims serial (rank.toNat % 2 == 1) } }
        if s.lnk.pass == .trunkClaim then t.judgeTrunk
        else if s.linked && s.isHead && s.lnk.pass == .none && s.fld SEQ_STAT_STR_COURSE == 0 then t.claimTrunk
        else t
      else if s.linked && s.isHead && s.fld SEQ_STAT_STR_COURSE != 0 then s
      else
        let s := { s with lnk := { s.lnk with claimSeen := true } }
        let t := if s.headOk && s.lnk.pass == .none then s.startEnum else s
        if t.lnk.pass == .claim && t.lnk.candidate && outranks (rank.toNat, serial) (t.rank, t.serial) then
          ({ t with lnk := { t.lnk with candidate := false } }).sheet 0x0B12 []
        else t)

/-- The device takes an address (R411, R414): the time servo of a new follower enters ACQUIRE, a keystone is MASTER; what
waited for an address leaves (R440). A device that no claim preceded was re-admitted and starts OUT (R413). -/
def State.takeAddress (a role ndev nstr : Nat) (s : State) : State :=
  let new := s.unaddressed
  let changed := new || s.fld LNK_ADDR_ADDR != a
  let t := (((s.setFld LNK_ADDR_ADDR a).setFld LNK_ADDR_UNADDR 0).setFld LNK_ADDR_NDEV ndev).setFld LNK_ADDR_NSTR nstr
  let t := t.setFld LNK_STAT_ROLE role
  let t := { t with seq := { t.seq with
    out := t.seq.out || (new && role == 0 && !s.lnk.claimSeen), lineTold := 0, lines := if role = 2 then [] else t.seq.lines } }
  let t := t.showParent
  let t := if role = 2 then t.setTstate 0 else if t.fld STM_STAT_TSTATE = 0 then t.setTstate 1 else t
  let t := onlyIf changed (State.flagRaise LNK_STAT_ENUM_EV 675) t
  (onlyIf new State.forwardStuck t).seqRefresh

/-- The device has no address. -/
def State.loseAddress (s : State) : State :=
  let t := (s.setReg LNK_ADDR (BitVec.ofNat 32 0x8000)).setFld LNK_STAT_ROLE 3
  let t := { t with lnk := { t.lnk with claimSeen := false } }
  ((t.setTstate 0).setFld LNK_SYNC_NO_PARENT 1).seqRefresh

/-- The entries of an ASSIGN frame. -/
def assignBytes (l : List (BitVec 64 × Nat)) : List Byte := (l.map (fun e => leBytes 8 e.1.toNat ++ leBytes 2 e.2)).flatten

/-- Entries a frame of 256 payload bytes holds (R404). -/
def assignPart : Nat := 25

/-- An assignment: as many frames as its entries need; one that is not full is the last (DESIGN CHOICE: log entry 34). -/
def State.sendAssign (mode : Nat) (l : List (BitVec 64 × Nat)) (s : State) : State :=
  forEach (List.range (l.length / assignPart + 1))
    (fun i t => t.send 0x05 mode false (assignBytes ((l.drop (assignPart * i)).take assignPart))) s

/-- The head of string `k` assigns its string, and itself position 0. -/
def State.assignString (k role nstr : Nat) (s : State) : State :=
  let own := (s.serial, 0) :: s.lnk.table.filter (fun e => decide (e.1 ≠ s.serial))
  let l := own.map (fun e => (e.1, 64 * k + e.2))
  let t := s.takeAddress (64 * k) role l.length nstr
  (t.setPass .none).sendAssign 2 l

/-- No head is eligible (R410): one sheet 0x0B13, by the head that ranks first among those that claimed (DEDUCED: log entry 34);
no address is given, and every device stays in MASTER. -/
def State.noKeystone (s : State) : State :=
  let t := s.setPass .none
  if s.lnk.claims.any (fun c => decide (c.1.toNat < s.serial.toNat)) then t else t.sheet 0x0B13 []

/-- What a walk tells of its ring of `n`: one that did not come back finds it open. One that came back does not close an open ring, which
takes three checks (R407); every device then stands on the B side (DEDUCED: log entry 34). -/
def State.walkedRing (trunk opened : Bool) (n : Nat) (s : State) : State :=
  if opened then s.declareRing trunk true
  else if s.flag (openFld trunk) then (s.setRing trunk { s.ring trunk with sideB := n - 1, onSideA := false }).showParent
  else s.showParent

/-- The walk of the string is complete with `n` devices: positions from the reports, those at 64 and above left out (R412);
above course 0 only devices found where they were keep their addresses (R413). Then the trunk, or the assignment. -/
def State.walkDone (n : Nat) (opened : Bool) (s : State) : State :=
  let all := s.lnk.reports.map (fun r => (r.1, if r.2.2 then n - r.2.1 else r.2.1))
  let fits := all.filter (fun e => decide (e.2 < 64))
  let excess := all.filter (fun e => decide (64 ≤ e.2))
  let t := (s.walkedRing false opened n).setFld LNK_LIM_EXCESS_DEV excess.length
  let t := forEach excess (fun e t => (t.sheet 0x0B10 (leBytes 8 e.1.toNat)).flagRaise LNK_STAT_LIM_EV 676) t
  if t.linked && t.isHead && t.fld SEQ_STAT_STR_COURSE != 0 then
    let back := fits.filter (fun e => t.lnk.table.contains e)
    let late := (all.filter (fun e => !t.lnk.table.contains e)).filter (fun e => !t.lnk.late.contains e.1)
    let t := forEach late (fun e t => t.sheet 0x0B14 (leBytes 8 e.1.toNat)) t
    let t := { t with lnk := { t.lnk with late := late.map Prod.fst ++ t.lnk.late } }
    let k := t.fld LNK_ADDR_ADDR / 64
    (t.setPass .none).sendAssign 2 (((t.serial, 0) :: back).map (fun e => (e.1, 64 * k + e.2)))
  else
    let t := { t with lnk := { t.lnk with table := fits, late := [], others := 0 } }
    if t.ringOn true then t.claimTrunk
    else if t.eligibleKey then t.assignString 0 2 1
    else t.noKeystone

/-- The walk of the trunk is complete: strings numbered in walk order, those at 64 and above refused (R412); the heads are
assigned first, then the own string (R411). No frame tells how many devices the other strings hold: a free value, at least
their heads (log entry 34). -/
def State.trunkDone (s : State) : State :=
  let fits := s.lnk.heads.filter (fun e => decide (e.2 < 64))
  let excess := s.lnk.heads.filter (fun e => decide (64 ≤ e.2))
  let t := s.setFld LNK_LIM_EXCESS_HEADS excess.length
  let t := forEach excess (fun e t => (t.sheet 0x0B11 (leBytes 8 e.1.toNat)).flagRaise LNK_STAT_LIM_EV 676) t
  let l := (s.serial, 0) :: fits.map (fun e => (e.1, 64 * e.2))
  let r := t.takeFree 12
  let n := fits.length
  let t := { r.2 with lnk := { r.2.lnk with others := n + r.1 % (63 * n + 1), trunk := { r.2.lnk.trunk with sideB := n } } }
  (t.sendAssign 4 l).assignString 0 2 l.length

/-- CLAIM_TIMEOUT (R410, R411): 20 ms without a higher-ranked claim make the candidate head, or keystone on the trunk. -/
def execClaimTimeout (s : State) : Host.Outcome State Fault Refusal :=
  .next (
    if s.active && decide (s.lnk.passAt + 20000 * coreUs ≤ s.clk.core) then
      match s.lnk.pass with
      | .claim => if s.lnk.candidate then s.beginWalk else s.setPass .none
      | .trunkClaim =>
        if s.lnk.candidate then
          ({ s with lnk := { s.lnk with heads := [] } }.setPass .trunkWalk).sendWalk 3 0
        else if s.eligibleKey || s.lnk.claims.any Prod.snd then s.setPass .none
        else s.noKeystone
      | _ => s
    else s)

/-- The longest time of a walk, 2 ms, has passed without its return: the string ring is open and its A side is walked, or what
has been reported stands (R411). The rows name no event for it: it happens with the passing of time. -/
def State.walkTimeout (s : State) : State :=
  if s.active && decide (s.lnk.passAt + 2000 * coreUs < s.clk.core) then
    match s.lnk.pass with
    | .walkB =>
      let b := s.lnk.reports.foldl (fun m r => if r.2.2 then m else max m r.2.1) 0
      ((s.setRing false { s.ring false with sideB := b }).setPass .walkA).sendWalk 0 1
    | .walkA =>
      let a := s.lnk.reports.foldl (fun m r => if r.2.2 then max m r.2.1 else m) 0
      s.walkDone (1 + s.lnk.string.sideB + a) true
    | .trunkWalk => (s.declareRing true true).trunkDone
    | _ => s
  else s

/-- WALK (R411): at its originator it closes the walk; elsewhere the device takes its count, reports it, and relays it, with
a count of its own and so as a new frame of one hop (DEDUCED: log entry 34). On the wrong port the device writes sheet
0x0B05. -/
def execWalk (port : WalkIn) (count : Byte) (side : Bool) (s : State) : Host.Outcome State Fault Refusal :=
  let p := port.port.toNat
  let trunk := decide (2 ≤ p)
  let n := count.toNat
  .next (
    if !s.active || !s.portOn p then s
    else if !trunk && s.lnk.pass == .walkB && p == 0 then s.walkDone n false
    else if trunk && s.lnk.pass == .trunkWalk && p == 2 then (s.walkedRing true false n).trunkDone
    else if trunk && s.lnk.pass != .none && s.lnk.pass != .trunkClaim then s
    else if decide (p % 2 = 1) != side then s.sheet 0x0B05 []
    else
      let f := s.takeFree 6
      let t := f.2.setRing trunk { f.2.ring trunk with sideB := f.1, onSideA := side }
      let r := t.emit p 0x04 (if trunk then 0x6000 else 0x5000) (t.eventNo 0x04) false
        (leBytes 8 t.serial.toNat ++ leBytes 1 n ++ leBytes 1 (bit side) ++ leBytes 2 0)
      r.emit (if p % 2 = 0 then p + 1 else p - 1) 0x03 0x1000 0 false
        (leBytes 1 (n + 1) ++ leBytes 1 (bit side) ++ leBytes 1 port.string.toNat ++ leBytes 1 0))

/-- WALK_REPORT (R411): recorded while the walk runs. -/
def execWalkReport (trunk : Bool) (serial : BitVec 64) (distance : Byte) (side : Bool) (s : State) :
    Host.Outcome State Fault Refusal :=
  .next (
    match s.lnk.pass with
    | .trunkWalk => if trunk then { s with lnk := { s.lnk with heads := s.lnk.heads ++ [(serial, distance.toNat)] } } else s
    | .walkB | .walkA =>
      if trunk then s else { s with lnk := { s.lnk with reports := s.lnk.reports ++ [(serial, distance.toNat, side)] } }
    | _ => s)

/-- A frame of an assignment has been read: a full one leaves the assignment to go on, the last one settles how many devices
or strings it named, and a device it did not name loses its address. -/
def State.endAssign (trunk : Bool) (count : Nat) (named : Bool) (s : State) : State :=
  let total := s.lnk.assigned + count
  if count = assignPart then { s with lnk := { s.lnk with assigned := total, named := named } }
  else
    let t := { s with lnk := { s.lnk with assigned := 0, named := false } }
    if named then t.setFld (if trunk then LNK_ADDR_NSTR else LNK_ADDR_NDEV) (min total 64)
    else if t.unaddressed || (t.isHead != trunk) then t
    else t.loseAddress

/-- ASSIGN (R405, R411, R412): it goes on along its ring; a member takes the address its serial has, or has none; a head takes its string number and assigns
its string. A frame that names this device with place 0 is its own, come back. How many strings there are a member is not told:
a free value, more than its own string's number (log entry 34). -/
def execAssign (trunk : Bool) (entries : Framed (List (BitVec 64 × BitVec 16))) (s : State) : Host.Outcome State Fault Refusal :=
  let head := entries.head
  let entries := entries.body
  let found := entries.find? (fun e => decide (e.1 = s.serial))
  let s := s.passOn head 0x05 head.address.toNat false (assignBytes (entries.map (fun e => (e.1, e.2.toNat))))
  .next (
    if !s.takesIn head || s.lnk.pass == .claim then s
    else
      let total := min (s.lnk.assigned + entries.length) 64
      let t := match found with
        | some (_, a) =>
          let k := a.toNat % 4096 / 64
          if trunk then (if k = 0 then s else s.assignString k 1 total)
          else if a.toNat % 64 = 0 then s
          else
            let r := s.takeFree 6
            r.2.takeAddress (a.toNat % 4096) 0 total (k + 1 + r.1 % (64 - k))
        | none => s
      t.endAssign trunk entries.length (s.lnk.named || found.isSome))

/-! ### Time exchange (R415, R416) -/

/-- SYSTIME with 8 more fraction bits, in 2⁻³⁶ s: a sync stamp. -/
def State.syncStamp (s : State) : BitVec 72 := (s.clk.acc >>> 16).setWidth 72

/-- SYNC_START (R415): at each multiple of 31.25 ms a follower sends SYNC_REQ. -/
def execSyncStart (s : State) : Host.Outcome State Fault Refusal :=
  .next (
    let k := s.nowU / 2 ^ 23
    if s.linked && s.fld STM_STAT_TSTATE != 0 && s.lnk.syncLast != some k then
      let t := s.showParent.emit s.parentPort 0x20 0x1000 0 false []
      { t with lnk := { t.lnk with syncLast := some k, syncT1 := some s.syncStamp.toNat, syncT4 := none } }
    else s)

/-- The nine bytes of a stamp: the 64-bit SYSTIME, then its 8 further fraction bits (R406, Table — Frame types). -/
def stampBytes (t : BitVec 72) : List Byte := leBytes 8 (t.toNat / 256) ++ leBytes 1 (t.toNat % 256)

/-- SYNC_REQ (R415): the parent answers at once and tells its stamps; `turn` is the turn-round time in 2⁻³⁶ s. -/
def execSyncReq (port : BitVec 2) (turn : Nat) (s : State) : Host.Outcome State Fault Refusal :=
  .next (
    if s.linked && s.portOn port.toNat then
      let t2 := s.syncStamp
      let t3 := t2 + BitVec.ofNat 72 turn
      (s.emit port.toNat 0x21 0x1000 0 false []).emit port.toNat 0x22 0x1000 0 false
        (stampBytes t2 ++ stampBytes t3 ++ leBytes 1 (s.fld STM_STAT_TSTATE) ++ leBytes 1 0)
    else s)

/-- SYNC_RSP (R415): t4. -/
def execSyncRsp (s : State) : Host.Outcome State Fault Refusal :=
  .next (
    if s.lnk.syncT1.isSome && s.lnk.syncT4.isNone then
      { s with lnk := { s.lnk with syncT4 := some (s.syncStamp.toNat, s.clk.core) } }
    else s)

/-- The exchange is over. -/
def State.endSync (s : State) : State := { s with lnk := { s.lnk with syncT1 := none, syncT4 := none } }

/-- SYNC_FUP (R415, R416): offset and delay of the exchange; a valid offset drives the servo (R72). -/
def execSyncFup (t2 t3 : BitVec 72) (tstate : BitVec 2) (s : State) : Host.Outcome State Fault Refusal :=
  .next (
    match s.lnk.syncT1, s.lnk.syncT4 with
    | some t1, some (t4, at4) =>
      let a := BitVec.ofNat 72 t1
      let d := BitVec.ofNat 72 t4
      let offset := (a - t2).toInt + (d - t3).toInt
      let delay := (d - a).toInt - (t3 - t2).toInt
      let valid := decide (s.clk.core ≤ at4 + 1000 * coreUs) && decide (0 ≤ delay) && decide (delay * 500000 ≤ 2 ^ 37) &&
        (tstate.toNat == 0 || tstate.toNat == 2)
      if valid then
        let t := s.endSync.setFld LNK_SYNC_DELAY (roundDiv (delay * 1000000000000) (2 ^ 37)).toNat
        t.servo offset (roundDiv offset (2 ^ 9))
      else s.endSync
    | _, _ => s)

/-- SYNC_FUP_TIMEOUT (R416): 1 ms after SYNC_RSP. -/
def execSyncFupTimeout (s : State) : Host.Outcome State Fault Refusal :=
  .next (if reached (s.lnk.syncT4.map (fun p => p.2 + 1000 * coreUs)) s.clk.core then s.endSync else s)

/-! ### Couch frames (R419) -/

/-- COUCH_REQ (R389, R405, R409, R419): the request of the keystone goes on, is checked and answered, and a refusal flagged. -/
def execCouchReq (id : Framed (BitVec 16)) (time : Time) (s : State) : Host.Outcome State Fault Refusal :=
  let n := id.body.toNat
  let takes := s.takesIn id.head && !s.unaddressed
  let s := s.passOn id.head 0x40 id.head.address.toNat false (leBytes 2 n ++ leBytes 2 0 ++ leBytes 8 time.toNat)
  .next (
    if takes then
      let r := s.couchRequest false n time
      let t := if r.1.1 = 1 then r.2 else r.2.flagRaise MTR_STAT_COUCH_REF_EV 610
      t.send 0x41 6 false (leBytes 2 n ++ leBytes 1 r.1.1 ++ leBytes 1 r.1.2)
    else s)

/-- The answers of a couch are complete. -/
def State.couchDone (s : State) : State :=
  ({ s with lnk := { s.lnk with couchAt := none } }.setFld LNK_COUCH_SUM_DONE 1).raise 685

/-- Every other enumerated device has answered. -/
def State.couchComplete (s : State) : Bool :=
  decide (s.fld LNK_ADDR_NDEV + s.lnk.others ≤ s.fld LNK_COUCH_SUM_ACC_CNT + s.fld LNK_COUCH_SUM_REF_CNT + 1)

/-- COUCH_ANS (R419): counted; the first refusal is kept. -/
def execCouchAns (address : BitVec 12) (id : BitVec 16) (result : Byte) (s : State) : Host.Outcome State Fault Refusal :=
  .next (
    if s.linked && s.isKeystone && s.lnk.couchAt.isSome && decide (s.lnk.couchId = id.toNat) then
      let t := if result.toNat = 1 then s.setFld LNK_COUCH_SUM_ACC_CNT (s.fld LNK_COUCH_SUM_ACC_CNT + 1)
        else
          let u := s.setFld LNK_COUCH_SUM_REF_CNT (s.fld LNK_COUCH_SUM_REF_CNT + 1)
          if s.fld LNK_COUCH_SUM_REF_CNT = 0 then
            u.setReg LNK_COUCH_REF (word [(12, result.toNat % 8), (0, address.toNat)])
          else u
      if t.couchComplete then t.couchDone else t
    else s)

/-- COUCH_FREE (R405, R409, R419): it goes on; the banks that hold a named ID are freed. -/
def execCouchFree (ids : Framed (List (BitVec 16))) (s : State) : Host.Outcome State Fault Refusal :=
  let takes := s.takesIn ids.head && !s.unaddressed
  let s := s.passOn ids.head 0x42 ids.head.address.toNat false
    (leBytes 1 ids.body.length ++ leBytes 1 0 ++ (ids.body.map (fun i => leBytes 2 i.toNat)).flatten)
  .next (
    if takes then
      forEach (List.range 4) (fun k t =>
        if t.fld (MTR_COUCH_STAT_STATE k) != 0 && ids.body.any (fun i => decide (i.toNat = t.fld (MTR_COUCH_STAT_ID k))) then
          t.freeBank k
        else t) s
    else s)

/-- COUCH_ANSWER_TIMEOUT (R419): 10 ms after the request. -/
def execCouchAnswerTimeout (s : State) : Host.Outcome State Fault Refusal :=
  .next (if reached (s.lnk.couchAt.map (· + 10000 * coreUs)) s.clk.core then s.couchDone else s)

/-! ### Doorbells and forwarded interrupts (R423) -/

/-- DOORBELL (R405, R409, R423). -/
def execDoorbell (source : Framed (BitVec 16)) (s : State) : Host.Outcome State Fault Refusal :=
  let n := source.body.toNat
  let takes := s.takesIn source.head && !s.unaddressed
  let s := s.passOn source.head 0x70 source.head.address.toNat false (leBytes 2 n ++ leBytes 2 0)
  .next (
    if takes then
      if 832 ≤ n ∧ n ≤ 1023 then s.raise n else s.bump LNK_DROP_CNT_REFUSED
    else s)

/-- IRQ_FWD: the head queues the entry or counts an overflow. -/
def execIrqFwd (address : BitVec 12) (source : BitVec 10) (stamp : Time) (s : State) : Host.Outcome State Fault Refusal :=
  .next (
    if s.linked && s.isHead then
      let r := s.fwdPush address.toNat source.toNat stamp
      match r.2 with
      | some k => r.1.raise k
      | none => r.1
    else s)

/-- FWD_POP: the head entry leaves. -/
def State.lnkFwdPop (s : State) : State := { s with lnk := { s.lnk with fwd := s.lnk.fwd.drop 1 } }

/-- CNT_CLR. -/
def State.lnkCntClr (s : State) : State := (s.setReg LNK_ERR_CNT 0).setReg LNK_DROP_CNT 0

/-! ### Remote access, the requester (R417) -/

/-- A GO is refused: its tag is not free. -/
def State.raRefused (s : State) (w : Word) : Bool := s.fld (LNK_RA_STAT_STATE (bitsOf w.toNat 24 5)) != 0

/-- A tag is done with a result: source 678 or 679. -/
def State.raDone (tag result : Nat) (s : State) : State :=
  let t := (s.setFld (LNK_RA_STAT_STATE tag) 2).setFld (LNK_RA_STAT_RESULT tag) result
  ({ t with lnk := { t.lnk with tags := dropPair t.lnk.tags tag } }).raise (if result = 0 then 678 else 679)

/-- An accepted GO: the request leaves, or cannot be reached where the device has no address or the port is down. -/
def State.raGo (w : Word) (s : State) : State :=
  let tag := bitsOf w.toNat 24 5
  let op := bitsOf w.toNat 29 2
  let dest := bitsOf w.toNat 0 12
  let adr := leBytes 4 (s.reg LNK_RA_ADDR).toNat
  let t := (s.setReg (LNK_RA_STAT tag) 0).setFld (LNK_RA_STAT_STATE tag) 1
  let before := t.lnk.out.length
  let t := { t with lnk := { t.lnk with tags := putPair t.lnk.tags tag s.clk.core } }
  let u := if s.unaddressed then t
    else if op = 1 then t.sendTo 0x11 dest tag (adr ++ leBytes 4 (s.reg LNK_RA_WDATA).toNat)
    else t.sendTo 0x10 dest tag (adr ++ leBytes 1 (if op = 0 then 1 else bitsOf w.toNat 18 6) ++ leBytes 3 0)
  if u.lnk.out.length = before then u.raDone tag 4 else u

/-- RA_RSP: the tag is done with the target's result and data; a response for a tag that is not pending is dropped. -/
def execRaRsp (tag : BitVec 5) (result : Byte) (data : List Word) (s : State) : Host.Outcome State Fault Refusal :=
  let k := tag.toNat
  .next (
    if s.linked && s.fld (LNK_RA_STAT_STATE k) == 1 then
      let d := data.take 63
      let t := forEach (List.range d.length) (fun i t => t.setReg (LNK_RA_DATA k i) (d.getD i 0)) s
      (t.setFld (LNK_RA_STAT_COUNT k) d.length).raDone k (result.toNat % 8)
    else s)

/-- RA_TIMEOUT: 1 ms after the departure. -/
def execRaTimeout (tag : BitVec 5) (s : State) : Host.Outcome State Fault Refusal :=
  let k := tag.toNat
  .next (
    match s.lnk.tags.find? (fun p => decide (p.1 = k)) with
    | some (_, at0) => if at0 + 1000 * coreUs ≤ s.clk.core then (s.bump LNK_DROP_CNT_TMO_CNT).raDone k 2 else s
    | none => s)

/-- FREE: a done tag becomes free. -/
def State.raFree (tag : Nat) (s : State) : State :=
  if s.fld (LNK_RA_STAT_STATE tag) = 2 then s.setReg (LNK_RA_STAT tag) 0 else s

end Sys2Proof.Machine
end

