-- ==== Sys2Proof/Machine/Watchdog.lean ====
section
/-! DEFINITION. The watchdog (R448 to R462): cycles, check-ins, arming, failures and their evidence. -/
namespace Sys2Proof.Machine

/-- WDG_HW_START (Table — Options). -/
def State.hwStart (s : State) : Bool := s.boot.opt0.getLsbD 1

/-- The next challenge: a right-shifting Galois LFSR with mask 0xB400 (R451). -/
def nextChal (c : BitVec 16) : BitVec 16 := if c.getLsbD 0 then (c >>> 1) ^^^ 0xB400 else c >>> 1

/-- A cycle starts with count 0 (R448 to R451): the window and the registrations in force, the challenge, IN cleared, source
769. The first cycle after arming has task 0 only and the challenge 0xACE1. Which of tasks 1 to 11 the firmware asks for the
spec leaves to it: a free value (R450; DESIGN CHOICE, safe: log entry 37). -/
def State.newCycle (first : Bool) (s : State) : State :=
  let f : Nat × State := if first then (0, s) else s.takeFree 11
  let s := f.2
  let chal := if first then 0xACE1#16 else nextChal ((s.reg WDG_CHAL).setWidth 16)
  let tasks := if first then 1 else 1 + f.1 * 2 + s.fld WDG_TASK_REQ_REQ * 4096
  let t := (s.setReg WDG_CHAL (chal.setWidth 32)).setReg WDG_TASKS (BitVec.ofNat 32 tasks)
  ({ t with wdg := { t.wdg with
      count := 0, sub := 0, stopped := false, starting := none, firmReq := f.1, judged := none
      tOpen := 100 * s.fld WDG_WIN_OPEN, tClose := 100 * s.fld WDG_WIN_CLOSE } }).raise 769

/-- A watchdog tick of 1 µs (R448): the cycle that is due starts, or the count advances up to the tick of the close. -/
def State.wdgTick (s : State) : State :=
  match s.wdg.starting with
  | some first => s.newCycle first
  | none =>
    if s.wdg.armed && !s.wdg.stopped && decide (s.wdg.count + 1 < s.wdg.tClose) then
      { s with wdg := { s.wdg with count := s.wdg.count + 1 } }
    else s

/-- Arming (R454): a cycle starts in the next tick. -/
def State.arm (s : State) : State :=
  let t := (s.setReg WDG_CHAL 0xACE1).setReg WDG_TASKS 1
  { t with wdg := { t.wdg with armed := true, stopped := false, starting := some true, count := 0, failTick := none, judged := none } }

/-- A write of ARM is ignored with CFG_ERR: the watchdog is armed, or the device is not in Idle or Run (R454). -/
def State.armRefused (s : State) : Bool := !s.hwStart && (s.wdg.armed || !s.active)

/-- The present watchdog tick, by the RC tick at which it began. -/
def State.wdgNow (s : State) : Nat := s.clk.rc - s.wdg.sub

/-- The count runs, or stopped in this tick at a failure that another one joins (R453, R457). -/
def State.watching (s : State) : Bool := s.wdg.armed && (!s.wdg.stopped || s.wdg.failTick == some s.wdgNow)

/-- What a further failure of the tick adds to the one that is recorded: the lowest code, in the record and the frames of the
all-off it began too (R13), and every task named (R453). -/
def State.joinFail (code tasks : Nat) (s : State) : State :=
  let was := s.fld WDG_EV_STAT_CODE
  let mine := s.wdg.began && s.flag SEQ_FAULT_ACTIVE && !s.flag SEQ_FAULT_REMOTE && s.fld SEQ_FAULT_CODE == was
  let t := onlyIf (decide (code < was) && mine) (State.recode none code) s
  (t.setFld WDG_EV_STAT_CODE (min code was)).setFld WDG_EV_MASK_FAIL (Nat.lor tasks (s.fld WDG_EV_MASK_FAIL))

/-- The all-off of a failure (R457), and whether what is ACTIVE then is its own. -/
def State.failOff (code : Nat) (s : State) : State :=
  let t := onlyIf (s.flag WDG_CFG_ALLOFF) (State.allOffBody none code none) s
  let own := s.flag WDG_CFG_ALLOFF && t.fld SEQ_FAULT_CODE == code && t.offNow.isSome
  { t with wdg := { t.wdg with quiet := s.flag WDG_CFG_ALLOFF, began := own } }

/-- A failure (R457, R459): the evidence, the all-off where ALLOFF is 1, WDO high, source 768. A failure of the same tick
joins the one before. WDO is first driven here: R45 leaves it released until what drives it takes it over, and no boot phase is
named that drives it low before (DESIGN CHOICE: log entry 37). -/
def State.wdgFail (code tasks : Nat) (pc : Word × Word × Word × Word) (s : State) : State :=
  if s.wdg.stopped then s.joinFail code tasks
  else
    let t := s.setReg WDG_EV_STAT (BitVec.ofNat 32 (2 ^ 31 + code))
    let t := t.setReg WDG_EV_MASK (BitVec.ofNat 32 (s.fld WDG_TASKS_IN * 65536 + tasks))
    let t := ((t.setReg WDG_EV_PC_SA pc.1).setReg WDG_EV_PC_SB pc.2.1).setReg WDG_EV_PC_S0 pc.2.2.1
    let t := (t.setReg WDG_EV_PC_S1 pc.2.2.2).setReg WDG_EV_TS_LO (halfWord s.wdg.lastGood.toNat 0)
    let t := (t.setReg WDG_EV_TS_HI (halfWord s.wdg.lastGood.toNat 1)).bump WDG_EV_CNT_EXP_CNT
    let t := { t with wdg := { t.wdg with stopped := true, starting := none, failTick := some s.wdgNow } }
    let t := t.failOff code
    let t := { t with
      pins := { t.pins with wdo := .high }
      wdg := { t.wdg with pulseEnd := some (s.clk.rc + s.fld WDG_CFG_WDO_LEN * 1000 * rcUs) } }
    t.raise 768

/-- The order of the check-ins of one tick (R453). -/
def checkinRank : Path → Nat
  | .sup => 0 | .svc0 => 1 | .svc1 => 2 | .spi => 3 | .i2c => 3 | .link => 4

/-- A check-in takes its place among those of its tick, after every one of its own rank. -/
def placeCheckin (c : Nat × Nat × Nat) : List (Nat × Nat × Nat) → List (Nat × Nat × Nat)
  | [] => [c]
  | d :: r => if c.1 < d.1 then c :: d :: r else d :: placeCheckin c r

/-- The check-ins of a tick judged in their order (R452): IN, the lowest code of a failure (0 none), the tasks it names. -/
def judgeAll (early : Bool) (chal : Nat) : List (Nat × Nat × Nat) → Nat → Nat × Nat × Nat
  | [], inn => (inn, 0, 0)
  | c :: r, inn =>
    let code := if early then 0x0C01 else if bitsOf inn c.2.1 1 = 1 then 0x0C02 else if c.2.2 ≠ chal then 0x0C04 else 0
    let q := judgeAll early chal r (if code = 0 then Nat.lor inn (2 ^ c.2.1) else inn)
    if code = 0 then q
    else (q.1, if q.2.1 = 0 then code else min code q.2.1, Nat.lor (2 ^ c.2.1) q.2.2)

/-- A check-in from the host port or the link is ignored with CFG_ERR (R452): tasks 0 to 11, and a task not registered. After
a failure it is ignored without (R457). -/
def State.checkinRefused (s : State) (p : Path) (task : Nat) : Bool :=
  decide (3 ≤ checkinRank p) && !(s.wdg.armed && s.wdg.stopped && !s.watching) &&
    (decide (task < 12) || bitsOf (s.fld WDG_TASKS_REG) task 1 == 0)

/-- The evidence of a failure of this tick names every good check-in of the tick, and its stamp is the last one's (R453, R459). -/
def State.evidGood (s : State) : State :=
  ((s.setFld WDG_EV_MASK_IN (s.fld WDG_TASKS_IN)).setReg WDG_EV_TS_LO (halfWord s.wdg.lastGood.toNat 0)).setReg WDG_EV_TS_HI
    (halfWord s.wdg.lastGood.toNat 1)

/-- A check-in is judged (R452), with those of its tick in the order of R453: what went before it in the tick is judged anew
behind it where its path comes first. All failures of a tick are one, so its evidence holds what every check-in of the tick gave
(DEDUCED: log entry 37). -/
def State.checkin (p : Path) (task value : Nat) (pc : Word × Word × Word × Word) (s : State) : State :=
  if !s.watching then s
  else
    let before := match s.wdg.judged with
      | some j => if j.1 = s.wdgNow then j else (s.wdgNow, s.fld WDG_TASKS_IN, [])
      | none => (s.wdgNow, s.fld WDG_TASKS_IN, [])
    let l := placeCheckin (checkinRank p, task, value) before.2.2
    let early := decide (s.wdg.count < s.wdg.tOpen) || s.wdg.starting.isSome
    let q := judgeAll early (s.reg WDG_CHAL).toNat l before.2.1
    let good := q.1 != s.fld WDG_TASKS_IN
    let t := (s.setFld WDG_TASKS_IN q.1)
    let t := { t with wdg := { t.wdg with judged := some (before.1, before.2.1, l),
                                          lastGood := if good then s.now else s.wdg.lastGood } }
    let t := onlyIf s.wdg.stopped State.evidGood t
    if q.2.1 = 0 then t else t.wdgFail q.2.1 q.2.2 pc

/-- WDG_WINDOW_CLOSE (R448, R452): in the tick with count T_close − 1; tasks that have not checked in are missing, or the
next cycle starts in the tick that follows. -/
def execWdgWindowClose (counters : Word × Word × Word × Word) (s : State) : Host.Outcome State Fault Refusal :=
  .next (
    if s.watching && s.boot.power != .standby && s.wdg.starting.isNone && decide (s.wdg.tClose ≤ s.wdg.count + 1) then
      let missing := Nat.land (s.fld WDG_TASKS_REG) (65535 - s.fld WDG_TASKS_IN)
      if missing = 0 then
        (if s.wdg.stopped then s else { s with wdg := { s.wdg with starting := some false } })
      else s.wdgFail 0x0C03 missing counters
    else s)

/-- EVID_CLR (R459). -/
def State.evidClr (s : State) : State := (s.setFld WDG_EV_STAT_VALID 0).setFld WDG_EV_STAT_CUT 0

/-- The sheet of a failure not yet journaled, source 771 (R460). -/
def State.wdgJournal (s : State) : State :=
  if s.flag WDG_EV_STAT_VALID && !s.flag WDG_EV_STAT_JOURNALED then
    let w (a : Nat) : List Byte := leBytes 4 (s.reg a).toNat
    let t := s.sheet (s.fld WDG_EV_STAT_CODE) (leBytes 2 (s.fld WDG_EV_STAT_CODE) ++ leBytes 2 (s.fld WDG_EV_MASK_FAIL) ++
      leBytes 2 (s.fld WDG_EV_MASK_IN) ++ leBytes 1 (s.fld WDG_EV_STAT_CUT) ++ w WDG_EV_PC_SA ++ w WDG_EV_PC_SB ++
      w WDG_EV_PC_S0 ++ w WDG_EV_PC_S1 ++ w WDG_EV_TS_LO ++ w WDG_EV_TS_HI)
    (t.setFld WDG_EV_STAT_JOURNALED 1).raise 771
  else s

/-- An L0 or L1 (R454, R458): the watchdog is disarmed; a pulse it ends leaves CUT. -/
def State.wdgDisarm (s : State) : State :=
  let t := if s.wdg.pulseEnd.isSome then s.setFld WDG_EV_STAT_CUT 1 else s
  { t with wdg := { t.wdg with armed := false, stopped := false, starting := none, count := 0, pulseEnd := none, failTick := none,
                                 began := false, judged := none } }

end Sys2Proof.Machine
end

