-- ==== Sys2Proof/Machine/Reset.lean ====
section
/-! DEFINITION. Resets (R107, R108, R114, R117 to R121): what each level restores, requests and how they overlap, and the
commands that are reset events. -/
namespace Sys2Proof.Machine

/-! ### Levels and requests -/

/-- A field of RST_MAP (Table — Reset sources); the thermal level acts as L1 from 0b10 on. -/
def State.mapLevel (s : State) (src : Nat) : Nat :=
  let f (lo : Nat) : Nat := bitsOf s.boot.rstMap.toNat lo 2
  match src with
  | 2 => f 0
  | 3 => f 2
  | 4 => f 4
  | 5 => f 6
  | 7 => min (f 8) 1
  | 8 => f 10
  | _ => 0

/-- Every request sets its own RST_CAUSE bit (R119). -/
def State.noteCause (src : Nat) (s : State) : State :=
  s.setFld RPC_RST_CAUSE_CAUSE (Nat.lor (s.fld RPC_RST_CAUSE_CAUSE) (2 ^ src))

/-- A boot fault: BOOT_FAULT, and a sheet in P6 (R112, R137). -/
def State.bootFault (code : Nat) (s : State) : State :=
  let t := s.setFld RPC_IMG_STAT_BOOT_FAULT code
  { t with boot := { t.boot with faults := t.boot.faults ++ [code] } }

/-- A STAT code; while a lock attempt has failed the balls show 0b010 and return to it at lock (R58, R115). -/
def State.bootStat (code : Nat) (s : State) : State :=
  { s with clk := { s.clk with statBefore := code }
           boot := { s.boot with stat := some (if s.clk.clockFail then 2 else code) } }

/-! ### Entering a reset -/

/-- The input levels, as last told, beside released outputs and stopped regulators (R45, R41). -/
def State.releaseAll (s : State) : State :=
  { s with pins := { Pins.initial with
      courseHigh := s.pins.courseHigh, cascIn := s.pins.cascIn, mrgUp := s.pins.mrgUp, mrgDn := s.pins.mrgDn } }

/-- An OTP row whose programming did not complete: it holds the bits `kept` of the data. Whether the row's code, left
unfitting, marks the row on a read, and which one bit it then corrects, is open (R126; DESIGN CHOICE, safe: log entry 14). -/
def State.partialRow (row : Nat) (kept : Word) (s : State) : State :=
  let f := s.takeFree 2
  let c := f.2.takeFree 6
  let flip : Word := if f.1 % 2 = 1 then 1#32 <<< c.1 else 0
  { c.2 with boot := { c.2.boot with
      otp := putPair c.2.boot.otp row ⟨kept ^^^ flip, f.1 % 2 == 1, f.1 / 2 == 1⟩ } }

/-- The lowest `m` one bits of a word, which are programmed in ascending order (R125). -/
def lowOnes (d : Word) (m : Nat) : Word :=
  BitVec.ofNat 32 ((List.range 32).foldl (fun (a : Nat × Nat) i =>
    if d.getLsbD i && decide (a.2 < m) then (a.1 + 2 ^ i, a.2 + 1) else a) (0, 0)).1

/-- A program command stops after so many pulses (R126). A used row takes none (R125). A bit takes one to three, so of `pulses`
between a third and all have set a bit; how many is open (DESIGN CHOICE, safe: log entry 14). -/
def State.cutRow (c : OtpCmd) (pulses : Nat) (s : State) : State :=
  if s.boot.otp.any (fun r => decide (r.1 = c.row)) ∨ c.data = 0 then s
  else
    let least := pulses / 3
    let r := s.takeFree 7
    let m := least + r.1 % (pulses - least + 1)
    if m = 0 then s else r.2.partialRow c.row (lowOnes c.data m)

/-- The OTP command in progress at a reset: Idle is left, so a program command stops with RESULT 6 (R124, R126), after a
free number of pulses; a read goes on. -/
def State.cutOtp (s : State) : State :=
  match s.boot.otpCmd with
  | some c =>
    if c.program then
      let r := s.takeFree 7
      let t := r.2.cutRow c r.1
      let t := { t with boot := { t.boot with otpCmd := none } }
      (t.setFld OTP_STAT_RESULT 6).setFld OTP_STAT_BUSY 0
    else s
  | none => s

/-- Couch banks pending or held at an L1 or L0 (R391): ID, T and state. -/
def State.lostBanks (s : State) : List (Nat × Time × Nat) :=
  (List.range 4).filterMap (fun k =>
    if s.fld (MTR_COUCH_STAT_STATE k) = 0 then none
    else some (s.fld (MTR_COUCH_STAT_ID k),
      BitVec.ofNat 64 ((s.reg (MTR_COUCH_BT_LO k)).toNat + 2 ^ 32 * (s.reg (MTR_COUCH_BT_HI k)).toNat),
      s.fld (MTR_COUCH_STAT_STATE k)))

/-- Shadows of the time words of the RTC, which every reset leaves with the freezes they belong to (R4, R88, R89). -/
def rtcShadow (e : (Nat × Nat) × Word) : Bool := decide (e.1.2 / 0x10000 = 4)

/-- The hidden state of every block at an L0 (`cold`) or L1: what the always-on domain and the backup domain hold stays
(R107, R108, R383), all else is lost. -/
def State.dropBlocks (cold : Bool) (lvl : Nat) (s : State) : State :=
  let c := s.cpm
  { s with
    shadow := s.shadow.filter rtcShadow
    clk := if cold then { s.clk with
        onRc := true, attemptAt := none, qualifiedAt := none, clockFail := false, refLostAt := none
        seedFor := if s.clk.seedFor = 1 then 1 else 2, goodRun := 0, badRun := 0, incs := [] }
      else if s.boot.power == .standby && s.clk.attemptAt.isNone then
        -- CLK_ROOT stands still in Standby, so an L1 taken there cannot keep its lock: it begins the relock that ends every
        -- Standby, and with it the reseed of R71 (DEDUCED: log entry 16)
        { s.clk with attemptAt := some s.clk.rc, qualifiedAt := none, seedFor := 3 }
      else s.clk
    icu := Icu.initial, hst := Hst.initial
    jnl := { s.jnl with writing := none, loads := [] }
    bnd := Bnd.initial, brk := List.replicate 16 Brick.fresh, seq := Seq.initial, vcp := Vcp.initial
    cpm := if cold then { Cpm.initial with qualA := s.clk.rc, qualB := s.clk.rc } else { Cpm.initial with
      qualA := c.qualA, qualB := c.qualB, handover := c.handover, planned := c.planned, lossesA := c.lossesA, lossesB := c.lossesB, longA := c.longA, longB := c.longB }
    msr := Msr.initial, thm := Thm.initial, cel := Cel.initial
    mtr := { s.mtr with
      due := [], held := [], points := [], banks := Mtr.initial.banks, lost := s.mtr.lost ++ s.lostBanks
      resume := some lvl }
    lnk := Lnk.initial
    sram := []
    boot := { s.boot with
      power := .starting, level := lvl, hold := .none, stat := none, p2Restarts := 0, p2Since := none, waiting := none
      restart := none, restartWdg := false, resetAt := none, image := [], imageToFlash := false, updBlocks := 0, updBytes := [], updImage := []
      timeHeld := false, updCheck := false, updLink := false, loaderAskAt := 0, loaderPort := 0, loaderFrameAt := 0
      otpCmd := if cold then none else s.boot.otpCmd } }

/-- P1 starts: PRE, then CORE and ANA, then IO (R109). -/
def State.startP1 (s : State) : State :=
  { s with boot := { s.boot with phase := 1, hold := .none, phaseAt := s.clk.rc }
           pins := { s.pins with pre := true, io := true, core := true, ana := true } }

/-- The boot phases begin, unless RESET_N is low (R118) or, at an L0, a TST ball is high (R54). -/
def State.beginPhases (s : State) : State :=
  if s.boot.resetNLow then { s with boot := { s.boot with phase := 1, hold := .resetN } }
  else if s.boot.level = 0 ∧ s.boot.tstHigh then { s with boot := { s.boot with phase := 1, hold := .tst } }
  else s.startP1

/-- P0 begins: VSYS must pass 5.6 V and stay there for 1 ms (R109). -/
def State.beginP0 (s : State) : State := { s with boot := { s.boot with phase := 0, phaseAt := s.clk.rc } }

/-- An L0 or L1 is entered (R108, R121), by a reset source, a brown-out (`bor`), or from Dormant. Registers follow their
Reset columns; the meters and the journal that R383 names keep their values through every reset but a power-on reset
(DEDUCED: log entry 15). A store it cuts leaves the slot not in use as far as it had got (R150, log entry 13). -/
def State.enterStart (lvl : Nat) (bor : Bool) (s : State) : State :=
  let cold := decide (lvl = 0)
  let t := s.cutSheet.storePartly.cutOtp.wdgDisarm
  let t := t.dropBlocks cold lvl
  let t := t.restore (if cold then 2 else 3) (fun _ => true)
  let t := if bor then
      let u := t.restore 1 (fun a => !decide (a / 0x10000 = 0x18) && !decide (a / 0x10000 = 0x19) || decide (a = JNL_LOST))
      { u with boot := { u.boot with faults := [] }, wdg := { u.wdg with lastGood := 0 } }
    else t
  t.releaseAll

/-- An L2 or L3 is entered (R52, R114, R121): the processors restart, the bricks keep regulating. The window in progress ends
and the sweep is abandoned (R321). -/
def State.enterRestart (lvl : Nat) (wdg : Bool) (s : State) : State :=
  let t := s.abandonSweep
  let t := { t with boot := { t.boot with restart := some lvl, restartWdg := wdg } }
  let t := if s.boot.resetNLow then { t with boot := { t.boot with hold := .resetN } } else t
  if lvl = 2 then
    let t := t.cutSheet.restore 4 (fun _ => true)
    let t := { t with
      shadow := t.shadow.filter rtcShadow
      pins := { t.pins with hostReleased := true, gpioReleased := true }
      vcp := Vcp.initial
      msr := { t.msr with pulseEnd := none }
      jnl := { t.jnl with loads := [] }
      lnk := { t.lnk with tags := [], dist := none }
      boot := { t.boot with updBlocks := 0, updBytes := [], updImage := [], updCheck := false, updLink := false
                            imageToFlash := false } }
    t.clearRecords.driveInt
  else t.restore 5 (fun _ => true)

/-- A level is performed: LAST_SRC, LAST_LEVEL, and the code of the all-off before it (R119, R120). -/
def State.performReset (lvl src : Nat) (bor : Bool) (s : State) : State :=
  let code := if s.flag SEQ_FAULT_ACTIVE then s.fld SEQ_FAULT_CODE else 0
  let t := if lvl ≤ 1 then
      let u := s.enterStart lvl bor
      if bor then u.beginP0 else u.beginPhases
    else s.enterRestart lvl (src == 3)
  let t := { t with boot := { t.boot with resetAt := some s.clk.rc } }
  ((t.setFld RPC_RST_STAT_LAST_SRC src).setFld RPC_RST_STAT_LAST_LEVEL lvl).setFld RPC_RST_STAT_PRE_RST_FAULT code

/-- A request equal to the one performed in the same RC cycle: LAST_SRC records the lowest bit number among them (R119), and a
restart that the watchdog asked for too ends with a new cycle (R458). -/
def State.equalRequest (src lvl : Nat) (s : State) : State :=
  if s.boot.resetAt = some s.clk.rc ∧ s.fld RPC_RST_STAT_LAST_LEVEL = lvl then
    let t := { s with boot := { s.boot with restartWdg := s.boot.restartWdg || (src == 3 && s.boot.restart.isSome) } }
    if src < s.fld RPC_RST_STAT_LAST_SRC then t.setFld RPC_RST_STAT_LAST_SRC src else t
  else s

/-- A request has no effect beyond its bit (R119): a reset or its boot phases are in progress at this level or a lower-numbered
one. Loader mode is no boot phase for a request of L0 or L1 (DEDUCED: log entry 16). -/
def State.requestLate (s : State) (lvl : Nat) : Bool :=
  match s.boot.power with
  | .starting => if s.boot.hold == .loader then decide (2 ≤ lvl) else decide (s.boot.level ≤ lvl)
  | _ => match s.boot.restart with
    | some l => decide (l ≤ lvl)
    | none => false

/-- A request during P2 restarts P2 and is counted (R116); the ninth restart within 100 ms of the first holds the device. -/
def State.restartP2 (s : State) : State :=
  let run := match s.boot.p2Since with
    | some a => decide (s.clk.rc ≤ a + 100000 * rcUs)
    | none => false
  let n := if run then s.boot.p2Restarts + 1 else 1
  let t := { s with boot := { s.boot with
    p2Restarts := n, p2Since := if run then s.boot.p2Since else some s.clk.rc } }
  if 9 ≤ n then (({ t with boot := { t.boot with hold := .restarts } }).bootFault 0x0D08).bootStat 3 else t

/-- A reset source requests a level (R117, R119, R120). `quiet` is a source that has caused its own all-off. In P2 a request restarts
P2 and nothing more: R116 names no hold, so a RESET_N that stays low does not keep the restarted P2 from going on (R118; DESIGN
CHOICE: log entry 17). -/
def State.requestReset (src lvl : Nat) (quiet : Bool) (s : State) : State :=
  match s.boot.power with
  | .off => s
  | .dormant => s
  | _ =>
    let t := s.noteCause src
    if s.boot.power == .starting && s.boot.phase == 2 && s.boot.hold == .none then t.restartP2
    else match s.boot.waiting with
      | some (l, k) =>
        if lvl < l ∨ (lvl = l ∧ src < k) then { t with boot := { t.boot with waiting := some (lvl, src) } } else t
      | none =>
        if s.requestLate lvl then t.equalRequest src lvl
        else if lvl ≤ 1 ∧ s.railUp ∧ !quiet then
          let u := t.allOff 0x0D0A [] none
          { u with boot := { u.boot with waiting := some (lvl, src) } }
        else t.performReset lvl src false

/-! ### Reset events -/

/-- POR (R117): the always-on contents are lost, RESTORING reads 1 (R384); the backup domain, the OTP and
the flash stay. -/
def execPor (s : State) : Host.Outcome State Fault Refusal :=
  let t := s.cutSheet.storePartly.cutOtp
  .next { State.reset with
    pending := t.pending
    regs := (((t.restore 1 (fun _ => true)).setFld RPC_RST_CAUSE_CAUSE 1).setFld MTR_STAT_RESTORING 1).regs
    free := t.free
    clk := { Clk.initial with core := t.clk.core, rc := t.clk.rc, bak := t.clk.bak, windowAt := t.clk.rc }
    boot := { Boot.initial with
      otp := t.boot.otp, resetNLow := t.boot.resetNLow, tstHigh := t.boot.tstHigh, vsys := t.boot.vsys, vpp := t.boot.vpp
      phaseAt := t.clk.rc }
    shadow := t.shadow.filter rtcShadow
    bkd := t.bkd
    wdg := { Wdg.initial with firmReq := t.wdg.firmReq }
    pins := t.releaseAll.pins
    flash := t.flash }

/-- A brown-out reset is performed. -/
def State.brownOut (s : State) : State := (s.performReset 0 1 true).noteCause 1

/-- The always-on domain runs: neither Off nor Dormant. -/
def State.awake (s : State) : Bool :=
  match s.boot.power with
  | .off => false
  | .dormant => false
  | _ => true

/-- BOR (R43, R117): VCORE or ANA_OUT below its brown-out level; masked from the stop of the regulators until P1 has ended
(R108). -/
def execBor (s : State) : Host.Outcome State Fault Refusal :=
  .next (if s.awake && !(s.boot.power == .starting && decide (s.boot.phase ≤ 1)) then s.brownOut else s)

/-- INPUT_COLLAPSE (R49, R50): VSYS below 4.5 V. -/
def execInputCollapse (s : State) : Host.Outcome State Fault Refusal := .next (if s.awake then s.brownOut else s)

/-- RESET_N_ASSERT (R118): RESET_N has been low for 10 µs. -/
def execResetNAssert (s : State) : Host.Outcome State Fault Refusal :=
  let t := { s with boot := { s.boot with resetNLow := true } }
  .next (t.requestReset 2 (t.mapLevel 2) false)

/-- RESET_N_RELEASE (R118, R54): the boot phases of the level held begin, or the restart that RESET_N held. -/
def execResetNRelease (tst : Bool) (s : State) : Host.Outcome State Fault Refusal :=
  let t := { s with boot := { s.boot with resetNLow := false, tstHigh := tst } }
  .next (
    if s.boot.power == .starting && (s.boot.hold == .resetN || s.boot.hold == .tst) then t.beginPhases
    else if s.boot.hold == .resetN then { t with boot := { t.boot with hold := .none } }
    else t)

/-- ALL_OFF_TIMELINE_END (R48, R120, R311): the 2 µs are over; resets that waited are performed, the lowest-numbered level
first, among equal ones the lowest source. -/
def execAllOffTimelineEnd (s : State) : Host.Outcome State Fault Refusal :=
  .next (
    if s.seq.timeline || s.thm.resetDue then
      let hot := s.thm.resetDue
      let t := s.endTimeline
      let t := { t with boot := { t.boot with waiting := none }, thm := { t.thm with resetDue := false } }
      let t := if hot then t.noteCause 7 else t
      let lv := s.mapLevel 7
      let pick := match s.boot.waiting with
        | some (l, k) => if hot ∧ (lv < l ∨ (lv = l ∧ 7 < k)) then some (lv, 7) else some (l, k)
        | none => if hot then some (lv, 7) else none
      match pick with
      | some (l, k) => if t.requestLate l then t else t.performReset l k false
      | none => t
    else s)

/-- WDO_PULSE_END (R457): WDO falls and the watchdog's reset source is requested, without a second all-off where the failure
caused its own. -/
def execWdoPulseEnd (s : State) : Host.Outcome State Fault Refusal :=
  .next (
    if reached s.wdg.pulseEnd s.clk.rc then
      let t := { s with pins := { s.pins with wdo := .low }, wdg := { s.wdg with pulseEnd := none } }
      t.requestReset 3 (t.mapLevel 3) s.wdg.quiet
    else s)

/-- RESET (R424): a RESET frame with the right key, addressed to this device. -/
def execReset (key : BitVec 16) (unicast : Bool) (s : State) : Host.Outcome State Fault Refusal :=
  .next (
    if s.linked then
      if unicast && key == 0x5E7A then s.requestReset 5 (s.mapLevel 5) false else s.bump LNK_DROP_CNT_REFUSED
    else s)

/-- SUPERVISOR_LANE_MISMATCH (R203, R117): the lower-numbered of L2 and SUP_LVL. -/
def execSupervisorLaneMismatch (s : State) : Host.Outcome State Fault Refusal :=
  .next (if s.supervisorRuns then (s.sheet 0x0330 []).requestReset 8 (min 2 (s.mapLevel 8)) false else s)

/-- SERVICE_PROCESSOR_FAULT (R117): the lower-numbered of L3 and SUP_LVL. -/
def execServiceProcessorFault (s : State) : Host.Outcome State Fault Refusal :=
  .next (if s.supervisorRuns then s.requestReset 8 (min 3 (s.mapLevel 8)) false else s)

/-- SWITCH_CYCLE_TIMER (R356): 2 s after the press the SERVICE source is requested; an all-off of its own came before. -/
def execSwitchCycleTimer (s : State) : Host.Outcome State Fault Refusal :=
  .next (
    if s.active && reached s.cpm.switchAt s.clk.core then
      let t := { s with cpm := { s.cpm with switchAt := none } }
      t.requestReset 6 0 (s.fld SEQ_FAULT_CODE == 0x0940)
    else s)

/-- SHIP_MODE_SHEET_WRITTEN (R357): Dormant, with every output released (R45). -/
def execShipModeSheetWritten (s : State) : Host.Outcome State Fault Refusal :=
  .next (
    if s.active && s.cpm.ship && s.jnl.queue.all (fun sh => sh.type != 0x1006) then
      let t := s.driversOff.cutSheet.storePartly.cutOtp.wdgDisarm.releaseAll
      -- what was under way ends with the outputs: nothing drives them in Dormant (R45, R51)
      { t with boot := { t.boot with power := .dormant, stat := none, waiting := none, restart := none }
               cpm := { Cpm.initial with lossesA := t.cpm.lossesA, lossesB := t.cpm.lossesB }
               seq := Seq.initial, thm := { t.thm with resetDue := false }
               bnd := { t.bnd with accepted := none, storing := none, linkReq := none }
               clk := { t.clk with attemptAt := none, qualifiedAt := none, clockFail := false }
               icu := { t.icu with intN := false } }
    else s)

/-- WAKE_PULSE (R3): in Dormant a pulse of 100 µs starts an L0 start. No reset source stands behind it: RST_CAUSE and LAST_SRC
keep their values. -/
def execWakePulse (s : State) : Host.Outcome State Fault Refusal :=
  .next (
    if s.boot.power == .dormant then
      let code := if s.flag SEQ_FAULT_ACTIVE then s.fld SEQ_FAULT_CODE else 0
      let t := (s.enterStart 0 false).beginP0
      let t := { t with boot := { t.boot with timeHeld := true } }
      (t.setFld RPC_RST_STAT_LAST_LEVEL 0).setFld RPC_RST_STAT_PRE_RST_FAULT code
    else s)

end Sys2Proof.Machine
end

