-- ==== Sys2Proof/Machine/Image.lean ====
section
/-! DEFINITION. Images (R128 to R136): Curok's check, the update, loader mode. -/
namespace Sys2Proof.Machine

/-! ### The check of R132 -/

def blockSize : Nat := 4096

/-- Block `k` of an image, and whether the CRC-32 in its last four bytes is right (R129). -/
def imageBlock (img : List Byte) (k : Nat) : List Byte := slice img (blockSize * k) blockSize
def blockOk (b : List Byte) : Bool := decide (b.length = blockSize) && (crc32 (b.take 4092)).toNat == u32 b 4092

/-- An entry of the section table (R130): TYPE, FIRST, COUNT. -/
def sectionOf (h : List Byte) (k : Nat) : Nat × Nat × Nat :=
  let o := 0x10 + 16 * k
  (u16 h o, u16 h (o + 2), u16 h (o + 4))

/-- The section table of an image of `n` blocks: unused entries and the reserved field 0, sections inside blocks 1 to n − 1
that do not overlap. -/
def sectionsOk (h : List Byte) (n : Nat) : Bool :=
  let l := (List.range 4).map (sectionOf h)
  let fits (e : Nat × Nat × Nat) : Bool := decide (1 ≤ e.2.1) && decide (1 ≤ e.2.2) && decide (e.2.1 + e.2.2 ≤ n)
  let apart (a b : Nat × Nat × Nat) : Bool :=
    a.1 == 0 || b.1 == 0 || decide (a.2.1 + a.2.2 ≤ b.2.1) || decide (b.2.1 + b.2.2 ≤ a.2.1)
  (List.range 4).all (fun k =>
    let e := nth l k (0, 0, 0)
    zeros h (0x16 + 16 * k) 2 && (if e.1 = 0 then zeros h (0x10 + 16 * k) 16 else fits e) &&
      (List.range 4).all (fun m => m == k || apart e (nth l m (0, 0, 0))))

/-- The header check, the first of R132. -/
def headerOk (h : List Byte) : Bool :=
  let n := u16 h 6
  blockOk h && h.take 4 == [0x45, 0x46, 0x49, 0x4D] && u16 h 4 == 1 && decide (2 ≤ n) && decide (n ≤ 512) &&
    u16 h 0xC == 0x4850 && u16 h 0xE == 0 && zeros h 0x150 3756 && sectionsOk h n

/-- The signed digest (R131): GM_SIG and CUST_SIG taken as zero. -/
def imageDigest (img : List Byte) : List Byte :=
  sha256 (img.take 0x90 ++ List.replicate 64 0 ++ slice img 0xD0 64 ++ List.replicate 64 0 ++ img.drop 0x150)

/-- Why an image fails: the code of R132, the RESULT of an update (Table — Update outcomes), and the block of a CRC
failure. -/
structure ImageError where
  code : Nat
  result : Nat
  block : Option Nat
deriving DecidableEq, Repr

/-- CUST_KEY_HASH is present (R123). -/
def State.custHash (s : State) : Bool := (s.otpBytes 200 8).any (fun b => b != 0)

/-- R132, in its order, over the bytes of a whole image. An image with more or fewer blocks than its header names fails the
header check. -/
def State.checkImage (s : State) (img : List Byte) : Option ImageError :=
  let h := imageBlock img 0
  let n := u16 h 6
  if !headerOk h || decide (img.length ≠ blockSize * n) then some ⟨0x0D03, 2, if blockOk h then none else some 0⟩
  else if sha256 (slice h 0x50 64) ≠ s.otpBytes 192 8 then some ⟨0x0D05, 3, none⟩
  else if s.custHash ∧ sha256 (slice h 0xD0 64) ≠ s.otpBytes 200 8 then some ⟨0x0D05, 3, none⟩
  else match (List.range n).find? (fun k => decide (0 < k) && !blockOk (imageBlock img k)) with
    | some k => some ⟨0x0D04, 1, some k⟩
    | none =>
      if !ecdsaP256 (slice h 0x50 64) (imageDigest img) (slice h 0x90 64) then some ⟨0x0D06, 4, none⟩
      else if s.custHash && !ecdsaP256 (slice h 0xD0 64) (imageDigest img) (slice h 0x110 64) then some ⟨0x0D07, 5, none⟩
      else none

/-! ### Activation and loader mode -/

/-- Options of loader mode (Table — Options). -/
def State.loaderHostOff (s : State) : Bool := s.boot.opt0.getLsbD 4
def State.loaderLinkOff (s : State) : Bool := s.boot.opt0.getLsbD 3

/-- An image is activated from SRAM and P5 begins (R132, R134); a watchdog with hardware start arms (R454). -/
def State.activate (img : List Byte) (src : Nat) (s : State) : State :=
  let t := s.setReg RPC_IMG_VER (BitVec.ofNat 32 (u32 img 8))
  let t := (t.setFlag RPC_IMG_STAT_COSIGNED s.custHash).setFld RPC_IMG_STAT_RECOVERY_SRC src
  let t := { t with boot := { t.boot with phase := 5, hold := .none, image := img, imageToFlash := src != 0 } }
  let t := t.drivePath.bootStat 1
  onlyIf t.hwStart State.arm t

/-- Loader mode (R134): 0b101, the balls of the supply path released again; the first request is due at once. -/
def State.enterLoader (e : ImageError) (s : State) : State :=
  let t := (s.bootFault e.code)
  let t := match e.block with
    | some k => t.setFld RPC_IMG_STAT_FAIL_BLOCK k
    | none => t
  let t := { t with pins := { t.pins with auxEn := .released, ppaG := .released, ppbG := .released } }
  ({ t with boot := { t.boot with hold := .loader, loaderAskAt := s.clk.core } }).bootStat 5

/-- The image in flash: as many blocks as its header names, the header alone where that is no number of blocks. -/
def State.flashImage (s : State) : List Byte :=
  let h := s.flashRead 0 blockSize
  let n := u16 h 6
  if 2 ≤ n ∧ n ≤ 512 then h ++ s.flashRead blockSize (blockSize * (n - 1)) else h

/-- P4_IMAGE_DONE (R132). -/
def execP4ImageDone (s : State) : Host.Outcome State Fault Refusal :=
  .next (
    if s.boot.power == .starting && s.boot.phase == 4 && s.boot.hold == .none then
      match s.checkImage s.flashImage with
      | none => s.activate s.flashImage 0
      | some e => s.enterLoader e
    else s)

/-- An image request on a port (R134, R422). -/
def State.askImage (port : Nat) (s : State) : State := s.emit port 0x63 0x1000 (s.eventNo 0x63) false []

/-- LOADER_IMG_REQUEST (R134, R422): every second on LNK_A, then on LNK_B, unless an image is arriving by the link. -/
def execLoaderImgRequest (s : State) : Host.Outcome State Fault Refusal :=
  .next (
    if s.loaderMode && !s.loaderLinkOff && !(s.fld RPC_UPD_STAT_STATE == 1 && s.boot.updLink) &&
        decide (s.boot.loaderAskAt ≤ s.clk.core) then
      let t := (s.askImage 0).askImage 1
      { t with boot := { t.boot with loaderAskAt := s.clk.core + 1000000 * coreUs } }
    else s)

/-! ### The update (R135, R136) -/

/-- The words the FIFO can take: none once every block has arrived. -/
def State.showSpace (s : State) : State :=
  s.setFld RPC_UPD_STAT_SPACE (if s.boot.updCheck then 0 else 1024 - s.boot.updBytes.length / 4)

/-- An update of `n` blocks begins; flash block 0 is erased, but not in loader mode, which writes flash after P6. -/
def State.updBegin (n : Nat) (link : Bool) (s : State) : State :=
  let t := ((s.setFld RPC_UPD_STAT_STATE 1).setFld RPC_UPD_STAT_RESULT 0).setFld RPC_UPD_STAT_BLOCK_NEXT 0
  let t := { t with boot := { t.boot with updBlocks := n, updBytes := [], updImage := [], updCheck := false, updLink := link } }
  (if s.loaderMode then t else t.flashErase 0 blockSize).showSpace

/-- The update ends (Table — Update outcomes): STATE 2 raises source 11, STATE 3 source 12 with a 0x0D09 sheet where the
supervisor runs the update. The answer of R421 is the link's. -/
def State.updEnd (state result : Nat) (s : State) : State :=
  let t := (s.setFld RPC_UPD_STAT_STATE state).setFld RPC_UPD_STAT_RESULT result
  let t := { t with boot := { t.boot with updBytes := [], updImage := [], updCheck := false, updLink := false } }
  let t := t.setFld RPC_UPD_STAT_SPACE 1024
  let t := match t.lnk.dist with
    | some d => if d.image then
        let u := { t with lnk := { t.lnk with dist := none } }
        if s.loaderMode then u.emit s.boot.loaderPort 0x62 0x1000 0 false (leBytes 1 result ++ leBytes 3 0)
        else u.sendTo 0x62 d.sender 0 (leBytes 1 result ++ leBytes 3 0)
      else t
    | none => t
  if state = 2 then t.raise 11
  else (if s.loaderMode then t else t.sheet 0x0D09 []).raise 12

/-- A whole block has arrived (R136): its CRC, but for block 0 of an update, whose check is the header's; then it is written to
flash, in loader mode kept in SRAM only. A flash error told with block 0 is that of its erasure. A block whose program failed
holds a free number of its bytes (log entry 14). -/
def State.updBlock (b : List Byte) (flashError : Bool) (s : State) : State :=
  let k := s.boot.updImage.length / blockSize
  let a := blockSize * k
  if (0 < k ∨ s.loaderMode) ∧ !blockOk b then s.updEnd 3 1
  else if flashError ∧ k = 0 ∧ !s.loaderMode then s.updEnd 3 6
  else if flashError ∧ 0 < k ∧ !s.loaderMode then
    let r := (s.flashErase a (a + blockSize)).takeFree 12
    (r.2.flashWrite a (b.take r.1)).updEnd 3 6
  else
    let t := if 0 < k ∧ !s.loaderMode then (s.flashErase a (a + blockSize)).flashWrite a b else s
    let t := t.setFld RPC_UPD_STAT_BLOCK_NEXT (k + 1)
    { t with boot := { t.boot with
      updImage := s.boot.updImage ++ b, updCheck := decide (s.boot.updBlocks ≤ k + 1) } }

/-- Bytes of the image enter the FIFO (R136), at most one block's worth. -/
def State.updTake (bs : List Byte) (flashError : Bool) (s : State) : State :=
  let all := s.boot.updBytes ++ bs
  let full := decide (blockSize ≤ all.length)
  let t := { s with boot := { s.boot with updBytes := if full then all.drop blockSize else all } }
  let t := if full then t.updBlock (all.take blockSize) flashError else t
  if t.fld RPC_UPD_STAT_STATE = 1 then t.showSpace else t

/-- The bit of RPC_UPD_CTRL a write breaks: BLOCKS out of 2 to 512 with a start; a start while one runs, in loader mode that
takes no image from the host, or in a state that takes no update (R135, R9; that the last two are ignored with CFG_ERR at CMD:
DESIGN CHOICE, log entry 19). -/
def State.updCtrlRefused (s : State) (w : Word) : Option Nat :=
  if bitsOf w.toNat 12 2 = 1 then
    let n := bitsOf w.toNat 0 10
    if n < 2 ∨ 512 < n then some 0
    else if s.fld RPC_UPD_STAT_STATE = 1 then some 12
    else if s.active then none
    else if s.loaderMode ∧ !s.loaderHostOff then none
    else some 12
  else none

/-- An accepted write of RPC_UPD_CTRL. -/
def State.updCtrlWritten (w : Word) (s : State) : State :=
  match bitsOf w.toNat 12 2 with
  | 1 => s.updBegin (bitsOf w.toNat 0 10) false
  | 2 => if s.fld RPC_UPD_STAT_STATE = 1 then s.updEnd 3 7 else s
  | _ => s

/-- A write of RPC_UPD_DATA is ignored with CFG_ERR: SPACE = 0 or STATE ≠ 1 (R139), or the image comes over the link (DESIGN
CHOICE: log entry 19). -/
def State.updDataRefused (s : State) : Bool :=
  s.fld RPC_UPD_STAT_STATE != 1 || s.fld RPC_UPD_STAT_SPACE == 0 || s.boot.updLink

/-- UPDATE_CHECK_DONE (R132, R134, R136): the whole image passes, and block 0 is written last, or fails; in loader mode an
image that passes is activated at once. One that fails there records its outcome in RPC_UPD_STAT alone: BOOT_FAULT and FAIL_BLOCK keep
the failure that entered loader mode (R132 names the codes of Curok's check; DESIGN CHOICE: log entry 19). -/
def execUpdateCheckDone (flashError : Bool) (s : State) : Host.Outcome State Fault Refusal :=
  .next (
    if s.fld RPC_UPD_STAT_STATE = 1 ∧ s.boot.updCheck ∧ s.boot.restart = none then
      let img := s.boot.updImage
      match s.checkImage img with
      | some e => s.updEnd 3 e.result
      | none =>
        if s.loaderMode then
          (s.updEnd 2 0).activate img (if s.boot.updLink then (if s.boot.loaderPort = 0 then 2 else 3) else 1)
        else if flashError then (s.flashErase 0 blockSize).updEnd 3 6
        else
          let t := (s.flashErase 0 (blockSize * (img.length / blockSize))).flashWrite 0 img
          ({ t with boot := { t.boot with imageToFlash := false } }).updEnd 2 0
    else s)

/-- After P6 the supervisor writes an image that came through loader mode to flash, under the update procedure (R134). -/
def State.rewriteFlash (s : State) : State :=
  if s.boot.imageToFlash then
    let n := s.boot.image.length / blockSize
    let t := s.updBegin n false
    let t := t.setFld RPC_UPD_STAT_BLOCK_NEXT n
    ({ t with boot := { t.boot with updImage := s.boot.image, updCheck := true } }).showSpace
  else s

/-- LOADER_IMG_TIMEOUT (R422): no frame for 100 ms; what has arrived is discarded and the request goes out again. -/
def execLoaderImgTimeout (s : State) : Host.Outcome State Fault Refusal :=
  .next (
    if s.loaderMode && s.boot.updLink && s.fld RPC_UPD_STAT_STATE == 1 && !s.boot.updCheck &&
        decide (s.boot.loaderFrameAt + 100000 * coreUs ≤ s.clk.core) then
      let t := ((s.setFld RPC_UPD_STAT_STATE 0).setFld RPC_UPD_STAT_BLOCK_NEXT 0).setFld RPC_UPD_STAT_SPACE 1024
      { t with boot := { t.boot with updBytes := [], updImage := [], updLink := false, loaderAskAt := s.clk.core }
               lnk := { t.lnk with dist := none } }
    else s)

end Sys2Proof.Machine
end

