-- ==== Sys2Proof/Machine/Boot.lean ====
section
/-! DEFINITION. The boot phases (R109 to R116, R123), the end of a processor restart (R114), OTP commands (R124 to R127), the
lock of CLK_ROOT and Standby (R58, R444, R445). -/
namespace Sys2Proof.Machine

/-- A start stands in boot phase `k` with nothing holding it. -/
def State.inPhase (s : State) (k : Nat) : Bool := s.boot.power == .starting && s.boot.phase == k && s.boot.hold == .none

/-! ### P0 to P3 -/

/-- P0_SUPPLY_DONE (R109, R50): VSYS has stayed above the start threshold for 1 ms; the qualification timers of the inputs start
(R345). -/
def execP0SupplyDone (vsys : Nat) (tst : Bool) (s : State) : Host.Outcome State Fault Refusal :=
  .next (
    if s.inPhase 0 && decide (s.boot.phaseAt + 1000 * rcUs ≤ s.clk.rc) then
      let r := s.aboveStart vsys
      if r.1 then
        State.beginPhases { r.2 with
          boot := { s.boot with vsys := vsys, tstHigh := tst }
          clk := { s.clk with windowAt := s.clk.rc }
          cpm := { s.cpm with qualA := s.clk.rc, qualB := s.clk.rc } }
      else r.2
    else s)

/-- ADDR_0 to ADDR_2 are sampled once (R431); their levels are the board's, a free value (log entry 17). -/
def State.sampleAddr (s : State) : State :=
  let r := s.takeFree 3
  r.2.setFld HST_I2C_ADDR_ADDR (0x30 + r.1)

/-- P4 begins (R109, R111, R127): the host balls are taken over, Curok sets the locks of Table — OTP regions; every link port is
enabled until a link tile is in force (R141). -/
def State.beginP4 (s : State) : State :=
  let t := { s with boot := { s.boot with phase := 4 }, pins := { s.pins with hostReleased := false } }
  let t := (t.setFld OTP_LOCK_FAC_W 1).setFld OTP_LOCK_KEYS_R 1
  let t := if t.custHash then t.setFld OTP_LOCK_KEYS_W 1 else t
  t.layLink.sampleAddr.bootStat 1

/-- P1_REGULATORS_DONE (R109, R345): the supply path is driven from here, and the regulators are supervised on their default
windows until a bond is applied (R44). -/
def execP1RegulatorsDone (s : State) : Host.Outcome State Fault Refusal :=
  .next (
    if s.inPhase 1 then
      let t := { s with boot := { s.boot with phase := 2 } }
      let t := t.drivePath.choosePath
      let t := t.layRails.layThermal
      let t := forEach [16, 17, 18] (fun r t => ((t.setFlag (SEQ_RAIL_STAT_UV_ARM r) true).setRail r 2).beginDelay r) t
      if s.boot.level = 0 then t.bootStat 1 else t.beginP4
    else s)

/-- P1_REGULATOR_TIMEOUT (R110): 3 ms. -/
def execP1RegulatorTimeout (s : State) : Host.Outcome State Fault Refusal :=
  .next (
    if s.inPhase 1 && decide (s.boot.phaseAt + 3000 * rcUs ≤ s.clk.rc) then
      { s with boot := { s.boot with hold := .p1Off, retryAt := s.clk.rc + 10000 * rcUs }
               pins := { s.pins with pre := false, io := false, core := false, ana := false } }
    else s)

/-- P1_RETRY_END (R110): the 10 ms are over. -/
def execP1RetryEnd (s : State) : Host.Outcome State Fault Refusal :=
  .next (if s.boot.power == .starting && s.boot.hold == .p1Off && decide (s.boot.retryAt ≤ s.clk.rc) then s.startP1 else s)

/-- The OTP rows `a` to `b` − 1 as the machine holds them. -/
def State.otpRow (s : State) (row : Nat) : OtpRow := lookupD s.boot.otp row ⟨0, false, false⟩

/-- The integrity check fails (R123). -/
def State.otpFails (s : State) : Bool :=
  (List.range 320).any (fun r => (s.otpRow r).bad) ||
    (s.otpRow 127).data != crc32 (s.otpBytes 0 127) ||
    (s.otpRow 128).data.toNat / 64 != 0 || (s.otpRow 129).data.toNat / 4096 != 0

/-- P2_OPTIONS_DONE (R123): corrected rows of FACTORY, OPTIONS and KEYS are counted, with their code in BOOT_FAULT (R137); the
check holds the device, or the options and the reset map are loaded, REF_SRC shows REF_SEL (R80) and P3 begins. -/
def execP2OptionsDone (s : State) : Host.Outcome State Fault Refusal :=
  .next (
    if s.inPhase 2 then
      let n := ((List.range 320).filter (fun r => (s.otpRow r).single && !(s.otpRow r).bad)).length
      let t := s.setFld OTP_STAT_CORR_CNT (min n 255)
      let t := if n = 0 then t else t.setFld RPC_IMG_STAT_BOOT_FAULT 0x0D01
      let t := { t with boot := { t.boot with p2Restarts := 0, p2Since := none } }
      if s.otpFails then (({ t with boot := { t.boot with hold := .otp } }).bootFault 0x0D02).bootStat 4
      else
        let t := { t with boot := { t.boot with phase := 3, opt0 := (s.otpRow 128).data, rstMap := (s.otpRow 129).data } }
        let t := t.setFlag STM_STAT_REF_SRC t.refSel
        t.beginAttempt false
    else s)

/-- P2_RESTART (R116): a request during P2 from any source but POR and BOR. -/
def execP2Restart (source : Nat) (s : State) : Host.Outcome State Fault Refusal :=
  .next (if s.inPhase 2 && decide (2 ≤ source) && decide (source ≤ 8) then (s.noteCause source).restartP2 else s)

/-- P2_RESTART_WINDOW_END (R116): 100 ms after the first restart of the run. -/
def execP2RestartWindowEnd (s : State) : Host.Outcome State Fault Refusal :=
  .next (
    match s.boot.p2Since with
    | some a =>
      if a + 100000 * rcUs ≤ s.clk.rc ∧ s.boot.hold = .none then
        { s with boot := { s.boot with p2Restarts := 0, p2Since := none } }
      else s
    | none => s)

/-! ### P5 and P6 -/

/-- P5_BOND_DONE (R149, R109): the bond is in force, or its error recorded; a rejected one raises source 17. Without
a bond every block takes what an absent tile leaves (R141). FAULT_N stays
released until P6 (R112). Without a bond the ream length is the 3,600 s of R378 from the end of P5 on, and a length that changes so
closes the running ream as R28 has it for an applied bond (DEDUCED: log entry 33). -/
def execP5BondDone (s : State) : Host.Outcome State Fault Refusal :=
  .next (
    if s.inPhase 5 then
      let r := s.bondAtStart
      let t := r.1
      let t := { t with boot := { t.boot with phase := 6 }, pins := { t.pins with faultN := s.pins.faultN } }
      match r.2 with
      | none => t.bootStat 7
      | some e =>
        let t := ((t.setFld MTR_REAM_LEN_LEN t.bondReamLen).layPins.layMeasure).changeReamLen t.bondReamLen
        let t := { t with mtr := { t.mtr with metered := false } }
        let t := (t.bootFault 0x0D0B).bootStat 6
        onlyIf (e.reason != 0x30) (State.raise 17) t
    else s)

/-- The start sheet (R112): RST_CAUSE, the level performed, PRE_RST_FAULT. -/
def State.startSheet (s : State) : State :=
  s.sheet 0x1001 (leBytes 2 (s.fld RPC_RST_CAUSE_CAUSE) ++ leBytes 1 (s.fld RPC_RST_STAT_LAST_LEVEL) ++
    leBytes 2 (s.fld RPC_RST_STAT_PRE_RST_FAULT))

/-- The sheet of a boot fault of this start; that of 0x0D0B carries the bond error (R156). -/
def State.faultSheet (code : Nat) (s : State) : State :=
  if code = 0x0D0B then
    let e : BondErr := ⟨(s.reg BND_ERR).toNat / 2 ^ 24, (s.reg BND_ERR).toNat % 2 ^ 16, (s.reg BND_ERR_BYTE).toNat⟩
    let id := match s.startSlot with
      | some (k, x) =>
        let b := s.flashRead (slotBase k) x.length
        if (v1 b).isNone then some (u32 b 16) else none
      | none => none
    s.bondSheet code e id
  else s.sheet code []

/-- The boot faults P6 writes (R112): those of this start, or else the one BOOT_FAULT still holds from an earlier start; the
corrected errors counted in CORR_CNT have sheets of their own. -/
def State.heldFaults (s : State) : List Nat :=
  let last := s.fld RPC_IMG_STAT_BOOT_FAULT
  if !s.boot.faults.isEmpty then s.boot.faults
  else if last = 0 ∨ (last = 0x0D01 ∧ s.fld OTP_STAT_CORR_CNT ≠ 0) then []
  else [last]

/-- The types of Table — Sheet types, numbered from 0 (R393). -/
def tableType (k : Nat) : Nat :=
  if k < 3583 then 0x0101 + k
  else if k < 3590 then 0x1001 + (k - 3583)
  else if k < 3595 then 0x1010 + (k - 3590)
  else 0x1020 + (k - 3595)

/-- The sheet of a recovery through loader mode (R136, timeline). The spec gives it neither a type nor items: its items are a free
value, and its type a free one among those of the table (R393; DESIGN CHOICE, safe: log entry 19). -/
def State.recoverySheet (s : State) : State :=
  let r := s.takeFree 12
  let p := r.2.takeFree 336
  p.2.sheet (tableType (r.1 % 3599)) (leBytes 42 p.1)

/-- What P6 writes after the start sheet, in its order (R112, R99, R104, R391), and the lanes that failed the full test
(R202). -/
def State.startSheets (failed : List (Nat × Lane)) (s : State) : State :=
  let t := s.startSheet
  let t := forEach t.heldFaults State.faultSheet t
  let t := { t with boot := { t.boot with faults := [] } }
  let t := forEach (List.range (t.fld OTP_STAT_CORR_CNT)) (fun _ u => u.sheet 0x0D01 []) t
  let t := onlyIf s.boot.imageToFlash State.recoverySheet t
  let t := onlyIf (s.boot.level == 0) State.codeSheets t
  let t := t.evtSheets
  let t := forEach t.mtr.lost (fun b u => u.sheet 0x0A04 (leBytes 2 b.1 ++ leBytes 8 b.2.1.toNat ++ leBytes 1 b.2.2)) t
  let t := { t with mtr := { t.mtr with lost := [] } }
  forEach failed (fun f u => if f.1 < 16 ∧ u.role f.1 ≠ 0 then u.retireLane f.1 0x0311 f.2 else u) t

/-- What the device begins when it reaches Idle: seconds and grids are counted from here; the grid of a start runs since
the end of P5 (R274). Days are counted on, so that a midnight that passed meanwhile still has its sheets (R377; DEDUCED: log entry
33). -/
def State.reachIdle (s : State) : State :=
  let t := { s with boot := { s.boot with power := .active, phase := 7, hold := .none } }
  let t := { t with
    mtr := { t.mtr with histSec := some t.secNow, statDay := some (t.mtr.statDay.getD (t.secNow / 86400)) }
    cel := { t.cel with balSec := t.secNow } }
  if s.inPhase 6 then t else t.regrid

/-- P6_SERVICES_DONE (R112): the sheets, FAULT_N and the STAT balls, source 8; and what starts at the end of P6: housekeeping
(R286), the sweeps' grid (R321), UV supervision, the wait for an idle COURSE line (R113), the enumeration (R411), the journal of the watchdog (R460), source 485 after
a thermal shutdown, an alarm that waited (R101), and the flash rewrite of R134. -/
def execP6ServicesDone (failedLanes : List (Nat × Lane)) (s : State) : Host.Outcome State Fault Refusal :=
  .next (
    if s.inPhase 6 then
      let t := s.startSheets failedLanes
      let t := { t with pins := { t.pins with
        faultN := if t.flag SEQ_FAULT_ACTIVE then .low else if t.hasBond then .high else t.pins.faultN
        gpioReleased := !t.hasBond } }
      let t := t.bootStat (if t.hasBond then 7 else 6)
      let t := t.reachIdle
      let t := { t with
        msr := { t.msr with hkNext := some t.clk.core }
        cel := { t.cel with lastStart := some t.msCeil, lim := 16 }
        seq := { t.seq with idleFrom := if t.pins.courseHigh then some (t.clk.core + 2 * coreUs) else none }
        lnk := { t.lnk with enumAt := some (t.clk.core + 200000 * coreUs) } }
      let t := forEach [16, 17, 18] (fun r t => t.setFlag (SEQ_RAIL_STAT_UV_ARM r) (t.supervised r)) t
      let t := t.applyMargins.seqRefresh
      let t := t.raise 8
      let t := t.wdgJournal
      let t := onlyIf (bitsOf (t.fld RPC_RST_CAUSE_CAUSE) 7 1 == 1) (State.raise 485) t
      t.lateAlarm.rewriteFlash.driveInt
    else s)

/-! ### The end of a restart (R114) -/

/-- A restart of level `lvl` completes: the balls are driven again, the start sheet is written, what the restart broke off is
recorded; or a copy fails its check and the device escalates to an L1, which finds the restart still under way. -/
def State.restartDone (lvl : Nat) (copiesOk : Bool) (s : State) : State :=
  if s.boot.restart = some lvl ∧ s.boot.hold ≠ .resetN ∧ !s.boot.faults.contains 0x0D0C then
    if copiesOk then
      let wdg := s.boot.restartWdg
      let t := { s with boot := { s.boot with restart := none, restartWdg := false }
                        pins := { s.pins with hostReleased := false, gpioReleased := !s.hasBond } }
      let t := t.startSheet
      let t := t.bondRestarted
      let t := if lvl = 2 then { t with bnd := { t.bnd with staging := [] } } else t
      let t := t.endSession 11
      let t := t.wdgJournal
      (onlyIf wdg (State.newCycle false) t).refillQueue.driveInt
    else (s.bootFault 0x0D0C).requestReset 8 1 false
  else s

def execL2RestartDone (copiesOk : Bool) (s : State) : Host.Outcome State Fault Refusal := .next (s.restartDone 2 copiesOk)
def execL3RestartDone (copiesOk : Bool) (s : State) : Host.Outcome State Fault Refusal := .next (s.restartDone 3 copiesOk)

/-! ### OTP commands (R124 to R127) -/

/-- The read lock and the write lock of the region a row lies in (Table — OTP regions). -/
def otpLocks (row : Nat) : Fld × Fld :=
  if row < 128 then (OTP_LOCK_FAC_R, OTP_LOCK_FAC_W)
  else if row < 192 then (OTP_LOCK_OPT_R, OTP_LOCK_OPT_W)
  else if row < 320 then (OTP_LOCK_KEYS_R, OTP_LOCK_KEYS_W)
  else (OTP_LOCK_CUST_R, OTP_LOCK_CUST_W)

/-- The conditions of a program command (R124). -/
def State.otpConditions (s : State) : Bool :=
  s.idle && decide (1 ≤ s.fld STM_STAT_TBAND) && decide (s.fld STM_STAT_TBAND ≤ 5) && decide (6000 ≤ s.boot.vsys) &&
    (decide (s.boot.vpp ≤ 6000) || (decide (6350 ≤ s.boot.vpp) && decide (s.boot.vpp ≤ 6650)))

/-- The bit of OTP_CTRL a write breaks: the key stands against CMD = 0b10; a command while one runs. -/
def State.otpCtrlRefused (s : State) (w : Word) : Option Nat :=
  let cmd := bitsOf w.toNat 16 2
  if cmd = 2 ∧ bitsOf w.toNat 24 8 ≠ 0xA7 then some 16
  else if cmd ≠ 0 ∧ s.flag OTP_STAT_BUSY then some 16
  else none

/-- A command ends: RESULT, BUSY, source 9, and source 10 for a read with RESULT 1 or 2. -/
def State.otpEnd (result : Nat) (s : State) : State :=
  let t := (s.setFld OTP_STAT_RESULT result).setFld OTP_STAT_BUSY 0
  let t := { t with boot := { t.boot with otpCmd := none } }
  let t := t.raise 9
  if result = 1 ∨ result = 2 then t.raise 10 else t

/-- An accepted write of OTP_CTRL: a read, or a program command that R122, R127 or R124 refuses, or that runs. -/
def State.otpCtrlWritten (w : Word) (s : State) : State :=
  let row := bitsOf w.toNat 0 9
  let run (program : Bool) : State :=
    { s.setFld OTP_STAT_BUSY 1 with boot := { s.boot with otpCmd := some ⟨program, row, s.reg OTP_WDATA⟩ } }
  match bitsOf w.toNat 16 2 with
  | 1 => run false
  | 2 =>
    if (130 ≤ row ∧ row < 192) ∨ (208 ≤ row ∧ row < 320) ∨ s.flag (otpLocks row).2 then s.otpEnd 4
    else if !s.otpConditions then s.otpEnd 6
    else run true
  | _ => s

/-- OTP_COMMAND_DONE (R125, R127): `failedBit` names the bit still 0 after three pulses; bits before it are programmed. -/
def execOtpCommandDone (failedBit : Option Nat) (s : State) : Host.Outcome State Fault Refusal :=
  .next (
    match s.boot.otpCmd with
    | none => s
    | some c =>
      if c.program then
        if s.boot.otp.any (fun r => decide (r.1 = c.row)) then s.otpEnd 5
        else if c.data = 0 then s.otpEnd 0
        else match failedBit with
          | none => ({ s with boot := { s.boot with otp := putPair s.boot.otp c.row ⟨c.data, false, false⟩ } }).otpEnd 0
          | some k =>
            if (List.range (min k 39)).any (fun i => c.data.getLsbD i || decide (32 ≤ i)) then (s.partialRow c.row (BitVec.ofNat 32 (c.data.toNat % 2 ^ min k 32))).otpEnd 7
            else s.otpEnd 7
      else
        let r := s.otpRow c.row
        if s.flag (otpLocks c.row).1 then (s.setReg OTP_RDATA 0).otpEnd 3
        else if r.bad then (s.setReg OTP_RDATA 0).otpEnd 2
        else (s.setReg OTP_RDATA r.data).otpEnd (if r.single then 1 else 0))

/-- OTP_CONDITION_LOST (R126): `pulses` have been given, the one in progress included. -/
def execOtpConditionLost (pulses : Nat) (s : State) : Host.Outcome State Fault Refusal :=
  .next (
    match s.boot.otpCmd with
    | some c => if c.program then (s.cutRow c pulses).otpEnd 6 else s
    | none => s)

/-! ### Lock and Standby -/

/-- A latch's source is raised with its stamp; an edge that came twice sets AGAIN before it is delivered, which clears it with
PEND where the destination clears PEND (R439, R445). -/
def State.raiseLatched (src : Nat) (stamp : Time) (twice : Bool) (s : State) : State :=
  let t := onlyIf twice (State.setFld · (ICU_SRC_AGAIN src) 1) (s.markPend src stamp)
  if s.flag (ICU_SRC_PEND src) then t else (State.afterFull (t.offer src)).driveInt

/-- The sources caught in Standby are raised (R445). -/
def State.raiseCaught (s : State) : State :=
  let t := forEach s.icu.latchStamps.reverse (fun l t => t.raiseLatched (latchSource l.1) l.2 (s.icu.again.contains l.1)) s
  { t with icu := { t.icu with armed := false, again := [], latchStamps := [] } }

/-- The device leaves Standby: Idle, a fresh cycle of the watchdog (R456) where no failure has stopped it (R457), the caught
sources, source 5, and what the backup domain owes once sheets are written again (R104). -/
def State.leaveStandby (s : State) : State :=
  let t := s.reachIdle
  let t := onlyIf (t.wdg.armed && !t.wdg.stopped) (State.newCycle false) t
  (t.raiseCaught.raise 5).evtSheets.lateAlarm.driveInt

/-- PLL_LOCK (R58, R64, R69, R71, R445): a lock attempt whose reference has qualified succeeds. Forwarded interrupts that no port could
carry while CLK_EDGE stood still leave (R59, R440). -/
def execPllLock (s : State) : Host.Outcome State Fault Refusal :=
  .next (
    if s.clk.attemptAt.isSome && s.clk.qualifiedAt.isSome then
      let t := s.lockClocks.seedAtLock
      if s.boot.power == .standby then t.leaveStandby
      else if s.inPhase 3 then t.beginP4
      else onlyIf s.active State.forwardStuck t
    else s)

/-- GLB_PWR_CTRL: another key with STANDBY breaks a cross-field rule. -/
def pwrCtrlRefused (w : Word) : Option Nat :=
  if w.getLsbD 0 ∧ bitsOf w.toNat 24 8 ≠ 0x5B then some 0 else none

/-- The conditions of Standby (R444). -/
def State.standbyAllowed (s : State) : Bool :=
  s.idle && !s.sessionOpen && !s.relayInProgress && !s.updating &&
    (List.range 4).all (fun k => s.fld (MTR_COUCH_STAT_STATE k) != 1) && (List.range 13).any s.latchArmed

/-- An accepted write of GLB_PWR_CTRL (R444): the latches arm at once, those of the last Standby are forgotten. -/
def State.pwrCtrlWritten (w : Word) (s : State) : State :=
  if w.getLsbD 0 then
    if s.standbyAllowed then
      let t := s.setReg ICU_LATCH 0
      { t with icu := { t.icu with armed := true, again := [], latchStamps := [] } }
    else s.flagRaise GLB_STAT_PWR_REF_EV 1
  else s

/-- STANDBY_ENTER (R444): the journal has drained; CLK_ROOT and the crystal stop. -/
def execStandbyEnter (s : State) : Host.Outcome State Fault Refusal :=
  .next (
    if s.icu.armed && s.idle && s.jnl.queue.isEmpty then
      let t := { s with boot := { s.boot with power := .standby }
                        clk := { s.clk with onRc := true, attemptAt := none, qualifiedAt := none }
                        mtr := { s.mtr with resume := some 0xFF } }
      t.setFld STM_STAT_PLL_LOCKED 0
    else s)

/-- SYSTIME at the first RC tick after an event in Standby, which stamps it (R77). -/
def State.nextRc (s : State) : Time := ((s.clk.acc + 450359963#128) >>> 24).setWidth 64

/-- WAKE_LATCH_EDGE (R444, R445): in Standby an armed latch catches and stamps its edge, and the first ends Standby; before the
clocks have stopped it cancels the request and is raised as in Idle. -/
def execWakeLatchEdge (latch : Nat) (s : State) : Host.Outcome State Fault Refusal :=
  .next (
    if s.icu.armed && s.latchArmed latch then
      if s.boot.power == .standby then
        if bitsOf (s.reg ICU_LATCH).toNat latch 1 = 1 then { s with icu := { s.icu with again := latch :: s.icu.again } }
        else
          let t := s.setReg ICU_LATCH (s.reg ICU_LATCH ||| maskAt latch 1)
          let t := { t with icu := { t.icu with latchStamps := (latch, s.nextRc) :: t.icu.latchStamps } }
          if s.clk.attemptAt.isSome then t
          else ({ t with clk := { t.clk with seedFor := 3 } }).beginAttempt false
      else if s.active then ({ s with icu := { s.icu with armed := false } }).raise (latchSource latch)
      else s
    else s)

end Sys2Proof.Machine
end

