-- ==== Sys2Proof/Machine/Dist.lean ====
section
/-! DEFINITION. Bond and image distribution over the link (R421, R422). -/
namespace Sys2Proof.Machine

/-! ### Sending -/

/-- CLK_CORE ticks from one DIST_DATA frame to the next: 8,323 frames in 45.6 ms (Table — Link figures). -/
def distPitch : Nat := 1315

/-- One frame of a distribution in its MODE: to one address, out of one port, or to the string or the system. -/
def State.castDist (type mode target : Nat) (payload : List Byte) (s : State) : State :=
  match mode with
  | 0 => s.sendTo type target 0 payload
  | 1 => s.emit target type 0x1000 (s.eventNo type) false payload
  | _ => s.send type mode false payload

/-- The next DIST_DATA frame; the answer is none once the last one has left. -/
def State.castNext (d : Sending) (s : State) : State × Option Sending :=
  let t := s.castDist 0x61 d.mode d.target (leBytes 4 d.offset ++ d.rest.take 252)
  (t, if (d.rest.drop 252).isEmpty then none
    else some { d with rest := d.rest.drop 252, offset := d.offset + 252, last := s.clk.core })

/-- The last frame of the own distribution has left: the answers are counted for 200 ms from here. -/
def State.beginCollect (s : State) : State :=
  { s.setFld LNK_DIST_STAT_STATE 2 with lnk := { s.lnk with sending := none, distAt := s.clk.core } }

/-- DIST_DATA frames that are due leave. No row names them: they happen with the passing of time. -/
def State.distFrames (s : State) : State :=
  let t := match s.lnk.sending with
    | some d =>
      if d.last + distPitch ≤ s.clk.core then
        let r := s.castNext d
        match r.2 with
        | some e => { r.1 with lnk := { r.1.lnk with sending := some e } }
        | none => r.1.beginCollect
      else s
    | none => s
  match t.lnk.serve with
  | some d =>
    if d.last + distPitch ≤ t.clk.core then
      let r := t.castNext d
      { r.1 with lnk := { r.1.lnk with serve := r.2 } }
    else t
  | none => t

/-- The bit of LNK_DIST_CTRL a write breaks (R427): reserved encodings of WHAT and MODE; APPLY and STORE against WHAT, STORE
against APPLY; a GO while STATE is not 0. -/
def State.distCtrlRefused (s : State) (w : Word) : Option Nat :=
  let what := bitsOf w.toNat 28 2
  let mode := bitsOf w.toNat 12 4
  if mode ≠ 0 ∧ mode ≠ 2 ∧ mode ≠ 3 then some 12
  else if w.getLsbD 26 ∧ !w.getLsbD 27 then some 26
  else if what = 2 ∧ (w.getLsbD 26 ∨ w.getLsbD 27) then some (if w.getLsbD 26 then 26 else 27)
  else if what = 3 then some 28
  else if w.getLsbD 31 ∧ s.fld LNK_DIST_STAT_STATE ≠ 0 then some 31
  else none

/-- What a GO sends: the bond in force, the pending bond of the slot not in use, the image in flash. -/
def State.distBytes (s : State) (what : Nat) : List Byte :=
  match what with
  | 0 => s.bnd.bytes
  | 1 => match s.pendingSeal with
    | some e => s.flashRead (slotBase s.otherSlot) e.length
    | none => []
  | _ => s.flashImage

/-- DIST_START of `bs`. -/
def State.castStart (image apply store : Bool) (mode target : Nat) (bs : List Byte) (s : State) : State :=
  s.castDist 0x60 mode target (leBytes 1 (bit image) ++ leBytes 1 (bit apply) ++ leBytes 1 (bit store) ++ leBytes 1 0 ++
    leBytes 4 bs.length)

/-- An accepted write of LNK_DIST_CTRL: ABORT stops sending and frees the register; GO sends DIST_START. -/
def State.distCtrlWritten (w : Word) (s : State) : State :=
  let what := bitsOf w.toNat 28 2
  let mode := bitsOf w.toNat 12 4
  let dest := bitsOf w.toNat 0 12
  let t := if w.getLsbD 30 then
      ({ s with lnk := { s.lnk with sending := none } }).setFld LNK_DIST_STAT_STATE 0
    else s
  if w.getLsbD 31 ∧ !w.getLsbD 30 then
    let bs := t.distBytes what
    let t := { t with lnk := { t.lnk with distImage := what == 2 } }
    let t := (t.setReg LNK_DIST_STAT 0).castStart (what == 2) (w.getLsbD 27) (w.getLsbD 26) mode dest bs
    if bs.isEmpty then t.beginCollect
    else { t.setFld LNK_DIST_STAT_STATE 1 with lnk := { t.lnk with sending := some ⟨bs, 0, mode, dest, s.clk.core⟩ } }
  else t

/-- The RESULT of a receiver says success: of an image 0; of a bond accepted, stored, or staged and not applied. -/
def distOk (image : Bool) (result : Nat) : Bool := if image then result == 0 else result == 0 || result == 1 || result == 6

/-- DIST_RESULT (R421): a receiver's answer is counted until the collection ends. -/
def execDistResult (source : BitVec 12) (result : Byte) (s : State) : Host.Outcome State Fault Refusal :=
  let _ := source
  .next (
    if s.linked && (s.fld LNK_DIST_STAT_STATE == 1 || s.fld LNK_DIST_STAT_STATE == 2) then
      s.bump (if distOk s.lnk.distImage result.toNat then LNK_DIST_STAT_OK_CNT else LNK_DIST_STAT_FAIL_CNT)
    else s)

/-- DIST_COLLECT_END (R421, R425, R426). -/
def execDistCollectEnd (s : State) : Host.Outcome State Fault Refusal :=
  .next (
    if s.fld LNK_DIST_STAT_STATE = 2 ∧ s.lnk.distAt + 200000 * coreUs ≤ s.clk.core then
      let t := s.setFld LNK_DIST_STAT_STATE 3
      let t := if s.fld LNK_DIST_STAT_FAIL_CNT = 0 then t else t.sheet 0x0B30 []
      t.raise 681
    else s)

/-- IMG_REQ (R422): the image in flash is served in neighbour mode on the port that asked. -/
def execImgReq (port : BitVec 2) (s : State) : Host.Outcome State Fault Refusal :=
  .next (
    if s.active && s.portOn port.toNat && s.t8 0xB 0 4 0 == 1 && s.fld RPC_UPD_STAT_STATE != 1 && s.lnk.serve.isNone then
      let bs := s.flashImage
      let t := s.castStart true false false 1 port.toNat bs
      { t with lnk := { t.lnk with serve := some ⟨bs, 0, 1, port.toNat, s.clk.core⟩ } }
    else s)

/-! ### Receiving -/

/-- The link's bond distribution is accepted (R151); without a link tile it is (R141). -/
def State.bondFromLink (s : State) : Bool := s.t8 0xB 0 5 1 == 1

/-- A bond begins to arrive: refused where the bond in force takes none, busy where the buffer or the loader is taken,
rejected where more than 65,536 bytes are offered (reason 0x04, R147). -/
def State.startBond (d : Dist) (s : State) : State :=
  let answer (r : Nat) (t : State) : State := t.sendTo 0x62 d.sender 0 (leBytes 1 r ++ leBytes 3 0)
  if !s.bondFromLink then answer 3 s
  else if s.fld BND_STAT_OWNER = 1 ∨ s.fld BND_STAT_STATE ≠ bndIdle then answer 4 s.bondBusy
  else
    let t := ((s.setFld BND_STAT_RESULT 0).setFld BND_STAT_STATE bndReceiving).setFld BND_STAT_RECEIVED 0
    let t := { t with
      bnd := { t.bnd with
        src := 1, storeOnly := true, storeAfter := false, linkReq := some d.sender, wordAt := s.clk.core
        offer := [], accepted := none }
      lnk := { t.lnk with dist := if 65536 < d.length then none else some d } }
    if 65536 < d.length then t.rejectBond ⟨0x04, 0, 0x1C⟩ else t

/-- The number of blocks an image distribution announces, where it is one an image can have (R130). -/
def distBlocks (length : Nat) : Option Nat :=
  if length % blockSize = 0 ∧ 2 ≤ length / blockSize ∧ length / blockSize ≤ 512 then some (length / blockSize) else none

/-- DIST_START (R421, R134, R409): a bond in normal operation; an image there or in loader mode, one at a time, by LNK_A or LNK_B
(R422). -/
def execDistStart (source : FrameHead) (image apply store : Bool) (length : Word) (s : State) :
    Host.Outcome State Fault Refusal :=
  let d : Dist := ⟨image, apply, store, source.address.toNat, length.toNat, 0⟩
  .next (
    if s.loaderMode && image && s.portOn source.port.toNat && !s.loaderLinkOff && s.fld RPC_UPD_STAT_STATE != 1 && decide (source.port.toNat < 2) then
      match distBlocks length.toNat with
      | some n =>
        let t := { s with boot := { s.boot with loaderPort := source.port.toNat, loaderFrameAt := s.clk.core }
                          lnk := { s.lnk with dist := some d } }
        t.updBegin n true
      | none => s
    else if s.takesIn source then
      let s := s.relay source 0x60 source.address.toNat false
        (leBytes 1 (bit image) ++ leBytes 1 (bit apply) ++ leBytes 1 (bit store) ++ leBytes 1 0 ++ leBytes 4 length.toNat)
      if s.unaddressed || s.boot.restart.isSome then s
      else if image then
        if s.fld RPC_UPD_STAT_STATE = 1 then s
        else match distBlocks length.toNat with
          | some n => ({ s with lnk := { s.lnk with dist := some d } }).updBegin n true
          | none => s
      else s.startBond d
    else s)

/-- The bond is whole (R421, R426): with APPLY the re-lay of R152, else it waits in staging and is answered. -/
def State.bondArrived (d : Dist) (s : State) : State :=
  let t := ((s.setFld BND_STAT_STATE bndIdle).setFld BND_STAT_STAGED 1).raise 682
  let t := { t with lnk := { t.lnk with dist := none } }
  if d.apply then t.requestRelay 1 d.store (some d.sender) else t.answerDist

/-- DIST_DATA (R421, R151, R136, R409): the bytes that follow those taken from the sender of the distribution, of a bond while the
loader still receives from the link; any other frame only goes on (R405), and an own one come back not even that (R408). -/
def execDistData (offset : Framed Word) (bytes : List Byte) (flashError : Bool) (s : State) :
    Host.Outcome State Fault Refusal :=
  let takes := s.portOn offset.head.port.toNat && s.boot.restart.isNone &&
    ((s.loaderMode && offset.head.port.toNat == s.boot.loaderPort) || (s.takesIn offset.head && !s.unaddressed))
  let s := s.passOn offset.head 0x61 offset.head.address.toNat false (leBytes 4 offset.body.toNat ++ bytes)
  .next (
    match s.lnk.dist with
    | none => s
    | some d =>
      let bs := bytes.take (min 252 (d.length - d.got))
      if !takes || d.sender != offset.head.address.toNat || d.got != offset.body.toNat || bs.isEmpty then s
      else
        let e := { d with got := d.got + bs.length }
        let t := { s with lnk := { s.lnk with dist := some e } }
        if d.image then
          if s.fld RPC_UPD_STAT_STATE ≠ 1 then s
          else
            let t := { t with boot := { t.boot with loaderFrameAt := s.clk.core } }
            let t := onlyIf (decide (e.length ≤ e.got)) (State.raise 682) t
            t.updTake bs flashError
        else if s.fld BND_STAT_STATE ≠ bndReceiving ∨ s.bnd.src ≠ 1 then { s with lnk := { s.lnk with dist := none } }
        else
          let r := t.stageBytes 2 bs
          match r.2 with
          | none => r.1
          | some (some x) => ({ r.1 with lnk := { r.1.lnk with dist := none } }).rejectBond x
          | some none => r.1.bondArrived e)

end Sys2Proof.Machine
end

