-- ==== Sys2Proof/Machine/Bus.lean ====
section
/-! DEFINITION. Register access (R6 to R10, R428, R429): the address map, what each accepted write does beside storing its
word, what a write breaks, and what each read freezes (R81, R88, R285, R291, R330, R387). -/
namespace Sys2Proof.Machine

/-! ### Windows and bus errors -/

/-- A window of Table — Address map. -/
inductive Area where
  | regs | sram | point | couch
deriving DecidableEq, Repr

/-- The window an address lies in. -/
def windowOf (a : Nat) : Option Area :=
  let page := a / 0x10000
  if page ≤ 5 ∨ page = 0x10 ∨ (0x12 ≤ page ∧ page ≤ 0x1D) then some .regs
  else if 0x40 ≤ page ∧ page ≤ 0x43 then some .sram
  else if 0x800000 ≤ a ∧ a < 0x808000 then some .point
  else if 0x808000 ≤ a ∧ a < 0x828000 then some .couch
  else none

/-- The path is carried out at all: the ports answer from P4 on, not in Standby and not during an L2 (R430, R444); the link in
Idle and Run, with an address, outside a restart (R417); the supervisor processor while it runs. -/
def State.answers (s : State) (p : Path) : Bool :=
  match p with
  | .spi | .i2c => (s.active || (s.boot.power == .starting && decide (4 ≤ s.boot.phase))) && s.boot.restart != some 2
  | .link => s.linked && s.boot.restart.isNone
  | .sup => s.supervisorRuns
  | .svc0 | .svc1 => s.supervisorRuns && s.boot.restart != some 3

/-- A block that does not answer on the host ports yet (R111). -/
def State.early (s : State) (p : Path) (a : Nat) : Bool :=
  (p == .spi || p == .i2c) && s.boot.power == .starting && decide (s.boot.phase < 6) && decide (2 < a / 0x10000)

/-- The KIND of BUS_ERR an access causes (Table — Bus error kinds); KIND 1 before KIND 3 (DEDUCED: log
entry 21). -/
def State.busFault (s : State) (p : Path) (write : Bool) (a : Nat) : Option Nat :=
  if a % 4 ≠ 0 then some 1
  else match windowOf a with
    | none => some 3
    | some w =>
      if s.early p a then some 4
      else if write && (w == .sram || w == .couch || (w == .point && !isUserPoint ((a - 0x800000) / 4))) then some 5
      else none

/-! ### What a write breaks -/

/-- Whether `a` is one of `count` registers from `base`, `stride` apart. -/
def isArr (base stride count a : Nat) : Bool :=
  decide (base ≤ a) && decide ((a - base) % stride = 0) && decide ((a - base) / stride < count)

/-- The lower of two answers. -/
def lowest : Option Nat → Option Nat → Option Nat
  | some a, some b => some (min a b)
  | some a, none => some a
  | none, b => b

/-- `some k` where `c` holds. -/
def when (c : Bool) (k : Nat) : Option Nat := if c then some k else none

/-- A field that a write can change. -/
def FieldSpec.writable (f : FieldSpec) : Bool := f.kind != .ro

/-- The lowest bit of a register's lowest writable field. -/
def lowestWritable (a : Nat) : Option Nat :=
  (fieldsOf a).foldl (fun acc f => if f.writable then lowest acc (some f.lo) else acc) none

/-- Bits 31 to 24 repeat bit 23. -/
def signRepeated (w : Word) : Bool := bitsOf w.toNat 24 8 == (if w.getLsbD 23 then 255 else 0)

/-- A key in bits 31 to 24. -/
def keyIs (w : Word) (k : Nat) : Bool := bitsOf w.toNat 24 8 == k

def State.stmRefused (s : State) (a : Nat) (w : Word) : Option Nat :=
  if a = STM_CTRL then when (w.getLsbD 0 && s.setGoRefused) 0
  else if a = STM_INC then when (s.fld STM_STAT_TSTATE != 0 || !s.incInRange w.toNat) 0
  else none

def State.bkdRefused (s : State) (a : Nat) (w : Word) : Option Nat :=
  if a = RTC_CTRL then when (bitsOf w.toNat 0 2 != 0 && s.bkd.commit.isSome) 0
  else if a = RTC_ALM_LO ∨ a = RTC_ALM_HI then when (s.flag RTC_CTRL_ALM_EN) 0
  else none

/-- R185, R186, and the SIGN byte. -/
def State.brkRefused (s : State) (a : Nat) (w : Word) : Option Nat :=
  let n := a / 0x1000 % 16
  let o := a % 0x1000
  if s.brkRestricted n o then lowestWritable a
  else if (0x100 ≤ o ∧ o ≤ 0x120) ∨ o = 0x128 ∨ o = 0x12C then when (!signRepeated w) 24
  else if o = 0x38 then when (w.getLsbD 0 && !s.stagedOk n) 0
  else none

def State.seqRefused (s : State) (a : Nat) (w : Word) : Option Nat :=
  let _ := s
  if a = SEQ_CTRL then
    if keyIs w 0x5C then none else lowest (when (w.getLsbD 0) 0) (lowest (when (w.getLsbD 1) 1) (when (w.getLsbD 3) 3))
  else if isArr (SEQ_RAIL_WIN 0) 0x10 21 a then when (decide (bitsOf w.toNat 16 10 ≤ bitsOf w.toNat 0 10)) 0
  else if isArr (SEQ_RAIL_MRG 16) 0x10 3 a then when (bitsOf w.toNat 0 8 != 0) 0
  else if isArr (SEQ_RAIL_MRG 0) 0x10 21 a then when (bitsOf w.toNat 0 8 == 0x80) 0
  else none

def State.msrRefused (s : State) (a : Nat) (w : Word) : Option Nat :=
  if a = MSR_CTRL then when (w.getLsbD 0 && s.flag MSR_OW_STAT_BUSY) 0
  else if a = MSR_TDAC then when (s.tdacRefused w) 16
  else if a = MSR_OW_CFG then
    lowest (when (decide (bitsOf w.toNat 8 6 < bitsOf w.toNat 0 6)) 0) (when (decide (s.cells < bitsOf w.toNat 8 6)) 8)
  else if MSR_DMA_CFG 0 ≤ a ∧ a < MSR_DMA_CFG 0 + 0x200 then
    let k := (a - MSR_DMA_CFG 0) / 0x20
    match (a - MSR_DMA_CFG 0) % 0x20 with
    | 0 => s.dmaCfgRefused k w
    | 0x8 => when (s.flag (MSR_DMA_CFG_EN k) || bitsOf w.toNat 0 2 != 0) 0
    | 0x10 => when (s.flag (MSR_DMA_CFG_EN k) || bitsOf w.toNat 0 3 != 0) 0
    | _ => when (s.flag (MSR_DMA_CFG_EN k)) 0
  else none

def State.celRefused (s : State) (a : Nat) (w : Word) : Option Nat :=
  if a = CEL_CTRL then when (w.getLsbD 2 && !keyIs w 0xCE) 2
  else if a = CEL_BAL_MAN then when (decide (2 ^ s.cells ≤ w.toNat)) 0
  else none

def State.lnkRefused (s : State) (a : Nat) (w : Word) : Option Nat :=
  if a = LNK_CTRL then when (w.getLsbD 0 && (!keyIs w 0xA1 || s.enumRefused)) 0
  else if a = LNK_RA_CTRL then
    lowest (when (bitsOf w.toNat 29 2 == 2 && bitsOf w.toNat 18 6 == 0) 18) (when (w.getLsbD 31 && s.raRefused w) 24)
  else if a = LNK_DIST_CTRL then s.distCtrlRefused w
  else none

def State.wdgRefused (s : State) (p : Path) (a : Nat) (w : Word) : Option Nat :=
  if a = WDG_CTRL then
    if keyIs w 0x3D then when (w.getLsbD 0 && s.armRefused) 0
    else lowest (when (w.getLsbD 0) 0) (when (w.getLsbD 1) 1)
  else if a = WDG_WIN then when (decide (bitsOf w.toNat 0 16 ≤ bitsOf w.toNat 16 16)) 0
  else if a = WDG_CHECKIN then when (s.checkinRefused p (bitsOf w.toNat 16 4)) 16
  else none

/-- The lowest bit of the field that a write of `w` at `a` offends by a rule of the block that deals with more than one field
or with the block's state; reserved encodings are the field table's. -/
def State.refused (s : State) (p : Path) (a : Nat) (w : Word) : Option Nat :=
  match a / 0x10000 with
  | 0x0 => if a = GLB_PWR_CTRL then pwrCtrlRefused w else none
  | 0x1 => if a = RPC_UPD_CTRL then s.updCtrlRefused w else if a = RPC_UPD_DATA then when s.updDataRefused 0 else none
  | 0x2 => if a = OTP_CTRL then s.otpCtrlRefused w else none
  | 0x3 => s.stmRefused a w
  | 0x4 => s.bkdRefused a w
  | 0x5 => if a = BND_CTRL then s.bndCtrlRefused w else if a = BND_DATA then when s.bndDataRefused 0 else none
  | 0x10 => s.brkRefused a w
  | 0x12 => if a = VCP_CTRL then when (w.getLsbD 1 && s.vcpActive) 1 else none
  | 0x13 => s.seqRefused a w
  | 0x14 => s.msrRefused a w
  | 0x16 => s.celRefused a w
  | 0x17 => if a = CPM_CTRL then when (w.getLsbD 0 && w.getLsbD 1) 0 else none
  | 0x18 =>
    if a = MTR_CTRL then when (w.getLsbD 0 && !keyIs w 0x4D) 0
    else if a = MTR_COUCH_CTRL then when (w.getLsbD 0 && bitsOf w.toNat 4 4 != 0) 0
    else none
  | 0x1A => s.lnkRefused a w
  | 0x1B =>
    if ICU_SRC 0 ≤ a ∧ a ≤ ICU_SRC 1023 then when (bitsOf w.toNat 8 3 == 4 && (s.tile 0xB 0).isNone) 8 else none
  | 0x1C => s.wdgRefused p a w
  | _ => none

/-! ### What an accepted write does -/

/-- What the event that carries a write tells beside it: the processors' program counters at a check-in, whether FAULT_CLR is
blocked, whether the flash failed. Where it does not tell, the value is free (log entry 21). -/
structure Side where
  pc : Option (Word × Word × Word × Word)
  blocked : Option Bool
  flashError : Option Bool
deriving DecidableEq, Repr

def Side.untold : Side := ⟨none, none, none⟩

/-- A bit told, or a free one. -/
def State.told (s : State) (b : Option Bool) : Bool × State :=
  match b with
  | some v => (v, s)
  | none =>
    let r := s.takeFree 1
    (r.1 == 1, r.2)

/-- The program counters told, or free ones. -/
def State.toldPc (s : State) (pc : Option (Word × Word × Word × Word)) : (Word × Word × Word × Word) × State :=
  match pc with
  | some v => (v, s)
  | none =>
    let a := s.takeFree 32
    let b := a.2.takeFree 32
    let c := b.2.takeFree 32
    let d := c.2.takeFree 32
    ((BitVec.ofNat 32 a.1, BitVec.ofNat 32 b.1, BitVec.ofNat 32 c.1, BitVec.ofNat 32 d.1), d.2)

/-- The request goes to every device of the system, and the count of the answers begins (R419). -/
def State.couchSend (id : Nat) (t : Time) (s : State) : State :=
  let u := (s.setReg LNK_COUCH_SUM 0).setReg LNK_COUCH_REF 0
  let u := { u with lnk := { u.lnk with couchAt := some s.clk.core, couchId := id } }
  let u := u.send 0x40 3 false (leBytes 2 id ++ leBytes 2 0 ++ leBytes 8 t.toNat)
  if u.couchComplete then u.couchDone else u

/-- A couch request at this device (R388, R419): on a keystone of an enumerated link it goes to every device. -/
def State.couchGo (id : Nat) (s : State) : State :=
  if s.fld STM_STAT_TSTATE ≠ 0 then s.couchResult 5 0
  else
    let t : Time := BitVec.ofNat 64 ((s.reg MTR_COUCH_T_LO).toNat + 2 ^ 32 * (s.reg MTR_COUCH_T_HI).toNat)
    let r := s.couchRequest true id t
    let u := r.2.couchResult r.1.1 r.1.2
    if r.1.1 == 1 && s.isKeystone && !s.unaddressed then u.couchSend id t else u

/-- FREE (R391, R419): the banks named are freed; a keystone sends the IDs of those it freed. -/
def State.couchFree (banks : Nat) (s : State) : State :=
  let l := (List.range 4).filter (fun k => bitsOf banks k 1 == 1 && s.fld (MTR_COUCH_STAT_STATE k) != 0)
  let t := forEach l State.freeBank s
  if s.isKeystone && !s.unaddressed && !l.isEmpty then
    t.send 0x42 3 false (leBytes 1 l.length ++ leBytes 1 0 ++ (l.map (fun k => leBytes 2 (s.fld (MTR_COUCH_STAT_ID k)))).flatten)
  else t

/-- The source of a target write (R167): the link, or the host's path. -/
def targetSrc : Path → Nat
  | .link => 3
  | _ => 2

def State.brkWritten (p : Path) (a : Nat) (w : Word) (s : State) : State :=
  let n := a / 0x1000 % 16
  let o := a % 0x1000
  if o = 0x18 then s.writeTarget n (w.getLsbD 16) (bitsOf w.toNat 0 16) (targetSrc p)
  else if 0x100 ≤ o ∧ o ≤ 0x12C then s.stage n a (w &&& maskOf FieldSpec.writable (fieldsOf a))
  else if o = 0x38 then onlyIf (w.getLsbD 0) (State.commitCoefs n) (onlyIf (w.getLsbD 1) (State.brkCntClr n) s)
  else if o = 0x220 ∨ o = 0x224 ∨ o = 0x228 then
    let t := if o = 0x224 then s.updBrick n (fun b => { b with window := [], avgFrom := s.clk.core }) else s
    if switching (t.brkState n) then t else t.takeLimits n
  else if o = 0x2F0 then onlyIf (w.getLsbD 0) (State.lcntClr n) (onlyIf (w.getLsbD 1) (State.retryRst n) s)
  else s

/-- SEQ_CTRL, its bits in rising order. -/
def State.seqWritten (a : Nat) (w : Word) (side : Side) (s : State) : State :=
  if a = SEQ_CTRL then
    let t := if w.getLsbD 0 then
        let b := s.told side.blocked
        b.2.faultClr b.1
      else s
    onlyIf (w.getLsbD 3) State.lineClr (onlyIf (w.getLsbD 2) State.seqCntClr (onlyIf (w.getLsbD 1) State.requestRejoin t))
  else if a = SEQ_CMD then s.seqCmd w
  else if isArr (SEQ_RAIL_MRG 0) 0x10 21 a then s.applyMargins
  else s

def State.msrWritten (a : Nat) (old w : Word) (s : State) : State :=
  if a = MSR_CTRL then
    onlyIf (w.getLsbD 0) State.owGo (onlyIf (w.getLsbD 1) State.owAbort (onlyIf (w.getLsbD 2) State.msrCntClr s))
  else if a = MSR_CELL_CFG then { s with msr := { s.msr with cellCount := 0 } }
  else if a = MSR_TDAC then s.tdacWritten
  else if isArr (MSR_DMA_CFG 0) 0x20 16 a then s.dmaCfgWritten ((a - MSR_DMA_CFG 0) / 0x20) (old.getLsbD 31)
  else s

def State.mtrWritten (a : Nat) (w : Word) (s : State) : State :=
  if a = MTR_CTRL then (if w.getLsbD 0 then s.clearHist.clearExtremes else s)
  else if a = MTR_COUCH_CTRL then
    let t := if w.getLsbD 0 then s.couchGo (bitsOf w.toNat 16 16) else s
    if bitsOf w.toNat 4 4 = 0 then t else t.couchFree (bitsOf w.toNat 4 4)
  else s

def State.lnkWritten (a : Nat) (w : Word) (s : State) : State :=
  if a = LNK_CTRL then
    onlyIf (w.getLsbD 0) State.startEnum (onlyIf (w.getLsbD 1) State.lnkCntClr (onlyIf (w.getLsbD 2) State.lnkFwdPop s))
  else if a = LNK_RA_CTRL then onlyIf (w.getLsbD 31) (State.raGo w) s
  else if isArr (LNK_RA_STAT 0) 4 32 a then onlyIf (w.getLsbD 26) (State.raFree ((a - LNK_RA_STAT 0) / 4)) s
  else if a = LNK_DIST_CTRL then s.distCtrlWritten w
  else s

def State.icuWritten (a : Nat) (w : Word) (s : State) : State :=
  if a = ICU_DOORBELL then s.ringDoorbell (bitsOf w.toNat 0 10)
  else if a = ICU_CTRL then (onlyIf (w.getLsbD 1) State.icuPopHead s).driveInt
  else if isArr (ICU_HOLD 0) 4 32 a then s.holdWritten ((a - ICU_HOLD 0) / 4)
  else if isArr (ICU_SRC 0) 4 1024 a then s.srcWritten ((a - ICU_SRC 0) / 4) w
  else s

def State.wdgWritten (p : Path) (a : Nat) (w : Word) (side : Side) (s : State) : State :=
  if a = WDG_CTRL then
    onlyIf (w.getLsbD 0 && !s.hwStart) State.arm (onlyIf (w.getLsbD 1) State.evidClr s)
  else if a = WDG_CHECKIN then
    let r := s.toldPc side.pc
    r.2.checkin p (bitsOf w.toNat 16 4) (bitsOf w.toNat 0 16) r.1
  else s

def State.bkdWritten (a : Nat) (w : Word) (s : State) : State :=
  if a = RTC_CTRL then s.commitWritten (bitsOf w.toNat 0 2)
  else if a = EVT_STAT then
    onlyIf (w.getLsbD 16) (State.setFld · EVT_STAT_OVF_CNT 0) (onlyIf (w.getLsbD 17) State.evtPop s)
  else s

/-- GPIO outputs of pins whose FUNC is not 2 read 0 (R446). -/
def State.hstWritten (a : Nat) (w : Word) (s : State) : State :=
  if a = HST_CTRL then (if w.getLsbD 2 then s.setReg HST_CNT 0 else s)
  else if a = HST_GPIO_OUT then
    s.setReg a (word ((List.range 16).map (fun n => (n, if s.gpioFunc n = 2 then bitsOf w.toNat n 1 else 0))))
  else s

/-- What a write of `w` at `a` does once its word is stored; `old` is the word before. -/
def State.written (p : Path) (a : Nat) (old w : Word) (side : Side) (s : State) : State :=
  match a / 0x10000 with
  | 0x0 => if a = GLB_PWR_CTRL then s.pwrCtrlWritten w else s
  | 0x1 =>
    if a = RPC_SWRST then s.requestReset 4 (s.mapLevel 4) false
    else if a = RPC_UPD_CTRL then s.updCtrlWritten w
    else if a = RPC_UPD_DATA then
      let r := s.told side.flashError
      r.2.updTake (leBytes 4 w.toNat) r.1
    else s
  | 0x2 => if a = OTP_CTRL then s.otpCtrlWritten w else s
  | 0x3 => if a = STM_CTRL then onlyIf (w.getLsbD 0) State.setGo s else s
  | 0x4 => s.bkdWritten a w
  | 0x5 => if a = BND_CTRL then s.bndCtrlWritten w else if a = BND_DATA then s.bndDataWritten w else s
  | 0x10 => s.brkWritten p a w
  | 0x12 =>
    if a = VCP_CTRL then onlyIf (w.getLsbD 1) State.clearRecords (onlyIf (w.getLsbD 0) State.vcpCntClr s) else s
  | 0x13 => s.seqWritten a w side
  | 0x14 => s.msrWritten a old w
  | 0x16 => if a = CEL_CTRL then onlyIf (w.getLsbD 2) State.baseRst (onlyIf (w.getLsbD 1) State.sweepReq s) else s
  | 0x17 =>
    if a = CPM_CTRL then onlyIf (w.getLsbD 1) State.chargeStop (onlyIf (w.getLsbD 0) State.chargeStart s)
    else if a = CPM_PP_CTRL then s.ppCtrlWritten else s
  | 0x18 => s.mtrWritten a w
  | 0x19 => s
  | 0x1A => s.lnkWritten a w
  | 0x1B => s.icuWritten a w
  | 0x1C => s.wdgWritten p a w side
  | 0x1D => s.hstWritten a w
  | _ => s

/-- Registers whose written word does not go straight into force: staged (R184), target and course writes with their own
rules, sources (R439), the path's own slot (R397). -/
def ownStore (a : Nat) : Bool :=
  (decide (a / 0x10000 = 0x10) && (decide (a % 0x1000 = 0x18) || (decide (0x100 ≤ a % 0x1000) && decide (a % 0x1000 ≤ 0x12C)))) ||
    a == SEQ_CMD || a == JNL_RD_SLOT || isArr (ICU_SRC 0) 4 1024 a

/-- An aligned write of a register (R6, R9): ignored where no field of it is writable, turned away with CFG_ERR as a whole
where it offends, else stored and acted on. While VBAK is low a write to BKD is ignored (R85). -/
def State.regWrite (p : Path) (a : Nat) (w : Word) (side : Side) (s : State) : State :=
  let fs := fieldsOf a
  if !fs.any FieldSpec.writable then s
  else if a / 0x10000 = 4 ∧ !s.bkd.powered then s
  else match lowest (reservedBit fs w) (s.refused p a w) with
    | some b => s.cfgErr a b
    | none =>
      let old := s.reg a
      if a = JNL_RD_SLOT then s.jnlLoad (pathShadow p) (bitsOf w.toNat 0 17)
      else (if ownStore a then s else s.setReg a (writtenWord fs old w)).written p a old w side

/-- One 32-bit write on a path (R8, R428, R429). -/
def State.busWrite (p : Path) (adr : Word) (w : Word) (side : Side) (s : State) : State :=
  let a := adr.toNat
  if !s.answers p then s
  else match s.busFault p true a with
    | some k => s.busErr p k adr
    | none =>
      match windowOf a with
      | some .regs => s.regWrite p a w side
      | some .point =>
        let i := (a - 0x800000) / 4
        let rest := dropPair s.mtr.points i
        { s with mtr := { s.mtr with points := if w = 0 then rest else (i, w) :: rest } }
      | _ => s

/-! ### Reads -/

/-- The words a read of a trigger word freezes for its path. -/
def frozenBy (a : Nat) : List Nat :=
  if a = STM_TIME_LO then [STM_TIME_HI]
  else if a = GLB_SERIAL_LO then [GLB_SERIAL_HI]
  else if a = MTR_TOT 0 then (List.range 9).map (fun i => MTR_TOT (i + 1))
  else if a = MTR_RUN 0 then (List.range 13).map (fun i => MTR_RUN (i + 1))
  else if isArr (MTR_REAM 0 0) 0x40 8 a then (List.range 13).map (fun i => a + 4 * (i + 1))
  else if isArr (MTR_COUCH_STAT 0) 0x10 4 a then [a + 4, a + 8]
  else if a = JNL_SEQ_LO then [JNL_SEQ_HI]
  else if a = MSR_CELL_TS_LO then [MSR_CELL_TS_HI, MSR_STACK] ++ (List.range 32).map MSR_CELL
  else if isArr (MSR_DMA_WPTR 0) 0x20 16 a then [a + 4, a + 8]
  else if isArr (CEL_ZR 0 0) 8 2048 a then [a + 4]
  else if a = ICU_HOST_0 then [ICU_HOST_1, ICU_HOST_2]
  else if a = LNK_FWD_0 then [LNK_FWD_1, LNK_FWD_2]
  else if a = VCP_LAST_LO then [VCP_LAST_HI]
  else if a = WDG_EV_STAT then
    [WDG_EV_MASK, WDG_EV_PC_SA, WDG_EV_PC_SB, WDG_EV_PC_S0, WDG_EV_PC_S1, WDG_EV_TS_LO, WDG_EV_TS_HI, WDG_EV_CNT]
  else []

/-- Freeze what a read of `a` freezes. -/
def State.freezePage (p : Path) (a : Nat) (s : State) : State := forEach (frozenBy a) (fun b t => t.freeze p b (s.live b)) s

/-- The level of every GPIO ball (R446): a driven output's own level, which an L2 leaves (log entry 22), the trigger pulse of R275 on GPIO_1 with FUNC 6; any other is the board's, a free bit (log entry 22). -/
def State.gpioIn (s : State) : Word × State :=
  let f := s.takeFree 16
  let level (n : Nat) : Nat :=
    let own := bitsOf (s.reg HST_GPIO_OUT).toNat n 1
    if s.gpioFunc n = 2 ∧ (!s.pins.gpioReleased || s.boot.restart == some 2) then own
    else if s.gpioFunc n = 6 ∧ n = 1 ∧ !s.pins.gpioReleased then bit (s.msr.pulseEnd.isSome && !reached s.msr.pulseEnd s.clk.core)
    else match s.pins.pinSet.find? (fun q => decide (q.1 = n)) with
      | some q => if s.gpioFunc n = 3 then bit q.2 else bitsOf f.1 n 1
      | none => bitsOf f.1 n 1
  (word ((List.range 16).map (fun n => (n, level n))), f.2)

/-- The word a path reads at `a` where its shadow decides, else the live word. -/
def State.seen (s : State) (k a : Nat) : Word := lookupD s.shadow (k, a) (s.live a)

/-- An aligned read of a register. -/
def State.regRead (p : Path) (a : Nat) (s : State) : Word × State :=
  let k := pathShadow p
  if a / 0x10000 = 4 ∧ !s.bkd.powered then (s.live a, s)
  else if isArr RTC_SEC_LO 4 4 a then s.rtcTimeRead k ((a - RTC_SEC_LO) / 4)
  else if a = RTC_STAT then s.rtcStatRead k
  else if a = HST_GPIO_IN then s.gpioIn
  else if a = JNL_STAT then
    (withMask (s.live a) 0x100 (if s.jnl.loads.any (fun l => decide (l.1 = k)) then 0 else 0x100), s)
  else
    let t := s.freezePage p a
    (if (frozenBy a).isEmpty then s.seen k a else s.live a, t)

/-- The four bytes of the sample RAM at an address. -/
def State.sramWord (s : State) (o : Nat) : Word :=
  BitVec.ofNat 32 ((s.sramAt o).toNat + 256 * (s.sramAt (o + 1)).toNat + 65536 * (s.sramAt (o + 2)).toNat +
    16777216 * (s.sramAt (o + 3)).toNat)

/-- A word of a couch bank: 0 unless the bank is held (R390). -/
def State.bankWord (s : State) (k i : Nat) : Word :=
  if s.fld (MTR_COUCH_STAT_STATE k) = 2 then lookupD (s.mtr.banks.getD k Bank.free).words i 0 else 0

/-- A read of point `i`: the register it mirrors as the path sees it; points 0x1200, 0x1210 and 0x1021 freeze its page
(R387). -/
def State.pointRead (p : Path) (i : Nat) (s : State) : Word × State :=
  if isUserPoint i then (s.point i, s)
  else match s.pointReg i with
    | none => (0, s)
    | some a =>
      if i = 0x1200 ∨ i = 0x1210 ∨ i = 0x1021 then (s.live a, s.freezePage p a)
      else (if (frozenBy a).isEmpty then s.seen (pathShadow p) a else s.live a, s)

/-- One 32-bit read on a path (R8, R428, R429). -/
def State.busRead (p : Path) (adr : Word) (s : State) : Word × State :=
  let a := adr.toNat
  if !s.answers p then (0, s)
  else match s.busFault p false a with
    | some k => (0, s.busErr p k adr)
    | none =>
      match windowOf a with
      | some .regs => s.regRead p a
      | some .sram => (s.sramWord (a - 0x400000), s)
      | some .point => s.pointRead p ((a - 0x800000) / 4)
      | some .couch => (s.bankWord ((a - 0x808000) / 0x8000) ((a - 0x808000) % 0x8000 / 4), s)
      | none => (0, s)

end Sys2Proof.Machine
end

