-- ==== Sys2Proof/Machine/Host.lean ====
section
/-! DEFINITION. The host ports (R430 to R436) and the target's side of remote register access (R417): transactions turned into
single 32-bit accesses. -/
namespace Sys2Proof.Machine

/-- The words of a write transaction, word `k` to the k-th address; whether any of them caused BUS_ERR. `stop` says that the
first that does ends the transaction (R436). A reset that silences the port abandons the rest (R430). The last answer is the
address after the last word accessed. -/
def State.portWrite (p : Path) (stop : Bool) : List Word → Word → Bool → State → Bool × Word × State
  | [], adr, e, s => (e, adr, s)
  | w :: r, adr, e, s =>
    if !s.answers p || (stop && e) then (e, adr, s)
    else
      let bad := (s.busFault p true adr.toNat).isSome
      (s.busWrite p adr w Side.untold).portWrite p stop r (adr + 4) (e || bad)

/-- The words of a read transaction. -/
def State.portRead (p : Path) : Nat → Word → Bool → List Word → State → Bool × List Word × State
  | 0, _, e, l, s => (e, l, s)
  | n + 1, adr, e, l, s =>
    let bad := (s.busFault p false adr.toNat).isSome
    let r := s.busRead p adr
    r.2.portRead p n (adr + 4) (e || bad) (l ++ [r.1])

/-- A transaction ends inside the address or a word (R433, R436): FRAME_EV and BUS_ERR with KIND 2. -/
def State.frameError (p : Path) (adr : Word) (s : State) : State :=
  ((s.bump HST_CNT_FRAME_CNT).flagRaise HST_STAT_FRAME_EV 4).busErr p 2 adr

/-! ### SPI -/

/-- The status byte (Table — SPI status byte). -/
def State.spiStatus (s : State) : Byte :=
  BitVec.ofNat 8 (0x80 + 32 * bit s.hst.prevBus + 16 * bit s.hst.prevLate + 8 * bit s.hst.prevFrame + 4 * bit s.icu.intN +
    2 * bit s.active)

/-- A transaction ends: what its status byte was, what it drove, what the next status byte tells of it. -/
def State.spiEnd (status : Byte) (dout : List Word) (bus late frame : Bool) (s : State) : State :=
  if s.answers .spi then
    { s with hst := { s.hst with status := status, dout := dout, prevBus := bus, prevLate := late, prevFrame := frame } }
  else s

/-- SPI_WRITE (R433). -/
def execSpiWrite (address : Word) (words : List Word) (partialWord : Bool) (s : State) : Host.Outcome State Fault Refusal :=
  .next (
    if s.answers .spi then
      let r := s.portWrite .spi false words address false
      let t := if partialWord && r.2.2.answers .spi then r.2.2.frameError .spi r.2.1 else r.2.2
      t.spiEnd s.spiStatus [] (r.1 || partialWord) false partialWord
    else s)

/-- SPI_READ (R433, R434): word k is read at the last bit of word k − 1, word 0 at the last address bit, so the word after the
last one driven is read too. `late` says which reads were not ready at their first bit, that of a last word which the transaction
cuts after its first bit among them; they return 0. -/
def execSpiRead (address : Word) (count : Nat) (late : List Bool) (addressCut : Bool) (s : State) :
    Host.Outcome State Fault Refusal :=
  .next (
    if s.answers .spi then
      if addressCut then (s.frameError .spi address).spiEnd s.spiStatus [] true false true
      else
        let r := s.portRead .spi (count + 1) address false []
        let l := late.take (count + 1)
        let n := l.countP id
        let t := (List.range n).foldl (fun (t : State) _ => (t.bump HST_CNT_LATE_CNT).flagRaise HST_STAT_LATE_EV 4) r.2.2
        let dout := (r.2.1.take count).mapIdx (fun k w => if l.getD k false then 0 else w)
        t.spiEnd s.spiStatus dout r.1 (decide (0 < n)) false
    else s)

/-- SPI_RESERVED_CMD (R433). -/
def execSpiReservedCmd (command : Byte) (s : State) : Host.Outcome State Fault Refusal :=
  .next (
    if s.answers .spi && command != 2 && command != 3 then
      ((s.bump HST_CNT_FRAME_CNT).flagRaise HST_STAT_CMD_EV 4).spiEnd s.spiStatus [] false false true
    else s)

/-! ### I²C -/

/-- I2C_WRITE (R435, R436): a word that causes BUS_ERR is not acknowledged, and the rest is ignored. A write without a
complete word accesses none, and the current address stands. -/
def execI2cWrite (address : Word) (words : List Word) (partialWord : Bool) (s : State) : Host.Outcome State Fault Refusal :=
  .next (
    if s.answers .i2c then
      let r := s.portWrite .i2c true words address false
      let next := if words.isEmpty then s.hst.i2cNext else r.2.1.toNat
      let t := { r.2.2 with hst := { r.2.2.hst with nack := r.1, i2cNext := next } }
      if partialWord && !r.1 && t.answers .i2c then t.frameError .i2c r.2.1 else t
    else s)

/-- Words read on the I²C port from an address. The first is read at the ACK of the device's own address byte, so one is read
whatever the master clocks (DEDUCED: log entry 21). -/
def State.i2cReadFrom (address : Word) (count : Nat) (s : State) : State :=
  let r := s.portRead .i2c (max count 1) address false []
  { r.2.2 with hst := { r.2.2.hst with dout := r.2.1.take count, i2cNext := (address + BitVec.ofNat 32 (4 * max count 1)).toNat } }

/-- I2C_READ (R435). -/
def execI2cRead (address : Word) (count : Nat) (partialAddress : Bool) (s : State) : Host.Outcome State Fault Refusal :=
  .next (
    if s.answers .i2c then
      if partialAddress then s.frameError .i2c address else s.i2cReadFrom address count
    else s)

/-- I2C_CURRENT_READ (R435). -/
def execI2cCurrentRead (count : Nat) (s : State) : Host.Outcome State Fault Refusal :=
  .next (if s.answers .i2c then s.i2cReadFrom (BitVec.ofNat 32 s.hst.i2cNext) count else s)

/-- I2C_SCL_TIMEOUT (R436). -/
def execI2cSclTimeout (s : State) : Host.Outcome State Fault Refusal :=
  .next (if s.answers .i2c then (s.bump HST_CNT_FRAME_CNT).flagRaise HST_STAT_I2C_TMO_EV 4 else s)

/-! ### Remote access, the target (R417) -/

/-- The answer to a remote request. -/
def State.answerRemote (source tag result : Nat) (data : List Word) (s : State) : State :=
  s.sendTo 0x12 source tag (leBytes 1 result ++ leBytes 1 data.length ++ leBytes 2 0 ++
    (data.map (fun w => leBytes 4 w.toNat)).flatten)

/-- The target answers BUSY: 32 requests pending, or its own L2 or L3 restart. -/
def State.remoteBusy (s : State) (waiting : Nat) : Bool := decide (32 ≤ waiting) || s.boot.restart.isSome

/-- The BUSY answer: counted, source 680. -/
def State.answerBusy (source tag : Nat) (s : State) : State :=
  ((s.answerRemote source tag 1 []).bump LNK_DROP_CNT_BUSY_CNT).raise 680

/-- RD_REQ. -/
def execRdReq (source : BitVec 12) (tag : BitVec 5) (address : Word) (count : Byte) (waiting : Nat) (s : State) :
    Host.Outcome State Fault Refusal :=
  .next (
    if s.linked then
      if s.remoteBusy waiting then s.answerBusy source.toNat tag.toNat
      else
        let r := s.portRead .link (min count.toNat 63) address false []
        r.2.2.answerRemote source.toNat tag.toNat (if r.1 then 3 else 0) r.2.1
    else s)

/-- WR_REQ. -/
def execWrReq (source : BitVec 12) (tag : BitVec 5) (address data : Word) (waiting : Nat) (s : State) :
    Host.Outcome State Fault Refusal :=
  .next (
    if s.linked then
      if s.remoteBusy waiting then s.answerBusy source.toNat tag.toNat
      else
        let bad := (s.busFault .link true address.toNat).isSome
        (s.busWrite .link address data Side.untold).answerRemote source.toNat tag.toNat (if bad then 3 else 0) []
    else s)

end Sys2Proof.Machine
end

