-- ==== Sys2Proof/Machine/Writes.lean ====
section
/-! DEFINITION. The commands that are one register access: a write with the fields that make it that command, or a read of a
word that freezes others. Each goes through the bus as any access does; on a host port it is a transaction of that one word
(DESIGN CHOICE: log entry 38). -/
namespace Sys2Proof.Machine

/-- A register's address as the bus takes it. -/
def adr (a : Nat) : Word := BitVec.ofNat 32 a

/-- A write: on a host port a transaction of one word (R432, R433, R435, R436). -/
def State.writeRow (path : Path) (address data : Word) (side : Side) (s : State) : State :=
  let t := s.busWrite path address data side
  let bad := (s.busFault path true address.toNat).isSome
  match path with
  | .spi => if s.answers .spi then t.spiEnd s.spiStatus [] bad false false else t
  | .i2c => if s.answers .i2c then { t with hst := { t.hst with nack := bad, i2cNext := (address + 4).toNat } } else t
  | _ => t

/-- A read: on a host port a transaction of one word, in time. -/
def State.readRow (path : Path) (address : Word) (s : State) : State :=
  match path with
  | .spi =>
    if s.answers .spi then
      let r := s.portRead .spi 2 address false []
      r.2.2.spiEnd s.spiStatus (r.2.1.take 1) r.1 false false
    else s
  | .i2c => if s.answers .i2c then s.i2cReadFrom address 1 else s
  | _ => (s.busRead path address).2

/-- SWRST (R117, R139). -/
def execSwrst (path : Path) (s : State) : Host.Outcome State Fault Refusal :=
  .next (s.writeRow path (adr RPC_SWRST) 0x5E7A0000 Side.untold)

/-- OTP_READ (R125). -/
def execOtpRead (path : Path) (row : BitVec 9) (s : State) : Host.Outcome State Fault Refusal :=
  .next (s.writeRow path (adr OTP_CTRL) (word [(16, 1), (0, row.toNat)]) Side.untold)

/-- OTP_PROGRAM (R124, R125: VSYS and VPP stand as the event tells). -/
def execOtpProgram (path : Path) (row : BitVec 9) (vsys : Nat) (vpp : Nat) (s : State) : Host.Outcome State Fault Refusal :=
  let t := { s with boot := { s.boot with vsys := vsys, vpp := vpp } }
  .next (t.writeRow path (adr OTP_CTRL) (word [(24, 0xA7), (16, 2), (0, row.toNat)]) Side.untold)

/-- UPD_START (R135). -/
def execUpdStart (path : Path) (blocks : BitVec 10) (s : State) : Host.Outcome State Fault Refusal :=
  .next (s.writeRow path (adr RPC_UPD_CTRL) (word [(12, 1), (0, blocks.toNat)]) Side.untold)

/-- UPD_ABORT (R136). -/
def execUpdAbort (path : Path) (blocks : BitVec 10) (s : State) : Host.Outcome State Fault Refusal :=
  .next (s.writeRow path (adr RPC_UPD_CTRL) (word [(12, 2), (0, blocks.toNat)]) Side.untold)

/-- UPD_DATA (R136). -/
def execUpdData (path : Path) (data : Word) (flashError : Bool) (s : State) : Host.Outcome State Fault Refusal :=
  .next (s.writeRow path (adr RPC_UPD_DATA) data { Side.untold with flashError := some flashError })

/-- BOND_STORE_CMD (R155, CMD 1). -/
def execBondStoreCmd (path : Path) (src : BitVec 2) (s : State) : Host.Outcome State Fault Refusal :=
  .next (s.writeRow path (adr BND_CTRL) (word [(24, 0x3C), (8, src.toNat), (0, 1)]) Side.untold)

/-- BOND_APPLY (R152, CMD 2). -/
def execBondApply (path : Path) (src : BitVec 2) (store : Bool) (s : State) : Host.Outcome State Fault Refusal :=
  .next (s.writeRow path (adr BND_CTRL) (word [(24, 0x3C), (10, bit store), (8, src.toNat), (0, 2)]) Side.untold)

/-- BOND_ABORT (R154, CMD 3). -/
def execBondAbort (path : Path) (s : State) : Host.Outcome State Fault Refusal :=
  .next (s.writeRow path (adr BND_CTRL) (word [(0, 3)]) Side.untold)

/-- BND_DATA (R151). -/
def execBndData (path : Path) (data : Word) (s : State) : Host.Outcome State Fault Refusal :=
  .next (s.writeRow path (adr BND_DATA) data Side.untold)

/-- SET_GO (R75: the other fields of STM_CTRL as they are). -/
def execSetGo (path : Path) (s : State) : Host.Outcome State Fault Refusal :=
  .next (s.writeRow path (adr STM_CTRL) (s.reg STM_CTRL ||| 1) Side.untold)

/-- STM_TIME_LO_READ (R81). -/
def execStmTimeLoRead (path : Path) (s : State) : Host.Outcome State Fault Refusal :=
  .next (s.readRow path (adr STM_TIME_LO))

/-- RTC_TIME_READ (R88). -/
def execRtcTimeRead (path : Path) (word : BitVec 2) (s : State) : Host.Outcome State Fault Refusal :=
  .next (s.readRow path (adr (RTC_SEC_LO + 4 * word.toNat)))

/-- RTC_STAT_READ (R88, R89). -/
def execRtcStatRead (path : Path) (s : State) : Host.Outcome State Fault Refusal :=
  .next (s.readRow path (adr RTC_STAT))

/-- COMMIT_BINARY (R93). -/
def execCommitBinary (path : Path) (almEn : Bool) (s : State) : Host.Outcome State Fault Refusal :=
  .next (s.writeRow path (adr RTC_CTRL) (word [(3, bit almEn), (0, 1)]) Side.untold)

/-- COMMIT_CALENDAR (R92, R93). -/
def execCommitCalendar (path : Path) (almEn : Bool) (s : State) : Host.Outcome State Fault Refusal :=
  .next (s.writeRow path (adr RTC_CTRL) (word [(3, bit almEn), (0, 2)]) Side.untold)

/-- EVT_POP (R104). -/
def execEvtPop (path : Path) (s : State) : Host.Outcome State Fault Refusal :=
  .next (s.writeRow path (adr EVT_STAT) (word [(17, 1)]) Side.untold)

/-- EVT_OVF_CLR (R104, R105). -/
def execEvtOvfClr (path : Path) (s : State) : Host.Outcome State Fault Refusal :=
  .next (s.writeRow path (adr EVT_STAT) (word [(16, 1)]) Side.untold)

/-- BRK_TARGET_WRITE (R167, R168). -/
def execBrkTargetWrite (path : Path) (n : Nat) (data : Word) (s : State) : Host.Outcome State Fault Refusal :=
  .next (if n < 16 then s.writeRow path (adr (BRK_TARGET n)) data Side.untold else s)

/-- COEF_COMMIT (R184, R185). -/
def execCoefCommit (path : Path) (n : Nat) (s : State) : Host.Outcome State Fault Refusal :=
  .next (if n < 16 then s.writeRow path (adr (BRK_CTRL n)) 1 Side.untold else s)

/-- BRK_CNT_CLR (R187). -/
def execBrkCntClr (path : Path) (n : Nat) (s : State) : Host.Outcome State Fault Refusal :=
  .next (if n < 16 then s.writeRow path (adr (BRK_CTRL n)) 2 Side.untold else s)

/-- RETRY_RST (R213, R215). -/
def execRetryRst (path : Path) (n : Nat) (s : State) : Host.Outcome State Fault Refusal :=
  .next (if n < 16 then s.writeRow path (adr (BRK_LANE_CTRL n)) 2 Side.untold else s)

/-- LCNT_CLR (R215). -/
def execLcntClr (path : Path) (n : Nat) (s : State) : Host.Outcome State Fault Refusal :=
  .next (if n < 16 then s.writeRow path (adr (BRK_LANE_CTRL n)) 1 Side.untold else s)

/-- SEQ_TARGET (R245). -/
def execSeqTarget (path : Path) (target : BitVec 8) (s : State) : Host.Outcome State Fault Refusal :=
  .next (s.writeRow path (adr SEQ_CMD) (word [(0, target.toNat)]) Side.untold)

/-- SEQ_FLOOR (R245). -/
def execSeqFloor (path : Path) (target : BitVec 8) (s : State) : Host.Outcome State Fault Refusal :=
  .next (s.writeRow path (adr SEQ_CMD) (word [(8, 1), (0, target.toNat)]) Side.untold)

/-- REJOIN (R248). -/
def execRejoin (path : Path) (s : State) : Host.Outcome State Fault Refusal :=
  .next (s.writeRow path (adr SEQ_CTRL) (word [(24, 0x5C), (1, 1)]) Side.untold)

/-- FAULT_CLR (R256). -/
def execFaultClr (path : Path) (blocked : Bool) (s : State) : Host.Outcome State Fault Refusal :=
  .next (s.writeRow path (adr SEQ_CTRL) (word [(24, 0x5C), (0, 1)]) { Side.untold with blocked := some blocked })

/-- LINE_CLR (R262). -/
def execLineClr (path : Path) (s : State) : Host.Outcome State Fault Refusal :=
  .next (s.writeRow path (adr SEQ_CTRL) (word [(24, 0x5C), (3, 1)]) Side.untold)

/-- SEQ_CNT_CLR (R265). -/
def execSeqCntClr (path : Path) (s : State) : Host.Outcome State Fault Refusal :=
  .next (s.writeRow path (adr SEQ_CTRL) (word [(2, 1)]) Side.untold)

/-- JNL_RD_SLOT (R397). -/
def execJnlRdSlot (path : Path) (slot : BitVec 17) (s : State) : Host.Outcome State Fault Refusal :=
  .next (s.writeRow path (adr JNL_RD_SLOT) (word [(0, slot.toNat)]) Side.untold)

/-- HST_CNT_CLR (R447: DUMMY as it is). -/
def execHstCntClr (path : Path) (s : State) : Host.Outcome State Fault Refusal :=
  .next (s.writeRow path (adr HST_CTRL) (s.reg HST_CTRL ||| 4) Side.untold)

/-- REGISTER_WRITE (R6, R9). -/
def execRegisterWrite (path : Path) (address : Word) (data : Word) (s : State) : Host.Outcome State Fault Refusal :=
  .next (s.writeRow path address data Side.untold)

/-- DOORBELL_WRITE (R437). -/
def execDoorbellWrite (path : Path) (source : BitVec 10) (s : State) : Host.Outcome State Fault Refusal :=
  .next (s.writeRow path (adr ICU_DOORBELL) (word [(0, source.toNat)]) Side.untold)

/-- ICU_SRC_WRITE (R439, R441). -/
def execIcuSrcWrite (path : Path) (source : BitVec 10) (data : Word) (s : State) : Host.Outcome State Fault Refusal :=
  .next (s.writeRow path (adr (ICU_SRC source.toNat)) data Side.untold)

/-- ICU_POP (R441). -/
def execIcuPop (path : Path) (intEn : Bool) (s : State) : Host.Outcome State Fault Refusal :=
  .next (s.writeRow path (adr ICU_CTRL) (word [(1, 1), (0, bit intEn)]) Side.untold)

/-- ICU_HOLD_WRITE (R442). -/
def execIcuHoldWrite (path : Path) (g : Nat) (data : Word) (s : State) : Host.Outcome State Fault Refusal :=
  .next (if g < 32 then s.writeRow path (adr (ICU_HOLD g)) data Side.untold else s)

/-- STANDBY_REQUEST (R444). -/
def execStandbyRequest (path : Path) (s : State) : Host.Outcome State Fault Refusal :=
  .next (s.writeRow path (adr GLB_PWR_CTRL) (word [(24, 0x5B), (0, 1)]) Side.untold)

/-- ARM (R454). -/
def execArm (path : Path) (s : State) : Host.Outcome State Fault Refusal :=
  .next (s.writeRow path (adr WDG_CTRL) (word [(24, 0x3D), (0, 1)]) Side.untold)

/-- EVID_CLR (R459). -/
def execEvidClr (path : Path) (s : State) : Host.Outcome State Fault Refusal :=
  .next (s.writeRow path (adr WDG_CTRL) (word [(24, 0x3D), (1, 1)]) Side.untold)

/-- CHECKIN (R452). -/
def execCheckin (path : Path) (task : BitVec 4) (value : BitVec 16) (counters : Word × Word × Word × Word) (s : State) :
    Host.Outcome State Fault Refusal :=
  .next (s.writeRow path (adr WDG_CHECKIN)
    (word [(16, task.toNat), (0, value.toNat)]) { Side.untold with pc := some counters })

/-- VCP_REC_CLR (R234). -/
def execVcpRecClr (path : Path) (s : State) : Host.Outcome State Fault Refusal :=
  .next (s.writeRow path (adr VCP_CTRL) 2 Side.untold)

/-- VCP_CNT_CLR (R234). -/
def execVcpCntClr (path : Path) (s : State) : Host.Outcome State Fault Refusal :=
  .next (s.writeRow path (adr VCP_CTRL) 1 Side.untold)

/-- VCP_LAST_LO_READ (R234). -/
def execVcpLastLoRead (path : Path) (s : State) : Host.Outcome State Fault Refusal :=
  .next (s.readRow path (adr VCP_LAST_LO))

/-- CELL_TS_LO_READ (R285). -/
def execCellTsLoRead (path : Path) (s : State) : Host.Outcome State Fault Refusal :=
  .next (s.readRow path (adr MSR_CELL_TS_LO))

/-- DMA_CFG_WRITE (R290). -/
def execDmaCfgWrite (path : Path) (stream : BitVec 4) (data : Word) (s : State) : Host.Outcome State Fault Refusal :=
  .next (s.writeRow path (adr (MSR_DMA_CFG stream.toNat)) data Side.untold)

/-- DMA_WPTR_READ (R291). -/
def execDmaWptrRead (path : Path) (stream : BitVec 4) (s : State) : Host.Outcome State Fault Refusal :=
  .next (s.readRow path (adr (MSR_DMA_WPTR stream.toNat)))

/-- TDAC_WRITE (R292, R293). -/
def execTdacWrite (path : Path) (data : Word) (s : State) : Host.Outcome State Fault Refusal :=
  .next (s.writeRow path (adr MSR_TDAC) data Side.untold)

/-- OW_GO (R294, R296). -/
def execOwGo (path : Path) (s : State) : Host.Outcome State Fault Refusal :=
  .next (s.writeRow path (adr MSR_CTRL) 1 Side.untold)

/-- OW_ABORT (R296). -/
def execOwAbort (path : Path) (s : State) : Host.Outcome State Fault Refusal :=
  .next (s.writeRow path (adr MSR_CTRL) 2 Side.untold)

/-- MSR_CNT_CLR (R300). -/
def execMsrCntClr (path : Path) (s : State) : Host.Outcome State Fault Refusal :=
  .next (s.writeRow path (adr MSR_CTRL) 4 Side.untold)

/-- SWEEP_REQ (R321). -/
def execSweepReq (path : Path) (s : State) : Host.Outcome State Fault Refusal :=
  .next (s.writeRow path (adr CEL_CTRL) 2 Side.untold)

/-- BASE_RST (R335). -/
def execBaseRst (path : Path) (s : State) : Host.Outcome State Fault Refusal :=
  .next (s.writeRow path (adr CEL_CTRL) (word [(24, 0xCE), (2, 1)]) Side.untold)

/-- CEL_ZR_READ (R330). -/
def execCelZrRead (path : Path) (cell : BitVec 5) (bin : BitVec 6) (s : State) : Host.Outcome State Fault Refusal :=
  .next (s.readRow path (adr (CEL_ZR cell.toNat bin.toNat)))

/-- PP_PREF_WRITE (R347, R350). -/
def execPpPrefWrite (path : Path) (pref : Bool) (auxMode : Bool) (s : State) : Host.Outcome State Fault Refusal :=
  .next (s.writeRow path (adr CPM_PP_CTRL) (word [(1, bit auxMode), (0, bit pref)]) Side.untold)

/-- START (R359). -/
def execStart (path : Path) (s : State) : Host.Outcome State Fault Refusal :=
  .next (s.writeRow path (adr CPM_CTRL) 1 Side.untold)

/-- STOP (R364). -/
def execStop (path : Path) (s : State) : Host.Outcome State Fault Refusal :=
  .next (s.writeRow path (adr CPM_CTRL) 2 Side.untold)

/-- STAT_CLR (R377). -/
def execStatClr (path : Path) (s : State) : Host.Outcome State Fault Refusal :=
  .next (s.writeRow path (adr MTR_CTRL) (word [(24, 0x4D), (0, 1)]) Side.untold)

/-- POINT_WRITE (R386). -/
def execPointWrite (path : Path) (point : BitVec 13) (data : Word) (s : State) : Host.Outcome State Fault Refusal :=
  .next (s.writeRow path (adr (0x800000 + 4 * point.toNat)) data Side.untold)

/-- COHERENT_PAGE_READ (R387). -/
def execCoherentPageRead (path : Path) (address : Word) (s : State) : Host.Outcome State Fault Refusal :=
  .next (s.readRow path address)

/-- COUCH_GO (R388). -/
def execCouchGo (path : Path) (id : BitVec 16) (s : State) : Host.Outcome State Fault Refusal :=
  .next (s.writeRow path (adr MTR_COUCH_CTRL) (word [(16, id.toNat), (0, 1)]) Side.untold)

/-- COUCH_FREE_WRITE (R391: ID as it is). -/
def execCouchFreeWrite (path : Path) (banks : BitVec 4) (s : State) : Host.Outcome State Fault Refusal :=
  .next (s.writeRow path (adr MTR_COUCH_CTRL) (s.reg MTR_COUCH_CTRL ||| word [(4, banks.toNat)]) Side.untold)

/-- ENUM (R411). -/
def execEnum (path : Path) (s : State) : Host.Outcome State Fault Refusal :=
  .next (s.writeRow path (adr LNK_CTRL) (word [(24, 0xA1), (0, 1)]) Side.untold)

/-- RA_READ (R417, OP 0: COUNT as it is). -/
def execRaRead (path : Path) (tag : BitVec 5) (dest : BitVec 12) (s : State) : Host.Outcome State Fault Refusal :=
  .next (s.writeRow path (adr LNK_RA_CTRL)
    (word [(31, 1), (24, tag.toNat), (18, s.fld LNK_RA_CTRL_COUNT), (0, dest.toNat)]) Side.untold)

/-- RA_WRITE (R417, OP 1: COUNT as it is). -/
def execRaWrite (path : Path) (tag : BitVec 5) (dest : BitVec 12) (s : State) : Host.Outcome State Fault Refusal :=
  .next (s.writeRow path (adr LNK_RA_CTRL)
    (word [(31, 1), (29, 1), (24, tag.toNat), (18, s.fld LNK_RA_CTRL_COUNT), (0, dest.toNat)]) Side.untold)

/-- RA_BLOCK_READ (R417, OP 2). -/
def execRaBlockRead (path : Path) (tag : BitVec 5) (count : BitVec 6) (dest : BitVec 12) (s : State) :
    Host.Outcome State Fault Refusal :=
  .next (s.writeRow path (adr LNK_RA_CTRL)
    (word [(31, 1), (29, 2), (24, tag.toNat), (18, count.toNat), (0, dest.toNat)]) Side.untold)

/-- RA_FREE (R417). -/
def execRaFree (path : Path) (tag : BitVec 5) (s : State) : Host.Outcome State Fault Refusal :=
  .next (s.writeRow path (adr (LNK_RA_STAT tag.toNat)) (word [(26, 1)]) Side.untold)

/-- DIST_GO (R421). -/
def execDistGo (path : Path) (control : Word) (s : State) : Host.Outcome State Fault Refusal :=
  .next (s.writeRow path (adr LNK_DIST_CTRL) (control ||| 0x80000000) Side.untold)

/-- DIST_ABORT (R427). -/
def execDistAbort (path : Path) (control : Word) (s : State) : Host.Outcome State Fault Refusal :=
  .next (s.writeRow path (adr LNK_DIST_CTRL) (control ||| 0x40000000) Side.untold)

/-- FWD_POP (R423, R427). -/
def execFwdPop (path : Path) (s : State) : Host.Outcome State Fault Refusal :=
  .next (s.writeRow path (adr LNK_CTRL) 4 Side.untold)

/-- LNK_CNT_CLR (R427). -/
def execLnkCntClr (path : Path) (s : State) : Host.Outcome State Fault Refusal :=
  .next (s.writeRow path (adr LNK_CTRL) 2 Side.untold)

end Sys2Proof.Machine
end

