-- ==== Sys2Proof/Machine/Dispatch.lean ====
section
/-! DEFINITION. The dispatch: one arm per command, each one direct call of its meaning. -/
namespace Sys2Proof.Machine

/-- The effect of a command on everything but the queue. -/
def exec (i : Instr) (s : State) : Host.Outcome State Fault Refusal :=
  match i with
  | .resetNRelease tst => Sys2Proof.Machine.execResetNRelease tst s
  | .swrst path => Sys2Proof.Machine.execSwrst path s
  | .p0SupplyDone vsys tst => Sys2Proof.Machine.execP0SupplyDone vsys tst s
  | .p2Restart source => Sys2Proof.Machine.execP2Restart source s
  | .refQualified port => Sys2Proof.Machine.execRefQualified port s
  | .refWindowEnd edges => Sys2Proof.Machine.execRefWindowEnd edges s
  | .refReturn port => Sys2Proof.Machine.execRefReturn port s
  | .p6ServicesDone failedLanes => Sys2Proof.Machine.execP6ServicesDone failedLanes s
  | .l2RestartDone copiesOk => Sys2Proof.Machine.execL2RestartDone copiesOk s
  | .l3RestartDone copiesOk => Sys2Proof.Machine.execL3RestartDone copiesOk s
  | .otpRead path row => Sys2Proof.Machine.execOtpRead path row s
  | .otpProgram path row vsys vpp => Sys2Proof.Machine.execOtpProgram path row vsys vpp s
  | .otpCommandDone failedBit => Sys2Proof.Machine.execOtpCommandDone failedBit s
  | .otpConditionLost pulses => Sys2Proof.Machine.execOtpConditionLost pulses s
  | .updStart path blocks => Sys2Proof.Machine.execUpdStart path blocks s
  | .updAbort path blocks => Sys2Proof.Machine.execUpdAbort path blocks s
  | .updData path data flashError => Sys2Proof.Machine.execUpdData path data flashError s
  | .updateCheckDone flashError => Sys2Proof.Machine.execUpdateCheckDone flashError s
  | .bondStoreCmd path src => Sys2Proof.Machine.execBondStoreCmd path src s
  | .bondApply path src store => Sys2Proof.Machine.execBondApply path src store s
  | .bondAbort path => Sys2Proof.Machine.execBondAbort path s
  | .bndData path data => Sys2Proof.Machine.execBndData path data s
  | .bondStoreDone flashError => Sys2Proof.Machine.execBondStoreDone flashError s
  | .setGo path => Sys2Proof.Machine.execSetGo path s
  | .stmTimeLoRead path => Sys2Proof.Machine.execStmTimeLoRead path s
  | .syncReq port turn => Sys2Proof.Machine.execSyncReq port turn s
  | .syncFup t2 t3 tstate => Sys2Proof.Machine.execSyncFup t2 t3 tstate s
  | .rtcTimeRead path word => Sys2Proof.Machine.execRtcTimeRead path word s
  | .rtcFreezeTimeout path => Sys2Proof.Machine.execRtcFreezeTimeout path s
  | .rtcStatRead path => Sys2Proof.Machine.execRtcStatRead path s
  | .commitBinary path almEn => Sys2Proof.Machine.execCommitBinary path almEn s
  | .commitCalendar path almEn => Sys2Proof.Machine.execCommitCalendar path almEn s
  | .vbakSample millivolts => Sys2Proof.Machine.execVbakSample millivolts s
  | .evtEdgeAccept input level => Sys2Proof.Machine.execEvtEdgeAccept input level s
  | .evtPop path => Sys2Proof.Machine.execEvtPop path s
  | .evtOvfClr path => Sys2Proof.Machine.execEvtOvfClr path s
  | .brickUpdate n lanes held => Sys2Proof.Machine.execBrickUpdate n lanes held s
  | .settleTimeout n => Sys2Proof.Machine.execSettleTimeout n s
  | .brkTargetWrite path n data => Sys2Proof.Machine.execBrkTargetWrite path n data s
  | .coefCommit path n => Sys2Proof.Machine.execCoefCommit path n s
  | .brkCntClr path n => Sys2Proof.Machine.execBrkCntClr path n s
  | .laneScrub n dataA dataB codeA codeB => Sys2Proof.Machine.execLaneScrub n dataA dataB codeA codeB s
  | .quickTestDone n passA passB => Sys2Proof.Machine.execQuickTestDone n passA passB s
  | .fullTestDone n lane pass => Sys2Proof.Machine.execFullTestDone n lane pass s
  | .laneRejoin n => Sys2Proof.Machine.execLaneRejoin n s
  | .fastLimitTrip cs => Sys2Proof.Machine.execFastLimitTrip cs s
  | .blankingEnd n microvolts => Sys2Proof.Machine.execBlankingEnd n microvolts s
  | .retryTimerExpiry blocked => Sys2Proof.Machine.execRetryTimerExpiry blocked s
  | .running1sExpiry n => Sys2Proof.Machine.execRunning1sExpiry n s
  | .retryRst path n => Sys2Proof.Machine.execRetryRst path n s
  | .lcntClr path n => Sys2Proof.Machine.execLcntClr path n s
  | .setV group seq value => Sys2Proof.Machine.execSetV group seq value s
  | .setI group seq value => Sys2Proof.Machine.execSetI group seq value s
  | .setSlew group seq value => Sys2Proof.Machine.execSetSlew group seq value s
  | .poll group seq value => Sys2Proof.Machine.execPoll group seq value s
  | .read group seq value => Sys2Proof.Machine.execRead group seq value s
  | .vcpReservedCmd command group seq value => Sys2Proof.Machine.execVcpReservedCmd command group seq value s
  | .vcpRecClr path => Sys2Proof.Machine.execVcpRecClr path s
  | .vcpCntClr path => Sys2Proof.Machine.execVcpCntClr path s
  | .vcpLastLoRead path => Sys2Proof.Machine.execVcpLastLoRead path s
  | .seqTarget path target => Sys2Proof.Machine.execSeqTarget path target s
  | .seqFloor path target => Sys2Proof.Machine.execSeqFloor path target s
  | .courseMasterStep pulseSeen => Sys2Proof.Machine.execCourseMasterStep pulseSeen s
  | .confirm course down => Sys2Proof.Machine.execConfirm course down s
  | .courseAns address course down status rejoin => Sys2Proof.Machine.execCourseAns address course down status rejoin s
  | .trunkStep course down floor pulseSeen => Sys2Proof.Machine.execTrunkStep course down floor pulseSeen s
  | .headDone address => Sys2Proof.Machine.execHeadDone address s
  | .rejoin path => Sys2Proof.Machine.execRejoin path s
  | .faultClr path blocked => Sys2Proof.Machine.execFaultClr path blocked s
  | .lineClr path => Sys2Proof.Machine.execLineClr path s
  | .seqCntClr path => Sys2Proof.Machine.execSeqCntClr path s
  | .railViolation rail microvolts => Sys2Proof.Machine.execRailViolation rail microvolts s
  | .pgDelayExpiry rail => Sys2Proof.Machine.execPgDelayExpiry rail s
  | .marginPinChange up dn => Sys2Proof.Machine.execMarginPinChange up dn s
  | .supplyLow vsys => Sys2Proof.Machine.execSupplyLow vsys s
  | .supplyGood vsys => Sys2Proof.Machine.execSupplyGood vsys s
  | .supply address low => Sys2Proof.Machine.execSupply address low s
  | .floorDone address => Sys2Proof.Machine.execFloorDone address s
  | .lineState address state => Sys2Proof.Machine.execLineState address state s
  | .alloff code source unaddressed => Sys2Proof.Machine.execAlloff code source unaddressed s
  | .periodicTrigger held => Sys2Proof.Machine.execPeriodicTrigger held s
  | .extTrigger held => Sys2Proof.Machine.execExtTrigger held s
  | .conversionDone adc => Sys2Proof.Machine.execConversionDone adc s
  | .cellTsLoRead path => Sys2Proof.Machine.execCellTsLoRead path s
  | .hkCaptureTimeout held => Sys2Proof.Machine.execHkCaptureTimeout held s
  | .dmaCfgWrite path stream data => Sys2Proof.Machine.execDmaCfgWrite path stream data s
  | .dmaWptrRead path stream => Sys2Proof.Machine.execDmaWptrRead path stream s
  | .tdacWrite path data => Sys2Proof.Machine.execTdacWrite path data s
  | .owGo path => Sys2Proof.Machine.execOwGo path s
  | .owAbort path => Sys2Proof.Machine.execOwAbort path s
  | .msrCntClr path => Sys2Proof.Machine.execMsrCntClr path s
  | .sensorFlagBroken sensor => Sys2Proof.Machine.execSensorFlagBroken sensor s
  | .sensorUnflag sensor => Sys2Proof.Machine.execSensorUnflag sensor s
  | .privBrokenTimeout sensor => Sys2Proof.Machine.execPrivBrokenTimeout sensor s
  | .thermalShutdown sensor => Sys2Proof.Machine.execThermalShutdown sensor s
  | .sweepReq path => Sys2Proof.Machine.execSweepReq path s
  | .windowEnd enginesAgree => Sys2Proof.Machine.execWindowEnd enginesAgree s
  | .baseRst path => Sys2Proof.Machine.execBaseRst path s
  | .celZrRead path cell bin => Sys2Proof.Machine.execCelZrRead path cell bin s
  | .sourceQualified b => Sys2Proof.Machine.execSourceQualified b s
  | .sourceLost b => Sys2Proof.Machine.execSourceLost b s
  | .sourceOv b => Sys2Proof.Machine.execSourceOv b s
  | .longQualEnd b => Sys2Proof.Machine.execLongQualEnd b s
  | .ppPrefWrite path pref auxMode => Sys2Proof.Machine.execPpPrefWrite path pref auxMode s
  | .start path => Sys2Proof.Machine.execStart path s
  | .stop path => Sys2Proof.Machine.execStop path s
  | .statClr path => Sys2Proof.Machine.execStatClr path s
  | .pointWrite path point data => Sys2Proof.Machine.execPointWrite path point data s
  | .coherentPageRead path address => Sys2Proof.Machine.execCoherentPageRead path address s
  | .couchGo path id => Sys2Proof.Machine.execCouchGo path id s
  | .couchFreeWrite path banks => Sys2Proof.Machine.execCouchFreeWrite path banks s
  | .couchReq id time => Sys2Proof.Machine.execCouchReq id time s
  | .couchAns address id result => Sys2Proof.Machine.execCouchAns address id result s
  | .couchFree ids => Sys2Proof.Machine.execCouchFree ids s
  | .couchHeld bank => Sys2Proof.Machine.execCouchHeld bank s
  | .sheetWritten flashError => Sys2Proof.Machine.execSheetWritten flashError s
  | .jnlRdSlot path slot => Sys2Proof.Machine.execJnlRdSlot path slot s
  | .jnlRdLoaded path => Sys2Proof.Machine.execJnlRdLoaded path s
  | .portUp port => Sys2Proof.Machine.execPortUp port s
  | .portDown port => Sys2Proof.Machine.execPortDown port s
  | .ringCheckSend trunk => Sys2Proof.Machine.execRingCheckSend trunk s
  | .ringCheck port serial => Sys2Proof.Machine.execRingCheck port serial s
  | .ringCheckTimeout trunk => Sys2Proof.Machine.execRingCheckTimeout trunk s
  | .ringState trunk opened source event => Sys2Proof.Machine.execRingState trunk opened source event s
  | .hello serial => Sys2Proof.Machine.execHello serial s
  | .enum path => Sys2Proof.Machine.execEnum path s
  | .claim trunk serial rank => Sys2Proof.Machine.execClaim trunk serial rank s
  | .walk port count side => Sys2Proof.Machine.execWalk port count side s
  | .walkReport trunk serial distance side => Sys2Proof.Machine.execWalkReport trunk serial distance side s
  | .assign trunk entries => Sys2Proof.Machine.execAssign trunk entries s
  | .raRead path tag dest => Sys2Proof.Machine.execRaRead path tag dest s
  | .raWrite path tag dest => Sys2Proof.Machine.execRaWrite path tag dest s
  | .raBlockRead path tag count dest => Sys2Proof.Machine.execRaBlockRead path tag count dest s
  | .rdReq source tag address count waiting => Sys2Proof.Machine.execRdReq source tag address count waiting s
  | .wrReq source tag address data waiting => Sys2Proof.Machine.execWrReq source tag address data waiting s
  | .raRsp tag result data => Sys2Proof.Machine.execRaRsp tag result data s
  | .raTimeout tag => Sys2Proof.Machine.execRaTimeout tag s
  | .raFree path tag => Sys2Proof.Machine.execRaFree path tag s
  | .distGo path control => Sys2Proof.Machine.execDistGo path control s
  | .distAbort path control => Sys2Proof.Machine.execDistAbort path control s
  | .distStart source image apply store length => Sys2Proof.Machine.execDistStart source image apply store length s
  | .distData offset bytes flashError => Sys2Proof.Machine.execDistData offset bytes flashError s
  | .distResult source result => Sys2Proof.Machine.execDistResult source result s
  | .imgReq port => Sys2Proof.Machine.execImgReq port s
  | .doorbell source => Sys2Proof.Machine.execDoorbell source s
  | .irqFwd address source stamp => Sys2Proof.Machine.execIrqFwd address source stamp s
  | .reset key unicast => Sys2Proof.Machine.execReset key unicast s
  | .fwdPop path => Sys2Proof.Machine.execFwdPop path s
  | .lnkCntClr path => Sys2Proof.Machine.execLnkCntClr path s
  | .spiWrite address words partialWord => Sys2Proof.Machine.execSpiWrite address words partialWord s
  | .spiRead address count late addressCut => Sys2Proof.Machine.execSpiRead address count late addressCut s
  | .spiReservedCmd command => Sys2Proof.Machine.execSpiReservedCmd command s
  | .i2cWrite address words partialWord => Sys2Proof.Machine.execI2cWrite address words partialWord s
  | .i2cRead address count partialAddress => Sys2Proof.Machine.execI2cRead address count partialAddress s
  | .i2cCurrentRead count => Sys2Proof.Machine.execI2cCurrentRead count s
  | .hstCntClr path => Sys2Proof.Machine.execHstCntClr path s
  | .registerWrite path address data => Sys2Proof.Machine.execRegisterWrite path address data s
  | .doorbellWrite path source => Sys2Proof.Machine.execDoorbellWrite path source s
  | .icuSrcWrite path source data => Sys2Proof.Machine.execIcuSrcWrite path source data s
  | .icuPop path intEn => Sys2Proof.Machine.execIcuPop path intEn s
  | .holdoffExpiry g => Sys2Proof.Machine.execHoldoffExpiry g s
  | .icuHoldWrite path g data => Sys2Proof.Machine.execIcuHoldWrite path g data s
  | .standbyRequest path => Sys2Proof.Machine.execStandbyRequest path s
  | .wakeLatchEdge latch => Sys2Proof.Machine.execWakeLatchEdge latch s
  | .irqEdge n rising => Sys2Proof.Machine.execIrqEdge n rising s
  | .gpioEdge n rising => Sys2Proof.Machine.execGpioEdge n rising s
  | .arm path => Sys2Proof.Machine.execArm path s
  | .evidClr path => Sys2Proof.Machine.execEvidClr path s
  | .checkin path task value counters => Sys2Proof.Machine.execCheckin path task value counters s
  | .wdgWindowClose counters => Sys2Proof.Machine.execWdgWindowClose counters s
  | .linkFrameError crc => Sys2Proof.Machine.execLinkFrameError crc s
  | .wakePulse => Sys2Proof.Machine.execWakePulse s
  | .por => Sys2Proof.Machine.execPor s
  | .bor => Sys2Proof.Machine.execBor s
  | .inputCollapse => Sys2Proof.Machine.execInputCollapse s
  | .resetNAssert => Sys2Proof.Machine.execResetNAssert s
  | .allOffTimelineEnd => Sys2Proof.Machine.execAllOffTimelineEnd s
  | .p1RegulatorsDone => Sys2Proof.Machine.execP1RegulatorsDone s
  | .p1RegulatorTimeout => Sys2Proof.Machine.execP1RegulatorTimeout s
  | .p1RetryEnd => Sys2Proof.Machine.execP1RetryEnd s
  | .p2OptionsDone => Sys2Proof.Machine.execP2OptionsDone s
  | .p2RestartWindowEnd => Sys2Proof.Machine.execP2RestartWindowEnd s
  | .pllLock => Sys2Proof.Machine.execPllLock s
  | .lockAttemptTimeout => Sys2Proof.Machine.execLockAttemptTimeout s
  | .refLostTimeout => Sys2Proof.Machine.execRefLostTimeout s
  | .lossOfLock => Sys2Proof.Machine.execLossOfLock s
  | .p4ImageDone => Sys2Proof.Machine.execP4ImageDone s
  | .p5BondDone => Sys2Proof.Machine.execP5BondDone s
  | .loaderImgRequest => Sys2Proof.Machine.execLoaderImgRequest s
  | .loaderImgTimeout => Sys2Proof.Machine.execLoaderImgTimeout s
  | .bondReceiveTimeout => Sys2Proof.Machine.execBondReceiveTimeout s
  | .bondValidationDone => Sys2Proof.Machine.execBondValidationDone s
  | .bondTakesEffect => Sys2Proof.Machine.execBondTakesEffect s
  | .syncStart => Sys2Proof.Machine.execSyncStart s
  | .syncRsp => Sys2Proof.Machine.execSyncRsp s
  | .syncFupTimeout => Sys2Proof.Machine.execSyncFupTimeout s
  | .syncHoldoverTimeout => Sys2Proof.Machine.execSyncHoldoverTimeout s
  | .vbakFirstRise => Sys2Proof.Machine.execVbakFirstRise s
  | .vbakLoss => Sys2Proof.Machine.execVbakLoss s
  | .calOverflow => Sys2Proof.Machine.execCalOverflow s
  | .commitApply => Sys2Proof.Machine.execCommitApply s
  | .oscStopDetect => Sys2Proof.Machine.execOscStopDetect s
  | .alarmFire => Sys2Proof.Machine.execAlarmFire s
  | .supervisorLaneMismatch => Sys2Proof.Machine.execSupervisorLaneMismatch s
  | .vcpShortFrame => Sys2Proof.Machine.execVcpShortFrame s
  | .vcpCrcFail => Sys2Proof.Machine.execVcpCrcFail s
  | .courseStepUp => Sys2Proof.Machine.execCourseStepUp s
  | .courseStepDown => Sys2Proof.Machine.execCourseStepDown s
  | .courseFloor => Sys2Proof.Machine.execCourseFloor s
  | .courseInvalidLow => Sys2Proof.Machine.execCourseInvalidLow s
  | .railOn => Sys2Proof.Machine.execRailOn s
  | .railOff => Sys2Proof.Machine.execRailOff s
  | .waitPg => Sys2Proof.Machine.execWaitPg s
  | .waitPgTimeout => Sys2Proof.Machine.execWaitPgTimeout s
  | .delay => Sys2Proof.Machine.execDelay s
  | .delayExpiry => Sys2Proof.Machine.execDelayExpiry s
  | .pinSet => Sys2Proof.Machine.execPinSet s
  | .setRef => Sys2Proof.Machine.execSetRef s
  | .moduleClose => Sys2Proof.Machine.execModuleClose s
  | .moduleOpen => Sys2Proof.Machine.execModuleOpen s
  | .cascInRise => Sys2Proof.Machine.execCascInRise s
  | .cascTimeout => Sys2Proof.Machine.execCascTimeout s
  | .courseLineIdle => Sys2Proof.Machine.execCourseLineIdle s
  | .confirmAnswerTimeout => Sys2Proof.Machine.execConfirmAnswerTimeout s
  | .confirmMissingTimeout => Sys2Proof.Machine.execConfirmMissingTimeout s
  | .headReportTimeout => Sys2Proof.Machine.execHeadReportTimeout s
  | .stepTimeout => Sys2Proof.Machine.execStepTimeout s
  | .linkFloor => Sys2Proof.Machine.execLinkFloor s
  | .triggerFallbackTimeout => Sys2Proof.Machine.execTriggerFallbackTimeout s
  | .cellBlockDone => Sys2Proof.Machine.execCellBlockDone s
  | .hkTick => Sys2Proof.Machine.execHkTick s
  | .hkRoundDone => Sys2Proof.Machine.execHkRoundDone s
  | .owWindowEnd => Sys2Proof.Machine.execOwWindowEnd s
  | .owTapGapEnd => Sys2Proof.Machine.execOwTapGapEnd s
  | .throttleEval => Sys2Proof.Machine.execThrottleEval s
  | .thmLockClear => Sys2Proof.Machine.execThmLockClear s
  | .sweepStart => Sys2Proof.Machine.execSweepStart s
  | .windowLeadinStart => Sys2Proof.Machine.execWindowLeadinStart s
  | .windowMeasureStart => Sys2Proof.Machine.execWindowMeasureStart s
  | .restPoint => Sys2Proof.Machine.execRestPoint s
  | .celRestoreDone => Sys2Proof.Machine.execCelRestoreDone s
  | .balSecondBoundary => Sys2Proof.Machine.execBalSecondBoundary s
  | .balOnTimeEnd => Sys2Proof.Machine.execBalOnTimeEnd s
  | .handoverDone => Sys2Proof.Machine.execHandoverDone s
  | .probeT50Expiry => Sys2Proof.Machine.execProbeT50Expiry s
  | .probeTimeout => Sys2Proof.Machine.execProbeTimeout s
  | .prechargeOffTimer => Sys2Proof.Machine.execPrechargeOffTimer s
  | .serviceRelease => Sys2Proof.Machine.execServiceRelease s
  | .serviceHeld20s => Sys2Proof.Machine.execServiceHeld20s s
  | .switchCycleTimer => Sys2Proof.Machine.execSwitchCycleTimer s
  | .shipModeSheetWritten => Sys2Proof.Machine.execShipModeSheetWritten s
  | .chargeEval => Sys2Proof.Machine.execChargeEval s
  | .searchDwellEnd => Sys2Proof.Machine.execSearchDwellEnd s
  | .searchRepeat => Sys2Proof.Machine.execSearchRepeat s
  | .sessionTmax => Sys2Proof.Machine.execSessionTmax s
  | .reamLatch => Sys2Proof.Machine.execReamLatch s
  | .meterRestoreDone => Sys2Proof.Machine.execMeterRestoreDone s
  | .histSecond => Sys2Proof.Machine.execHistSecond s
  | .midnightStats => Sys2Proof.Machine.execMidnightStats s
  | .couchAnswerTimeout => Sys2Proof.Machine.execCouchAnswerTimeout s
  | .couchInstant => Sys2Proof.Machine.execCouchInstant s
  | .journalDrain => Sys2Proof.Machine.execJournalDrain s
  | .headSearchDone => Sys2Proof.Machine.execHeadSearchDone s
  | .helloSend => Sys2Proof.Machine.execHelloSend s
  | .enumAutoStart => Sys2Proof.Machine.execEnumAutoStart s
  | .claimTimeout => Sys2Proof.Machine.execClaimTimeout s
  | .distCollectEnd => Sys2Proof.Machine.execDistCollectEnd s
  | .i2cSclTimeout => Sys2Proof.Machine.execI2cSclTimeout s
  | .intNGapEnd => Sys2Proof.Machine.execIntNGapEnd s
  | .standbyEnter => Sys2Proof.Machine.execStandbyEnter s
  | .wakeRise => Sys2Proof.Machine.execWakeRise s
  | .wdoPulseEnd => Sys2Proof.Machine.execWdoPulseEnd s
  | .cascInFall => Sys2Proof.Machine.execCascInFall s
  | .servicePress => Sys2Proof.Machine.execServicePress s
  | .serviceProcessorFault => Sys2Proof.Machine.execServiceProcessorFault s

end Sys2Proof.Machine
end

