-- ==== Sys2Proof/Machine/Tick.lean ====
section
/-! DEFINITION. The passing of time: what one instant of an idle queue does. The clocks' edges come from `Config.clockEdges`, since
the three oscillators drift against each other; everything the rows name as an event of its own stays with its row (DESIGN CHOICE: log
entry 2). -/
namespace Sys2Proof.Machine

/-- What a CLK_CORE tick brings by itself: the bricks' edges (R176 to R181), a course step that was waiting for its hold (R241), a pulse that was waiting for a
rejoin or the line (R243, R248), a floor whose last device is the
head (R262), walks that do not return (R411), distribution frames (R421). -/
def State.coreWork (s : State) : State := s.emitEdges.settleStep.heldPulse.lineReport.floorComplete.walkTimeout.distFrames

/-- A CLK_CORE tick; the accumulator adds STM_INC unless the RC oscillator drives it (R67), whose tick has then advanced SYSTIME
already. -/
def State.coreTick (byRc : Bool) (s : State) : State :=
  let s := onlyIf (s.active && !byRc) State.sweepLapse s
  let t := { s with clk := { s.clk with
    core := s.clk.core + 1
    acc := if byRc then s.clk.acc else s.clk.acc + (s.reg STM_INC).setWidth 128 } }
  if t.active then t.coreWork else t

/-- SYSTIME advances at the RC rate: the clocks run from the RC oscillator, or Standby; a start from Off or Dormant or
a power-on reset counts from the end of its P0, a brown-out from its beginning (R67). -/
def State.rcTime (s : State) : Bool :=
  s.boot.power == .standby || (s.clk.onRc && !(s.boot.timeHeld && s.boot.power == .starting && s.boot.phase == 0))

/-- The watchdog's microsecond: ten RC cycles; frozen in Standby (R448, R456). -/
def State.wdgCycle (s : State) : State :=
  if s.boot.power == .standby then s
  else if s.wdg.sub + 1 < 10 then { s with wdg := { s.wdg with sub := s.wdg.sub + 1 } }
  else ({ s with wdg := { s.wdg with sub := 0 } }).wdgTick

/-- CORE has lost its regulator or its input outside P0 and P1, where the detectors are masked (R108): VCORE falls below its
brown-out level (R43, R44). -/
def State.coreLost (s : State) : Bool :=
  s.awake && !s.pins.core && !(s.boot.power == .starting && decide (s.boot.phase ≤ 1))

/-- An RC tick. -/
def State.rcTick (s : State) : State :=
  let s := onlyIf (s.active && s.clk.onRc) State.sweepLapse s
  let t := { s with clk := { s.clk with
    rc := s.clk.rc + 1
    acc := if s.rcTime then s.clk.acc + 450359963#128 else s.clk.acc } }
  let t := t.wdgCycle
  let t := if t.coreLost then t.brownOut else t
  if t.clk.onRc && t.coreRuns then t.coreTick true else t

/-- One instant with nothing commanded. -/
def State.tick (s : State) : State :=
  let e := Config.clockEdges s.free
  let t := { s with free := s.free + 1 }
  let t := if e.getLsbD 2 then t.bakTick none else t
  let t := if e.getLsbD 1 && t.awake then t.rcTick else t
  if e.getLsbD 0 && !t.clk.onRc && t.coreRuns then t.coreTick false else t

end Sys2Proof.Machine
end

