-- ==== Sys2Proof/Safety.lean ====
section
/-! DEFINITION. What a sound state is, in the terms the statements use: the data structures of the state in their one
canonical form, and the paths and phases in which a command has its effect. -/
namespace Sys2Proof.Machine

/-- The canonical form of the state's lists: registers, flash and sample RAM by strictly rising address with no entry that
says what an unlisted one says, and sixteen bricks. -/
def State.canonical (s : State) : Bool :=
  Registers.wf s.regs && Memory.wf flashBlank s.flash && Memory.wf sramBlank s.sram && s.brk.length == 16

/-- Every queue and FIFO is within its depth: 64 entries for the host (R441), 32 sheets (R394), 64 forwarded interrupts
(R423), 16 event edges (R104); the journal's head and the slot being written are slots (R395). -/
def State.bounded (s : State) : Bool :=
  decide (s.icu.queue.length ≤ 64) && decide (s.jnl.queue.length ≤ 32) && decide (s.lnk.fwd.length ≤ 64) &&
    decide (s.bkd.fifo.length ≤ 16) && decide (s.jnl.head < slotCount) &&
    (match s.jnl.writing with
    | some slot => decide (slot < slotCount)
    | none => true)

/-- The device is in Idle or Run and takes accesses of the path. -/
def State.serves (s : State) (p : Path) : Bool := s.active && s.answers p

/-! ### Registers with an effect beside their fields -/

/-- The registers a write of which does more than Table — Field types says, each array named by its first register. -/
def actingRegs : List Nat := [GLB_PWR_CTRL, RPC_SWRST, RPC_UPD_CTRL, RPC_UPD_DATA, OTP_CTRL, STM_CTRL, RTC_CTRL, EVT_STAT, BND_CTRL,
  BND_DATA, BRK_TARGET 0, BRK_COMP 0 0, BRK_COMP_BST_THR 0, BRK_COMP_CMD_MIN 0, BRK_COMP_CMD_MAX 0, BRK_CTRL 0, BRK_FAST 0, BRK_SLOW 0,
  BRK_I2T_LIMIT 0, BRK_LANE_CTRL 0, VCP_CTRL, SEQ_CTRL, SEQ_CMD, SEQ_RAIL_MRG 0, MSR_CTRL, MSR_CELL_CFG, MSR_TDAC, MSR_DMA_CFG 0,
  CEL_CTRL, CPM_CTRL, CPM_PP_CTRL, MTR_CTRL, MTR_COUCH_CTRL, JNL_RD_SLOT, LNK_CTRL, LNK_RA_CTRL, LNK_RA_STAT 0, LNK_DIST_CTRL,
  ICU_DOORBELL, ICU_CTRL, ICU_HOLD 0, ICU_SRC 0, WDG_CTRL, WDG_CHECKIN, HST_CTRL, HST_GPIO_OUT]

/-! ### Frames -/

/-- The registers that any report may change: raising a source its word and ICU_STAT (R439 to R443), sending a frame LNK_DROP_CNT
(R423), a sheet JNL_STAT, JNL_LOST and GLB_SUMMARY (R394, R447). -/
def loud (a : Nat) : Bool := isArr (ICU_SRC 0) 4 1024 a || [ICU_STAT, JNL_STAT, JNL_LOST, GLB_SUMMARY, LNK_DROP_CNT].contains a

/-- Whether `a` is a register of one of the arrays named by the addresses of their first registers. -/
def named (regs : List Nat) (a : Nat) : Bool :=
  regs.any (fun b =>
    match regDefOf b with
    | some d => d.covers a
    | none => false)

/-- The parts of the state beside the registers, the queue of commands and the free counter. Of the interrupt controller, the
journal and the link, what a report changes is left out. -/
inductive Part where
  | shadow | clk | boot | bkd | icu | hst | wdg | jnl | pins | bnd | brk | seq | vcp | cpm | msr | thm | cel | mtr | lnk | sram | flash
deriving DecidableEq, Repr

/-- A part stands as before. -/
def Part.same (p : Part) (s t : State) : Prop :=
  match p with
  | .shadow => t.shadow = s.shadow
  | .clk => t.clk = s.clk
  | .boot => t.boot = s.boot
  | .bkd => t.bkd = s.bkd
  | .icu => t.icu.armed = s.icu.armed ∧ t.icu.again = s.icu.again ∧ t.icu.latchStamps = s.icu.latchStamps
  | .hst => t.hst = s.hst
  | .wdg => t.wdg = s.wdg
  | .jnl => t.jnl.head = s.jnl.head ∧ t.jnl.searching = s.jnl.searching ∧ t.jnl.writing = s.jnl.writing ∧
      t.jnl.drainAt = s.jnl.drainAt ∧ t.jnl.loads = s.jnl.loads
  | .pins => t.pins = s.pins
  | .bnd => t.bnd = s.bnd
  | .brk => t.brk = s.brk
  | .seq => t.seq = s.seq
  | .vcp => t.vcp = s.vcp
  | .cpm => t.cpm = s.cpm
  | .msr => t.msr = s.msr
  | .thm => t.thm = s.thm
  | .cel => t.cel = s.cel
  | .mtr => t.mtr = s.mtr
  | .lnk => t.lnk = { s.lnk with out := t.lnk.out, events := t.lnk.events, fwd := t.lnk.fwd }
  | .sram => t.sram = s.sram
  | .flash => t.flash = s.flash

/-- From `s` to `t` no register changed but the loud ones, the registers `own`, and those of the arrays named; and no part but
those named. -/
def WithinAt (own regs : List Nat) (parts : List Part) (s t : State) : Prop :=
  (∀ a, loud a = false → a ∉ own → named regs a = false → t.reg a = s.reg a) ∧ ∀ p, p ∉ parts → p.same s t

/-- The same with arrays alone. -/
def Within (regs : List Nat) (parts : List Part) (s t : State) : Prop := WithinAt [] regs parts s t

/-- Of each field that only a reset of a level numbered below `lvl` restores (R7), nothing changed outside the arrays named. -/
def KeptBelow (lvl : Nat) (regs : List Nat) (s t : State) : Prop :=
  ∀ a, loud a = false → named regs a = false → ∀ f ∈ fieldsOf a, f.level < lvl → t.reg a &&& f.mask = s.reg a &&& f.mask

/-- The lowest level, as KeptBelow counts them, that a reset in progress restores: that of the start, or of the restart; beyond every
level where none is in progress (R7, R121). -/
def State.levelLeft (t : State) : Nat :=
  if t.boot.power = .starting then 2 + t.boot.level
  else match t.boot.restart with
    | some l => 2 + l
    | none => 6

/-- What a transaction of one word leaves at a host port beside the registers. -/
def portParts (p : Path) : List Part := if p = .spi ∨ p = .i2c then [.hst] else []

/-- Every brick but `n` stands. -/
def BrickAlone (n : Nat) (s t : State) : Prop := ∀ m, m ≠ n → t.brick m = s.brick m

/-- Every byte of the flash outside the ranges, each a first address and a length, reads as before. -/
def FlashWithin (ranges : List (Nat × Nat)) (s t : State) : Prop :=
  ∀ a, (∀ r ∈ ranges, a < r.1 ∨ r.1 + r.2 ≤ a) → t.flashAt a = s.flashAt a

/-- Every byte of the sample RAM outside the ranges reads as before. -/
def SramWithin (ranges : List (Nat × Nat)) (s t : State) : Prop :=
  ∀ a, (∀ r ∈ ranges, a < r.1 ∨ r.1 + r.2 ≤ a) → t.sramAt a = s.sramAt a

/-- The journal's slot that a sheet is being written into. -/
def State.slotRange (s : State) : List (Nat × Nat) :=
  match s.jnl.writing with
  | some slot => [(slotAddress slot, 64)]
  | none => []

/-- The sector that a sheet in the first slot of its own erases. -/
def State.sectorRange (s : State) : List (Nat × Nat) :=
  match s.jnl.writing with
  | some slot => if slot % 64 = 0 then [(slotAddress ((slot + 64) % slotCount), 4096)] else []
  | none => []

/-- The bond slot that a store writes: its bond and its seal (R150). -/
def State.storeRange (s : State) : List (Nat × Nat) :=
  match s.bnd.storing with
  | some b => [(slotBase s.otherSlot, max 0x11000 b.1.length)]
  | none => []

/-- The flash block that the next block of an update goes to (R136). -/
def State.blockRange (s : State) : List (Nat × Nat) := [(blockSize * (s.boot.updImage.length / blockSize), blockSize)]

/-- Bytes of one record of stream `k` (R288): those of its channels, or of the cell samples of the round in progress. -/
def State.recordLength (s : State) (k : Nat) : Nat :=
  let r := s.recordSize (s.fld (MSR_DMA_CFG_SRC k)) (s.fld (MSR_DMA_CFG_CH_MASK k))
  match s.msr.round with
  | some q => if s.fld (MSR_DMA_CFG_SRC k) = 1 then max 4 (4 * ((q.2.2.length + 2) / 2)) else r
  | none => if s.fld (MSR_DMA_CFG_SRC k) = 1 then 4 else r

/-- Where stream `k` writes next: its record, and the stamp of the block it begins (R289). -/
def State.streamRanges (s : State) (k : Nat) : List (Nat × Nat) :=
  let w := s.fld (MSR_DMA_WPTR_WPTR k)
  [(s.fld (MSR_DMA_BASE_ADDR k) + w, s.recordLength k),
    (s.fld (MSR_DMA_STAMP_ADDR k) + 8 * (w / max (s.fld (MSR_DMA_GEOM_BLKLEN k)) 1), 8)]

/-- Every OTP row but the one of a command in progress holds what it held. -/
def OtpWithin (s t : State) : Prop := ∀ row, (∀ c, s.boot.otpCmd = some c → c.row ≠ row) → t.otpRow row = s.otpRow row

/-- The totals, the cycles, the running ream and its place in the banks, which R383 keeps through every reset but a power-on
reset (log entry 15). -/
def MetersKept (s t : State) : Prop :=
  t.mtr.tot = s.mtr.tot ∧ t.mtr.cycRem = s.mtr.cycRem ∧ t.mtr.cycles = s.mtr.cycles ∧ t.mtr.run = s.mtr.run ∧
    t.mtr.index = s.mtr.index ∧ t.mtr.start = s.mtr.start ∧ t.mtr.slot = s.mtr.slot

/-- The interrupt controller beyond the sources `own`: every other source keeps its word, its place in the host queue and its
wait, and every group but those of `groups` and those that one of `own` belongs to its hold (R439 to R442). -/
def IcuWithin (own groups : List Nat) (s t : State) : Prop :=
  (∀ k, k < 1024 → k ∉ own → t.reg (ICU_SRC k) = s.reg (ICU_SRC k)) ∧
  (∀ e : QEntry, e.source ∉ own → (e ∈ t.icu.queue ↔ e ∈ s.icu.queue)) ∧
  (∀ k, k ∉ own → (k ∈ t.icu.waiting ↔ k ∈ s.icu.waiting) ∧ (k ∈ t.icu.stuck ↔ k ∈ s.icu.stuck)) ∧
  (∀ g, g ∉ groups → (∀ k ∈ own, s.fld (ICU_SRC_GROUP k) ≠ g ∧ t.fld (ICU_SRC_GROUP k) ≠ g) →
    t.icu.held.find? (fun p => decide (p.1 = g)) = s.icu.held.find? (fun p => decide (p.1 = g)))

/-- The sources that an access, and a delivery, raise in turn: bus and configuration errors, a full queue, the forward FIFO. -/
def turnSources : List Nat := [0, 2, 6, 683, 684]

/-- The pieces of the link beyond what a report changes: frames seen, the rings, enumeration, remote tags, the exchange with the
time parent, distributions sent, served and received, couch answers, frame errors. -/
inductive LnkPart where
  | seen | string | trunk | enumeration | hello | tags | sync | sending | serve | dist | couch | errors
deriving DecidableEq, Repr

/-- A piece of the link stands as before. -/
def LnkPart.same (p : LnkPart) (s t : State) : Prop :=
  match p with
  | .seen => t.lnk.seen = s.lnk.seen
  | .string => t.lnk.string = s.lnk.string
  | .trunk => t.lnk.trunk = s.lnk.trunk
  | .enumeration => t.lnk.pass = s.lnk.pass ∧ t.lnk.passAt = s.lnk.passAt ∧ t.lnk.candidate = s.lnk.candidate ∧
      t.lnk.reports = s.lnk.reports ∧ t.lnk.table = s.lnk.table ∧ t.lnk.heads = s.lnk.heads ∧ t.lnk.claims = s.lnk.claims ∧
      t.lnk.assigned = s.lnk.assigned ∧ t.lnk.named = s.lnk.named ∧ t.lnk.others = s.lnk.others ∧
      t.lnk.claimSeen = s.lnk.claimSeen ∧ t.lnk.late = s.lnk.late ∧ t.lnk.enumAt = s.lnk.enumAt
  | .hello => t.lnk.helloAt = s.lnk.helloAt
  | .tags => t.lnk.tags = s.lnk.tags
  | .sync => t.lnk.syncT1 = s.lnk.syncT1 ∧ t.lnk.syncT4 = s.lnk.syncT4 ∧ t.lnk.syncLast = s.lnk.syncLast
  | .sending => t.lnk.sending = s.lnk.sending ∧ t.lnk.distImage = s.lnk.distImage ∧ t.lnk.distAt = s.lnk.distAt
  | .serve => t.lnk.serve = s.lnk.serve
  | .dist => t.lnk.dist = s.lnk.dist
  | .couch => t.lnk.couchAt = s.lnk.couchAt ∧ t.lnk.couchId = s.lnk.couchId
  | .errors => t.lnk.crcNew = s.lnk.crcNew ∧ t.lnk.codeNew = s.lnk.codeNew ∧ t.lnk.errAt = s.lnk.errAt

/-- No piece of the link but those named, and its reports, changed. -/
def LnkWithin (parts : List LnkPart) (s t : State) : Prop := ∀ p, p ∉ parts → p.same s t

/-- What a bus error changes (R429). -/
def busErrRegs : List Nat := [GLB_STAT, GLB_BUS_ERR_INFO, GLB_BUS_ERR_ADDR]

/-- The address of word `k` of a write transaction. -/
def wordAt (address : Word) (k : Nat) : Nat := (address + BitVec.ofNat 32 (4 * k)).toNat

/-- What a write at `a` may change where it has no effect beside its fields: the register, and its block's error flag and
record. -/
def wroteRegs (a : Nat) : List Nat :=
  [a, (cfgErrOf a).1.reg] ++ if (cfgErrOf a).2.1 = 0 then [] else [(cfgErrOf a).2.1]

/-- The registers of a brick (R187, R215). -/
def brickRegs : List Nat := [
  BRK_CFG 0, BRK_STAT 0, BRK_PERIOD 0, BRK_DT_RISE 0, BRK_DT_FALL 0, BRK_PHASE_OFS 0, BRK_TARGET 0, BRK_SLEW 0,
  BRK_REF 0, BRK_FB 0, BRK_CMD 0, BRK_INNER 0, BRK_SETTLE 0, BRK_CNT 0, BRK_CTRL 0, BRK_CFG_ERR_INFO 0, BRK_COMP 0 0,
  BRK_COMP_BST_THR 0, BRK_COMP_CMD_MIN 0, BRK_COMP_CMD_MAX 0, BRK_LANE_STAT 0, BRK_LANE_EV 0, BRK_LANE_A_CNT 0,
  BRK_LANE_B_CNT 0, BRK_HOLD 0, BRK_FAST 0, BRK_SLOW 0, BRK_I2T_LIMIT 0, BRK_I2T 0, BRK_LIM_AVG 0, BRK_LIM_STAT 0,
  BRK_SS 0, BRK_LANE_CTRL 0]

/-- What an all-off changes (R48, R255), with the charge session, the setpoint records and the re-lay it ends. -/
def allOffRegs : List Nat := [SEQ_FAULT, SEQ_STAT, SEQ_ON, SEQ_PG, SEQ_RAIL_STAT 0, BRK_STAT 0, BRK_SS 0, BRK_LANE_STAT 0,
  BRK_HOLD 0, BRK_LIM_STAT 0, BRK_TARGET 0, VCP_REC_LO 0, VCP_REC_HI 0, CPM_CHG_STAT, CPM_CHG_TIME, CPM_SW_STAT, MSR_STAT, MSR_TDAC,
  BND_STAT, BND_ERR, BND_ERR_BYTE]
def allOffParts : List Part := [.bnd, .brk, .cel, .cpm, .msr, .pins, .seq, .vcp]

/-- What a command that may enter a reset keeps, by the level that `t` is in (R7): below L1 every field but those of the arrays
named, above it also those that an all-off changes (R48). -/
def KeptByLevel (regs : List Nat) (s t : State) : Prop :=
  KeptBelow (min 3 t.levelLeft) regs s t ∧ KeptBelow t.levelLeft (allOffRegs ++ regs) s t

/-- The error that validation records, if it rejects (R146). -/
def rejectionOf (r : Except BondErr (List Tile)) : Option BondErr :=
  match r with
  | .error e => some e
  | .ok _ => none

end Sys2Proof.Machine
end

