-- ==== Sys2Proof/Certificates/Slice0/Obligations.lean ====
section
/-! DEFINITION. The statements for the provers: what every step does and keeps, what registers and resets do, that every
command completes with its effect, and what each command leaves alone. -/

open Sys2Proof Sys2Proof.Machine

/-- A step takes the command at the front of the queue and is exec of it on the state with the queue's rest. That
commands wait in one queue, first in, first out, is the model's choice (log entry 1). -/
def Obligations.StepRunsFront : Prop :=
  ∀ (s : State) (c : Instr) (rest : List Instr), step { s with pending := c :: rest } = exec c { s with pending := rest }

/-- On an empty queue a step lets one instant pass, in which those clocks tick that the free constant clockEdges names;
in Off and Dormant only the backup oscillator does. A CLK_CORE tick adds STM_INC to the accumulator unless the RC
oscillator drives it; an RC tick adds 450,359,963 while the clocks run from the RC oscillator or in Standby, but not
in P0 of a start from power-on, Off or Dormant; a backup tick adds nothing. That an idle step is one instant is the
model's choice (log entry 2). -/
def Obligations.TimePasses : Prop :=
  (∀ s : State, s.pending = [] →
    step s = .next s.tick ∧
    (s.awake = false → step s = .next (
      if (Config.clockEdges s.free).getLsbD 2 then ({ s with free := s.free + 1 }).bakTick none
      else { s with free := s.free + 1 }))) ∧
  (∀ s : State,
    (s.coreTick false).clk.acc = s.clk.acc + (s.reg STM_INC).setWidth 128 ∧
    (s.coreTick true).clk.acc = s.clk.acc ∧
    (s.rcTime = true → s.rcTick.clk.acc = s.clk.acc + 450359963#128) ∧
    (s.rcTime = false → s.rcTick.clk.acc = s.clk.acc) ∧
    (∀ set, (s.bakTick set).clk.acc = s.clk.acc))

/-- No command ends in a fault or a refusal: exec answers a next state for every command and every state. That an event
whose premises do not hold changes nothing is the model's choice (log entry 3). -/
def Obligations.ExecNeverStops : Prop := ∀ (c : Instr) (s : State), ∃ t, exec c s = .next t

/-- The effect of a command is on everything but the queue: the commands that wait behind it stand as they were, a reset
among them. The queue is the model's own (log entry 1, DESIGN CHOICE); R430 says only that the accesses of a path
are carried out in order. -/
def Obligations.ExecKeepsQueue : Prop :=
  ∀ (c : Instr) (s t : State), exec c s = .next t → t.pending = s.pending

/-- After a power-on reset every register reads what its Reset column gives, but for RST_CAUSE, which names the
power-on, and RESTORING, which R384 sets to 1; the device starts in P0 with every output released. FACTORY row 2 of
the OTP names a grade that R482 knows. That nothing is in progress in a state the registers do not show (phase,
level, queues, FIFOs and tiles empty) is how the model holds a device that has just been reset (log entry 6, DESIGN
CHOICE); the other values the spec does not give are not stated. -/
def Obligations.ResetValues : Prop :=
  (∀ a : Nat, a ≠ RPC_RST_CAUSE → a ≠ MTR_STAT → State.reset.reg a = regReset a) ∧
  State.reset.reg RPC_RST_CAUSE = 1 ∧ State.reset.flag MTR_STAT_RESTORING = true ∧
  State.reset.reg STM_INC = 0x011E54C6 ∧ State.reset.flag LNK_ADDR_UNADDR = true ∧
  State.reset.boot.power = .starting ∧ State.reset.boot.phase = 0 ∧ State.reset.boot.level = 0 ∧
  State.reset.pins.gates = .released ∧ State.reset.pins.core = false ∧ State.reset.icu.queue = [] ∧
  ((State.reset.otpRow 2).data.toNat % 16 = 1 ∨ (State.reset.otpRow 2).data.toNat % 16 = 2) ∧
  State.reset.jnl.queue = [] ∧ State.reset.lnk.fwd = [] ∧ State.reset.bnd.tiles = [] ∧ State.reset.pending = []

/-- The state after a power-on reset meets the two invariants that every step keeps. -/
def Obligations.ResetSound : Prop := State.reset.canonical = true ∧ State.reset.bounded = true

/-- Registers, flash and sample RAM stay in their one canonical form, so equal contents are equal data, and the bricks
stay sixteen: from every canonical state, whatever command is at the front of the queue or with the queue empty, a
step that answers a next state answers a canonical one. -/
def Obligations.StepKeepsCanonical : Prop :=
  ∀ s t : State, s.canonical = true → step s = .next t → t.canonical = true

/-- The host interrupt queue never holds more than 64 entries, the journal queue more than 32 sheets, the forward FIFO
more than 64 entries or the event FIFO more than 16, and the journal's head stays one of the 94,208 slots: from
every state within these depths, a step that answers a next state answers one within them. -/
def Obligations.StepKeepsDepths : Prop :=
  ∀ s t : State, s.bounded = true → step s = .next t → t.bounded = true

/-- Restoring at a level gives every field whose restoring level is that one or a higher-numbered one its reset value,
keeps every other field bit for bit, and leaves the registers outside the selection alone; a software reset in Idle,
at whatever level RST_MAP gives it, does so to every register but RST_CAUSE and RST_STAT, which record the reset
itself, OTP_STAT, whose RESULT tells of a program command it cut (R126), WDG_EV_STAT, whose CUT tells of a WDO pulse
it cut (R459), and at L2 the setpoint port's records, which it clears besides (R52). Levels are numbered 1 for /
POR, 2 to 5 for / L0 to / L3, and a / BKP field has 0. -/
def Obligations.RestoreByLevel : Prop :=
  (∀ (s : State) (lvl : Nat) (p : Nat → Bool), Registers.wf s.regs = true → ∀ a : Nat,
    (p a = false → (s.restore lvl p).reg a = s.reg a) ∧
    (p a = true → ∀ f ∈ fieldsOf a, ∀ i : Nat, f.lo ≤ i → i < f.lo + f.width →
      ((s.restore lvl p).reg a).getLsbD i = if lvl ≤ f.level then f.reset.testBit (i - f.lo) else (s.reg a).getLsbD i)) ∧
  (∀ (s : State) (path : Path), Registers.wf s.regs = true → s.answers path = true → s.early path RPC_SWRST = false →
    s.idle = true → s.boot.waiting = none → s.boot.restart = none → s.flag CEL_STAT_SWEEP = false →
    ∃ t, exec (.swrst path) s = .next t ∧ ∀ a : Nat, a ∉ [RPC_RST_CAUSE, RPC_RST_STAT, OTP_STAT, WDG_EV_STAT] →
      (named [VCP_REC_LO 0, VCP_REC_HI 0] a = true → s.mapLevel 4 ≠ 2) → ∀ f ∈ fieldsOf a, ∀ i : Nat, f.lo ≤ i → i < f.lo + f.width →
      (t.reg a).getLsbD i = if 2 + s.mapLevel 4 ≤ f.level then f.reset.testBit (i - f.lo) else (s.reg a).getLsbD i)

/-- The backup domain is an island: a power-on reset, a brown-out, a collapse of the input, RESET_N, a software reset at
any level, the wake from Dormant and the way into it leave its count, its FIFO, its commit in progress and every /
BKP field of its registers as they stand; a rise of VBAK after an absence restores every such field and empties it.
-/
def Obligations.BackupKeptThroughResets : Prop :=
  (∀ (s t : State) (c : Instr), c ∈ [.por, .bor, .inputCollapse, .resetNAssert, .wakePulse, .shipModeSheetWritten,
      .swrst .spi, .swrst .i2c, .swrst .link, .swrst .sup, .allOffTimelineEnd, .wdoPulseEnd, .switchCycleTimer,
      .supervisorLaneMismatch, .serviceProcessorFault, .reset 0x5E7A true, .resetNRelease false,
      .resetNRelease true, .l2RestartDone true, .l2RestartDone false, .l3RestartDone true, .l3RestartDone false, .standbyEnter] →
    exec c s = .next t → t.bkd.powered = s.bkd.powered ∧ t.bkd.sec = s.bkd.sec ∧ t.bkd.frac = s.bkd.frac ∧
      t.bkd.fifo = s.bkd.fifo ∧ t.bkd.commit = s.bkd.commit ∧
      ∀ a : Nat, a / 0x10000 = 4 → Registers.wf s.regs = true → ∀ f ∈ fieldsOf a, f.level = 0 →
        t.reg a &&& f.mask = s.reg a &&& f.mask) ∧
  (∀ (s : State), s.bkd.powered = false → Registers.wf s.regs = true →
    ∃ t, exec .vbakFirstRise s = .next t ∧ t.bkd.powered = true ∧ t.bkd.sec = 0 ∧ t.bkd.frac = 0 ∧ t.bkd.fifo = [] ∧
      t.bkd.commit = none ∧ ∀ a : Nat, a / 0x10000 = 4 → ∀ f ∈ fieldsOf a, f.level = 0 →
        t.reg a &&& f.mask = regReset a &&& f.mask)

/-- A software reset at L0 or L1 with a rail above course 0 performs an all-off with code 0x0D0A and waits; at the end
of the timeline the level is entered, with its source, its level and the all-off's code kept. Three of its clauses
are the model's choice and no rule of the spec: that the all-off comes in the one step of the request (log entry 4,
DESIGN CHOICE), that the gates go low only where a bond drives them (log entry 12, DEDUCED), and that the level
waits as a request of its own, performed at the timeline's end with PRE_RST_FAULT holding the code that stands there
(log entry 16, DEDUCED). -/
def Obligations.ResetWaitsForAllOff : Prop :=
  (∀ (s : State) (p : Path), s.answers p = true → s.early p RPC_SWRST = false → s.railUp = true → s.mapLevel 4 ≤ 1 →
    s.boot.waiting = none → s.boot.restart = none → s.flag SEQ_FAULT_ACTIVE = false →
    ∃ t, exec (.swrst p) s = .next t ∧ t.boot.power = .active ∧ t.boot.waiting = some (s.mapLevel 4, 4) ∧
      t.fld SEQ_FAULT_CODE = 0x0D0A ∧ t.flag SEQ_FAULT_ACTIVE = true ∧
      t.pins.gates = (if s.hasBond then .low else s.pins.gates) ∧ t.seq.timeline = true ∧
      bitsOf (t.fld RPC_RST_CAUSE_CAUSE) 4 1 = 1) ∧
  (∀ (s : State) (l k : Nat), s.active = true → s.seq.timeline = true → s.thm.resetDue = false →
    s.boot.waiting = some (l, k) → l ≤ 1 → k < 9 → s.boot.restart = none → s.flag SEQ_FAULT_ACTIVE = true →
    ∃ t, exec .allOffTimelineEnd s = .next t ∧ t.boot.power = .starting ∧ t.boot.level = l ∧ t.boot.waiting = none ∧
      t.fld RPC_RST_STAT_LAST_SRC = k ∧ t.fld RPC_RST_STAT_LAST_LEVEL = l ∧
      t.fld RPC_RST_STAT_PRE_RST_FAULT = s.fld SEQ_FAULT_CODE)

/-- A software reset at L2 or L3 performs no all-off: the device stays in Idle or Run, the courses and rails, every
brick's state, reference, command and target and the gates stand as before, and only the restart is in progress,
with LAST_SRC and LAST_LEVEL. -/
def Obligations.RestartKeepsRegulation : Prop :=
  ∀ (s : State) (p : Path), s.answers p = true → s.early p RPC_SWRST = false → s.active = true →
    2 ≤ s.mapLevel 4 → s.boot.waiting = none → s.boot.restart = none → Registers.wf s.regs = true →
    ∃ t, exec (.swrst p) s = .next t ∧ t.boot.power = .active ∧ t.boot.restart = some (s.mapLevel 4) ∧
      t.seq = s.seq ∧ t.pins.gates = s.pins.gates ∧ t.pins.faultN = s.pins.faultN ∧ t.reg SEQ_STAT = s.reg SEQ_STAT ∧
      t.reg SEQ_ON = s.reg SEQ_ON ∧ t.reg SEQ_FAULT = s.reg SEQ_FAULT ∧
      (∀ n : Nat, n < 16 → t.fld (BRK_STAT_STATE n) = s.fld (BRK_STAT_STATE n) ∧ t.reg (BRK_REF n) = s.reg (BRK_REF n) ∧
        t.reg (BRK_CMD n) = s.reg (BRK_CMD n) ∧ t.reg (BRK_TARGET n) = s.reg (BRK_TARGET n)) ∧
      t.fld RPC_RST_STAT_LAST_SRC = 4 ∧ t.fld RPC_RST_STAT_LAST_LEVEL = s.mapLevel 4

/-- An accepted write of a register that only holds its fields answers the state with that one register changed, bit by
bit as Table — Field types says: RW takes the written bit, a 1 clears an RW1C bit, a 1 sets an RWS bit, and RO, WO
and every bit outside a field keep what they hold. On a host port what the port tells of the transaction changes
besides. The registers are those of every block, but for the ones with an effect beside their fields, which
actingRegs names. -/
def Obligations.PlainRegisterWrite : Prop :=
  ∀ (s : State) (p : Path) (a w : Word), named actingRegs a.toNat = false → (a.toNat / 0x10000 = 4 → s.bkd.powered = true) →
    s.answers p = true → s.busFault p true a.toNat = none → reservedBit (fieldsOf a.toNat) w = none →
    s.refused p a.toNat w = none → (fieldsOf a.toNat).any FieldSpec.writable = true →
    ∃ (v : Word) (h : Hst), exec (.registerWrite p a w) s = .next { s.setReg a.toNat v with hst := h } ∧
      (portParts p = [] → h = s.hst) ∧
      (∀ f ∈ fieldsOf a.toNat, ∀ i : Nat, f.lo ≤ i → i < f.lo + f.width →
        v.getLsbD i = match f.kind with
          | .rw => w.getLsbD i
          | .rw1c => (s.reg a.toNat).getLsbD i && !w.getLsbD i
          | .rws => (s.reg a.toNat).getLsbD i || w.getLsbD i
          | .ro => (s.reg a.toNat).getLsbD i
          | .wo => (s.reg a.toNat).getLsbD i) ∧
      (∀ i : Nat, (∀ f ∈ fieldsOf a.toNat, ¬(f.lo ≤ i ∧ i < f.lo + f.width)) →
        v.getLsbD i = (s.reg a.toNat).getLsbD i)

/-- A write to an offset of a register window that names no register, or to a register whose every field is RO, changes
nothing and records no error; on a host port only what the port tells of the transaction changes. Off, Dormant, in
Standby, before P4 and during an L2 restart the two host ports do not answer: no write has an effect and no read
freezes anything. -/
def Obligations.WritesWithoutEffect : Prop :=
  (∀ (s : State) (p : Path) (a w : Word), s.busFault p true a.toNat = none → windowOf a.toNat = some .regs →
    (∀ f ∈ fieldsOf a.toNat, f.kind = .ro) →
    ∃ h : Hst, exec (.registerWrite p a w) s = .next { s with hst := h } ∧ (portParts p = [] → h = s.hst)) ∧
  (∀ (s : State) (p : Path) (a w : Word), (p = .spi ∨ p = .i2c) →
    (s.boot.power = .off ∨ s.boot.power = .dormant ∨ s.boot.power = .standby ∨ s.boot.restart = some 2 ∨
      (s.boot.power = .starting ∧ s.boot.phase < 4)) →
    exec (.registerWrite p a w) s = .next s ∧ s.busRead p a = (0, s))

/-- A write that uses a reserved encoding or breaks a rule between fields is ignored as a whole: it sets the block's
CFG_ERR, and no register changes but the one with that flag, the block's record and what raising its source changes;
on a host port, what the port tells of the transaction. -/
def Obligations.RefusedWrite : Prop :=
  ∀ (s : State) (p : Path) (a w : Word) (b : Nat), s.answers p = true → s.busFault p true a.toNat = none →
    windowOf a.toNat = some .regs → (a.toNat / 0x10000 = 4 → s.bkd.powered = true) →
    (fieldsOf a.toNat).any FieldSpec.writable = true →
    lowest (reservedBit (fieldsOf a.toNat) w) (s.refused p a.toNat w) = some b →
    ∃ t, exec (.registerWrite p a w) s = .next t ∧ t.flag (cfgErrOf a.toNat).1 = true ∧
      WithinAt [(cfgErrOf a.toNat).1.reg, (cfgErrOf a.toNat).2.1] [] (portParts p) s t

/-- A refused write while CFG_ERR is clear records the register's offset and the lowest bit of the offending field; a
refused write while CFG_ERR is set changes neither the record nor the flag. Two points are the model's choice and no
rule of the spec: that FIELD_BIT is the lowest of the reserved bit and the refused bit where a write breaks more
than one rule (log entry 9, DEDUCED), and that an offset that does not fit the record leaves a free value there (log
entry 8, DESIGN CHOICE). -/
def Obligations.FirstCfgErrorKept : Prop :=
  ∀ (s : State) (p : Path) (a w : Word) (b : Nat), s.answers p = true → s.busFault p true a.toNat = none →
    windowOf a.toNat = some .regs → (a.toNat / 0x10000 = 4 → s.bkd.powered = true) →
    (fieldsOf a.toNat).any FieldSpec.writable = true →
    lowest (reservedBit (fieldsOf a.toNat) w) (s.refused p a.toNat w) = some b → (cfgErrOf a.toNat).2.1 ≠ 0 →
    ∃ t, exec (.registerWrite p a w) s = .next t ∧
      (s.flag (cfgErrOf a.toNat).1 = false → bitsOf (t.reg (cfgErrOf a.toNat).2.1).toNat 0 5 = b ∧
        (blockOffset a.toNat < 4096 → bitsOf (t.reg (cfgErrOf a.toNat).2.1).toNat 16 12 = blockOffset a.toNat)) ∧
      (s.flag (cfgErrOf a.toNat).1 = true → t.reg (cfgErrOf a.toNat).2.1 = s.reg (cfgErrOf a.toNat).2.1 ∧
        t.flag (cfgErrOf a.toNat).1 = true)

/-- An access that is not aligned, or outside every window, sets BUS_ERR; the record takes its path, kind and address if
BUS_ERR was clear and stands otherwise; a read gives 0; nothing else changes but what raising source 0 changes and
what a host port tells of the transaction: bit 5 of the next SPI status byte, the missing ACK on I²C. An address
that is both not aligned and outside every window is KIND 1 (log entry 21, DEDUCED). -/
def Obligations.BusErrorRecord : Prop :=
  ∀ (s : State) (p : Path) (a w : Word) (kind : Nat), s.answers p = true →
    (kind = 1 ∧ a.toNat % 4 ≠ 0 ∨ kind = 3 ∧ a.toNat % 4 = 0 ∧ windowOf a.toNat = none) →
    ∃ t h, exec (.registerWrite p a w) s = .next { t with hst := h } ∧ s.busRead p a = (0, t) ∧
      (p = .spi → h.prevBus = true) ∧ (p = .i2c → h.nack = true) ∧ (portParts p = [] → h = t.hst) ∧
      t.flag GLB_STAT_BUS_ERR = true ∧ Within busErrRegs [] s t ∧
      (s.flag GLB_STAT_BUS_ERR = false → t.reg GLB_BUS_ERR_ADDR = a ∧
        bitsOf (t.reg GLB_BUS_ERR_INFO).toNat 27 3 = kind ∧ bitsOf (t.reg GLB_BUS_ERR_INFO).toNat 30 2 = pathCode p) ∧
      (s.flag GLB_STAT_BUS_ERR = true → t.reg GLB_BUS_ERR_ADDR = s.reg GLB_BUS_ERR_ADDR ∧
        t.reg GLB_BUS_ERR_INFO = s.reg GLB_BUS_ERR_INFO)

/-- A read of a trigger word answers its live word and freezes the words of its page for its own path: whatever happens
later to the registers, that path reads what stood there at the trigger read until it reads the trigger again, and
the other paths' shadows stand. -/
def Obligations.ReadFreezesPage : Prop :=
  ∀ (s u : State) (p q : Path) (a b : Nat), b ∈ frozenBy a → s.answers p = true →
    s.busFault p false a = none → (s.busRead p (adr a)).1 = s.live a ∧
    (pathShadow q ≠ pathShadow p → ∀ c : Nat, lookupD (s.busRead p (adr a)).2.shadow (pathShadow q, c) 0 =
      lookupD s.shadow (pathShadow q, c) 0) ∧
    (u.shadow = (s.busRead p (adr a)).2.shadow → u.answers p = true → u.busFault p false b = none →
      (u.busRead p (adr b)).1 = s.live b)

/-- A register write from the host port and one from the link have the same effect on every register that keeps no trace
of its writer (BRK_TARGET does, R167, and JNL_RD_SLOT is each path's own, R397), but for what the port tells of its
own transaction; and of two accepted writes to a register of read-write fields without an effect beside them the
second, the link's, stands whatever the first, the host's, was. -/
def Obligations.EqualRank : Prop :=
  (∀ (s : State) (a w : Word), s.answers .spi = true → s.answers .link = true → s.busFault .spi true a.toNat = none →
    (∀ n : Nat, n < 16 → a.toNat ≠ BRK_TARGET n) → a.toNat ≠ JNL_RD_SLOT →
    ∃ t h, exec (.registerWrite .link a w) s = .next t ∧ exec (.registerWrite .spi a w) s = .next { t with hst := h }) ∧
  (∀ (s : State) (a w v : Word), s.answers .spi = true → s.answers .link = true → s.busFault .spi true a.toNat = none →
    named actingRegs a.toNat = false → (a.toNat / 0x10000 = 4 → s.bkd.powered = true) →
    (∀ f ∈ fieldsOf a.toNat, f.kind = .rw) → (fieldsOf a.toNat).any FieldSpec.writable = true →
    reservedBit (fieldsOf a.toNat) w = none → s.refused .spi a.toNat w = none →
    reservedBit (fieldsOf a.toNat) v = none → s.refused .link a.toNat v = none →
    ∃ t u, exec (.registerWrite .spi a w) s = .next t ∧ exec (.registerWrite .link a v) t = .next u ∧
      ∀ f ∈ fieldsOf a.toNat, ∀ i : Nat, f.lo ≤ i → i < f.lo + f.width → (u.reg a.toNat).getLsbD i = v.getLsbD i)

/-- The head entry is the entry with the highest priority, then the earliest timestamp, then the lowest source number,
and ICU_HOST_0 shows it. Timestamps are compared as R68 says, so those of the queue are taken to lie within 2⁶³ of
some instant. -/
def Obligations.HeadEntryOrder : Prop :=
  ∀ (s : State) (o : Time), s.icu.queue ≠ [] → (∀ e ∈ s.icu.queue, (e.stamp - o).toNat < 2 ^ 63) →
    ∃ h ∈ s.icu.queue, headEntry s.icu.queue = some h ∧
      (∀ e ∈ s.icu.queue, e.prio < h.prio ∨ (e.prio = h.prio ∧ ((h.stamp - o).toNat < (e.stamp - o).toNat ∨
        (h.stamp = e.stamp ∧ h.source ≤ e.source)))) ∧
      (h.source < 1024 → h.prio < 4 → s.icu.queue.length ≤ 64 →
        bitsOf (s.live ICU_HOST_0).toNat 31 1 = 1 ∧ bitsOf (s.live ICU_HOST_0).toNat 0 10 = h.source ∧
        bitsOf (s.live ICU_HOST_0).toNat 28 2 = h.prio ∧ bitsOf (s.live ICU_HOST_0).toNat 16 7 = s.icu.queue.length)

/-- A doorbell to a source with DEST 3 that finds 64 entries in the host queue sets QFULL_EV, leaves the queue as it is
and its source pending; the next pop frees the head's place, and the waiting source takes it. -/
def Obligations.FullQueueKeepsPending : Prop :=
  (∀ (s : State) (p : Path) (k : Nat), 832 ≤ k → k ≤ 1023 → s.answers p = true → s.early p ICU_DOORBELL = false →
    s.icuRuns = true → s.icu.queue.length = 64 → (∀ e ∈ s.icu.queue, e.source ≠ k) → s.flag (ICU_SRC_PEND k) = false →
    s.flag (ICU_SRC_EN k) = true → s.fld (ICU_SRC_DEST k) = 3 → 32 ≤ s.fld (ICU_SRC_GROUP k) →
    (∀ h ∈ s.icu.held, h.1 ≠ s.fld (ICU_SRC_GROUP k)) → s.icu.stuck = [] → s.flag (ICU_SRC_EN 6) = false →
    ∃ t, exec (.doorbellWrite p (BitVec.ofNat 10 k)) s = .next t ∧ t.flag (ICU_SRC_PEND k) = true ∧
      t.flag ICU_STAT_QFULL_EV = true ∧ t.icu.queue = s.icu.queue ∧ t.icu.stuck = [k]) ∧
  (∀ (s : State) (p : Path) (intEn : Bool) (k : Nat) (e : QEntry), s.answers p = true → s.early p ICU_CTRL = false →
    k < 1024 → s.icu.queue.length = 64 → headEntry s.icu.queue = some e → e.source ≠ k → e.source < 1024 →
    (∀ x ∈ s.icu.queue, ∀ y ∈ s.icu.queue, x.source = y.source → x = y) → s.icu.queue.Nodup →
    (∀ x ∈ s.icu.queue, x.source ≠ k) → s.icu.stuck = [k] → s.flag (ICU_SRC_PEND k) = true →
    s.flag (ICU_SRC_EN k) = true → s.fld (ICU_SRC_DEST k) = 3 →
    ∃ t, exec (.icuPop p intEn) s = .next t ∧ t.icu.queue.length = 64 ∧ t.icu.stuck = [] ∧
      (∃ x ∈ t.icu.queue, x.source = k) ∧ (∀ x ∈ t.icu.queue, x.source ≠ e.source))

/-- A sheet joins the end of the journal queue with the SYSTIME of its making and the next number, or none while the
head search runs; a sheet that finds 32 in the queue takes no number, counts in JNL_LOST and sets LOST_EV. -/
def Obligations.SheetQueue : Prop :=
  ∀ (s : State) (type : Nat) (payload : List Byte),
    (s.jnl.queue.length < 32 → s.jnl.searching = false →
      (s.sheet type payload).jnl.queue = s.jnl.queue ++ [⟨s.now, s.sheetAddress, some s.jnl.next, type, payload⟩] ∧
      (s.sheet type payload).jnl.next = s.jnl.next + 1) ∧
    (s.jnl.queue.length < 32 → s.jnl.searching = true →
      (s.sheet type payload).jnl.queue = s.jnl.queue ++ [⟨s.now, s.sheetAddress, none, type, payload⟩] ∧
      (s.sheet type payload).jnl.next = s.jnl.next) ∧
    (32 ≤ s.jnl.queue.length →
      (s.sheet type payload).jnl.queue = s.jnl.queue ∧ (s.sheet type payload).jnl.next = s.jnl.next ∧
      (s.sheet type payload).flag JNL_STAT_LOST_EV = true ∧ (s.sheet type payload).jnl.lostNow = s.jnl.lostNow + 1 ∧
      (s.fld JNL_LOST_LOST + 1 < 2 ^ JNL_LOST_LOST.width →
        (s.sheet type payload).fld JNL_LOST_LOST = s.fld JNL_LOST_LOST + 1))

/-- When its program completes, the 64 bytes of the head sheet stand in its slot; when that slot is the first of its
sector, the 4 KB of the next sector, round the journal, are erased; every other byte of the flash reads as before,
and the sheet has left the queue. -/
def Obligations.SheetInFlash : Prop :=
  ∀ (s : State) (slot : Nat) (sh : Sheet) (rest : List Sheet), s.jnl.writing = some slot → slot < slotCount →
    s.jnl.queue = sh :: rest → s.jnl.lostNow = 0 →
    ∃ t, exec (.sheetWritten false) s = .next t ∧ t.jnl.queue = rest ∧ t.jnl.writing = none ∧ sh.bytes.length = 64 ∧
      ∀ a : Nat, t.flashAt a =
        if slotAddress slot ≤ a ∧ a < slotAddress slot + 64 then sh.bytes.getD (a - slotAddress slot) 0
        else if slot % 64 = 0 ∧ slotAddress ((slot + 64) % slotCount) ≤ a ∧
          a < slotAddress ((slot + 64) % slotCount) + 4096 then 0xFF
        else s.flashAt a

/-- An all-off records its code, its origin and ACTIVE, puts the gates and CASC_OUT low where a bond drives them and
FAULT_N low where P6 has taken it over, halts every assigned brick, brings the device to course 0 and OUT, and
starts the timeline of R48. While an earlier one is ACTIVE it changes no pin, no brick and no course, and the fault
record only where both were found on this device in one CLK_CORE cycle: then the code that goes first stands. That
all of this comes in the one step of the event rests on log entry 4 (DESIGN CHOICE), and that a device without a
bond drives no gate, no CASC_OUT and no FAULT_N before P6 on log entry 12 (DEDUCED). -/
def Obligations.AllOffEffects : Prop :=
  ∀ (s : State) (code : Nat) (payload : List Byte) (remote : Option (Nat × Bool)),
    (s.flag SEQ_FAULT_ACTIVE = false →
      (s.allOff code payload remote).flag SEQ_FAULT_ACTIVE = true ∧
      (s.allOff code payload remote).fld SEQ_FAULT_CODE = code % 65536 ∧
      (s.allOff code payload remote).flag SEQ_FAULT_REMOTE = remote.isSome ∧
      (s.allOff code payload remote).fld SEQ_FAULT_ORIGIN = (match remote with
        | some o => o.1 % 4096
        | none => if s.flag LNK_ADDR_UNADDR then 0 else s.fld LNK_ADDR_ADDR) ∧
      (s.allOff code payload remote).pins.gates = (if s.hasBond then .low else s.pins.gates) ∧
      (s.allOff code payload remote).pins.faultN = (if s.boot.power = .starting then s.pins.faultN else .low) ∧
      (s.allOff code payload remote).pins.cascOut = (if s.hasBond then .low else s.pins.cascOut) ∧
      (s.allOff code payload remote).seq.out = true ∧
      (s.allOff code payload remote).seq.timeline = true ∧ (s.allOff code payload remote).seq.todo = [] ∧
      (s.allOff code payload remote).fld SEQ_STAT_DEV_COURSE = 0 ∧
      (∀ n : Nat, n < 16 → s.fld (BRK_STAT_STATE n) ≠ brkUnassigned →
        (s.allOff code payload remote).fld (BRK_STAT_STATE n) = brkHalted)) ∧
    (s.flag SEQ_FAULT_ACTIVE = true → Within [SEQ_FAULT] [.seq] s (s.allOff code payload remote) ∧
      (s.allOff code payload remote).seq.todo = s.seq.todo ∧ (s.allOff code payload remote).seq.timeline = s.seq.timeline ∧
      (s.offNow = none ∨ remote.isSome = true ∨ s.flag SEQ_FAULT_REMOTE = true →
        (s.allOff code payload remote).reg SEQ_FAULT = s.reg SEQ_FAULT) ∧
      (∀ m : OffMark, s.offNow = some m → remote = none → s.flag SEQ_FAULT_REMOTE = false →
        (s.allOff code payload remote).fld SEQ_FAULT_CODE =
          if faultBefore none code m.brick (s.fld SEQ_FAULT_CODE) then code % 65536 else s.fld SEQ_FAULT_CODE))

/-- At arming CHAL is 0xACE1; at the start of each later cycle its LSB is taken, it is shifted right by one, and XORed
with 0xB400 if the LSB was 1; a CHAL other than 0 steps to one other than 0; the first values are 0xACE1, 0xE270,
0x7138 and 0x389C. -/
def Obligations.WatchdogChallenge : Prop :=
  (∀ (s : State) (p : Path), s.answers p = true → s.early p WDG_CTRL = false → s.armRefused = false → s.hwStart = false →
    ∃ t, exec (.arm p) s = .next t ∧ t.wdg.armed = true ∧ t.reg WDG_CHAL = 0xACE1 ∧
      t.wdgTick.reg WDG_CHAL = 0xACE1) ∧
  (∀ s : State, s.wdg.starting = some false →
    s.wdgTick.reg WDG_CHAL = (nextChal ((s.reg WDG_CHAL).setWidth 16)).setWidth 32) ∧
  (∀ c : BitVec 16, nextChal c = (if c.toNat % 2 = 1 then BitVec.ofNat 16 (c.toNat / 2) ^^^ 0xB400#16
    else BitVec.ofNat 16 (c.toNat / 2))) ∧
  (∀ c : BitVec 16, c ≠ 0 → nextChal c ≠ 0) ∧
  nextChal 0xACE1 = 0xE270 ∧ nextChal 0xE270 = 0x7138 ∧ nextChal 0x7138 = 0x389C

/-- Of a computation that no upset reaches: the command lies between lo and hi; it is the sum of y0, boost and
feed-forward where that sum does; the histories keep their values exactly when the sum lies beyond a limit and y
moves further beyond it, and shift otherwise; where no partial sum of the accumulator saturates, y0 is the rounded
sum of products, saturated to 24 bits. -/
def Obligations.CompensatorLimits : Prop :=
  ∀ (k : Nat → Int) (b : Brick) (e0 ff bst lo hi : Int), lo ≤ hi →
    lo ≤ (compensate k b [] e0 ff bst lo hi).c ∧ (compensate k b [] e0 ff bst lo hi).c ≤ hi ∧
    (compensate k b [] e0 ff bst lo hi).v = (compensate k b [] e0 ff bst lo hi).y0 + bst + ff ∧
    (lo ≤ (compensate k b [] e0 ff bst lo hi).v → (compensate k b [] e0 ff bst lo hi).v ≤ hi →
      (compensate k b [] e0 ff bst lo hi).c = (compensate k b [] e0 ff bst lo hi).v ∧
      (compensate k b [] e0 ff bst lo hi).frozen = false) ∧
    ((compensate k b [] e0 ff bst lo hi).frozen = true → (compensate k b [] e0 ff bst lo hi).hist = b) ∧
    ((compensate k b [] e0 ff bst lo hi).frozen = false →
      (compensate k b [] e0 ff bst lo hi).hist = { b with
        e1 := e0, e2 := b.e1, e3 := b.e2, y1 := (compensate k b [] e0 ff bst lo hi).y0, y2 := b.y1, y3 := b.y2 }) ∧
    (hi < (compensate k b [] e0 ff bst lo hi).v →
      ((compensate k b [] e0 ff bst lo hi).frozen = true ↔ b.y1 < (compensate k b [] e0 ff bst lo hi).y0)) ∧
    ((compensate k b [] e0 ff bst lo hi).v < lo →
      ((compensate k b [] e0 ff bst lo hi).frozen = true ↔ (compensate k b [] e0 ff bst lo hi).y0 < b.y1)) ∧
    (((k 0 * e0).natAbs + (k 1 * b.e1).natAbs + (k 2 * b.e2).natAbs + (k 3 * b.e3).natAbs + (k 4 * b.y1).natAbs +
        (k 5 * b.y2).natAbs + (k 6 * b.y3).natAbs < 2 ^ 47) →
      (compensate k b [] e0 ff bst lo hi).y0 = sat24 ((k 0 * e0 + k 1 * b.e1 + k 2 * b.e2 + k 3 * b.e3 + k 4 * b.y1 +
        k 5 * b.y2 + k 6 * b.y3 + 2 ^ 19) / 2 ^ 20))

/-- Power and reset events complete with the level each calls for: where the premises on the state and the operands
hold, exec answers a next state with the effect named. What a clause says of these corners is the model's choice and
no rule of the spec: a request in Off, Dormant, Standby or a running start, equal requests and the causes that stand
after them: log entries 15, 16. -/
def Obligations.PowerAndResetEvents : Prop :=
  ∀ s : State,
  (s.boot.power = .dormant → ∃ t, exec .wakePulse s = .next t ∧ t.boot.power = .starting ∧ t.boot.phase = 0 ∧
    t.boot.level = 0 ∧ t.fld RPC_RST_STAT_LAST_LEVEL = 0) ∧
  (∃ t, exec .por s = .next t ∧ t.boot.power = .starting ∧ t.boot.phase = 0 ∧ t.fld RPC_RST_CAUSE_CAUSE = 1 ∧
    t.flag MTR_STAT_RESTORING = true ∧ t.bkd.fifo = s.bkd.fifo) ∧
  (s.active = true → ∃ t, exec .bor s = .next t ∧ t.boot.power = .starting ∧ t.boot.phase = 0 ∧ t.boot.level = 0
    ∧ t.fld RPC_RST_STAT_LAST_SRC = 1 ∧ t.fld RPC_RST_STAT_LAST_LEVEL = 0) ∧
  (s.awake = true → ∃ t, exec .inputCollapse s = .next t ∧ t.boot.power = .starting ∧ t.boot.phase = 0 ∧
    t.boot.level = 0 ∧ t.fld RPC_RST_STAT_LAST_SRC = 1 ∧ t.fld RPC_RST_STAT_LAST_LEVEL = 0) ∧
  (s.active = true → s.railUp = false → s.boot.waiting = none → s.boot.restart = none → s.mapLevel 2 ≤ 1 → ∃ t,
    exec .resetNAssert s = .next t ∧ t.boot.resetNLow = true ∧ t.boot.power = .starting ∧ t.boot.level =
    s.mapLevel 2 ∧ t.boot.hold = .resetN ∧ t.fld RPC_RST_STAT_LAST_SRC = 2) ∧
  (∀ (tst : Bool), s.boot.power = .starting → s.boot.hold = .resetN → (s.boot.level = 1 ∨ tst = false) → ∃ t,
    exec (.resetNRelease tst) s = .next t ∧ t.boot.resetNLow = false ∧ t.boot.phase = 1 ∧ t.boot.hold = .none ∧
    t.pins.core = true) ∧
  (∀ (path : Path), s.active = true → s.railUp = false → s.boot.waiting = none → s.boot.restart = none →
    s.answers path = true → s.mapLevel 4 ≤ 1 → s.boot.resetNLow = false → s.boot.tstHigh = false → ∃ t, exec
    (.swrst path) s = .next t ∧ t.boot.power = .starting ∧ t.boot.level = s.mapLevel 4 ∧ t.boot.phase = 1 ∧
    t.fld RPC_RST_STAT_LAST_SRC = 4 ∧ t.fld RPC_RST_STAT_LAST_LEVEL = s.mapLevel 4) ∧
  (s.seq.timeline = true → s.thm.resetDue = false → s.boot.waiting = none → ∃ t, exec .allOffTimelineEnd s =
    .next t ∧ t.seq.timeline = false ∧ t.boot.waiting = none ∧ t.pins.gates = (if s.pins.gates = .low then
    .released else s.pins.gates) ∧ t.pins.aux1 = none ∧ t.pins.aux2 = none ∧ t.pins.dswG = .released ∧
    t.pins.preG = .released ∧ t.pins.pinSet = [] ∧ t.pins.courseHold = false ∧ t.pins.cascOut = (if s.hasBond
    then (if s.pins.cascIn then .high else .low) else s.pins.cascOut) ∧ t.pins.faultN = s.pins.faultN ∧ t.regs =
    s.regs) ∧
  (s.active = true → s.supervisorRuns = true → s.boot.waiting = none → s.boot.restart = none → 2 ≤ s.mapLevel 8
    → ∃ t, exec .supervisorLaneMismatch s = .next t ∧ t.boot.power = .active ∧ t.boot.restart = some 2 ∧ t.fld
    RPC_RST_STAT_LAST_SRC = 8 ∧ t.fld RPC_RST_STAT_LAST_LEVEL = 2) ∧
  (s.active = true → s.railUp = false → s.boot.waiting = none → s.boot.restart = none → reached s.cpm.switchAt
    s.clk.core = true → s.boot.resetNLow = false → s.boot.tstHigh = false → ∃ t, exec .switchCycleTimer s =
    .next t ∧ t.boot.power = .starting ∧ t.boot.level = 0 ∧ t.boot.phase = 1 ∧ t.fld RPC_RST_STAT_LAST_SRC = 6) ∧
  (s.active = true → s.cpm.ship = true → (∀ e ∈ s.jnl.queue, e.type ≠ 0x1006) → ∃ t, exec .shipModeSheetWritten
    s = .next t ∧ t.boot.power = .dormant ∧ t.cpm.ship = false ∧ t.pins.gates = .released ∧ t.pins.core = false) ∧
  (s.linked = true → s.railUp = false → s.boot.waiting = none → s.boot.restart = none → s.mapLevel 5 ≤ 1 → ∃ t,
    exec (.reset 0x5E7A true) s = .next t ∧ t.boot.power = .starting ∧ t.boot.level = s.mapLevel 5 ∧ t.fld
    RPC_RST_STAT_LAST_SRC = 5) ∧
  (s.active = true → s.supervisorRuns = true → s.boot.waiting = none → s.boot.restart = none → s.mapLevel 8 = 3
    → ∃ t, exec .serviceProcessorFault s = .next t ∧ t.boot.power = .active ∧ t.boot.restart = some 3 ∧ t.fld
    RPC_RST_STAT_LAST_SRC = 8 ∧ t.fld RPC_RST_STAT_LAST_LEVEL = 3) ∧
  (∀ (l : Nat) (k : Nat), s.active = true → s.seq.timeline = true → s.thm.resetDue = false → s.boot.waiting =
    some (l, k) → l ≤ 1 → k < 9 → s.boot.restart = none → ∃ t, exec .allOffTimelineEnd s = .next t ∧
    t.seq.timeline = false ∧ t.boot.waiting = none ∧ t.boot.power = .starting ∧ t.boot.level = l ∧ t.fld
    RPC_RST_STAT_LAST_SRC = k ∧ t.fld RPC_RST_STAT_LAST_LEVEL = l ∧ t.pins.gates = .released ∧ t.pins.dswG =
    .released) ∧
  (s.active = true → s.thm.resetDue = true → s.boot.waiting = none → s.boot.restart = none → ∃ t, exec
    .allOffTimelineEnd s = .next t ∧ t.thm.resetDue = false ∧ t.boot.power = .starting ∧ t.boot.level =
    s.mapLevel 7 ∧ t.fld RPC_RST_STAT_LAST_SRC = 7 ∧ (t.fld RPC_RST_CAUSE_CAUSE).testBit 7 = true)

/-- The boot phases P0 to P6 and the processor restarts complete: where the premises on the state and the operands hold,
exec answers a next state with the effect named. What a clause says of these corners is the model's choice and no
rule of the spec: the start without a bond, the order of P4 to P6 and their sheets: log entries 12, 17, 19. -/
def Obligations.BootPhasesComplete : Prop :=
  ∀ s : State,
  (∀ (vsys : Nat) (tst : Bool), s.inPhase 0 = true → 5680 < vsys → s.boot.phaseAt + 10000 ≤ s.clk.rc →
    s.boot.resetNLow = false → (s.boot.level = 1 ∨ tst = false) → ∃ t, exec (.p0SupplyDone vsys tst) s = .next t
    ∧ t.boot.phase = 1 ∧ t.boot.hold = .none ∧ t.boot.vsys = vsys ∧ t.pins.pre = true ∧ t.pins.core = true) ∧
  (s.inPhase 1 = true → s.boot.level = 0 → ∃ t, exec .p1RegulatorsDone s = .next t ∧ t.boot.phase = 2 ∧
    t.boot.hold = .none ∧ t.flag (SEQ_RAIL_STAT_UV_ARM 16) = true ∧ t.flag (SEQ_RAIL_STAT_UV_ARM 17) = true ∧
    t.flag (SEQ_RAIL_STAT_UV_ARM 18) = true) ∧
  (s.inPhase 1 = true → s.boot.phaseAt + 30000 ≤ s.clk.rc → ∃ t, exec .p1RegulatorTimeout s = .next t ∧
    t.boot.hold = .p1Off ∧ t.boot.retryAt = s.clk.rc + 100000 ∧ t.pins.pre = false ∧ t.pins.io = false ∧
    t.pins.core = false ∧ t.pins.ana = false ∧ t.regs = s.regs) ∧
  (s.boot.power = .starting → s.boot.hold = .p1Off → s.boot.retryAt ≤ s.clk.rc → ∃ t, exec .p1RetryEnd s = .next
    t ∧ t.boot.phase = 1 ∧ t.boot.hold = .none ∧ t.boot.phaseAt = s.clk.rc ∧ t.pins.core = true ∧ t.regs =
    s.regs) ∧
  (s.inPhase 2 = true → s.otpFails = false → ∃ t, exec .p2OptionsDone s = .next t ∧ t.boot.phase = 3 ∧
    t.boot.hold = .none ∧ t.boot.opt0 = (s.otpRow 128).data ∧ t.boot.rstMap = (s.otpRow 129).data ∧
    t.clk.attemptAt = some s.clk.rc) ∧
  (∀ (source : Nat), s.inPhase 2 = true → 2 ≤ source → source ≤ 8 → s.boot.p2Since = none → ∃ t, exec
    (.p2Restart source) s = .next t ∧ t.boot.phase = 2 ∧ t.boot.hold = .none ∧ t.boot.p2Restarts = 1 ∧
    t.boot.p2Since = some s.clk.rc ∧ (t.fld RPC_RST_CAUSE_CAUSE).testBit source = true) ∧
  (∀ (a : Nat), s.boot.p2Since = some a → a + 1000000 ≤ s.clk.rc → s.boot.hold = .none → ∃ t, exec
    .p2RestartWindowEnd s = .next t ∧ t.boot.p2Since = none ∧ t.boot.p2Restarts = 0 ∧ t.regs = s.regs) ∧
  (s.inPhase 4 = true → ∃ t, exec .p4ImageDone s = .next t ∧ (s.checkImage s.flashImage = none → t.boot.phase =
    5 ∧ t.boot.hold = .none ∧ t.boot.image = s.flashImage ∧ t.fld RPC_IMG_STAT_RECOVERY_SRC = 0) ∧ (s.checkImage
    s.flashImage ≠ none → t.boot.phase = 4 ∧ t.boot.hold = .loader)) ∧
  (s.inPhase 5 = true → ∃ t, exec .p5BondDone s = .next t ∧ t.boot.phase = 6 ∧ t.boot.power = .starting ∧
    t.boot.hold = .none) ∧
  (∀ (failed : List (Nat × Lane)), s.inPhase 6 = true → ∃ t, exec (.p6ServicesDone failed) s = .next t ∧
    t.boot.power = .active ∧ t.boot.phase = 7 ∧ t.boot.hold = .none ∧ t.boot.faults = []) ∧
  (s.boot.restart = some 2 → s.boot.hold ≠ .resetN → ∃ t, exec (.l2RestartDone true) s = .next t ∧
    t.boot.restart = none ∧ t.boot.restartWdg = false ∧ t.pins.hostReleased = false) ∧
  (s.boot.restart = some 3 → s.boot.hold ≠ .resetN → ∃ t, exec (.l3RestartDone true) s = .next t ∧
    t.boot.restart = none ∧ t.boot.restartWdg = false ∧ t.pins.hostReleased = false) ∧
  (∀ (k : Nat) (e : Seal) (b : List Byte) (ts : List Tile), s.inPhase 5 = true → s.startSlot = some (k, e) →
    s.flashRead (slotBase k) e.length = b → (validate b e.length s.bondSigned s.keyHash).toOption = some ts → ∃
    t, exec .p5BondDone s = .next t ∧ t.boot.phase = 6 ∧ t.bnd.bytes = b ∧ t.bnd.tiles = ts ∧ t.bnd.slotUsed =
    true ∧ t.fld BND_STAT_SLOT = k % 2 ∧ t.flag BND_STAT_STORED = true ∧ t.reg BND_GEN = BitVec.ofNat 32 e.gen ∧
    t.reg BND_ID = BitVec.ofNat 32 (t.t32 1 0 0 0) ∧ t.fld MTR_REAM_LEN_LEN = t.bondReamLen % 2 ^
    MTR_REAM_LEN_LEN.width ∧ t.fld MSR_CELL_CFG_CELLS = t.cells % 2 ^ MSR_CELL_CFG_CELLS.width ∧ (∀ n : Nat, n <
    16 → t.fld (VCP_GRP_GROUP n) = t.t8 3 n 0x1A 0xFF % 256) ∧ (∀ n : Nat, n < 8 → t.reg (BND_GROUTE n) =
    BitVec.ofNat 32 (t.t32 4 0 (4 * n) 0)) ∧ (s.flag SEQ_FAULT_ACTIVE = false → t.pins.gates = .high ∧
    t.pins.faultN = s.pins.faultN) ∧ (s.clk.clockFail = false → t.boot.stat = some 7)) ∧
  (s.inPhase 5 = true → s.startSlot = none → ∃ t, exec .p5BondDone s = .next t ∧ t.boot.phase = 6 ∧ t.bnd =
    s.bnd ∧ t.reg BND_ERR = 0x30000000#32 ∧ t.mtr.len = t.bondReamLen ∧ t.mtr.metered = false ∧ 0x0D0B ∈
    t.boot.faults ∧ (s.clk.clockFail = false → t.boot.stat = some 6)) ∧
  (∀ (k : Nat) (e : Seal) (b : List Byte) (r : BondErr), s.inPhase 5 = true → s.startSlot = some (k, e) →
    s.flashRead (slotBase k) e.length = b → rejectionOf (validate b e.length s.bondSigned s.keyHash) = some r →
    ∃ t, exec .p5BondDone s = .next t ∧ t.boot.phase = 6 ∧ t.bnd = s.bnd ∧ t.reg BND_ERR = BitVec.ofNat 32
    (r.reason <<< 24 + r.tile) ∧ t.reg BND_ERR_BYTE = BitVec.ofNat 32 r.byte ∧ t.fld BND_STAT_RESULT = 2 ∧
    t.mtr.len = t.bondReamLen ∧ 0x0D0B ∈ t.boot.faults)

/-- OTP commands, loader mode and the image update complete: where the premises on the state and the operands hold, exec
answers a next state with the effect named. What a clause says of these corners is the model's choice and no rule of
the spec: what a cut program leaves, and the updates refused in loader mode: log entries 14, 19. -/
def Obligations.OtpAndUpdateCommands : Prop :=
  ∀ s : State,
  (∀ (path : Path) (row : BitVec 9), s.serves path = true → s.flag OTP_STAT_BUSY = false → ∃ t, exec (.otpRead
    path row) s = .next t ∧ t.flag OTP_STAT_BUSY = true ∧ t.boot.otpCmd = some ⟨false, row.toNat, s.reg
    OTP_WDATA⟩ ∧ t.boot.otp = s.boot.otp) ∧
  (∀ (path : Path) (row : BitVec 9), s.serves path = true → s.flag OTP_STAT_BUSY = false → 320 ≤ row.toNat →
    s.flag OTP_LOCK_CUST_W = false → s.idle = true → 1 ≤ s.fld STM_STAT_TBAND → s.fld STM_STAT_TBAND ≤ 5 → ∃ t,
    exec (.otpProgram path row 12000 6500) s = .next t ∧ t.flag OTP_STAT_BUSY = true ∧ t.boot.otpCmd = some
    ⟨true, row.toNat, s.reg OTP_WDATA⟩ ∧ t.boot.otp = s.boot.otp) ∧
  (∀ (failedBit : Option Nat) (c : OtpCmd), s.boot.otpCmd = some c → c.program = false → s.flag (otpLocks
    c.row).1 = false → (s.otpRow c.row).bad = false → ∃ t, exec (.otpCommandDone failedBit) s = .next t ∧
    t.boot.otpCmd = none ∧ t.flag OTP_STAT_BUSY = false ∧ t.reg OTP_RDATA = (s.otpRow c.row).data ∧ t.fld
    OTP_STAT_RESULT = (if (s.otpRow c.row).single then 1 else 0) ∧ t.boot.otp = s.boot.otp) ∧
  (∀ (c : OtpCmd), s.boot.otpCmd = some c → c.program = true → c.data ≠ 0 → s.boot.otp.any (fun r => decide (r.1
    = c.row)) = false → ∃ t, exec (.otpCommandDone none) s = .next t ∧ t.boot.otpCmd = none ∧ t.flag
    OTP_STAT_BUSY = false ∧ t.fld OTP_STAT_RESULT = 0 ∧ t.otpRow c.row = ⟨c.data, false, false⟩) ∧
  (∀ (pulses : Nat) (c : OtpCmd), s.boot.otpCmd = some c → c.program = true → ∃ t, exec (.otpConditionLost
    pulses) s = .next t ∧ t.boot.otpCmd = none ∧ t.flag OTP_STAT_BUSY = false ∧ t.fld OTP_STAT_RESULT = 6) ∧
  (s.loaderMode = true → s.loaderLinkOff = false → (s.fld RPC_UPD_STAT_STATE ≠ 1 ∨ s.boot.updLink = false) →
    s.boot.loaderAskAt ≤ s.clk.core → s.clk.onRc = false → ∃ t, exec .loaderImgRequest s = .next t ∧
    t.boot.loaderAskAt = s.clk.core + 240000000 ∧ t.regs = s.regs ∧ t.lnk.out = s.lnk.out ++ ((List.range
    2).filter s.portUp).map (fun p => ⟨p, 0x63, 1 - p, 0x1000, if s.unaddressed then 0x8000 else s.fld
    LNK_ADDR_ADDR, 0, s.eventNo 0x63, []⟩)) ∧
  (s.loaderMode = true → s.boot.updLink = true → s.boot.updCheck = false → s.fld RPC_UPD_STAT_STATE = 1 →
    s.boot.loaderFrameAt + 24000000 ≤ s.clk.core → ∃ t, exec .loaderImgTimeout s = .next t ∧ t.fld
    RPC_UPD_STAT_STATE = 0 ∧ t.fld RPC_UPD_STAT_BLOCK_NEXT = 0 ∧ t.fld RPC_UPD_STAT_SPACE = 1024 ∧
    t.boot.updImage = [] ∧ t.boot.loaderAskAt = s.clk.core ∧ t.lnk.dist = none) ∧
  (∀ (path : Path) (blocks : BitVec 10), s.serves path = true → 2 ≤ blocks.toNat → blocks.toNat ≤ 512 → s.fld
    RPC_UPD_STAT_STATE ≠ 1 → ∃ t, exec (.updStart path blocks) s = .next t ∧ t.fld RPC_UPD_STAT_STATE = 1 ∧
    t.fld RPC_UPD_STAT_RESULT = 0 ∧ t.fld RPC_UPD_STAT_BLOCK_NEXT = 0 ∧ t.fld RPC_UPD_STAT_SPACE = 1024 ∧
    t.boot.updBlocks = blocks.toNat ∧ t.flashAt 0 = 0xFF) ∧
  (∀ (path : Path) (blocks : BitVec 10), s.serves path = true → s.fld RPC_UPD_STAT_STATE = 1 → ∃ t, exec
    (.updAbort path blocks) s = .next t ∧ t.fld RPC_UPD_STAT_STATE = 3 ∧ t.fld RPC_UPD_STAT_RESULT = 7 ∧
    t.boot.updImage = []) ∧
  (∀ (path : Path) (data : Word) (flashError : Bool), s.serves path = true → s.fld RPC_UPD_STAT_STATE = 1 →
    s.fld RPC_UPD_STAT_SPACE ≠ 0 → s.boot.updLink = false → s.boot.updCheck = false → s.boot.updBytes.length + 4
    < 4096 → ∃ t, exec (.updData path data flashError) s = .next t ∧ t.boot.updBytes = s.boot.updBytes ++
    leBytes 4 data.toNat ∧ t.fld RPC_UPD_STAT_STATE = 1 ∧ t.fld RPC_UPD_STAT_SPACE = 1024 -
    (s.boot.updBytes.length + 4) / 4 ∧ t.flash = s.flash) ∧
  (s.fld RPC_UPD_STAT_STATE = 1 → s.boot.updCheck = true → s.boot.restart = none → s.loaderMode = false → ∃ t,
    exec (.updateCheckDone false) s = .next t ∧ t.fld RPC_UPD_STAT_STATE = (if s.checkImage s.boot.updImage =
    none then 2 else 3) ∧ (s.checkImage s.boot.updImage = none → t.fld RPC_UPD_STAT_RESULT = 0) ∧
    t.boot.updImage = [] ∧ t.boot.updCheck = false ∧ t.fld RPC_UPD_STAT_SPACE = 1024)

/-- Reference, lock, SYSTIME and synchronisation commands complete: where the premises on the state and the operands
hold, exec answers a next state with the effect named. What a clause says of these corners is the model's choice and
no rule of the spec: the increments of the servo and the RC rate: log entry 35. -/
def Obligations.ClocksAndSyncComplete : Prop :=
  ∀ s : State,
  (∀ (port : Bool), s.clk.attemptAt.isSome = true → s.clk.qualifiedAt = none → ∃ t, exec (.refQualified port) s
    = .next t ∧ t.clk.qualifiedAt = some s.clk.rc ∧ t.flag STM_STAT_REF_LOST = false ∧ t.clk.refLostAt = none) ∧
  (s.active = true → s.clk.attemptAt.isSome = true → s.clk.qualifiedAt.isSome = true → ∃ t, exec .pllLock s =
    .next t ∧ t.clk.onRc = false ∧ t.clk.attemptAt = none ∧ t.clk.clockFail = false ∧ t.flag STM_STAT_PLL_LOCKED
    = true) ∧
  (∀ (a : Nat), s.clk.attemptAt = some a → s.clk.qualifiedAt = none → a + 60000 ≤ s.clk.rc → ∃ t, exec
    .lockAttemptTimeout s = .next t ∧ t.clk.clockFail = true ∧ t.clk.attemptAt = some s.clk.rc ∧
    t.clk.qualifiedAt = none ∧ (s.clk.clockFail = false → t.boot.stat = some 2) ∧ t.regs = s.regs) ∧
  (∀ (edges : Nat), s.refWatched = true → s.clk.windowAt + 100 ≤ s.clk.rc → edges < 200 → s.flag
    STM_STAT_REF_LOST = false → ∃ t, exec (.refWindowEnd edges) s = .next t ∧ t.clk.windowAt = s.clk.windowAt +
    100 ∧ t.clk.refLostAt = some s.clk.rc ∧ t.flag STM_STAT_REF_LOST = true ∧ t.flag STM_STAT_REF_LOST_EV =
    true) ∧
  (∀ (port : Bool), s.refWatched = true → s.flag STM_STAT_REF_LOST = true → ∃ t, exec (.refReturn port) s =
    .next t ∧ t.flag STM_STAT_REF_LOST = false ∧ t.clk.refLostAt = none) ∧
  (∀ (a : Nat), s.clk.refLostAt = some a → a + 1000000 ≤ s.clk.rc → ∃ t, exec .refLostTimeout s = .next t ∧
    t.clk.refLostAt = none ∧ (s.railUp = true → s.flag SEQ_FAULT_ACTIVE = false → t.flag SEQ_FAULT_ACTIVE = true
    ∧ t.fld SEQ_FAULT_CODE = 0x0161)) ∧
  (s.active = true → s.flag STM_STAT_PLL_LOCKED = true → ∃ t, exec .lossOfLock s = .next t ∧ t.flag
    STM_STAT_PLL_LOCKED = false ∧ t.flag STM_STAT_UNLOCK_EV = true ∧ t.clk.onRc = true ∧ t.clk.attemptAt = some
    s.clk.rc ∧ t.flag SEQ_FAULT_ACTIVE = true) ∧
  (∀ (path : Path), s.serves path = true → s.fld STM_STAT_TSTATE = 0 → ∃ t, exec (.setGo path) s = .next t ∧
    t.flag STM_STAT_RTC_UNTRUSTED = false ∧ t.clk.acc = BitVec.ofNat 128 (s.unbounded (BitVec.ofNat 64 ((s.reg
    STM_SET_LO).toNat + 2 ^ 32 * (s.reg STM_SET_HI).toNat)) * 2 ^ 24)) ∧
  (∀ (path : Path), s.serves path = true → ∃ t, exec (.stmTimeLoRead path) s = .next t ∧ lookupD t.shadow
    (pathShadow path, STM_TIME_HI) 0 = halfWord s.now.toNat 1 ∧ t.regs = s.regs ∧ (path = .spi → t.hst.dout =
    [halfWord s.now.toNat 0])) ∧
  (s.fld STM_STAT_TSTATE = 2 → s.clk.lastSync + 120000000 ≤ s.clk.core → ∃ t, exec .syncHoldoverTimeout s =
    .next t ∧ t.fld STM_STAT_TSTATE = 3) ∧
  (s.linked = true → s.fld STM_STAT_TSTATE ≠ 0 → s.lnk.syncLast ≠ some (s.nowU / 2 ^ 23) → ∃ t, exec .syncStart
    s = .next t ∧ t.lnk.syncLast = some (s.nowU / 2 ^ 23) ∧ t.lnk.syncT1 = some s.syncStamp.toNat ∧ t.lnk.syncT4
    = none) ∧
  (∀ (port : BitVec 2) (turn : Nat), s.linked = true → s.clk.onRc = false → s.portUp port.toNat = true → ∃ t,
    exec (.syncReq port turn) s = .next t ∧ t.lnk.out.length = s.lnk.out.length + 2 ∧ t.regs = s.regs) ∧
  (s.lnk.syncT1.isSome = true → s.lnk.syncT4 = none → ∃ t, exec .syncRsp s = .next t ∧ t.lnk.syncT4 = some
    (s.syncStamp.toNat, s.clk.core) ∧ t.regs = s.regs) ∧
  (∀ (t2 : BitVec 72) (t3 : BitVec 72) (tstate : BitVec 2) (t1 : Nat) (t4 : Nat × Nat), s.lnk.syncT1 = some t1 →
    s.lnk.syncT4 = some t4 → ∃ t, exec (.syncFup t2 t3 tstate) s = .next t ∧ t.lnk.syncT1 = none ∧ t.lnk.syncT4
    = none) ∧
  (∀ (t4 : Nat × Nat), s.lnk.syncT4 = some t4 → t4.2 + 240000 ≤ s.clk.core → ∃ t, exec .syncFupTimeout s = .next
    t ∧ t.lnk.syncT1 = none ∧ t.lnk.syncT4 = none) ∧
  (∀ (t2 : BitVec 72) (t3 : BitVec 72) (tstate : BitVec 2) (t1 : Nat) (t4 : Nat × Nat) (o : Int) (d : Int),
    s.lnk.syncT1 = some t1 → s.lnk.syncT4 = some t4 → s.clk.core ≤ t4.2 + 240000 → o = (BitVec.ofNat 72 t1 -
    t2).toInt + (BitVec.ofNat 72 t4.1 - t3).toInt → d = (BitVec.ofNat 72 t4.1 - BitVec.ofNat 72 t1).toInt - (t3
    - t2).toInt → 0 ≤ d → d * 500000 ≤ 2 ^ 37 → (tstate = 0 ∨ tstate = 2) → s.fld STM_STAT_TSTATE = 1 →
    s.clk.goodRun + 1 < 8 → ∃ t, exec (.syncFup t2 t3 tstate) s = .next t ∧ t.lnk.syncT1 = none ∧ t.lnk.syncT4 =
    none ∧ t.fld LNK_SYNC_DELAY = (roundDiv (d * 1000000000000) (2 ^ 37)).toNat % 2 ^ LNK_SYNC_DELAY.width ∧
    t.reg STM_OFFSET = BitVec.ofInt 32 (clampInt (-(2 ^ 31)) (2 ^ 31 - 1) (roundDiv o (2 ^ 9))) ∧ t.clk.lastSync
    = s.clk.core ∧ t.fld STM_STAT_TSTATE = 1 ∧ t.clk.goodRun = (if o.natAbs * 50000000 ≤ 2 ^ 37 then
    s.clk.goodRun + 1 else 0) ∧ (2 ^ 37 < o.natAbs * 1000000 → s.flag STM_CTRL_STEP_EN = true → t.clk.acc =
    s.clk.acc - BitVec.ofInt 128 (o * 2 ^ 15)) ∧ (¬ (2 ^ 37 < o.natAbs * 1000000) ∨ s.flag STM_CTRL_STEP_EN =
    false → t.clk.acc = s.clk.acc)) ∧
  (∀ (t2 : BitVec 72) (t3 : BitVec 72) (tstate : BitVec 2) (t1 : Nat) (t4 : Nat × Nat) (o : Int) (d : Int),
    s.lnk.syncT1 = some t1 → s.lnk.syncT4 = some t4 → s.clk.core ≤ t4.2 + 240000 → o = (BitVec.ofNat 72 t1 -
    t2).toInt + (BitVec.ofNat 72 t4.1 - t3).toInt → d = (BitVec.ofNat 72 t4.1 - BitVec.ofNat 72 t1).toInt - (t3
    - t2).toInt → 0 ≤ d → d * 500000 ≤ 2 ^ 37 → (tstate = 0 ∨ tstate = 2) → s.fld STM_STAT_TSTATE = 1 → 8 ≤
    s.clk.goodRun + 1 → o.natAbs * 50000000 ≤ 2 ^ 37 → ∃ t, exec (.syncFup t2 t3 tstate) s = .next t ∧
    t.lnk.syncT1 = none ∧ t.lnk.syncT4 = none ∧ t.fld LNK_SYNC_DELAY = (roundDiv (d * 1000000000000) (2 ^
    37)).toNat % 2 ^ LNK_SYNC_DELAY.width ∧ t.reg STM_OFFSET = BitVec.ofInt 32 (clampInt (-(2 ^ 31)) (2 ^ 31 -
    1) (roundDiv o (2 ^ 9))) ∧ t.clk.lastSync = s.clk.core ∧ t.fld STM_STAT_TSTATE = 2 ∧ t.clk.goodRun = 0 ∧
    t.clk.badRun = 0 ∧ t.flag STM_STAT_RTC_UNTRUSTED = false ∧ t.clk.acc = s.clk.acc) ∧
  (∀ (t2 : BitVec 72) (t3 : BitVec 72) (tstate : BitVec 2) (t1 : Nat) (t4 : Nat × Nat) (o : Int) (d : Int),
    s.lnk.syncT1 = some t1 → s.lnk.syncT4 = some t4 → s.clk.core ≤ t4.2 + 240000 → o = (BitVec.ofNat 72 t1 -
    t2).toInt + (BitVec.ofNat 72 t4.1 - t3).toInt → d = (BitVec.ofNat 72 t4.1 - BitVec.ofNat 72 t1).toInt - (t3
    - t2).toInt → 0 ≤ d → d * 500000 ≤ 2 ^ 37 → (tstate = 0 ∨ tstate = 2) → s.fld STM_STAT_TSTATE = 1 → 2 ^ 37 <
    o.natAbs * 50000000 → ∃ t, exec (.syncFup t2 t3 tstate) s = .next t ∧ t.lnk.syncT1 = none ∧ t.lnk.syncT4 =
    none ∧ t.fld LNK_SYNC_DELAY = (roundDiv (d * 1000000000000) (2 ^ 37)).toNat % 2 ^ LNK_SYNC_DELAY.width ∧
    t.reg STM_OFFSET = BitVec.ofInt 32 (clampInt (-(2 ^ 31)) (2 ^ 31 - 1) (roundDiv o (2 ^ 9))) ∧ t.clk.lastSync
    = s.clk.core ∧ t.fld STM_STAT_TSTATE = 1 ∧ t.clk.goodRun = 0) ∧
  (∀ (t2 : BitVec 72) (t3 : BitVec 72) (tstate : BitVec 2) (t1 : Nat) (t4 : Nat × Nat) (o : Int) (d : Int),
    s.lnk.syncT1 = some t1 → s.lnk.syncT4 = some t4 → s.clk.core ≤ t4.2 + 240000 → o = (BitVec.ofNat 72 t1 -
    t2).toInt + (BitVec.ofNat 72 t4.1 - t3).toInt → d = (BitVec.ofNat 72 t4.1 - BitVec.ofNat 72 t1).toInt - (t3
    - t2).toInt → 0 ≤ d → d * 500000 ≤ 2 ^ 37 → (tstate = 0 ∨ tstate = 2) → s.fld STM_STAT_TSTATE = 2 → ∃ t,
    exec (.syncFup t2 t3 tstate) s = .next t ∧ t.lnk.syncT1 = none ∧ t.lnk.syncT4 = none ∧ t.fld LNK_SYNC_DELAY
    = (roundDiv (d * 1000000000000) (2 ^ 37)).toNat % 2 ^ LNK_SYNC_DELAY.width ∧ t.reg STM_OFFSET = BitVec.ofInt
    32 (clampInt (-(2 ^ 31)) (2 ^ 31 - 1) (roundDiv o (2 ^ 9))) ∧ t.clk.lastSync = s.clk.core ∧ t.fld
    STM_STAT_TSTATE = (if 2 ^ 37 < o.natAbs * 1000000 ∧ 4 ≤ s.clk.badRun + 1 then 1 else 2) ∧ t.clk.acc =
    s.clk.acc) ∧
  (∀ (t2 : BitVec 72) (t3 : BitVec 72) (tstate : BitVec 2) (t1 : Nat) (t4 : Nat × Nat) (o : Int) (d : Int),
    s.lnk.syncT1 = some t1 → s.lnk.syncT4 = some t4 → s.clk.core ≤ t4.2 + 240000 → o = (BitVec.ofNat 72 t1 -
    t2).toInt + (BitVec.ofNat 72 t4.1 - t3).toInt → d = (BitVec.ofNat 72 t4.1 - BitVec.ofNat 72 t1).toInt - (t3
    - t2).toInt → 0 ≤ d → d * 500000 ≤ 2 ^ 37 → (tstate = 0 ∨ tstate = 2) → s.fld STM_STAT_TSTATE = 3 → ∃ t,
    exec (.syncFup t2 t3 tstate) s = .next t ∧ t.lnk.syncT1 = none ∧ t.lnk.syncT4 = none ∧ t.fld LNK_SYNC_DELAY
    = (roundDiv (d * 1000000000000) (2 ^ 37)).toNat % 2 ^ LNK_SYNC_DELAY.width ∧ t.reg STM_OFFSET = BitVec.ofInt
    32 (clampInt (-(2 ^ 31)) (2 ^ 31 - 1) (roundDiv o (2 ^ 9))) ∧ t.clk.lastSync = s.clk.core ∧ t.fld
    STM_STAT_TSTATE = (if 2 ^ 37 < o.natAbs * 1000000 then 1 else 2) ∧ t.clk.acc = s.clk.acc)

/-- Bond requests, transfers, validation and stores complete: where the premises on the state and the operands hold,
exec answers a next state with the effect named. What a clause says of these corners is the model's choice and no
rule of the spec: receiving, refusing and storing a bond in the corners the rules word twice: log entry 13. -/
def Obligations.BondCommandsComplete : Prop :=
  ∀ s : State,
  (∀ (path : Path) (src : BitVec 2), s.serves path = true → (src = 0 ∨ src = 1) → s.fld BND_STAT_STATE = 0 →
    s.fld BND_STAT_OWNER ≠ 2 → ∃ t, exec (.bondStoreCmd path src) s = .next t ∧ t.fld BND_STAT_STATE = (if src =
    0 then 1 else 2) ∧ t.fld BND_STAT_RESULT = 0 ∧ t.bnd.storeOnly = true ∧ t.bnd.src = src.toNat) ∧
  (∀ (path : Path) (src : BitVec 2) (store : Bool), s.serves path = true → (src = 0 ∨ src = 1) → s.fld
    BND_STAT_STATE = 0 → s.fld BND_STAT_OWNER ≠ 2 → s.relayReason src.toNat = none → ∃ t, exec (.bondApply path
    src store) s = .next t ∧ t.fld BND_STAT_STATE = (if src = 0 then 1 else 2) ∧ t.fld BND_STAT_RESULT = 0 ∧
    t.bnd.storeOnly = false ∧ t.bnd.storeAfter = store) ∧
  (∀ (path : Path), s.serves path = true → s.relayOpen = true → s.bnd.storing = none → ∃ t, exec (.bondAbort
    path) s = .next t ∧ t.fld BND_STAT_STATE = 0 ∧ t.fld BND_STAT_RESULT = 5 ∧ t.reg BND_ERR = 0x32000000#32) ∧
  (∀ (path : Path) (data : Word), s.serves path = true → s.fld BND_STAT_STATE = 1 → s.bnd.src = 0 → s.fld
    BND_STAT_OWNER ≠ 2 → s.bnd.staging.length + 4 < 84 → ∃ t, exec (.bndData path data) s = .next t ∧
    t.bnd.staging = s.bnd.staging ++ leBytes 4 data.toNat ∧ t.fld BND_STAT_OWNER = 1 ∧ t.fld BND_STAT_RECEIVED =
    s.bnd.staging.length + 4 ∧ t.bnd.wordAt = s.clk.core ∧ t.fld BND_STAT_STATE = 1) ∧
  (s.fld BND_STAT_STATE = 1 → s.boot.restart = none → s.bnd.wordAt + 240000000 ≤ s.clk.core → ∃ t, exec
    .bondReceiveTimeout s = .next t ∧ t.fld BND_STAT_STATE = 0 ∧ t.fld BND_STAT_RESULT = 5 ∧ t.reg BND_ERR =
    0x31000000#32) ∧
  (s.fld BND_STAT_STATE = 2 → s.boot.restart = none → s.bnd.afterSheet = false → s.bnd.storeOnly = false → ∃ t,
    exec .bondValidationDone s = .next t ∧ (∀ e, validate s.offered s.offered.length s.bondSigned s.keyHash =
    .error e → t.fld BND_STAT_STATE = 0 ∧ t.fld BND_STAT_RESULT = 2 ∧ t.reg BND_ERR = BitVec.ofNat 32 (e.reason
    <<< 24 + e.tile) ∧ t.reg BND_ERR_BYTE = BitVec.ofNat 32 e.byte) ∧ (∀ ts, validate s.offered s.offered.length
    s.bondSigned s.keyHash = .ok ts → t.fld BND_STAT_STATE = 3 ∧ t.bnd.accepted = some (s.offered, ts))) ∧
  (∀ (b : List Byte) (ts : List Tile), s.bnd.accepted = some (b, ts) → s.fld BND_STAT_STATE = 3 → s.boot.restart
    = none → ∃ t, exec .bondTakesEffect s = .next t ∧ t.bnd.bytes = b ∧ t.bnd.tiles = ts ∧ t.bnd.accepted =
    none) ∧
  (∀ (b : List Byte), s.bnd.storing = some (b, false) → s.boot.restart = none → ∃ t, exec (.bondStoreDone false)
    s = .next t ∧ t.bnd.storing = none ∧ t.fld BND_STAT_STATE = 0 ∧ t.fld BND_STAT_RESULT = 6 ∧ t.flashRead
    (slotBase s.otherSlot + 0x10000) 16 = sealBytes ((s.reg BND_GEN).toNat + 1) b)

/-- Backup-domain and RTC commands complete: where the premises on the state and the operands hold, exec answers a next
state with the effect named. What a clause says of these corners is the model's choice and no rule of the spec: the
band of LBV, the alarm and the records that wait for the core: log entries 21, 36. -/
def Obligations.BackupDomainCommands : Prop :=
  ∀ s : State,
  (s.bkd.powered = false → ∃ t, exec .vbakFirstRise s = .next t ∧ t.bkd.powered = true ∧ t.bkd.sec = 0 ∧
    t.bkd.frac = 0 ∧ t.flag RTC_STAT_OSF = true ∧ t.flag RTC_STAT_LBV = true ∧ t.bkd.fifo = []) ∧
  (s.bkd.powered = true → ∃ t, exec .vbakLoss s = .next t ∧ t.bkd.powered = false ∧ t.bkd.fifo = [] ∧
    t.bkd.freezes = [] ∧ t.bkd.commit = none) ∧
  (s.bkd.powered = true → calLast < s.bkd.sec.toNat → ∃ t, exec .calOverflow s = .next t ∧ t.flag
    RTC_STAT_CAL_OVR = true ∧ t.bkd = s.bkd) ∧
  (∀ (path : Path) (word : BitVec 2), s.serves path = true → s.bkd.powered = true → s.bkd.freezes.any (fun f =>
    decide (f.1 = pathShadow path)) = false → ∃ t, exec (.rtcTimeRead path word) s = .next t ∧ (path ≠ .spi ∨
    word ≠ 3 → t.bkd.freezes = putPair s.bkd.freezes (pathShadow path) s.clk.bak) ∧ lookupD t.shadow (pathShadow
    path, RTC_SEC_LO + 4 * word.toNat) 0 = s.rtcWord word.toNat ∧ (path = .spi → t.hst.dout = [s.rtcWord
    word.toNat]) ∧ t.regs = s.regs) ∧
  (∀ (path : Path) (at0 : Nat), s.bkd.freezes.find? (fun f => decide (f.1 = pathShadow path)) = some (pathShadow
    path, at0) → at0 + 64 ≤ s.clk.bak → ∃ t, exec (.rtcFreezeTimeout path) s = .next t ∧ t.bkd.freezes =
    dropPair s.bkd.freezes (pathShadow path) ∧ t.bkd.stale.contains (pathShadow path) = true) ∧
  (∀ (path : Path), s.serves path = true → s.bkd.powered = true → ∃ t, exec (.rtcStatRead path) s = .next t ∧
    t.bkd.freezes = dropPair s.bkd.freezes (pathShadow path) ∧ t.bkd.stale.contains (pathShadow path) = false ∧
    t.regs = s.regs) ∧
  (∀ (path : Path) (almEn : Bool), s.serves path = true → s.bkd.powered = true → s.bkd.commit = none → ∃ t, exec
    (.commitBinary path almEn) s = .next t ∧ t.bkd.commit = some (BitVec.ofNat 36 ((s.reg RTC_SET_SEC_LO).toNat
    + 2 ^ 32 * s.fld RTC_SET_SEC_HI_SET_SEC_HI), BitVec.ofNat 15 (s.fld RTC_SET_SEC_HI_SET_FRAC)) ∧
    t.bkd.commitAt = s.clk.bak ∧ t.flag RTC_CTRL_ALM_EN = almEn ∧ t.bkd.sec = s.bkd.sec) ∧
  (∀ (path : Path) (almEn : Bool) (sec : Nat), s.serves path = true → s.bkd.powered = true → s.bkd.commit = none
    → calendarOf (s.reg RTC_SET_TIME).toNat (s.reg RTC_SET_DATE).toNat = .inr sec → ∃ t, exec (.commitCalendar
    path almEn) s = .next t ∧ t.bkd.commit = some (BitVec.ofNat 36 sec, 0) ∧ t.bkd.commitAt = s.clk.bak ∧ t.flag
    RTC_CTRL_ALM_EN = almEn) ∧
  (∀ (v : BitVec 36 × BitVec 15), s.bkd.powered = true → s.bkd.commit = some v → s.bkd.commitAt + 1 ≤ s.clk.bak
    → ∃ t, exec .commitApply s = .next t ∧ t.bkd.commit = none ∧ t.bkd.sec = v.1 ∧ t.bkd.frac = v.2 ∧ t.flag
    RTC_STAT_OSF = false) ∧
  (s.bkd.powered = true → ∃ t, exec .oscStopDetect s = .next t ∧ t.flag RTC_STAT_OSF = true ∧ t.bkd.sec =
    s.bkd.sec) ∧
  (∀ (millivolts : Nat), s.bkd.powered = true → millivolts < 2070 → s.bkd.sampleAt ≤ s.clk.bak → ∃ t, exec
    (.vbakSample millivolts) s = .next t ∧ t.flag RTC_STAT_LBV = true ∧ s.clk.bak < t.bkd.sampleAt ∧
    t.bkd.sampleAt ≤ s.clk.bak + 32768) ∧
  (∀ (millivolts : Nat), s.bkd.powered = true → 2130 ≤ millivolts → ∃ t, exec (.vbakSample millivolts) s = .next
    t ∧ t.regs = s.regs) ∧
  (∀ (millivolts : Nat), s.clk.bak < s.bkd.sampleAt → ∃ t, exec (.vbakSample millivolts) s = .next t ∧ t = s) ∧
  (s.bkd.powered = true → s.flag RTC_CTRL_ALM_EN = true → (s.reg RTC_ALM_LO).toNat + 2 ^ 32 * s.fld
    RTC_ALM_HI_ALM_HI ≤ s.bkd.sec.toNat → ∃ t, exec .alarmFire s = .next t ∧ t.flag RTC_CTRL_ALM_EN = false ∧
    t.flag RTC_STAT_ALM_EV = true) ∧
  (∀ (input : Nat) (level : Bool), s.bkd.powered = true → input < 4 → selects (s.fld (EVT_CFG_EDGE input)) level
    = true → s.bkd.fifo.length < 16 → ∃ t, exec (.evtEdgeAccept input level) s = .next t ∧ t.bkd.fifo =
    s.bkd.fifo ++ [⟨(s.bkd.recent.getD (s.fld (EVT_CFG_FILT input)) (s.bkd.sec, s.bkd.frac)).1,
    (s.bkd.recent.getD (s.fld (EVT_CFG_FILT input)) (s.bkd.sec, s.bkd.frac)).2, level, input, s.active⟩]) ∧
  (∀ (path : Path), s.serves path = true → s.bkd.powered = true → ∃ t, exec (.evtPop path) s = .next t ∧
    t.bkd.fifo = s.bkd.fifo.drop 1 ∧ t.bkd.sec = s.bkd.sec) ∧
  (∀ (path : Path), s.serves path = true → s.bkd.powered = true → ∃ t, exec (.evtOvfClr path) s = .next t ∧
    t.fld EVT_STAT_OVF_CNT = 0 ∧ t.bkd.fifo = s.bkd.fifo)

/-- Brick updates, targets, coefficients and counters complete: where the premises on the state and the operands hold,
exec answers a next state with the effect named. What a clause says of these corners is the model's choice and no
rule of the spec: the first instants of a start and what a write between two instants does: log entry 25. -/
def Obligations.BrickCommandsComplete : Prop :=
  ∀ s : State,
  (∀ (n : Nat) (held : List (Nat × BitVec 14)), s.active = true → n < 16 → s.brk.length = 16 → s.brkState n =
    brkRunning → s.role n = 2 → s.instantDue n = true → s.driven n = true → s.flag (BRK_LANE_STAT_HOLD n) =
    false → (s.brick n).commit = false → s.currentCh n = none → ∃ t, exec (.brickUpdate n ⟨[],[]⟩ held) s =
    .next t ∧ t.cmdVal n = sat24 (min (max (s.cmdVal (s.leader n) + (s.brick n).trim) (s.cmdLimits (s.leader
    n)).1) (s.cmdLimits (s.leader n)).2) ∧ (t.brick n).updates = (s.brick n).updates + 1 ∧ t.brkState n =
    brkRunning) ∧
  (∀ (n : Nat) (held : List (Nat × BitVec 14)), s.active = true → n < 16 → s.brk.length = 16 → s.brkState n =
    brkRunning → s.role n = 1 → s.leader n = n → n ∈ s.members n → s.instantDue n = true → s.driven n = true →
    s.flag (BRK_LANE_STAT_HOLD n) = false → (s.brick n).updates ≠ 0 → s.kind n ≠ 10 → s.sessionOpen = false →
    s.currentCh n = none → ∃ t, exec (.brickUpdate n ⟨[],[]⟩ held) s = .next t ∧ t.cmdVal n = (s.brick n).next ∧
    (t.brick n).updates = (s.brick n).updates + 1 ∧ t.brkState n = brkRunning) ∧
  (∀ (n : Nat) (lanes : LaneErrors) (held : List (Nat × BitVec 14)), s.active = true → n < 16 → s.brk.length =
    16 → s.brkState n = brkRunning → s.role n = 1 → s.instantDue n = true → s.flag (BRK_LANE_STAT_HOLD n) = true
    → ∃ t, exec (.brickUpdate n lanes held) s = .next t ∧ (t.brick n).updates = (s.brick n).updates + 1 ∧
    t.brkState n = brkRunning ∧ t.flag (BRK_LANE_STAT_HOLD n) = true ∧ t.cmdVal n = s.cmdVal n ∧ t.refVal n =
    s.refVal n) ∧
  (∀ (n : Nat), n < 16 → s.brk.length = 16 → s.coreRuns = true → reached (s.brick n).settleAt s.clk.core = true
    → (s.brick n).decided = false → ∃ t, exec (.settleTimeout n) s = .next t ∧ t.flag (BRK_STAT_SETTLE_FAIL n) =
    true ∧ (t.brick n).decided = true ∧ (t.brick n).settleAt = none) ∧
  (∀ (n : Nat) (held : List (Nat × BitVec 14)), s.active = true → n < 16 → switching (s.brkState n) = true →
    s.role n = 3 → s.leaderInstant (s.leader n) = true → s.follows n = true → s.flag (BRK_LANE_STAT_HOLD n) =
    false → (s.brick n).holdBoth = false → ∃ t, exec (.brickUpdate n ⟨[],[]⟩ held) s = .next t ∧ t.regs =
    s.regs) ∧
  (∀ (n : Nat) (at0 : Nat), n < 16 → s.brk.length = 16 → s.brkState n = brkRunning → (s.brick n).runSince = some
    at0 → at0 + 240000000 ≤ s.clk.core → ∃ t, exec (.running1sExpiry n) s = .next t ∧ t.fld
    (BRK_LIM_STAT_RETRY_LEFT n) = s.t8 3 n 0x19 0 % 4 ∧ (t.brick n).runSince = none) ∧
  (∀ (path : Path) (n : Nat) (data : Word), s.serves path = true → n < 16 → s.brk.length = 16 → s.sessionOpen =
    false → s.brkRestricted n 0x18 = false → data &&& 0xFFFE0000#32 = 0 → ∃ t, exec (.brkTargetWrite path n
    data) s = .next t ∧ t.fld (BRK_TARGET_TARGET n) = data.toNat % 65536 ∧ t.flag (BRK_TARGET_LOOP n) =
    data.getLsbD 16 ∧ (t.brick n).tgtSrc = some (targetSrc path)) ∧
  (∀ (path : Path) (n : Nat), s.serves path = true → n < 16 → s.brk.length = 16 → s.brkRestricted n 0x38 = false
    → s.stagedOk n = true → switching (s.brkState n) = true → ∃ t, exec (.coefCommit path n) s = .next t ∧
    (t.brick n).commit = true ∧ t.regs = s.regs) ∧
  (∀ (path : Path) (n : Nat), s.serves path = true → n < 16 → s.brk.length = 16 → s.brkRestricted n 0x38 = false
    → s.stagedOk n = true → switching (s.brkState n) = false → ∃ t, exec (.coefCommit path n) s = .next t ∧
    (t.brick n).commit = false ∧ (t.brick n).staged = [] ∧ t.flag (BRK_STAT_STAGED n) = false) ∧
  (∀ (path : Path) (n : Nat), s.serves path = true → n < 16 → s.brkRestricted n 0x38 = false → ∃ t, exec
    (.brkCntClr path n) s = .next t ∧ t.reg (BRK_CNT n) = 0) ∧
  (∀ (path : Path) (n : Nat), s.serves path = true → n < 16 → s.brkRestricted n 0x2F0 = false → ∃ t, exec
    (.retryRst path n) s = .next t ∧ t.fld (BRK_LIM_STAT_RETRY_LEFT n) = s.t8 3 n 0x19 0 % 4) ∧
  (∀ (path : Path) (n : Nat), s.serves path = true → n < 16 → s.brkRestricted n 0x2F0 = false → ∃ t, exec
    (.lcntClr path n) s = .next t ∧ t.fld (BRK_LANE_A_CNT_ERR_CNT n) = 0 ∧ t.fld (BRK_LANE_B_CNT_ERR_CNT n) = 0
    ∧ t.fld (BRK_HOLD_HOLD_CNT n) = 0) ∧
  (∀ (n : Nat) (held : List (Nat × BitVec 14)) (a : Nat) (q : Nat), s.active = true → n < 16 → s.brk.length = 16
    → s.brkState n = brkRunning → s.instantDue n = true → s.driven n = true → s.flag (BRK_LANE_STAT_HOLD n) =
    false → (s.brick n).commit = false → (s.brick n).fastIn = s.reg (BRK_FAST n) → (s.brick n).slowIn = s.reg
    (BRK_SLOW n) → (s.brick n).i2tIn = s.reg (BRK_I2T_LIMIT n) → (s.currentCh n).isSome = true → s.average n = a
    → q = (((s.fld (BRK_I2T_Q n) * 2 ^ 32 + (s.brick n).qFrac : Nat) : Int) + ((a : Int) * a - (s.slowThr n :
    Int) * s.slowThr n) * ((s.period n / s.updates n : Nat) : Int)).toNat → s.role n = 1 → s.leader n = n → n ∈
    s.members n → (s.brick n).updates ≠ 0 → s.kind n ≠ 10 → s.sessionOpen = false → s.trigSrc ≠ n + 1 → q / 2 ^
    32 < (s.brick n).i2tIn.toNat → ∃ t, exec (.brickUpdate n ⟨[],[]⟩ held) s = .next t ∧ t.brkState n =
    brkRunning ∧ t.fld (BRK_LIM_AVG_AVG n) = a % 2 ^ (BRK_LIM_AVG_AVG n).width ∧ t.fld (BRK_I2T_Q n) = min (q /
    2 ^ 32) (2 ^ 32 - 1) ∧ (t.brick n).updates = (s.brick n).updates + 1 ∧ t.cmdVal n = (s.brick n).next) ∧
  (∀ (n : Nat) (held : List (Nat × BitVec 14)) (a : Nat) (q : Nat), s.active = true → n < 16 → s.brk.length = 16
    → s.brkState n = brkRunning → s.instantDue n = true → s.driven n = true → s.flag (BRK_LANE_STAT_HOLD n) =
    false → (s.brick n).commit = false → (s.brick n).fastIn = s.reg (BRK_FAST n) → (s.brick n).slowIn = s.reg
    (BRK_SLOW n) → (s.brick n).i2tIn = s.reg (BRK_I2T_LIMIT n) → (s.currentCh n).isSome = true → s.average n = a
    → q = (((s.fld (BRK_I2T_Q n) * 2 ^ 32 + (s.brick n).qFrac : Nat) : Int) + ((a : Int) * a - (s.slowThr n :
    Int) * s.slowThr n) * ((s.period n / s.updates n : Nat) : Int)).toNat → s.role n = 1 → s.leader n = n → n ∈
    s.members n → (s.brick n).updates ≠ 0 → s.kind n ≠ 10 → s.sessionOpen = false → s.trigSrc ≠ n + 1 → (s.brick
    n).i2tIn.toNat ≤ q / 2 ^ 32 → ∃ t, exec (.brickUpdate n ⟨[],[]⟩ held) s = .next t ∧ t.brkState n = brkHalted
    ∧ t.flag (BRK_LIM_STAT_I2T_TRIP n) = true ∧ t.flag SEQ_FAULT_ACTIVE = true ∧ (s.flag SEQ_FAULT_ACTIVE =
    false → t.fld SEQ_FAULT_CODE = 0x0230)) ∧
  (∀ (n : Nat) (held : List (Nat × BitVec 14)) (a : Nat) (q : Nat), s.active = true → n < 16 → s.brk.length = 16
    → s.brkState n = brkRunning → s.instantDue n = true → s.driven n = true → s.flag (BRK_LANE_STAT_HOLD n) =
    false → (s.brick n).commit = false → (s.brick n).fastIn = s.reg (BRK_FAST n) → (s.brick n).slowIn = s.reg
    (BRK_SLOW n) → (s.brick n).i2tIn = s.reg (BRK_I2T_LIMIT n) → (s.currentCh n).isSome = true → s.average n = a
    → q = (((s.fld (BRK_I2T_Q n) * 2 ^ 32 + (s.brick n).qFrac : Nat) : Int) + ((a : Int) * a - (s.slowThr n :
    Int) * s.slowThr n) * ((s.period n / s.updates n : Nat) : Int)).toNat → s.role n = 2 → q / 2 ^ 32 < (s.brick
    n).i2tIn.toNat → ∃ t, exec (.brickUpdate n ⟨[],[]⟩ held) s = .next t ∧ t.brkState n = brkRunning ∧ t.fld
    (BRK_LIM_AVG_AVG n) = a % 2 ^ (BRK_LIM_AVG_AVG n).width ∧ t.fld (BRK_I2T_Q n) = min (q / 2 ^ 32) (2 ^ 32 -
    1) ∧ (t.brick n).updates = (s.brick n).updates + 1 ∧ t.cmdVal n = sat24 (min (max (s.cmdVal (s.leader n) +
    (s.brick n).trim) (s.cmdLimits (s.leader n)).1) (s.cmdLimits (s.leader n)).2)) ∧
  (∀ (n : Nat) (held : List (Nat × BitVec 14)) (a : Nat) (q : Nat), s.active = true → n < 16 → s.brk.length = 16
    → s.brkState n = brkRunning → s.instantDue n = true → s.driven n = true → s.flag (BRK_LANE_STAT_HOLD n) =
    false → (s.brick n).commit = false → (s.brick n).fastIn = s.reg (BRK_FAST n) → (s.brick n).slowIn = s.reg
    (BRK_SLOW n) → (s.brick n).i2tIn = s.reg (BRK_I2T_LIMIT n) → (s.currentCh n).isSome = true → s.average n = a
    → q = (((s.fld (BRK_I2T_Q n) * 2 ^ 32 + (s.brick n).qFrac : Nat) : Int) + ((a : Int) * a - (s.slowThr n :
    Int) * s.slowThr n) * ((s.period n / s.updates n : Nat) : Int)).toNat → s.role n = 2 → (s.brick
    n).i2tIn.toNat ≤ q / 2 ^ 32 → ∃ t, exec (.brickUpdate n ⟨[],[]⟩ held) s = .next t ∧ t.brkState n = brkHalted
    ∧ t.flag (BRK_LIM_STAT_I2T_TRIP n) = true ∧ t.flag SEQ_FAULT_ACTIVE = true ∧ (s.flag SEQ_FAULT_ACTIVE =
    false → t.fld SEQ_FAULT_CODE = 0x0230))

/-- Lane tests, scrubs and fast limits complete: where the premises on the state and the operands hold, exec answers a
next state with the effect named. What a clause says of these corners is the model's choice and no rule of the spec:
how upsets are told and charged: log entry 26. -/
def Obligations.LaneAndLimitCommands : Prop :=
  ∀ s : State,
  (∀ (n : Nat) (dataA : List (Nat × BitVec 32)) (dataB : List (Nat × BitVec 32)) (codeA : List (Nat × BitVec 7))
    (codeB : List (Nat × BitVec 7)), n < 16 → s.brk.length = 16 → s.coreRuns = true → s.role n ≠ 0 → (s.brick
    n).scrubAt + 240000 ≤ s.clk.core → laneState s n .a ≤ 1 → laneState s n .b = 3 → s.flag (BRK_LANE_EV_CORR_EV
    n) = false → (scrubWords ((s.brick n).copy .a).store ⟨dataA, codeA⟩).lost = false → storeCheck (scrubWords
    ((s.brick n).copy .a).store ⟨dataA, codeA⟩).words = ((s.brick n).copy .a).check → (Upsets.mk dataA
    codeA).word ((s.brick n).copy .a).store.length = 0 → s.fld (BRK_LANE_A_CNT_CORR_CNT n) + (scrubWords
    ((s.brick n).copy .a).store ⟨dataA, codeA⟩).corrected ≤ 255 → ∃ t, exec (.laneScrub n dataA dataB codeA
    codeB) s = .next t ∧ t.fld (BRK_LANE_A_CNT_CORR_CNT n) = s.fld (BRK_LANE_A_CNT_CORR_CNT n) + (scrubWords
    ((s.brick n).copy .a).store ⟨dataA, codeA⟩).corrected ∧ t.flag (BRK_LANE_EV_CORR_EV n) = decide (0 <
    (scrubWords ((s.brick n).copy .a).store ⟨dataA, codeA⟩).corrected) ∧ t.fld (BRK_LANE_B_CNT_CORR_CNT n) =
    s.fld (BRK_LANE_B_CNT_CORR_CNT n) ∧ (t.brick n).scrubAt = s.clk.core) ∧
  (∀ (n : Nat), n < 16 → s.flag (BRK_LANE_STAT_HOLD n) = true → (s.brick n).holdBoth = true → laneState s n .a =
    1 → laneState s n .b = 1 → ∃ t, exec (.quickTestDone n false false) s = .next t ∧ laneState t n .a = 3 ∧
    laneState t n .b = 3 ∧ t.flag (BRK_LANE_STAT_HOLD n) = false ∧ t.flag SEQ_FAULT_ACTIVE = true) ∧
  (∀ (n : Nat) (lane : Lane), n < 16 → (s.brick n).testing.contains lane = true → laneState s n lane = 2 → ∃ t,
    exec (.fullTestDone n lane false) s = .next t ∧ laneState t n lane = 3 ∧ t.flag (BRK_LANE_EV_RETIRE_EV n) =
    true) ∧
  (∀ (n : Nat) (lane : Lane), n < 16 → s.brk.length = 16 → (s.brick n).rejoin = some lane → s.brkState n =
    brkRunning → s.flag (BRK_LANE_STAT_HOLD n) = false → s.periodStartDue n = true → laneState s n (otherLane
    lane) ≠ 0 → ∃ t, exec (.laneRejoin n) s = .next t ∧ laneState t n lane = 0 ∧ (t.brick n).rejoin = none) ∧
  (∀ (cs : CsSample), s.fastArmed cs.brick = true → s.fastCrossed cs.brick cs.microvolts = true → s.blankingOver
    cs.brick = true → s.brk.length = 16 → ∃ t, exec (.fastLimitTrip cs) s = .next t ∧ t.flag
    (BRK_LIM_STAT_FAST_TRIP cs.brick) = true ∧ t.flag SEQ_FAULT_ACTIVE = true) ∧
  (∀ (n : Nat) (microvolts : Nat), s.fastArmed n = true → s.fastCrossed n microvolts = true → s.blankingOver n =
    true → s.brk.length = 16 → ∃ t, exec (.blankingEnd n microvolts) s = .next t ∧ t.flag
    (BRK_LIM_STAT_FAST_TRIP n) = true ∧ t.flag SEQ_FAULT_ACTIVE = true) ∧
  (∀ (blocked : Bool), reached s.seq.retryAt s.clk.core = true → ∃ t, exec (.retryTimerExpiry blocked) s = .next
    t ∧ t.seq.retryAt = none) ∧
  (reached s.seq.retryAt s.clk.core = true → s.flag SEQ_FAULT_ACTIVE = true → s.jnl.onlyShorts = true →
    s.anyViolation = false → ∃ t, exec (.retryTimerExpiry false) s = .next t ∧ t.flag SEQ_FAULT_ACTIVE = false) ∧
  (∀ (n : Nat), n < 16 → s.brk.length = 16 → s.flag (BRK_LANE_STAT_HOLD n) = true → (s.brick n).holdBoth = true
    → laneState s n .a = 1 → laneState s n .b = 1 → ∃ t, exec (.quickTestDone n true true) s = .next t ∧
    laneState t n .a = 0 ∧ laneState t n .b = 2 ∧ t.flag (BRK_LANE_STAT_HOLD n) = false ∧ t.fld
    (BRK_LANE_STAT_DRIVE n) = 0 ∧ (t.brick n).testing.contains .b = true ∧ (t.brick n).fullLater = some .a ∧
    (s.role n = 1 → s.currentCh n = none → s.brkState n = brkRunning → t.brkState n = brkRunning)) ∧
  (∀ (n : Nat) (passA : Bool) (passB : Bool) (l : Lane), n < 16 → s.brk.length = 16 → s.flag (BRK_LANE_STAT_HOLD
    n) = true → (s.brick n).holdBoth = true → laneState s n .a = 1 → laneState s n .b = 1 → passA = decide (l =
    .a) → passB = decide (l = .b) → ∃ t, exec (.quickTestDone n passA passB) s = .next t ∧ laneState t n l = 0 ∧
    laneState t n (otherLane l) = 3 ∧ t.flag (BRK_LANE_STAT_HOLD n) = false ∧ t.fld (BRK_LANE_STAT_DRIVE n) =
    laneNo l) ∧
  (∀ (n : Nat) (l : Lane), n < 16 → s.brk.length = 16 → s.flag (BRK_LANE_STAT_HOLD n) = true → (s.brick
    n).holdBoth = false → s.driving n = l → laneState s n l = 1 → (s.countTransient n l).2 = false → ∃ t, exec
    (.quickTestDone n true true) s = .next t ∧ laneState t n l = 0 ∧ t.flag (BRK_LANE_STAT_HOLD n) = false ∧
    t.flag (BRK_LANE_EV_TRANS_EV n) = true ∧ (laneState s n (otherLane l) ≠ 3 → (t.brick n).fullLater = some l)) ∧
  (∀ (n : Nat) (lane : Lane), n < 16 → s.brk.length = 16 → (s.brick n).testing.contains lane = true → laneState
    s n lane = 2 → (s.countTransient n lane).2 = false → ∃ t, exec (.fullTestDone n lane true) s = .next t ∧
    laneState t n lane = 2 ∧ (t.brick n).rejoin = some lane ∧ (t.brick n).testing.contains lane = false ∧ t.flag
    (BRK_LANE_EV_TRANS_EV n) = true ∧ t.brkState n = s.brkState n) ∧
  (∀ (n : Nat) (lane : Lane), n < 16 → s.brk.length = 16 → (s.brick n).testing.contains lane = true → laneState
    s n lane = 2 → (s.countTransient n lane).2 = true → ∃ t, exec (.fullTestDone n lane true) s = .next t ∧
    laneState t n lane = 3 ∧ (t.brick n).testing.contains lane = false ∧ t.flag (BRK_LANE_EV_RETIRE_EV n) =
    true)

/-- Voltage-command-port frames and register commands complete: where the premises on the state and the operands hold,
exec answers a next state with the effect named. What a clause says of these corners is the model's choice and no
rule of the spec: the length of an answer: log entry 27. -/
def Obligations.VcpCommandsComplete : Prop :=
  ∀ s : State,
  (s.vcpUp = true → s.fld VCP_ERR_CNT_FRAME_CNT + 1 < 65536 → ∃ t, exec .vcpShortFrame s = .next t ∧ t.fld
    VCP_ERR_CNT_FRAME_CNT = s.fld VCP_ERR_CNT_FRAME_CNT + 1 ∧ t.flag VCP_STAT_FRAME_EV = true) ∧
  (s.vcpUp = true → s.fld VCP_ERR_CNT_CRC_CNT + 1 < 65536 → ∃ t, exec .vcpCrcFail s = .next t ∧ t.fld
    VCP_ERR_CNT_CRC_CNT = s.fld VCP_ERR_CNT_CRC_CNT + 1 ∧ t.flag VCP_STAT_CRC_EV = true ∧ t.vcp.answer = none) ∧
  (∀ (n : Nat) (group : BitVec 8) (seq : BitVec 4) (value : VcpValue), s.vcpUp = true → s.groupOwner group.toNat
    = some n → s.brkState n = brkRunning → data24 (BitVec.ofNat 16 (value.value.toNat % 65536)).toInt =
    value.value.toNat → s.vcp.last.any (fun p => decide (p = (n, 1, seq.toNat, value.value.toNat))) = false →
    s.sessionOpen = false → ∃ t, exec (.setV group seq value) s = .next t ∧ t.fld (BRK_TARGET_TARGET n) =
    value.value.toNat % 65536 ∧ t.flag (BRK_TARGET_LOOP n) = false ∧ t.fld (recFld n seq.toNat) = ansPending ∧
    t.vcp.answer = (if value.cut then none else some (vcpWord group.toNat ansAccept seq.toNat (value.value.toNat
    % 65536)))) ∧
  (∀ (n : Nat) (group : BitVec 8) (seq : BitVec 4) (value : VcpValue), s.vcpUp = true → s.groupOwner group.toNat
    = some n → s.brkState n = brkRunning → data24 (BitVec.ofNat 16 (value.value.toNat % 65536)).toInt =
    value.value.toNat → s.vcp.last.any (fun p => decide (p = (n, 2, seq.toNat, value.value.toNat))) = false →
    s.sessionOpen = false → ∃ t, exec (.setI group seq value) s = .next t ∧ t.fld (BRK_TARGET_TARGET n) =
    value.value.toNat % 65536 ∧ t.flag (BRK_TARGET_LOOP n) = true ∧ t.fld (recFld n seq.toNat) = ansPending ∧
    t.vcp.answer = (if value.cut then none else some (vcpWord group.toNat ansAccept seq.toNat (value.value.toNat
    % 65536)))) ∧
  (∀ (n : Nat) (group : BitVec 8) (seq : BitVec 4) (value : VcpValue), s.vcpUp = true → s.groupOwner group.toNat
    = some n → s.brkState n ≠ brkHalted → value.value.toNat ≠ 0 → ∃ t, exec (.setSlew group seq value) s = .next
    t ∧ t.fld (BRK_SLEW_SLEW n) = value.value.toNat % 2 ^ (BRK_SLEW_SLEW n).width ∧ t.vcp.answer = (if value.cut
    then none else some (vcpWord group.toNat ansAccept seq.toNat value.value.toNat))) ∧
  (∀ (n : Nat) (group : BitVec 8) (seq : BitVec 4) (value : VcpValue), s.vcpUp = true → s.groupOwner group.toNat
    = some n → value.value = 0 → s.fld (recFld n seq.toNat) = ansPending → ∃ t, exec (.poll group seq value) s =
    .next t ∧ t.vcp.answer = (if value.cut then none else some (vcpWord group.toNat ansPending seq.toNat (data24
    (s.sfld (BRK_FB_FB n))))) ∧ t.fld (recFld n seq.toNat) = ansPending) ∧
  (∀ (n : Nat) (group : BitVec 8) (seq : BitVec 4) (value : VcpValue), s.vcpUp = true → s.groupOwner group.toNat
    = some n → value.value = 1 → ∃ t, exec (.read group seq value) s = .next t ∧ t.vcp.answer = (if value.cut
    then none else some (vcpWord group.toNat ansDone seq.toNat (data24 (((s.brick n).shown).getD (s.registers
    n)).target))) ∧ t.reg (BRK_TARGET n) = s.reg (BRK_TARGET n)) ∧
  (∀ (command : BitVec 4) (n : Nat) (group : BitVec 8) (seq : BitVec 4) (value : VcpValue), s.vcpUp = true →
    s.groupOwner group.toNat = some n → (command = 0 ∨ 6 ≤ command.toNat) → ∃ t, exec (.vcpReservedCmd command
    group seq value) s = .next t ∧ t.vcp.answer = (if value.cut then none else some (vcpWord group.toNat
    ansReject seq.toNat 1)) ∧ t.flag VCP_STAT_REJ_EV = true ∧ t.reg (BRK_TARGET n) = s.reg (BRK_TARGET n)) ∧
  (∀ (path : Path), s.serves path = true → s.flag VCP_STAT_ACTIVE = false → ∃ t, exec (.vcpRecClr path) s =
    .next t ∧ t.reg (VCP_REC_LO 0) = 0x88888888#32 ∧ t.reg (VCP_REC_HI 15) = 0x88888888#32 ∧ t.vcp.waiting = []
    ∧ t.vcp.last = []) ∧
  (∀ (path : Path), s.serves path = true → ∃ t, exec (.vcpCntClr path) s = .next t ∧ t.reg VCP_ERR_CNT = 0 ∧
    t.reg VCP_ANS_CNT = 0) ∧
  (∀ (path : Path), s.serves path = true → ∃ t, exec (.vcpLastLoRead path) s = .next t ∧ lookupD t.shadow
    (pathShadow path, VCP_LAST_HI) 0 = s.reg VCP_LAST_HI ∧ (path = .spi → t.hst.dout = [s.reg VCP_LAST_LO]) ∧
    t.regs = s.regs)

/-- Course steps and the actions of a run complete: where the premises on the state and the operands hold, exec answers
a next state with the effect named. What a clause says of these corners is the model's choice and no rule of the
spec: steps beyond the ends, and what a step does on a device that takes no part: log entry 28. -/
def Obligations.CourseStepsComplete : Prop :=
  ∀ s : State,
  (s.stepsCourse = true → s.fld SEQ_STAT_DEV_COURSE < 254 → (s.courseActions (s.fld SEQ_STAT_DEV_COURSE + 1)
    false).all (fun a => a.op != 0) = true → ∃ t, exec .courseStepUp s = .next t ∧ t.fld SEQ_STAT_DEV_COURSE =
    s.fld SEQ_STAT_DEV_COURSE + 1 ∧ t.flag SEQ_STAT_DIR = false ∧ t.pins.courseHold = true ∧ t.flag
    SEQ_EV_STEP_EV = true ∧ t.seq.todo = s.courseActions (s.fld SEQ_STAT_DEV_COURSE + 1) false) ∧
  (s.stepsCourse = true → 0 < s.fld SEQ_STAT_DEV_COURSE → (s.courseActions (s.fld SEQ_STAT_DEV_COURSE) true).all
    (fun a => a.op != 0) = true → ∃ t, exec .courseStepDown s = .next t ∧ t.fld SEQ_STAT_DEV_COURSE = s.fld
    SEQ_STAT_DEV_COURSE - 1 ∧ t.flag SEQ_STAT_DIR = true ∧ t.pins.courseHold = true ∧ t.flag SEQ_EV_STEP_EV =
    true ∧ t.seq.todo = s.courseActions (s.fld SEQ_STAT_DEV_COURSE) true) ∧
  (s.stepsCourse = true → s.fld SEQ_STAT_DEV_COURSE = 0 → ∃ t, exec .courseFloor s = .next t ∧ t.flag
    SEQ_STAT_DIR = true ∧ t.flag SEQ_EV_FLOOR_EV = true ∧ t.fld SEQ_STAT_DEV_COURSE = 0) ∧
  (s.onCourse = true → s.lineIdle = true → s.fld SEQ_CNT_LINE_CNT + 1 < 2 ^ SEQ_CNT_LINE_CNT.width → ∃ t, exec
    .courseInvalidLow s = .next t ∧ t.fld SEQ_CNT_LINE_CNT = s.fld SEQ_CNT_LINE_CNT + 1 ∧ t.flag SEQ_EV_LINE_EV
    = true ∧ t.fld SEQ_STAT_DEV_COURSE = s.fld SEQ_STAT_DEV_COURSE) ∧
  (∀ (a : Action) (b : Action) (r : List Action), s.seq.todo = a :: b :: r → b.op ≠ 0 → s.nextAction 1 = some a
    → a.target < 16 → s.brkState a.target = brkStopped → s.cannotStart a.target = false → a.target ∈ s.members
    a.target → ∃ t, exec .railOn s = .next t ∧ t.seq.todo = b :: r ∧ t.brkState a.target = brkStarting ∧ t.fld
    (SEQ_RAIL_STAT_STATE a.target) = 1) ∧
  (∀ (a : Action) (b : Action) (r : List Action), s.seq.todo = a :: b :: r → b.op ≠ 0 → s.nextAction 1 = some a
    → a.target = 19 → bitsOf (s.fld SEQ_ON_RAIL) 19 1 = 0 → ∃ t, exec .railOn s = .next t ∧ t.seq.todo = b :: r
    ∧ bitsOf (t.fld SEQ_ON_RAIL) 19 1 = 1 ∧ t.fld (SEQ_RAIL_STAT_STATE 19) = 1 ∧ t.pins.aux1.isSome = true) ∧
  (∀ (a : Action) (b : Action) (r : List Action), s.seq.todo = a :: b :: r → b.op ≠ 0 → s.nextAction 2 = some a
    → a.target < 16 → s.brkState a.target = brkRunning → a.target ∈ s.members a.target → ∃ t, exec .railOff s =
    .next t ∧ t.seq.wait = .railOff a.target ∧ t.brkState a.target = brkStopping) ∧
  (∀ (a : Action) (b : Action) (r : List Action), s.seq.todo = a :: b :: r → b.op ≠ 0 → s.nextAction 2 = some a
    → a.target = 19 → ∃ t, exec .railOff s = .next t ∧ t.seq.todo = b :: r ∧ bitsOf (t.fld SEQ_ON_RAIL) 19 1 = 0
    ∧ t.fld (SEQ_RAIL_STAT_STATE 19) = 0 ∧ t.pins.aux1 = none) ∧
  (∀ (a : Action) (b : Action) (r : List Action), s.seq.todo = a :: b :: r → b.op ≠ 0 → s.nextAction 3 = some a
    → s.flag (SEQ_RAIL_STAT_PG a.target) = false → ∃ t, exec .waitPg s = .next t ∧ t.seq.wait = .pg a.target
    (s.clk.core + a.arg * 240) ∧ t.regs = s.regs) ∧
  (∀ (rail : Nat) (d : Nat), s.seq.wait = .pg rail d → d ≤ s.clk.core → s.flag SEQ_FAULT_ACTIVE = false → ∃ t,
    exec .waitPgTimeout s = .next t ∧ t.flag SEQ_FAULT_ACTIVE = true ∧ t.fld SEQ_FAULT_CODE = 0x0520 ∧ t.seq.out
    = true) ∧
  (∀ (a : Action) (b : Action) (r : List Action), s.seq.todo = a :: b :: r → b.op ≠ 0 → s.nextAction 4 = some a
    → ∃ t, exec .delay s = .next t ∧ t.seq.wait = .delay (s.clk.core + a.arg * 240) ∧ t.regs = s.regs) ∧
  (∀ (a : Action) (b : Action) (r : List Action) (d : Nat), s.seq.todo = a :: b :: r → b.op ≠ 0 → s.seq.wait =
    .delay d → d ≤ s.clk.core → ∃ t, exec .delayExpiry s = .next t ∧ t.seq.todo = b :: r ∧ t.seq.wait = .none) ∧
  (∀ (a : Action) (b : Action) (r : List Action), s.seq.todo = a :: b :: r → b.op ≠ 0 → s.nextAction 5 = some a
    → ∃ t, exec .pinSet s = .next t ∧ t.seq.todo = b :: r ∧ lookupD t.pins.pinSet a.target false = (s.gpioOff
    a.target != (a.arg == 1))) ∧
  (∀ (a : Action) (b : Action) (r : List Action), s.seq.todo = a :: b :: r → b.op ≠ 0 → s.nextAction 6 = some a
    → a.target < 16 → s.sessionOpen = false → ∃ t, exec .setRef s = .next t ∧ t.seq.todo = b :: r ∧ t.fld
    (BRK_TARGET_TARGET a.target) = a.arg % 65536 ∧ t.flag (BRK_TARGET_LOOP a.target) = s.flag (BRK_TARGET_LOOP
    a.target)) ∧
  (∀ (a : Action) (b : Action) (r : List Action), s.seq.todo = a :: b :: r → b.op ≠ 0 → s.nextAction 7 = some a
    → s.pins.dswG ≠ .high → s.moduleMissing = false → ∃ t, exec .moduleClose s = .next t ∧ t.pins.preG = .high ∧
    t.seq.wait = .module ∧ t.fld CPM_SW_STAT_PROBE = 1 ∧ t.cpm.probeAt = some s.clk.core) ∧
  (∀ (a : Action) (b : Action) (r : List Action), s.seq.todo = a :: b :: r → b.op ≠ 0 → s.nextAction 8 = some a
    → ∃ t, exec .moduleOpen s = .next t ∧ t.seq.todo = b :: r ∧ t.pins.dswG = .low ∧ t.pins.preG = .low) ∧
  (s.active = true → s.seq.out = true → s.seq.timeline = false → ∃ t, exec .cascInRise s = .next t ∧
    t.pins.cascIn = true ∧ t.pins.cascOut = .high ∧ t.regs = s.regs) ∧
  (s.active = true → s.seq.out = true → s.seq.timeline = false → ∃ t, exec .cascInFall s = .next t ∧
    t.pins.cascIn = false ∧ t.pins.cascOut = .low ∧ t.regs = s.regs) ∧
  (∀ (a : Action) (r : List Action), s.seq.todo = a :: r → s.seq.kind = .step → a.cascaded = true →
    s.seq.cascSeen = false → s.seq.wait = .none → s.seq.stepAt + s.fld SEQ_TMO_CASC_TMO * 240000 ≤ s.clk.core →
    s.flag SEQ_FAULT_ACTIVE = false → ∃ t, exec .cascTimeout s = .next t ∧ t.flag SEQ_EV_CASC_TMO_EV = true ∧
    t.flag SEQ_FAULT_ACTIVE = true ∧ t.fld SEQ_FAULT_CODE = 0x0522) ∧
  (∀ (c : Nat), s.stepsCourse = true → s.fld SEQ_STAT_DEV_COURSE = c → 0 < c → (s.floorActions c).any (fun a =>
    a.op != 0) = true → ∃ t, exec .courseFloor s = .next t ∧ t.pins.courseHold = true ∧ t.pins.courseHigh =
    false ∧ t.seq.kind = .floor ∧ t.seq.todo = (s.floorActions c).dropWhile (fun a => a.op == 0) ∧ t.fld
    SEQ_STAT_PHASE = 3 ∧ t.flag SEQ_STAT_DIR = true ∧ t.flag SEQ_EV_FLOOR_EV = true ∧ (((s.floorActions c).headD
    (courseMark 0)).op ≠ 0 → t.fld SEQ_STAT_DEV_COURSE = c)) ∧
  (∀ (c : Nat), s.stepsCourse = true → s.fld SEQ_STAT_DEV_COURSE = c → 0 < c → (s.floorActions c).all (fun a =>
    a.op == 0) = true → ∃ t, exec .courseFloor s = .next t ∧ t.fld SEQ_STAT_DEV_COURSE = 0 ∧ t.pins.courseHold =
    false ∧ t.seq.kind = .none ∧ t.seq.todo = [] ∧ t.flag SEQ_STAT_DIR = true ∧ t.flag SEQ_EV_FLOOR_EV = true)

/-- Commands of the head, the course master and the COURSE line complete: where the premises on the state and the
operands hold, exec answers a next state with the effect named. What a clause says of these corners is the model's
choice and no rule of the spec: steps beyond the ends, the reports of a rejoin, a descent and its TARGET: log
entries 28, 34. -/
def Obligations.HeadAndLineCommands : Prop :=
  ∀ s : State,
  (∀ (path : Path) (target : BitVec 8), s.serves path = true → s.courseMaster = true → target.toNat ≤ 254 →
    target.toNat ≤ s.fld SEQ_STAT_STR_COURSE → ∃ t, exec (.seqTarget path target) s = .next t ∧ t.fld
    SEQ_CMD_TARGET = target.toNat) ∧
  (∀ (path : Path) (target : BitVec 8), s.serves path = true → s.courseMaster = true → target.toNat ≤ 254 → ∃ t,
    exec (.seqFloor path target) s = .next t ∧ t.seq.floorReq = true ∧ t.fld SEQ_CMD_TARGET = s.fld
    SEQ_CMD_TARGET) ∧
  (s.active = true → s.courseMaster = true → s.trunked = false → s.seq.stepping = false → s.seq.headStep = none
    → s.seq.rejoining = [] → s.seq.kind = .none → s.onCourse = true → s.lineIdle = true → s.seq.lines.any (fun p
    => decide (2 ≤ p.2)) = false → s.fld SEQ_STAT_STR_COURSE < s.fld SEQ_CMD_TARGET → s.seq.floorReq = false →
    s.fld SEQ_STAT_LINE_FAULT = 0 → ∃ t, exec (.courseMasterStep true) s = .next t ∧ t.seq.stepping = true ∧
    t.seq.headStep = some (s.fld SEQ_STAT_STR_COURSE + 1, false) ∧ t.seq.pulseAt = some s.clk.core ∧
    t.pins.courseHigh = false) ∧
  (s.active = true → s.pins.courseHigh = false → s.pins.courseHold = false → s.actsHead = false → s.seq.tookHold
    = true → ∃ t, exec .courseLineIdle s = .next t ∧ t.pins.courseHigh = true ∧ t.seq.confirmBy = some
    (s.clk.core + 480000)) ∧
  (∀ (course : Framed (BitVec 8)) (down : Bool), s.takesIn course.head = true → s.unaddressed = false → s.isHead
    = false → s.seq.out = false → s.fld SEQ_STAT_DEV_COURSE = course.body.toNat → s.flag SEQ_STAT_DIR = down → ∃
    t, exec (.confirm course down) s = .next t ∧ t.fld SEQ_STAT_STR_COURSE = course.body.toNat ∧ t.seq.confirmBy
    = none) ∧
  (∀ (course : Framed (BitVec 8)) (down : Bool) (o : Nat), s.takesIn course.head = true → (s.unaddressed = true
    ∨ s.isHead = true) → course.head.mode = 2 → course.head.hops.toNat < 63 → o = course.head.port.toNat + 1 - 2
    * (course.head.port.toNat % 2) → s.portUp o = true → s.clk.onRc = false → ∃ t, exec (.confirm course down) s
    = .next t ∧ t.lnk.out = s.lnk.out ++ [⟨o, 0x30, (1 - o % 2) + 2 * (o / 2), 0x2000,
    course.head.address.toNat, course.head.hops.toNat + 1, course.head.tag.toNat, leBytes 1 course.body.toNat ++
    leBytes 1 (bit down) ++ leBytes 2 0⟩] ∧ t.regs = s.regs) ∧
  (∀ (address : BitVec 12) (course : BitVec 8) (down : Bool) (status : BitVec 2) (rejoin : Bool), s.active =
    true → s.unaddressed = false → s.isHead = true → address.toNat / 64 = s.ownString → s.seq.confirmEnd.isSome
    = true → s.solo = false → ∃ t, exec (.courseAns address course down status rejoin) s = .next t ∧ lookupD
    t.seq.answers (address.toNat % 64) 9 = (if status = 3 then 1 else status.toNat) ∧ t.seq.rejoining.contains
    (address.toNat % 64) = (rejoin || status == 3) ∧ t.regs = s.regs) ∧
  (∀ (c : Nat) (down : Bool), s.seq.headStep = some (c, down) → reached s.seq.confirmEnd s.clk.core = true → ∃
    t, exec .confirmAnswerTimeout s = .next t ∧ t.seq.headStep = none ∧ t.seq.confirmEnd = none ∧ t.seq.pulseAt
    = none ∧ ((s.courseMaster && s.trunked) = false → t.fld SEQ_STAT_STR_COURSE = c % 256)) ∧
  (reached s.seq.confirmBy s.clk.core = true → ∃ t, exec .confirmMissingTimeout s = .next t ∧ t.seq.confirmBy =
    none) ∧
  (∀ (course : Framed (BitVec 8)) (down : Bool), s.takesIn course.head = true → s.onCourse = true → s.actsHead =
    true → s.lineIdle = true → s.seq.rejoining = [] → s.seq.kind = .none → s.courseMaster = false → s.fld
    SEQ_STAT_LINE_FAULT = 0 → ∃ t, exec (.trunkStep course down false true) s = .next t ∧ t.seq.headStep = some
    (course.body.toNat, down) ∧ t.seq.pulseAt = some s.clk.core ∧ t.pins.courseHigh = false) ∧
  (∀ (address : HeadReport), s.active = true → s.courseMaster = true → s.seq.stepping = true → s.trunked = true
    → address.course.toNat = s.seq.sysCourse → address.down = s.seq.sysDown → (List.range (max (s.fld
    LNK_ADDR_NSTR) 1)).all (fun k => (address.address.toNat / 64 :: s.seq.heads).contains k) = false → ∃ t, exec
    (.headDone address) s = .next t ∧ t.seq.heads.contains (address.address.toNat / 64) = true ∧ t.seq.stepping
    = true ∧ t.regs = s.regs) ∧
  (∀ (address : HeadReport), (address.course.toNat ≠ s.seq.sysCourse ∨ address.down ≠ s.seq.sysDown) → ∃ t, exec
    (.headDone address) s = .next t ∧ t = s) ∧
  (∀ (at0 : Nat), s.seq.stepping = true → s.allHeads = false → s.seq.trunkAt = some at0 → at0 + s.fld
    SEQ_TMO_STEP_TMO * 240000 ≤ s.clk.core → s.flag SEQ_STAT_DESCENT = false → ∃ t, exec .headReportTimeout s =
    .next t ∧ t.seq.stepping = false ∧ t.seq.trunkAt = none ∧ t.fld SEQ_CMD_TARGET = 0 ∧ t.fld
    SEQ_STAT_STR_COURSE = s.seq.sysCourse % 256 ∧ (s.seq.sysCourse % 256 ≠ 0 → t.flag SEQ_STAT_DESCENT = true)) ∧
  (∀ (path : Path), s.serves path = true → s.flag SEQ_FAULT_ACTIVE = true → ∃ t, exec (.rejoin path) s = .next t
    ∧ t.fld SEQ_STAT_REF_REASON = 3 ∧ t.flag SEQ_EV_CMD_REF_EV = true) ∧
  (∀ (path : Path) (a : Action) (r : List Action), s.serves path = true → s.flag SEQ_FAULT_ACTIVE = false →
    s.seq.out = true → s.seq.kind = .none → 0 < s.stringCourse → s.rejoinActions s.stringCourse = a :: r → a.op
    ≠ 0 → ∃ t, exec (.rejoin path) s = .next t ∧ t.seq.kind = .rejoin ∧ t.seq.todo = a :: r ∧ t.fld
    SEQ_STAT_PHASE = 4) ∧
  (∀ (path : Path), s.serves path = true → s.flag SEQ_FAULT_ACTIVE = true → s.anyViolation = false → ∃ t, exec
    (.faultClr path false) s = .next t ∧ t.flag SEQ_FAULT_ACTIVE = false ∧ t.pins.faultN = (if s.hasBond then
    .high else .released) ∧ t.pins.gates = (if s.hasBond then .high else s.pins.gates) ∧ t.fld SEQ_FAULT_CODE =
    s.fld SEQ_FAULT_CODE) ∧
  (∀ (path : Path), s.serves path = true → s.pins.courseHigh = true → ∃ t, exec (.lineClr path) s = .next t ∧
    t.fld SEQ_STAT_LINE_FAULT = 0) ∧
  (∀ (path : Path), s.serves path = true → ∃ t, exec (.seqCntClr path) s = .next t ∧ t.reg SEQ_CNT = 0 ∧ t.reg
    SEQ_HEAD = 0) ∧
  (∀ (at0 : Nat), s.pins.courseHigh = false → s.actsHead = true → s.seq.pulseAt = some at0 → at0 + s.fld
    SEQ_TMO_STEP_TMO * 240000 ≤ s.clk.core → ∃ t, exec .stepTimeout s = .next t ∧ t.fld SEQ_STAT_LINE_FAULT = 1
    ∧ t.seq.floorGiven = true ∧ t.seq.pulseAt = none ∧ t.pins.courseHold = false) ∧
  (s.active = true → s.portOn s.floorFrame.1.port.toNat = true → s.unaddressed = false → s.isHead = false →
    s.seq.out = true → ∃ t, exec .linkFloor s = .next t ∧ t.pins.courseHold = false ∧ t.fld SEQ_STAT_DEV_COURSE
    = s.fld SEQ_STAT_DEV_COURSE) ∧
  (∀ (a : Action) (r : List Action), s.active = true → s.portOn s.floorFrame.1.port.toNat = true → s.unaddressed
    = false → s.isHead = false → s.seq.out = false → s.floorActions (s.fld SEQ_STAT_DEV_COURSE) = a :: r → a.op
    ≠ 0 → ∃ t, exec .linkFloor s = .next t ∧ t.pins.courseHold = false ∧ t.seq.kind = .linkFloor ∧ t.seq.todo =
    a :: r ∧ t.flag SEQ_STAT_DIR = true ∧ t.fld SEQ_STAT_PHASE = 3) ∧
  (∀ (address : BitVec 12), s.active = true → s.actsHead = true → s.seq.floorGiven = true → s.seq.kind ≠ .none →
    ∃ t, exec (.floorDone address) s = .next t ∧ t.seq.floorDone.contains (address.toNat % 64) = true ∧ t.regs =
    s.regs) ∧
  (∀ (address : BitVec 12) (state : BitVec 2), s.linked = true → s.courseMaster = true → ∃ t, exec (.lineState
    address state) s = .next t ∧ lookupD t.seq.lines (address.toNat / 64) 9 = state.toNat ∧ t.regs = s.regs)

/-- Rail supervision, margins, supply loss and all-off frames complete: where the premises on the state and the operands
hold, exec answers a next state with the effect named. What a clause says of these corners is the model's choice and
no rule of the spec: declared violations, LDO steps and all-offs of one cycle: log entry 28. -/
def Obligations.SupervisionCommands : Prop :=
  ∀ s : State,
  (∀ (rail : Nat) (microvolts : List Nat), 16 ≤ rail → rail ≤ 20 → s.railsRun = true → s.ovArmed rail = true →
    microvolts.length = 8 → (∀ u ∈ microvolts, railCodeUv rail * s.railOv rail < (u : Int)) → s.seq.viol.any
    (fun p => decide (p.1 = rail)) = false → s.flag SEQ_FAULT_ACTIVE = false → ∃ t, exec (.railViolation rail
    microvolts) s = .next t ∧ t.flag SEQ_FAULT_ACTIVE = true ∧ t.fld SEQ_FAULT_CODE = railCode rail true ∧
    t.flag (SEQ_RAIL_STAT_PG rail) = false) ∧
  (∀ (rail : Nat) (microvolts : List Nat) (above : Bool) (k : Nat), s.active = true → rail < 16 → (if above then
    s.ovArmed rail else s.uvArmed rail) = true → s.seq.viol.find? (fun p => decide (p.1 = rail)) = some (rail,
    above, k, false) → 4 ≤ k → s.flag SEQ_FAULT_ACTIVE = false → ∃ t, exec (.railViolation rail microvolts) s =
    .next t ∧ t.flag SEQ_FAULT_ACTIVE = true ∧ t.fld SEQ_FAULT_CODE = railCode rail above) ∧
  (∀ (rail : Nat) (d : Nat), s.active = true → rail < 16 → s.railIsOn rail = true → s.flag (SEQ_RAIL_STAT_PG
    rail) = false → s.seq.pgRun.find? (fun p => decide (p.1 = rail)) = some (rail, d) → d ≤ s.clk.core →
    s.seq.wait = .none → ∃ t, exec (.pgDelayExpiry rail) s = .next t ∧ t.flag (SEQ_RAIL_STAT_PG rail) = true ∧
    t.flag (SEQ_RAIL_STAT_UV_ARM rail) = s.supervised rail ∧ t.seq.pgRun = dropPair s.seq.pgRun rail) ∧
  (∀ (up : Bool) (dn : Bool), s.active = true → ∃ t, exec (.marginPinChange up dn) s = .next t ∧ t.flag
    SEQ_MRG_PIN_UP = up ∧ t.flag SEQ_MRG_PIN_DN = dn ∧ (up = true → dn = true → t.flag SEQ_EV_MRG_PIN_EV = true)
    ∧ t.pins.mrgUp = up) ∧
  (∀ (vsys : Nat), s.active = true → vsys < 5320 → s.flag SEQ_STAT_SUP_LOW = false → ∃ t, exec (.supplyLow vsys)
    s = .next t ∧ t.flag SEQ_STAT_SUP_LOW = true ∧ t.flag SEQ_EV_SUP_EV = true ∧ t.boot.vsys = vsys) ∧
  (∀ (vsys : Nat), s.active = true → 5680 < vsys → s.flag SEQ_STAT_SUP_LOW = true → ∃ t, exec (.supplyGood vsys)
    s = .next t ∧ t.flag SEQ_STAT_SUP_LOW = false ∧ t.flag SEQ_EV_SUP_EV = true ∧ t.boot.vsys = vsys) ∧
  (∀ (address : BitVec 12) (low : Bool), s.linked = true → s.courseMaster = true → ∃ t, exec (.supply address
    low) s = .next t ∧ t.seq.lowSupply.contains address.toNat = low) ∧
  (∀ (code : BitVec 16) (source : FrameHead) (unaddressed : Bool), s.active = true → s.portOn source.port.toNat
    = true → s.unaddressed = false → (unaddressed = true ∨ s.ownReturn source = false) → (s.firstCopy 0x50 (if
    unaddressed then 0x8000 else source.address.toNat) source.tag.toNat).1 = true → s.flag SEQ_FAULT_ACTIVE =
    false → ∃ t, exec (.alloff code source unaddressed) s = .next t ∧ t.flag SEQ_FAULT_ACTIVE = true ∧ t.fld
    SEQ_FAULT_CODE = code.toNat ∧ t.fld SEQ_STAT_DEV_COURSE = 0 ∧ t.fld SEQ_STAT_PHASE = 5 ∧ t.pins.gates = (if
    s.hasBond then .low else s.pins.gates) ∧ t.pins.faultN = .low ∧ t.seq.out = true)

/-- Triggers, conversions, housekeeping and open-wire commands complete: where the premises on the state and the
operands hold, exec answers a next state with the effect named. What a clause says of these corners is the model's
choice and no rule of the spec: untold inputs and the test DAC: log entry 29. -/
def Obligations.MeasurementCommandsComplete : Prop :=
  ∀ s : State,
  (∀ (held : List (Nat × BitVec 14)), s.active = true → s.onGrid = true → timeReached (instant s.gridNum
    60000000) s.now = true → s.msr.senseEnd ≤ s.convNow → ∃ t, exec (.periodicTrigger held) s = .next t ∧
    t.msr.trigs = s.msr.trigs + 1 ∧ t.msr.trigAt = s.convNow) ∧
  (∀ (held : List (Nat × BitVec 14)), s.active = true → s.trigSrc = 17 → s.gpioFunc 0 = 5 → s.flag
    MSR_STAT_TRIG_FB = false → s.msr.senseEnd ≤ s.convNow → ∃ t, exec (.extTrigger held) s = .next t ∧
    t.msr.trigs = s.msr.trigs + 1 ∧ t.msr.extAt = s.convNow ∧ t.msr.trigAt = s.convNow) ∧
  (s.active = true → s.trigSrc = 17 → s.flag MSR_STAT_TRIG_FB = false → s.msr.extAt + 60000 ≤ s.convNow → ∃ t,
    exec .triggerFallbackTimeout s = .next t ∧ t.flag MSR_STAT_TRIG_FB = true ∧ t.msr.trigs = s.msr.trigs) ∧
  (∀ (adc : BitVec 2) (f : InFlight) (r : List InFlight), s.msr.pipe.getD adc.toNat [] = f :: r → f.start + 8 ≤
    s.convNow → f.clipped = false → f.conv = .ref → ∃ t, exec (.conversionDone adc) s = .next t ∧ t.msr.pipe =
    s.msr.pipe.set adc.toNat r ∧ lookupD t.msr.refs adc.toNat 0 = f.value ∧ t.regs = s.regs) ∧
  (∀ (adc : BitVec 2) (f : InFlight) (r : List InFlight) (i : Nat), s.msr.pipe.getD adc.toNat [] = f :: r →
    f.start + 8 ≤ s.convNow → f.clipped = false → f.conv = .hk i → i < 30 → ∃ t, exec (.conversionDone adc) s =
    .next t ∧ t.msr.pipe = s.msr.pipe.set adc.toNat r ∧ lookupD t.msr.hkVals i 0 = f.value ∧ t.regs = s.regs) ∧
  (∀ (adc : BitVec 2) (f : InFlight) (r : List InFlight) (ch : Nat), s.msr.pipe.getD adc.toNat [] = f :: r →
    f.start + 8 ≤ s.convNow → f.clipped = false → f.conv = .sense ch → ch < 24 → ∃ t, exec (.conversionDone adc)
    s = .next t ∧ t.reg (MSR_CH ch) = BitVec.ofNat 32 ((if (s.senseEntry ch).isSome then f.trig % 65536 else 0)
    <<< 16 + encodeInt 16 f.value)) ∧
  (s.blockFull = true → ∃ t, exec .cellBlockDone s = .next t ∧ t.msr.rounds = 0 ∧ t.msr.sums = [] ∧ t.reg
    MSR_CELL_TS_LO = halfWord s.msr.blockAt.toNat 0 ∧ t.reg MSR_CELL_TS_HI = halfWord s.msr.blockAt.toNat 1) ∧
  (∀ (path : Path), s.serves path = true → ∃ t, exec (.cellTsLoRead path) s = .next t ∧ lookupD t.shadow
    (pathShadow path, MSR_CELL_TS_HI) 0 = s.reg MSR_CELL_TS_HI ∧ lookupD t.shadow (pathShadow path, MSR_STACK) 0
    = s.reg MSR_STACK ∧ t.regs = s.regs ∧ (path = .spi → t.hst.dout = [s.reg MSR_CELL_TS_LO])) ∧
  (∀ (d : Nat), s.active = true → s.msr.hkNext = some d → d ≤ s.clk.core → ∃ t, exec .hkTick s = .next t ∧
    t.msr.hkNext = some (d + 2400000) ∧ t.msr.hkWait = some s.clk.core ∧ t.regs = s.regs) ∧
  (∀ (held : List (Nat × BitVec 14)) (d : Nat), s.active = true → s.msr.hkWait = some d → d + 240000 ≤
    s.clk.core → ∃ t, exec (.hkCaptureTimeout held) s = .next t ∧ t.msr.hkWait = none ∧ t.msr.hkBusy = true ∧
    t.msr.hkRef = false ∧ t.regs = s.regs) ∧
  (s.msr.hkBusy = true → 32 ≤ s.msr.hkVals.length → s.msr.hkRef = false → ∃ t, exec .hkRoundDone s = .next t ∧
    t.msr.hkBusy = false ∧ t.msr.hkRounds = s.msr.hkRounds + 1) ∧
  (∀ (path : Path) (stream : BitVec 4) (data : Word), s.serves path = true → s.flag (MSR_DMA_CFG_EN
    stream.toNat) = false → data.getLsbD 31 = true → data &&& 0x0F000000#32 = 0 → bitsOf data.toNat 28 3 ≤ 2 →
    s.streamOk stream.toNat (bitsOf data.toNat 28 3) (bitsOf data.toNat 0 24) = true → ∃ t, exec (.dmaCfgWrite
    path stream data) s = .next t ∧ t.reg (MSR_DMA_CFG stream.toNat) = data ∧ t.reg (MSR_DMA_WPTR stream.toNat)
    = 0 ∧ t.reg (MSR_DMA_WRAP stream.toNat) = 0) ∧
  (∀ (path : Path) (stream : BitVec 4), s.serves path = true → ∃ t, exec (.dmaWptrRead path stream) s = .next t
    ∧ lookupD t.shadow (pathShadow path, MSR_DMA_WRAP stream.toNat) 0 = s.reg (MSR_DMA_WRAP stream.toNat) ∧
    t.regs = s.regs ∧ (path = .spi → t.hst.dout = [s.reg (MSR_DMA_WPTR stream.toNat)])) ∧
  (∀ (path : Path) (data : Word), s.serves path = true → s.tdacRefused data = false → lowest (reservedBit
    (fieldsOf MSR_TDAC) data) none = none → ∃ t, exec (.tdacWrite path data) s = .next t ∧ t.msr.dacWait = 2 ∧
    t.msr.dacNext = some (if bitsOf data.toNat 24 3 = 0 then none else some ⟨bitsOf data.toNat 24 3, bitsOf
    data.toNat 16 5, if data.getLsbD 12 then -((data.toNat % 4096 : Nat) : Int) else (data.toNat % 4096 : Nat)⟩)
    ∧ t.fld MSR_TDAC_CODE = data.toNat % 2 ^ MSR_TDAC_CODE.width) ∧
  (∀ (path : Path), s.serves path = true → s.flag MSR_OW_STAT_BUSY = false → s.owFits (s.fld MSR_OW_CFG_WINDOW)
    = true → s.fld MSR_OW_CFG_FIRST ≤ s.fld MSR_OW_CFG_LAST → s.fld MSR_OW_CFG_LAST ≤ s.cells →
    s.cel.window.isNone = true → ∃ t, exec (.owGo path) s = .next t ∧ t.flag MSR_OW_STAT_BUSY = true ∧ t.fld
    MSR_OW_STAT_TAP = s.fld MSR_OW_CFG_FIRST ∧ t.msr.ow = .baseline ∧ t.reg CEL_BAL_ON = 0) ∧
  (∀ (path : Path), s.serves path = true → s.msr.ow ≠ .idle → ∃ t, exec (.owAbort path) s = .next t ∧ t.msr.ow =
    .idle ∧ t.flag MSR_OW_STAT_BUSY = false ∧ t.fld MSR_OW_STAT_RESULT = 3) ∧
  (s.msr.owAt ≤ s.clk.core → s.msr.ow = .window → 8 ≤ s.msr.owRounds.length → ∃ t, exec .owWindowEnd s = .next t
    ∧ t.msr.ow = .gap ∧ t.msr.owAt = s.clk.core + 240000) ∧
  (s.msr.ow = .gap → s.msr.owAt ≤ s.clk.core → s.msr.owTap < s.msr.owLast → ∃ t, exec .owTapGapEnd s = .next t ∧
    t.msr.ow = .baseline ∧ t.msr.owTap = s.msr.owTap + 1 ∧ t.fld MSR_OW_STAT_TAP = (s.msr.owTap + 1) % 64) ∧
  (∀ (path : Path), s.serves path = true → ∃ t, exec (.msrCntClr path) s = .next t ∧ t.reg MSR_CNT = 0)

/-- Sensor flagging, throttling and thermal shutdown complete: where the premises on the state and the operands hold,
exec answers a next state with the effect named. What a clause says of these corners is the model's choice and no
rule of the spec: the tenth of a degree, and which sensors can be hot: log entry 30. -/
def Obligations.ThermalCommandsComplete : Prop :=
  ∀ s : State,
  (∀ (sensor : Nat), sensor < 13 → s.senBroken sensor = false → s.flagDue sensor = true → ∃ t, exec
    (.sensorFlagBroken sensor) s = .next t ∧ t.flag (THM_T_BROKEN sensor) = true ∧ t.flag THM_STAT_BRK_EV =
    true) ∧
  (∀ (sensor : Nat), sensor < 13 → s.senBroken sensor = true → s.flagDue sensor = true → ∃ t, exec
    (.sensorUnflag sensor) s = .next t ∧ t.flag (THM_T_BROKEN sensor) = false) ∧
  (∀ (sensor : Nat), sensor < 13 → s.senPriv sensor = true → s.senBroken sensor = true → s.flagDue sensor =
    false → 6000 ≤ (s.sensor sensor).broken → ∃ t, exec (.privBrokenTimeout sensor) s = .next t ∧ t.flag
    THM_STAT_THM_LOCK = true ∧ t.fld THM_STAT_LAST_SRC = sensor ∧ t.thm.resetDue = true) ∧
  (∀ (sensor : Nat), sensor < 13 → s.senCounted sensor = true → s.flagDue sensor = false → 3 ≤ (s.sensor
    sensor).hotRun → s.flag SEQ_FAULT_ACTIVE = false → ∃ t, exec (.thermalShutdown sensor) s = .next t ∧ t.flag
    THM_STAT_THM_LOCK = true ∧ t.fld THM_STAT_LAST_SRC = sensor ∧ t.thm.resetDue = true ∧ t.fld SEQ_FAULT_CODE =
    0x0701 ∧ t.flag SEQ_FAULT_ACTIVE = true) ∧
  (s.thm.evalDue = true → (List.range 13).any s.flagDue = false → (List.range 13).any s.senHot = true → s.fld
    THM_STAT_K < 15 → ∃ t, exec .throttleEval s = .next t ∧ t.thm.evalDue = false ∧ t.fld THM_STAT_K = s.fld
    THM_STAT_K + 1 ∧ t.flag THM_STAT_THR_EV = true) ∧
  (s.flag THM_STAT_THM_LOCK = true → s.thm.resetDue = false → ((List.range 13).filter s.senCounted).all (fun i
    => decide (6000 ≤ (s.sensor i).cool)) = true → (List.range 13).all (fun i => !(s.senPriv i && s.senBroken
    i)) = true → ∃ t, exec .thmLockClear s = .next t ∧ t.flag THM_STAT_THM_LOCK = false)

/-- Sweeps, windows, restoring and balancing complete: where the premises on the state and the operands hold, exec
answers a next state with the effect named. What a clause says of these corners is the model's choice and no rule of
the spec: scales of the lock-in, and multiples that have passed: log entry 31. -/
def Obligations.CellCommandsComplete : Prop :=
  ∀ s : State,
  (s.active = true → 0 < s.cells → s.exciteMode ≠ 0 → s.freqMask ≠ 0 → s.freqMask < 65536 → s.flag
    CEL_STAT_SWEEP = false → s.cel.lastStart.getD 0 ≤ 1000 * (s.secNow / s.sweepPeriod * s.sweepPeriod) → ∃ t,
    exec .sweepStart s = .next t ∧ t.flag CEL_STAT_SWEEP = true ∧ t.cel.lastStart = some (1000 * (s.secNow /
    s.sweepPeriod * s.sweepPeriod) + 1) ∧ t.cel.sweepT = 1000 * (s.secNow / s.sweepPeriod * s.sweepPeriod) ∧
    t.cel.fresh = []) ∧
  (∀ (path : Path), s.serves path = true → ∃ t, exec (.sweepReq path) s = .next t ∧ t.cel.reqAt.isSome = true ∧
    t.flag CEL_STAT_SWEEP = s.flag CEL_STAT_SWEEP) ∧
  (∀ (j : Nat) (a : Nat), s.nextLeadIn = some (j, a) → s.leadInDue = true → j < 16 → ∃ t, exec
    .windowLeadinStart s = .next t ∧ t.fld CEL_STAT_WIN = 1 ∧ t.fld CEL_STAT_J = j ∧ t.reg CEL_BAL_ON = 0 ∧
    t.cel.window.isSome = true) ∧
  (∀ (w : Window), s.cel.window = some w → w.measuring = false → s.msReached (w.a + windowMs w.j) = true → ∃ t,
    exec .windowMeasureStart s = .next t ∧ t.fld CEL_STAT_WIN = 2 ∧ t.cel.window = some { w with measuring :=
    true }) ∧
  (∀ (w : Window), s.cel.window = some w → s.msReached (w.a + 2 * windowMs w.j) = true → ∃ t, exec (.windowEnd
    true) s = .next t ∧ t.cel.window = none ∧ t.fld CEL_STAT_WIN = 0) ∧
  (s.active = true → 0 < s.cells → s.celIGain ≠ 0 → s.restT ≤ s.cel.restFor → ∃ t, exec .restPoint s = .next t ∧
    t.cel.restFor = 0 ∧ t.cel.drained = [] ∧ t.cel.rest.isSome = true) ∧
  (∀ (path : Path), s.serves path = true → ∃ t, exec (.baseRst path) s = .next t ∧ t.cel.pulseBase = [] ∧
    t.cel.caps = s.cel.caps) ∧
  (s.active = true → s.jnl.searching = false → s.flag CEL_STAT_RESTORED = false → ∃ t, exec .celRestoreDone s =
    .next t ∧ t.flag CEL_STAT_RESTORED = true) ∧
  (∀ (path : Path) (cell : BitVec 5) (bin : BitVec 6), s.serves path = true → ∃ t, exec (.celZrRead path cell
    bin) s = .next t ∧ lookupD t.shadow (pathShadow path, CEL_ZI cell.toNat bin.toNat) 0 = s.reg (CEL_ZI
    cell.toNat bin.toNat) ∧ (path = .spi → t.hst.dout = [s.reg (CEL_ZR cell.toNat bin.toNat)]) ∧ t.regs =
    s.regs) ∧
  (s.active = true → 0 < s.cells → s.cel.balSec ≠ s.secNow → ∃ t, exec .balSecondBoundary s = .next t ∧
    t.cel.balSec = s.secNow) ∧
  (reached s.cel.onEnd s.clk.core = true → ∃ t, exec .balOnTimeEnd s = .next t ∧ t.reg CEL_BAL_ON = 0) ∧
  (∀ (agree : Bool) (w : Window), s.cel.window.isSome = true → (forEach s.lateRounds State.lockIn s).cel.window
    = some w → w.j < 16 → s.msReached (w.a + 2 * windowMs w.j) = true → s.celIGain = 0 → ∃ t, exec (.windowEnd
    agree) s = .next t ∧ t.cel.window = none ∧ t.fld (if w.active then CEL_FQ_A_STAT w.j else CEL_FQ_P_STAT w.j)
    = 7 ∧ (s.cel.todo.length ≠ 1 → t.cel.sweepT = w.a + 2 * windowMs w.j)) ∧
  (∀ (agree : Bool) (w : Window), s.cel.window.isSome = true → (forEach s.lateRounds State.lockIn s).cel.window
    = some w → w.j < 16 → s.msReached (w.a + 2 * windowMs w.j) = true → s.celIGain ≠ 0 → (agree = false ∨
    w.disturbed ≠ 0) → ∃ t, exec (.windowEnd agree) s = .next t ∧ t.cel.window = none ∧ t.fld (if w.active then
    CEL_FQ_A_STAT w.j else CEL_FQ_P_STAT w.j) = 4 ∧ t.flag CEL_STAT_DIST_EV = true) ∧
  (∀ (w : Window), s.cel.window.isSome = true → (forEach s.lateRounds State.lockIn s).cel.window = some w → w.j
    < 16 → s.msReached (w.a + 2 * windowMs w.j) = true → s.celIGain ≠ 0 → w.disturbed = 0 → w.rounds < 4 * (16 +
    w.slot) → ∃ t, exec (.windowEnd true) s = .next t ∧ t.cel.window = none ∧ t.fld (if w.active then
    CEL_FQ_A_STAT w.j else CEL_FQ_P_STAT w.j) = 5) ∧
  (∀ (w : Window), s.cel.window.isSome = true → (forEach s.lateRounds State.lockIn s).cel.window = some w → w.j
    < 16 → s.msReached (w.a + 2 * windowMs w.j) = true → s.celIGain ≠ 0 → w.disturbed = 0 → 4 * (16 + w.slot) ≤
    w.rounds → s.ampSquare w < (if w.active then (w.amp : Rat) * s.celIGain / 65536 / 2 else (s.iMin : Rat) *
    ((s.capacity : Rat) / 10)) * (if w.active then (w.amp : Rat) * s.celIGain / 65536 / 2 else (s.iMin : Rat) *
    ((s.capacity : Rat) / 10)) → ∃ t, exec (.windowEnd true) s = .next t ∧ t.cel.window = none ∧ t.fld (if
    w.active then CEL_FQ_A_STAT w.j else CEL_FQ_P_STAT w.j) = 3) ∧
  (∀ (w : Window) (c : Nat), s.cel.window.isSome = true → (forEach s.lateRounds State.lockIn s).cel.window =
    some w → w.j < 16 → s.msReached (w.a + 2 * windowMs w.j) = true → s.celIGain ≠ 0 → w.disturbed = 0 → 4 * (16
    + w.slot) ≤ w.rounds → (if w.active then (w.amp : Rat) * s.celIGain / 65536 / 2 else (s.iMin : Rat) *
    ((s.capacity : Rat) / 10)) * (if w.active then (w.amp : Rat) * s.celIGain / 65536 / 2 else (s.iMin : Rat) *
    ((s.capacity : Rat) / 10)) ≤ s.ampSquare w → w.accI ≠ (0, 0) → c < s.cells → c < 32 → w.held.contains c =
    false → ∃ t, exec (.windowEnd true) s = .next t ∧ t.cel.window = none ∧ t.fld (if w.active then
    CEL_FQ_A_STAT w.j else CEL_FQ_P_STAT w.j) = (if w.held.isEmpty then 1 else 2) ∧ t.reg (CEL_ZR c (4 * w.j +
    (if w.active then 0 else 1))) = BitVec.ofInt 32 (s.zOf w (w.acc.getD c (0, 0))).1.1 ∧ t.reg (CEL_ZI c (4 *
    w.j + (if w.active then 0 else 1))) = BitVec.ofInt 32 (s.zOf w (w.acc.getD c (0, 0))).1.2) ∧
  (∀ (c : Nat), s.active = true → 0 < s.cells → s.cel.balSec ≠ s.secNow → c < 32 → s.flag CEL_BAL_CTRL_HOST =
    true → ∃ t, exec .balSecondBoundary s = .next t ∧ (t.reg CEL_BAL_SEL).getLsbD c = ((s.reg
    CEL_BAL_MAN).getLsbD c && !(decide (c < s.cells) && s.openCell c))) ∧
  (s.active = true → 0 < s.cells → s.cel.balSec ≠ s.secNow → s.flag CEL_BAL_CTRL_HOST = false → (s.balMode = 0 ∨
    s.balAllowed = false) → ∃ t, exec .balSecondBoundary s = .next t ∧ t.reg CEL_BAL_SEL = 0 ∧ t.reg CEL_BAL_ON
    = 0) ∧
  (∀ (c : Nat) (k : Nat) (low : Int), s.active = true → 0 < s.cells → s.cel.balSec ≠ s.secNow → s.flag
    CEL_BAL_CTRL_HOST = false → s.balMode ≠ 0 → s.balAllowed = true → k < s.cells → s.openCell k = false → low =
    s.sfld (MSR_CELL_V k) → (∀ i : Nat, i < s.cells → s.openCell i = false → low ≤ s.sfld (MSR_CELL_V i)) → c <
    s.cells → c < 32 → ∃ t, exec .balSecondBoundary s = .next t ∧ (s.openCell c = true → (t.reg
    CEL_BAL_SEL).getLsbD c = false) ∧ (s.openCell c = false → low + s.balStart * 1000 < s.sfld (MSR_CELL_V c) →
    (t.reg CEL_BAL_SEL).getLsbD c = true) ∧ (s.openCell c = false → s.sfld (MSR_CELL_V c) < low + s.balStop *
    1000 → s.sfld (MSR_CELL_V c) ≤ low + s.balStart * 1000 → (t.reg CEL_BAL_SEL).getLsbD c = false) ∧
    (s.openCell c = false → low + s.balStop * 1000 ≤ s.sfld (MSR_CELL_V c) → s.sfld (MSR_CELL_V c) ≤ low +
    s.balStart * 1000 → (t.reg CEL_BAL_SEL).getLsbD c = (s.reg CEL_BAL_SEL).getLsbD c)) ∧
  (∀ (pct : Nat), s.active = true → 0 < s.cells → s.cel.balSec ≠ s.secNow → s.cel.window = none → s.msr.ow =
    .idle → s.leadInDue = false → pct = s.balDuty * (16 - s.fld THM_STAT_K) / 16 → pct ≠ 0 → ∃ t, exec
    .balSecondBoundary s = .next t ∧ t.reg CEL_BAL_ON = t.reg CEL_BAL_SEL ∧ (t.reg CEL_BAL_SEL ≠ 0 → t.cel.onEnd
    = some (s.clk.core + pct * 2400000))) ∧
  (s.active = true → 0 < s.cells → s.cel.balSec ≠ s.secNow → s.balMode ≠ 2 → ∃ t, exec .balSecondBoundary s =
    .next t ∧ t.cel.lim = 16 ∧ t.fld CEL_BAL_LIM_L = 16)

/-- Power path, probe, SERVICE button and charge manager commands complete: where the premises on the state and the
operands hold, exec answers a next state with the effect named. What a clause says of these corners is the model's
choice and no rule of the spec: numbers no register can hold, and the bands of the supply: log entries 32, 39. -/
def Obligations.ChargeAndPathCommands : Prop :=
  ∀ s : State,
  (∀ (b : Bool), s.pathRuns = true → s.cpm.handover = none → s.qualified b = false → s.qualDue b = true → ∃ t,
    exec (.sourceQualified b) s = .next t ∧ t.qualified b = true) ∧
  (∀ (b : Bool), s.pathRuns = true → s.qualified b = true → s.cpm.handover = none → s.fld CPM_PP_STAT_USE =
    useCode b → s.qualified (!b) = true → ∃ t, exec (.sourceLost b) s = .next t ∧ t.qualified b = false ∧
    t.cpm.handover = some (!b) ∧ t.flag CPM_PP_STAT_LOSS_EV = true) ∧
  (∀ (b : Bool), s.pathRuns = true → s.qualified b = true → ∃ t, exec (.sourceOv b) s = .next t ∧ t.flag
    CPM_PP_STAT_OV_EV = true ∧ t.qualified b = true) ∧
  (∀ (b : Bool), s.cpm.handover = some b → s.flag CPM_PP_CTRL_PREF = b → ∃ t, exec .handoverDone s = .next t ∧
    t.fld CPM_PP_STAT_USE = useCode b ∧ t.cpm.handover = none ∧ t.flag CPM_PP_STAT_HO_EV = true) ∧
  (∀ (b : Bool) (at0 : Nat), s.flag (longFld b) = true → s.qualified b = true → (if b then s.cpm.longB else
    s.cpm.longA) = some at0 → at0 + 600000000 ≤ s.clk.rc → ∃ t, exec (.longQualEnd b) s = .next t ∧ t.flag
    (longFld b) = false ∧ t.qualified b = true) ∧
  (∀ (path : Path) (pref : Bool) (auxMode : Bool), s.serves path = true → ∃ t, exec (.ppPrefWrite path pref
    auxMode) s = .next t ∧ t.flag CPM_PP_CTRL_PREF = pref ∧ t.flag CPM_PP_CTRL_AUX_MODE = auxMode) ∧
  (∀ (at0 : Nat), s.probeWatches = true → s.cpm.t50Done = false → s.t50Ticks < s.cpm.probeTime → s.cpm.probeAt =
    some at0 → at0 + s.t50Ticks ≤ s.clk.core → s.probeReached s.probeSample 1 2 = true → ∃ t, exec
    .probeT50Expiry s = .next t ∧ t.cpm.t50Done = true ∧ t.cpm.probeAt = some at0 ∧ t.regs = s.regs) ∧
  (∀ (at0 : Nat), s.cpm.probeAt = some at0 → at0 + s.cpm.probeTime ≤ s.clk.core → s.probeWatches = false → ∃ t,
    exec .probeTimeout s = .next t ∧ t.pins.dswG = .high ∧ t.cpm.probeAt = none ∧ t.fld CPM_SW_STAT_PROBE = 2 ∧
    t.cpm.closedAt = some s.clk.core) ∧
  (∀ (at0 : Nat) (a : Action) (b : Action) (r : List Action), s.cpm.closedAt = some at0 → at0 + 2400000 ≤
    s.clk.core → s.seq.wait = .module → s.seq.todo = a :: b :: r → b.op ≠ 0 → ∃ t, exec .prechargeOffTimer s =
    .next t ∧ t.pins.preG = .low ∧ t.cpm.closedAt = none ∧ t.seq.todo = b :: r) ∧
  (s.active = true → s.cpm.pressAt = none → s.cpm.switchAt = none → s.cpm.ship = false → ∃ t, exec .servicePress
    s = .next t ∧ t.cpm.pressAt = some s.clk.core ∧ t.flag CPM_SW_STAT_PRESSED = true) ∧
  (∀ (at0 : Nat), s.active = true → s.cpm.pressAt = some at0 → s.pressTicks at0 ≤ 30000000 → ∃ t, exec
    .serviceRelease s = .next t ∧ t.cpm.pressAt = none ∧ t.flag CPM_SW_STAT_PRESSED = false ∧ t.fld
    CPM_SW_STAT_LAST_PRESS = 1 ∧ t.cpm.switchAt = s.cpm.switchAt) ∧
  (∀ (at0 : Nat), s.active = true → s.cpm.pressAt = some at0 → 75000000 ≤ s.pressTicks at0 → ∃ t, exec
    .serviceHeld20s s = .next t ∧ t.cpm.pressAt = none ∧ t.cpm.ship = true ∧ t.flag CPM_SW_STAT_PRESSED = false) ∧
  (∀ (path : Path), s.serves path = true → s.startRefusal = 0 → ∃ t, exec (.start path) s = .next t ∧ t.fld
    CPM_CHG_STAT_PHASE = 1 ∧ t.cpm.openAt = s.now ∧ t.cpm.written = none) ∧
  (∀ (path : Path), s.serves path = true → s.sessionOpen = true → ∃ t, exec (.stop path) s = .next t ∧ t.fld
    CPM_CHG_STAT_PHASE = 0 ∧ t.fld CPM_CHG_STAT_END_REASON = 1 ∧ t.flag CPM_CHG_STAT_END_EV = true) ∧
  (s.sessionOpen = true → s.chgMode ≤ 1 → s.cpm.evaluated ≠ s.nowU * 100 / 2 ^ 28 → ∃ t, exec .chargeEval s =
    .next t ∧ t.cpm.evaluated = s.nowU * 100 / 2 ^ 28) ∧
  (∀ (d : Nat), s.sessionOpen = true → s.fld CPM_CHG_STAT_PHASE = 1 → s.cpm.dwellAt = some d → d ≤ s.clk.core →
    s.cpm.vRef = none → s.meanOver s.cpm.curHist 20 = none → s.searchLimit + s.ratingUnits s.searchStep <
    s.chargeCap → ∃ t, exec .searchDwellEnd s = .next t ∧ t.cpm.iS = s.searchLimit + s.ratingUnits s.searchStep
    ∧ t.cpm.dwellAt = some (s.clk.core + 48000000) ∧ (0 ≤ t.cpm.iS → t.cpm.iS ≤ 65535 → t.fld CPM_CHG_LIM_I_S =
    t.cpm.iS.toNat)) ∧
  (∀ (d : Nat), s.sessionOpen = true → s.chgMode = 0 → s.fld CPM_CHG_STAT_PHASE = 1 → s.cpm.searchAt = some d →
    d ≤ s.clk.core → ∃ t, exec .searchRepeat s = .next t ∧ t.cpm.searchAt ≠ s.cpm.searchAt ∧ t.cpm.vRef = (if
    s.busVCh = 0xFF then none else s.meanOver s.cpm.busHist 100)) ∧
  (s.sessionOpen = true → (s.tMax : Int) * 2 ^ 28 ≤ ticksBetween s.cpm.openAt s.now → ∃ t, exec .sessionTmax s =
    .next t ∧ t.fld CPM_CHG_STAT_PHASE = 0 ∧ t.fld CPM_CHG_STAT_END_REASON = 3 ∧ t.flag CPM_CHG_STAT_END_EV =
    true) ∧
  (∀ (lim : Int), s.sessionOpen = true → s.cpm.evaluated ≠ s.nowU * 100 / 2 ^ 28 → s.chargeLimit = lim → 0 ≤ lim
    → lim ≤ 32767 → s.chgMode = 0 → s.chgBrick < 16 → s.fld CPM_CHG_STAT_PHASE = 1 → s.cpm.written ≠ some (true,
    lim) → ∃ t, exec .chargeEval s = .next t ∧ t.fld CPM_CHG_LIM_I_LIM = lim.toNat ∧ t.cpm.written = some (true,
    lim) ∧ t.fld (BRK_TARGET_TARGET s.chgBrick) = lim.toNat ∧ t.flag (BRK_TARGET_LOOP s.chgBrick) = true ∧ t.fld
    CPM_CHG_STAT_PHASE = 1) ∧
  (∀ (lim : Int), s.sessionOpen = true → s.cpm.evaluated ≠ s.nowU * 100 / 2 ^ 28 → s.chargeLimit = lim → 0 ≤ lim
    → lim ≤ 32767 → s.chgMode = 0 → s.fld CPM_CHG_STAT_PHASE = 1 → s.cpm.written = some (true, lim) → ∃ t, exec
    .chargeEval s = .next t ∧ t.fld CPM_CHG_LIM_I_LIM = lim.toNat ∧ t.cpm.written = s.cpm.written ∧ t.fld
    CPM_CHG_STAT_PHASE = 1 ∧ t.brk = s.brk) ∧
  (∀ (lim : Int) (m : Rat), s.sessionOpen = true → s.cpm.evaluated ≠ s.nowU * 100 / 2 ^ 28 → s.chargeLimit = lim
    → 0 ≤ lim → lim ≤ 32767 → s.chgMode = 0 → s.chgBrick < 16 → s.fld CPM_CHG_STAT_PHASE = 2 → s.meanOver
    s.cpm.curHist 10 = some m → (lim : Rat) < m → ∃ t, exec .chargeEval s = .next t ∧ t.fld CPM_CHG_LIM_I_LIM =
    lim.toNat ∧ t.cpm.written = some (true, lim) ∧ t.fld (BRK_TARGET_TARGET s.chgBrick) = lim.toNat ∧ t.flag
    (BRK_TARGET_LOOP s.chgBrick) = true ∧ t.fld CPM_CHG_STAT_PHASE = 1 ∧ t.cpm.lowSince = none) ∧
  (∀ (lim : Int) (m : Rat) (since : Time), s.sessionOpen = true → s.cpm.evaluated ≠ s.nowU * 100 / 2 ^ 28 →
    s.chargeLimit = lim → 0 ≤ lim → lim ≤ 32767 → s.chgMode = 0 → s.fld CPM_CHG_STAT_PHASE = 2 → s.meanOver
    s.cpm.curHist 10 = some m → m ≤ lim → since = s.cpm.lowSince.getD s.now → ∃ t, exec .chargeEval s = .next t
    ∧ t.fld CPM_CHG_LIM_I_LIM = lim.toNat ∧ (m < s.ratingUnits s.termI → 60 * 2 ^ 28 ≤ ticksBetween since s.now
    → t.fld CPM_CHG_STAT_PHASE = 0 ∧ t.fld CPM_CHG_STAT_END_REASON = 2) ∧ (m < s.ratingUnits s.termI →
    ticksBetween since s.now < 60 * 2 ^ 28 → t.fld CPM_CHG_STAT_PHASE = 2 ∧ t.cpm.lowSince = some since) ∧
    ((s.ratingUnits s.termI : Rat) ≤ m → t.fld CPM_CHG_STAT_PHASE = 2 ∧ t.cpm.lowSince = none)) ∧
  (∀ (lim : Int) (i1 : Rat), s.sessionOpen = true → s.cpm.evaluated ≠ s.nowU * 100 / 2 ^ 28 → s.chargeLimit =
    lim → 0 ≤ lim → lim ≤ 32767 → s.chgMode = 1 → s.meanOver s.cpm.curHist 1000 = some i1 → ((lim +
    s.ratingUnits s.overTol : Int) : Rat) < i1 → ∃ t, exec .chargeEval s = .next t ∧ t.fld CPM_CHG_LIM_I_LIM =
    lim.toNat ∧ t.fld CPM_CHG_STAT_PHASE = 0 ∧ t.fld CPM_CHG_STAT_END_REASON = 9) ∧
  (∀ (lim : Int) (v10 : Rat), s.sessionOpen = true → s.cpm.evaluated ≠ s.nowU * 100 / 2 ^ 28 → s.chargeLimit =
    lim → 0 ≤ lim → lim ≤ 32767 → s.chgMode = 1 → s.cpm.curHist = [] → s.meanOver s.cpm.volHist 10 = some v10 →
    ((s.vUnits s.cvV : Int) : Rat) * 101 / 100 < v10 → ∃ t, exec .chargeEval s = .next t ∧ t.fld
    CPM_CHG_LIM_I_LIM = lim.toNat ∧ t.fld CPM_CHG_STAT_PHASE = 0 ∧ t.fld CPM_CHG_STAT_END_REASON = 10)

/-- Meter, statistics, point and couch commands complete: where the premises on the state and the operands hold, exec
answers a next state with the effect named. What a clause says of these corners is the model's choice and no rule of
the spec: the first latch, gaps and reams of a step: log entry 33. -/
def Obligations.MeterAndCouchCommands : Prop :=
  ∀ s : State,
  (s.reamRuns = true → timeReached s.boundary s.now = true → (∀ d ∈ s.mtr.due, timeReached s.boundary d.stamp =
    true) → s.mtr.held = [] → ∃ t, exec .reamLatch s = .next t ∧ t.mtr.index = (s.mtr.index + 1) % 2 ^ 32 ∧
    t.mtr.run = ⟨0, 0, 0, 0⟩ ∧ t.mtr.start = s.boundary ∧ t.mtr.slot = (s.mtr.slot + 1) % 8 ∧ t.mtr.tot =
    s.mtr.tot ∧ t.fld MTR_STAT_NEWEST = s.mtr.slot % 8 ∧ t.flag MTR_STAT_REAM_EV = true) ∧
  (s.active = true → s.restoring = true → s.newestSheet (fun b => sheetType b == 0x1021) = none → ∃ t, exec
    .meterRestoreDone s = .next t ∧ t.restoring = false ∧ t.mtr.tot = s.mtr.tot ∧ t.mtr.index = s.mtr.index ∧
    t.mtr.flags = 9 ∧ t.mtr.restored = some 0) ∧
  (∀ (b : List Byte) (k : Nat), s.active = true → s.restoring = true → s.newestSheet (fun b => sheetType b ==
    0x1021) = some (b, k) → b ≠ [] → ∃ t, exec .meterRestoreDone s = .next t ∧ t.restoring = false ∧ t.mtr.index
    = u32 (sheetPayload b) 36 ∧ t.mtr.cycles = u32 (sheetPayload b) 32 ∧ t.mtr.tot.ce / 2 ^ 32 = u32
    (sheetPayload b) 0 + 2 ^ 32 * u32 (sheetPayload b) 4 ∧ t.mtr.restored = some (BitVec.ofNat 64 (sheetStamp
    b))) ∧
  (s.active = true → s.mtr.histSec ≠ some s.secNow → (s.reg (MTR_HIST (s.histBin s.moduleTempExact))).toNat + 1
    < 2 ^ 32 → ∃ t, exec .histSecond s = .next t ∧ t.mtr.histSec = some s.secNow ∧ (t.reg (MTR_HIST (s.histBin
    s.moduleTempExact))).toNat = (s.reg (MTR_HIST (s.histBin s.moduleTempExact))).toNat + 1) ∧
  (∀ (d : Nat), s.active = true → s.mtr.statDay = some d → d ≠ s.secNow / 86400 → s.jnl.queue.length ≤ 29 → ∃ t,
    exec .midnightStats s = .next t ∧ t.mtr.statDay = some (s.secNow / 86400) ∧ t.jnl.queue.length =
    s.jnl.queue.length + 3) ∧
  (∀ (path : Path), s.serves path = true → ∃ t, exec (.statClr path) s = .next t ∧ (∀ i : Nat, i < 16 → t.reg
    (MTR_HIST i) = 0) ∧ (∀ k : Nat, k < 32 → t.reg (MTR_CELL_MM k) = 0xFFFF0000#32)) ∧
  (∀ (path : Path) (point : BitVec 13) (data : Word), s.serves path = true → 0x1300 ≤ point.toNat → point.toNat
    ≤ 0x1DFF → ∃ t, exec (.pointWrite path point data) s = .next t ∧ lookupD t.mtr.points point.toNat 0 = data ∧
    t.regs = s.regs ∧ (∀ p, p ≠ point.toNat → lookupD t.mtr.points p 0 = lookupD s.mtr.points p 0)) ∧
  (∀ (path : Path) (point : BitVec 13) (data : Word), s.serves path = true → (point.toNat < 0x1300 ∨ 0x1DFF <
    point.toNat) → ∃ t, exec (.pointWrite path point data) s = .next t ∧ t.flag GLB_STAT_BUS_ERR = true ∧
    t.mtr.points = s.mtr.points) ∧
  (∀ (path : Path) (address : Word), s.serves path = true → address.toNat = MTR_TOT 0 → ∃ t, exec
    (.coherentPageRead path address) s = .next t ∧ (∀ i : Nat, i < 9 → lookupD t.shadow (pathShadow path,
    MTR_TOT (i + 1)) 0 = s.totWord (i + 1)) ∧ (path = .spi → t.hst.dout = [s.totWord 0]) ∧ t.regs = s.regs) ∧
  (∀ (path : Path) (id : BitVec 16) (k : Nat), s.serves path = true → k < 4 → s.fld (MTR_COUCH_STAT_STATE k) = 0
    → (∀ j : Nat, j < k → s.fld (MTR_COUCH_STAT_STATE j) ≠ 0) → (∀ j : Nat, j < 4 → s.fld (MTR_COUCH_STAT_STATE
    j) ≠ 0 → s.fld (MTR_COUCH_STAT_ID j) ≠ id.toNat) → s.relayInProgress = false → s.fld STM_STAT_TSTATE = 0 → 2
    ^ 28 ≤ 200 * ticksBetween s.now (BitVec.ofNat 64 ((s.reg MTR_COUCH_T_LO).toNat + 2 ^ 32 * (s.reg
    MTR_COUCH_T_HI).toNat)) → ∃ t, exec (.couchGo path id) s = .next t ∧ t.fld (MTR_COUCH_STAT_STATE k) = 1 ∧
    t.fld (MTR_COUCH_STAT_ID k) = id.toNat ∧ t.couchT k = (BitVec.ofNat 64 ((s.reg MTR_COUCH_T_LO).toNat + 2 ^
    32 * (s.reg MTR_COUCH_T_HI).toNat)) ∧ t.fld MTR_COUCH_RES_RESULT = 1 ∧ t.fld MTR_COUCH_RES_BANK = k) ∧
  (∀ (path : Path) (id : BitVec 16), s.serves path = true → s.fld STM_STAT_TSTATE ≠ 0 → ∃ t, exec (.couchGo path
    id) s = .next t ∧ t.fld MTR_COUCH_RES_RESULT = 5 ∧ t.flag MTR_STAT_COUCH_REF_EV = true) ∧
  (∀ (path : Path) (banks : BitVec 4), s.serves path = true → s.flag MTR_COUCH_CTRL_GO = false → s.fld
    MTR_COUCH_CTRL_FREE = 0 → ∃ t, exec (.couchFreeWrite path banks) s = .next t ∧ (∀ k : Nat, k < 4 → bitsOf
    banks.toNat k 1 = 1 → t.fld (MTR_COUCH_STAT_STATE k) = 0) ∧ (∀ k : Nat, k < 4 → bitsOf banks.toNat k 1 = 0 →
    t.reg (MTR_COUCH_STAT k) = s.reg (MTR_COUCH_STAT k))) ∧
  (∀ (id : Framed (BitVec 16)) (time : Time) (k : Nat), s.takesIn id.head = true → s.unaddressed = false → k < 4
    → s.fld (MTR_COUCH_STAT_STATE k) = 0 → (∀ j : Nat, j < k → s.fld (MTR_COUCH_STAT_STATE j) ≠ 0) → (∀ j : Nat,
    j < 4 → s.fld (MTR_COUCH_STAT_STATE j) ≠ 0 → s.fld (MTR_COUCH_STAT_ID j) ≠ id.body.toNat) →
    s.relayInProgress = false → s.reachedBefore time = false → ∃ t, exec (.couchReq id time) s = .next t ∧ t.fld
    (MTR_COUCH_STAT_STATE k) = 1 ∧ t.fld (MTR_COUCH_STAT_ID k) = id.body.toNat ∧ t.couchT k = time) ∧
  (∀ (address : BitVec 12) (id : BitVec 16) (result : Byte), s.linked = true → s.isKeystone = true →
    s.lnk.couchAt.isSome = true → s.lnk.couchId = id.toNat → result = 1 → s.fld LNK_COUCH_SUM_ACC_CNT + 1 < 8192
    → ∃ t, exec (.couchAns address id result) s = .next t ∧ t.fld LNK_COUCH_SUM_ACC_CNT = s.fld
    LNK_COUCH_SUM_ACC_CNT + 1 ∧ t.fld LNK_COUCH_SUM_REF_CNT = s.fld LNK_COUCH_SUM_REF_CNT) ∧
  (∀ (address : BitVec 12) (id : BitVec 16) (result : Byte), s.linked = true → s.isKeystone = true →
    s.lnk.couchAt.isSome = true → s.lnk.couchId = id.toNat → result ≠ 1 → s.fld LNK_COUCH_SUM_REF_CNT = 0 → ∃ t,
    exec (.couchAns address id result) s = .next t ∧ t.fld LNK_COUCH_SUM_REF_CNT = 1 ∧ t.fld
    LNK_COUCH_SUM_ACC_CNT = s.fld LNK_COUCH_SUM_ACC_CNT ∧ t.fld LNK_COUCH_REF_ADDR = address.toNat ∧ t.fld
    LNK_COUCH_REF_RESULT = result.toNat % 8) ∧
  (∀ (ids : Framed (List (BitVec 16))), s.takesIn ids.head = true → s.unaddressed = false → ∃ t, exec
    (.couchFree ids) s = .next t ∧ (∀ k : Nat, k < 4 → s.fld (MTR_COUCH_STAT_STATE k) ≠ 0 → (∃ i ∈ ids.body,
    i.toNat = s.fld (MTR_COUCH_STAT_ID k)) → t.fld (MTR_COUCH_STAT_STATE k) = 0) ∧ (∀ k : Nat, k < 4 → (∀ i ∈
    ids.body, i.toNat ≠ s.fld (MTR_COUCH_STAT_ID k)) → t.reg (MTR_COUCH_STAT k) = s.reg (MTR_COUCH_STAT k))) ∧
  (∀ (a : Nat), s.lnk.couchAt = some a → a + 2400000 ≤ s.clk.core → ∃ t, exec .couchAnswerTimeout s = .next t ∧
    t.lnk.couchAt = none ∧ t.flag LNK_COUCH_SUM_DONE = true) ∧
  (∀ (k : Nat), k < 4 → k < s.mtr.banks.length → s.couchPending k = true → timeReached (s.couchT k) s.now = true
    → ∃ t, exec .couchInstant s = .next t ∧ t.mtr.banks.getD k Bank.free = ⟨s.livePoints, true⟩ ∧ t.fld
    (MTR_COUCH_STAT_TSTATE k) = s.fld STM_STAT_TSTATE ∧ t.flag (MTR_COUCH_STAT_STEPPED k) = false ∧ t.flag
    MTR_STAT_COUCH_EV = true) ∧
  (∀ (bank : BitVec 2), s.fld (MTR_COUCH_STAT_STATE bank.toNat) = 1 → (s.mtr.banks.getD bank.toNat
    Bank.free).taken = true → ∃ t, exec (.couchHeld bank) s = .next t ∧ t.fld (MTR_COUCH_STAT_STATE bank.toNat)
    = 2 ∧ t.mtr.banks = s.mtr.banks)

/-- Journal commands complete: where the premises on the state and the operands hold, exec answers a next state with the
effect named. What a clause says of these corners is the model's choice and no rule of the spec: the head after a
search, and cut sheets: log entries 14, 33. -/
def Obligations.JournalCommandsComplete : Prop :=
  ∀ s : State,
  (s.mayDrain = true → s.jnl.searching = false → s.jnl.queue ≠ [] → s.jnl.writing = none → s.jnl.drainAt + 24000
    ≤ s.clk.core → ∃ t, exec .journalDrain s = .next t ∧ t.jnl.writing = some s.jnl.head ∧ t.jnl.head =
    (s.jnl.head + 1) % 94208 ∧ t.jnl.queue = s.jnl.queue ∧ t.flash = s.flash ∧ t.regs = s.regs) ∧
  (∀ (slot : Nat) (sh : Sheet) (rest : List Sheet), s.jnl.writing = some slot → s.jnl.queue = sh :: rest →
    s.jnl.lostNow = 0 → ∃ t, exec (.sheetWritten false) s = .next t ∧ t.flashRead (slotAddress slot) 64 =
    sh.bytes ∧ t.jnl.writing = none ∧ t.jnl.queue = rest ∧ t.regs = s.regs) ∧
  (∀ (slot : Nat) (sh : Sheet) (rest : List Sheet), s.jnl.writing = some slot → s.jnl.queue = sh :: rest → ∃ t,
    exec (.sheetWritten true) s = .next t ∧ t.jnl.writing = none ∧ t.jnl.head = (slot / 64 + 1) * 64 % 94208 ∧
    t.flag JNL_STAT_FL_ERR_EV = true ∧ t.jnl.queue.head? = some sh) ∧
  (s.supervisorRuns = true → s.jnl.searching = true → s.newestSheet (fun _ => true) = none → s.jnl.queue = [] →
    ∃ t, exec .headSearchDone s = .next t ∧ t.jnl.searching = false ∧ t.jnl.head = 0 ∧ t.jnl.next = 0 ∧ t.regs =
    s.regs) ∧
  (∀ (b : List Byte) (k : Nat), s.supervisorRuns = true → s.jnl.searching = true → s.newestSheet (fun _ => true)
    = some (b, k) → ∃ t, exec .headSearchDone s = .next t ∧ t.jnl.searching = false ∧ t.jnl.head = (k + 1) %
    94208 ∧ (s.jnl.queue = [] → t.jnl.next = sheetSeq b + 1) ∧ t.regs = s.regs) ∧
  (∀ (path : Path) (slot : BitVec 17), s.serves path = true → slot.toNat < 94208 → ∃ t, exec (.jnlRdSlot path
    slot) s = .next t ∧ t.jnl.loads = putPair s.jnl.loads (pathShadow path) slot.toNat ∧ t.regs = s.regs) ∧
  (∀ (path : Path) (slot : Nat), s.jnl.loads.find? (fun l => decide (l.1 = pathShadow path)) = some (pathShadow
    path, slot) → ∃ t, exec (.jnlRdLoaded path) s = .next t ∧ t.jnl.loads = dropPair s.jnl.loads (pathShadow
    path) ∧ (∀ k : Nat, k < 16 → lookupD t.shadow (pathShadow path, JNL_RD_W k) 0 = BitVec.ofNat 32 (u32
    (s.slotBytes slot) (4 * k))))

/-- Port, ring and forwarding commands of the link complete: where the premises on the state and the operands hold, exec
answers a next state with the effect named. What a clause says of these corners is the model's choice and no rule of
the spec: what the breaks of a ring leave unknown: log entry 34. -/
def Obligations.LinkRingCommands : Prop :=
  ∀ s : State,
  (∀ (port : BitVec 2), s.portsRun = true → s.portOn port.toNat = true → s.portUp port.toNat = false → ∃ t, exec
    (.portUp port) s = .next t ∧ t.portUp port.toNat = true) ∧
  (∀ (port : BitVec 2), s.active = true → s.portUp port.toNat = true → ∃ t, exec (.portDown port) s = .next t ∧
    t.portUp port.toNat = false ∧ t.flag (openFld (decide (2 ≤ port.toNat))) = true) ∧
  (∀ (trunk : Bool), s.supervises trunk = true → (s.ring trunk).nextAt ≤ s.clk.core → ∃ t, exec (.ringCheckSend
    trunk) s = .next t ∧ (t.ring trunk).nextAt = s.clk.core + 240000 ∧ (t.ring trunk).sentAt = some s.clk.core ∧
    t.regs = s.regs) ∧
  (∀ (port : FrameHead) (serial : BitVec 64), s.active = true → s.portOn port.port.toNat = true → serial ≠
    s.serial → port.hops.toNat < 63 → s.clk.onRc = false → s.portUp (if port.port.toNat % 2 = 0 then
    port.port.toNat + 1 else port.port.toNat - 1) = true → ∃ t, exec (.ringCheck port serial) s = .next t ∧ (∃
    f, t.lnk.out = s.lnk.out ++ [f] ∧ f.port = (if port.port.toNat % 2 = 0 then port.port.toNat + 1 else
    port.port.toNat - 1) ∧ f.type = 0x06 ∧ f.src = port.address.toNat ∧ f.hops = port.hops.toNat + 1 ∧ f.tag =
    port.tag.toNat ∧ f.payload = leBytes 8 serial.toNat) ∧ t.regs = s.regs) ∧
  (∀ (port : FrameHead) (serial : BitVec 64) (a : Nat), s.active = true → s.portOn port.port.toNat = true →
    serial = s.serial → s.supervises (decide (2 ≤ port.port.toNat)) = true → (s.ring (decide (2 ≤
    port.port.toNat))).sentAt = some a → s.clk.core ≤ a + 24000 → 2 ≤ (s.ring (decide (2 ≤
    port.port.toNat))).returned → ∃ t, exec (.ringCheck port serial) s = .next t ∧ t.flag (openFld (decide (2 ≤
    port.port.toNat))) = false ∧ (t.ring (decide (2 ≤ port.port.toNat))).sentAt = none) ∧
  (∀ (trunk : Bool) (a : Nat), s.supervises trunk = true → (s.ring trunk).sentAt = some a → a + 24000 ≤
    s.clk.core → ∃ t, exec (.ringCheckTimeout trunk) s = .next t ∧ (t.ring trunk).sentAt = none ∧ (1 ≤ (s.ring
    trunk).missed → t.flag (openFld trunk) = true)) ∧
  (∀ (opened : Bool) (source : RingReporter) (event : Byte), s.linked = true → s.isHead = false → s.portOn
    source.port.toNat = true → source.unaddressed = false → source.address.toNat ≠ s.fld LNK_ADDR_ADDR →
    (s.firstCopy 0x07 source.address.toNat event.toNat).1 = true → ∃ t, exec (.ringState false opened source
    event) s = .next t ∧ t.flag LNK_STAT_STR_OPEN = opened ∧ (opened = false → t.lnk.string = s.lnk.string) ∧
    (opened = true → source.address.toNat % 64 ≠ 0 → source.port.toNat % 2 = 0 → t.lnk.string.sideB =
    source.address.toNat % 64 - 1 ∧ t.lnk.string.onSideA = decide (source.address.toNat % 64 - 1 < s.ringPlace
    false)) ∧ (opened = true → source.address.toNat % 64 ≠ 0 → source.port.toNat % 2 = 1 → t.lnk.string.sideB =
    source.address.toNat % 64 ∧ t.lnk.string.onSideA = decide (source.address.toNat % 64 < s.ringPlace false))) ∧
  (∀ (source : Framed (BitVec 16)), s.takesIn source.head = true → s.unaddressed = false → 832 ≤
    source.body.toNat → source.body.toNat ≤ 1023 → s.flag (ICU_SRC_EN source.body.toNat) = false → ∃ t, exec
    (.doorbell source) s = .next t ∧ t.flag (ICU_SRC_PEND source.body.toNat) = true ∧ t.icu.queue = s.icu.queue) ∧
  (∀ (address : BitVec 12) (source : BitVec 10) (stamp : Time), s.linked = true → s.isHead = true →
    s.lnk.fwd.length < 64 → s.flag (ICU_SRC_EN 683) = false → ∃ t, exec (.irqFwd address source stamp) s = .next
    t ∧ t.lnk.fwd = s.lnk.fwd ++ [(address.toNat, source.toNat, stamp)] ∧ t.flag (ICU_SRC_PEND 683) = true) ∧
  (∀ (path : Path), s.serves path = true → ∃ t, exec (.fwdPop path) s = .next t ∧ t.lnk.fwd = s.lnk.fwd.drop 1) ∧
  (∀ (path : Path), s.serves path = true → ∃ t, exec (.lnkCntClr path) s = .next t ∧ t.reg LNK_ERR_CNT = 0 ∧
    t.reg LNK_DROP_CNT = 0) ∧
  (∀ (crc : Bool), s.portsRun = true → s.fld (if crc then LNK_ERR_CNT_CRC_CNT else LNK_ERR_CNT_CODE_CNT) + 1 <
    65536 → ∃ t, exec (.linkFrameError crc) s = .next t ∧ t.fld (if crc then LNK_ERR_CNT_CRC_CNT else
    LNK_ERR_CNT_CODE_CNT) = s.fld (if crc then LNK_ERR_CNT_CRC_CNT else LNK_ERR_CNT_CODE_CNT) + 1 ∧ t.fld (if
    crc then LNK_ERR_CNT_CODE_CNT else LNK_ERR_CNT_CRC_CNT) = s.fld (if crc then LNK_ERR_CNT_CODE_CNT else
    LNK_ERR_CNT_CRC_CNT) ∧ t.flag LNK_STAT_ERR_EV = true)

/-- Commands of enumeration complete: where the premises on the state and the operands hold, exec answers a next state
with the effect named. What a clause says of these corners is the model's choice and no rule of the spec: what no
frame tells, as a member's count of strings: log entry 34. -/
def Obligations.EnumerationCommands : Prop :=
  ∀ s : State,
  (s.active = true → s.unaddressed = true → s.lnk.helloAt + 24000000 ≤ s.clk.core → ∃ t, exec .helloSend s =
    .next t ∧ t.lnk.helloAt = s.clk.core ∧ t.regs = s.regs) ∧
  (∀ (serial : Framed HelloBody), s.linked = true → s.portOn serial.head.port.toNat = true → serial.body.serial
    ≠ s.serial → s.isHead = true → s.fld SEQ_STAT_STR_COURSE = 0 → s.lnk.enumAt = none → ∃ t, exec (.hello
    serial) s = .next t ∧ t.lnk.enumAt = some (s.clk.core + 24000000) ∧ t.regs = s.regs) ∧
  (s.active = true → reached s.lnk.enumAt s.clk.core = true → s.fld SEQ_STAT_STR_COURSE = 0 → s.headOk = true →
    ∃ t, exec .enumAutoStart s = .next t ∧ t.lnk.pass = .claim ∧ t.lnk.candidate = true ∧ t.lnk.enumAt = none ∧
    t.flag LNK_STAT_ENUMERATING = true) ∧
  (∀ (path : Path), s.serves path = true → s.linked = true → s.isHead = true → s.fld SEQ_STAT_STR_COURSE = 0 →
    s.headOk = true → ∃ t, exec (.enum path) s = .next t ∧ t.lnk.pass = .claim ∧ t.lnk.candidate = true ∧ t.flag
    LNK_STAT_ENUMERATING = true) ∧
  (∀ (serial : Framed Claimant) (rank : Byte), s.active = true → s.portOn serial.head.port.toNat = true →
    serial.body.serial ≠ s.serial → s.fld SEQ_STAT_STR_COURSE = 0 → s.lnk.pass = .claim → s.lnk.candidate = true
    → outranks (rank.toNat, serial.body.serial) (s.rank, s.serial) = true → ∃ t, exec (.claim false serial rank)
    s = .next t ∧ t.lnk.candidate = false ∧ t.lnk.pass = .claim) ∧
  (s.active = true → s.lnk.passAt + 4800000 ≤ s.clk.core → s.lnk.pass = .claim → s.lnk.candidate = true → ∃ t,
    exec .claimTimeout s = .next t ∧ t.lnk.pass = .walkB ∧ t.lnk.reports = [] ∧ t.flag LNK_STAT_ENUMERATING =
    true) ∧
  (∀ (port : WalkIn) (count : Byte) (side : Bool) (p : Nat) (o : Nat), s.active = true → port.port.toNat = p → o
    = (if p % 2 = 0 then p + 1 else p - 1) → s.portOn p = true → s.lnk.pass = .none → s.clk.onRc = false →
    decide (p % 2 = 1) = side → s.portUp p = true → s.portUp o = true → ∃ t, exec (.walk port count side) s =
    .next t ∧ (t.ring (decide (2 ≤ p))).onSideA = side ∧ (∃ f, t.lnk.out = s.lnk.out ++ [⟨p, 0x04, (1 - p % 2) +
    2 * (p / 2), if p < 2 then 0x5000 else 0x6000, f.src, 0, s.eventNo 0x04, leBytes 8 s.serial.toNat ++ leBytes
    1 count.toNat ++ leBytes 1 (bit side) ++ leBytes 2 0⟩, f] ∧ f.port = o ∧ f.type = 0x03 ∧ f.hops = 0 ∧
    f.payload = leBytes 1 (count.toNat + 1) ++ leBytes 1 (bit side) ++ leBytes 1 port.string.toNat ++ leBytes 1
    0) ∧ t.regs = s.regs) ∧
  (∀ (trunk : Bool) (serial : BitVec 64) (distance : Byte) (side : Bool), s.lnk.pass = .walkB → trunk = false →
    ∃ t, exec (.walkReport trunk serial distance side) s = .next t ∧ t.lnk.reports = s.lnk.reports ++ [(serial,
    distance.toNat, side)] ∧ t.regs = s.regs) ∧
  (∀ (entries : Framed (List (BitVec 64 × BitVec 16))) (e : BitVec 64 × BitVec 16), s.takesIn entries.head =
    true → s.lnk.pass ≠ .claim → entries.body.length ≠ 25 → entries.body.find? (fun e => decide (e.1 =
    s.serial)) = some e → e.2.toNat % 64 ≠ 0 → ∃ t, exec (.assign false entries) s = .next t ∧ t.fld
    LNK_ADDR_ADDR = e.2.toNat % 4096 ∧ t.unaddressed = false ∧ t.fld LNK_STAT_ROLE = 0 ∧ t.fld LNK_ADDR_NDEV =
    min (s.lnk.assigned + entries.body.length) 64 ∧ t.lnk.assigned = 0)

/-- Remote access and distribution commands complete: where the premises on the state and the operands hold, exec
answers a next state with the effect named. What a clause says of these corners is the model's choice and no rule of
the spec: the pitch of the frames, ABORT, and the answers of a bond that is not taken: log entries 20, 22, 34. -/
def Obligations.RemoteAndDistributionCommands : Prop :=
  ∀ s : State,
  (∀ (path : Path) (tag : BitVec 5) (dest : BitVec 12), s.serves path = true → s.unaddressed = false →
    s.clk.onRc = false → (∀ p : Nat, p < 4 → s.portUp p = true) → s.fld (LNK_RA_STAT_STATE tag.toNat) = 0 → ∃ t,
    exec (.raRead path tag dest) s = .next t ∧ t.fld (LNK_RA_STAT_STATE tag.toNat) = 1 ∧ lookupD t.lnk.tags
    tag.toNat 0 = s.clk.core ∧ (∃ f, t.lnk.out = s.lnk.out ++ [f] ∧ f.type = 0x10 ∧ f.dest = dest.toNat ∧ f.tag
    = tag.toNat ∧ f.payload = leBytes 4 (s.reg LNK_RA_ADDR).toNat ++ leBytes 1 1 ++ leBytes 3 0)) ∧
  (∀ (path : Path) (tag : BitVec 5) (dest : BitVec 12), s.serves path = true → s.unaddressed = false →
    s.clk.onRc = false → (∀ p : Nat, p < 4 → s.portUp p = true) → s.fld (LNK_RA_STAT_STATE tag.toNat) = 0 → ∃ t,
    exec (.raWrite path tag dest) s = .next t ∧ t.fld (LNK_RA_STAT_STATE tag.toNat) = 1 ∧ lookupD t.lnk.tags
    tag.toNat 0 = s.clk.core ∧ (∃ f, t.lnk.out = s.lnk.out ++ [f] ∧ f.type = 0x11 ∧ f.dest = dest.toNat ∧ f.tag
    = tag.toNat ∧ f.payload = leBytes 4 (s.reg LNK_RA_ADDR).toNat ++ leBytes 4 (s.reg LNK_RA_WDATA).toNat)) ∧
  (∀ (path : Path) (tag : BitVec 5) (count : BitVec 6) (dest : BitVec 12), s.serves path = true → s.unaddressed
    = false → s.clk.onRc = false → (∀ p : Nat, p < 4 → s.portUp p = true) → s.fld (LNK_RA_STAT_STATE tag.toNat)
    = 0 → count ≠ 0 → ∃ t, exec (.raBlockRead path tag count dest) s = .next t ∧ t.fld (LNK_RA_STAT_STATE
    tag.toNat) = 1 ∧ lookupD t.lnk.tags tag.toNat 0 = s.clk.core ∧ (∃ f, t.lnk.out = s.lnk.out ++ [f] ∧ f.type =
    0x10 ∧ f.dest = dest.toNat ∧ f.tag = tag.toNat ∧ f.payload = leBytes 4 (s.reg LNK_RA_ADDR).toNat ++ leBytes
    1 count.toNat ++ leBytes 3 0)) ∧
  (∀ (path : Path) (tag : BitVec 5), s.serves path = true → s.fld (LNK_RA_STAT_STATE tag.toNat) = 2 → ∃ t, exec
    (.raFree path tag) s = .next t ∧ t.reg (LNK_RA_STAT tag.toNat) = 0) ∧
  (∀ (source : BitVec 12) (tag : BitVec 5) (address : Word) (count : Byte) (waiting : Nat), s.linked = true →
    s.boot.restart = none → waiting < 32 → s.clk.onRc = false → count = 1 → (∀ p : Nat, p < 4 → s.portUp p =
    true) → s.busFault .link false address.toNat = none → ∃ t, exec (.rdReq source tag address count waiting) s
    = .next t ∧ (∃ f, t.lnk.out.getLast? = some f ∧ f.type = 0x12 ∧ f.dest = source.toNat ∧ f.tag = tag.toNat ∧
    f.payload = leBytes 1 0 ++ leBytes 1 1 ++ leBytes 2 0 ++ leBytes 4 (s.busRead .link address).1.toNat)) ∧
  (∀ (source : BitVec 12) (tag : BitVec 5) (address : Word) (count : Byte) (waiting : Nat), s.linked = true →
    s.clk.onRc = false → 32 ≤ waiting → (∀ p : Nat, p < 4 → s.portUp p = true) → s.flag (ICU_SRC_EN 680) = false
    → ∃ t, exec (.rdReq source tag address count waiting) s = .next t ∧ (∃ f, t.lnk.out = s.lnk.out ++ [f] ∧
    f.type = 0x12 ∧ f.tag = tag.toNat ∧ f.payload = leBytes 1 1 ++ leBytes 1 0 ++ leBytes 2 0)) ∧
  (∀ (source : BitVec 12) (tag : BitVec 5) (address : Word) (data : Word) (waiting : Nat) (p : Nat), s.linked =
    true → s.boot.restart = none → waiting < 32 → s.clk.onRc = false → (∀ p : Nat, p < 4 → s.portUp p = true) →
    0x1300 ≤ p → p ≤ 0x1DFF → address.toNat = 0x800000 + 4 * p → ∃ t, exec (.wrReq source tag address data
    waiting) s = .next t ∧ lookupD t.mtr.points p 0 = data ∧ t.regs = s.regs ∧ (∃ f, t.lnk.out = s.lnk.out ++
    [f] ∧ f.type = 0x12 ∧ f.dest = source.toNat ∧ f.tag = tag.toNat ∧ f.payload = leBytes 1 0 ++ leBytes 1 0 ++
    leBytes 2 0)) ∧
  (∀ (tag : BitVec 5) (result : Byte) (data : List Word), s.linked = true → s.fld (LNK_RA_STAT_STATE tag.toNat)
    = 1 → data.length ≤ 63 → ∃ t, exec (.raRsp tag result data) s = .next t ∧ t.fld (LNK_RA_STAT_STATE
    tag.toNat) = 2 ∧ t.fld (LNK_RA_STAT_RESULT tag.toNat) = result.toNat % 8 ∧ t.fld (LNK_RA_STAT_COUNT
    tag.toNat) = data.length ∧ (∀ i : Nat, i < data.length → t.reg (LNK_RA_DATA tag.toNat i) = data.getD i 0)) ∧
  (∀ (tag : BitVec 5) (at0 : Nat), s.lnk.tags.find? (fun p => decide (p.1 = tag.toNat)) = some (tag.toNat, at0)
    → at0 + 240000 ≤ s.clk.core → ∃ t, exec (.raTimeout tag) s = .next t ∧ t.fld (LNK_RA_STAT_STATE tag.toNat) =
    2 ∧ t.fld (LNK_RA_STAT_RESULT tag.toNat) = 2 ∧ t.lnk.tags = dropPair s.lnk.tags tag.toNat) ∧
  (∀ (path : Path) (control : Word), s.serves path = true → reservedBit (fieldsOf LNK_DIST_CTRL) (control |||
    0x80000000) = none → s.distCtrlRefused (control ||| 0x80000000) = none → control.getLsbD 30 = false → bitsOf
    control.toNat 28 2 = 0 → s.bnd.bytes ≠ [] → ∃ t, exec (.distGo path control) s = .next t ∧ t.fld
    LNK_DIST_STAT_STATE = 1 ∧ t.lnk.sending = some ⟨s.bnd.bytes, 0, bitsOf control.toNat 12 4, bitsOf
    control.toNat 0 12, s.clk.core⟩) ∧
  (∀ (path : Path) (control : Word), s.serves path = true → reservedBit (fieldsOf LNK_DIST_CTRL) (control |||
    0x40000000) = none → s.distCtrlRefused (control ||| 0x40000000) = none → ∃ t, exec (.distAbort path control)
    s = .next t ∧ t.fld LNK_DIST_STAT_STATE = 0 ∧ t.lnk.sending = none) ∧
  (∀ (source : FrameHead) (apply : Bool) (store : Bool) (length : Word), s.takesIn source = true → s.unaddressed
    = false → s.boot.restart = none → s.bondFromLink = true → length.toNat ≤ 65536 → s.fld BND_STAT_OWNER ≠ 1 →
    s.fld BND_STAT_STATE = 0 → ∃ t, exec (.distStart source false apply store length) s = .next t ∧ t.fld
    BND_STAT_STATE = 1 ∧ t.fld BND_STAT_RESULT = 0 ∧ t.lnk.dist = some ⟨false, apply, store,
    source.address.toNat, length.toNat, 0⟩ ∧ t.bnd.staging = s.bnd.staging ∧ t.fld BND_STAT_RECEIVED = 0 ∧
    t.bnd.linkReq = some source.address.toNat) ∧
  (∀ (offset : Framed Word) (bytes : List Byte) (flashError : Bool) (d : Dist), s.takesIn offset.head = true →
    s.unaddressed = false → s.boot.restart = none → s.lnk.dist = some d → d.image = false → d.sender =
    offset.head.address.toNat → s.bnd.src = 1 → s.fld BND_STAT_STATE = 1 → offset.body.toNat = d.got → bytes ≠
    [] → bytes.length ≤ 252 → bytes.length ≤ d.length - d.got → s.offered.length + bytes.length < 84 → ∃ t, exec
    (.distData offset bytes flashError) s = .next t ∧ t.bnd.staging = s.offered ++ bytes ∧ t.fld BND_STAT_OWNER
    = 2 ∧ t.fld BND_STAT_RECEIVED = s.offered.length + bytes.length ∧ t.flag BND_STAT_STAGED = false ∧
    t.lnk.dist = some { d with got := d.got + bytes.length }) ∧
  (∀ (source : BitVec 12) (result : Byte), s.linked = true → s.fld LNK_DIST_STAT_STATE = 2 → s.fld
    LNK_DIST_CTRL_WHAT = 0 → s.fld LNK_DIST_STAT_OK_CNT + 1 < 8192 → s.fld LNK_DIST_STAT_FAIL_CNT + 1 < 8192 → ∃
    t, exec (.distResult source result) s = .next t ∧ (result = 1 → t.fld LNK_DIST_STAT_OK_CNT = s.fld
    LNK_DIST_STAT_OK_CNT + 1) ∧ (result = 2 → t.fld LNK_DIST_STAT_FAIL_CNT = s.fld LNK_DIST_STAT_FAIL_CNT + 1) ∧
    t.fld LNK_DIST_STAT_STATE = 2) ∧
  (s.fld LNK_DIST_STAT_STATE = 2 → s.lnk.distAt + 48000000 ≤ s.clk.core → ∃ t, exec .distCollectEnd s = .next t
    ∧ t.fld LNK_DIST_STAT_STATE = 3 ∧ t.fld LNK_DIST_STAT_OK_CNT = s.fld LNK_DIST_STAT_OK_CNT ∧ t.fld
    LNK_DIST_STAT_FAIL_CNT = s.fld LNK_DIST_STAT_FAIL_CNT) ∧
  (∀ (port : BitVec 2), s.active = true → s.portOn port.toNat = true → s.t8 0xB 0 4 0 = 1 → s.fld
    RPC_UPD_STAT_STATE ≠ 1 → s.lnk.serve = none → ∃ t, exec (.imgReq port) s = .next t ∧ t.lnk.serve = some
    ⟨s.flashImage, 0, 1, port.toNat, s.clk.core⟩ ∧ t.regs = s.regs)

/-- Transactions of the host ports and their register writes complete: where the premises on the state and the operands
hold, exec answers a next state with the effect named. What a clause says of these corners is the model's choice and
no rule of the spec: levels of undriven inputs and the framing of a cut transaction: log entries 21, 22, 38. -/
def Obligations.HostPortCommands : Prop :=
  ∀ s : State,
  (∀ (address : Word) (words : List Word) (w : Word) (p : Nat), s.serves .spi = true → words = [w] → 0x1300 ≤ p
    → p ≤ 0x1DFF → address.toNat = 0x800000 + 4 * p → ∃ t, exec (.spiWrite address words false) s = .next t ∧
    lookupD t.mtr.points p 0 = w ∧ t.hst.status = s.spiStatus ∧ t.hst.prevBus = false ∧ t.hst.prevFrame = false
    ∧ t.regs = s.regs) ∧
  (∀ (address : Word) (words : List Word), s.serves .spi = true → words = [] → ∃ t, exec (.spiWrite address
    words true) s = .next t ∧ t.flag HST_STAT_FRAME_EV = true ∧ t.flag GLB_STAT_BUS_ERR = true ∧ t.hst.prevBus =
    true ∧ t.hst.prevFrame = true) ∧
  (∀ (address : Word) (count : Nat) (late : List Bool), s.serves .spi = true → count = 1 → late = [] → ∃ t, exec
    (.spiRead address count late false) s = .next t ∧ t.hst.dout = [(s.busRead .spi address).1] ∧ t.hst.status =
    s.spiStatus ∧ t.hst.prevLate = false ∧ t.hst.prevBus = (s.busFault .spi false address.toNat).isSome) ∧
  (∀ (address : Word) (count : Nat) (late : List Bool), s.serves .spi = true → count = 1 → late = [true] → ∃ t,
    exec (.spiRead address count late false) s = .next t ∧ t.hst.dout = [0] ∧ t.hst.prevLate = true ∧ t.flag
    HST_STAT_LATE_EV = true) ∧
  (∀ (command : Byte), s.serves .spi = true → command ≠ 2 → command ≠ 3 → ∃ t, exec (.spiReservedCmd command) s
    = .next t ∧ t.flag HST_STAT_CMD_EV = true ∧ t.hst.prevFrame = true ∧ t.hst.dout = [] ∧ (s.fld
    HST_CNT_FRAME_CNT + 1 < 65536 → t.fld HST_CNT_FRAME_CNT = s.fld HST_CNT_FRAME_CNT + 1)) ∧
  (∀ (address : Word) (words : List Word) (w : Word) (p : Nat), s.serves .i2c = true → words = [w] → 0x1300 ≤ p
    → p ≤ 0x1DFF → address.toNat = 0x800000 + 4 * p → ∃ t, exec (.i2cWrite address words false) s = .next t ∧
    lookupD t.mtr.points p 0 = w ∧ t.hst.nack = false ∧ t.hst.i2cNext = (address + 4).toNat ∧ t.regs = s.regs) ∧
  (∀ (address : Word) (count : Nat), s.serves .i2c = true → count = 1 → ∃ t, exec (.i2cRead address count false)
    s = .next t ∧ t.hst.dout = [(s.busRead .i2c address).1] ∧ t.hst.i2cNext = (address + 4).toNat) ∧
  (∀ (count : Nat), s.serves .i2c = true → count = 1 → ∃ t, exec (.i2cCurrentRead count) s = .next t ∧
    t.hst.dout = [(s.busRead .i2c (BitVec.ofNat 32 s.hst.i2cNext)).1] ∧ t.hst.i2cNext = (BitVec.ofNat 32
    s.hst.i2cNext + 4).toNat) ∧
  (s.serves .i2c = true → ∃ t, exec .i2cSclTimeout s = .next t ∧ t.flag HST_STAT_I2C_TMO_EV = true ∧ (s.fld
    HST_CNT_FRAME_CNT + 1 < 65536 → t.fld HST_CNT_FRAME_CNT = s.fld HST_CNT_FRAME_CNT + 1)) ∧
  (∀ (path : Path), s.serves path = true → reservedBit (fieldsOf HST_CTRL) (s.reg HST_CTRL ||| 4) = none → ∃ t,
    exec (.hstCntClr path) s = .next t ∧ t.reg HST_CNT = 0) ∧
  (∀ (path : Path) (address : Word) (data : Word), s.serves path = true → address.toNat % 4 = 0 → address.toNat
    / 0x10000 = 3 → address.toNat ≠ STM_CTRL → address.toNat ≠ STM_INC → (fieldsOf address.toNat).any
    FieldSpec.writable = true → reservedBit (fieldsOf address.toNat) data = none → ∃ t, exec (.registerWrite
    path address data) s = .next t ∧ t.reg address.toNat = writtenWord (fieldsOf address.toNat) (s.reg
    address.toNat) data ∧ (∀ a, a ≠ address.toNat → t.reg a = s.reg a) ∧ t.clk = s.clk)

/-- Interrupt controller, edge and Standby commands complete: where the premises on the state and the operands hold,
exec answers a next state with the effect named. What a clause says of these corners is the model's choice and no
rule of the spec: the latches of Standby, and PEND of destinations 0 to 2: log entries 18, 23. -/
def Obligations.InterruptCommandsComplete : Prop :=
  ∀ s : State,
  (∀ (path : Path) (source : BitVec 10), s.serves path = true → 832 ≤ source.toNat → s.flag (ICU_SRC_EN
    source.toNat) = false → ∃ t, exec (.doorbellWrite path source) s = .next t ∧ t.flag (ICU_SRC_PEND
    source.toNat) = true ∧ t.icu.queue = s.icu.queue) ∧
  (∀ (path : Path) (source : BitVec 10) (data : Word), s.serves path = true → reservedBit (fieldsOf (ICU_SRC
    source.toNat)) data = none → bitsOf data.toNat 8 3 ≠ 4 → ∃ t, exec (.icuSrcWrite path source data) s = .next
    t ∧ t.fld (ICU_SRC_PRIO source.toNat) = bitsOf data.toNat 12 2 ∧ t.flag (ICU_SRC_EN source.toNat) =
    data.getLsbD 15 ∧ t.fld (ICU_SRC_DEST source.toNat) = bitsOf data.toNat 8 3 ∧ t.fld (ICU_SRC_GROUP
    source.toNat) = bitsOf data.toNat 0 8) ∧
  (∀ (path : Path) (intEn : Bool) (e : QEntry), s.serves path = true → headEntry s.icu.queue = some e →
    s.icu.stuck = [] → ∃ t, exec (.icuPop path intEn) s = .next t ∧ t.icu.queue = s.icu.queue.filter (fun x =>
    !decide (x.source = e.source)) ∧ t.flag (ICU_SRC_PEND e.source) = false ∧ t.flag ICU_CTRL_INT_EN = intEn) ∧
  (∀ (g : Nat) (d : Nat), s.icu.held.find? (fun p => decide (p.1 = g)) = some (g, d) → d ≤ s.clk.core →
    (s.groupWaits g).filter s.eligible = [] → ∃ t, exec (.holdoffExpiry g) s = .next t ∧ t.icu.held = dropPair
    s.icu.held g ∧ t.regs = s.regs) ∧
  (∀ (g : Nat) (d : Nat), s.icu.held.find? (fun p => decide (p.1 = g)) = some (g, d) → d ≤ s.clk.core →
    (s.groupWaits g).filter s.eligible ≠ [] → s.fld (ICU_HOLD_HOLD g) ≠ 0 → ∃ t, exec (.holdoffExpiry g) s =
    .next t ∧ lookupD t.icu.held g 0 = s.clk.core + s.fld (ICU_HOLD_HOLD g) * 240) ∧
  (∀ (path : Path) (g : Nat) (data : Word), s.serves path = true → g < 32 → reservedBit (fieldsOf (ICU_HOLD g))
    data = none → s.groupWaits g = [] → ∃ t, exec (.icuHoldWrite path g data) s = .next t ∧ t.fld (ICU_HOLD_HOLD
    g) = bitsOf data.toNat 0 17 ∧ (bitsOf data.toNat 0 17 = 0 → t.icu.held = dropPair s.icu.held g) ∧ (bitsOf
    data.toNat 0 17 ≠ 0 → t.icu.held = s.icu.held)) ∧
  (reached s.icu.gapEnd s.clk.core = true → s.icu.intN = false → ∃ t, exec .intNGapEnd s = .next t ∧
    t.icu.gapEnd = none ∧ t.icu.intN = (s.flag ICU_CTRL_INT_EN && !s.icu.queue.isEmpty && s.icuRuns &&
    !s.pins.hostReleased) ∧ t.regs = s.regs) ∧
  (∀ (path : Path), s.serves path = true → s.standbyAllowed = true → ∃ t, exec (.standbyRequest path) s = .next
    t ∧ t.icu.armed = true ∧ t.icu.latchStamps = [] ∧ t.reg ICU_LATCH = 0) ∧
  (∀ (path : Path), s.serves path = true → s.standbyAllowed = false → ∃ t, exec (.standbyRequest path) s = .next
    t ∧ t.icu.armed = s.icu.armed ∧ t.flag GLB_STAT_PWR_REF_EV = true) ∧
  (s.icu.armed = true → s.idle = true → s.jnl.queue = [] → ∃ t, exec .standbyEnter s = .next t ∧ t.boot.power =
    .standby ∧ t.clk.onRc = true ∧ t.flag STM_STAT_PLL_LOCKED = false ∧ t.clk.acc = s.clk.acc) ∧
  (∀ (latch : Nat), s.boot.power = .standby → s.icu.armed = true → s.latchArmed latch = true → bitsOf (s.reg
    ICU_LATCH).toNat latch 1 = 0 → s.clk.attemptAt = none → ∃ t, exec (.wakeLatchEdge latch) s = .next t ∧
    bitsOf (t.reg ICU_LATCH).toNat latch 1 = 1 ∧ t.clk.attemptAt = some s.clk.rc ∧ t.clk.seedFor = 3 ∧
    t.icu.latchStamps = (latch, s.nextRc) :: s.icu.latchStamps) ∧
  (∀ (n : Nat) (rising : Bool), s.edgesSampled = true → n < 8 → selects (s.irqEdgeOf n) rising = true → s.flag
    (ICU_SRC_EN (800 + n)) = false → ∃ t, exec (.irqEdge n rising) s = .next t ∧ t.flag (ICU_SRC_PEND (800 + n))
    = true) ∧
  (∀ (n : Nat) (rising : Bool), s.edgesSampled = true → n < 16 → s.gpioFunc n = 4 → selects (bitsOf (s.reg
    HST_GPIO_EDGE).toNat (2 * n) 2) rising = true → s.flag (ICU_SRC_EN (816 + n)) = false → ∃ t, exec (.gpioEdge
    n rising) s = .next t ∧ t.flag (ICU_SRC_PEND (816 + n)) = true) ∧
  (s.active = true → s.flag (ICU_SRC_EN 808) = false → ∃ t, exec .wakeRise s = .next t ∧ t.flag (ICU_SRC_PEND
    808) = true)

/-- Watchdog commands complete: where the premises on the state and the operands hold, exec answers a next state with
the effect named. What a clause says of these corners is the model's choice and no rule of the spec: the counters of
a check-in, and the tasks of the firmware: log entry 37. -/
def Obligations.WatchdogCommandsComplete : Prop :=
  ∀ s : State,
  (∀ (path : Path), s.serves path = true → s.hwStart = false → s.wdg.armed = false → ∃ t, exec (.arm path) s =
    .next t ∧ t.wdg.armed = true ∧ t.wdg.starting = some true ∧ t.wdg.stopped = false ∧ t.reg WDG_CHAL =
    0xACE1#32 ∧ t.reg WDG_TASKS = 1) ∧
  (∀ (path : Path), s.serves path = true → ∃ t, exec (.evidClr path) s = .next t ∧ t.flag WDG_EV_STAT_VALID =
    false ∧ t.flag WDG_EV_STAT_CUT = false ∧ t.fld WDG_EV_STAT_CODE = s.fld WDG_EV_STAT_CODE) ∧
  (∀ (path : Path) (task : BitVec 4) (value : BitVec 16) (counters : Word × Word × Word × Word), s.serves path =
    true → s.watching = true → s.wdg.starting = none → (path = .sup ∨ 12 ≤ task.toNat ∧ bitsOf (s.fld
    WDG_TASKS_REG) task.toNat 1 = 1) → s.wdg.tOpen ≤ s.wdg.count → bitsOf (s.fld WDG_TASKS_IN) task.toNat 1 = 0
    → (s.reg WDG_CHAL).toNat = value.toNat → ∃ t, exec (.checkin path task value counters) s = .next t ∧ t.fld
    WDG_TASKS_IN = Nat.lor (s.fld WDG_TASKS_IN) (2 ^ task.toNat) ∧ t.wdg.lastGood = s.now ∧ t.wdg.stopped =
    s.wdg.stopped) ∧
  (∀ (path : Path) (task : BitVec 4) (value : BitVec 16) (counters : Word × Word × Word × Word), s.serves path =
    true → s.watching = true → s.wdg.starting = none → (path = .sup ∨ 12 ≤ task.toNat ∧ bitsOf (s.fld
    WDG_TASKS_REG) task.toNat 1 = 1) → s.wdg.count < s.wdg.tOpen → s.wdg.stopped = false → ∃ t, exec (.checkin
    path task value counters) s = .next t ∧ t.wdg.stopped = true ∧ t.pins.wdo = .high ∧ t.flag WDG_EV_STAT_VALID
    = true ∧ t.fld WDG_EV_STAT_CODE = 0x0C01) ∧
  (∀ (counters : Word × Word × Word × Word), s.watching = true → s.boot.power ≠ .standby → s.wdg.starting = none
    → s.wdg.stopped = false → s.wdg.tClose ≤ s.wdg.count + 1 → ∃ t, exec (.wdgWindowClose counters) s = .next t
    ∧ (Nat.land (s.fld WDG_TASKS_REG) (65535 - s.fld WDG_TASKS_IN) = 0 → t.wdg.starting = some false ∧ t.regs =
    s.regs) ∧ (Nat.land (s.fld WDG_TASKS_REG) (65535 - s.fld WDG_TASKS_IN) ≠ 0 → t.wdg.stopped = true ∧
    t.pins.wdo = .high ∧ t.fld WDG_EV_STAT_CODE = 0x0C03 ∧ t.fld WDG_EV_MASK_FAIL = Nat.land (s.fld
    WDG_TASKS_REG) (65535 - s.fld WDG_TASKS_IN))) ∧
  (s.active = true → s.railUp = false → s.boot.waiting = none → s.boot.restart = none → reached s.wdg.pulseEnd
    s.clk.rc = true → s.mapLevel 3 ≤ 1 → ∃ t, exec .wdoPulseEnd s = .next t ∧ t.boot.power = .starting ∧
    t.boot.level = s.mapLevel 3 ∧ t.fld RPC_RST_STAT_LAST_SRC = 3 ∧ t.pins.wdo = .released)

/-- What the boot, reset, OTP, update, clock and synchronisation commands leave alone. Registers are named one by one,
or an array by its first register; beside those named only what a report changes (interrupt sources and queue,
journal flags and queue, LAST_CODE and the summary bits, frames to send, the link's drop counters) and the named
parts of the state may change; every other register and part stands. A reset keeps of each field that only a
stronger reset restores (R7) its value, the totals and the running ream (log entry 15), the OTP but the row of a
command in progress, and the flash but the slot of a sheet in progress (log entry 14); the other commands keep the
flash outside the block they write. -/
def Obligations.FrameBootAndClocks : Prop :=
  (∀ (s t : State) (tst : Bool), exec (.resetNRelease tst) s = .next t → Within [] [.boot, .pins] s t) ∧
  (∀ (s t : State) (vsys : Nat) (tst : Bool), exec (.p0SupplyDone vsys tst) s = .next t → Within [] [.boot, .clk,
    .cpm, .pins] s t) ∧
  (∀ (s t : State) (source : Nat), exec (.p2Restart source) s = .next t → Within [RPC_IMG_STAT, RPC_RST_CAUSE]
    [.boot, .clk] s t) ∧
  (∀ (s t : State) (port : Bool), exec (.refQualified port) s = .next t → Within [STM_STAT] [.clk] s t) ∧
  (∀ (s t : State) (edges : Nat), exec (.refWindowEnd edges) s = .next t → Within [STM_STAT] [.clk] s t) ∧
  (∀ (s t : State) (port : Bool), exec (.refReturn port) s = .next t → Within [STM_STAT] [.clk] s t) ∧
  (∀ (s t : State) (copiesOk : Bool), Registers.wf s.regs = true → exec (.l2RestartDone copiesOk) s = .next t →
    KeptByLevel [RPC_IMG_STAT, RPC_RST_CAUSE, RPC_RST_STAT, WDG_EV_STAT, CEL_STAT] s t ∧ FlashWithin (s.slotRange
    ++ s.sectorRange ++ s.storeRange) s t ∧ OtpWithin s t ∧ MetersKept s t) ∧
  (∀ (s t : State) (copiesOk : Bool), Registers.wf s.regs = true → exec (.l3RestartDone copiesOk) s = .next t →
    KeptByLevel [RPC_IMG_STAT, RPC_RST_CAUSE, RPC_RST_STAT, WDG_EV_STAT, CEL_STAT] s t ∧ FlashWithin (s.slotRange
    ++ s.sectorRange ++ s.storeRange) s t ∧ OtpWithin s t ∧ MetersKept s t) ∧
  (∀ (s t : State) (path : Path) (row : BitVec 9), exec (.otpRead path row) s = .next t → Within (busErrRegs ++
    [OTP_CFG_ERR_INFO, OTP_CTRL, OTP_STAT]) (portParts path ++ [.boot]) s t ∧ OtpWithin s t) ∧
  (∀ (s t : State) (path : Path) (row : BitVec 9) (vsys : Nat) (vpp : Nat), exec (.otpProgram path row vsys vpp) s
    = .next t → Within (busErrRegs ++ [OTP_CFG_ERR_INFO, OTP_CTRL, OTP_STAT]) (portParts path ++ [.boot]) s t ∧
    OtpWithin s t) ∧
  (∀ (s t : State) (failedBit : Option (Nat)), exec (.otpCommandDone failedBit) s = .next t → Within [OTP_RDATA,
    OTP_STAT] [.boot] s t ∧ OtpWithin s t) ∧
  (∀ (s t : State) (pulses : Nat), exec (.otpConditionLost pulses) s = .next t → Within [OTP_STAT] [.boot] s t ∧
    OtpWithin s t) ∧
  (∀ (s t : State) (path : Path) (blocks : BitVec 10), exec (.updStart path blocks) s = .next t → Within
    (busErrRegs ++ [RPC_CFG_ERR_INFO, RPC_UPD_CTRL, RPC_UPD_STAT]) (portParts path ++ [.boot, .flash, .lnk]) s t ∧
    FlashWithin [(0, blockSize)] s t) ∧
  (∀ (s t : State) (path : Path) (blocks : BitVec 10), exec (.updAbort path blocks) s = .next t → Within
    (busErrRegs ++ [RPC_CFG_ERR_INFO, RPC_UPD_CTRL, RPC_UPD_STAT]) (portParts path ++ [.boot, .lnk]) s t) ∧
  (∀ (s t : State) (path : Path) (data : Word) (flashError : Bool), exec (.updData path data flashError) s = .next
    t → Within (busErrRegs ++ [RPC_CFG_ERR_INFO, RPC_UPD_DATA, RPC_UPD_STAT]) (portParts path ++ [.boot, .flash,
    .lnk]) s t ∧ FlashWithin s.blockRange s t) ∧
  (∀ (s t : State) (flashError : Bool), exec (.updateCheckDone flashError) s = .next t → Within [RPC_IMG_STAT,
    RPC_IMG_VER, RPC_UPD_STAT, WDG_CHAL, WDG_TASKS] [.boot, .clk, .flash, .lnk, .pins, .wdg] s t ∧ FlashWithin
    [(0, max blockSize s.boot.updImage.length)] s t) ∧
  (∀ (s t : State) (path : Path), exec (.setGo path) s = .next t → Within (busErrRegs ++ [MTR_COUCH_STAT 0,
    MTR_REAM 0 0, MTR_STAT, STM_CFG_ERR_INFO, STM_CTRL, STM_STAT]) (portParts path ++ [.cel, .clk, .msr, .mtr]) s
    t) ∧
  (∀ (s t : State) (path : Path), exec (.stmTimeLoRead path) s = .next t → Within busErrRegs (portParts path ++
    [.shadow]) s t) ∧
  (∀ (s t : State) (port : BitVec 2) (turn : Nat), exec (.syncReq port turn) s = .next t → Within [] [] s t) ∧
  (∀ (s t : State) (t2 : BitVec 72) (t3 : BitVec 72) (tstate : BitVec 2), exec (.syncFup t2 t3 tstate) s = .next t
    → Within [LNK_SYNC, MTR_COUCH_STAT 0, MTR_REAM 0 0, MTR_STAT, STM_INC, STM_OFFSET, STM_STAT] [.cel, .clk,
    .lnk, .msr, .mtr] s t) ∧
  (∀ (s t : State) (key : BitVec 16) (unicast : Bool), Registers.wf s.regs = true → exec (.reset key unicast) s =
    .next t → KeptByLevel [RPC_IMG_STAT, RPC_RST_CAUSE, RPC_RST_STAT, WDG_EV_STAT, CEL_STAT] s t ∧ FlashWithin
    (s.slotRange ++ s.sectorRange ++ s.storeRange) s t ∧ OtpWithin s t ∧ MetersKept s t) ∧
  (∀ s t : State, Registers.wf s.regs = true → exec .wakePulse s = .next t → KeptByLevel [RPC_IMG_STAT,
    RPC_RST_CAUSE, RPC_RST_STAT, WDG_EV_STAT, CEL_STAT] s t ∧ FlashWithin (s.slotRange ++ s.sectorRange ++
    s.storeRange) s t ∧ OtpWithin s t ∧ MetersKept s t) ∧
  (∀ s t : State, Registers.wf s.regs = true → exec .por s = .next t → KeptBelow 1 [] s t ∧ FlashWithin
    (s.slotRange ++ s.sectorRange ++ s.storeRange) s t ∧ OtpWithin s t) ∧
  (∀ s t : State, Registers.wf s.regs = true → exec .bor s = .next t → KeptBelow 1 [RPC_IMG_STAT, RPC_RST_CAUSE,
    RPC_RST_STAT, WDG_EV_STAT, CEL_STAT] s t ∧ FlashWithin (s.slotRange ++ s.sectorRange ++ s.storeRange) s t ∧
    OtpWithin s t ∧ MetersKept s t) ∧
  (∀ s t : State, Registers.wf s.regs = true → exec .inputCollapse s = .next t → KeptBelow 1 [RPC_IMG_STAT,
    RPC_RST_CAUSE, RPC_RST_STAT, WDG_EV_STAT, CEL_STAT] s t ∧ FlashWithin (s.slotRange ++ s.sectorRange ++
    s.storeRange) s t ∧ OtpWithin s t ∧ MetersKept s t) ∧
  (∀ s t : State, Registers.wf s.regs = true → exec .resetNAssert s = .next t → KeptByLevel [RPC_IMG_STAT,
    RPC_RST_CAUSE, RPC_RST_STAT, WDG_EV_STAT, CEL_STAT] s t ∧ FlashWithin (s.slotRange ++ s.sectorRange ++
    s.storeRange) s t ∧ OtpWithin s t ∧ MetersKept s t) ∧
  (∀ s t : State, Registers.wf s.regs = true → exec .allOffTimelineEnd s = .next t → KeptByLevel [RPC_IMG_STAT,
    RPC_RST_CAUSE, RPC_RST_STAT, WDG_EV_STAT, CEL_STAT] s t ∧ FlashWithin (s.slotRange ++ s.sectorRange ++
    s.storeRange) s t ∧ OtpWithin s t ∧ MetersKept s t) ∧
  (∀ s t : State, exec .p1RegulatorsDone s = .next t → Within [CPM_PP_STAT, HST_I2C_ADDR, LNK_STAT, LNK_SYNC,
    OTP_LOCK, SEQ_RAIL_PGD 0, SEQ_RAIL_STAT 0, SEQ_RAIL_WIN 0, THM_BROKEN, THM_HOT, THM_LIM 0, THM_STAT, THM_T 0]
    [.boot, .clk, .cpm, .lnk, .pins, .seq, .thm] s t) ∧
  (∀ s t : State, exec .p1RegulatorTimeout s = .next t → Within [] [.boot, .pins] s t) ∧
  (∀ s t : State, exec .p1RetryEnd s = .next t → Within [] [.boot, .pins] s t) ∧
  (∀ s t : State, exec .p2OptionsDone s = .next t → Within [OTP_STAT, RPC_IMG_STAT, STM_STAT] [.boot, .clk] s t) ∧
  (∀ s t : State, exec .p2RestartWindowEnd s = .next t → Within [] [.boot] s t) ∧
  (∀ s t : State, exec .pllLock s = .next t → Within [HST_I2C_ADDR, LNK_STAT, LNK_SYNC, MTR_COUCH_STAT 0, MTR_REAM
    0 0, MTR_STAT, OTP_LOCK, STM_OFFSET, STM_STAT, WDG_CHAL, WDG_TASKS] [.bkd, .boot, .cel, .clk, .icu, .lnk,
    .msr, .mtr, .pins, .wdg] s t) ∧
  (∀ s t : State, exec .lockAttemptTimeout s = .next t → Within [] [.boot, .clk] s t) ∧
  (∀ s t : State, exec .p4ImageDone s = .next t → Within [RPC_IMG_STAT, RPC_IMG_VER, WDG_CHAL, WDG_TASKS] [.boot,
    .clk, .pins, .wdg] s t) ∧
  (∀ s t : State, Registers.wf s.regs = true → exec .p5BondDone s = .next t → Within (brickRegs ++ [BND_EFF_HI,
    BND_EFF_LO, BND_ERR, BND_ERR_BYTE, BND_GEN, BND_GROUTE 0, BND_ID, BND_STAT, CEL_BAL_LIM, CEL_BAL_ON,
    CEL_BAL_SEL, CEL_FQ 0, CEL_HEALTH 0, CEL_PULSE 0, CEL_STAT, CEL_ZI 0 0, CEL_ZR 0 0, CPM_CHG_VLIM,
    HST_GPIO_FUNC_HI, HST_GPIO_FUNC_LO, HST_GPIO_OUT, ICU_HOLD 0, LNK_STAT, LNK_SYNC, MSR_CELL_CFG, MSR_CH 0,
    MSR_OW_STAT, MSR_STAT, MSR_TDAC, MSR_TRIG, MTR_HIST 0, MTR_REAM 0 0, MTR_REAM_LEN, MTR_STAT, RPC_IMG_STAT,
    SEQ_RAIL_MRG 0, SEQ_RAIL_PGD 0, SEQ_RAIL_STAT 0, SEQ_RAIL_WIN 0, SEQ_STAT, STM_CTRL, THM_BROKEN, THM_HOT,
    THM_LIM 0, THM_STAT, THM_T 0, VCP_GRP 0, VCP_REC_HI 0, VCP_REC_LO 0, VCP_STAT]) [.bnd, .boot, .brk, .cel,
    .clk, .lnk, .msr, .mtr, .pins, .seq, .thm, .vcp] s t) ∧
  (∀ s t : State, exec .loaderImgRequest s = .next t → Within [] [.boot] s t) ∧
  (∀ s t : State, exec .loaderImgTimeout s = .next t → Within [RPC_UPD_STAT] [.boot, .lnk] s t) ∧
  (∀ s t : State, exec .syncStart s = .next t → Within [LNK_SYNC] [.lnk] s t) ∧
  (∀ s t : State, exec .syncRsp s = .next t → Within [] [.lnk] s t) ∧
  (∀ s t : State, exec .syncFupTimeout s = .next t → Within [] [.lnk] s t) ∧
  (∀ s t : State, exec .syncHoldoverTimeout s = .next t → Within [STM_INC, STM_OFFSET, STM_STAT] [.clk] s t) ∧
  (∀ s t : State, Registers.wf s.regs = true → exec .supervisorLaneMismatch s = .next t → KeptByLevel
    [RPC_IMG_STAT, RPC_RST_CAUSE, RPC_RST_STAT, WDG_EV_STAT, CEL_STAT] s t ∧ FlashWithin (s.slotRange ++
    s.sectorRange ++ s.storeRange) s t ∧ OtpWithin s t ∧ MetersKept s t) ∧
  (∀ s t : State, Registers.wf s.regs = true → exec .switchCycleTimer s = .next t → KeptByLevel [RPC_IMG_STAT,
    RPC_RST_CAUSE, RPC_RST_STAT, WDG_EV_STAT, CEL_STAT] s t ∧ FlashWithin (s.slotRange ++ s.sectorRange ++
    s.storeRange) s t ∧ OtpWithin s t ∧ MetersKept s t) ∧
  (∀ s t : State, exec .shipModeSheetWritten s = .next t → Within [CEL_BAL_ON, OTP_STAT, WDG_EV_STAT] [.bnd,
    .boot, .cel, .clk, .cpm, .flash, .jnl, .pins, .seq, .thm, .wdg] s t ∧ FlashWithin (s.slotRange ++
    s.sectorRange ++ s.storeRange) s t ∧ OtpWithin s t) ∧
  (∀ s t : State, Registers.wf s.regs = true → exec .serviceProcessorFault s = .next t → KeptByLevel
    [RPC_IMG_STAT, RPC_RST_CAUSE, RPC_RST_STAT, WDG_EV_STAT, CEL_STAT] s t ∧ FlashWithin (s.slotRange ++
    s.sectorRange ++ s.storeRange) s t ∧ OtpWithin s t ∧ MetersKept s t) ∧
  (∀ (s t : State) (path : Path), Registers.wf s.regs = true → exec (.swrst path) s = .next t → KeptByLevel
    [RPC_IMG_STAT, RPC_RST_CAUSE, RPC_RST_STAT, WDG_EV_STAT, CEL_STAT] s t ∧ FlashWithin (s.slotRange ++
    s.sectorRange ++ s.storeRange) s t ∧ OtpWithin s t ∧ MetersKept s t)

/-- What the bond and backup domain commands leave alone. Registers are named one by one, or an array by its first
register; beside those named only what a report changes (interrupt sources and queue, journal flags and queue,
LAST_CODE and the summary bits, frames to send, the link's drop counters) and the named parts of the state may
change; every other register and part stands. A store writes its own slot and no other byte of the flash (how far a
cut one had got: log entry 13). -/
def Obligations.FrameBondAndBackup : Prop :=
  (∀ (s t : State) (path : Path) (src : BitVec 2), exec (.bondStoreCmd path src) s = .next t → Within (busErrRegs
    ++ [BND_CFG_ERR_INFO, BND_CTRL, BND_ERR, BND_ERR_BYTE, BND_STAT, SEQ_STAT]) (portParts path ++ [.bnd]) s t) ∧
  (∀ (s t : State) (path : Path) (src : BitVec 2) (store : Bool), exec (.bondApply path src store) s = .next t →
    Within (busErrRegs ++ [BND_CFG_ERR_INFO, BND_CTRL, BND_ERR, BND_ERR_BYTE, BND_STAT, SEQ_STAT]) (portParts path
    ++ [.bnd]) s t) ∧
  (∀ (s t : State) (path : Path), exec (.bondAbort path) s = .next t → Within (busErrRegs ++ [BND_CFG_ERR_INFO,
    BND_CTRL, BND_ERR, BND_ERR_BYTE, BND_STAT, SEQ_STAT]) (portParts path ++ [.bnd, .flash]) s t ∧ FlashWithin
    s.storeRange s t) ∧
  (∀ (s t : State) (path : Path) (data : Word), exec (.bndData path data) s = .next t → Within (busErrRegs ++
    [BND_CFG_ERR_INFO, BND_DATA, BND_ERR, BND_ERR_BYTE, BND_STAT, SEQ_STAT]) (portParts path ++ [.bnd]) s t) ∧
  (∀ (s t : State) (flashError : Bool), exec (.bondStoreDone flashError) s = .next t → Within [BND_ERR,
    BND_ERR_BYTE, BND_GEN, BND_STAT] [.bnd, .flash] s t ∧ FlashWithin s.storeRange s t) ∧
  (∀ (s t : State) (path : Path) (word : BitVec 2), exec (.rtcTimeRead path word) s = .next t → Within busErrRegs
    (portParts path ++ [.bkd, .shadow]) s t) ∧
  (∀ (s t : State) (path : Path), exec (.rtcFreezeTimeout path) s = .next t → Within [] [.bkd] s t) ∧
  (∀ (s t : State) (path : Path), exec (.rtcStatRead path) s = .next t → Within busErrRegs (portParts path ++
    [.bkd, .shadow]) s t) ∧
  (∀ (s t : State) (path : Path) (almEn : Bool), exec (.commitBinary path almEn) s = .next t → Within (busErrRegs
    ++ [BKD_CFG_ERR_INFO, RTC_CTRL, RTC_STAT]) (portParts path ++ [.bkd]) s t) ∧
  (∀ (s t : State) (path : Path) (almEn : Bool), exec (.commitCalendar path almEn) s = .next t → Within
    (busErrRegs ++ [BKD_CFG_ERR_INFO, RTC_CTRL, RTC_STAT]) (portParts path ++ [.bkd]) s t) ∧
  (∀ (s t : State) (millivolts : Nat), exec (.vbakSample millivolts) s = .next t → Within [RTC_STAT] [.bkd] s t) ∧
  (∀ (s t : State) (input : Nat) (level : Bool), exec (.evtEdgeAccept input level) s = .next t → Within [EVT_STAT]
    [.bkd] s t) ∧
  (∀ (s t : State) (path : Path), exec (.evtPop path) s = .next t → Within (busErrRegs ++ [BKD_CFG_ERR_INFO,
    EVT_STAT, RTC_STAT]) (portParts path ++ [.bkd]) s t) ∧
  (∀ (s t : State) (path : Path), exec (.evtOvfClr path) s = .next t → Within (busErrRegs ++ [BKD_CFG_ERR_INFO,
    EVT_STAT, RTC_STAT]) (portParts path ++ [.bkd]) s t) ∧
  (∀ s t : State, exec .bondReceiveTimeout s = .next t → Within [BND_ERR, BND_ERR_BYTE, BND_STAT, SEQ_STAT] [.bnd]
    s t) ∧
  (∀ s t : State, exec .bondValidationDone s = .next t → Within [BND_ERR, BND_ERR_BYTE, BND_STAT, SEQ_STAT] [.bnd]
    s t) ∧
  (∀ s t : State, Registers.wf s.regs = true → exec .bondTakesEffect s = .next t → Within (brickRegs ++
    [BND_EFF_HI, BND_EFF_LO, BND_ERR, BND_ERR_BYTE, BND_GEN, BND_GROUTE 0, BND_ID, BND_STAT, CEL_BAL_LIM,
    CEL_BAL_ON, CEL_BAL_SEL, CEL_FQ 0, CEL_HEALTH 0, CEL_PULSE 0, CEL_STAT, CEL_ZI 0 0, CEL_ZR 0 0, CPM_CHG_VLIM,
    HST_GPIO_FUNC_HI, HST_GPIO_FUNC_LO, HST_GPIO_OUT, ICU_HOLD 0, LNK_STAT, LNK_SYNC, MSR_CELL_CFG, MSR_CH 0,
    MSR_OW_STAT, MSR_STAT, MSR_TDAC, MSR_TRIG, MTR_HIST 0, MTR_REAM 0 0, MTR_REAM_LEN, MTR_STAT, SEQ_RAIL_MRG 0,
    SEQ_RAIL_PGD 0, SEQ_RAIL_STAT 0, SEQ_RAIL_WIN 0, SEQ_STAT, STM_CTRL, THM_BROKEN, THM_HOT, THM_LIM 0, THM_STAT,
    THM_T 0, VCP_GRP 0, VCP_REC_HI 0, VCP_REC_LO 0, VCP_STAT]) [.bnd, .boot, .brk, .cel, .clk, .flash, .lnk, .msr,
    .mtr, .pins, .seq, .thm, .vcp] s t ∧ FlashWithin [(slotBase s.otherSlot + 0x10010, 4)] s t) ∧
  (∀ s t : State, Registers.wf s.regs = true → exec .vbakFirstRise s = .next t → Within [BKD_CFG_ERR_INFO,
    EVT_CFG, EVT_HEAD_HI, EVT_HEAD_LO, EVT_STAT, RTC_ALM_HI, RTC_ALM_LO, RTC_CTRL, RTC_DATE, RTC_SEC_HI,
    RTC_SEC_LO, RTC_SET_DATE, RTC_SET_SEC_HI, RTC_SET_SEC_LO, RTC_SET_TIME, RTC_STAT, RTC_TIME, RTC_TRIM] [.bkd] s
    t) ∧
  (∀ s t : State, Registers.wf s.regs = true → exec .vbakLoss s = .next t → Within [BKD_CFG_ERR_INFO, EVT_CFG,
    EVT_HEAD_HI, EVT_HEAD_LO, EVT_STAT, RTC_ALM_HI, RTC_ALM_LO, RTC_CTRL, RTC_DATE, RTC_SEC_HI, RTC_SEC_LO,
    RTC_SET_DATE, RTC_SET_SEC_HI, RTC_SET_SEC_LO, RTC_SET_TIME, RTC_STAT, RTC_TIME, RTC_TRIM] [.bkd] s t) ∧
  (∀ s t : State, exec .calOverflow s = .next t → Within [RTC_STAT] [] s t) ∧
  (∀ s t : State, exec .commitApply s = .next t → Within [RTC_STAT] [.bkd, .clk] s t) ∧
  (∀ s t : State, exec .oscStopDetect s = .next t → Within [RTC_STAT] [.bkd] s t) ∧
  (∀ s t : State, exec .alarmFire s = .next t → Within [RTC_CTRL, RTC_STAT] [.bkd] s t)

/-- What the brick, lane and setpoint port commands leave alone. Registers are named one by one, or an array by its
first register; beside those named only what a report changes (interrupt sources and queue, journal flags and queue,
LAST_CODE and the summary bits, frames to send, the link's drop counters) and the named parts of the state may
change; every other register and part stands. A command for one brick, or for the group of one, leaves every other
brick and its registers. -/
def Obligations.FrameBricksAndVcp : Prop :=
  (∀ (s t : State) (n : Nat), exec (.settleTimeout n) s = .next t → WithinAt [BRK_STAT n] [VCP_REC_HI 0,
    VCP_REC_LO 0] [.brk, .vcp] s t ∧ BrickAlone n s t ∧ (∀ m : Nat, m < 16 → m ≠ n → t.reg (VCP_REC_LO m) = s.reg
    (VCP_REC_LO m) ∧ t.reg (VCP_REC_HI m) = s.reg (VCP_REC_HI m))) ∧
  (∀ (s t : State) (path : Path) (n : Nat) (data : Word), exec (.brkTargetWrite path n data) s = .next t →
    WithinAt [BRK_CFG_ERR_INFO n, BRK_STAT n, BRK_TARGET n] (busErrRegs ++ [CPM_CHG_STAT, CPM_CHG_TIME])
    (portParts path ++ [.brk, .cpm, .pins]) s t ∧ BrickAlone n s t) ∧
  (∀ (s t : State) (path : Path) (n : Nat), exec (.coefCommit path n) s = .next t → WithinAt ([BRK_CFG_ERR_INFO n,
    BRK_COMP_BST_THR n, BRK_COMP_CMD_MAX n, BRK_COMP_CMD_MIN n, BRK_CTRL n, BRK_STAT n] ++ (List.range 9).map
    (BRK_COMP n)) busErrRegs (portParts path ++ [.brk]) s t ∧ BrickAlone n s t) ∧
  (∀ (s t : State) (path : Path) (n : Nat), exec (.brkCntClr path n) s = .next t → WithinAt [BRK_CFG_ERR_INFO n,
    BRK_CNT n, BRK_CTRL n, BRK_STAT n] busErrRegs (portParts path) s t) ∧
  (∀ (s t : State) (n : Nat), exec (.laneRejoin n) s = .next t → WithinAt [BRK_LANE_STAT n] [] [.brk] s t ∧
    BrickAlone n s t) ∧
  (∀ (s t : State) (blocked : Bool), exec (.retryTimerExpiry blocked) s = .next t → Within [BRK_COMP 0 0,
    BRK_COMP_BST_THR 0, BRK_COMP_CMD_MAX 0, BRK_COMP_CMD_MIN 0, BRK_LIM_STAT 0, BRK_STAT 0, SEQ_EV, SEQ_FAULT,
    SEQ_STAT] [.brk, .pins, .seq] s t) ∧
  (∀ (s t : State) (n : Nat), exec (.running1sExpiry n) s = .next t → WithinAt [BRK_LIM_STAT n] [] [.brk] s t ∧
    BrickAlone n s t) ∧
  (∀ (s t : State) (path : Path) (n : Nat), exec (.retryRst path n) s = .next t → WithinAt [BRK_CFG_ERR_INFO n,
    BRK_LANE_CTRL n, BRK_LIM_STAT n, BRK_STAT n] busErrRegs (portParts path) s t) ∧
  (∀ (s t : State) (path : Path) (n : Nat), exec (.lcntClr path n) s = .next t → WithinAt [BRK_CFG_ERR_INFO n,
    BRK_HOLD n, BRK_LANE_A_CNT n, BRK_LANE_B_CNT n, BRK_LANE_CTRL n, BRK_STAT n] busErrRegs (portParts path) s t) ∧
  (∀ (s t : State) (group : BitVec 8) (seq : BitVec 4) (value : VcpValue), exec (.setV group seq value) s = .next
    t → Within [BRK_SLEW 0, BRK_STAT 0, BRK_TARGET 0, CPM_CHG_STAT, CPM_CHG_TIME, VCP_ANS_CNT, VCP_GRP 0,
    VCP_LAST_HI, VCP_LAST_LO, VCP_REC_HI 0, VCP_REC_LO 0, VCP_STAT] [.brk, .cpm, .pins, .vcp] s t ∧ (∀ m : Nat, m
    < 16 → s.groupOwner group.toNat ≠ some m → t.reg (BRK_TARGET m) = s.reg (BRK_TARGET m) ∧ t.reg (BRK_SLEW m) =
    s.reg (BRK_SLEW m) ∧ t.reg (VCP_REC_LO m) = s.reg (VCP_REC_LO m) ∧ t.reg (VCP_REC_HI m) = s.reg (VCP_REC_HI m)
    ∧ t.brick m = s.brick m)) ∧
  (∀ (s t : State) (group : BitVec 8) (seq : BitVec 4) (value : VcpValue), exec (.setI group seq value) s = .next
    t → Within [BRK_SLEW 0, BRK_STAT 0, BRK_TARGET 0, CPM_CHG_STAT, CPM_CHG_TIME, VCP_ANS_CNT, VCP_GRP 0,
    VCP_LAST_HI, VCP_LAST_LO, VCP_REC_HI 0, VCP_REC_LO 0, VCP_STAT] [.brk, .cpm, .pins, .vcp] s t ∧ (∀ m : Nat, m
    < 16 → s.groupOwner group.toNat ≠ some m → t.reg (BRK_TARGET m) = s.reg (BRK_TARGET m) ∧ t.reg (BRK_SLEW m) =
    s.reg (BRK_SLEW m) ∧ t.reg (VCP_REC_LO m) = s.reg (VCP_REC_LO m) ∧ t.reg (VCP_REC_HI m) = s.reg (VCP_REC_HI m)
    ∧ t.brick m = s.brick m)) ∧
  (∀ (s t : State) (group : BitVec 8) (seq : BitVec 4) (value : VcpValue), exec (.setSlew group seq value) s =
    .next t → Within [BRK_SLEW 0, BRK_STAT 0, BRK_TARGET 0, CPM_CHG_STAT, CPM_CHG_TIME, VCP_ANS_CNT, VCP_GRP 0,
    VCP_LAST_HI, VCP_LAST_LO, VCP_REC_HI 0, VCP_REC_LO 0, VCP_STAT] [.brk, .cpm, .pins, .vcp] s t ∧ (∀ m : Nat, m
    < 16 → s.groupOwner group.toNat ≠ some m → t.reg (BRK_TARGET m) = s.reg (BRK_TARGET m) ∧ t.reg (BRK_SLEW m) =
    s.reg (BRK_SLEW m) ∧ t.reg (VCP_REC_LO m) = s.reg (VCP_REC_LO m) ∧ t.reg (VCP_REC_HI m) = s.reg (VCP_REC_HI m)
    ∧ t.brick m = s.brick m)) ∧
  (∀ (s t : State) (group : BitVec 8) (seq : BitVec 4) (value : VcpValue), exec (.poll group seq value) s = .next
    t → Within [BRK_SLEW 0, BRK_STAT 0, BRK_TARGET 0, CPM_CHG_STAT, CPM_CHG_TIME, VCP_ANS_CNT, VCP_GRP 0,
    VCP_LAST_HI, VCP_LAST_LO, VCP_REC_HI 0, VCP_REC_LO 0, VCP_STAT] [.brk, .cpm, .pins, .vcp] s t ∧ (∀ m : Nat, m
    < 16 → s.groupOwner group.toNat ≠ some m → t.reg (BRK_TARGET m) = s.reg (BRK_TARGET m) ∧ t.reg (BRK_SLEW m) =
    s.reg (BRK_SLEW m) ∧ t.reg (VCP_REC_LO m) = s.reg (VCP_REC_LO m) ∧ t.reg (VCP_REC_HI m) = s.reg (VCP_REC_HI m)
    ∧ t.brick m = s.brick m)) ∧
  (∀ (s t : State) (group : BitVec 8) (seq : BitVec 4) (value : VcpValue), exec (.read group seq value) s = .next
    t → Within [BRK_SLEW 0, BRK_STAT 0, BRK_TARGET 0, CPM_CHG_STAT, CPM_CHG_TIME, VCP_ANS_CNT, VCP_GRP 0,
    VCP_LAST_HI, VCP_LAST_LO, VCP_REC_HI 0, VCP_REC_LO 0, VCP_STAT] [.brk, .cpm, .pins, .vcp] s t ∧ (∀ m : Nat, m
    < 16 → s.groupOwner group.toNat ≠ some m → t.reg (BRK_TARGET m) = s.reg (BRK_TARGET m) ∧ t.reg (BRK_SLEW m) =
    s.reg (BRK_SLEW m) ∧ t.reg (VCP_REC_LO m) = s.reg (VCP_REC_LO m) ∧ t.reg (VCP_REC_HI m) = s.reg (VCP_REC_HI m)
    ∧ t.brick m = s.brick m)) ∧
  (∀ (s t : State) (command : BitVec 4) (group : BitVec 8) (seq : BitVec 4) (value : VcpValue), exec
    (.vcpReservedCmd command group seq value) s = .next t → Within [BRK_SLEW 0, BRK_STAT 0, BRK_TARGET 0,
    CPM_CHG_STAT, CPM_CHG_TIME, VCP_ANS_CNT, VCP_GRP 0, VCP_LAST_HI, VCP_LAST_LO, VCP_REC_HI 0, VCP_REC_LO 0,
    VCP_STAT] [.brk, .cpm, .pins, .vcp] s t ∧ (∀ m : Nat, m < 16 → s.groupOwner group.toNat ≠ some m → t.reg
    (BRK_TARGET m) = s.reg (BRK_TARGET m) ∧ t.reg (BRK_SLEW m) = s.reg (BRK_SLEW m) ∧ t.reg (VCP_REC_LO m) = s.reg
    (VCP_REC_LO m) ∧ t.reg (VCP_REC_HI m) = s.reg (VCP_REC_HI m) ∧ t.brick m = s.brick m)) ∧
  (∀ (s t : State) (path : Path), exec (.vcpRecClr path) s = .next t → Within (busErrRegs ++ [VCP_CFG_ERR_INFO,
    VCP_CTRL, VCP_REC_HI 0, VCP_REC_LO 0, VCP_STAT]) (portParts path ++ [.vcp]) s t) ∧
  (∀ (s t : State) (path : Path), exec (.vcpCntClr path) s = .next t → Within (busErrRegs ++ [VCP_ANS_CNT,
    VCP_CFG_ERR_INFO, VCP_CTRL, VCP_ERR_CNT, VCP_STAT]) (portParts path) s t) ∧
  (∀ (s t : State) (path : Path), exec (.vcpLastLoRead path) s = .next t → Within busErrRegs (portParts path ++
    [.shadow]) s t) ∧
  (∀ s t : State, exec .vcpShortFrame s = .next t → Within [VCP_ERR_CNT, VCP_STAT] [.vcp] s t) ∧
  (∀ s t : State, exec .vcpCrcFail s = .next t → Within [VCP_ERR_CNT, VCP_STAT] [.vcp] s t)

/-- What the course and supervision commands leave alone. Registers are named one by one, or an array by its first
register; beside those named only what a report changes (interrupt sources and queue, journal flags and queue,
LAST_CODE and the summary bits, frames to send, the link's drop counters) and the named parts of the state may
change; every other register and part stands. A command for one rail leaves the words of the other rails and bricks.
-/
def Obligations.FrameCourses : Prop :=
  (∀ (s t : State) (path : Path) (target : BitVec 8), exec (.seqTarget path target) s = .next t → Within
    (busErrRegs ++ [SEQ_CFG_ERR_INFO, SEQ_CMD, SEQ_EV, SEQ_STAT]) (portParts path ++ [.seq]) s t) ∧
  (∀ (s t : State) (path : Path) (target : BitVec 8), exec (.seqFloor path target) s = .next t → Within
    (busErrRegs ++ [SEQ_CFG_ERR_INFO, SEQ_CMD, SEQ_EV, SEQ_STAT]) (portParts path ++ [.seq]) s t) ∧
  (∀ (s t : State) (pulseSeen : Bool), exec (.courseMasterStep pulseSeen) s = .next t → Within [SEQ_CMD, SEQ_EV,
    SEQ_STAT] [.pins, .seq] s t) ∧
  (∀ (s t : State) (address : BitVec 12) (course : BitVec 8) (down : Bool) (status : BitVec 2) (rejoin : Bool),
    exec (.courseAns address course down status rejoin) s = .next t → Within [] [.seq] s t) ∧
  (∀ (s t : State) (course : Framed (BitVec 8)) (down : Bool) (floor : Bool) (pulseSeen : Bool), exec (.trunkStep
    course down floor pulseSeen) s = .next t → Within [SEQ_EV, SEQ_STAT] [.pins, .seq] s t) ∧
  (∀ (s t : State) (address : HeadReport), exec (.headDone address) s = .next t → Within [SEQ_STAT] [.seq] s t) ∧
  (∀ (s t : State) (path : Path), exec (.rejoin path) s = .next t → Within (busErrRegs ++ [SEQ_CFG_ERR_INFO,
    SEQ_CTRL, SEQ_EV, SEQ_STAT]) (portParts path ++ [.pins, .seq]) s t) ∧
  (∀ (s t : State) (path : Path) (blocked : Bool), exec (.faultClr path blocked) s = .next t → Within (busErrRegs
    ++ [BRK_COMP 0 0, BRK_COMP_BST_THR 0, BRK_COMP_CMD_MAX 0, BRK_COMP_CMD_MIN 0, BRK_LIM_STAT 0, BRK_STAT 0,
    SEQ_CFG_ERR_INFO, SEQ_CTRL, SEQ_EV, SEQ_FAULT, SEQ_STAT]) (portParts path ++ [.brk, .pins, .seq]) s t) ∧
  (∀ (s t : State) (path : Path), exec (.lineClr path) s = .next t → Within (busErrRegs ++ [SEQ_CFG_ERR_INFO,
    SEQ_CTRL, SEQ_EV, SEQ_STAT]) (portParts path ++ [.seq]) s t) ∧
  (∀ (s t : State) (path : Path), exec (.seqCntClr path) s = .next t → Within (busErrRegs ++ [SEQ_CFG_ERR_INFO,
    SEQ_CNT, SEQ_CTRL, SEQ_HEAD, SEQ_STAT]) (portParts path) s t) ∧
  (∀ (s t : State) (rail : Nat), exec (.pgDelayExpiry rail) s = .next t → WithinAt [SEQ_RAIL_STAT rail] [SEQ_EV,
    SEQ_PG, SEQ_STAT] [.pins, .seq] s t ∧ (∀ r : Nat, r < 21 → r ≠ rail → bitsOf (t.reg SEQ_PG).toNat r 1 = bitsOf
    (s.reg SEQ_PG).toNat r 1)) ∧
  (∀ (s t : State) (up : Bool) (dn : Bool), exec (.marginPinChange up dn) s = .next t → Within [SEQ_EV,
    SEQ_MRG_PIN, SEQ_RAIL_MRG 0] [.pins] s t) ∧
  (∀ (s t : State) (vsys : Nat), exec (.supplyLow vsys) s = .next t → Within [SEQ_CMD, SEQ_EV, SEQ_STAT] [.boot,
    .seq] s t) ∧
  (∀ (s t : State) (vsys : Nat), exec (.supplyGood vsys) s = .next t → Within [SEQ_CMD, SEQ_EV, SEQ_STAT] [.boot,
    .seq] s t) ∧
  (∀ (s t : State) (address : BitVec 12) (low : Bool), exec (.supply address low) s = .next t → Within [SEQ_CMD,
    SEQ_STAT] [.seq] s t) ∧
  (∀ (s t : State) (address : BitVec 12), exec (.floorDone address) s = .next t → Within [SEQ_CMD, SEQ_STAT]
    [.seq] s t) ∧
  (∀ (s t : State) (address : BitVec 12) (state : BitVec 2), exec (.lineState address state) s = .next t → Within
    [] [.seq] s t) ∧
  (∀ s t : State, exec .courseStepUp s = .next t → Within [SEQ_CNT, SEQ_EV, SEQ_STAT] [.pins, .seq] s t) ∧
  (∀ s t : State, exec .courseStepDown s = .next t → Within [SEQ_CNT, SEQ_EV, SEQ_STAT] [.pins, .seq] s t) ∧
  (∀ s t : State, exec .courseFloor s = .next t → Within [SEQ_EV, SEQ_STAT] [.pins, .seq] s t) ∧
  (∀ s t : State, exec .courseInvalidLow s = .next t → Within [SEQ_CNT, SEQ_EV] [.seq] s t) ∧
  (∀ s t : State, exec .railOff s = .next t → Within [BRK_SS 0, BRK_STAT 0, BRK_TARGET 0, CPM_CHG_STAT,
    CPM_CHG_TIME, SEQ_EV, SEQ_ON, SEQ_PG, SEQ_RAIL_STAT 0, SEQ_STAT, VCP_REC_HI 0, VCP_REC_LO 0] [.brk, .cel,
    .cpm, .pins, .seq, .vcp] s t ∧ (∀ r : Nat, r < 21 → (∀ a, s.nextAction 2 = some a → a.target ≠ r) → t.reg
    (SEQ_RAIL_STAT r) = s.reg (SEQ_RAIL_STAT r)) ∧ (∀ m : Nat, m < 16 → (∀ a, s.nextAction 2 = some a → a.target ≠
    m ∧ m ∉ s.members a.target) → t.reg (BRK_STAT m) = s.reg (BRK_STAT m) ∧ t.reg (BRK_TARGET m) = s.reg
    (BRK_TARGET m) ∧ t.reg (BRK_SS m) = s.reg (BRK_SS m) ∧ t.brick m = s.brick m)) ∧
  (∀ s t : State, exec .waitPg s = .next t → Within [SEQ_EV, SEQ_STAT] [.pins, .seq] s t) ∧
  (∀ s t : State, exec .delay s = .next t → Within [] [.seq] s t) ∧
  (∀ s t : State, exec .delayExpiry s = .next t → Within [SEQ_EV, SEQ_STAT] [.pins, .seq] s t) ∧
  (∀ s t : State, exec .pinSet s = .next t → Within [SEQ_EV, SEQ_STAT] [.pins, .seq] s t) ∧
  (∀ s t : State, exec .setRef s = .next t → Within [BRK_STAT 0, BRK_TARGET 0, CPM_CHG_STAT, CPM_CHG_TIME, SEQ_EV,
    SEQ_STAT] [.brk, .cpm, .pins, .seq] s t ∧ (∀ m : Nat, m < 16 → (∀ a, s.nextAction 6 = some a → a.target ≠ m) →
    t.reg (BRK_TARGET m) = s.reg (BRK_TARGET m) ∧ t.brick m = s.brick m)) ∧
  (∀ s t : State, exec .moduleOpen s = .next t → Within [BRK_STAT 0, BRK_TARGET 0, CPM_CHG_STAT, CPM_CHG_TIME,
    SEQ_EV, SEQ_STAT] [.brk, .cpm, .pins, .seq] s t) ∧
  (∀ s t : State, exec .cascInRise s = .next t → Within [SEQ_EV, SEQ_STAT] [.pins, .seq] s t) ∧
  (∀ s t : State, exec .confirmAnswerTimeout s = .next t → Within [SEQ_HEAD, SEQ_STAT] [.seq] s t) ∧
  (∀ s t : State, exec .confirmMissingTimeout s = .next t → Within [] [.seq] s t) ∧
  (∀ s t : State, exec .headReportTimeout s = .next t → Within [SEQ_CMD, SEQ_STAT] [.seq] s t) ∧
  (∀ s t : State, exec .stepTimeout s = .next t → Within [SEQ_EV, SEQ_STAT] [.pins, .seq] s t) ∧
  (∀ s t : State, exec .linkFloor s = .next t → Within [SEQ_EV, SEQ_STAT] [.pins, .seq] s t) ∧
  (∀ s t : State, exec .cascInFall s = .next t → Within [] [.pins] s t)

/-- What the commands that may end in an all-off leave alone. Registers are named one by one, or an array by its first
register; beside those named only what a report changes (interrupt sources and queue, journal flags and queue,
LAST_CODE and the summary bits, frames to send, the link's drop counters) and the named parts of the state may
change; every other register and part stands. While no fault is ACTIVE after it, an event of one brick leaves every
other brick but its followers, and that of one rail the other rails. -/
def Obligations.FrameAllOff : Prop :=
  (∀ (s t : State) (failedLanes : List (Nat × Lane)), exec (.p6ServicesDone failedLanes) s = .next t → Within
    (allOffRegs ++ [BRK_LANE_EV 0, RPC_UPD_STAT, SEQ_RAIL_MRG 0, WDG_EV_STAT]) (allOffParts ++ [.bkd, .boot, .clk,
    .flash, .lnk, .mtr]) s t ∧ FlashWithin [(0, blockSize)] s t) ∧
  (∀ (s t : State) (n : Nat) (lanes : LaneErrors) (held : List (Nat × BitVec 14)), exec (.brickUpdate n lanes
    held) s = .next t → Within (allOffRegs ++ [BRK_CMD 0, BRK_CNT 0, BRK_COMP 0 0, BRK_COMP_BST_THR 0,
    BRK_COMP_CMD_MAX 0, BRK_COMP_CMD_MIN 0, BRK_FB 0, BRK_I2T 0, BRK_LANE_A_CNT 0, BRK_LANE_B_CNT 0, BRK_LANE_EV
    0, BRK_LIM_AVG 0, BRK_PERIOD 0, BRK_REF 0, MTR_REAM 0 0, MTR_STAT, SEQ_EV]) (allOffParts ++ [.mtr]) s t ∧
    (t.flag SEQ_FAULT_ACTIVE = false → ∀ m : Nat, m < 16 → m ≠ n ∧ m ∉ s.members n → t.reg (BRK_STAT m) = s.reg
    (BRK_STAT m) ∧ t.reg (BRK_TARGET m) = s.reg (BRK_TARGET m) ∧ t.reg (BRK_REF m) = s.reg (BRK_REF m) ∧ t.reg
    (BRK_CMD m) = s.reg (BRK_CMD m) ∧ t.reg (BRK_LANE_EV m) = s.reg (BRK_LANE_EV m) ∧ t.brick m = s.brick m)) ∧
  (∀ (s t : State) (n : Nat) (dataA : List (Nat × BitVec 32)) (dataB : List (Nat × BitVec 32)) (codeA : List (Nat
    × BitVec 7)) (codeB : List (Nat × BitVec 7)), exec (.laneScrub n dataA dataB codeA codeB) s = .next t → Within
    (allOffRegs ++ [BRK_LANE_A_CNT 0, BRK_LANE_B_CNT 0, BRK_LANE_EV 0]) allOffParts s t ∧ (t.flag SEQ_FAULT_ACTIVE
    = false → ∀ m : Nat, m < 16 → m ≠ n → t.reg (BRK_STAT m) = s.reg (BRK_STAT m) ∧ t.reg (BRK_TARGET m) = s.reg
    (BRK_TARGET m) ∧ t.reg (BRK_REF m) = s.reg (BRK_REF m) ∧ t.reg (BRK_CMD m) = s.reg (BRK_CMD m) ∧ t.reg
    (BRK_LANE_EV m) = s.reg (BRK_LANE_EV m) ∧ t.brick m = s.brick m)) ∧
  (∀ (s t : State) (n : Nat) (passA : Bool) (passB : Bool), exec (.quickTestDone n passA passB) s = .next t →
    Within (allOffRegs ++ [BRK_CMD 0, BRK_CNT 0, BRK_COMP 0 0, BRK_COMP_BST_THR 0, BRK_COMP_CMD_MAX 0,
    BRK_COMP_CMD_MIN 0, BRK_FB 0, BRK_I2T 0, BRK_LANE_A_CNT 0, BRK_LANE_B_CNT 0, BRK_LANE_EV 0, BRK_LIM_AVG 0,
    BRK_REF 0, SEQ_EV]) allOffParts s t ∧ (t.flag SEQ_FAULT_ACTIVE = false → ∀ m : Nat, m < 16 → m ≠ n → t.reg
    (BRK_STAT m) = s.reg (BRK_STAT m) ∧ t.reg (BRK_TARGET m) = s.reg (BRK_TARGET m) ∧ t.reg (BRK_REF m) = s.reg
    (BRK_REF m) ∧ t.reg (BRK_CMD m) = s.reg (BRK_CMD m) ∧ t.reg (BRK_LANE_EV m) = s.reg (BRK_LANE_EV m) ∧ t.brick
    m = s.brick m)) ∧
  (∀ (s t : State) (n : Nat) (lane : Lane) (pass : Bool), exec (.fullTestDone n lane pass) s = .next t → Within
    (allOffRegs ++ [BRK_LANE_A_CNT 0, BRK_LANE_B_CNT 0, BRK_LANE_EV 0]) allOffParts s t ∧ (t.flag SEQ_FAULT_ACTIVE
    = false → ∀ m : Nat, m < 16 → m ≠ n → t.reg (BRK_STAT m) = s.reg (BRK_STAT m) ∧ t.reg (BRK_TARGET m) = s.reg
    (BRK_TARGET m) ∧ t.reg (BRK_REF m) = s.reg (BRK_REF m) ∧ t.reg (BRK_CMD m) = s.reg (BRK_CMD m) ∧ t.reg
    (BRK_LANE_EV m) = s.reg (BRK_LANE_EV m) ∧ t.brick m = s.brick m)) ∧
  (∀ (s t : State) (cs : CsSample), exec (.fastLimitTrip cs) s = .next t → Within allOffRegs allOffParts s t) ∧
  (∀ (s t : State) (n : Nat) (microvolts : Nat), exec (.blankingEnd n microvolts) s = .next t → Within allOffRegs
    allOffParts s t ∧ (t.flag SEQ_FAULT_ACTIVE = false → ∀ m : Nat, m < 16 → m ≠ n → t.reg (BRK_STAT m) = s.reg
    (BRK_STAT m) ∧ t.reg (BRK_TARGET m) = s.reg (BRK_TARGET m) ∧ t.reg (BRK_REF m) = s.reg (BRK_REF m) ∧ t.reg
    (BRK_CMD m) = s.reg (BRK_CMD m) ∧ t.reg (BRK_LANE_EV m) = s.reg (BRK_LANE_EV m) ∧ t.brick m = s.brick m)) ∧
  (∀ (s t : State) (course : Framed (BitVec 8)) (down : Bool), exec (.confirm course down) s = .next t → Within
    (allOffRegs ++ [SEQ_CNT, SEQ_EV]) allOffParts s t) ∧
  (∀ (s t : State) (rail : Nat) (microvolts : List Nat), exec (.railViolation rail microvolts) s = .next t →
    Within allOffRegs allOffParts s t ∧ (t.flag SEQ_FAULT_ACTIVE = false → ∀ r : Nat, r < 21 → r ≠ rail → t.reg
    (SEQ_RAIL_STAT r) = s.reg (SEQ_RAIL_STAT r))) ∧
  (∀ (s t : State) (code : BitVec 16) (source : FrameHead) (unaddressed : Bool), exec (.alloff code source
    unaddressed) s = .next t → Within allOffRegs (allOffParts ++ [.lnk]) s t) ∧
  (∀ (s t : State) (sensor : Nat), exec (.privBrokenTimeout sensor) s = .next t → Within (allOffRegs ++
    [THM_STAT]) (allOffParts ++ [.thm]) s t) ∧
  (∀ (s t : State) (sensor : Nat), exec (.thermalShutdown sensor) s = .next t → Within (allOffRegs ++ [THM_STAT])
    (allOffParts ++ [.thm]) s t) ∧
  (∀ (s t : State) (path : Path) (task : BitVec 4) (value : BitVec 16) (counters : Word × Word × Word × Word),
    exec (.checkin path task value counters) s = .next t → Within (allOffRegs ++ busErrRegs ++ [WDG_CFG_ERR_INFO,
    WDG_CHECKIN, WDG_EV_CNT, WDG_EV_MASK, WDG_EV_PC_S0, WDG_EV_PC_S1, WDG_EV_PC_SA, WDG_EV_PC_SB, WDG_EV_STAT,
    WDG_EV_TS_HI, WDG_EV_TS_LO, WDG_STAT, WDG_TASKS]) (portParts path ++ allOffParts ++ [.wdg]) s t) ∧
  (∀ (s t : State) (counters : Word × Word × Word × Word), exec (.wdgWindowClose counters) s = .next t → Within
    (allOffRegs ++ [WDG_EV_CNT, WDG_EV_MASK, WDG_EV_PC_S0, WDG_EV_PC_S1, WDG_EV_PC_SA, WDG_EV_PC_SB, WDG_EV_STAT,
    WDG_EV_TS_HI, WDG_EV_TS_LO]) (allOffParts ++ [.wdg]) s t) ∧
  (∀ s t : State, exec .refLostTimeout s = .next t → Within allOffRegs (allOffParts ++ [.clk]) s t) ∧
  (∀ s t : State, exec .lossOfLock s = .next t → Within (allOffRegs ++ [STM_STAT]) (allOffParts ++ [.clk]) s t) ∧
  (∀ s t : State, exec .railOn s = .next t → Within (allOffRegs ++ [BRK_CMD 0, BRK_I2T 0, BRK_LIM_AVG 0,
    BRK_PERIOD 0, BRK_REF 0, SEQ_EV]) allOffParts s t) ∧
  (∀ s t : State, exec .waitPgTimeout s = .next t → Within allOffRegs allOffParts s t) ∧
  (∀ s t : State, exec .moduleClose s = .next t → Within (allOffRegs ++ [SEQ_EV]) allOffParts s t) ∧
  (∀ s t : State, exec .cascTimeout s = .next t → Within (allOffRegs ++ [SEQ_EV]) allOffParts s t) ∧
  (∀ s t : State, exec .courseLineIdle s = .next t → Within (allOffRegs ++ [SEQ_CNT, SEQ_EV]) allOffParts s t) ∧
  (∀ s t : State, exec .hkRoundDone s = .next t → Within (allOffRegs ++ [MSR_HK 0, STM_STAT, THM_HOT, THM_STAT,
    THM_T 0]) (allOffParts ++ [.thm]) s t) ∧
  (∀ s t : State, exec .probeT50Expiry s = .next t → Within allOffRegs allOffParts s t) ∧
  (∀ s t : State, exec .probeTimeout s = .next t → Within allOffRegs allOffParts s t) ∧
  (∀ s t : State, exec .serviceRelease s = .next t → Within allOffRegs allOffParts s t) ∧
  (∀ s t : State, exec .serviceHeld20s s = .next t → Within allOffRegs allOffParts s t)

/-- What the measurement, thermal and cell commands leave alone. Registers are named one by one, or an array by its
first register; beside those named only what a report changes (interrupt sources and queue, journal flags and queue,
LAST_CODE and the summary bits, frames to send, the link's drop counters) and the named parts of the state may
change; every other register and part stands. A conversion writes the records of the streams in progress and no
other byte of the sample RAM, and leaves the pointers of other streams and the samples of other channels; a sensor
and a window leave the others. -/
def Obligations.FrameMeasurementAndCells : Prop :=
  (∀ (s t : State) (held : List (Nat × BitVec 14)), exec (.periodicTrigger held) s = .next t → Within [MSR_TDAC,
    MTR_REAM 0 0, MTR_STAT] [.cel, .msr, .mtr] s t) ∧
  (∀ (s t : State) (held : List (Nat × BitVec 14)), exec (.extTrigger held) s = .next t → Within [MSR_STAT,
    MSR_TDAC, MTR_REAM 0 0, MTR_STAT] [.cel, .msr, .mtr] s t) ∧
  (∀ (s t : State) (adc : BitVec 2), exec (.conversionDone adc) s = .next t → Within [BRK_STAT 0, BRK_TARGET 0,
    CEL_HEALTH 0, CEL_PULSE 0, CEL_STAT, CPM_CHG_STAT, CPM_SW_STAT, MSR_CELL 0, MSR_CELL_TS_HI, MSR_CELL_TS_LO,
    MSR_CH 0, MSR_DMA_STAT 0, MSR_DMA_WPTR 0, MSR_DMA_WRAP 0, MSR_STACK, MTR_CELL_MM 0, MTR_STAT, SEQ_PG,
    SEQ_RAIL_STAT 0] [.brk, .cel, .cpm, .msr, .mtr, .pins, .seq, .sram] s t ∧ SramWithin ((List.range 16).flatMap
    s.streamRanges) s t ∧ (∀ k : Nat, k < 16 → (∀ p ∈ s.msr.streams, p.1 ≠ k) → t.reg (MSR_DMA_WPTR k) = s.reg
    (MSR_DMA_WPTR k) ∧ t.reg (MSR_DMA_WRAP k) = s.reg (MSR_DMA_WRAP k) ∧ t.reg (MSR_DMA_STAT k) = s.reg
    (MSR_DMA_STAT k)) ∧ (∀ ch : Nat, ch < 24 → (∀ f ∈ s.msr.pipe.getD adc.toNat [], ∀ c, f.conv = .sense c → c %
    24 ≠ ch) → t.reg (MSR_CH ch) = s.reg (MSR_CH ch))) ∧
  (∀ (s t : State) (path : Path), exec (.cellTsLoRead path) s = .next t → Within busErrRegs (portParts path ++
    [.shadow]) s t) ∧
  (∀ (s t : State) (held : List (Nat × BitVec 14)), exec (.hkCaptureTimeout held) s = .next t → Within [] [.msr] s
    t) ∧
  (∀ (s t : State) (path : Path) (stream : BitVec 4) (data : Word), exec (.dmaCfgWrite path stream data) s = .next
    t → WithinAt [MSR_DMA_CFG stream.toNat, MSR_DMA_STAT stream.toNat, MSR_DMA_WPTR stream.toNat, MSR_DMA_WRAP
    stream.toNat] (busErrRegs ++ [MSR_CFG_ERR_INFO, MSR_STAT]) (portParts path ++ [.msr]) s t ∧ (∀ j : Nat, j < 16
    → j ≠ stream.toNat → t.msr.streams.find? (fun p => decide (p.1 = j)) = s.msr.streams.find? (fun p => decide
    (p.1 = j)))) ∧
  (∀ (s t : State) (path : Path) (stream : BitVec 4), exec (.dmaWptrRead path stream) s = .next t → Within
    busErrRegs (portParts path ++ [.shadow]) s t) ∧
  (∀ (s t : State) (path : Path) (data : Word), exec (.tdacWrite path data) s = .next t → Within (busErrRegs ++
    [MSR_CFG_ERR_INFO, MSR_STAT, MSR_TDAC]) (portParts path ++ [.msr]) s t) ∧
  (∀ (s t : State) (path : Path), exec (.owGo path) s = .next t → Within (busErrRegs ++ [CEL_BAL_ON,
    MSR_CFG_ERR_INFO, MSR_CTRL, MSR_OW_STAT, MSR_STAT]) (portParts path ++ [.cel, .msr]) s t) ∧
  (∀ (s t : State) (path : Path), exec (.owAbort path) s = .next t → Within (busErrRegs ++ [MSR_CFG_ERR_INFO,
    MSR_CTRL, MSR_OW_STAT, MSR_STAT]) (portParts path ++ [.cel, .msr]) s t) ∧
  (∀ (s t : State) (path : Path), exec (.msrCntClr path) s = .next t → Within (busErrRegs ++ [MSR_CFG_ERR_INFO,
    MSR_CNT, MSR_CTRL, MSR_STAT]) (portParts path) s t) ∧
  (∀ (s t : State) (sensor : Nat), exec (.sensorFlagBroken sensor) s = .next t → WithinAt [THM_T sensor]
    [THM_BROKEN, THM_HOT, THM_STAT] [.thm] s t ∧ (∀ k : Nat, k < 13 → k ≠ sensor → t.thm.sensors[k]? =
    s.thm.sensors[k]?)) ∧
  (∀ (s t : State) (sensor : Nat), exec (.sensorUnflag sensor) s = .next t → WithinAt [THM_T sensor] [THM_BROKEN,
    THM_HOT, THM_STAT] [.thm] s t ∧ (∀ k : Nat, k < 13 → k ≠ sensor → t.thm.sensors[k]? = s.thm.sensors[k]?)) ∧
  (∀ (s t : State) (path : Path), exec (.sweepReq path) s = .next t → Within (busErrRegs ++ [CEL_CFG_ERR_INFO,
    CEL_CTRL, CEL_STAT]) (portParts path ++ [.cel]) s t) ∧
  (∀ (s t : State) (enginesAgree : Bool), exec (.windowEnd enginesAgree) s = .next t → Within [CEL_BAL_LIM, CEL_FQ
    0, CEL_HEALTH 0, CEL_STAT, CEL_SWEEP, CEL_ZI 0 0, CEL_ZR 0 0, MSR_OW_STAT] [.cel, .msr] s t ∧ (∀ w,
    s.cel.window = some w → ∀ c : Nat, c < 32 → ∀ j : Nat, j < 64 → j / 4 ≠ w.j → t.reg (CEL_ZR c j) = s.reg
    (CEL_ZR c j) ∧ t.reg (CEL_ZI c j) = s.reg (CEL_ZI c j))) ∧
  (∀ (s t : State) (path : Path), exec (.baseRst path) s = .next t → Within (busErrRegs ++ [CEL_CFG_ERR_INFO,
    CEL_CTRL, CEL_HEALTH 0, CEL_STAT, CEL_ZI 0 0, CEL_ZR 0 0]) (portParts path ++ [.cel]) s t) ∧
  (∀ (s t : State) (path : Path) (cell : BitVec 5) (bin : BitVec 6), exec (.celZrRead path cell bin) s = .next t →
    Within busErrRegs (portParts path ++ [.shadow]) s t) ∧
  (∀ s t : State, exec .triggerFallbackTimeout s = .next t → Within [MSR_STAT] [.msr] s t) ∧
  (∀ s t : State, exec .cellBlockDone s = .next t → Within [MSR_CELL 0, MSR_CELL_TS_HI, MSR_CELL_TS_LO, MSR_STACK,
    MTR_CELL_MM 0] [.cpm, .msr] s t) ∧
  (∀ s t : State, exec .hkTick s = .next t → Within [] [.msr] s t) ∧
  (∀ s t : State, exec .owWindowEnd s = .next t → Within [MSR_OW_RES, MSR_OW_STAT] [.cel, .msr] s t) ∧
  (∀ s t : State, exec .owTapGapEnd s = .next t → Within [MSR_OW_STAT] [.cel, .msr] s t) ∧
  (∀ s t : State, exec .throttleEval s = .next t → Within [THM_STAT] [.thm] s t) ∧
  (∀ s t : State, exec .thmLockClear s = .next t → Within [THM_STAT] [] s t) ∧
  (∀ s t : State, exec .sweepStart s = .next t → Within [CEL_HEALTH 0, CEL_STAT, CEL_SWEEP] [.cel] s t) ∧
  (∀ s t : State, exec .windowLeadinStart s = .next t → Within [CEL_BAL_ON, CEL_FQ 0, CEL_STAT] [.cel] s t) ∧
  (∀ s t : State, exec .windowMeasureStart s = .next t → Within [CEL_STAT] [.cel] s t) ∧
  (∀ s t : State, exec .restPoint s = .next t → Within [CEL_HEALTH 0, CEL_STAT] [.cel] s t) ∧
  (∀ s t : State, exec .celRestoreDone s = .next t → Within [CEL_HEALTH 0, CEL_STAT, CEL_ZI 0 0, CEL_ZR 0 0]
    [.cel] s t) ∧
  (∀ s t : State, exec .balSecondBoundary s = .next t → Within [CEL_BAL_LIM, CEL_BAL_ON, CEL_BAL_SEL, CEL_HEALTH
    0] [.cel] s t) ∧
  (∀ s t : State, exec .balOnTimeEnd s = .next t → Within [CEL_BAL_ON] [.cel] s t)

/-- What the charge and power path commands leave alone. Registers are named one by one, or an array by its first
register; beside those named only what a report changes (interrupt sources and queue, journal flags and queue,
LAST_CODE and the summary bits, frames to send, the link's drop counters) and the named parts of the state may
change; every other register and part stands. -/
def Obligations.FrameChargeAndPath : Prop :=
  (∀ (s t : State) (b : Bool), exec (.sourceQualified b) s = .next t → Within [CPM_PP_STAT] [.cpm, .pins] s t) ∧
  (∀ (s t : State) (b : Bool), exec (.sourceLost b) s = .next t → Within [CPM_PP_STAT] [.cpm, .pins] s t) ∧
  (∀ (s t : State) (b : Bool), exec (.sourceOv b) s = .next t → Within [CPM_PP_STAT] [] s t) ∧
  (∀ (s t : State) (b : Bool), exec (.longQualEnd b) s = .next t → Within [CPM_PP_STAT] [.cpm] s t) ∧
  (∀ (s t : State) (path : Path) (pref : Bool) (auxMode : Bool), exec (.ppPrefWrite path pref auxMode) s = .next t
    → Within (busErrRegs ++ [CPM_CFG_ERR_INFO, CPM_CHG_STAT, CPM_PP_CTRL, CPM_PP_STAT]) (portParts path ++ [.cpm,
    .pins]) s t) ∧
  (∀ (s t : State) (path : Path), exec (.start path) s = .next t → Within (busErrRegs ++ [CPM_CFG_ERR_INFO,
    CPM_CHG_LIM, CPM_CHG_STAT, CPM_CTRL]) (portParts path ++ [.cpm, .pins]) s t) ∧
  (∀ (s t : State) (path : Path), exec (.stop path) s = .next t → Within (busErrRegs ++ [BRK_STAT 0, BRK_TARGET 0,
    CPM_CFG_ERR_INFO, CPM_CHG_STAT, CPM_CHG_TIME, CPM_CTRL]) (portParts path ++ [.brk, .cpm, .pins]) s t) ∧
  (∀ s t : State, exec .handoverDone s = .next t → Within [CPM_PP_STAT] [.cpm, .pins] s t) ∧
  (∀ s t : State, exec .prechargeOffTimer s = .next t → Within [SEQ_EV, SEQ_STAT] [.cpm, .pins, .seq] s t) ∧
  (∀ s t : State, exec .chargeEval s = .next t → Within [BRK_STAT 0, BRK_TARGET 0, CPM_CHG_LIM, CPM_CHG_STAT,
    CPM_CHG_TIME] [.brk, .cpm, .pins] s t) ∧
  (∀ s t : State, exec .searchDwellEnd s = .next t → Within [CPM_CHG_LIM, CPM_CHG_STAT] [.cpm] s t) ∧
  (∀ s t : State, exec .searchRepeat s = .next t → Within [CPM_CHG_LIM, CPM_CHG_STAT] [.cpm] s t) ∧
  (∀ s t : State, exec .sessionTmax s = .next t → Within [BRK_STAT 0, BRK_TARGET 0, CPM_CHG_STAT, CPM_CHG_TIME]
    [.brk, .cpm, .pins] s t) ∧
  (∀ s t : State, exec .servicePress s = .next t → Within [CPM_SW_STAT] [.cpm] s t)

/-- What the meter, couch and journal commands leave alone. Registers are named one by one, or an array by its first
register; beside those named only what a report changes (interrupt sources and queue, journal flags and queue,
LAST_CODE and the summary bits, frames to send, the link's drop counters) and the named parts of the state may
change; every other register and part stands. A sheet is written into its own slot, and erases its own sector ahead.
-/
def Obligations.FrameMetersAndJournal : Prop :=
  (∀ (s t : State) (path : Path), exec (.statClr path) s = .next t → Within (busErrRegs ++ [MTR_CELL_MM 0,
    MTR_CFG_ERR_INFO, MTR_CTRL, MTR_HIST 0, MTR_STAT]) (portParts path) s t) ∧
  (∀ (s t : State) (path : Path) (point : BitVec 13) (data : Word), exec (.pointWrite path point data) s = .next t
    → Within busErrRegs (portParts path ++ [.mtr]) s t) ∧
  (∀ (s t : State) (path : Path) (address : Word), exec (.coherentPageRead path address) s = .next t → Within
    busErrRegs (portParts path ++ [.shadow]) s t) ∧
  (∀ (s t : State) (path : Path) (id : BitVec 16), exec (.couchGo path id) s = .next t → Within (busErrRegs ++
    [LNK_COUCH_REF, LNK_COUCH_SUM, MTR_CFG_ERR_INFO, MTR_COUCH_BT_HI 0, MTR_COUCH_BT_LO 0, MTR_COUCH_CTRL,
    MTR_COUCH_RES, MTR_COUCH_STAT 0, MTR_STAT]) (portParts path ++ [.lnk]) s t) ∧
  (∀ (s t : State) (path : Path) (banks : BitVec 4), exec (.couchFreeWrite path banks) s = .next t → Within
    (busErrRegs ++ [LNK_COUCH_REF, LNK_COUCH_SUM, MTR_CFG_ERR_INFO, MTR_COUCH_BT_HI 0, MTR_COUCH_BT_LO 0,
    MTR_COUCH_CTRL, MTR_COUCH_RES, MTR_COUCH_STAT 0, MTR_STAT]) (portParts path ++ [.lnk, .mtr]) s t) ∧
  (∀ (s t : State) (id : Framed (BitVec 16)) (time : Time), exec (.couchReq id time) s = .next t → Within
    [MTR_COUCH_BT_HI 0, MTR_COUCH_BT_LO 0, MTR_COUCH_STAT 0, MTR_STAT] [] s t) ∧
  (∀ (s t : State) (address : BitVec 12) (id : BitVec 16) (result : Byte), exec (.couchAns address id result) s =
    .next t → Within [LNK_COUCH_REF, LNK_COUCH_SUM] [.lnk] s t) ∧
  (∀ (s t : State) (ids : Framed (List (BitVec 16))), exec (.couchFree ids) s = .next t → Within [MTR_COUCH_BT_HI
    0, MTR_COUCH_BT_LO 0, MTR_COUCH_STAT 0] [.mtr] s t) ∧
  (∀ (s t : State) (bank : BitVec 2), exec (.couchHeld bank) s = .next t → WithinAt [MTR_COUCH_STAT bank.toNat] []
    [] s t) ∧
  (∀ (s t : State) (flashError : Bool), exec (.sheetWritten flashError) s = .next t → Within [] [.bnd, .flash,
    .jnl] s t ∧ FlashWithin (s.slotRange ++ s.sectorRange) s t) ∧
  (∀ (s t : State) (path : Path) (slot : BitVec 17), exec (.jnlRdSlot path slot) s = .next t → Within (busErrRegs
    ++ [JNL_CFG_ERR_INFO, JNL_RD_SLOT]) (portParts path ++ [.jnl, .shadow]) s t) ∧
  (∀ (s t : State) (path : Path), exec (.jnlRdLoaded path) s = .next t → Within [] [.jnl, .shadow] s t) ∧
  (∀ s t : State, exec .reamLatch s = .next t → Within [MTR_COUCH_STAT 0, MTR_REAM 0 0, MTR_STAT] [.mtr] s t) ∧
  (∀ s t : State, exec .meterRestoreDone s = .next t → Within [MTR_CELL_MM 0, MTR_HIST 0, MTR_STAT] [.mtr] s t) ∧
  (∀ s t : State, exec .histSecond s = .next t → Within [MTR_HIST 0] [.mtr] s t) ∧
  (∀ s t : State, exec .midnightStats s = .next t → Within [] [.mtr] s t) ∧
  (∀ s t : State, exec .couchAnswerTimeout s = .next t → Within [LNK_COUCH_SUM] [.lnk] s t) ∧
  (∀ s t : State, exec .couchInstant s = .next t → Within [MTR_COUCH_STAT 0, MTR_STAT] [.mtr] s t) ∧
  (∀ s t : State, exec .journalDrain s = .next t → Within [] [.jnl] s t) ∧
  (∀ s t : State, exec .headSearchDone s = .next t → Within [] [.jnl] s t)

/-- What the link commands leave alone. Registers are named one by one, or an array by its first register; beside those
named only what a report changes (interrupt sources and queue, journal flags and queue, LAST_CODE and the summary
bits, frames to send, the link's drop counters) and the named parts of the state may change; every other register
and part stands. A command for one tag leaves the other tags, and each leaves the pieces of the link that are not
named; a block of a distributed image goes to its own place in the flash. A remote write changes its register and
its block's error record. -/
def Obligations.FrameLink : Prop :=
  (∀ (s t : State) (port : BitVec 2), exec (.portUp port) s = .next t → Within [LNK_STAT, LNK_SYNC] [] s t) ∧
  (∀ (s t : State) (port : BitVec 2), exec (.portDown port) s = .next t → Within [LNK_STAT, LNK_SYNC, STM_STAT]
    [.clk, .lnk] s t ∧ LnkWithin [.string, .trunk] s t) ∧
  (∀ (s t : State) (trunk : Bool), exec (.ringCheckSend trunk) s = .next t → Within [] [.lnk] s t ∧ LnkWithin
    [.string, .trunk] s t) ∧
  (∀ (s t : State) (port : FrameHead) (serial : BitVec 64), exec (.ringCheck port serial) s = .next t → Within
    [LNK_STAT, LNK_SYNC] [.lnk] s t ∧ LnkWithin [.string, .trunk] s t) ∧
  (∀ (s t : State) (trunk : Bool), exec (.ringCheckTimeout trunk) s = .next t → Within [LNK_STAT, LNK_SYNC] [.lnk]
    s t ∧ LnkWithin [.string, .trunk] s t) ∧
  (∀ (s t : State) (trunk : Bool) (opened : Bool) (source : RingReporter) (event : Byte), exec (.ringState trunk
    opened source event) s = .next t → Within [LNK_STAT, LNK_SYNC] [.lnk] s t ∧ LnkWithin [.seen, .string, .trunk]
    s t) ∧
  (∀ (s t : State) (serial : Framed HelloBody), exec (.hello serial) s = .next t → Within [LNK_STAT] [.lnk] s t ∧
    LnkWithin [.enumeration, .string, .trunk] s t) ∧
  (∀ (s t : State) (path : Path), exec (.enum path) s = .next t → Within (busErrRegs ++ [LNK_CFG_ERR_INFO,
    LNK_CTRL, LNK_STAT]) (portParts path ++ [.lnk]) s t ∧ LnkWithin [.enumeration] s t) ∧
  (∀ (s t : State) (trunk : Bool) (serial : Framed Claimant) (rank : Byte), exec (.claim trunk serial rank) s =
    .next t → Within [LNK_STAT] [.lnk] s t ∧ LnkWithin [.enumeration] s t) ∧
  (∀ (s t : State) (port : WalkIn) (count : Byte) (side : Bool), exec (.walk port count side) s = .next t → Within
    [LNK_ADDR, LNK_LIM, LNK_STAT, LNK_SYNC, SEQ_STAT, STM_OFFSET, STM_STAT] [.clk, .lnk, .seq] s t ∧ LnkWithin
    [.enumeration, .string, .trunk] s t) ∧
  (∀ (s t : State) (trunk : Bool) (serial : BitVec 64) (distance : Byte) (side : Bool), exec (.walkReport trunk
    serial distance side) s = .next t → Within [] [.lnk] s t ∧ LnkWithin [.enumeration] s t) ∧
  (∀ (s t : State) (trunk : Bool) (entries : Framed (List (BitVec 64 × BitVec 16))), exec (.assign trunk entries)
    s = .next t → Within [LNK_ADDR, LNK_STAT, LNK_SYNC, SEQ_STAT, STM_OFFSET, STM_STAT] [.clk, .lnk, .seq] s t ∧
    LnkWithin [.enumeration] s t) ∧
  (∀ (s t : State) (path : Path) (tag : BitVec 5) (dest : BitVec 12), exec (.raRead path tag dest) s = .next t →
    WithinAt [LNK_RA_STAT tag.toNat] (busErrRegs ++ [LNK_CFG_ERR_INFO, LNK_RA_CTRL, LNK_STAT]) (portParts path ++
    [.lnk]) s t ∧ (∀ u, u ≠ tag.toNat → t.lnk.tags.find? (fun p => decide (p.1 = u)) = s.lnk.tags.find? (fun p =>
    decide (p.1 = u))) ∧ LnkWithin [.tags] s t) ∧
  (∀ (s t : State) (path : Path) (tag : BitVec 5) (dest : BitVec 12), exec (.raWrite path tag dest) s = .next t →
    WithinAt [LNK_RA_STAT tag.toNat] (busErrRegs ++ [LNK_CFG_ERR_INFO, LNK_RA_CTRL, LNK_STAT]) (portParts path ++
    [.lnk]) s t ∧ (∀ u, u ≠ tag.toNat → t.lnk.tags.find? (fun p => decide (p.1 = u)) = s.lnk.tags.find? (fun p =>
    decide (p.1 = u))) ∧ LnkWithin [.tags] s t) ∧
  (∀ (s t : State) (path : Path) (tag : BitVec 5) (count : BitVec 6) (dest : BitVec 12), exec (.raBlockRead path
    tag count dest) s = .next t → WithinAt [LNK_RA_STAT tag.toNat] (busErrRegs ++ [LNK_CFG_ERR_INFO, LNK_RA_CTRL,
    LNK_STAT]) (portParts path ++ [.lnk]) s t ∧ (∀ u, u ≠ tag.toNat → t.lnk.tags.find? (fun p => decide (p.1 = u))
    = s.lnk.tags.find? (fun p => decide (p.1 = u))) ∧ LnkWithin [.tags] s t) ∧
  (∀ (s t : State) (tag : BitVec 5) (result : Byte) (data : List (Word)), exec (.raRsp tag result data) s = .next
    t → WithinAt ([LNK_RA_STAT tag.toNat] ++ (List.range 63).map (LNK_RA_DATA tag.toNat)) [] [.lnk] s t ∧ (∀ u, u
    ≠ tag.toNat → t.lnk.tags.find? (fun p => decide (p.1 = u)) = s.lnk.tags.find? (fun p => decide (p.1 = u))) ∧
    LnkWithin [.tags] s t) ∧
  (∀ (s t : State) (tag : BitVec 5), exec (.raTimeout tag) s = .next t → WithinAt [LNK_RA_STAT tag.toNat] []
    [.lnk] s t ∧ (∀ u, u ≠ tag.toNat → t.lnk.tags.find? (fun p => decide (p.1 = u)) = s.lnk.tags.find? (fun p =>
    decide (p.1 = u))) ∧ LnkWithin [.tags] s t) ∧
  (∀ (s t : State) (path : Path) (tag : BitVec 5), exec (.raFree path tag) s = .next t → WithinAt [LNK_RA_STAT
    tag.toNat] (busErrRegs ++ [LNK_CFG_ERR_INFO, LNK_STAT]) (portParts path) s t) ∧
  (∀ (s t : State) (path : Path) (control : Word), exec (.distGo path control) s = .next t → Within (busErrRegs ++
    [LNK_CFG_ERR_INFO, LNK_DIST_CTRL, LNK_DIST_STAT, LNK_STAT]) (portParts path ++ [.lnk]) s t ∧ LnkWithin
    [.sending] s t) ∧
  (∀ (s t : State) (path : Path) (control : Word), exec (.distAbort path control) s = .next t → Within (busErrRegs
    ++ [LNK_CFG_ERR_INFO, LNK_DIST_CTRL, LNK_DIST_STAT, LNK_STAT]) (portParts path ++ [.lnk]) s t ∧ LnkWithin
    [.sending] s t) ∧
  (∀ (s t : State) (source : FrameHead) (image : Bool) (apply : Bool) (store : Bool) (length : Word), exec
    (.distStart source image apply store length) s = .next t → Within [BND_ERR, BND_ERR_BYTE, BND_STAT,
    RPC_UPD_STAT, SEQ_STAT] [.bnd, .boot, .flash, .lnk] s t ∧ FlashWithin [(0, blockSize)] s t ∧ LnkWithin [.dist]
    s t) ∧
  (∀ (s t : State) (offset : Framed Word) (bytes : List (Byte)) (flashError : Bool), exec (.distData offset bytes
    flashError) s = .next t → Within [BND_ERR, BND_ERR_BYTE, BND_STAT, RPC_UPD_STAT, SEQ_STAT] [.bnd, .boot,
    .flash, .lnk] s t ∧ FlashWithin s.blockRange s t ∧ LnkWithin [.dist] s t) ∧
  (∀ (s t : State) (source : BitVec 12) (result : Byte), exec (.distResult source result) s = .next t → Within
    [LNK_DIST_STAT] [] s t) ∧
  (∀ (s t : State) (port : BitVec 2), exec (.imgReq port) s = .next t → Within [] [.lnk] s t ∧ LnkWithin [.serve]
    s t) ∧
  (∀ (s t : State) (source : Framed (BitVec 16)), exec (.doorbell source) s = .next t → Within [] [] s t) ∧
  (∀ (s t : State) (address : BitVec 12) (source : BitVec 10) (stamp : Time), exec (.irqFwd address source stamp)
    s = .next t → Within [] [] s t) ∧
  (∀ (s t : State) (path : Path), exec (.fwdPop path) s = .next t → Within (busErrRegs ++ [LNK_CFG_ERR_INFO,
    LNK_CTRL, LNK_STAT]) (portParts path) s t) ∧
  (∀ (s t : State) (path : Path), exec (.lnkCntClr path) s = .next t → Within (busErrRegs ++ [LNK_CFG_ERR_INFO,
    LNK_CTRL, LNK_ERR_CNT, LNK_STAT]) (portParts path) s t) ∧
  (∀ (s t : State) (crc : Bool), exec (.linkFrameError crc) s = .next t → Within [LNK_ERR_CNT, LNK_STAT] [.lnk] s
    t ∧ LnkWithin [.errors] s t) ∧
  (∀ s t : State, exec .helloSend s = .next t → Within [] [.lnk] s t ∧ LnkWithin [.hello] s t) ∧
  (∀ s t : State, exec .enumAutoStart s = .next t → Within [LNK_STAT] [.lnk] s t ∧ LnkWithin [.enumeration] s t) ∧
  (∀ s t : State, exec .claimTimeout s = .next t → Within [LNK_STAT] [.lnk] s t ∧ LnkWithin [.enumeration,
    .string, .trunk] s t) ∧
  (∀ s t : State, exec .distCollectEnd s = .next t → Within [LNK_DIST_STAT] [] s t) ∧
  (∀ (s t : State) (source : BitVec 12) (tag : BitVec 5) (address : Word) (count : Byte) (waiting : Nat), exec
    (.rdReq source tag address count waiting) s = .next t → Within busErrRegs [.shadow, .bkd] s t) ∧
  (∀ (s t : State) (source : BitVec 12) (tag : BitVec 5) (address data : Word) (waiting : Nat), named actingRegs
    address.toNat = false → exec (.wrReq source tag address data waiting) s = .next t → WithinAt (wroteRegs
    address.toNat) busErrRegs [.mtr] s t)

/-- What the host port, interrupt and watchdog commands leave alone. Registers are named one by one, or an array by its
first register; beside those named only what a report changes (interrupt sources and queue, journal flags and queue,
LAST_CODE and the summary bits, frames to send, the link's drop counters) and the named parts of the state may
change; every other register and part stands. A command for one source or group leaves the other sources, their
queue entries and the other groups' holds. Writes of words that only their fields hold change those registers and
their blocks' error records. -/
def Obligations.FrameHostAndInterrupts : Prop :=
  (∀ (s t : State) (command : Byte), exec (.spiReservedCmd command) s = .next t → Within [HST_CNT, HST_STAT]
    [.hst] s t) ∧
  (∀ (s t : State) (path : Path), exec (.hstCntClr path) s = .next t → Within (busErrRegs ++ [HST_CFG_ERR_INFO,
    HST_CNT, HST_CTRL, HST_STAT]) (portParts path) s t) ∧
  (∀ (s t : State) (path : Path) (source : BitVec 10), exec (.doorbellWrite path source) s = .next t → Within
    (busErrRegs ++ [ICU_CFG_ERR_INFO, ICU_DOORBELL]) (portParts path) s t ∧ IcuWithin (source.toNat ::
    turnSources) [] s t) ∧
  (∀ (s t : State) (path : Path) (source : BitVec 10) (data : Word), exec (.icuSrcWrite path source data) s =
    .next t → Within (busErrRegs ++ [ICU_CFG_ERR_INFO]) (portParts path) s t ∧ IcuWithin (source.toNat ::
    (s.icu.stuck ++ turnSources)) [] s t) ∧
  (∀ (s t : State) (path : Path) (intEn : Bool), exec (.icuPop path intEn) s = .next t → Within (busErrRegs ++
    [ICU_CFG_ERR_INFO, ICU_CTRL]) (portParts path) s t ∧ IcuWithin (((headEntry s.icu.queue).map
    QEntry.source).toList ++ s.icu.stuck ++ turnSources) [] s t) ∧
  (∀ (s t : State) (g : Nat), exec (.holdoffExpiry g) s = .next t → Within [] [] s t ∧ IcuWithin (s.groupWaits g
    ++ turnSources) [g] s t) ∧
  (∀ (s t : State) (path : Path) (g : Nat) (data : Word), exec (.icuHoldWrite path g data) s = .next t → WithinAt
    [ICU_HOLD g] (busErrRegs ++ [ICU_CFG_ERR_INFO]) (portParts path) s t ∧ IcuWithin (s.groupWaits g ++
    turnSources) [g] s t) ∧
  (∀ (s t : State) (path : Path), exec (.standbyRequest path) s = .next t → Within (busErrRegs ++ [GLB_PWR_CTRL,
    ICU_LATCH]) (portParts path ++ [.icu]) s t) ∧
  (∀ (s t : State) (latch : Nat), exec (.wakeLatchEdge latch) s = .next t → Within [ICU_LATCH] [.clk, .icu] s t) ∧
  (∀ (s t : State) (n : Nat) (rising : Bool), exec (.irqEdge n rising) s = .next t → Within [] [.icu] s t) ∧
  (∀ (s t : State) (n : Nat) (rising : Bool), exec (.gpioEdge n rising) s = .next t → Within [] [] s t) ∧
  (∀ (s t : State) (path : Path), exec (.arm path) s = .next t → Within (busErrRegs ++ [WDG_CFG_ERR_INFO,
    WDG_CHAL, WDG_CTRL, WDG_STAT, WDG_TASKS]) (portParts path ++ [.wdg]) s t) ∧
  (∀ (s t : State) (path : Path), exec (.evidClr path) s = .next t → Within (busErrRegs ++ [WDG_CFG_ERR_INFO,
    WDG_CTRL, WDG_EV_STAT, WDG_STAT]) (portParts path) s t) ∧
  (∀ s t : State, exec .i2cSclTimeout s = .next t → Within [HST_CNT, HST_STAT] [] s t) ∧
  (∀ s t : State, exec .intNGapEnd s = .next t → Within [] [] s t) ∧
  (∀ s t : State, exec .standbyEnter s = .next t → Within [STM_STAT] [.boot, .clk, .mtr] s t) ∧
  (∀ s t : State, exec .wakeRise s = .next t → Within [] [.icu] s t) ∧
  (∀ s t : State, Registers.wf s.regs = true → exec .wdoPulseEnd s = .next t → KeptByLevel [RPC_IMG_STAT,
    RPC_RST_CAUSE, RPC_RST_STAT, WDG_EV_STAT, CEL_STAT] s t ∧ FlashWithin (s.slotRange ++ s.sectorRange ++
    s.storeRange) s t ∧ OtpWithin s t ∧ MetersKept s t) ∧
  (∀ (s t : State) (address : Word) (count : Nat) (late : List (Bool)) (addressCut : Bool), exec (.spiRead address
    count late addressCut) s = .next t → Within (busErrRegs ++ [HST_CNT, HST_STAT]) [.hst, .shadow, .bkd] s t) ∧
  (∀ (s t : State) (address : Word) (count : Nat) (partialAddress : Bool), exec (.i2cRead address count
    partialAddress) s = .next t → Within (busErrRegs ++ [HST_CNT, HST_STAT]) [.hst, .shadow, .bkd] s t) ∧
  (∀ (s t : State) (count : Nat), exec (.i2cCurrentRead count) s = .next t → Within busErrRegs [.hst, .shadow,
    .bkd] s t) ∧
  (∀ (s t : State) (address : Word) (words : List Word) (partialWord : Bool), (∀ k, k < words.length → named
    actingRegs (wordAt address k) = false) → exec (.spiWrite address words partialWord) s = .next t → WithinAt
    ((List.range words.length).flatMap (fun k => wroteRegs (wordAt address k))) (busErrRegs ++ [HST_CNT,
    HST_STAT]) [.hst, .mtr] s t) ∧
  (∀ (s t : State) (address : Word) (words : List Word) (partialWord : Bool), (∀ k, k < words.length → named
    actingRegs (wordAt address k) = false) → exec (.i2cWrite address words partialWord) s = .next t → WithinAt
    ((List.range words.length).flatMap (fun k => wroteRegs (wordAt address k))) (busErrRegs ++ [HST_CNT,
    HST_STAT]) [.hst, .mtr] s t) ∧
  (∀ (s t : State) (path : Path) (address data : Word), named actingRegs address.toNat = false → exec
    (.registerWrite path address data) s = .next t → WithinAt (wroteRegs address.toNat) busErrRegs (portParts path
    ++ [.mtr]) s t)
end

