-- ==== Sys2Proof/Laws/Memory.lean ====
section
/-! SUPPORT. The laws of the byte memories and of the register list: read after write, other addresses untouched, and that
every operation keeps the canonical form. -/
namespace Sys2Proof.Machine

/-! ### Byte memories -/

theorem cellAt_of_absent (d : Byte) (a : Nat) : ∀ m : List Host.Cell, (∀ c ∈ m, c.1 ≠ a) → cellAt d m a = d
  | [], _ => rfl
  | c :: r, h => by
    have h1 : c.1 ≠ a := h c (by simp)
    simp only [cellAt, if_neg h1]
    exact cellAt_of_absent d a r (fun x hx => h x (by simp [hx]))

theorem mem_dropCell {a : Nat} {c : Host.Cell} : ∀ {m : List Host.Cell}, c ∈ dropCell a m ↔ c ∈ m ∧ c.1 ≠ a
  | [] => by simp [dropCell]
  | e :: r => by
    by_cases h : e.1 = a
    · simp only [dropCell, if_pos h, mem_dropCell (m := r), List.mem_cons]
      constructor
      · exact fun ⟨x, y⟩ => ⟨.inr x, y⟩
      · rintro ⟨rfl | x, y⟩
        · exact absurd h y
        · exact ⟨x, y⟩
    · simp only [dropCell, if_neg h, List.mem_cons, mem_dropCell (m := r)]
      constructor
      · rintro (rfl | ⟨x, y⟩)
        · exact ⟨.inl rfl, h⟩
        · exact ⟨.inr x, y⟩
      · rintro ⟨rfl | x, y⟩
        · exact .inl rfl
        · exact .inr ⟨x, y⟩

theorem mem_insertCell {a : Nat} {v : Byte} {c : Host.Cell} :
    ∀ {m : List Host.Cell}, c ∈ insertCell a v m ↔ c = (a, v) ∨ c ∈ m
  | [] => by simp [insertCell]
  | e :: r => by
    unfold insertCell
    split
    · simp
    · simp only [List.mem_cons, mem_insertCell (m := r)]; tauto

theorem dropCell_other (d : Byte) (a b : Nat) (h : b ≠ a) : ∀ m : List Host.Cell, cellAt d (dropCell a m) b = cellAt d m b
  | [] => rfl
  | e :: r => by
    by_cases h1 : e.1 = a
    · have h2 : e.1 ≠ b := fun x => h (x.symm.trans h1)
      simp only [dropCell, if_pos h1, cellAt, if_neg h2]
      exact dropCell_other d a b h r
    · simp only [dropCell, if_neg h1, cellAt]
      split
      · rfl
      · exact dropCell_other d a b h r

theorem cellAt_insertCell_self (d : Byte) (a : Nat) (v : Byte) :
    ∀ m : List Host.Cell, (∀ c ∈ m, c.1 ≠ a) → cellAt d (insertCell a v m) a = v
  | [], _ => by simp [insertCell, cellAt]
  | e :: r, h => by
    unfold insertCell
    split
    · simp [cellAt]
    · have h1 : e.1 ≠ a := h e (by simp)
      simp only [cellAt, if_neg h1]
      exact cellAt_insertCell_self d a v r (fun x hx => h x (by simp [hx]))

theorem cellAt_insertCell_other (d : Byte) (a b : Nat) (v : Byte) (h : b ≠ a) :
    ∀ m : List Host.Cell, cellAt d (insertCell a v m) b = cellAt d m b
  | [] => by simp [insertCell, cellAt, Ne.symm h]
  | e :: r => by
    unfold insertCell
    split
    · simp [cellAt, Ne.symm h]
    · simp only [cellAt]
      split
      · rfl
      · exact cellAt_insertCell_other d a b v h r

/-- Read after write, the written byte. -/
theorem cellAt_setCell_self (d : Byte) (a : Nat) (v : Byte) (m : List Host.Cell) : cellAt d (setCell d a v m) a = v := by
  unfold setCell
  split
  · rename_i h
    rw [h]
    exact cellAt_of_absent d a _ (fun c hc => (mem_dropCell.mp hc).2)
  · exact cellAt_insertCell_self d a v _ (fun c hc => (mem_dropCell.mp hc).2)

/-- Read after write, every other byte. -/
theorem cellAt_setCell_other (d : Byte) (a b : Nat) (v : Byte) (h : b ≠ a) (m : List Host.Cell) :
    cellAt d (setCell d a v m) b = cellAt d m b := by
  unfold setCell
  split
  · exact dropCell_other d a b h m
  · rw [cellAt_insertCell_other d a b v h, dropCell_other d a b h]

theorem cellAt_setCells_other (d : Byte) (b : Nat) : ∀ (l : List Byte) (a : Nat) (m : List Host.Cell),
    (b < a ∨ a + l.length ≤ b) → cellAt d (setCells d a l m) b = cellAt d m b
  | [], _, _, _ => rfl
  | v :: r, a, m, h => by
    simp only [List.length_cons] at h
    simp only [setCells]
    rw [cellAt_setCells_other d b r (a + 1) _ (by omega), cellAt_setCell_other d a b v (by omega)]

theorem cellAt_setCells_self (d : Byte) : ∀ (l : List Byte) (a i : Nat) (m : List Host.Cell) (h : i < l.length),
    cellAt d (setCells d a l m) (a + i) = l[i]
  | v :: r, a, 0, m, _ => by
    simp only [setCells, Nat.add_zero, List.getElem_cons_zero]
    rw [cellAt_setCells_other d a r (a + 1) _ (by omega), cellAt_setCell_self]
  | v :: r, a, i + 1, m, h => by
    simp only [List.length_cons, Nat.add_lt_add_iff_right] at h
    simp only [setCells, List.getElem_cons_succ]
    have := cellAt_setCells_self d r (a + 1) i (setCell d a v m) h
    rw [← this]
    congr 1
    omega

theorem dropCell_pairwise (a : Nat) : ∀ m : List Host.Cell, m.Pairwise (fun x y => x.1 < y.1) →
    (dropCell a m).Pairwise (fun x y => x.1 < y.1)
  | [], _ => .nil
  | e :: r, h => by
    rw [List.pairwise_cons] at h
    by_cases h1 : e.1 = a
    · simp only [dropCell, if_pos h1]; exact dropCell_pairwise a r h.2
    · simp only [dropCell, if_neg h1, List.pairwise_cons]
      exact ⟨fun c hc => h.1 c (mem_dropCell.mp hc).1, dropCell_pairwise a r h.2⟩

theorem insertCell_pairwise (a : Nat) (v : Byte) : ∀ m : List Host.Cell, m.Pairwise (fun x y => x.1 < y.1) →
    (∀ c ∈ m, c.1 ≠ a) → (insertCell a v m).Pairwise (fun x y => x.1 < y.1)
  | [], _, _ => by simp [insertCell]
  | e :: r, h, hn => by
    rw [List.pairwise_cons] at h
    unfold insertCell
    split
    · rename_i h1
      rw [List.pairwise_cons]
      refine ⟨fun c hc => ?_, List.pairwise_cons.mpr h⟩
      rcases List.mem_cons.mp hc with rfl | hc
      · exact h1
      · exact Nat.lt_trans h1 (h.1 c hc)
    · rename_i h1
      rw [List.pairwise_cons]
      refine ⟨fun c hc => ?_, insertCell_pairwise a v r h.2 (fun c hc => hn c (by simp [hc]))⟩
      rcases mem_insertCell.mp hc with rfl | hc
      · have := hn e (by simp)
        simp only
        omega
      · exact h.1 c hc

theorem Memory.wf_iff (d : Byte) (m : List Host.Cell) :
    Memory.wf d m = true ↔ m.Pairwise (fun x y => x.1 < y.1) ∧ ∀ c ∈ m, c.2 ≠ d := by
  simp [Memory.wf]

/-- A write keeps the canonical form. -/
theorem Memory.wf_setCell (d : Byte) (a : Nat) (v : Byte) (m : List Host.Cell) (h : Memory.wf d m = true) :
    Memory.wf d (setCell d a v m) = true := by
  rw [Memory.wf_iff] at h ⊢
  unfold setCell
  split
  · exact ⟨dropCell_pairwise a m h.1, fun c hc => h.2 c (mem_dropCell.mp hc).1⟩
  · rename_i hv
    refine ⟨insertCell_pairwise a v _ (dropCell_pairwise a m h.1) (fun c hc => (mem_dropCell.mp hc).2), fun c hc => ?_⟩
    rcases mem_insertCell.mp hc with rfl | hc
    · exact hv
    · exact h.2 c (mem_dropCell.mp hc).1

theorem Memory.wf_setCells (d : Byte) : ∀ (l : List Byte) (a : Nat) (m : List Host.Cell), Memory.wf d m = true →
    Memory.wf d (setCells d a l m) = true
  | [], _, _, h => h
  | v :: r, a, m, h => Memory.wf_setCells d r (a + 1) _ (Memory.wf_setCell d a v m h)

theorem Memory.wf_filter (d : Byte) (p : Host.Cell → Bool) (m : List Host.Cell) (h : Memory.wf d m = true) :
    Memory.wf d (m.filter p) = true := by
  rw [Memory.wf_iff] at h ⊢
  exact ⟨h.1.filter p, fun c hc => h.2 c (List.mem_filter.mp hc).1⟩

theorem Memory.wf_nil (d : Byte) : Memory.wf d [] = true := rfl

/-! ### The register list -/

theorem mem_dropReg {a : Nat} {c : Nat × Word} : ∀ {m : List (Nat × Word)}, c ∈ dropReg a m ↔ c ∈ m ∧ c.1 ≠ a
  | [] => by simp [dropReg]
  | e :: r => by
    by_cases h : e.1 = a
    · simp only [dropReg, if_pos h, mem_dropReg (m := r), List.mem_cons]
      constructor
      · exact fun ⟨x, y⟩ => ⟨.inr x, y⟩
      · rintro ⟨rfl | x, y⟩
        · exact absurd h y
        · exact ⟨x, y⟩
    · simp only [dropReg, if_neg h, List.mem_cons, mem_dropReg (m := r)]
      constructor
      · rintro (rfl | ⟨x, y⟩)
        · exact ⟨.inl rfl, h⟩
        · exact ⟨.inr x, y⟩
      · rintro ⟨rfl | x, y⟩
        · exact .inl rfl
        · exact .inr ⟨x, y⟩

theorem mem_insertReg {a : Nat} {v : Word} {c : Nat × Word} :
    ∀ {m : List (Nat × Word)}, c ∈ insertReg a v m ↔ c = (a, v) ∨ c ∈ m
  | [] => by simp [insertReg]
  | e :: r => by
    unfold insertReg
    split
    · simp
    · simp only [List.mem_cons, mem_insertReg (m := r)]; tauto

theorem findReg_of_absent (a : Nat) : ∀ m : List (Nat × Word), (∀ c ∈ m, c.1 ≠ a) → findReg a m = none
  | [], _ => rfl
  | c :: r, h => by
    have h1 : c.1 ≠ a := h c (by simp)
    simp only [findReg, if_neg h1]
    exact findReg_of_absent a r (fun x hx => h x (by simp [hx]))

theorem findReg_dropReg_other (a b : Nat) (h : b ≠ a) : ∀ m : List (Nat × Word), findReg b (dropReg a m) = findReg b m
  | [] => rfl
  | e :: r => by
    by_cases h1 : e.1 = a
    · have h2 : e.1 ≠ b := fun x => h (x.symm.trans h1)
      simp only [dropReg, if_pos h1, findReg, if_neg h2]
      exact findReg_dropReg_other a b h r
    · simp only [dropReg, if_neg h1, findReg]
      split
      · rfl
      · exact findReg_dropReg_other a b h r

theorem findReg_insertReg_self (a : Nat) (v : Word) :
    ∀ m : List (Nat × Word), (∀ c ∈ m, c.1 ≠ a) → findReg a (insertReg a v m) = some v
  | [], _ => by simp [insertReg, findReg]
  | e :: r, h => by
    unfold insertReg
    split
    · simp [findReg]
    · have h1 : e.1 ≠ a := h e (by simp)
      simp only [findReg, if_neg h1]
      exact findReg_insertReg_self a v r (fun x hx => h x (by simp [hx]))

theorem findReg_insertReg_other (a b : Nat) (v : Word) (h : b ≠ a) :
    ∀ m : List (Nat × Word), findReg b (insertReg a v m) = findReg b m
  | [] => by simp [insertReg, findReg, Ne.symm h]
  | e :: r => by
    unfold insertReg
    split
    · simp [findReg, Ne.symm h]
    · simp only [findReg]
      split
      · rfl
      · exact findReg_insertReg_other a b v h r

/-- The word at another address is untouched by a set. -/
theorem findReg_setRegs_other (a b : Nat) (v : Word) (h : b ≠ a) (m : List (Nat × Word)) :
    findReg b (setRegs a v m) = findReg b m := by
  unfold setRegs
  split
  · exact findReg_dropReg_other a b h m
  · rw [findReg_insertReg_other a b v h, findReg_dropReg_other a b h]

theorem dropReg_pairwise (a : Nat) : ∀ m : List (Nat × Word), m.Pairwise (fun x y => x.1 < y.1) →
    (dropReg a m).Pairwise (fun x y => x.1 < y.1)
  | [], _ => .nil
  | e :: r, h => by
    rw [List.pairwise_cons] at h
    by_cases h1 : e.1 = a
    · simp only [dropReg, if_pos h1]; exact dropReg_pairwise a r h.2
    · simp only [dropReg, if_neg h1, List.pairwise_cons]
      exact ⟨fun c hc => h.1 c (mem_dropReg.mp hc).1, dropReg_pairwise a r h.2⟩

theorem insertReg_pairwise (a : Nat) (v : Word) : ∀ m : List (Nat × Word), m.Pairwise (fun x y => x.1 < y.1) →
    (∀ c ∈ m, c.1 ≠ a) → (insertReg a v m).Pairwise (fun x y => x.1 < y.1)
  | [], _, _ => by simp [insertReg]
  | e :: r, h, hn => by
    rw [List.pairwise_cons] at h
    unfold insertReg
    split
    · rename_i h1
      rw [List.pairwise_cons]
      refine ⟨fun c hc => ?_, List.pairwise_cons.mpr h⟩
      rcases List.mem_cons.mp hc with rfl | hc
      · exact h1
      · exact Nat.lt_trans h1 (h.1 c hc)
    · rename_i h1
      rw [List.pairwise_cons]
      refine ⟨fun c hc => ?_, insertReg_pairwise a v r h.2 (fun c hc => hn c (by simp [hc]))⟩
      rcases mem_insertReg.mp hc with rfl | hc
      · have := hn e (by simp)
        simp only
        omega
      · exact h.1 c hc

theorem Registers.wf_iff (l : List (Nat × Word)) :
    Registers.wf l = true ↔ l.Pairwise (fun x y => x.1 < y.1) ∧ ∀ e ∈ l, e.2 ≠ regReset e.1 := by
  simp [Registers.wf]

/-- Setting a register keeps the canonical form. -/
theorem Registers.wf_setRegs (a : Nat) (v : Word) (l : List (Nat × Word)) (h : Registers.wf l = true) :
    Registers.wf (setRegs a v l) = true := by
  rw [Registers.wf_iff] at h ⊢
  unfold setRegs
  split
  · exact ⟨dropReg_pairwise a l h.1, fun c hc => h.2 c (mem_dropReg.mp hc).1⟩
  · rename_i hv
    refine ⟨insertReg_pairwise a v _ (dropReg_pairwise a l h.1) (fun c hc => (mem_dropReg.mp hc).2), fun c hc => ?_⟩
    rcases mem_insertReg.mp hc with rfl | hc
    · exact hv
    · exact h.2 c (mem_dropReg.mp hc).1

/-- So does a rewriting of the listed words in place that drops the words equal to their reset value. -/
theorem Registers.wf_filterMap (f : Nat × Word → Option (Nat × Word)) (l : List (Nat × Word))
    (hk : ∀ e ∈ l, ∀ x, f e = some x → x.1 = e.1) (hr : ∀ e ∈ l, ∀ x, f e = some x → x.2 ≠ regReset x.1)
    (h : Registers.wf l = true) : Registers.wf (l.filterMap f) = true := by
  rw [Registers.wf_iff] at h ⊢
  constructor
  · rw [List.pairwise_filterMap]
    refine h.1.imp_of_mem ?_
    intro a b ha hb hab x hx y hy
    rw [hk a ha x hx, hk b hb y hy]
    exact hab
  · intro e he
    obtain ⟨x, hx, hfx⟩ := List.mem_filterMap.mp he
    exact hr x hx e hfx

end Sys2Proof.Machine
end

