-- ==== Sys2Proof/Laws/State.lean ====
section
/-! SUPPORT. The laws of State's own operations: a register or a field read after a set, and, for each operation that
touches one part of the state, one lemma per part it leaves alone. -/
namespace Sys2Proof.Machine

/-! ### Fields of a word -/

theorem getLsbD_maskAt (lo width i : Nat) (hi : i < 32) : (maskAt lo width).getLsbD i = (decide (lo ≤ i) && decide (i < lo + width)) := by
  simp only [maskAt, BitVec.getLsbD_ofNat, hi, decide_true, Bool.true_and, Nat.testBit_shiftLeft, Nat.testBit_two_pow_sub_one]
  by_cases h : lo ≤ i
  · simp [h]; omega
  · simp [h]

theorem getLsbD_putBits (w : Word) (lo width v i : Nat) (hi : i < 32) :
    (putBits w lo width v).getLsbD i =
      if lo ≤ i ∧ i < lo + width then v.testBit (i - lo) else w.getLsbD i := by
  simp only [putBits, BitVec.getLsbD_or, BitVec.getLsbD_and, BitVec.getLsbD_not, hi, getLsbD_maskAt _ _ _ hi,
    BitVec.getLsbD_ofNat, decide_true, Bool.true_and, Nat.testBit_shiftLeft, Nat.testBit_mod_two_pow]
  by_cases h : lo ≤ i
  · by_cases h2 : i < lo + width
    · have : i - lo < width := by omega
      simp [h, h2, this]
    · have : ¬ i - lo < width := by omega
      simp [h, h2, this]
  · simp [h]

theorem testBit_bitsOf (n lo width i : Nat) : (bitsOf n lo width).testBit i = (decide (i < width) && n.testBit (lo + i)) := by
  simp [bitsOf, Nat.testBit_mod_two_pow]

theorem bitsOf_putBits_self (w : Word) (lo width v : Nat) (h : lo + width ≤ 32) :
    bitsOf (putBits w lo width v).toNat lo width = v % 2 ^ width := by
  apply Nat.eq_of_testBit_eq
  intro i
  rw [testBit_bitsOf, Nat.testBit_mod_two_pow]
  by_cases hi : i < width
  · have h1 : lo + i < 32 := by omega
    have := getLsbD_putBits w lo width v (lo + i) h1
    simp only [BitVec.getLsbD] at this
    rw [this, if_pos (by omega)]
    simp
  · simp [hi]

theorem bitsOf_putBits_other (w : Word) (lo width v lo2 width2 : Nat) (h : lo2 + width2 ≤ lo ∨ lo + width ≤ lo2) (h2 : lo2 + width2 ≤ 32) :
    bitsOf (putBits w lo width v).toNat lo2 width2 = bitsOf w.toNat lo2 width2 := by
  apply Nat.eq_of_testBit_eq
  intro i
  rw [testBit_bitsOf, testBit_bitsOf]
  by_cases hi : i < width2
  · have h1 : lo2 + i < 32 := by omega
    have := getLsbD_putBits w lo width v (lo2 + i) h1
    simp only [BitVec.getLsbD] at this
    rw [this, if_neg (by omega)]
  · simp [hi]
/-! ### Registers and fields -/

theorem State.reg_setReg_self (s : State) (a : Nat) (v : Word) : (s.setReg a v).reg a = v := by
  unfold State.reg State.setReg setRegs
  by_cases h : v = regReset a
  · have hn := findReg_of_absent a (dropReg a s.regs) (fun c hc => (mem_dropReg.mp hc).2)
    simp only [if_pos h, hn]
    exact h.symm
  · have hs := findReg_insertReg_self a v (dropReg a s.regs) (fun c hc => (mem_dropReg.mp hc).2)
    simp only [if_neg h, hs]

theorem State.reg_setReg_other (s : State) (a b : Nat) (v : Word) (h : b ≠ a) : (s.setReg a v).reg b = s.reg b := by
  unfold State.reg State.setReg
  simp only [findReg_setRegs_other a b v h]

theorem State.reg_setFld_other (s : State) (f : Fld) (v b : Nat) (h : b ≠ f.reg) : (s.setFld f v).reg b = s.reg b :=
  s.reg_setReg_other f.reg b _ h

theorem State.reg_setFlag_other (s : State) (f : Fld) (x : Bool) (b : Nat) (h : b ≠ f.reg) :
    (s.setFlag f x).reg b = s.reg b := s.reg_setFld_other f _ b h

/-- A field reads what was set, cut to its width. -/
theorem State.fld_setFld_self (s : State) (f : Fld) (v : Nat) (h : f.lo + f.width ≤ 32) :
    (s.setFld f v).fld f = v % 2 ^ f.width := by
  unfold State.fld State.setFld
  rw [State.reg_setReg_self, bitsOf_putBits_self _ _ _ _ h]

/-- A field of another register is untouched. -/
theorem State.fld_setFld_other (s : State) (f g : Fld) (v : Nat) (h : g.reg ≠ f.reg) : (s.setFld f v).fld g = s.fld g := by
  unfold State.fld
  rw [s.reg_setFld_other f v g.reg h]

/-- So is a field of the same register beside it. -/
theorem State.fld_setFld_beside (s : State) (f g : Fld) (v : Nat) (hr : g.reg = f.reg)
    (h : g.lo + g.width ≤ f.lo ∨ f.lo + f.width ≤ g.lo) (hg : g.lo + g.width ≤ 32) :
    (s.setFld f v).fld g = s.fld g := by
  unfold State.fld State.setFld
  rw [hr, State.reg_setReg_self, bitsOf_putBits_other _ _ _ _ _ _ h hg]

theorem State.flag_setFld_one (s : State) (f : Fld) (hw : f.width = 1) (h : f.lo < 32) :
    (s.setFld f 1).flag f = true := by
  unfold State.flag
  rw [s.fld_setFld_self f 1 (by omega), hw]
  rfl

theorem State.flag_setFld_zero (s : State) (f : Fld) (h : f.lo + f.width ≤ 32) : (s.setFld f 0).flag f = false := by
  unfold State.flag
  rw [s.fld_setFld_self f 0 h, Nat.zero_mod]
  rfl

theorem State.fld_setReg_other (s : State) (a : Nat) (v : Word) (g : Fld) (h : g.reg ≠ a) : (s.setReg a v).fld g = s.fld g := by
  unfold State.fld
  rw [s.reg_setReg_other a g.reg v h]

theorem State.bump_eq (s : State) (f : Fld) :
    s.bump f = if s.fld f + 1 < 2 ^ f.width then s.setFld f (s.fld f + 1) else s := rfl

/-! ### What each update leaves alone -/

@[simp] theorem State.setReg_pending (s : State) (a : Nat) (v : Word) : (s.setReg a v).pending = s.pending := rfl
@[simp] theorem State.setReg_shadow (s : State) (a : Nat) (v : Word) : (s.setReg a v).shadow = s.shadow := rfl
@[simp] theorem State.setReg_free (s : State) (a : Nat) (v : Word) : (s.setReg a v).free = s.free := rfl
@[simp] theorem State.setReg_clk (s : State) (a : Nat) (v : Word) : (s.setReg a v).clk = s.clk := rfl
@[simp] theorem State.setReg_boot (s : State) (a : Nat) (v : Word) : (s.setReg a v).boot = s.boot := rfl
@[simp] theorem State.setReg_bkd (s : State) (a : Nat) (v : Word) : (s.setReg a v).bkd = s.bkd := rfl
@[simp] theorem State.setReg_icu (s : State) (a : Nat) (v : Word) : (s.setReg a v).icu = s.icu := rfl
@[simp] theorem State.setReg_hst (s : State) (a : Nat) (v : Word) : (s.setReg a v).hst = s.hst := rfl
@[simp] theorem State.setReg_wdg (s : State) (a : Nat) (v : Word) : (s.setReg a v).wdg = s.wdg := rfl
@[simp] theorem State.setReg_jnl (s : State) (a : Nat) (v : Word) : (s.setReg a v).jnl = s.jnl := rfl
@[simp] theorem State.setReg_pins (s : State) (a : Nat) (v : Word) : (s.setReg a v).pins = s.pins := rfl
@[simp] theorem State.setReg_bnd (s : State) (a : Nat) (v : Word) : (s.setReg a v).bnd = s.bnd := rfl
@[simp] theorem State.setReg_brk (s : State) (a : Nat) (v : Word) : (s.setReg a v).brk = s.brk := rfl
@[simp] theorem State.setReg_seq (s : State) (a : Nat) (v : Word) : (s.setReg a v).seq = s.seq := rfl
@[simp] theorem State.setReg_vcp (s : State) (a : Nat) (v : Word) : (s.setReg a v).vcp = s.vcp := rfl
@[simp] theorem State.setReg_cpm (s : State) (a : Nat) (v : Word) : (s.setReg a v).cpm = s.cpm := rfl
@[simp] theorem State.setReg_msr (s : State) (a : Nat) (v : Word) : (s.setReg a v).msr = s.msr := rfl
@[simp] theorem State.setReg_thm (s : State) (a : Nat) (v : Word) : (s.setReg a v).thm = s.thm := rfl
@[simp] theorem State.setReg_cel (s : State) (a : Nat) (v : Word) : (s.setReg a v).cel = s.cel := rfl
@[simp] theorem State.setReg_mtr (s : State) (a : Nat) (v : Word) : (s.setReg a v).mtr = s.mtr := rfl
@[simp] theorem State.setReg_lnk (s : State) (a : Nat) (v : Word) : (s.setReg a v).lnk = s.lnk := rfl
@[simp] theorem State.setReg_sram (s : State) (a : Nat) (v : Word) : (s.setReg a v).sram = s.sram := rfl
@[simp] theorem State.setReg_flash (s : State) (a : Nat) (v : Word) : (s.setReg a v).flash = s.flash := rfl

@[simp] theorem State.setFld_pending (s : State) (f : Fld) (v : Nat) : (s.setFld f v).pending = s.pending := rfl
@[simp] theorem State.setFld_shadow (s : State) (f : Fld) (v : Nat) : (s.setFld f v).shadow = s.shadow := rfl
@[simp] theorem State.setFld_free (s : State) (f : Fld) (v : Nat) : (s.setFld f v).free = s.free := rfl
@[simp] theorem State.setFld_clk (s : State) (f : Fld) (v : Nat) : (s.setFld f v).clk = s.clk := rfl
@[simp] theorem State.setFld_boot (s : State) (f : Fld) (v : Nat) : (s.setFld f v).boot = s.boot := rfl
@[simp] theorem State.setFld_bkd (s : State) (f : Fld) (v : Nat) : (s.setFld f v).bkd = s.bkd := rfl
@[simp] theorem State.setFld_icu (s : State) (f : Fld) (v : Nat) : (s.setFld f v).icu = s.icu := rfl
@[simp] theorem State.setFld_hst (s : State) (f : Fld) (v : Nat) : (s.setFld f v).hst = s.hst := rfl
@[simp] theorem State.setFld_wdg (s : State) (f : Fld) (v : Nat) : (s.setFld f v).wdg = s.wdg := rfl
@[simp] theorem State.setFld_jnl (s : State) (f : Fld) (v : Nat) : (s.setFld f v).jnl = s.jnl := rfl
@[simp] theorem State.setFld_pins (s : State) (f : Fld) (v : Nat) : (s.setFld f v).pins = s.pins := rfl
@[simp] theorem State.setFld_bnd (s : State) (f : Fld) (v : Nat) : (s.setFld f v).bnd = s.bnd := rfl
@[simp] theorem State.setFld_brk (s : State) (f : Fld) (v : Nat) : (s.setFld f v).brk = s.brk := rfl
@[simp] theorem State.setFld_seq (s : State) (f : Fld) (v : Nat) : (s.setFld f v).seq = s.seq := rfl
@[simp] theorem State.setFld_vcp (s : State) (f : Fld) (v : Nat) : (s.setFld f v).vcp = s.vcp := rfl
@[simp] theorem State.setFld_cpm (s : State) (f : Fld) (v : Nat) : (s.setFld f v).cpm = s.cpm := rfl
@[simp] theorem State.setFld_msr (s : State) (f : Fld) (v : Nat) : (s.setFld f v).msr = s.msr := rfl
@[simp] theorem State.setFld_thm (s : State) (f : Fld) (v : Nat) : (s.setFld f v).thm = s.thm := rfl
@[simp] theorem State.setFld_cel (s : State) (f : Fld) (v : Nat) : (s.setFld f v).cel = s.cel := rfl
@[simp] theorem State.setFld_mtr (s : State) (f : Fld) (v : Nat) : (s.setFld f v).mtr = s.mtr := rfl
@[simp] theorem State.setFld_lnk (s : State) (f : Fld) (v : Nat) : (s.setFld f v).lnk = s.lnk := rfl
@[simp] theorem State.setFld_sram (s : State) (f : Fld) (v : Nat) : (s.setFld f v).sram = s.sram := rfl
@[simp] theorem State.setFld_flash (s : State) (f : Fld) (v : Nat) : (s.setFld f v).flash = s.flash := rfl

@[simp] theorem State.setFlag_pending (s : State) (f : Fld) (b : Bool) : (s.setFlag f b).pending = s.pending := rfl
@[simp] theorem State.setFlag_shadow (s : State) (f : Fld) (b : Bool) : (s.setFlag f b).shadow = s.shadow := rfl
@[simp] theorem State.setFlag_free (s : State) (f : Fld) (b : Bool) : (s.setFlag f b).free = s.free := rfl
@[simp] theorem State.setFlag_clk (s : State) (f : Fld) (b : Bool) : (s.setFlag f b).clk = s.clk := rfl
@[simp] theorem State.setFlag_boot (s : State) (f : Fld) (b : Bool) : (s.setFlag f b).boot = s.boot := rfl
@[simp] theorem State.setFlag_bkd (s : State) (f : Fld) (b : Bool) : (s.setFlag f b).bkd = s.bkd := rfl
@[simp] theorem State.setFlag_icu (s : State) (f : Fld) (b : Bool) : (s.setFlag f b).icu = s.icu := rfl
@[simp] theorem State.setFlag_hst (s : State) (f : Fld) (b : Bool) : (s.setFlag f b).hst = s.hst := rfl
@[simp] theorem State.setFlag_wdg (s : State) (f : Fld) (b : Bool) : (s.setFlag f b).wdg = s.wdg := rfl
@[simp] theorem State.setFlag_jnl (s : State) (f : Fld) (b : Bool) : (s.setFlag f b).jnl = s.jnl := rfl
@[simp] theorem State.setFlag_pins (s : State) (f : Fld) (b : Bool) : (s.setFlag f b).pins = s.pins := rfl
@[simp] theorem State.setFlag_bnd (s : State) (f : Fld) (b : Bool) : (s.setFlag f b).bnd = s.bnd := rfl
@[simp] theorem State.setFlag_brk (s : State) (f : Fld) (b : Bool) : (s.setFlag f b).brk = s.brk := rfl
@[simp] theorem State.setFlag_seq (s : State) (f : Fld) (b : Bool) : (s.setFlag f b).seq = s.seq := rfl
@[simp] theorem State.setFlag_vcp (s : State) (f : Fld) (b : Bool) : (s.setFlag f b).vcp = s.vcp := rfl
@[simp] theorem State.setFlag_cpm (s : State) (f : Fld) (b : Bool) : (s.setFlag f b).cpm = s.cpm := rfl
@[simp] theorem State.setFlag_msr (s : State) (f : Fld) (b : Bool) : (s.setFlag f b).msr = s.msr := rfl
@[simp] theorem State.setFlag_thm (s : State) (f : Fld) (b : Bool) : (s.setFlag f b).thm = s.thm := rfl
@[simp] theorem State.setFlag_cel (s : State) (f : Fld) (b : Bool) : (s.setFlag f b).cel = s.cel := rfl
@[simp] theorem State.setFlag_mtr (s : State) (f : Fld) (b : Bool) : (s.setFlag f b).mtr = s.mtr := rfl
@[simp] theorem State.setFlag_lnk (s : State) (f : Fld) (b : Bool) : (s.setFlag f b).lnk = s.lnk := rfl
@[simp] theorem State.setFlag_sram (s : State) (f : Fld) (b : Bool) : (s.setFlag f b).sram = s.sram := rfl
@[simp] theorem State.setFlag_flash (s : State) (f : Fld) (b : Bool) : (s.setFlag f b).flash = s.flash := rfl

@[simp] theorem State.bump_pending (s : State) (f : Fld) : (s.bump f).pending = s.pending := by unfold State.bump; split <;> rfl
@[simp] theorem State.bump_shadow (s : State) (f : Fld) : (s.bump f).shadow = s.shadow := by unfold State.bump; split <;> rfl
@[simp] theorem State.bump_free (s : State) (f : Fld) : (s.bump f).free = s.free := by unfold State.bump; split <;> rfl
@[simp] theorem State.bump_clk (s : State) (f : Fld) : (s.bump f).clk = s.clk := by unfold State.bump; split <;> rfl
@[simp] theorem State.bump_boot (s : State) (f : Fld) : (s.bump f).boot = s.boot := by unfold State.bump; split <;> rfl
@[simp] theorem State.bump_bkd (s : State) (f : Fld) : (s.bump f).bkd = s.bkd := by unfold State.bump; split <;> rfl
@[simp] theorem State.bump_icu (s : State) (f : Fld) : (s.bump f).icu = s.icu := by unfold State.bump; split <;> rfl
@[simp] theorem State.bump_hst (s : State) (f : Fld) : (s.bump f).hst = s.hst := by unfold State.bump; split <;> rfl
@[simp] theorem State.bump_wdg (s : State) (f : Fld) : (s.bump f).wdg = s.wdg := by unfold State.bump; split <;> rfl
@[simp] theorem State.bump_jnl (s : State) (f : Fld) : (s.bump f).jnl = s.jnl := by unfold State.bump; split <;> rfl
@[simp] theorem State.bump_pins (s : State) (f : Fld) : (s.bump f).pins = s.pins := by unfold State.bump; split <;> rfl
@[simp] theorem State.bump_bnd (s : State) (f : Fld) : (s.bump f).bnd = s.bnd := by unfold State.bump; split <;> rfl
@[simp] theorem State.bump_brk (s : State) (f : Fld) : (s.bump f).brk = s.brk := by unfold State.bump; split <;> rfl
@[simp] theorem State.bump_seq (s : State) (f : Fld) : (s.bump f).seq = s.seq := by unfold State.bump; split <;> rfl
@[simp] theorem State.bump_vcp (s : State) (f : Fld) : (s.bump f).vcp = s.vcp := by unfold State.bump; split <;> rfl
@[simp] theorem State.bump_cpm (s : State) (f : Fld) : (s.bump f).cpm = s.cpm := by unfold State.bump; split <;> rfl
@[simp] theorem State.bump_msr (s : State) (f : Fld) : (s.bump f).msr = s.msr := by unfold State.bump; split <;> rfl
@[simp] theorem State.bump_thm (s : State) (f : Fld) : (s.bump f).thm = s.thm := by unfold State.bump; split <;> rfl
@[simp] theorem State.bump_cel (s : State) (f : Fld) : (s.bump f).cel = s.cel := by unfold State.bump; split <;> rfl
@[simp] theorem State.bump_mtr (s : State) (f : Fld) : (s.bump f).mtr = s.mtr := by unfold State.bump; split <;> rfl
@[simp] theorem State.bump_lnk (s : State) (f : Fld) : (s.bump f).lnk = s.lnk := by unfold State.bump; split <;> rfl
@[simp] theorem State.bump_sram (s : State) (f : Fld) : (s.bump f).sram = s.sram := by unfold State.bump; split <;> rfl
@[simp] theorem State.bump_flash (s : State) (f : Fld) : (s.bump f).flash = s.flash := by unfold State.bump; split <;> rfl

@[simp] theorem State.takeFree_pending (s : State) (w : Nat) : (s.takeFree w).2.pending = s.pending := rfl
@[simp] theorem State.takeFree_regs (s : State) (w : Nat) : (s.takeFree w).2.regs = s.regs := rfl
@[simp] theorem State.takeFree_shadow (s : State) (w : Nat) : (s.takeFree w).2.shadow = s.shadow := rfl
@[simp] theorem State.takeFree_clk (s : State) (w : Nat) : (s.takeFree w).2.clk = s.clk := rfl
@[simp] theorem State.takeFree_boot (s : State) (w : Nat) : (s.takeFree w).2.boot = s.boot := rfl
@[simp] theorem State.takeFree_bkd (s : State) (w : Nat) : (s.takeFree w).2.bkd = s.bkd := rfl
@[simp] theorem State.takeFree_icu (s : State) (w : Nat) : (s.takeFree w).2.icu = s.icu := rfl
@[simp] theorem State.takeFree_hst (s : State) (w : Nat) : (s.takeFree w).2.hst = s.hst := rfl
@[simp] theorem State.takeFree_wdg (s : State) (w : Nat) : (s.takeFree w).2.wdg = s.wdg := rfl
@[simp] theorem State.takeFree_jnl (s : State) (w : Nat) : (s.takeFree w).2.jnl = s.jnl := rfl
@[simp] theorem State.takeFree_pins (s : State) (w : Nat) : (s.takeFree w).2.pins = s.pins := rfl
@[simp] theorem State.takeFree_bnd (s : State) (w : Nat) : (s.takeFree w).2.bnd = s.bnd := rfl
@[simp] theorem State.takeFree_brk (s : State) (w : Nat) : (s.takeFree w).2.brk = s.brk := rfl
@[simp] theorem State.takeFree_seq (s : State) (w : Nat) : (s.takeFree w).2.seq = s.seq := rfl
@[simp] theorem State.takeFree_vcp (s : State) (w : Nat) : (s.takeFree w).2.vcp = s.vcp := rfl
@[simp] theorem State.takeFree_cpm (s : State) (w : Nat) : (s.takeFree w).2.cpm = s.cpm := rfl
@[simp] theorem State.takeFree_msr (s : State) (w : Nat) : (s.takeFree w).2.msr = s.msr := rfl
@[simp] theorem State.takeFree_thm (s : State) (w : Nat) : (s.takeFree w).2.thm = s.thm := rfl
@[simp] theorem State.takeFree_cel (s : State) (w : Nat) : (s.takeFree w).2.cel = s.cel := rfl
@[simp] theorem State.takeFree_mtr (s : State) (w : Nat) : (s.takeFree w).2.mtr = s.mtr := rfl
@[simp] theorem State.takeFree_lnk (s : State) (w : Nat) : (s.takeFree w).2.lnk = s.lnk := rfl
@[simp] theorem State.takeFree_sram (s : State) (w : Nat) : (s.takeFree w).2.sram = s.sram := rfl
@[simp] theorem State.takeFree_flash (s : State) (w : Nat) : (s.takeFree w).2.flash = s.flash := rfl

@[simp] theorem State.setBrick_pending (n : Nat) (b : Brick) (s : State) : (s.setBrick n b).pending = s.pending := rfl
@[simp] theorem State.setBrick_regs (n : Nat) (b : Brick) (s : State) : (s.setBrick n b).regs = s.regs := rfl
@[simp] theorem State.setBrick_shadow (n : Nat) (b : Brick) (s : State) : (s.setBrick n b).shadow = s.shadow := rfl
@[simp] theorem State.setBrick_free (n : Nat) (b : Brick) (s : State) : (s.setBrick n b).free = s.free := rfl
@[simp] theorem State.setBrick_clk (n : Nat) (b : Brick) (s : State) : (s.setBrick n b).clk = s.clk := rfl
@[simp] theorem State.setBrick_boot (n : Nat) (b : Brick) (s : State) : (s.setBrick n b).boot = s.boot := rfl
@[simp] theorem State.setBrick_bkd (n : Nat) (b : Brick) (s : State) : (s.setBrick n b).bkd = s.bkd := rfl
@[simp] theorem State.setBrick_icu (n : Nat) (b : Brick) (s : State) : (s.setBrick n b).icu = s.icu := rfl
@[simp] theorem State.setBrick_hst (n : Nat) (b : Brick) (s : State) : (s.setBrick n b).hst = s.hst := rfl
@[simp] theorem State.setBrick_wdg (n : Nat) (b : Brick) (s : State) : (s.setBrick n b).wdg = s.wdg := rfl
@[simp] theorem State.setBrick_jnl (n : Nat) (b : Brick) (s : State) : (s.setBrick n b).jnl = s.jnl := rfl
@[simp] theorem State.setBrick_pins (n : Nat) (b : Brick) (s : State) : (s.setBrick n b).pins = s.pins := rfl
@[simp] theorem State.setBrick_bnd (n : Nat) (b : Brick) (s : State) : (s.setBrick n b).bnd = s.bnd := rfl
@[simp] theorem State.setBrick_seq (n : Nat) (b : Brick) (s : State) : (s.setBrick n b).seq = s.seq := rfl
@[simp] theorem State.setBrick_vcp (n : Nat) (b : Brick) (s : State) : (s.setBrick n b).vcp = s.vcp := rfl
@[simp] theorem State.setBrick_cpm (n : Nat) (b : Brick) (s : State) : (s.setBrick n b).cpm = s.cpm := rfl
@[simp] theorem State.setBrick_msr (n : Nat) (b : Brick) (s : State) : (s.setBrick n b).msr = s.msr := rfl
@[simp] theorem State.setBrick_thm (n : Nat) (b : Brick) (s : State) : (s.setBrick n b).thm = s.thm := rfl
@[simp] theorem State.setBrick_cel (n : Nat) (b : Brick) (s : State) : (s.setBrick n b).cel = s.cel := rfl
@[simp] theorem State.setBrick_mtr (n : Nat) (b : Brick) (s : State) : (s.setBrick n b).mtr = s.mtr := rfl
@[simp] theorem State.setBrick_lnk (n : Nat) (b : Brick) (s : State) : (s.setBrick n b).lnk = s.lnk := rfl
@[simp] theorem State.setBrick_sram (n : Nat) (b : Brick) (s : State) : (s.setBrick n b).sram = s.sram := rfl
@[simp] theorem State.setBrick_flash (n : Nat) (b : Brick) (s : State) : (s.setBrick n b).flash = s.flash := rfl

@[simp] theorem State.updBrick_pending (n : Nat) (f : Brick → Brick) (s : State) : (s.updBrick n f).pending = s.pending := rfl
@[simp] theorem State.updBrick_regs (n : Nat) (f : Brick → Brick) (s : State) : (s.updBrick n f).regs = s.regs := rfl
@[simp] theorem State.updBrick_shadow (n : Nat) (f : Brick → Brick) (s : State) : (s.updBrick n f).shadow = s.shadow := rfl
@[simp] theorem State.updBrick_free (n : Nat) (f : Brick → Brick) (s : State) : (s.updBrick n f).free = s.free := rfl
@[simp] theorem State.updBrick_clk (n : Nat) (f : Brick → Brick) (s : State) : (s.updBrick n f).clk = s.clk := rfl
@[simp] theorem State.updBrick_boot (n : Nat) (f : Brick → Brick) (s : State) : (s.updBrick n f).boot = s.boot := rfl
@[simp] theorem State.updBrick_bkd (n : Nat) (f : Brick → Brick) (s : State) : (s.updBrick n f).bkd = s.bkd := rfl
@[simp] theorem State.updBrick_icu (n : Nat) (f : Brick → Brick) (s : State) : (s.updBrick n f).icu = s.icu := rfl
@[simp] theorem State.updBrick_hst (n : Nat) (f : Brick → Brick) (s : State) : (s.updBrick n f).hst = s.hst := rfl
@[simp] theorem State.updBrick_wdg (n : Nat) (f : Brick → Brick) (s : State) : (s.updBrick n f).wdg = s.wdg := rfl
@[simp] theorem State.updBrick_jnl (n : Nat) (f : Brick → Brick) (s : State) : (s.updBrick n f).jnl = s.jnl := rfl
@[simp] theorem State.updBrick_pins (n : Nat) (f : Brick → Brick) (s : State) : (s.updBrick n f).pins = s.pins := rfl
@[simp] theorem State.updBrick_bnd (n : Nat) (f : Brick → Brick) (s : State) : (s.updBrick n f).bnd = s.bnd := rfl
@[simp] theorem State.updBrick_seq (n : Nat) (f : Brick → Brick) (s : State) : (s.updBrick n f).seq = s.seq := rfl
@[simp] theorem State.updBrick_vcp (n : Nat) (f : Brick → Brick) (s : State) : (s.updBrick n f).vcp = s.vcp := rfl
@[simp] theorem State.updBrick_cpm (n : Nat) (f : Brick → Brick) (s : State) : (s.updBrick n f).cpm = s.cpm := rfl
@[simp] theorem State.updBrick_msr (n : Nat) (f : Brick → Brick) (s : State) : (s.updBrick n f).msr = s.msr := rfl
@[simp] theorem State.updBrick_thm (n : Nat) (f : Brick → Brick) (s : State) : (s.updBrick n f).thm = s.thm := rfl
@[simp] theorem State.updBrick_cel (n : Nat) (f : Brick → Brick) (s : State) : (s.updBrick n f).cel = s.cel := rfl
@[simp] theorem State.updBrick_mtr (n : Nat) (f : Brick → Brick) (s : State) : (s.updBrick n f).mtr = s.mtr := rfl
@[simp] theorem State.updBrick_lnk (n : Nat) (f : Brick → Brick) (s : State) : (s.updBrick n f).lnk = s.lnk := rfl
@[simp] theorem State.updBrick_sram (n : Nat) (f : Brick → Brick) (s : State) : (s.updBrick n f).sram = s.sram := rfl
@[simp] theorem State.updBrick_flash (n : Nat) (f : Brick → Brick) (s : State) : (s.updBrick n f).flash = s.flash := rfl

@[simp] theorem State.freeze_pending (p : Path) (a : Nat) (v : Word) (s : State) : (s.freeze p a v).pending = s.pending := rfl
@[simp] theorem State.freeze_regs (p : Path) (a : Nat) (v : Word) (s : State) : (s.freeze p a v).regs = s.regs := rfl
@[simp] theorem State.freeze_free (p : Path) (a : Nat) (v : Word) (s : State) : (s.freeze p a v).free = s.free := rfl
@[simp] theorem State.freeze_clk (p : Path) (a : Nat) (v : Word) (s : State) : (s.freeze p a v).clk = s.clk := rfl
@[simp] theorem State.freeze_boot (p : Path) (a : Nat) (v : Word) (s : State) : (s.freeze p a v).boot = s.boot := rfl
@[simp] theorem State.freeze_bkd (p : Path) (a : Nat) (v : Word) (s : State) : (s.freeze p a v).bkd = s.bkd := rfl
@[simp] theorem State.freeze_icu (p : Path) (a : Nat) (v : Word) (s : State) : (s.freeze p a v).icu = s.icu := rfl
@[simp] theorem State.freeze_hst (p : Path) (a : Nat) (v : Word) (s : State) : (s.freeze p a v).hst = s.hst := rfl
@[simp] theorem State.freeze_wdg (p : Path) (a : Nat) (v : Word) (s : State) : (s.freeze p a v).wdg = s.wdg := rfl
@[simp] theorem State.freeze_jnl (p : Path) (a : Nat) (v : Word) (s : State) : (s.freeze p a v).jnl = s.jnl := rfl
@[simp] theorem State.freeze_pins (p : Path) (a : Nat) (v : Word) (s : State) : (s.freeze p a v).pins = s.pins := rfl
@[simp] theorem State.freeze_bnd (p : Path) (a : Nat) (v : Word) (s : State) : (s.freeze p a v).bnd = s.bnd := rfl
@[simp] theorem State.freeze_brk (p : Path) (a : Nat) (v : Word) (s : State) : (s.freeze p a v).brk = s.brk := rfl
@[simp] theorem State.freeze_seq (p : Path) (a : Nat) (v : Word) (s : State) : (s.freeze p a v).seq = s.seq := rfl
@[simp] theorem State.freeze_vcp (p : Path) (a : Nat) (v : Word) (s : State) : (s.freeze p a v).vcp = s.vcp := rfl
@[simp] theorem State.freeze_cpm (p : Path) (a : Nat) (v : Word) (s : State) : (s.freeze p a v).cpm = s.cpm := rfl
@[simp] theorem State.freeze_msr (p : Path) (a : Nat) (v : Word) (s : State) : (s.freeze p a v).msr = s.msr := rfl
@[simp] theorem State.freeze_thm (p : Path) (a : Nat) (v : Word) (s : State) : (s.freeze p a v).thm = s.thm := rfl
@[simp] theorem State.freeze_cel (p : Path) (a : Nat) (v : Word) (s : State) : (s.freeze p a v).cel = s.cel := rfl
@[simp] theorem State.freeze_mtr (p : Path) (a : Nat) (v : Word) (s : State) : (s.freeze p a v).mtr = s.mtr := rfl
@[simp] theorem State.freeze_lnk (p : Path) (a : Nat) (v : Word) (s : State) : (s.freeze p a v).lnk = s.lnk := rfl
@[simp] theorem State.freeze_sram (p : Path) (a : Nat) (v : Word) (s : State) : (s.freeze p a v).sram = s.sram := rfl
@[simp] theorem State.freeze_flash (p : Path) (a : Nat) (v : Word) (s : State) : (s.freeze p a v).flash = s.flash := rfl

@[simp] theorem State.flashWrite_pending (a : Nat) (l : List Byte) (s : State) : (s.flashWrite a l).pending = s.pending := rfl
@[simp] theorem State.flashWrite_regs (a : Nat) (l : List Byte) (s : State) : (s.flashWrite a l).regs = s.regs := rfl
@[simp] theorem State.flashWrite_shadow (a : Nat) (l : List Byte) (s : State) : (s.flashWrite a l).shadow = s.shadow := rfl
@[simp] theorem State.flashWrite_free (a : Nat) (l : List Byte) (s : State) : (s.flashWrite a l).free = s.free := rfl
@[simp] theorem State.flashWrite_clk (a : Nat) (l : List Byte) (s : State) : (s.flashWrite a l).clk = s.clk := rfl
@[simp] theorem State.flashWrite_boot (a : Nat) (l : List Byte) (s : State) : (s.flashWrite a l).boot = s.boot := rfl
@[simp] theorem State.flashWrite_bkd (a : Nat) (l : List Byte) (s : State) : (s.flashWrite a l).bkd = s.bkd := rfl
@[simp] theorem State.flashWrite_icu (a : Nat) (l : List Byte) (s : State) : (s.flashWrite a l).icu = s.icu := rfl
@[simp] theorem State.flashWrite_hst (a : Nat) (l : List Byte) (s : State) : (s.flashWrite a l).hst = s.hst := rfl
@[simp] theorem State.flashWrite_wdg (a : Nat) (l : List Byte) (s : State) : (s.flashWrite a l).wdg = s.wdg := rfl
@[simp] theorem State.flashWrite_jnl (a : Nat) (l : List Byte) (s : State) : (s.flashWrite a l).jnl = s.jnl := rfl
@[simp] theorem State.flashWrite_pins (a : Nat) (l : List Byte) (s : State) : (s.flashWrite a l).pins = s.pins := rfl
@[simp] theorem State.flashWrite_bnd (a : Nat) (l : List Byte) (s : State) : (s.flashWrite a l).bnd = s.bnd := rfl
@[simp] theorem State.flashWrite_brk (a : Nat) (l : List Byte) (s : State) : (s.flashWrite a l).brk = s.brk := rfl
@[simp] theorem State.flashWrite_seq (a : Nat) (l : List Byte) (s : State) : (s.flashWrite a l).seq = s.seq := rfl
@[simp] theorem State.flashWrite_vcp (a : Nat) (l : List Byte) (s : State) : (s.flashWrite a l).vcp = s.vcp := rfl
@[simp] theorem State.flashWrite_cpm (a : Nat) (l : List Byte) (s : State) : (s.flashWrite a l).cpm = s.cpm := rfl
@[simp] theorem State.flashWrite_msr (a : Nat) (l : List Byte) (s : State) : (s.flashWrite a l).msr = s.msr := rfl
@[simp] theorem State.flashWrite_thm (a : Nat) (l : List Byte) (s : State) : (s.flashWrite a l).thm = s.thm := rfl
@[simp] theorem State.flashWrite_cel (a : Nat) (l : List Byte) (s : State) : (s.flashWrite a l).cel = s.cel := rfl
@[simp] theorem State.flashWrite_mtr (a : Nat) (l : List Byte) (s : State) : (s.flashWrite a l).mtr = s.mtr := rfl
@[simp] theorem State.flashWrite_lnk (a : Nat) (l : List Byte) (s : State) : (s.flashWrite a l).lnk = s.lnk := rfl
@[simp] theorem State.flashWrite_sram (a : Nat) (l : List Byte) (s : State) : (s.flashWrite a l).sram = s.sram := rfl

@[simp] theorem State.flashErase_pending (a e : Nat) (s : State) : (s.flashErase a e).pending = s.pending := rfl
@[simp] theorem State.flashErase_regs (a e : Nat) (s : State) : (s.flashErase a e).regs = s.regs := rfl
@[simp] theorem State.flashErase_shadow (a e : Nat) (s : State) : (s.flashErase a e).shadow = s.shadow := rfl
@[simp] theorem State.flashErase_free (a e : Nat) (s : State) : (s.flashErase a e).free = s.free := rfl
@[simp] theorem State.flashErase_clk (a e : Nat) (s : State) : (s.flashErase a e).clk = s.clk := rfl
@[simp] theorem State.flashErase_boot (a e : Nat) (s : State) : (s.flashErase a e).boot = s.boot := rfl
@[simp] theorem State.flashErase_bkd (a e : Nat) (s : State) : (s.flashErase a e).bkd = s.bkd := rfl
@[simp] theorem State.flashErase_icu (a e : Nat) (s : State) : (s.flashErase a e).icu = s.icu := rfl
@[simp] theorem State.flashErase_hst (a e : Nat) (s : State) : (s.flashErase a e).hst = s.hst := rfl
@[simp] theorem State.flashErase_wdg (a e : Nat) (s : State) : (s.flashErase a e).wdg = s.wdg := rfl
@[simp] theorem State.flashErase_jnl (a e : Nat) (s : State) : (s.flashErase a e).jnl = s.jnl := rfl
@[simp] theorem State.flashErase_pins (a e : Nat) (s : State) : (s.flashErase a e).pins = s.pins := rfl
@[simp] theorem State.flashErase_bnd (a e : Nat) (s : State) : (s.flashErase a e).bnd = s.bnd := rfl
@[simp] theorem State.flashErase_brk (a e : Nat) (s : State) : (s.flashErase a e).brk = s.brk := rfl
@[simp] theorem State.flashErase_seq (a e : Nat) (s : State) : (s.flashErase a e).seq = s.seq := rfl
@[simp] theorem State.flashErase_vcp (a e : Nat) (s : State) : (s.flashErase a e).vcp = s.vcp := rfl
@[simp] theorem State.flashErase_cpm (a e : Nat) (s : State) : (s.flashErase a e).cpm = s.cpm := rfl
@[simp] theorem State.flashErase_msr (a e : Nat) (s : State) : (s.flashErase a e).msr = s.msr := rfl
@[simp] theorem State.flashErase_thm (a e : Nat) (s : State) : (s.flashErase a e).thm = s.thm := rfl
@[simp] theorem State.flashErase_cel (a e : Nat) (s : State) : (s.flashErase a e).cel = s.cel := rfl
@[simp] theorem State.flashErase_mtr (a e : Nat) (s : State) : (s.flashErase a e).mtr = s.mtr := rfl
@[simp] theorem State.flashErase_lnk (a e : Nat) (s : State) : (s.flashErase a e).lnk = s.lnk := rfl
@[simp] theorem State.flashErase_sram (a e : Nat) (s : State) : (s.flashErase a e).sram = s.sram := rfl

@[simp] theorem State.sramWrite_pending (a : Nat) (l : List Byte) (s : State) : (s.sramWrite a l).pending = s.pending := rfl
@[simp] theorem State.sramWrite_regs (a : Nat) (l : List Byte) (s : State) : (s.sramWrite a l).regs = s.regs := rfl
@[simp] theorem State.sramWrite_shadow (a : Nat) (l : List Byte) (s : State) : (s.sramWrite a l).shadow = s.shadow := rfl
@[simp] theorem State.sramWrite_free (a : Nat) (l : List Byte) (s : State) : (s.sramWrite a l).free = s.free := rfl
@[simp] theorem State.sramWrite_clk (a : Nat) (l : List Byte) (s : State) : (s.sramWrite a l).clk = s.clk := rfl
@[simp] theorem State.sramWrite_boot (a : Nat) (l : List Byte) (s : State) : (s.sramWrite a l).boot = s.boot := rfl
@[simp] theorem State.sramWrite_bkd (a : Nat) (l : List Byte) (s : State) : (s.sramWrite a l).bkd = s.bkd := rfl
@[simp] theorem State.sramWrite_icu (a : Nat) (l : List Byte) (s : State) : (s.sramWrite a l).icu = s.icu := rfl
@[simp] theorem State.sramWrite_hst (a : Nat) (l : List Byte) (s : State) : (s.sramWrite a l).hst = s.hst := rfl
@[simp] theorem State.sramWrite_wdg (a : Nat) (l : List Byte) (s : State) : (s.sramWrite a l).wdg = s.wdg := rfl
@[simp] theorem State.sramWrite_jnl (a : Nat) (l : List Byte) (s : State) : (s.sramWrite a l).jnl = s.jnl := rfl
@[simp] theorem State.sramWrite_pins (a : Nat) (l : List Byte) (s : State) : (s.sramWrite a l).pins = s.pins := rfl
@[simp] theorem State.sramWrite_bnd (a : Nat) (l : List Byte) (s : State) : (s.sramWrite a l).bnd = s.bnd := rfl
@[simp] theorem State.sramWrite_brk (a : Nat) (l : List Byte) (s : State) : (s.sramWrite a l).brk = s.brk := rfl
@[simp] theorem State.sramWrite_seq (a : Nat) (l : List Byte) (s : State) : (s.sramWrite a l).seq = s.seq := rfl
@[simp] theorem State.sramWrite_vcp (a : Nat) (l : List Byte) (s : State) : (s.sramWrite a l).vcp = s.vcp := rfl
@[simp] theorem State.sramWrite_cpm (a : Nat) (l : List Byte) (s : State) : (s.sramWrite a l).cpm = s.cpm := rfl
@[simp] theorem State.sramWrite_msr (a : Nat) (l : List Byte) (s : State) : (s.sramWrite a l).msr = s.msr := rfl
@[simp] theorem State.sramWrite_thm (a : Nat) (l : List Byte) (s : State) : (s.sramWrite a l).thm = s.thm := rfl
@[simp] theorem State.sramWrite_cel (a : Nat) (l : List Byte) (s : State) : (s.sramWrite a l).cel = s.cel := rfl
@[simp] theorem State.sramWrite_mtr (a : Nat) (l : List Byte) (s : State) : (s.sramWrite a l).mtr = s.mtr := rfl
@[simp] theorem State.sramWrite_lnk (a : Nat) (l : List Byte) (s : State) : (s.sramWrite a l).lnk = s.lnk := rfl
@[simp] theorem State.sramWrite_flash (a : Nat) (l : List Byte) (s : State) : (s.sramWrite a l).flash = s.flash := rfl

end Sys2Proof.Machine
end

