-- ==== Sys2Proof/Laws/Calm.lean ====
section
/-! SUPPORT. What raising a source, sending a frame and writing a sheet leave alone: every hidden part of the state but the
interrupt controller's, the link's and the journal's, and every register but the loud ones. One lemma per operation. -/
namespace Sys2Proof.Machine

set_option linter.all false

/-- From `s` to `t` nothing changed but the loud registers and the interrupt controller's, the link's and the journal's own
state. -/
structure Calm (s t : State) : Prop where
  pending : t.pending = s.pending
  shadow : t.shadow = s.shadow
  clk : t.clk = s.clk
  boot : t.boot = s.boot
  bkd : t.bkd = s.bkd
  hst : t.hst = s.hst
  wdg : t.wdg = s.wdg
  pins : t.pins = s.pins
  bnd : t.bnd = s.bnd
  brk : t.brk = s.brk
  seq : t.seq = s.seq
  vcp : t.vcp = s.vcp
  cpm : t.cpm = s.cpm
  msr : t.msr = s.msr
  thm : t.thm = s.thm
  cel : t.cel = s.cel
  mtr : t.mtr = s.mtr
  sram : t.sram = s.sram
  flash : t.flash = s.flash
  reg : ∀ a, loud a = false → t.reg a = s.reg a

theorem Calm.refl (s : State) : Calm s s := by constructor <;> intros <;> rfl

theorem Calm.trans {s t u : State} (h : Calm s t) (k : Calm t u) : Calm s u :=
  ⟨k.pending.trans h.pending, k.shadow.trans h.shadow, k.clk.trans h.clk, k.boot.trans h.boot, k.bkd.trans h.bkd,
    k.hst.trans h.hst, k.wdg.trans h.wdg, k.pins.trans h.pins, k.bnd.trans h.bnd, k.brk.trans h.brk, k.seq.trans h.seq,
    k.vcp.trans h.vcp, k.cpm.trans h.cpm, k.msr.trans h.msr, k.thm.trans h.thm, k.cel.trans h.cel, k.mtr.trans h.mtr,
    k.sram.trans h.sram, k.flash.trans h.flash, fun a ha => (k.reg a ha).trans (h.reg a ha)⟩

/-- A field of a register that is not loud reads as before. -/
theorem Calm.fld {s t : State} (h : Calm s t) (f : Fld) (hf : loud f.reg = false) : t.fld f = s.fld f := by
  simp only [State.fld, h.reg f.reg hf]

theorem Calm.flag {s t : State} (h : Calm s t) (f : Fld) (hf : loud f.reg = false) : t.flag f = s.flag f := by
  simp only [State.flag, h.fld f hf]

theorem Calm.sfld {s t : State} (h : Calm s t) (f : Fld) (hf : loud f.reg = false) : t.sfld f = s.sfld f := by
  simp only [State.sfld, h.fld f hf]

theorem Calm.active {s t : State} (h : Calm s t) : t.active = s.active := by simp only [State.active, h.boot]
theorem Calm.now {s t : State} (h : Calm s t) : t.now = s.now := by simp only [State.now, h.clk]
theorem Calm.tile {s t : State} (h : Calm s t) (a b : Nat) : t.tile a b = s.tile a b := by simp only [State.tile, h.bnd]
theorem Calm.portUp {s t : State} (h : Calm s t) (p : Nat) : t.portUp p = s.portUp p := by
  simp only [State.portUp, State.portOn, h.fld LNK_STAT_EN (by decide), h.fld LNK_STAT_UP (by decide)]

/-- An update of the interrupt controller's, the link's or the journal's own state, or of the free counter. -/
theorem Calm.icu {o s : State} (h : Calm o s) (i : Icu) : Calm o { s with icu := i } := ⟨h.1, h.2, h.3, h.4, h.5, h.6, h.7, h.8,
  h.9, h.10, h.11, h.12, h.13, h.14, h.15, h.16, h.17, h.18, h.19, h.20⟩
theorem Calm.lnk {o s : State} (h : Calm o s) (i : Lnk) : Calm o { s with lnk := i } := ⟨h.1, h.2, h.3, h.4, h.5, h.6, h.7, h.8,
  h.9, h.10, h.11, h.12, h.13, h.14, h.15, h.16, h.17, h.18, h.19, h.20⟩
theorem Calm.jnl {o s : State} (h : Calm o s) (i : Jnl) : Calm o { s with jnl := i } := ⟨h.1, h.2, h.3, h.4, h.5, h.6, h.7, h.8,
  h.9, h.10, h.11, h.12, h.13, h.14, h.15, h.16, h.17, h.18, h.19, h.20⟩
theorem Calm.free {o s : State} (h : Calm o s) (i : Nat) : Calm o { s with free := i } := ⟨h.1, h.2, h.3, h.4, h.5, h.6, h.7, h.8,
  h.9, h.10, h.11, h.12, h.13, h.14, h.15, h.16, h.17, h.18, h.19, h.20⟩

theorem State.setReg_calm {σ : State} (s : State) (a : Nat) (v : Word) (ha : loud a = true) (h : Calm σ s) :
    Calm σ (s.setReg a v) :=
  ⟨h.1, h.2, h.3, h.4, h.5, h.6, h.7, h.8, h.9, h.10, h.11, h.12, h.13, h.14, h.15, h.16, h.17, h.18, h.19, fun b hb =>
    (State.reg_setReg_other s a b v (fun e => by rw [e, ha] at hb; cases hb)).trans (h.reg b hb)⟩

theorem State.setFld_calm {σ : State} (s : State) (f : Fld) (v : Nat) (hf : loud f.reg = true) (h : Calm σ s) :
    Calm σ (s.setFld f v) := State.setReg_calm s f.reg _ hf h

theorem State.bump_calm {σ : State} (f : Fld) (s : State) (hf : loud f.reg = true) (h : Calm σ s) : Calm σ (s.bump f) := by
  unfold State.bump
  split
  · exact State.setFld_calm s f _ hf h
  · exact h

theorem onlyIf_calm {σ : State} {b : Bool} {f : State → State} {s : State} (hf : ∀ u, Calm σ u → Calm σ (f u))
    (h : Calm σ s) : Calm σ (onlyIf b f s) := by
  cases b with
  | false => exact h
  | true => exact hf s h

theorem forEach_calm {σ : State} {α : Type} {l : List α} {f : α → State → State} {s : State}
    (hf : ∀ a u, Calm σ u → Calm σ (f a u)) (h : Calm σ s) : Calm σ (forEach l f s) := by
  unfold forEach
  induction l generalizing s with
  | nil => exact h
  | cons a r ih => exact ih (hf a s h)

theorem loud_src (src : Nat) (h : src < 1024) : loud (ICU_SRC src) = true := by
  have : isArr (ICU_SRC 0) 4 1024 (ICU_SRC src) = true := by
    unfold isArr ICU_SRC
    simp only [Bool.and_eq_true, decide_eq_true_eq]
    omega
  simp [loud, this]

theorem State.takeFree_calm {σ : State} (s : State) (w : Nat) (h : Calm σ s) : Calm σ (s.takeFree w).2 := h.free _

theorem State.put_calm {σ : State} (port type dest src hops tag : Nat) (both : Bool) (payload : List Byte) (s : State)
    (h : Calm σ s) : Calm σ (s.put port type dest src hops tag both payload) := by
  unfold State.put
  split
  · exact h.lnk _
  · exact h

theorem State.emit_calm {σ : State} (port type dest tag : Nat) (both : Bool) (payload : List Byte) (s : State)
    (h : Calm σ s) : Calm σ (s.emit port type dest tag both payload) := State.put_calm _ _ _ _ _ _ _ _ s h

/-- A frame that goes on changes the link's own state alone. -/
theorem State.forward_calm {σ : State} (f : FrameHead) (type src : Nat) (both : Bool) (payload : List Byte) (s : State)
    (h : Calm σ s) : Calm σ (s.forward f type src both payload) := by
  unfold State.forward
  split
  · exact State.put_calm _ _ _ _ _ _ _ _ _ h
  · exact h

theorem State.relay_calm {σ : State} (f : FrameHead) (type src : Nat) (both : Bool) (payload : List Byte) (s : State)
    (h : Calm σ s) : Calm σ (s.relay f type src both payload) := by
  unfold State.relay
  have k := State.forward_calm f type src both payload s h
  dsimp only
  split
  · exact forEach_calm (fun _ _ hu => State.put_calm _ _ _ _ _ _ _ _ _ hu) k
  · exact k

theorem State.passOn_calm {σ : State} (f : FrameHead) (type src : Nat) (both : Bool) (payload : List Byte) (s : State)
    (h : Calm σ s) : Calm σ (s.passOn f type src both payload) := by
  unfold State.passOn
  split
  · exact State.relay_calm f type src both payload s h
  · exact h

theorem State.sendTo_calm {σ : State} (type target tag : Nat) (payload : List Byte) (s : State) (h : Calm σ s) :
    Calm σ (s.sendTo type target tag payload) := State.emit_calm _ _ _ _ _ _ s h

theorem State.send_calm {σ : State} (type mode : Nat) (both : Bool) (payload : List Byte) (s : State) (h : Calm σ s) :
    Calm σ (s.send type mode both payload) := by
  have cast (ring : Nat) (u : State) (p : Nat → List Nat) (hu : Calm σ u) : Calm σ (forEach (u.castPorts ring both)
      (fun p w => w.emit p type (mode * 4096) (s.eventNo type) both payload) u) :=
    forEach_calm (fun a w hw => State.emit_calm _ _ _ _ _ _ w hw) hu
  have hl := h.lnk { s.lnk with events := putPair s.lnk.events type ((s.eventNo type + 1) % 256) }
  unfold State.send
  dsimp only
  split
  · exact cast 0 _ (fun _ => []) hl
  · split
    · exact cast 1 _ (fun _ => []) (cast 0 _ (fun _ => []) hl)
    · exact cast 0 _ (fun _ => []) hl
  · exact cast 1 _ (fun _ => []) hl
  · split
    · exact h
    · exact State.emit_calm _ _ _ _ _ _ _ hl
  · split
    · exact h
    · split
      · exact State.emit_calm _ _ _ _ _ _ _ hl
      · exact State.emit_calm _ _ _ _ _ _ _ hl
  · exact h

theorem State.fwdPush_calm {σ : State} (address source : Nat) (stamp : Time) (s : State) (h : Calm σ s) :
    Calm σ (s.fwdPush address source stamp).1 := by
  unfold State.fwdPush
  split
  · exact h.lnk _
  · exact State.bump_calm _ _ (by decide) h

theorem State.fwdPush_source (address source k : Nat) (stamp : Time) (s : State)
    (h : (s.fwdPush address source stamp).2 = some k) : k < 1024 := by
  unfold State.fwdPush at h
  split at h
  · injection h with h
    omega
  · dsimp only at h
    split at h
    · injection h with h
      omega
    · cases h

theorem State.driveInt_calm {σ : State} (s : State) (h : Calm σ s) : Calm σ s.driveInt := by
  unfold State.driveInt
  dsimp only
  split
  · split
    · exact h
    · exact h.icu _
  · split
    · exact h.icu _
    · exact h

theorem State.clearPend_calm {σ : State} (s : State) (src : Nat) (hs : src < 1024) (h : Calm σ s) : Calm σ (s.clearPend src) := by
  unfold State.clearPend State.unwait State.dropEntry
  exact ((State.setFld_calm _ _ _ (loud_src src hs) (State.setFld_calm _ _ _ (loud_src src hs) h)).icu _ |>.icu _).icu _

theorem State.deliver_calm {σ : State} (s : State) (src : Nat) (hs : src < 1024) (h : Calm σ s) : Calm σ (s.deliver src).1 := by
  have hu : Calm σ (s.unwait src) := h.icu _
  have hc := State.clearPend_calm s src hs h
  unfold State.deliver
  dsimp only
  split
  · exact hc
  · exact hc
  · exact hc
  · split
    · exact hu
    · split
      · exact hu.icu _
      · split
        · exact hu.icu _
        · exact State.setFld_calm _ _ _ (by decide) (hu.icu _)
  · split
    · exact hu.icu _
    · split
      · exact State.fwdPush_calm _ _ _ _ hc
      · split
        · exact State.clearPend_calm _ src hs (State.send_calm _ _ _ _ _ h)
        · exact hu.icu _

theorem State.deliver_source (s : State) (src k : Nat) (h : (s.deliver src).2 = some k) : k < 1024 := by
  unfold State.deliver at h
  dsimp only at h
  repeat' split at h
  all_goals first
    | (cases h; done)
    | exact State.fwdPush_source _ _ _ _ _ h
    | (injection h with h; omega)

theorem State.offer_calm {σ : State} (s : State) (src : Nat) (hs : src < 1024) (h : Calm σ s) : Calm σ (s.offer src).1 := by
  have hu : Calm σ (s.unwait src) := h.icu _
  unfold State.offer
  dsimp only
  split
  · split
    · exact hu.icu _
    · split
      · exact State.deliver_calm s src hs h
      · exact State.deliver_calm _ src hs (h.icu _)
  · exact hu

theorem State.offer_source (s : State) (src k : Nat) (h : (s.offer src).2 = some k) : k < 1024 := by
  unfold State.offer at h
  dsimp only at h
  split at h
  · split at h
    · cases h
    · exact State.deliver_source _ src k h
  · cases h

theorem State.markPend_calm {σ : State} (s : State) (src : Nat) (stamp : Time) (hs : src < 1024) (h : Calm σ s) :
    Calm σ (s.markPend src stamp) := by
  unfold State.markPend
  split
  · exact State.setFld_calm _ _ _ (loud_src src hs) h
  · exact (State.setFld_calm _ _ _ (loud_src src hs) h).icu _

theorem State.raiseOnce_calm {σ : State} (s : State) (src : Nat) (stamp : Time) (hs : src < 1024) (h : Calm σ s) :
    Calm σ (s.raiseOnce src stamp).1 := by
  unfold State.raiseOnce
  dsimp only
  split
  · exact State.markPend_calm s src stamp hs h
  · exact State.offer_calm _ src hs (State.markPend_calm s src stamp hs h)

theorem State.raiseOnce_source (s : State) (src k : Nat) (stamp : Time) (h : (s.raiseOnce src stamp).2 = some k) : k < 1024 := by
  unfold State.raiseOnce at h
  dsimp only at h
  split at h
  · cases h
  · exact State.offer_source _ src k h

theorem State.chain_calm {σ : State} (n : Nat) (r : State × Option Nat) (hr : ∀ k, r.2 = some k → k < 1024) (h : Calm σ r.1) :
    Calm σ (State.chain n r) := by
  induction n generalizing r with
  | zero =>
    unfold State.chain
    split
    · exact h
    · next k hk => exact State.markPend_calm _ k _ (hr k hk) h
  | succ n ih =>
    unfold State.chain
    split
    · exact h
    · next k hk => exact ih _ (fun m hm => State.raiseOnce_source _ _ _ _ hm) (State.raiseOnce_calm r.1 k r.1.now (hr k hk) h)

theorem State.afterFull_calm {σ : State} (r : State × Option Nat) (hr : ∀ k, r.2 = some k → k < 1024) (h : Calm σ r.1) :
    Calm σ (State.afterFull r) := State.chain_calm 400 r hr h

theorem State.raiseAt_calm {σ : State} (src : Nat) (stamp : Time) (s : State) (hs : src < 1024) (h : Calm σ s) :
    Calm σ (s.raiseAt src stamp) := by
  unfold State.raiseAt
  split
  · exact State.driveInt_calm _ (State.afterFull_calm _ (fun k hk => State.raiseOnce_source _ _ _ _ hk)
      (State.raiseOnce_calm s src stamp hs h))
  · exact h

/-- Raising a source leaves alone all but the loud. -/
theorem State.raise_calm {σ : State} (src : Nat) (s : State) (hs : src < 1024) (h : Calm σ s) : Calm σ (s.raise src) :=
  State.raiseAt_calm src s.now s hs h

/-- Setting a flag and raising its source changes no more than setting the flag and the loud. -/
theorem State.flagRaise_calm (f : Fld) (src : Nat) (s : State) (hs : src < 1024) : Calm (s.setFld f 1) (s.flagRaise f src) :=
  State.raise_calm src _ hs (Calm.refl _)

theorem State.queueSheet_calm {σ : State} (type : Nat) (payload : List Byte) (s : State) (h : Calm σ s) :
    Calm σ (s.queueSheet type payload) := by
  unfold State.queueSheet
  dsimp only
  split
  · generalize hu : ({ s with jnl := _ } : State) = u
    have hj : Calm σ u := hu ▸ h.jnl _
    refine onlyIf_calm (fun v hv => State.raise_calm 617 v (by decide) hv) hj
  · unfold State.flagRaise
    exact State.raise_calm 615 _ (by decide) (State.setFld_calm _ _ _ (by decide) ((State.bump_calm _ _ (by decide) h).jnl _))

/-- Noting a fault for the retry changes the journal's own state alone. -/
theorem State.noteFault_calm {σ : State} (type : Nat) (s : State) (h : Calm σ s) : Calm σ (s.noteFault type) := by
  unfold State.noteFault
  split
  · exact h.jnl _
  · exact h

/-- Making a sheet leaves alone all but the loud. -/
theorem State.sheet_calm {σ : State} (type : Nat) (payload : List Byte) (s : State) (h : Calm σ s) :
    Calm σ (s.sheet type payload) := by
  unfold State.sheet
  dsimp only
  split
  · exact State.raise_calm 7 _ (by decide) (State.setReg_calm _ _ _ (by decide)
      (State.setFld_calm _ _ _ (by decide) (State.queueSheet_calm type payload _ (State.noteFault_calm type s h))))
  · exact State.queueSheet_calm type payload _ (State.noteFault_calm type s h)

/-- A bus error is recorded in GLB_STAT and its two registers, and nowhere else but in the loud. -/
theorem State.busErr_reg (p : Path) (kind : Nat) (a : Word) (s : State) (b : Nat) (h : loud b = false)
    (h1 : b ≠ GLB_STAT) (h2 : b ≠ GLB_BUS_ERR_INFO) (h3 : b ≠ GLB_BUS_ERR_ADDR) : (s.busErr p kind a).reg b = s.reg b := by
  unfold State.busErr
  dsimp only
  rw [(State.flagRaise_calm _ 0 _ (by decide)).reg b h, State.reg_setFld_other _ _ _ _ h1]
  split
  · rfl
  · rw [State.reg_setReg_other _ _ _ _ h3, State.reg_setReg_other _ _ _ _ h2]

end Sys2Proof.Machine
end

