-- ==== Sys2Proof/Laws/KeepsOps.lean ====
section
/-! SUPPORT. What the shared operations keep: the queue of commands, and the canonical form of the registers, the flash
and the SRAM. One lemma per operation; a later proof cites it and does not unfold the operation. -/
namespace Sys2Proof.Machine

set_option linter.all false

/-- What no operation breaks: the queue of commands stands; a state whose lists are in canonical form goes to one whose lists
are; and no queue or FIFO within its depth leaves it. -/
structure Keeps (s t : State) : Prop where
  pending : t.pending = s.pending
  regs : Registers.wf s.regs = true → Registers.wf t.regs = true
  flash : Memory.wf flashBlank s.flash = true → Memory.wf flashBlank t.flash = true
  sram : Memory.wf sramBlank s.sram = true → Memory.wf sramBlank t.sram = true
  brk : s.brk.length = 16 → t.brk.length = 16
  host : s.icu.queue.length ≤ 64 → t.icu.queue.length ≤ 64
  sheets : s.jnl.queue.length ≤ 32 → t.jnl.queue.length ≤ 32
  slots : (s.jnl.head < 94208 ∧ ∀ k ∈ s.jnl.writing, k < 94208) → (t.jnl.head < 94208 ∧ ∀ k ∈ t.jnl.writing, k < 94208)
  fwd : s.lnk.fwd.length ≤ 64 → t.lnk.fwd.length ≤ 64
  fifo : s.bkd.fifo.length ≤ 16 → t.bkd.fifo.length ≤ 16

theorem Keeps.refl (s : State) : Keeps s s := ⟨rfl, id, id, id, id, id, id, id, id, id⟩

theorem Keeps.trans {s t u : State} (h : Keeps s t) (k : Keeps t u) : Keeps s u :=
  ⟨k.pending.trans h.pending, fun x => k.regs (h.regs x), fun x => k.flash (h.flash x), fun x => k.sram (h.sram x),
    fun x => k.brk (h.brk x), fun x => k.host (h.host x), fun x => k.sheets (h.sheets x), fun x => k.slots (h.slots x),
    fun x => k.fwd (h.fwd x), fun x => k.fifo (h.fifo x)⟩

/-- An update of any other part of the state. -/
theorem Keeps.with {o t : State} (h : Keeps o t) {sh fr clk boot bkd icu hst wdg jnl pins bnd seq vcp cpm msr thm cel mtr lnk}
    (h1 : o.icu.queue.length ≤ 64 → icu.queue.length ≤ 64) (h2 : o.jnl.queue.length ≤ 32 → jnl.queue.length ≤ 32)
    (h3 : (o.jnl.head < 94208 ∧ ∀ k ∈ o.jnl.writing, k < 94208) → (jnl.head < 94208 ∧ ∀ k ∈ jnl.writing, k < 94208))
    (h4 : o.lnk.fwd.length ≤ 64 → lnk.fwd.length ≤ 64) (h5 : o.bkd.fifo.length ≤ 16 → bkd.fifo.length ≤ 16) :
    Keeps o (State.mk t.pending t.regs sh fr clk boot bkd icu hst wdg jnl pins bnd t.brk seq vcp cpm msr thm cel mtr lnk
      t.sram t.flash) :=
  ⟨h.pending, h.regs, h.flash, h.sram, h.brk, h1, h2, h3, h4, h5⟩

/-- The same of an outcome: where it is a next state. -/
def OKeeps (s : State) (r : Host.Outcome State Fault Refusal) : Prop := ∀ t, r = .next t → Keeps s t

theorem OKeeps.next {s t : State} (h : Keeps s t) : OKeeps s (.next t) := fun _ e => by cases e; exact h

theorem State.setReg_keeps {σ : State} (s : State) (a : Nat) (v : Word) (h : Keeps σ s) : Keeps σ (s.setReg a v) :=
  ⟨h.pending, fun x => Registers.wf_setRegs _ _ _ (h.regs x), h.flash, h.sram, h.brk,
    h.host, h.sheets, h.slots, h.fwd, h.fifo⟩

theorem State.setFld_keeps {σ : State} (s : State) (f : Fld) (v : Nat) (h : Keeps σ s) : Keeps σ (State.setFld s f v) := by
  unfold State.setFld
  repeat' (first
    | (with_reducible assumption)
    | (intro t; refine_lift have ht : Keeps σ t := ?_; ?_; clear_value t; rotate_left; subst t)
    | (intro t; subst t; beta_reduce)
    | lift_lets
    | split
    | (with_reducible apply State.setReg_keeps)
    | (with_reducible apply Keeps.with)
    | (with_reducible apply Keeps.host)
    | (with_reducible apply Keeps.sheets)
    | (with_reducible apply Keeps.slots)
    | (with_reducible apply Keeps.fwd)
    | (with_reducible apply Keeps.fifo))

theorem State.setFlag_keeps {σ : State} (s : State) (f : Fld) (b : Bool) (h : Keeps σ s) : Keeps σ (State.setFlag s f b) := by
  unfold State.setFlag
  repeat' (first
    | (with_reducible assumption)
    | (intro t; refine_lift have ht : Keeps σ t := ?_; ?_; clear_value t; rotate_left; subst t)
    | (intro t; subst t; beta_reduce)
    | lift_lets
    | split
    | (with_reducible apply State.setFld_keeps)
    | (with_reducible apply Keeps.with)
    | (with_reducible apply Keeps.host)
    | (with_reducible apply Keeps.sheets)
    | (with_reducible apply Keeps.slots)
    | (with_reducible apply Keeps.fwd)
    | (with_reducible apply Keeps.fifo))

theorem State.bump_keeps {σ : State} (s : State) (f : Fld) (h : Keeps σ s) : Keeps σ (State.bump s f) := by
  unfold State.bump
  repeat' (first
    | (with_reducible assumption)
    | (intro t; refine_lift have ht : Keeps σ t := ?_; ?_; clear_value t; rotate_left; subst t)
    | (intro t; subst t; beta_reduce)
    | lift_lets
    | split
    | (with_reducible apply State.setFld_keeps)
    | (with_reducible apply Keeps.with)
    | (with_reducible apply Keeps.host)
    | (with_reducible apply Keeps.sheets)
    | (with_reducible apply Keeps.slots)
    | (with_reducible apply Keeps.fwd)
    | (with_reducible apply Keeps.fifo))

theorem forEach_keeps {σ : State} {α : Type} {l : List α} {f : α → State → State} {s : State}
    (hf : ∀ a t, Keeps σ t → Keeps σ (f a t)) (h : Keeps σ s) : Keeps σ (forEach l f s) := by
  unfold forEach
  induction l generalizing s with
  | nil => exact h
  | cons a r ih => exact ih (hf a s h)

theorem onlyIf_keeps {σ : State} {b : Bool} {f : State → State} {s : State}
    (hf : ∀ t, Keeps σ t → Keeps σ (f t)) (h : Keeps σ s) : Keeps σ (onlyIf b f s) := by
  unfold onlyIf
  split
  · exact hf s h
  · exact h

theorem State.takeFree_keeps {σ : State} (s : State) (width : Nat) (h : Keeps σ s) : Keeps σ (State.takeFree s width).2 := by
  unfold State.takeFree
  repeat' (first
    | (with_reducible assumption)
    | (intro t; refine_lift have ht : Keeps σ t := ?_; ?_; clear_value t; rotate_left; subst t)
    | (intro t; subst t; beta_reduce)
    | lift_lets
    | split
    | (with_reducible apply Keeps.with)
    | (with_reducible apply Keeps.host)
    | (with_reducible apply Keeps.sheets)
    | (with_reducible apply Keeps.slots)
    | (with_reducible apply Keeps.fwd)
    | (with_reducible apply Keeps.fifo)
    | (dsimp only))

theorem State.put_keeps {σ : State} (port : Nat) (type : Nat) (dest : Nat) (src : Nat) (hops : Nat) (tag : Nat) (both : Bool) (payload : List Byte) (s : State) (h : Keeps σ s) : Keeps σ (State.put port type dest src hops tag both payload s) := by
  unfold State.put
  repeat' (first
    | (with_reducible assumption)
    | (intro t; refine_lift have ht : Keeps σ t := ?_; ?_; clear_value t; rotate_left; subst t)
    | (intro t; subst t; beta_reduce)
    | lift_lets
    | split
    | (with_reducible apply Keeps.with)
    | (with_reducible apply Keeps.host)
    | (with_reducible apply Keeps.sheets)
    | (with_reducible apply Keeps.slots)
    | (with_reducible apply Keeps.fwd)
    | (with_reducible apply Keeps.fifo))

theorem State.emit_keeps {σ : State} (port : Nat) (type : Nat) (dest : Nat) (tag : Nat) (both : Bool) (payload : List Byte) (s : State) (h : Keeps σ s) : Keeps σ (State.emit port type dest tag both payload s) := by
  unfold State.emit
  repeat' (first
    | (with_reducible assumption)
    | (intro t; refine_lift have ht : Keeps σ t := ?_; ?_; clear_value t; rotate_left; subst t)
    | (intro t; subst t; beta_reduce)
    | lift_lets
    | split
    | (with_reducible apply State.put_keeps)
    | (with_reducible apply Keeps.with)
    | (with_reducible apply Keeps.host)
    | (with_reducible apply Keeps.sheets)
    | (with_reducible apply Keeps.slots)
    | (with_reducible apply Keeps.fwd)
    | (with_reducible apply Keeps.fifo))

theorem State.setRing_keeps {σ : State} (trunk : Bool) (r : Ring) (s : State) (h : Keeps σ s) : Keeps σ (State.setRing trunk r s) := by
  unfold State.setRing
  repeat' (first
    | (with_reducible assumption)
    | (intro t; refine_lift have ht : Keeps σ t := ?_; ?_; clear_value t; rotate_left; subst t)
    | (intro t; subst t; beta_reduce)
    | lift_lets
    | split
    | (with_reducible apply Keeps.with)
    | (with_reducible apply Keeps.host)
    | (with_reducible apply Keeps.sheets)
    | (with_reducible apply Keeps.slots)
    | (with_reducible apply Keeps.fwd)
    | (with_reducible apply Keeps.fifo))

theorem State.sendTo_keeps {σ : State} (type : Nat) (target : Nat) (tag : Nat) (payload : List Byte) (s : State) (h : Keeps σ s) : Keeps σ (State.sendTo type target tag payload s) := by
  unfold State.sendTo
  repeat' (first
    | (with_reducible assumption)
    | (intro t; refine_lift have ht : Keeps σ t := ?_; ?_; clear_value t; rotate_left; subst t)
    | (intro t; subst t; beta_reduce)
    | lift_lets
    | split
    | (with_reducible apply State.emit_keeps)
    | (with_reducible apply Keeps.with)
    | (with_reducible apply Keeps.host)
    | (with_reducible apply Keeps.sheets)
    | (with_reducible apply Keeps.slots)
    | (with_reducible apply Keeps.fwd)
    | (with_reducible apply Keeps.fifo))

theorem State.send_keeps {σ : State} (type : Nat) (mode : Nat) (both : Bool) (payload : List Byte) (s : State) (h : Keeps σ s) : Keeps σ (State.send type mode both payload s) := by
  unfold State.send
  repeat' (first
    | (with_reducible assumption)
    | (intro t; refine_lift have ht : Keeps σ t := ?_; ?_; clear_value t; rotate_left; subst t)
    | (intro t; subst t; beta_reduce)
    | lift_lets
    | split
    | (with_reducible refine forEach_keeps (fun _ _ _ => ?_) ?_)
    | (with_reducible apply State.emit_keeps)
    | (with_reducible apply Keeps.with)
    | (with_reducible apply Keeps.host)
    | (with_reducible apply Keeps.sheets)
    | (with_reducible apply Keeps.slots)
    | (with_reducible apply Keeps.fwd)
    | (with_reducible apply Keeps.fifo))

theorem State.forward_keeps {σ : State} (f : FrameHead) (type : Nat) (src : Nat) (both : Bool) (payload : List Byte) (s : State) (h : Keeps σ s) : Keeps σ (State.forward f type src both payload s) := by
  unfold State.forward
  repeat' (first
    | (with_reducible assumption)
    | (intro t; refine_lift have ht : Keeps σ t := ?_; ?_; clear_value t; rotate_left; subst t)
    | (intro t; subst t; beta_reduce)
    | lift_lets
    | split
    | (with_reducible apply State.put_keeps)
    | (with_reducible apply Keeps.with)
    | (with_reducible apply Keeps.host)
    | (with_reducible apply Keeps.sheets)
    | (with_reducible apply Keeps.slots)
    | (with_reducible apply Keeps.fwd)
    | (with_reducible apply Keeps.fifo))

theorem State.relay_keeps {σ : State} (f : FrameHead) (type : Nat) (src : Nat) (both : Bool) (payload : List Byte) (s : State) (h : Keeps σ s) : Keeps σ (State.relay f type src both payload s) := by
  unfold State.relay
  repeat' (first
    | (with_reducible assumption)
    | (intro t; refine_lift have ht : Keeps σ t := ?_; ?_; clear_value t; rotate_left; subst t)
    | (intro t; subst t; beta_reduce)
    | lift_lets
    | split
    | (with_reducible apply State.forward_keeps)
    | (with_reducible refine forEach_keeps (fun _ _ _ => ?_) ?_)
    | (with_reducible apply State.put_keeps)
    | (with_reducible apply Keeps.with)
    | (with_reducible apply Keeps.host)
    | (with_reducible apply Keeps.sheets)
    | (with_reducible apply Keeps.slots)
    | (with_reducible apply Keeps.fwd)
    | (with_reducible apply Keeps.fifo))

theorem State.passOn_keeps {σ : State} (f : FrameHead) (type : Nat) (src : Nat) (both : Bool) (payload : List Byte) (s : State) (h : Keeps σ s) : Keeps σ (State.passOn f type src both payload s) := by
  unfold State.passOn
  repeat' (first
    | (with_reducible assumption)
    | (intro t; refine_lift have ht : Keeps σ t := ?_; ?_; clear_value t; rotate_left; subst t)
    | (intro t; subst t; beta_reduce)
    | lift_lets
    | split
    | (with_reducible apply State.relay_keeps)
    | (with_reducible apply Keeps.with)
    | (with_reducible apply Keeps.host)
    | (with_reducible apply Keeps.sheets)
    | (with_reducible apply Keeps.slots)
    | (with_reducible apply Keeps.fwd)
    | (with_reducible apply Keeps.fifo))

theorem State.firstCopy_keeps {σ : State} (type : Nat) (src : Nat) (event : Nat) (s : State) (h : Keeps σ s) : Keeps σ (State.firstCopy type src event s).2 := by
  unfold State.firstCopy
  repeat' (first
    | (with_reducible assumption)
    | (intro t; refine_lift have ht : Keeps σ t := ?_; ?_; clear_value t; rotate_left; subst t)
    | (intro t; subst t; beta_reduce)
    | lift_lets
    | split
    | (with_reducible apply Keeps.with)
    | (with_reducible apply Keeps.host)
    | (with_reducible apply Keeps.sheets)
    | (with_reducible apply Keeps.slots)
    | (with_reducible apply Keeps.fwd)
    | (with_reducible apply Keeps.fifo)
    | (dsimp only))

theorem State.fwdPush_keeps {σ : State} (address : Nat) (source : Nat) (stamp : Time) (s : State) (h : Keeps σ s) :
    Keeps σ (State.fwdPush address source stamp s).1 := by
  unfold State.fwdPush
  split
  · exact h.with h.host h.sheets h.slots (fun _ => by simp only [List.length_append, List.length_cons, List.length_nil]; omega) h.fifo
  · exact State.bump_keeps _ _ h

theorem State.driveInt_keeps {σ : State} (s : State) (h : Keeps σ s) : Keeps σ (State.driveInt s) := by
  unfold State.driveInt
  repeat' (first
    | (with_reducible assumption)
    | (intro t; refine_lift have ht : Keeps σ t := ?_; ?_; clear_value t; rotate_left; subst t)
    | (intro t; subst t; beta_reduce)
    | lift_lets
    | split
    | (with_reducible apply Keeps.with)
    | (with_reducible apply Keeps.host)
    | (with_reducible apply Keeps.sheets)
    | (with_reducible apply Keeps.slots)
    | (with_reducible apply Keeps.fwd)
    | (with_reducible apply Keeps.fifo))

theorem State.unwait_keeps {σ : State} (src : Nat) (s : State) (h : Keeps σ s) : Keeps σ (State.unwait src s) := by
  unfold State.unwait
  repeat' (first
    | (with_reducible assumption)
    | (intro t; refine_lift have ht : Keeps σ t := ?_; ?_; clear_value t; rotate_left; subst t)
    | (intro t; subst t; beta_reduce)
    | lift_lets
    | split
    | (with_reducible apply Keeps.with)
    | (with_reducible apply Keeps.host)
    | (with_reducible apply Keeps.sheets)
    | (with_reducible apply Keeps.slots)
    | (with_reducible apply Keeps.fwd)
    | (with_reducible apply Keeps.fifo))

theorem State.dropEntry_keeps {σ : State} (src : Nat) (s : State) (h : Keeps σ s) : Keeps σ (State.dropEntry src s) :=
  h.with (fun x => Nat.le_trans (List.length_filter_le _ _) (h.host x)) h.sheets h.slots h.fwd h.fifo

theorem State.clearPend_keeps {σ : State} (s : State) (src : Nat) (h : Keeps σ s) : Keeps σ (State.clearPend s src) := by
  unfold State.clearPend
  repeat' (first
    | (with_reducible assumption)
    | (intro t; refine_lift have ht : Keeps σ t := ?_; ?_; clear_value t; rotate_left; subst t)
    | (intro t; subst t; beta_reduce)
    | lift_lets
    | split
    | (with_reducible apply State.unwait_keeps)
    | (with_reducible apply State.dropEntry_keeps)
    | (with_reducible apply State.setFld_keeps)
    | (with_reducible apply Keeps.with)
    | (with_reducible apply Keeps.host)
    | (with_reducible apply Keeps.sheets)
    | (with_reducible apply Keeps.slots)
    | (with_reducible apply Keeps.fwd)
    | (with_reducible apply Keeps.fifo))

theorem State.addStuck_keeps {σ : State} (src : Nat) (s : State) (h : Keeps σ s) : Keeps σ (State.addStuck src s) := by
  unfold State.addStuck
  repeat' (first
    | (with_reducible assumption)
    | (intro t; refine_lift have ht : Keeps σ t := ?_; ?_; clear_value t; rotate_left; subst t)
    | (intro t; subst t; beta_reduce)
    | lift_lets
    | split
    | (with_reducible apply Keeps.with)
    | (with_reducible apply Keeps.host)
    | (with_reducible apply Keeps.sheets)
    | (with_reducible apply Keeps.slots)
    | (with_reducible apply Keeps.fwd)
    | (with_reducible apply Keeps.fifo))

theorem State.deliver_keeps {σ : State} (s : State) (src : Nat) (h : Keeps σ s) : Keeps σ (State.deliver s src).1 := by
  have ht : Keeps σ (s.unwait src) := State.unwait_keeps _ _ h
  have hq : (s.unwait src).icu.queue = s.icu.queue := rfl
  unfold State.deliver
  dsimp only
  split
  iterate 3 exact State.clearPend_keeps _ _ h
  · split
    · exact ht
    · split
      · refine ht.with (fun _ => ?_) ht.sheets ht.slots ht.fwd ht.fifo
        simp only [hq, List.length_append, List.length_cons, List.length_nil]
        omega
      · split
        · exact State.addStuck_keeps _ _ ht
        · exact State.setFld_keeps _ _ _ (State.addStuck_keeps _ _ ht)
  · split
    · exact State.addStuck_keeps _ _ ht
    · split
      · exact State.fwdPush_keeps _ _ _ _ (State.clearPend_keeps _ _ h)
      · split
        · exact State.clearPend_keeps _ _ (State.send_keeps _ _ _ _ _ h)
        · exact State.addStuck_keeps _ _ ht

theorem State.offer_keeps {σ : State} (s : State) (src : Nat) (h : Keeps σ s) : Keeps σ (State.offer s src).1 := by
  unfold State.offer
  repeat' (first
    | (with_reducible assumption)
    | (intro t; refine_lift have ht : Keeps σ t := ?_; ?_; clear_value t; rotate_left; subst t)
    | (intro t; subst t; beta_reduce)
    | lift_lets
    | split
    | (with_reducible apply State.unwait_keeps)
    | (with_reducible apply State.deliver_keeps)
    | (with_reducible apply Keeps.with)
    | (with_reducible apply Keeps.host)
    | (with_reducible apply Keeps.sheets)
    | (with_reducible apply Keeps.slots)
    | (with_reducible apply Keeps.fwd)
    | (with_reducible apply Keeps.fifo)
    | (dsimp only))

theorem State.markPend_keeps {σ : State} (s : State) (src : Nat) (stamp : Time) (h : Keeps σ s) : Keeps σ (State.markPend s src stamp) := by
  unfold State.markPend
  repeat' (first
    | (with_reducible assumption)
    | (intro t; refine_lift have ht : Keeps σ t := ?_; ?_; clear_value t; rotate_left; subst t)
    | (intro t; subst t; beta_reduce)
    | lift_lets
    | split
    | (with_reducible apply State.setFld_keeps)
    | (with_reducible apply Keeps.with)
    | (with_reducible apply Keeps.host)
    | (with_reducible apply Keeps.sheets)
    | (with_reducible apply Keeps.slots)
    | (with_reducible apply Keeps.fwd)
    | (with_reducible apply Keeps.fifo))

theorem State.raiseOnce_keeps {σ : State} (s : State) (src : Nat) (stamp : Time) (h : Keeps σ s) : Keeps σ (State.raiseOnce s src stamp).1 := by
  unfold State.raiseOnce
  repeat' (first
    | (with_reducible assumption)
    | (intro t; refine_lift have ht : Keeps σ t := ?_; ?_; clear_value t; rotate_left; subst t)
    | (intro t; subst t; beta_reduce)
    | lift_lets
    | split
    | (with_reducible apply State.markPend_keeps)
    | (with_reducible apply State.offer_keeps)
    | (with_reducible apply Keeps.with)
    | (with_reducible apply Keeps.host)
    | (with_reducible apply Keeps.sheets)
    | (with_reducible apply Keeps.slots)
    | (with_reducible apply Keeps.fwd)
    | (with_reducible apply Keeps.fifo)
    | (dsimp only))

theorem State.chain_keeps {σ : State} (n : Nat) (r : State × Option Nat) (h : Keeps σ r.1) : Keeps σ (State.chain n r) := by
  induction n generalizing r with
  | zero =>
    unfold State.chain
    split
    · exact h
    · exact State.markPend_keeps _ _ _ h
  | succ n ih =>
    unfold State.chain
    split
    · exact h
    · exact ih _ (State.raiseOnce_keeps _ _ _ h)

theorem State.afterFull_keeps {σ : State} (r : State × Option Nat) (h : Keeps σ r.1) : Keeps σ (State.afterFull r) :=
  State.chain_keeps 400 r h

theorem State.raiseAt_keeps {σ : State} (src : Nat) (stamp : Time) (s : State) (h : Keeps σ s) : Keeps σ (State.raiseAt src stamp s) := by
  unfold State.raiseAt
  repeat' (first
    | (with_reducible assumption)
    | (intro t; refine_lift have ht : Keeps σ t := ?_; ?_; clear_value t; rotate_left; subst t)
    | (intro t; subst t; beta_reduce)
    | lift_lets
    | split
    | (with_reducible apply State.driveInt_keeps)
    | (with_reducible apply State.afterFull_keeps)
    | (with_reducible apply State.raiseOnce_keeps)
    | (with_reducible apply Keeps.with)
    | (with_reducible apply Keeps.host)
    | (with_reducible apply Keeps.sheets)
    | (with_reducible apply Keeps.slots)
    | (with_reducible apply Keeps.fwd)
    | (with_reducible apply Keeps.fifo)
    | (dsimp only))

theorem State.raise_keeps {σ : State} (src : Nat) (s : State) (h : Keeps σ s) : Keeps σ (State.raise src s) := by
  unfold State.raise
  repeat' (first
    | (with_reducible assumption)
    | (intro t; refine_lift have ht : Keeps σ t := ?_; ?_; clear_value t; rotate_left; subst t)
    | (intro t; subst t; beta_reduce)
    | lift_lets
    | split
    | (with_reducible apply State.raiseAt_keeps)
    | (with_reducible apply Keeps.with)
    | (with_reducible apply Keeps.host)
    | (with_reducible apply Keeps.sheets)
    | (with_reducible apply Keeps.slots)
    | (with_reducible apply Keeps.fwd)
    | (with_reducible apply Keeps.fifo))

theorem State.deliverAll_keeps {σ : State} (srcs : List Nat) (s : State) (h : Keeps σ s) : Keeps σ (State.deliverAll srcs s) := by
  unfold State.deliverAll
  repeat' (first
    | (with_reducible assumption)
    | (intro t; refine_lift have ht : Keeps σ t := ?_; ?_; clear_value t; rotate_left; subst t)
    | (intro t; subst t; beta_reduce)
    | lift_lets
    | split
    | (with_reducible apply State.driveInt_keeps)
    | (with_reducible refine forEach_keeps (fun _ _ _ => ?_) ?_)
    | (with_reducible apply State.afterFull_keeps)
    | (with_reducible apply State.deliver_keeps)
    | (with_reducible apply State.unwait_keeps)
    | (with_reducible apply Keeps.with)
    | (with_reducible apply Keeps.host)
    | (with_reducible apply Keeps.sheets)
    | (with_reducible apply Keeps.slots)
    | (with_reducible apply Keeps.fwd)
    | (with_reducible apply Keeps.fifo)
    | (dsimp only))

theorem State.refillQueue_keeps {σ : State} (s : State) (h : Keeps σ s) : Keeps σ (State.refillQueue s) := by
  unfold State.refillQueue
  repeat' (first
    | (with_reducible assumption)
    | (intro t; refine_lift have ht : Keeps σ t := ?_; ?_; clear_value t; rotate_left; subst t)
    | (intro t; subst t; beta_reduce)
    | lift_lets
    | split
    | (with_reducible apply State.deliverAll_keeps)
    | (with_reducible apply Keeps.with)
    | (with_reducible apply Keeps.host)
    | (with_reducible apply Keeps.sheets)
    | (with_reducible apply Keeps.slots)
    | (with_reducible apply Keeps.fwd)
    | (with_reducible apply Keeps.fifo))

theorem State.forwardStuck_keeps {σ : State} (s : State) (h : Keeps σ s) : Keeps σ (State.forwardStuck s) := by
  unfold State.forwardStuck
  repeat' (first
    | (with_reducible assumption)
    | (intro t; refine_lift have ht : Keeps σ t := ?_; ?_; clear_value t; rotate_left; subst t)
    | (intro t; subst t; beta_reduce)
    | lift_lets
    | split
    | (with_reducible apply State.deliverAll_keeps)
    | (with_reducible apply Keeps.with)
    | (with_reducible apply Keeps.host)
    | (with_reducible apply Keeps.sheets)
    | (with_reducible apply Keeps.slots)
    | (with_reducible apply Keeps.fwd)
    | (with_reducible apply Keeps.fifo))

theorem State.flagRaise_keeps {σ : State} (f : Fld) (src : Nat) (s : State) (h : Keeps σ s) : Keeps σ (State.flagRaise f src s) := by
  unfold State.flagRaise
  repeat' (first
    | (with_reducible assumption)
    | (intro t; refine_lift have ht : Keeps σ t := ?_; ?_; clear_value t; rotate_left; subst t)
    | (intro t; subst t; beta_reduce)
    | lift_lets
    | split
    | (with_reducible apply State.raise_keeps)
    | (with_reducible apply State.setFld_keeps)
    | (with_reducible apply Keeps.with)
    | (with_reducible apply Keeps.host)
    | (with_reducible apply Keeps.sheets)
    | (with_reducible apply Keeps.slots)
    | (with_reducible apply Keeps.fwd)
    | (with_reducible apply Keeps.fifo))

theorem State.queueSheet_keeps {σ : State} (type : Nat) (payload : List Byte) (s : State) (h : Keeps σ s) :
    Keeps σ (State.queueSheet type payload s) := by
  unfold State.queueSheet
  dsimp only
  split
  · refine onlyIf_keeps (fun u hu => State.raise_keeps _ _ hu) (h.with h.host (fun _ => ?_) h.slots h.fwd h.fifo)
    simp only [List.length_append, List.length_cons, List.length_nil]
    omega
  · exact State.flagRaise_keeps _ _ _ ((State.bump_keeps _ _ h).with (State.bump_keeps _ _ h).host (State.bump_keeps _ _ h).sheets
      (State.bump_keeps _ _ h).slots (State.bump_keeps _ _ h).fwd (State.bump_keeps _ _ h).fifo)

theorem State.noteFault_keeps {σ : State} (type : Nat) (s : State) (h : Keeps σ s) : Keeps σ (State.noteFault type s) := by
  unfold State.noteFault
  repeat' (first
    | (with_reducible assumption)
    | (intro t; refine_lift have ht : Keeps σ t := ?_; ?_; clear_value t; rotate_left; subst t)
    | (intro t; subst t; beta_reduce)
    | lift_lets
    | split
    | (with_reducible apply Keeps.with)
    | (with_reducible apply Keeps.host)
    | (with_reducible apply Keeps.sheets)
    | (with_reducible apply Keeps.slots)
    | (with_reducible apply Keeps.fwd)
    | (with_reducible apply Keeps.fifo))

theorem State.sheet_keeps {σ : State} (type : Nat) (payload : List Byte) (s : State) (h : Keeps σ s) : Keeps σ (State.sheet type payload s) := by
  unfold State.sheet
  repeat' (first
    | (with_reducible assumption)
    | (intro t; refine_lift have ht : Keeps σ t := ?_; ?_; clear_value t; rotate_left; subst t)
    | (intro t; subst t; beta_reduce)
    | lift_lets
    | split
    | (with_reducible apply State.noteFault_keeps)
    | (with_reducible apply State.queueSheet_keeps)
    | (with_reducible apply State.setFld_keeps)
    | (with_reducible apply State.raise_keeps)
    | (with_reducible apply State.setReg_keeps)
    | (with_reducible apply Keeps.with)
    | (with_reducible apply Keeps.host)
    | (with_reducible apply Keeps.sheets)
    | (with_reducible apply Keeps.slots)
    | (with_reducible apply Keeps.fwd)
    | (with_reducible apply Keeps.fifo))

theorem State.cfgErr_keeps {σ : State} (a : Nat) (b : Nat) (s : State) (h : Keeps σ s) : Keeps σ (State.cfgErr a b s) := by
  unfold State.cfgErr
  repeat' (first
    | (with_reducible assumption)
    | (intro t; refine_lift have ht : Keeps σ t := ?_; ?_; clear_value t; rotate_left; subst t)
    | (intro t; subst t; beta_reduce)
    | lift_lets
    | split
    | (with_reducible apply State.setReg_keeps)
    | (with_reducible apply State.takeFree_keeps)
    | (with_reducible apply State.flagRaise_keeps)
    | (with_reducible apply Keeps.with)
    | (with_reducible apply Keeps.host)
    | (with_reducible apply Keeps.sheets)
    | (with_reducible apply Keeps.slots)
    | (with_reducible apply Keeps.fwd)
    | (with_reducible apply Keeps.fifo)
    | (dsimp only))

theorem State.busErr_keeps {σ : State} (p : Path) (kind : Nat) (a : Word) (s : State) (h : Keeps σ s) : Keeps σ (State.busErr p kind a s) := by
  unfold State.busErr
  repeat' (first
    | (with_reducible assumption)
    | (intro t; refine_lift have ht : Keeps σ t := ?_; ?_; clear_value t; rotate_left; subst t)
    | (intro t; subst t; beta_reduce)
    | lift_lets
    | split
    | (with_reducible apply State.setReg_keeps)
    | (with_reducible apply State.flagRaise_keeps)
    | (with_reducible apply Keeps.with)
    | (with_reducible apply Keeps.host)
    | (with_reducible apply Keeps.sheets)
    | (with_reducible apply Keeps.slots)
    | (with_reducible apply Keeps.fwd)
    | (with_reducible apply Keeps.fifo))

theorem State.freeze_keeps {σ : State} (p : Path) (a : Nat) (v : Word) (s : State) (h : Keeps σ s) : Keeps σ (State.freeze p a v s) := by
  unfold State.freeze
  repeat' (first
    | (with_reducible assumption)
    | (intro t; refine_lift have ht : Keeps σ t := ?_; ?_; clear_value t; rotate_left; subst t)
    | (intro t; subst t; beta_reduce)
    | lift_lets
    | split
    | (with_reducible apply Keeps.with)
    | (with_reducible apply Keeps.host)
    | (with_reducible apply Keeps.sheets)
    | (with_reducible apply Keeps.slots)
    | (with_reducible apply Keeps.fwd)
    | (with_reducible apply Keeps.fifo))

theorem State.flashWrite_keeps {σ : State} (a : Nat) (l : List Byte) (s : State) (h : Keeps σ s) :
    Keeps σ (s.flashWrite a l) :=
  ⟨h.pending, h.regs, fun x => Memory.wf_setCells _ l a _ (h.flash x), h.sram, h.brk,
    h.host, h.sheets, h.slots, h.fwd, h.fifo⟩

theorem State.flashErase_keeps {σ : State} (a e : Nat) (s : State) (h : Keeps σ s) : Keeps σ (s.flashErase a e) :=
  ⟨h.pending, h.regs, fun x => Memory.wf_filter _ _ _ (h.flash x), h.sram, h.brk,
    h.host, h.sheets, h.slots, h.fwd, h.fifo⟩

theorem State.sramWrite_keeps {σ : State} (a : Nat) (l : List Byte) (s : State) (h : Keeps σ s) :
    Keeps σ (s.sramWrite a l) :=
  ⟨h.pending, h.regs, h.flash, fun x => Memory.wf_setCells _ l a _ (h.sram x), h.brk,
    h.host, h.sheets, h.slots, h.fwd, h.fifo⟩

theorem State.setBrick_keeps {σ : State} (n : Nat) (b : Brick) (s : State) (h : Keeps σ s) : Keeps σ (s.setBrick n b) :=
  ⟨h.pending, h.regs, h.flash, h.sram, fun x => by simp [State.setBrick, h.brk x],
    h.host, h.sheets, h.slots, h.fwd, h.fifo⟩

theorem State.updBrick_keeps {σ : State} (n : Nat) (f : Brick → Brick) (s : State) (h : Keeps σ s) : Keeps σ (State.updBrick n f s) := by
  unfold State.updBrick
  repeat' (first
    | (with_reducible assumption)
    | (intro t; refine_lift have ht : Keeps σ t := ?_; ?_; clear_value t; rotate_left; subst t)
    | (intro t; subst t; beta_reduce)
    | lift_lets
    | split
    | (with_reducible apply State.setBrick_keeps)
    | (with_reducible apply Keeps.with)
    | (with_reducible apply Keeps.host)
    | (with_reducible apply Keeps.sheets)
    | (with_reducible apply Keeps.slots)
    | (with_reducible apply Keeps.fwd)
    | (with_reducible apply Keeps.fifo))

theorem State.setBrkState_keeps {σ : State} (n : Nat) (st : Nat) (s : State) (h : Keeps σ s) : Keeps σ (State.setBrkState n st s) := by
  unfold State.setBrkState
  repeat' (first
    | (with_reducible assumption)
    | (intro t; refine_lift have ht : Keeps σ t := ?_; ?_; clear_value t; rotate_left; subst t)
    | (intro t; subst t; beta_reduce)
    | lift_lets
    | split
    | (with_reducible apply State.raise_keeps)
    | (with_reducible apply State.setFld_keeps)
    | (with_reducible apply Keeps.with)
    | (with_reducible apply Keeps.host)
    | (with_reducible apply Keeps.sheets)
    | (with_reducible apply Keeps.slots)
    | (with_reducible apply Keeps.fwd)
    | (with_reducible apply Keeps.fifo))

end Sys2Proof.Machine
end

