-- ==== Sys2Proof/Laws/KeepsPower.lean ====
section
/-! SUPPORT. The operations of the tiles, the all-off, the trigger, the meter, the legs, the bricks, the lanes and the course keep
the queue and the canonical form (KeepsOps). -/
namespace Sys2Proof.Machine

set_option linter.all false

theorem State.regrid_keeps {σ : State} (s : State) (h : Keeps σ s) : Keeps σ (State.regrid s) := by
  unfold State.regrid
  repeat' (first
    | (with_reducible assumption)
    | (intro t; refine_lift have ht : Keeps σ t := ?_; ?_; clear_value t; rotate_left; subst t)
    | (intro t; subst t; beta_reduce)
    | lift_lets
    | split
    | (with_reducible apply Keeps.with)
    | (with_reducible apply Keeps.host)
    | (with_reducible apply Keeps.sheets)
    | (with_reducible apply Keeps.slots)
    | (with_reducible apply Keeps.fwd)
    | (with_reducible apply Keeps.fifo))

theorem State.stepGrid_keeps {σ : State} (s : State) (h : Keeps σ s) : Keeps σ (State.stepGrid s) := by
  unfold State.stepGrid
  repeat' (first
    | (with_reducible assumption)
    | (intro t; refine_lift have ht : Keeps σ t := ?_; ?_; clear_value t; rotate_left; subst t)
    | (intro t; subst t; beta_reduce)
    | lift_lets
    | split
    | (with_reducible apply Keeps.with)
    | (with_reducible apply Keeps.host)
    | (with_reducible apply Keeps.sheets)
    | (with_reducible apply Keeps.slots)
    | (with_reducible apply Keeps.fwd)
    | (with_reducible apply Keeps.fifo))

theorem State.startFallback_keeps {σ : State} (s : State) (h : Keeps σ s) : Keeps σ (State.startFallback s) := by
  unfold State.startFallback
  repeat' (first
    | (with_reducible assumption)
    | (intro t; refine_lift have ht : Keeps σ t := ?_; ?_; clear_value t; rotate_left; subst t)
    | (intro t; subst t; beta_reduce)
    | lift_lets
    | split
    | (with_reducible apply State.regrid_keeps)
    | (with_reducible apply State.setFld_keeps)
    | (with_reducible apply Keeps.with)
    | (with_reducible apply Keeps.host)
    | (with_reducible apply Keeps.sheets)
    | (with_reducible apply Keeps.slots)
    | (with_reducible apply Keeps.fwd)
    | (with_reducible apply Keeps.fifo))

theorem State.endFallback_keeps {σ : State} (s : State) (h : Keeps σ s) : Keeps σ (State.endFallback s) := by
  unfold State.endFallback
  repeat' (first
    | (with_reducible assumption)
    | (intro t; refine_lift have ht : Keeps σ t := ?_; ?_; clear_value t; rotate_left; subst t)
    | (intro t; subst t; beta_reduce)
    | lift_lets
    | split
    | (with_reducible apply State.setFld_keeps)
    | (with_reducible apply Keeps.with)
    | (with_reducible apply Keeps.host)
    | (with_reducible apply Keeps.sheets)
    | (with_reducible apply Keeps.slots)
    | (with_reducible apply Keeps.fwd)
    | (with_reducible apply Keeps.fifo))

theorem State.leaderOff_keeps {σ : State} (n : Nat) (s : State) (h : Keeps σ s) : Keeps σ (State.leaderOff n s) := by
  unfold State.leaderOff
  repeat' (first
    | (with_reducible assumption)
    | (intro t; refine_lift have ht : Keeps σ t := ?_; ?_; clear_value t; rotate_left; subst t)
    | (intro t; subst t; beta_reduce)
    | lift_lets
    | split
    | (with_reducible apply State.startFallback_keeps)
    | (with_reducible apply Keeps.with)
    | (with_reducible apply Keeps.host)
    | (with_reducible apply Keeps.sheets)
    | (with_reducible apply Keeps.slots)
    | (with_reducible apply Keeps.fwd)
    | (with_reducible apply Keeps.fifo))

theorem State.putTarget_keeps {σ : State} (n : Nat) (loop : Bool) (target : Nat) (src : Nat) (s : State) (h : Keeps σ s) : Keeps σ (State.putTarget n loop target src s) := by
  unfold State.putTarget
  repeat' (first
    | (with_reducible assumption)
    | (intro t; refine_lift have ht : Keeps σ t := ?_; ?_; clear_value t; rotate_left; subst t)
    | (intro t; subst t; beta_reduce)
    | lift_lets
    | split
    | (with_reducible apply State.setFlag_keeps)
    | (with_reducible apply State.setFld_keeps)
    | (with_reducible apply State.updBrick_keeps)
    | (with_reducible apply Keeps.with)
    | (with_reducible apply Keeps.host)
    | (with_reducible apply Keeps.sheets)
    | (with_reducible apply Keeps.slots)
    | (with_reducible apply Keeps.fwd)
    | (with_reducible apply Keeps.fifo))

theorem State.within_keeps {σ : State} (lo : Nat) (hi : Nat) (v : Nat) (s : State) (h : Keeps σ s) : Keeps σ (State.within lo hi v s).2 := by
  unfold State.within
  repeat' (first
    | (with_reducible assumption)
    | (intro t; refine_lift have ht : Keeps σ t := ?_; ?_; clear_value t; rotate_left; subst t)
    | (intro t; subst t; beta_reduce)
    | lift_lets
    | split
    | (with_reducible apply State.takeFree_keeps)
    | (with_reducible apply Keeps.with)
    | (with_reducible apply Keeps.host)
    | (with_reducible apply Keeps.sheets)
    | (with_reducible apply Keeps.slots)
    | (with_reducible apply Keeps.fwd)
    | (with_reducible apply Keeps.fifo)
    | (dsimp only))

theorem State.aboveStart_keeps {σ : State} (vsys : Nat) (s : State) (h : Keeps σ s) : Keeps σ (State.aboveStart vsys s).2 := by
  unfold State.aboveStart
  repeat' (first
    | (with_reducible assumption)
    | (intro t; refine_lift have ht : Keeps σ t := ?_; ?_; clear_value t; rotate_left; subst t)
    | (intro t; subst t; beta_reduce)
    | lift_lets
    | split
    | (with_reducible apply State.within_keeps)
    | (with_reducible apply Keeps.with)
    | (with_reducible apply Keeps.host)
    | (with_reducible apply Keeps.sheets)
    | (with_reducible apply Keeps.slots)
    | (with_reducible apply Keeps.fwd)
    | (with_reducible apply Keeps.fifo)
    | (dsimp only))

theorem State.drivePin_keeps {σ : State} (n : Nat) (level : Bool) (s : State) (h : Keeps σ s) : Keeps σ (State.drivePin n level s) := by
  unfold State.drivePin
  repeat' (first
    | (with_reducible assumption)
    | (intro t; refine_lift have ht : Keeps σ t := ?_; ?_; clear_value t; rotate_left; subst t)
    | (intro t; subst t; beta_reduce)
    | lift_lets
    | split
    | (with_reducible apply Keeps.with)
    | (with_reducible apply Keeps.host)
    | (with_reducible apply Keeps.sheets)
    | (with_reducible apply Keeps.slots)
    | (with_reducible apply Keeps.fwd)
    | (with_reducible apply Keeps.fifo))

theorem State.endSession_keeps {σ : State} (reason : Nat) (s : State) (h : Keeps σ s) : Keeps σ (State.endSession reason s) := by
  unfold State.endSession
  repeat' (first
    | (with_reducible assumption)
    | (intro t; refine_lift have ht : Keeps σ t := ?_; ?_; clear_value t; rotate_left; subst t)
    | (intro t; subst t; beta_reduce)
    | lift_lets
    | split
    | (with_reducible apply State.setFld_keeps)
    | (with_reducible apply State.setReg_keeps)
    | (with_reducible apply State.putTarget_keeps)
    | (with_reducible apply State.drivePin_keeps)
    | (with_reducible apply State.sheet_keeps)
    | (with_reducible apply State.raise_keeps)
    | (with_reducible apply State.flagRaise_keeps)
    | (with_reducible apply Keeps.with)
    | (with_reducible apply Keeps.host)
    | (with_reducible apply Keeps.sheets)
    | (with_reducible apply Keeps.slots)
    | (with_reducible apply Keeps.fwd)
    | (with_reducible apply Keeps.fifo))

theorem State.writeTarget_keeps {σ : State} (n : Nat) (loop : Bool) (target : Nat) (src : Nat) (s : State) (h : Keeps σ s) : Keeps σ (State.writeTarget n loop target src s) := by
  unfold State.writeTarget
  repeat' (first
    | (with_reducible assumption)
    | (intro t; refine_lift have ht : Keeps σ t := ?_; ?_; clear_value t; rotate_left; subst t)
    | (intro t; subst t; beta_reduce)
    | lift_lets
    | split
    | (with_reducible apply State.putTarget_keeps)
    | (with_reducible apply State.endSession_keeps)
    | (with_reducible apply Keeps.with)
    | (with_reducible apply Keeps.host)
    | (with_reducible apply Keeps.sheets)
    | (with_reducible apply Keeps.slots)
    | (with_reducible apply Keeps.fwd)
    | (with_reducible apply Keeps.fifo))

theorem State.decideRec_keeps {σ : State} (n : Nat) (q : Nat) (state : Nat) (why : Nat) (s : State) (h : Keeps σ s) : Keeps σ (State.decideRec n q state why s) := by
  unfold State.decideRec
  repeat' (first
    | (with_reducible assumption)
    | (intro t; refine_lift have ht : Keeps σ t := ?_; ?_; clear_value t; rotate_left; subst t)
    | (intro t; subst t; beta_reduce)
    | lift_lets
    | split
    | (with_reducible apply State.setFld_keeps)
    | (with_reducible apply State.raise_keeps)
    | (with_reducible apply State.sheet_keeps)
    | (with_reducible apply Keeps.with)
    | (with_reducible apply Keeps.host)
    | (with_reducible apply Keeps.sheets)
    | (with_reducible apply Keeps.slots)
    | (with_reducible apply Keeps.fwd)
    | (with_reducible apply Keeps.fifo))

theorem State.failRecs_keeps {σ : State} (n : Nat) (why : Nat) (s : State) (h : Keeps σ s) : Keeps σ (State.failRecs n why s) := by
  unfold State.failRecs
  repeat' (first
    | (with_reducible assumption)
    | (intro t; refine_lift have ht : Keeps σ t := ?_; ?_; clear_value t; rotate_left; subst t)
    | (intro t; subst t; beta_reduce)
    | lift_lets
    | split
    | (with_reducible refine forEach_keeps (fun _ _ _ => ?_) ?_)
    | (with_reducible apply State.decideRec_keeps)
    | (with_reducible apply Keeps.with)
    | (with_reducible apply Keeps.host)
    | (with_reducible apply Keeps.sheets)
    | (with_reducible apply Keeps.slots)
    | (with_reducible apply Keeps.fwd)
    | (with_reducible apply Keeps.fifo))

theorem State.recordBond_keeps {σ : State} (e : BondErr) (s : State) (h : Keeps σ s) : Keeps σ (State.recordBond e s) := by
  unfold State.recordBond
  repeat' (first
    | (with_reducible assumption)
    | (intro t; refine_lift have ht : Keeps σ t := ?_; ?_; clear_value t; rotate_left; subst t)
    | (intro t; subst t; beta_reduce)
    | lift_lets
    | split
    | (with_reducible apply State.setReg_keeps)
    | (with_reducible apply Keeps.with)
    | (with_reducible apply Keeps.host)
    | (with_reducible apply Keeps.sheets)
    | (with_reducible apply Keeps.slots)
    | (with_reducible apply Keeps.fwd)
    | (with_reducible apply Keeps.fifo))

theorem State.bondSheet_keeps {σ : State} (code : Nat) (e : BondErr) (offered : Option Nat) (s : State) (h : Keeps σ s) : Keeps σ (State.bondSheet code e offered s) := by
  unfold State.bondSheet
  repeat' (first
    | (with_reducible assumption)
    | (intro t; refine_lift have ht : Keeps σ t := ?_; ?_; clear_value t; rotate_left; subst t)
    | (intro t; subst t; beta_reduce)
    | lift_lets
    | split
    | (with_reducible apply State.sheet_keeps)
    | (with_reducible apply Keeps.with)
    | (with_reducible apply Keeps.host)
    | (with_reducible apply Keeps.sheets)
    | (with_reducible apply Keeps.slots)
    | (with_reducible apply Keeps.fwd)
    | (with_reducible apply Keeps.fifo))

theorem State.seqRefresh_keeps {σ : State} (s : State) (h : Keeps σ s) : Keeps σ (State.seqRefresh s) := by
  unfold State.seqRefresh
  repeat' (first
    | (with_reducible assumption)
    | (intro t; refine_lift have ht : Keeps σ t := ?_; ?_; clear_value t; rotate_left; subst t)
    | (intro t; subst t; beta_reduce)
    | lift_lets
    | split
    | (with_reducible apply State.setFld_keeps)
    | (with_reducible apply Keeps.with)
    | (with_reducible apply Keeps.host)
    | (with_reducible apply Keeps.sheets)
    | (with_reducible apply Keeps.slots)
    | (with_reducible apply Keeps.fwd)
    | (with_reducible apply Keeps.fifo))

theorem State.endRequest_keeps {σ : State} (result : Nat) (s : State) (h : Keeps σ s) : Keeps σ (State.endRequest result s) := by
  unfold State.endRequest
  repeat' (first
    | (with_reducible assumption)
    | (intro t; refine_lift have ht : Keeps σ t := ?_; ?_; clear_value t; rotate_left; subst t)
    | (intro t; subst t; beta_reduce)
    | lift_lets
    | split
    | (with_reducible apply State.setFld_keeps)
    | (with_reducible apply Keeps.with)
    | (with_reducible apply Keeps.host)
    | (with_reducible apply Keeps.sheets)
    | (with_reducible apply Keeps.slots)
    | (with_reducible apply Keeps.fwd)
    | (with_reducible apply Keeps.fifo))

theorem State.spendStaging_keeps {σ : State} (s : State) (h : Keeps σ s) : Keeps σ (State.spendStaging s) := by
  unfold State.spendStaging
  repeat' (first
    | (with_reducible assumption)
    | (intro t; refine_lift have ht : Keeps σ t := ?_; ?_; clear_value t; rotate_left; subst t)
    | (intro t; subst t; beta_reduce)
    | lift_lets
    | split
    | (with_reducible apply State.endRequest_keeps)
    | (with_reducible apply State.setFld_keeps)
    | (with_reducible apply Keeps.with)
    | (with_reducible apply Keeps.host)
    | (with_reducible apply Keeps.sheets)
    | (with_reducible apply Keeps.slots)
    | (with_reducible apply Keeps.fwd)
    | (with_reducible apply Keeps.fifo))

theorem State.answerDist_keeps {σ : State} (s : State) (h : Keeps σ s) : Keeps σ (State.answerDist s) := by
  unfold State.answerDist
  repeat' (first
    | (with_reducible assumption)
    | (intro t; refine_lift have ht : Keeps σ t := ?_; ?_; clear_value t; rotate_left; subst t)
    | (intro t; subst t; beta_reduce)
    | lift_lets
    | split
    | (with_reducible apply State.sendTo_keeps)
    | (with_reducible apply Keeps.with)
    | (with_reducible apply Keeps.host)
    | (with_reducible apply Keeps.sheets)
    | (with_reducible apply Keeps.slots)
    | (with_reducible apply Keeps.fwd)
    | (with_reducible apply Keeps.fifo))

theorem State.abortRelay_keeps {σ : State} (reason : Nat) (s : State) (h : Keeps σ s) : Keeps σ (State.abortRelay reason s) := by
  unfold State.abortRelay
  repeat' (first
    | (with_reducible assumption)
    | (intro t; refine_lift have ht : Keeps σ t := ?_; ?_; clear_value t; rotate_left; subst t)
    | (intro t; subst t; beta_reduce)
    | lift_lets
    | split
    | (with_reducible apply State.recordBond_keeps)
    | (with_reducible apply State.bondSheet_keeps)
    | (with_reducible apply State.raise_keeps)
    | (with_reducible apply State.seqRefresh_keeps)
    | (with_reducible apply State.answerDist_keeps)
    | (with_reducible apply State.endRequest_keeps)
    | (with_reducible apply Keeps.with)
    | (with_reducible apply Keeps.host)
    | (with_reducible apply Keeps.sheets)
    | (with_reducible apply Keeps.slots)
    | (with_reducible apply Keeps.fwd)
    | (with_reducible apply Keeps.fifo))

theorem State.setPg_keeps {σ : State} (rail : Nat) (b : Bool) (s : State) (h : Keeps σ s) : Keeps σ (State.setPg rail b s) := by
  unfold State.setPg
  repeat' (first
    | (with_reducible assumption)
    | (intro t; refine_lift have ht : Keeps σ t := ?_; ?_; clear_value t; rotate_left; subst t)
    | (intro t; subst t; beta_reduce)
    | lift_lets
    | split
    | (with_reducible apply State.setFlag_keeps)
    | (with_reducible apply State.setReg_keeps)
    | (with_reducible apply State.raise_keeps)
    | (with_reducible apply Keeps.with)
    | (with_reducible apply Keeps.host)
    | (with_reducible apply Keeps.sheets)
    | (with_reducible apply Keeps.slots)
    | (with_reducible apply Keeps.fwd)
    | (with_reducible apply Keeps.fifo))

theorem State.setOn_keeps {σ : State} (rail : Nat) (b : Bool) (s : State) (h : Keeps σ s) : Keeps σ (State.setOn rail b s) := by
  unfold State.setOn
  repeat' (first
    | (with_reducible assumption)
    | (intro t; refine_lift have ht : Keeps σ t := ?_; ?_; clear_value t; rotate_left; subst t)
    | (intro t; subst t; beta_reduce)
    | lift_lets
    | split
    | (with_reducible apply State.setReg_keeps)
    | (with_reducible apply Keeps.with)
    | (with_reducible apply Keeps.host)
    | (with_reducible apply Keeps.sheets)
    | (with_reducible apply Keeps.slots)
    | (with_reducible apply Keeps.fwd)
    | (with_reducible apply Keeps.fifo))

theorem State.railDown_keeps {σ : State} (rail : Nat) (s : State) (h : Keeps σ s) : Keeps σ (State.railDown rail s) := by
  unfold State.railDown
  repeat' (first
    | (with_reducible assumption)
    | (intro t; refine_lift have ht : Keeps σ t := ?_; ?_; clear_value t; rotate_left; subst t)
    | (intro t; subst t; beta_reduce)
    | lift_lets
    | split
    | (with_reducible apply State.setPg_keeps)
    | (with_reducible apply State.setOn_keeps)
    | (with_reducible apply State.setFld_keeps)
    | (with_reducible apply Keeps.with)
    | (with_reducible apply Keeps.host)
    | (with_reducible apply Keeps.sheets)
    | (with_reducible apply Keeps.slots)
    | (with_reducible apply Keeps.fwd)
    | (with_reducible apply Keeps.fifo))

theorem State.dropInjection_keeps {σ : State} (n : Nat) (s : State) (h : Keeps σ s) : Keeps σ (State.dropInjection n s) := by
  unfold State.dropInjection
  repeat' (first
    | (with_reducible assumption)
    | (intro t; refine_lift have ht : Keeps σ t := ?_; ?_; clear_value t; rotate_left; subst t)
    | (intro t; subst t; beta_reduce)
    | lift_lets
    | split
    | (with_reducible apply State.raise_keeps)
    | (with_reducible apply State.setFld_keeps)
    | (with_reducible apply Keeps.with)
    | (with_reducible apply Keeps.host)
    | (with_reducible apply Keeps.sheets)
    | (with_reducible apply Keeps.slots)
    | (with_reducible apply Keeps.fwd)
    | (with_reducible apply Keeps.fifo))

theorem State.syncLanes_keeps {σ : State} (n : Nat) (s : State) (h : Keeps σ s) : Keeps σ (State.syncLanes n s) := by
  unfold State.syncLanes
  repeat' (first
    | (with_reducible assumption)
    | (intro t; refine_lift have ht : Keeps σ t := ?_; ?_; clear_value t; rotate_left; subst t)
    | (intro t; subst t; beta_reduce)
    | lift_lets
    | split
    | (with_reducible refine forEach_keeps (fun _ _ _ => ?_) ?_)
    | (with_reducible refine onlyIf_keeps (fun _ _ => ?_) ?_)
    | (with_reducible apply State.updBrick_keeps)
    | (with_reducible apply Keeps.with)
    | (with_reducible apply Keeps.host)
    | (with_reducible apply Keeps.sheets)
    | (with_reducible apply Keeps.slots)
    | (with_reducible apply Keeps.fwd)
    | (with_reducible apply Keeps.fifo))

theorem State.laneSheet_keeps {σ : State} (code : Nat) (n : Nat) (l : Lane) (hold : Option Nat) (s : State) (h : Keeps σ s) : Keeps σ (State.laneSheet code n l hold s) := by
  unfold State.laneSheet
  repeat' (first
    | (with_reducible assumption)
    | (intro t; refine_lift have ht : Keeps σ t := ?_; ?_; clear_value t; rotate_left; subst t)
    | (intro t; subst t; beta_reduce)
    | lift_lets
    | split
    | (with_reducible apply State.sheet_keeps)
    | (with_reducible apply Keeps.with)
    | (with_reducible apply Keeps.host)
    | (with_reducible apply Keeps.sheets)
    | (with_reducible apply Keeps.slots)
    | (with_reducible apply Keeps.fwd)
    | (with_reducible apply Keeps.fifo))

theorem State.endHold_keeps {σ : State} (n : Nat) (code : Nat) (l : Lane) (s : State) (h : Keeps σ s) : Keeps σ (State.endHold n code l s) := by
  unfold State.endHold
  repeat' (first
    | (with_reducible assumption)
    | (intro t; refine_lift have ht : Keeps σ t := ?_; ?_; clear_value t; rotate_left; subst t)
    | (intro t; subst t; beta_reduce)
    | lift_lets
    | split
    | (with_reducible apply State.setFld_keeps)
    | (with_reducible apply State.laneSheet_keeps)
    | (with_reducible apply Keeps.with)
    | (with_reducible apply Keeps.host)
    | (with_reducible apply Keeps.sheets)
    | (with_reducible apply Keeps.slots)
    | (with_reducible apply Keeps.fwd)
    | (with_reducible apply Keeps.fifo))

theorem State.cutHold_keeps {σ : State} (n : Nat) (s : State) (h : Keeps σ s) : Keeps σ (State.cutHold n s) := by
  unfold State.cutHold
  repeat' (first
    | (with_reducible assumption)
    | (intro t; refine_lift have ht : Keeps σ t := ?_; ?_; clear_value t; rotate_left; subst t)
    | (intro t; subst t; beta_reduce)
    | lift_lets
    | split
    | (with_reducible apply State.endHold_keeps)
    | (with_reducible apply Keeps.with)
    | (with_reducible apply Keeps.host)
    | (with_reducible apply Keeps.sheets)
    | (with_reducible apply Keeps.slots)
    | (with_reducible apply Keeps.fwd)
    | (with_reducible apply Keeps.fifo))

theorem State.haltBrick_keeps {σ : State} (n : Nat) (s : State) (h : Keeps σ s) : Keeps σ (State.haltBrick n s) := by
  unfold State.haltBrick
  repeat' (first
    | (with_reducible assumption)
    | (intro t; refine_lift have ht : Keeps σ t := ?_; ?_; clear_value t; rotate_left; subst t)
    | (intro t; subst t; beta_reduce)
    | lift_lets
    | split
    | (with_reducible refine onlyIf_keeps (fun _ _ => ?_) ?_)
    | (with_reducible apply State.dropInjection_keeps)
    | (with_reducible apply State.cutHold_keeps)
    | (with_reducible apply State.setFld_keeps)
    | (with_reducible apply State.setReg_keeps)
    | (with_reducible apply State.setBrkState_keeps)
    | (with_reducible apply State.updBrick_keeps)
    | (with_reducible apply State.syncLanes_keeps)
    | (with_reducible apply State.failRecs_keeps)
    | (with_reducible apply State.leaderOff_keeps)
    | (with_reducible apply Keeps.with)
    | (with_reducible apply Keeps.host)
    | (with_reducible apply Keeps.sheets)
    | (with_reducible apply Keeps.slots)
    | (with_reducible apply Keeps.fwd)
    | (with_reducible apply Keeps.fifo))

theorem State.dropAll_keeps {σ : State} (s : State) (h : Keeps σ s) : Keeps σ (State.dropAll s) := by
  unfold State.dropAll
  repeat' (first
    | (with_reducible assumption)
    | (intro t; refine_lift have ht : Keeps σ t := ?_; ?_; clear_value t; rotate_left; subst t)
    | (intro t; subst t; beta_reduce)
    | lift_lets
    | split
    | (with_reducible refine onlyIf_keeps (fun _ _ => ?_) ?_)
    | (with_reducible apply State.send_keeps)
    | (with_reducible refine forEach_keeps (fun _ _ _ => ?_) ?_)
    | (with_reducible apply State.haltBrick_keeps)
    | (with_reducible apply State.railDown_keeps)
    | (with_reducible apply State.setFld_keeps)
    | (with_reducible apply State.seqRefresh_keeps)
    | (with_reducible apply Keeps.with)
    | (with_reducible apply Keeps.host)
    | (with_reducible apply Keeps.sheets)
    | (with_reducible apply Keeps.slots)
    | (with_reducible apply Keeps.fwd)
    | (with_reducible apply Keeps.fifo))

theorem State.runBefore_keeps {σ : State} (s : State) (h : Keeps σ s) : Keeps σ (State.runBefore s) := by
  unfold State.runBefore
  repeat' (first
    | (with_reducible assumption)
    | (intro t; refine_lift have ht : Keeps σ t := ?_; ?_; clear_value t; rotate_left; subst t)
    | (intro t; subst t; beta_reduce)
    | lift_lets
    | split
    | (with_reducible apply Keeps.with)
    | (with_reducible apply Keeps.host)
    | (with_reducible apply Keeps.sheets)
    | (with_reducible apply Keeps.slots)
    | (with_reducible apply Keeps.fwd)
    | (with_reducible apply Keeps.fifo))

theorem State.recode_keeps {σ : State} (brick : Option Nat) (code : Nat) (s : State) (h : Keeps σ s) : Keeps σ (State.recode brick code s) := by
  unfold State.recode
  repeat' (first
    | (with_reducible assumption)
    | (intro t; refine_lift have ht : Keeps σ t := ?_; ?_; clear_value t; rotate_left; subst t)
    | (intro t; subst t; beta_reduce)
    | lift_lets
    | split
    | (with_reducible apply State.setFld_keeps)
    | (with_reducible apply Keeps.with)
    | (with_reducible apply Keeps.host)
    | (with_reducible apply Keeps.sheets)
    | (with_reducible apply Keeps.slots)
    | (with_reducible apply Keeps.fwd)
    | (with_reducible apply Keeps.fifo))

theorem State.markOff_keeps {σ : State} (brick : Option Nat) (code : Nat) (remote : Option (Nat × Bool)) (s : State) (h : Keeps σ s) : Keeps σ (State.markOff brick code remote s) := by
  unfold State.markOff
  repeat' (first
    | (with_reducible assumption)
    | (intro t; refine_lift have ht : Keeps σ t := ?_; ?_; clear_value t; rotate_left; subst t)
    | (intro t; subst t; beta_reduce)
    | lift_lets
    | split
    | (with_reducible apply State.setReg_keeps)
    | (with_reducible apply Keeps.with)
    | (with_reducible apply Keeps.host)
    | (with_reducible apply Keeps.sheets)
    | (with_reducible apply Keeps.slots)
    | (with_reducible apply Keeps.fwd)
    | (with_reducible apply Keeps.fifo))

theorem State.allOffBody_keeps {σ : State} (brick : Option Nat) (code : Nat) (remote : Option (Nat × Bool)) (s : State) (h : Keeps σ s) : Keeps σ (State.allOffBody brick code remote s) := by
  unfold State.allOffBody
  repeat' (first
    | (with_reducible assumption)
    | (intro t; refine_lift have ht : Keeps σ t := ?_; ?_; clear_value t; rotate_left; subst t)
    | (intro t; subst t; beta_reduce)
    | lift_lets
    | split
    | (with_reducible apply State.recode_keeps)
    | (with_reducible apply State.endSession_keeps)
    | (with_reducible apply State.dropAll_keeps)
    | (with_reducible apply State.markOff_keeps)
    | (with_reducible apply State.abortRelay_keeps)
    | (with_reducible apply State.send_keeps)
    | (with_reducible apply State.raise_keeps)
    | (with_reducible apply Keeps.with)
    | (with_reducible apply Keeps.host)
    | (with_reducible apply Keeps.sheets)
    | (with_reducible apply Keeps.slots)
    | (with_reducible apply Keeps.fwd)
    | (with_reducible apply Keeps.fifo))

theorem State.allOff_keeps {σ : State} (code : Nat) (payload : List Byte) (remote : Option (Nat × Bool)) (s : State) (h : Keeps σ s) : Keeps σ (State.allOff code payload remote s) := by
  unfold State.allOff
  repeat' (first
    | (with_reducible assumption)
    | (intro t; refine_lift have ht : Keeps σ t := ?_; ?_; clear_value t; rotate_left; subst t)
    | (intro t; subst t; beta_reduce)
    | lift_lets
    | split
    | (with_reducible apply State.allOffBody_keeps)
    | (with_reducible apply State.sheet_keeps)
    | (with_reducible apply Keeps.with)
    | (with_reducible apply Keeps.host)
    | (with_reducible apply Keeps.sheets)
    | (with_reducible apply Keeps.slots)
    | (with_reducible apply Keeps.fwd)
    | (with_reducible apply Keeps.fifo))

theorem State.brickOff_keeps {σ : State} (n : Nat) (code : Nat) (payload : List Byte) (s : State) (h : Keeps σ s) : Keeps σ (State.brickOff n code payload s) := by
  unfold State.brickOff
  repeat' (first
    | (with_reducible assumption)
    | (intro t; refine_lift have ht : Keeps σ t := ?_; ?_; clear_value t; rotate_left; subst t)
    | (intro t; subst t; beta_reduce)
    | lift_lets
    | split
    | (with_reducible apply State.allOffBody_keeps)
    | (with_reducible apply State.sheet_keeps)
    | (with_reducible apply Keeps.with)
    | (with_reducible apply Keeps.host)
    | (with_reducible apply Keeps.sheets)
    | (with_reducible apply Keeps.slots)
    | (with_reducible apply Keeps.fwd)
    | (with_reducible apply Keeps.fifo))

theorem State.rateSheet_keeps {σ : State} (code : Nat) (size : Nat) (grew : Nat) (s : State) (h : Keeps σ s) : Keeps σ (State.rateSheet code size grew s) := by
  unfold State.rateSheet
  repeat' (first
    | (with_reducible assumption)
    | (intro t; refine_lift have ht : Keeps σ t := ?_; ?_; clear_value t; rotate_left; subst t)
    | (intro t; subst t; beta_reduce)
    | lift_lets
    | split
    | (with_reducible apply State.sheet_keeps)
    | (with_reducible apply Keeps.with)
    | (with_reducible apply Keeps.host)
    | (with_reducible apply Keeps.sheets)
    | (with_reducible apply Keeps.slots)
    | (with_reducible apply Keeps.fwd)
    | (with_reducible apply Keeps.fifo))

theorem State.countFault_keeps {σ : State} (cnt : Fld) (ev : Fld) (src : Nat) (code : Nat) (size : Nat) (s : State) (h : Keeps σ s) : Keeps σ (State.countFault cnt ev src code size s) := by
  unfold State.countFault
  repeat' (first
    | (with_reducible assumption)
    | (intro t; refine_lift have ht : Keeps σ t := ?_; ?_; clear_value t; rotate_left; subst t)
    | (intro t; subst t; beta_reduce)
    | lift_lets
    | split
    | (with_reducible apply State.bump_keeps)
    | (with_reducible apply State.rateSheet_keeps)
    | (with_reducible apply State.flagRaise_keeps)
    | (with_reducible apply Keeps.with)
    | (with_reducible apply Keeps.host)
    | (with_reducible apply Keeps.sheets)
    | (with_reducible apply Keeps.slots)
    | (with_reducible apply Keeps.fwd)
    | (with_reducible apply Keeps.fifo))

theorem State.disturb_keeps {σ : State} (s : State) (h : Keeps σ s) : Keeps σ (State.disturb s) := by
  unfold State.disturb
  repeat' (first
    | (with_reducible assumption)
    | (intro t; refine_lift have ht : Keeps σ t := ?_; ?_; clear_value t; rotate_left; subst t)
    | (intro t; subst t; beta_reduce)
    | lift_lets
    | split
    | (with_reducible apply Keeps.with)
    | (with_reducible apply Keeps.host)
    | (with_reducible apply Keeps.sheets)
    | (with_reducible apply Keeps.slots)
    | (with_reducible apply Keeps.fwd)
    | (with_reducible apply Keeps.fifo))

theorem State.missTrigger_keeps {σ : State} (s : State) (h : Keeps σ s) : Keeps σ (State.missTrigger s) := by
  unfold State.missTrigger
  repeat' (first
    | (with_reducible assumption)
    | (intro t; refine_lift have ht : Keeps σ t := ?_; ?_; clear_value t; rotate_left; subst t)
    | (intro t; subst t; beta_reduce)
    | lift_lets
    | split
    | (with_reducible apply State.disturb_keeps)
    | (with_reducible apply State.countFault_keeps)
    | (with_reducible apply Keeps.with)
    | (with_reducible apply Keeps.host)
    | (with_reducible apply Keeps.sheets)
    | (with_reducible apply Keeps.slots)
    | (with_reducible apply Keeps.fwd)
    | (with_reducible apply Keeps.fifo))

theorem State.skipRound_keeps {σ : State} (s : State) (h : Keeps σ s) : Keeps σ (State.skipRound s) := by
  unfold State.skipRound
  repeat' (first
    | (with_reducible assumption)
    | (intro t; refine_lift have ht : Keeps σ t := ?_; ?_; clear_value t; rotate_left; subst t)
    | (intro t; subst t; beta_reduce)
    | lift_lets
    | split
    | (with_reducible apply State.countFault_keeps)
    | (with_reducible apply State.disturb_keeps)
    | (with_reducible apply Keeps.with)
    | (with_reducible apply Keeps.host)
    | (with_reducible apply Keeps.sheets)
    | (with_reducible apply Keeps.slots)
    | (with_reducible apply Keeps.fwd)
    | (with_reducible apply Keeps.fifo))

theorem State.gapBank_keeps {σ : State} (a : Time) (b : Time) (s : State) (h : Keeps σ s) : Keeps σ (State.gapBank a b s) := by
  unfold State.gapBank
  repeat' (first
    | (with_reducible assumption)
    | (intro t; refine_lift have ht : Keeps σ t := ?_; ?_; clear_value t; rotate_left; subst t)
    | (intro t; subst t; beta_reduce)
    | lift_lets
    | split
    | (with_reducible refine forEach_keeps (fun _ _ _ => ?_) ?_)
    | (with_reducible apply State.setReg_keeps)
    | (with_reducible apply Keeps.with)
    | (with_reducible apply Keeps.host)
    | (with_reducible apply Keeps.sheets)
    | (with_reducible apply Keeps.slots)
    | (with_reducible apply Keeps.fwd)
    | (with_reducible apply Keeps.fifo))

theorem State.meterGap_keeps {σ : State} (stamp : Time) (level : Nat) (s : State) (h : Keeps σ s) : Keeps σ (State.meterGap stamp level s) := by
  unfold State.meterGap
  repeat' (first
    | (with_reducible assumption)
    | (intro t; refine_lift have ht : Keeps σ t := ?_; ?_; clear_value t; rotate_left; subst t)
    | (intro t; subst t; beta_reduce)
    | lift_lets
    | split
    | (with_reducible apply State.gapBank_keeps)
    | (with_reducible apply State.flagRaise_keeps)
    | (with_reducible apply State.sheet_keeps)
    | (with_reducible apply Keeps.with)
    | (with_reducible apply Keeps.host)
    | (with_reducible apply Keeps.sheets)
    | (with_reducible apply Keeps.slots)
    | (with_reducible apply Keeps.fwd)
    | (with_reducible apply Keeps.fifo))

theorem State.meterTrigger_keeps {σ : State} (trig : Nat) (stamp : Time) (s : State) (h : Keeps σ s) : Keeps σ (State.meterTrigger trig stamp s) := by
  unfold State.meterTrigger
  repeat' (first
    | (with_reducible assumption)
    | (intro f; refine_lift have hf : ∀ u, Keeps σ u → Keeps σ (f u) := ?_; ?_; clear_value f; rotate_left; subst f; beta_reduce; intro u hu)
    | (intro f; refine_lift have hf : ∀ a u, Keeps σ u → Keeps σ (f a u) := ?_; ?_; clear_value f; rotate_left; subst f; beta_reduce; intro a u hu)
    | (with_reducible apply hf)
    | (intro t; refine_lift have ht : Keeps σ t := ?_; ?_; clear_value t; rotate_left; subst t)
    | (intro t; subst t; beta_reduce)
    | lift_lets
    | split
    | (with_reducible apply State.sheet_keeps)
    | (with_reducible apply State.meterGap_keeps)
    | (with_reducible apply Keeps.with)
    | (with_reducible apply Keeps.host)
    | (with_reducible apply Keeps.sheets)
    | (with_reducible apply Keeps.slots)
    | (with_reducible apply Keeps.fwd)
    | (with_reducible apply Keeps.fifo))

theorem State.pushPipe_keeps {σ : State} (adc : Nat) (l : List InFlight) (s : State) (h : Keeps σ s) : Keeps σ (State.pushPipe adc l s) := by
  unfold State.pushPipe
  repeat' (first
    | (with_reducible assumption)
    | (intro t; refine_lift have ht : Keeps σ t := ?_; ?_; clear_value t; rotate_left; subst t)
    | (intro t; subst t; beta_reduce)
    | lift_lets
    | split
    | (with_reducible apply Keeps.with)
    | (with_reducible apply Keeps.host)
    | (with_reducible apply Keeps.sheets)
    | (with_reducible apply Keeps.slots)
    | (with_reducible apply Keeps.fwd)
    | (with_reducible apply Keeps.fifo))

theorem State.stepDac_keeps {σ : State} (s : State) (h : Keeps σ s) : Keeps σ (State.stepDac s) := by
  unfold State.stepDac
  repeat' (first
    | (with_reducible assumption)
    | (intro t; refine_lift have ht : Keeps σ t := ?_; ?_; clear_value t; rotate_left; subst t)
    | (intro t; subst t; beta_reduce)
    | lift_lets
    | split
    | (with_reducible apply State.setFlag_keeps)
    | (with_reducible refine onlyIf_keeps (fun _ _ => ?_) ?_)
    | (with_reducible apply State.raise_keeps)
    | (with_reducible apply Keeps.with)
    | (with_reducible apply Keeps.host)
    | (with_reducible apply Keeps.sheets)
    | (with_reducible apply Keeps.slots)
    | (with_reducible apply Keeps.fwd)
    | (with_reducible apply Keeps.fifo))

theorem State.injectHeld_keeps {σ : State} (held : List (Nat × BitVec 14)) (s : State) (h : Keeps σ s) : Keeps σ (State.injectHeld held s).2 := by
  unfold State.injectHeld
  repeat' (first
    | (with_reducible assumption)
    | (intro t; refine_lift have ht : Keeps σ t := ?_; ?_; clear_value t; rotate_left; subst t)
    | (intro t; subst t; beta_reduce)
    | lift_lets
    | split
    | (with_reducible apply State.takeFree_keeps)
    | (with_reducible apply Keeps.with)
    | (with_reducible apply Keeps.host)
    | (with_reducible apply Keeps.sheets)
    | (with_reducible apply Keeps.slots)
    | (with_reducible apply Keeps.fwd)
    | (with_reducible apply Keeps.fifo)
    | (dsimp only))

theorem State.syncMarks_keeps {σ : State} (s : State) (h : Keeps σ s) : Keeps σ (State.syncMarks s) := by
  unfold State.syncMarks
  repeat' (first
    | (with_reducible assumption)
    | (intro t; refine_lift have ht : Keeps σ t := ?_; ?_; clear_value t; rotate_left; subst t)
    | (intro t; subst t; beta_reduce)
    | lift_lets
    | split
    | (with_reducible apply Keeps.with)
    | (with_reducible apply Keeps.host)
    | (with_reducible apply Keeps.sheets)
    | (with_reducible apply Keeps.slots)
    | (with_reducible apply Keeps.fwd)
    | (with_reducible apply Keeps.fifo))

theorem State.retrim_keeps {σ : State} (s : State) (h : Keeps σ s) : Keeps σ (State.retrim s) := by
  unfold State.retrim
  repeat' (first
    | (with_reducible assumption)
    | (intro t; refine_lift have ht : Keeps σ t := ?_; ?_; clear_value t; rotate_left; subst t)
    | (intro t; subst t; beta_reduce)
    | lift_lets
    | split
    | (with_reducible apply State.syncMarks_keeps)
    | (with_reducible apply Keeps.with)
    | (with_reducible apply Keeps.host)
    | (with_reducible apply Keeps.sheets)
    | (with_reducible apply Keeps.slots)
    | (with_reducible apply Keeps.fwd)
    | (with_reducible apply Keeps.fifo))

theorem State.cellTrigger_keeps {σ : State} (held : List (Nat × BitVec 14)) (trig : Nat) (stamp : Time) (s : State) (h : Keeps σ s) : Keeps σ (State.cellTrigger held trig stamp s).1 := by
  unfold State.cellTrigger
  repeat' (first
    | (with_reducible assumption)
    | (intro t; refine_lift have ht : Keeps σ t := ?_; ?_; clear_value t; rotate_left; subst t)
    | (intro t; subst t; beta_reduce)
    | lift_lets
    | split
    | (with_reducible apply State.skipRound_keeps)
    | (with_reducible apply State.pushPipe_keeps)
    | (with_reducible apply Keeps.with)
    | (with_reducible apply Keeps.host)
    | (with_reducible apply Keeps.sheets)
    | (with_reducible apply Keeps.slots)
    | (with_reducible apply Keeps.fwd)
    | (with_reducible apply Keeps.fifo)
    | (dsimp only))

theorem State.trigger_keeps {σ : State} (held : List (Nat × BitVec 14)) (stamp : Time) (k : Nat) (lead : Option Nat) (s : State) (h : Keeps σ s) : Keeps σ (State.trigger held stamp k lead s) := by
  unfold State.trigger
  repeat' (first
    | (with_reducible assumption)
    | (intro t; refine_lift have ht : Keeps σ t := ?_; ?_; clear_value t; rotate_left; subst t)
    | (intro t; subst t; beta_reduce)
    | lift_lets
    | split
    | (with_reducible apply State.missTrigger_keeps)
    | (with_reducible apply State.stepDac_keeps)
    | (with_reducible apply State.injectHeld_keeps)
    | (with_reducible apply State.pushPipe_keeps)
    | (with_reducible apply State.cellTrigger_keeps)
    | (with_reducible apply State.meterTrigger_keeps)
    | (with_reducible apply Keeps.with)
    | (with_reducible apply Keeps.host)
    | (with_reducible apply Keeps.sheets)
    | (with_reducible apply Keeps.slots)
    | (with_reducible apply Keeps.fwd)
    | (with_reducible apply Keeps.fifo)
    | (dsimp only))

theorem State.retakeTrigger_keeps {σ : State} (held : List (Nat × BitVec 14)) (stamp : Time) (lead : Option Nat) (s : State) (h : Keeps σ s) : Keeps σ (State.retakeTrigger held stamp lead s) := by
  unfold State.retakeTrigger
  repeat' (first
    | (with_reducible assumption)
    | (intro t; refine_lift have ht : Keeps σ t := ?_; ?_; clear_value t; rotate_left; subst t)
    | (intro t; subst t; beta_reduce)
    | lift_lets
    | split
    | (with_reducible apply State.injectHeld_keeps)
    | (with_reducible apply State.syncMarks_keeps)
    | (with_reducible apply Keeps.with)
    | (with_reducible apply Keeps.host)
    | (with_reducible apply Keeps.sheets)
    | (with_reducible apply Keeps.slots)
    | (with_reducible apply Keeps.fwd)
    | (with_reducible apply Keeps.fifo)
    | (dsimp only))

theorem State.sourceTrigger_keeps {σ : State} (held : List (Nat × BitVec 14)) (stamp : Time) (lead : Option Nat) (first : Bool) (s : State) (h : Keeps σ s) : Keeps σ (State.sourceTrigger held stamp lead first s) := by
  unfold State.sourceTrigger
  repeat' (first
    | (with_reducible assumption)
    | (intro t; refine_lift have ht : Keeps σ t := ?_; ?_; clear_value t; rotate_left; subst t)
    | (intro t; subst t; beta_reduce)
    | lift_lets
    | split
    | (with_reducible apply State.retakeTrigger_keeps)
    | (with_reducible apply State.trigger_keeps)
    | (with_reducible apply Keeps.with)
    | (with_reducible apply Keeps.host)
    | (with_reducible apply Keeps.sheets)
    | (with_reducible apply Keeps.slots)
    | (with_reducible apply Keeps.fwd)
    | (with_reducible apply Keeps.fifo))

theorem State.saturate_keeps {σ : State} (k : Nat) (s : State) (h : Keeps σ s) : Keeps σ (State.saturate k s) := by
  unfold State.saturate
  repeat' (first
    | (with_reducible assumption)
    | (intro t; refine_lift have ht : Keeps σ t := ?_; ?_; clear_value t; rotate_left; subst t)
    | (intro t; subst t; beta_reduce)
    | lift_lets
    | split
    | (with_reducible apply State.flagRaise_keeps)
    | (with_reducible apply State.sheet_keeps)
    | (with_reducible apply Keeps.with)
    | (with_reducible apply Keeps.host)
    | (with_reducible apply Keeps.sheets)
    | (with_reducible apply Keeps.slots)
    | (with_reducible apply Keeps.fwd)
    | (with_reducible apply Keeps.fifo))

theorem State.integrate_keeps {σ : State} (d : Due) (s : State) (h : Keeps σ s) : Keeps σ (State.integrate d s) := by
  unfold State.integrate
  repeat' (first
    | (with_reducible assumption)
    | (intro t; refine_lift have ht : Keeps σ t := ?_; ?_; clear_value t; rotate_left; subst t)
    | (intro t; subst t; beta_reduce)
    | lift_lets
    | split
    | (with_reducible refine forEach_keeps (fun _ _ _ => ?_) ?_)
    | (with_reducible apply State.saturate_keeps)
    | (with_reducible apply Keeps.with)
    | (with_reducible apply Keeps.host)
    | (with_reducible apply Keeps.sheets)
    | (with_reducible apply Keeps.slots)
    | (with_reducible apply Keeps.fwd)
    | (with_reducible apply Keeps.fifo))

theorem State.takeDue_keeps {σ : State} (d : Due) (s : State) (h : Keeps σ s) : Keeps σ (State.takeDue d s) := by
  unfold State.takeDue
  repeat' (first
    | (with_reducible assumption)
    | (intro t; refine_lift have ht : Keeps σ t := ?_; ?_; clear_value t; rotate_left; subst t)
    | (intro t; subst t; beta_reduce)
    | lift_lets
    | split
    | (with_reducible apply State.integrate_keeps)
    | (with_reducible apply Keeps.with)
    | (with_reducible apply Keeps.host)
    | (with_reducible apply Keeps.sheets)
    | (with_reducible apply Keeps.slots)
    | (with_reducible apply Keeps.fwd)
    | (with_reducible apply Keeps.fifo))

theorem State.settleDue_keeps {σ : State} (s : State) (h : Keeps σ s) : Keeps σ (State.settleDue s) := by
  unfold State.settleDue
  repeat' (first
    | (with_reducible assumption)
    | (intro t; refine_lift have ht : Keeps σ t := ?_; ?_; clear_value t; rotate_left; subst t)
    | (intro t; subst t; beta_reduce)
    | lift_lets
    | split
    | (with_reducible refine forEach_keeps (fun _ _ _ => ?_) ?_)
    | (with_reducible apply State.takeDue_keeps)
    | (with_reducible apply Keeps.with)
    | (with_reducible apply Keeps.host)
    | (with_reducible apply Keeps.sheets)
    | (with_reducible apply Keeps.slots)
    | (with_reducible apply Keeps.fwd)
    | (with_reducible apply Keeps.fifo))

theorem State.meterSample_keeps {σ : State} (ch : Nat) (trig : Nat) (v : Int) (s : State) (h : Keeps σ s) : Keeps σ (State.meterSample ch trig v s) := by
  unfold State.meterSample
  repeat' (first
    | (with_reducible assumption)
    | (intro t; refine_lift have ht : Keeps σ t := ?_; ?_; clear_value t; rotate_left; subst t)
    | (intro t; subst t; beta_reduce)
    | lift_lets
    | split
    | (with_reducible apply State.settleDue_keeps)
    | (with_reducible apply Keeps.with)
    | (with_reducible apply Keeps.host)
    | (with_reducible apply Keeps.sheets)
    | (with_reducible apply Keeps.slots)
    | (with_reducible apply Keeps.fwd)
    | (with_reducible apply Keeps.fifo))

theorem State.latchReam_keeps {σ : State} (e : Time) (extra : Nat) (s : State) (h : Keeps σ s) : Keeps σ (State.latchReam e extra s) := by
  unfold State.latchReam
  repeat' (first
    | (with_reducible assumption)
    | (intro t; refine_lift have ht : Keeps σ t := ?_; ?_; clear_value t; rotate_left; subst t)
    | (intro t; subst t; beta_reduce)
    | lift_lets
    | split
    | (with_reducible refine forEach_keeps (fun _ _ _ => ?_) ?_)
    | (with_reducible apply State.setReg_keeps)
    | (with_reducible apply State.setFld_keeps)
    | (with_reducible apply State.flagRaise_keeps)
    | (with_reducible apply State.takeFree_keeps)
    | (with_reducible apply State.sheet_keeps)
    | (with_reducible apply Keeps.with)
    | (with_reducible apply Keeps.host)
    | (with_reducible apply Keeps.sheets)
    | (with_reducible apply Keeps.slots)
    | (with_reducible apply Keeps.fwd)
    | (with_reducible apply Keeps.fifo)
    | (dsimp only))

theorem State.releaseHeld_keeps {σ : State} (s : State) (h : Keeps σ s) : Keeps σ (State.releaseHeld s) := by
  unfold State.releaseHeld
  repeat' (first
    | (with_reducible assumption)
    | (intro t; refine_lift have ht : Keeps σ t := ?_; ?_; clear_value t; rotate_left; subst t)
    | (intro t; subst t; beta_reduce)
    | lift_lets
    | split
    | (with_reducible refine forEach_keeps (fun _ _ _ => ?_) ?_)
    | (with_reducible apply State.takeDue_keeps)
    | (with_reducible apply Keeps.with)
    | (with_reducible apply Keeps.host)
    | (with_reducible apply Keeps.sheets)
    | (with_reducible apply Keeps.slots)
    | (with_reducible apply Keeps.fwd)
    | (with_reducible apply Keeps.fifo))

theorem State.drainDue_keeps {σ : State} (e : Time) (s : State) (h : Keeps σ s) : Keeps σ (State.drainDue e s) := by
  unfold State.drainDue
  repeat' (first
    | (with_reducible assumption)
    | (intro t; refine_lift have ht : Keeps σ t := ?_; ?_; clear_value t; rotate_left; subst t)
    | (intro t; subst t; beta_reduce)
    | lift_lets
    | split
    | (with_reducible apply State.settleDue_keeps)
    | (with_reducible apply Keeps.with)
    | (with_reducible apply Keeps.host)
    | (with_reducible apply Keeps.sheets)
    | (with_reducible apply Keeps.slots)
    | (with_reducible apply Keeps.fwd)
    | (with_reducible apply Keeps.fifo))

theorem State.latchChange_keeps {σ : State} (s : State) (h : Keeps σ s) : Keeps σ (State.latchChange s) := by
  unfold State.latchChange
  repeat' (first
    | (with_reducible assumption)
    | (intro t; refine_lift have ht : Keeps σ t := ?_; ?_; clear_value t; rotate_left; subst t)
    | (intro t; subst t; beta_reduce)
    | lift_lets
    | split
    | (with_reducible apply State.releaseHeld_keeps)
    | (with_reducible apply State.latchReam_keeps)
    | (with_reducible apply Keeps.with)
    | (with_reducible apply Keeps.host)
    | (with_reducible apply Keeps.sheets)
    | (with_reducible apply Keeps.slots)
    | (with_reducible apply Keeps.fwd)
    | (with_reducible apply Keeps.fifo))

theorem State.changeReamLen_keeps {σ : State} (len : Nat) (s : State) (h : Keeps σ s) : Keeps σ (State.changeReamLen len s) := by
  unfold State.changeReamLen
  repeat' (first
    | (with_reducible assumption)
    | (intro t; refine_lift have ht : Keeps σ t := ?_; ?_; clear_value t; rotate_left; subst t)
    | (intro t; subst t; beta_reduce)
    | lift_lets
    | split
    | (with_reducible apply State.drainDue_keeps)
    | (with_reducible refine onlyIf_keeps (fun _ _ => ?_) ?_)
    | (with_reducible apply State.latchChange_keeps)
    | (with_reducible apply Keeps.with)
    | (with_reducible apply Keeps.host)
    | (with_reducible apply Keeps.sheets)
    | (with_reducible apply Keeps.slots)
    | (with_reducible apply Keeps.fwd)
    | (with_reducible apply Keeps.fifo))

theorem State.takeCouches_keeps {σ : State} (step : Bool) (s : State) (was : State) (h : Keeps σ s) (h1 : Keeps σ was) : Keeps σ (State.takeCouches step s was) := by
  unfold State.takeCouches
  repeat' (first
    | (with_reducible assumption)
    | (intro t; refine_lift have ht : Keeps σ t := ?_; ?_; clear_value t; rotate_left; subst t)
    | (intro t; subst t; beta_reduce)
    | lift_lets
    | split
    | (with_reducible refine forEach_keeps (fun _ _ _ => ?_) ?_)
    | (with_reducible apply State.drainDue_keeps)
    | (with_reducible apply State.setFlag_keeps)
    | (with_reducible apply State.setFld_keeps)
    | (with_reducible apply State.flagRaise_keeps)
    | (with_reducible apply State.releaseHeld_keeps)
    | (with_reducible apply Keeps.with)
    | (with_reducible apply Keeps.host)
    | (with_reducible apply Keeps.sheets)
    | (with_reducible apply Keeps.slots)
    | (with_reducible apply Keeps.fwd)
    | (with_reducible apply Keeps.fifo))

theorem State.freeBank_keeps {σ : State} (k : Nat) (s : State) (h : Keeps σ s) : Keeps σ (State.freeBank k s) := by
  unfold State.freeBank
  repeat' (first
    | (with_reducible assumption)
    | (intro t; refine_lift have ht : Keeps σ t := ?_; ?_; clear_value t; rotate_left; subst t)
    | (intro t; subst t; beta_reduce)
    | lift_lets
    | split
    | (with_reducible apply State.setReg_keeps)
    | (with_reducible apply Keeps.with)
    | (with_reducible apply Keeps.host)
    | (with_reducible apply Keeps.sheets)
    | (with_reducible apply Keeps.slots)
    | (with_reducible apply Keeps.fwd)
    | (with_reducible apply Keeps.fifo))

theorem State.couchRequest_keeps {σ : State} (own : Bool) (id : Nat) (t : Time) (s : State) (h : Keeps σ s) : Keeps σ (State.couchRequest own id t s).2 := by
  unfold State.couchRequest
  repeat' (first
    | (with_reducible assumption)
    | (intro t; refine_lift have ht : Keeps σ t := ?_; ?_; clear_value t; rotate_left; subst t)
    | (intro t; subst t; beta_reduce)
    | lift_lets
    | split
    | (with_reducible apply State.setReg_keeps)
    | (with_reducible apply Keeps.with)
    | (with_reducible apply Keeps.host)
    | (with_reducible apply Keeps.sheets)
    | (with_reducible apply Keeps.slots)
    | (with_reducible apply Keeps.fwd)
    | (with_reducible apply Keeps.fifo)
    | (dsimp only))

theorem State.couchResult_keeps {σ : State} (result : Nat) (bank : Nat) (s : State) (h : Keeps σ s) : Keeps σ (State.couchResult result bank s) := by
  unfold State.couchResult
  repeat' (first
    | (with_reducible assumption)
    | (intro t; refine_lift have ht : Keeps σ t := ?_; ?_; clear_value t; rotate_left; subst t)
    | (intro t; subst t; beta_reduce)
    | lift_lets
    | split
    | (with_reducible apply State.setReg_keeps)
    | (with_reducible apply State.flagRaise_keeps)
    | (with_reducible apply Keeps.with)
    | (with_reducible apply Keeps.host)
    | (with_reducible apply Keeps.sheets)
    | (with_reducible apply Keeps.slots)
    | (with_reducible apply Keeps.fwd)
    | (with_reducible apply Keeps.fifo))

theorem State.stepped_keeps {σ : State} (s : State) (was : State) (h : Keeps σ s) (h1 : Keeps σ was) : Keeps σ (State.stepped s was) := by
  unfold State.stepped
  repeat' (first
    | (with_reducible assumption)
    | (intro t; refine_lift have ht : Keeps σ t := ?_; ?_; clear_value t; rotate_left; subst t)
    | (intro t; subst t; beta_reduce)
    | lift_lets
    | split
    | (with_reducible apply State.takeCouches_keeps)
    | (with_reducible apply State.flagRaise_keeps)
    | (with_reducible apply State.sheet_keeps)
    | (with_reducible apply State.drainDue_keeps)
    | (with_reducible apply State.releaseHeld_keeps)
    | (with_reducible apply State.latchReam_keeps)
    | (with_reducible apply State.disturb_keeps)
    | (with_reducible apply State.regrid_keeps)
    | (with_reducible apply Keeps.with)
    | (with_reducible apply Keeps.host)
    | (with_reducible apply Keeps.sheets)
    | (with_reducible apply Keeps.slots)
    | (with_reducible apply Keeps.fwd)
    | (with_reducible apply Keeps.fifo))

theorem State.clearHist_keeps {σ : State} (s : State) (h : Keeps σ s) : Keeps σ (State.clearHist s) := by
  unfold State.clearHist
  repeat' (first
    | (with_reducible assumption)
    | (intro t; refine_lift have ht : Keeps σ t := ?_; ?_; clear_value t; rotate_left; subst t)
    | (intro t; subst t; beta_reduce)
    | lift_lets
    | split
    | (with_reducible refine forEach_keeps (fun _ _ _ => ?_) ?_)
    | (with_reducible apply State.setReg_keeps)
    | (with_reducible apply Keeps.with)
    | (with_reducible apply Keeps.host)
    | (with_reducible apply Keeps.sheets)
    | (with_reducible apply Keeps.slots)
    | (with_reducible apply Keeps.fwd)
    | (with_reducible apply Keeps.fifo))

theorem State.clearExtremes_keeps {σ : State} (s : State) (h : Keeps σ s) : Keeps σ (State.clearExtremes s) := by
  unfold State.clearExtremes
  repeat' (first
    | (with_reducible assumption)
    | (intro t; refine_lift have ht : Keeps σ t := ?_; ?_; clear_value t; rotate_left; subst t)
    | (intro t; subst t; beta_reduce)
    | lift_lets
    | split
    | (with_reducible refine forEach_keeps (fun _ _ _ => ?_) ?_)
    | (with_reducible apply State.setReg_keeps)
    | (with_reducible apply Keeps.with)
    | (with_reducible apply Keeps.host)
    | (with_reducible apply Keeps.sheets)
    | (with_reducible apply Keeps.slots)
    | (with_reducible apply Keeps.fwd)
    | (with_reducible apply Keeps.fifo))

theorem State.passMarks_keeps {σ : State} (l : List Action) (s : State) (h : Keeps σ s) :
    Keeps σ (State.passMarks l s) := by
  induction l generalizing s with
  | nil => exact h.with h.host h.sheets h.slots h.fwd h.fifo
  | cons a r ih =>
    unfold State.passMarks
    split
    · refine ih _ ?_
      split
      · exact h
      · exact State.setFld_keeps _ _ _ h
    · exact h.with h.host h.sheets h.slots h.fwd h.fifo

theorem State.raiseCasc_keeps {σ : State} (s : State) (h : Keeps σ s) : Keeps σ (State.raiseCasc s) := by
  unfold State.raiseCasc
  repeat' (first
    | (with_reducible assumption)
    | (intro t; refine_lift have ht : Keeps σ t := ?_; ?_; clear_value t; rotate_left; subst t)
    | (intro t; subst t; beta_reduce)
    | lift_lets
    | split
    | (with_reducible apply Keeps.with)
    | (with_reducible apply Keeps.host)
    | (with_reducible apply Keeps.sheets)
    | (with_reducible apply Keeps.slots)
    | (with_reducible apply Keeps.fwd)
    | (with_reducible apply Keeps.fifo))

theorem State.reportRejoin_keeps {σ : State} (status : Nat) (s : State) (h : Keeps σ s) : Keeps σ (State.reportRejoin status s) := by
  unfold State.reportRejoin
  repeat' (first
    | (with_reducible assumption)
    | (intro t; refine_lift have ht : Keeps σ t := ?_; ?_; clear_value t; rotate_left; subst t)
    | (intro t; subst t; beta_reduce)
    | lift_lets
    | split
    | (with_reducible apply State.send_keeps)
    | (with_reducible apply Keeps.with)
    | (with_reducible apply Keeps.host)
    | (with_reducible apply Keeps.sheets)
    | (with_reducible apply Keeps.slots)
    | (with_reducible apply Keeps.fwd)
    | (with_reducible apply Keeps.fifo))

theorem State.endRun_keeps {σ : State} (s : State) (h : Keeps σ s) : Keeps σ (State.endRun s) := by
  unfold State.endRun
  repeat' (first
    | (with_reducible assumption)
    | (intro t; refine_lift have ht : Keeps σ t := ?_; ?_; clear_value t; rotate_left; subst t)
    | (intro t; subst t; beta_reduce)
    | lift_lets
    | split
    | (with_reducible apply State.seqRefresh_keeps)
    | (with_reducible apply State.raise_keeps)
    | (with_reducible apply State.setFld_keeps)
    | (with_reducible apply State.send_keeps)
    | (with_reducible apply State.reportRejoin_keeps)
    | (with_reducible apply State.flagRaise_keeps)
    | (with_reducible apply Keeps.with)
    | (with_reducible apply Keeps.host)
    | (with_reducible apply Keeps.sheets)
    | (with_reducible apply Keeps.slots)
    | (with_reducible apply Keeps.fwd)
    | (with_reducible apply Keeps.fifo))

theorem State.settleStep_keeps {σ : State} (s : State) (h : Keeps σ s) : Keeps σ (State.settleStep s) := by
  unfold State.settleStep
  repeat' (first
    | (with_reducible assumption)
    | (intro t; refine_lift have ht : Keeps σ t := ?_; ?_; clear_value t; rotate_left; subst t)
    | (intro t; subst t; beta_reduce)
    | lift_lets
    | split
    | (with_reducible apply State.raiseCasc_keeps)
    | (with_reducible apply State.passMarks_keeps)
    | (with_reducible apply State.endRun_keeps)
    | (with_reducible apply Keeps.with)
    | (with_reducible apply Keeps.host)
    | (with_reducible apply Keeps.sheets)
    | (with_reducible apply Keeps.slots)
    | (with_reducible apply Keeps.fwd)
    | (with_reducible apply Keeps.fifo))

theorem State.finishAction_keeps {σ : State} (s : State) (h : Keeps σ s) : Keeps σ (State.finishAction s) := by
  unfold State.finishAction
  repeat' (first
    | (with_reducible assumption)
    | (intro t; refine_lift have ht : Keeps σ t := ?_; ?_; clear_value t; rotate_left; subst t)
    | (intro t; subst t; beta_reduce)
    | lift_lets
    | split
    | (with_reducible apply State.settleStep_keeps)
    | (with_reducible apply Keeps.with)
    | (with_reducible apply Keeps.host)
    | (with_reducible apply Keeps.sheets)
    | (with_reducible apply Keeps.slots)
    | (with_reducible apply Keeps.fwd)
    | (with_reducible apply Keeps.fifo))

theorem State.legEvents_keeps {σ : State} (n : Nat) (ilk : Nat) (drop : Nat) (s : State) (h : Keeps σ s) : Keeps σ (State.legEvents n ilk drop s) := by
  unfold State.legEvents
  repeat' (first
    | (with_reducible assumption)
    | (intro t; refine_lift have ht : Keeps σ t := ?_; ?_; clear_value t; rotate_left; subst t)
    | (intro t; subst t; beta_reduce)
    | lift_lets
    | split
    | (with_reducible refine forEach_keeps (fun _ _ _ => ?_) ?_)
    | (with_reducible apply State.flagRaise_keeps)
    | (with_reducible apply State.bump_keeps)
    | (with_reducible apply Keeps.with)
    | (with_reducible apply Keeps.host)
    | (with_reducible apply Keeps.sheets)
    | (with_reducible apply Keeps.slots)
    | (with_reducible apply Keeps.fwd)
    | (with_reducible apply Keeps.fifo))

theorem State.runLeg_keeps {σ : State} (lim : Int) (m : Nat) (s : State) (h : Keeps σ s) : Keeps σ (State.runLeg lim m s) := by
  unfold State.runLeg
  repeat' (first
    | (with_reducible assumption)
    | (intro t; refine_lift have ht : Keeps σ t := ?_; ?_; clear_value t; rotate_left; subst t)
    | (intro t; subst t; beta_reduce)
    | lift_lets
    | split
    | (with_reducible apply State.legEvents_keeps)
    | (with_reducible apply State.updBrick_keeps)
    | (with_reducible apply Keeps.with)
    | (with_reducible apply Keeps.host)
    | (with_reducible apply Keeps.sheets)
    | (with_reducible apply Keeps.slots)
    | (with_reducible apply Keeps.fwd)
    | (with_reducible apply Keeps.fifo))

theorem State.takeLeg_keeps {σ : State} (u : Int) (m : Nat) (s : State) (h : Keeps σ s) : Keeps σ (State.takeLeg u m s) := by
  unfold State.takeLeg
  repeat' (first
    | (with_reducible assumption)
    | (intro t; refine_lift have ht : Keeps σ t := ?_; ?_; clear_value t; rotate_left; subst t)
    | (intro t; subst t; beta_reduce)
    | lift_lets
    | split
    | (with_reducible apply State.updBrick_keeps)
    | (with_reducible apply Keeps.with)
    | (with_reducible apply Keeps.host)
    | (with_reducible apply Keeps.sheets)
    | (with_reducible apply Keeps.slots)
    | (with_reducible apply Keeps.fwd)
    | (with_reducible apply Keeps.fifo))

theorem State.rollLeg_keeps {σ : State} (u : Int) (m : Nat) (s : State) (h : Keeps σ s) : Keeps σ (State.rollLeg u m s) := by
  unfold State.rollLeg
  repeat' (first
    | (with_reducible assumption)
    | (intro t; refine_lift have ht : Keeps σ t := ?_; ?_; clear_value t; rotate_left; subst t)
    | (intro t; subst t; beta_reduce)
    | lift_lets
    | split
    | (with_reducible apply State.updBrick_keeps)
    | (with_reducible apply Keeps.with)
    | (with_reducible apply Keeps.host)
    | (with_reducible apply Keeps.sheets)
    | (with_reducible apply Keeps.slots)
    | (with_reducible apply Keeps.fwd)
    | (with_reducible apply Keeps.fifo))

theorem State.emitEdges_keeps {σ : State} (s : State) (h : Keeps σ s) : Keeps σ (State.emitEdges s) := by
  unfold State.emitEdges
  repeat' (first
    | (with_reducible assumption)
    | (intro t; refine_lift have ht : Keeps σ t := ?_; ?_; clear_value t; rotate_left; subst t)
    | (intro t; subst t; beta_reduce)
    | lift_lets
    | split
    | (with_reducible refine forEach_keeps (fun _ _ _ => ?_) ?_)
    | (with_reducible apply State.runLeg_keeps)
    | (with_reducible apply Keeps.with)
    | (with_reducible apply Keeps.host)
    | (with_reducible apply Keeps.sheets)
    | (with_reducible apply Keeps.slots)
    | (with_reducible apply Keeps.fwd)
    | (with_reducible apply Keeps.fifo))

theorem State.startClock_keeps {σ : State} (ld : Nat) (m : Nat) (s : State) (h : Keeps σ s) : Keeps σ (State.startClock ld m s) := by
  unfold State.startClock
  repeat' (first
    | (with_reducible assumption)
    | (intro t; refine_lift have ht : Keeps σ t := ?_; ?_; clear_value t; rotate_left; subst t)
    | (intro t; subst t; beta_reduce)
    | lift_lets
    | split
    | (with_reducible apply State.updBrick_keeps)
    | (with_reducible apply Keeps.with)
    | (with_reducible apply Keeps.host)
    | (with_reducible apply Keeps.sheets)
    | (with_reducible apply Keeps.slots)
    | (with_reducible apply Keeps.fwd)
    | (with_reducible apply Keeps.fifo))

theorem State.passInstant_keeps {σ : State} (ld : Nat) (m : Nat) (s : State) (h : Keeps σ s) : Keeps σ (State.passInstant ld m s) := by
  unfold State.passInstant
  repeat' (first
    | (with_reducible assumption)
    | (intro t; refine_lift have ht : Keeps σ t := ?_; ?_; clear_value t; rotate_left; subst t)
    | (intro t; subst t; beta_reduce)
    | lift_lets
    | split
    | (with_reducible apply State.updBrick_keeps)
    | (with_reducible apply Keeps.with)
    | (with_reducible apply Keeps.host)
    | (with_reducible apply Keeps.sheets)
    | (with_reducible apply Keeps.slots)
    | (with_reducible apply Keeps.fwd)
    | (with_reducible apply Keeps.fifo))

theorem State.setRef_keeps {σ : State} (n : Nat) (v : Int) (s : State) (h : Keeps σ s) : Keeps σ (State.setRef n v s) := by
  unfold State.setRef
  repeat' (first
    | (with_reducible assumption)
    | (intro t; refine_lift have ht : Keeps σ t := ?_; ?_; clear_value t; rotate_left; subst t)
    | (intro t; subst t; beta_reduce)
    | lift_lets
    | split
    | (with_reducible apply State.setReg_keeps)
    | (with_reducible apply Keeps.with)
    | (with_reducible apply Keeps.host)
    | (with_reducible apply Keeps.sheets)
    | (with_reducible apply Keeps.slots)
    | (with_reducible apply Keeps.fwd)
    | (with_reducible apply Keeps.fifo))

theorem State.setCmd_keeps {σ : State} (n : Nat) (v : Int) (s : State) (h : Keeps σ s) : Keeps σ (State.setCmd n v s) := by
  unfold State.setCmd
  repeat' (first
    | (with_reducible assumption)
    | (intro t; refine_lift have ht : Keeps σ t := ?_; ?_; clear_value t; rotate_left; subst t)
    | (intro t; subst t; beta_reduce)
    | lift_lets
    | split
    | (with_reducible apply State.setReg_keeps)
    | (with_reducible apply Keeps.with)
    | (with_reducible apply Keeps.host)
    | (with_reducible apply Keeps.sheets)
    | (with_reducible apply Keeps.slots)
    | (with_reducible apply Keeps.fwd)
    | (with_reducible apply Keeps.fifo))

theorem State.disturbExciter_keeps {σ : State} (n : Nat) (s : State) (h : Keeps σ s) : Keeps σ (State.disturbExciter n s) := by
  unfold State.disturbExciter
  repeat' (first
    | (with_reducible assumption)
    | (intro t; refine_lift have ht : Keeps σ t := ?_; ?_; clear_value t; rotate_left; subst t)
    | (intro t; subst t; beta_reduce)
    | lift_lets
    | split
    | (with_reducible apply State.disturb_keeps)
    | (with_reducible apply Keeps.with)
    | (with_reducible apply Keeps.host)
    | (with_reducible apply Keeps.sheets)
    | (with_reducible apply Keeps.slots)
    | (with_reducible apply Keeps.fwd)
    | (with_reducible apply Keeps.fifo))

theorem State.stopExcite_keeps {σ : State} (n : Nat) (s : State) (h : Keeps σ s) : Keeps σ (State.stopExcite n s) := by
  unfold State.stopExcite
  repeat' (first
    | (with_reducible assumption)
    | (intro t; refine_lift have ht : Keeps σ t := ?_; ?_; clear_value t; rotate_left; subst t)
    | (intro t; subst t; beta_reduce)
    | lift_lets
    | split
    | (with_reducible apply Keeps.with)
    | (with_reducible apply Keeps.host)
    | (with_reducible apply Keeps.sheets)
    | (with_reducible apply Keeps.slots)
    | (with_reducible apply Keeps.fwd)
    | (with_reducible apply Keeps.fifo))

theorem State.slowLimit_keeps {σ : State} (n : Nat) (s : State) (h : Keeps σ s) : Keeps σ (State.slowLimit n s).1 := by
  unfold State.slowLimit
  repeat' (first
    | (with_reducible assumption)
    | (intro t; refine_lift have ht : Keeps σ t := ?_; ?_; clear_value t; rotate_left; subst t)
    | (intro t; subst t; beta_reduce)
    | lift_lets
    | split
    | (with_reducible apply State.setFld_keeps)
    | (with_reducible apply State.updBrick_keeps)
    | (with_reducible apply Keeps.with)
    | (with_reducible apply Keeps.host)
    | (with_reducible apply Keeps.sheets)
    | (with_reducible apply Keeps.slots)
    | (with_reducible apply Keeps.fwd)
    | (with_reducible apply Keeps.fifo)
    | (dsimp only))

theorem State.slowFault_keeps {σ : State} (n : Nat) (s : State) (h : Keeps σ s) : Keeps σ (State.slowFault n s) := by
  unfold State.slowFault
  repeat' (first
    | (with_reducible assumption)
    | (intro t; refine_lift have ht : Keeps σ t := ?_; ?_; clear_value t; rotate_left; subst t)
    | (intro t; subst t; beta_reduce)
    | lift_lets
    | split
    | (with_reducible apply State.brickOff_keeps)
    | (with_reducible apply State.raise_keeps)
    | (with_reducible apply State.setFld_keeps)
    | (with_reducible apply Keeps.with)
    | (with_reducible apply Keeps.host)
    | (with_reducible apply Keeps.sheets)
    | (with_reducible apply Keeps.slots)
    | (with_reducible apply Keeps.fwd)
    | (with_reducible apply Keeps.fifo))

theorem State.loadStores_keeps {σ : State} (n : Nat) (s : State) (h : Keeps σ s) : Keeps σ (State.loadStores n s) := by
  unfold State.loadStores
  repeat' (first
    | (with_reducible assumption)
    | (intro t; refine_lift have ht : Keeps σ t := ?_; ?_; clear_value t; rotate_left; subst t)
    | (intro t; subst t; beta_reduce)
    | lift_lets
    | split
    | (with_reducible apply State.updBrick_keeps)
    | (with_reducible apply Keeps.with)
    | (with_reducible apply Keeps.host)
    | (with_reducible apply Keeps.sheets)
    | (with_reducible apply Keeps.slots)
    | (with_reducible apply Keeps.fwd)
    | (with_reducible apply Keeps.fifo))

theorem State.takeLimits_keeps {σ : State} (n : Nat) (s : State) (h : Keeps σ s) : Keeps σ (State.takeLimits n s) := by
  unfold State.takeLimits
  repeat' (first
    | (with_reducible assumption)
    | (intro t; refine_lift have ht : Keeps σ t := ?_; ?_; clear_value t; rotate_left; subst t)
    | (intro t; subst t; beta_reduce)
    | lift_lets
    | split
    | (with_reducible apply State.loadStores_keeps)
    | (with_reducible apply State.updBrick_keeps)
    | (with_reducible apply Keeps.with)
    | (with_reducible apply Keeps.host)
    | (with_reducible apply Keeps.sheets)
    | (with_reducible apply Keeps.slots)
    | (with_reducible apply Keeps.fwd)
    | (with_reducible apply Keeps.fifo))

theorem State.stage_keeps {σ : State} (n : Nat) (a : Nat) (w : Word) (s : State) (h : Keeps σ s) : Keeps σ (State.stage n a w s) := by
  unfold State.stage
  repeat' (first
    | (with_reducible assumption)
    | (intro t; refine_lift have ht : Keeps σ t := ?_; ?_; clear_value t; rotate_left; subst t)
    | (intro t; subst t; beta_reduce)
    | lift_lets
    | split
    | (with_reducible apply State.updBrick_keeps)
    | (with_reducible apply State.setFld_keeps)
    | (with_reducible apply Keeps.with)
    | (with_reducible apply Keeps.host)
    | (with_reducible apply Keeps.sheets)
    | (with_reducible apply Keeps.slots)
    | (with_reducible apply Keeps.fwd)
    | (with_reducible apply Keeps.fifo))

theorem State.applyStaged_keeps {σ : State} (n : Nat) (s : State) (h : Keeps σ s) : Keeps σ (State.applyStaged n s) := by
  unfold State.applyStaged
  repeat' (first
    | (with_reducible assumption)
    | (intro t; refine_lift have ht : Keeps σ t := ?_; ?_; clear_value t; rotate_left; subst t)
    | (intro t; subst t; beta_reduce)
    | lift_lets
    | split
    | (with_reducible refine forEach_keeps (fun _ _ _ => ?_) ?_)
    | (with_reducible apply State.setReg_keeps)
    | (with_reducible apply State.loadStores_keeps)
    | (with_reducible apply State.setFld_keeps)
    | (with_reducible apply State.updBrick_keeps)
    | (with_reducible apply Keeps.with)
    | (with_reducible apply Keeps.host)
    | (with_reducible apply Keeps.sheets)
    | (with_reducible apply Keeps.slots)
    | (with_reducible apply Keeps.fwd)
    | (with_reducible apply Keeps.fifo))

theorem State.commitCoefs_keeps {σ : State} (n : Nat) (s : State) (h : Keeps σ s) : Keeps σ (State.commitCoefs n s) := by
  unfold State.commitCoefs
  repeat' (first
    | (with_reducible assumption)
    | (intro t; refine_lift have ht : Keeps σ t := ?_; ?_; clear_value t; rotate_left; subst t)
    | (intro t; subst t; beta_reduce)
    | lift_lets
    | split
    | (with_reducible apply State.cfgErr_keeps)
    | (with_reducible apply State.updBrick_keeps)
    | (with_reducible apply State.applyStaged_keeps)
    | (with_reducible apply Keeps.with)
    | (with_reducible apply Keeps.host)
    | (with_reducible apply Keeps.sheets)
    | (with_reducible apply Keeps.slots)
    | (with_reducible apply Keeps.fwd)
    | (with_reducible apply Keeps.fifo))

theorem State.setRail_keeps {σ : State} (n : Nat) (st : Nat) (s : State) (h : Keeps σ s) : Keeps σ (State.setRail n st s) := by
  unfold State.setRail
  repeat' (first
    | (with_reducible assumption)
    | (intro t; refine_lift have ht : Keeps σ t := ?_; ?_; clear_value t; rotate_left; subst t)
    | (intro t; subst t; beta_reduce)
    | lift_lets
    | split
    | (with_reducible apply State.setFld_keeps)
    | (with_reducible apply Keeps.with)
    | (with_reducible apply Keeps.host)
    | (with_reducible apply Keeps.sheets)
    | (with_reducible apply Keeps.slots)
    | (with_reducible apply Keeps.fwd)
    | (with_reducible apply Keeps.fifo))

theorem State.startBrick_keeps {σ : State} (n : Nat) (arg : Nat) (s : State) (h : Keeps σ s) : Keeps σ (State.startBrick n arg s) := by
  unfold State.startBrick
  repeat' (first
    | (with_reducible assumption)
    | (intro t; refine_lift have ht : Keeps σ t := ?_; ?_; clear_value t; rotate_left; subst t)
    | (intro t; subst t; beta_reduce)
    | lift_lets
    | split
    | (with_reducible apply State.setFld_keeps)
    | (with_reducible apply State.setRef_keeps)
    | (with_reducible refine forEach_keeps (fun _ _ _ => ?_) ?_)
    | (with_reducible apply State.dropInjection_keeps)
    | (with_reducible apply State.updBrick_keeps)
    | (with_reducible refine onlyIf_keeps (fun _ _ => ?_) ?_)
    | (with_reducible apply State.setBrkState_keeps)
    | (with_reducible apply State.syncLanes_keeps)
    | (with_reducible apply State.startClock_keeps)
    | (with_reducible apply State.setReg_keeps)
    | (with_reducible apply State.setCmd_keeps)
    | (with_reducible apply State.setOn_keeps)
    | (with_reducible apply State.setRail_keeps)
    | (with_reducible apply Keeps.with)
    | (with_reducible apply Keeps.host)
    | (with_reducible apply Keeps.sheets)
    | (with_reducible apply Keeps.slots)
    | (with_reducible apply Keeps.fwd)
    | (with_reducible apply Keeps.fifo))

theorem State.stopBrick_keeps {σ : State} (n : Nat) (arg : Nat) (s : State) (h : Keeps σ s) : Keeps σ (State.stopBrick n arg s) := by
  unfold State.stopBrick
  repeat' (first
    | (with_reducible assumption)
    | (intro t; refine_lift have ht : Keeps σ t := ?_; ?_; clear_value t; rotate_left; subst t)
    | (intro t; subst t; beta_reduce)
    | lift_lets
    | split
    | (with_reducible refine onlyIf_keeps (fun _ _ => ?_) ?_)
    | (with_reducible apply State.endSession_keeps)
    | (with_reducible apply State.failRecs_keeps)
    | (with_reducible apply State.setFld_keeps)
    | (with_reducible refine forEach_keeps (fun _ _ _ => ?_) ?_)
    | (with_reducible apply State.updBrick_keeps)
    | (with_reducible apply State.setBrkState_keeps)
    | (with_reducible apply State.setRail_keeps)
    | (with_reducible apply State.stopExcite_keeps)
    | (with_reducible apply State.syncLanes_keeps)
    | (with_reducible apply Keeps.with)
    | (with_reducible apply Keeps.host)
    | (with_reducible apply Keeps.sheets)
    | (with_reducible apply Keeps.slots)
    | (with_reducible apply Keeps.fwd)
    | (with_reducible apply Keeps.fifo))

theorem State.brickStopped_keeps {σ : State} (n : Nat) (s : State) (h : Keeps σ s) : Keeps σ (State.brickStopped n s) := by
  unfold State.brickStopped
  repeat' (first
    | (with_reducible assumption)
    | (intro t; refine_lift have ht : Keeps σ t := ?_; ?_; clear_value t; rotate_left; subst t)
    | (intro t; subst t; beta_reduce)
    | lift_lets
    | split
    | (with_reducible refine forEach_keeps (fun _ _ _ => ?_) ?_)
    | (with_reducible apply State.setReg_keeps)
    | (with_reducible apply State.setBrkState_keeps)
    | (with_reducible apply State.updBrick_keeps)
    | (with_reducible apply State.setFld_keeps)
    | (with_reducible apply State.syncLanes_keeps)
    | (with_reducible apply State.takeLimits_keeps)
    | (with_reducible refine onlyIf_keeps (fun _ _ => ?_) ?_)
    | (with_reducible apply State.applyStaged_keeps)
    | (with_reducible apply State.leaderOff_keeps)
    | (with_reducible apply State.railDown_keeps)
    | (with_reducible apply State.finishAction_keeps)
    | (with_reducible apply Keeps.with)
    | (with_reducible apply Keeps.host)
    | (with_reducible apply Keeps.sheets)
    | (with_reducible apply Keeps.slots)
    | (with_reducible apply Keeps.fwd)
    | (with_reducible apply Keeps.fifo))

theorem State.recordsEffect_keeps {σ : State} (n : Nat) (src : Nat) (s : State) (h : Keeps σ s) : Keeps σ (State.recordsEffect n src s) := by
  unfold State.recordsEffect
  repeat' (first
    | (with_reducible assumption)
    | (intro t; refine_lift have ht : Keeps σ t := ?_; ?_; clear_value t; rotate_left; subst t)
    | (intro t; subst t; beta_reduce)
    | lift_lets
    | split
    | (with_reducible refine forEach_keeps (fun _ _ _ => ?_) ?_)
    | (with_reducible apply State.decideRec_keeps)
    | (with_reducible apply Keeps.with)
    | (with_reducible apply Keeps.host)
    | (with_reducible apply Keeps.sheets)
    | (with_reducible apply Keeps.slots)
    | (with_reducible apply Keeps.fwd)
    | (with_reducible apply Keeps.fifo))

theorem State.settleDecide_keeps {σ : State} (n : Nat) (ok : Bool) (s : State) (h : Keeps σ s) : Keeps σ (State.settleDecide n ok s) := by
  unfold State.settleDecide
  repeat' (first
    | (with_reducible assumption)
    | (intro t; refine_lift have ht : Keeps σ t := ?_; ?_; clear_value t; rotate_left; subst t)
    | (intro t; subst t; beta_reduce)
    | lift_lets
    | split
    | (with_reducible apply State.updBrick_keeps)
    | (with_reducible apply State.raise_keeps)
    | (with_reducible apply State.setFld_keeps)
    | (with_reducible refine forEach_keeps (fun _ _ _ => ?_) ?_)
    | (with_reducible apply State.decideRec_keeps)
    | (with_reducible apply Keeps.with)
    | (with_reducible apply Keeps.host)
    | (with_reducible apply Keeps.sheets)
    | (with_reducible apply Keeps.slots)
    | (with_reducible apply Keeps.fwd)
    | (with_reducible apply Keeps.fifo))

theorem State.removal_keeps {σ : State} (n : Nat) (u : Int) (s : State) (h : Keeps σ s) : Keeps σ (State.removal n u s) := by
  unfold State.removal
  repeat' (first
    | (with_reducible assumption)
    | (intro t; refine_lift have ht : Keeps σ t := ?_; ?_; clear_value t; rotate_left; subst t)
    | (intro t; subst t; beta_reduce)
    | lift_lets
    | split
    | (with_reducible apply State.putTarget_keeps)
    | (with_reducible apply State.setRef_keeps)
    | (with_reducible apply State.setFld_keeps)
    | (with_reducible refine forEach_keeps (fun _ _ _ => ?_) ?_)
    | (with_reducible apply State.updBrick_keeps)
    | (with_reducible apply State.setCmd_keeps)
    | (with_reducible apply State.takeLeg_keeps)
    | (with_reducible apply State.sheet_keeps)
    | (with_reducible apply State.flagRaise_keeps)
    | (with_reducible apply State.endSession_keeps)
    | (with_reducible apply Keeps.with)
    | (with_reducible apply Keeps.host)
    | (with_reducible apply Keeps.sheets)
    | (with_reducible apply Keeps.slots)
    | (with_reducible apply Keeps.fwd)
    | (with_reducible apply Keeps.fifo))

theorem State.saturation_keeps {σ : State} (n : Nat) (hi : Bool) (lo : Bool) (frozen : Bool) (s : State) (h : Keeps σ s) : Keeps σ (State.saturation n hi lo frozen s) := by
  unfold State.saturation
  repeat' (first
    | (with_reducible assumption)
    | (intro t; refine_lift have ht : Keeps σ t := ?_; ?_; clear_value t; rotate_left; subst t)
    | (intro t; subst t; beta_reduce)
    | lift_lets
    | split
    | (with_reducible apply State.setFlag_keeps)
    | (with_reducible refine onlyIf_keeps (fun _ _ => ?_) ?_)
    | (with_reducible apply State.raise_keeps)
    | (with_reducible apply Keeps.with)
    | (with_reducible apply Keeps.host)
    | (with_reducible apply Keeps.sheets)
    | (with_reducible apply Keeps.slots)
    | (with_reducible apply Keeps.fwd)
    | (with_reducible apply Keeps.fifo))

theorem State.trims_keeps {σ : State} (n : Nat) (sample : State → Nat → Option (Nat × Int)) (who : List Nat) (s : State) (h : Keeps σ s) : Keeps σ (State.trims n sample who s) := by
  unfold State.trims
  repeat' (first
    | (with_reducible assumption)
    | (intro t; refine_lift have ht : Keeps σ t := ?_; ?_; clear_value t; rotate_left; subst t)
    | (intro t; subst t; beta_reduce)
    | lift_lets
    | split
    | (with_reducible refine forEach_keeps (fun _ _ _ => ?_) ?_)
    | (with_reducible apply State.updBrick_keeps)
    | (with_reducible apply State.setBrick_keeps)
    | (with_reducible apply State.setFld_keeps)
    | (with_reducible apply State.syncLanes_keeps)
    | (with_reducible apply State.saturation_keeps)
    | (with_reducible apply Keeps.with)
    | (with_reducible apply Keeps.host)
    | (with_reducible apply Keeps.sheets)
    | (with_reducible apply Keeps.slots)
    | (with_reducible apply Keeps.fwd)
    | (with_reducible apply Keeps.fifo))

theorem State.switchLoop_keeps {σ : State} (n : Nat) (sample : State → Nat → Option (Nat × Int)) (s : State) (h : Keeps σ s) : Keeps σ (State.switchLoop n sample s) := by
  unfold State.switchLoop
  repeat' (first
    | (with_reducible assumption)
    | (intro t; refine_lift have ht : Keeps σ t := ?_; ?_; clear_value t; rotate_left; subst t)
    | (intro t; subst t; beta_reduce)
    | lift_lets
    | split
    | (with_reducible apply State.updBrick_keeps)
    | (with_reducible apply State.setFlag_keeps)
    | (with_reducible apply State.setRef_keeps)
    | (with_reducible apply Keeps.with)
    | (with_reducible apply Keeps.host)
    | (with_reducible apply Keeps.sheets)
    | (with_reducible apply Keeps.slots)
    | (with_reducible apply Keeps.fwd)
    | (with_reducible apply Keeps.fifo))

theorem State.takeSample_keeps {σ : State} (n : Nat) (sample : State → Nat → Option (Nat × Int)) (s : State) (h : Keeps σ s) : Keeps σ (State.takeSample n sample s) := by
  unfold State.takeSample
  repeat' (first
    | (with_reducible assumption)
    | (intro t; refine_lift have ht : Keeps σ t := ?_; ?_; clear_value t; rotate_left; subst t)
    | (intro t; subst t; beta_reduce)
    | lift_lets
    | split
    | (with_reducible apply State.flagRaise_keeps)
    | (with_reducible apply State.bump_keeps)
    | (with_reducible apply State.updBrick_keeps)
    | (with_reducible apply State.setFld_keeps)
    | (with_reducible apply Keeps.with)
    | (with_reducible apply Keeps.host)
    | (with_reducible apply Keeps.sheets)
    | (with_reducible apply Keeps.slots)
    | (with_reducible apply Keeps.fwd)
    | (with_reducible apply Keeps.fifo))

theorem State.takeTarget_keeps {σ : State} (n : Nat) (s : State) (h : Keeps σ s) : Keeps σ (State.takeTarget n s) := by
  unfold State.takeTarget
  repeat' (first
    | (with_reducible assumption)
    | (intro t; refine_lift have ht : Keeps σ t := ?_; ?_; clear_value t; rotate_left; subst t)
    | (intro t; subst t; beta_reduce)
    | lift_lets
    | split
    | (with_reducible apply State.disturbExciter_keeps)
    | (with_reducible apply State.recordsEffect_keeps)
    | (with_reducible apply State.updBrick_keeps)
    | (with_reducible apply State.setFld_keeps)
    | (with_reducible apply Keeps.with)
    | (with_reducible apply Keeps.host)
    | (with_reducible apply Keeps.sheets)
    | (with_reducible apply Keeps.slots)
    | (with_reducible apply Keeps.fwd)
    | (with_reducible apply Keeps.fifo))

theorem State.show_keeps {σ : State} (n : Nat) (s : State) (h : Keeps σ s) : Keeps σ (State.show n s) := by
  unfold State.show
  repeat' (first
    | (with_reducible assumption)
    | (intro t; refine_lift have ht : Keeps σ t := ?_; ?_; clear_value t; rotate_left; subst t)
    | (intro t; subst t; beta_reduce)
    | lift_lets
    | split
    | (with_reducible apply State.updBrick_keeps)
    | (with_reducible apply Keeps.with)
    | (with_reducible apply Keeps.host)
    | (with_reducible apply Keeps.sheets)
    | (with_reducible apply Keeps.slots)
    | (with_reducible apply Keeps.fwd)
    | (with_reducible apply Keeps.fifo))

theorem State.leaderInputs_keeps {σ : State} (n : Nat) (sample : State → Nat → Option (Nat × Int)) (s : State) (h : Keeps σ s) : Keeps σ (State.leaderInputs n sample s).1 := by
  unfold State.leaderInputs
  repeat' (first
    | (with_reducible assumption)
    | (intro t; refine_lift have ht : Keeps σ t := ?_; ?_; clear_value t; rotate_left; subst t)
    | (intro t; subst t; beta_reduce)
    | lift_lets
    | split
    | (with_reducible apply State.takeLimits_keeps)
    | (with_reducible refine onlyIf_keeps (fun _ _ => ?_) ?_)
    | (with_reducible apply State.applyStaged_keeps)
    | (with_reducible apply State.slowLimit_keeps)
    | (with_reducible apply State.takeTarget_keeps)
    | (with_reducible apply State.takeSample_keeps)
    | (with_reducible apply State.switchLoop_keeps)
    | (with_reducible apply Keeps.with)
    | (with_reducible apply Keeps.host)
    | (with_reducible apply Keeps.sheets)
    | (with_reducible apply Keeps.slots)
    | (with_reducible apply Keeps.fwd)
    | (with_reducible apply Keeps.fifo)
    | (dsimp only))

theorem State.foldBack_keeps {σ : State} (n : Nat) (s : State) (h : Keeps σ s) : Keeps σ (State.foldBack n s) := by
  unfold State.foldBack
  repeat' (first
    | (with_reducible assumption)
    | (intro t; refine_lift have ht : Keeps σ t := ?_; ?_; clear_value t; rotate_left; subst t)
    | (intro t; subst t; beta_reduce)
    | lift_lets
    | split
    | (with_reducible apply State.setFlag_keeps)
    | (with_reducible refine onlyIf_keeps (fun _ _ => ?_) ?_)
    | (with_reducible apply State.disturbExciter_keeps)
    | (with_reducible apply State.sheet_keeps)
    | (with_reducible apply State.flagRaise_keeps)
    | (with_reducible apply Keeps.with)
    | (with_reducible apply Keeps.host)
    | (with_reducible apply Keeps.sheets)
    | (with_reducible apply Keeps.slots)
    | (with_reducible apply Keeps.fwd)
    | (with_reducible apply Keeps.fifo))

theorem State.settleCheck_keeps {σ : State} (n : Nat) (x : Int) (s : State) (h : Keeps σ s) : Keeps σ (State.settleCheck n x s) := by
  unfold State.settleCheck
  repeat' (first
    | (with_reducible assumption)
    | (intro t; refine_lift have ht : Keeps σ t := ?_; ?_; clear_value t; rotate_left; subst t)
    | (intro t; subst t; beta_reduce)
    | lift_lets
    | split
    | (with_reducible apply State.updBrick_keeps)
    | (with_reducible apply State.settleDecide_keeps)
    | (with_reducible apply Keeps.with)
    | (with_reducible apply Keeps.host)
    | (with_reducible apply Keeps.sheets)
    | (with_reducible apply Keeps.slots)
    | (with_reducible apply Keeps.fwd)
    | (with_reducible apply Keeps.fifo))

theorem State.reachRunning_keeps {σ : State} (n : Nat) (s : State) (h : Keeps σ s) : Keeps σ (State.reachRunning n s) := by
  unfold State.reachRunning
  repeat' (first
    | (with_reducible assumption)
    | (intro t; refine_lift have ht : Keeps σ t := ?_; ?_; clear_value t; rotate_left; subst t)
    | (intro t; subst t; beta_reduce)
    | lift_lets
    | split
    | (with_reducible refine forEach_keeps (fun _ _ _ => ?_) ?_)
    | (with_reducible apply State.updBrick_keeps)
    | (with_reducible apply State.setBrkState_keeps)
    | (with_reducible apply State.setRail_keeps)
    | (with_reducible apply State.setReg_keeps)
    | (with_reducible apply Keeps.with)
    | (with_reducible apply Keeps.host)
    | (with_reducible apply Keeps.sheets)
    | (with_reducible apply Keeps.slots)
    | (with_reducible apply Keeps.fwd)
    | (with_reducible apply Keeps.fifo))

theorem State.computeLeader_keeps {σ : State} (n : Nat) (ups : List Upset) (sample : State → Nat → Option (Nat × Int)) (s : State) (h : Keeps σ s) : Keeps σ (State.computeLeader n ups sample s) := by
  unfold State.computeLeader
  repeat' (first
    | (with_reducible assumption)
    | (intro t; refine_lift have ht : Keeps σ t := ?_; ?_; clear_value t; rotate_left; subst t)
    | (intro t; subst t; beta_reduce)
    | lift_lets
    | split
    | (with_reducible apply State.leaderInputs_keeps)
    | (with_reducible apply State.slowFault_keeps)
    | (with_reducible apply State.stopExcite_keeps)
    | (with_reducible apply State.setFld_keeps)
    | (with_reducible apply State.foldBack_keeps)
    | (with_reducible apply State.setBrick_keeps)
    | (with_reducible apply State.setRef_keeps)
    | (with_reducible apply State.setFlag_keeps)
    | (with_reducible apply State.saturation_keeps)
    | (with_reducible apply State.settleCheck_keeps)
    | (with_reducible apply State.reachRunning_keeps)
    | (with_reducible apply State.syncLanes_keeps)
    | (with_reducible apply State.trims_keeps)
    | (with_reducible apply State.brickStopped_keeps)
    | (with_reducible apply Keeps.with)
    | (with_reducible apply Keeps.host)
    | (with_reducible apply Keeps.sheets)
    | (with_reducible apply Keeps.slots)
    | (with_reducible apply Keeps.fwd)
    | (with_reducible apply Keeps.fifo)
    | (dsimp only))

theorem State.commandEffect_keeps {σ : State} (n : Nat) (u : Int) (s : State) (h : Keeps σ s) : Keeps σ (State.commandEffect n u s) := by
  unfold State.commandEffect
  repeat' (first
    | (with_reducible assumption)
    | (intro t; refine_lift have ht : Keeps σ t := ?_; ?_; clear_value t; rotate_left; subst t)
    | (intro t; subst t; beta_reduce)
    | lift_lets
    | split
    | (with_reducible apply State.passInstant_keeps)
    | (with_reducible refine forEach_keeps (fun _ _ _ => ?_) ?_)
    | (with_reducible refine onlyIf_keeps (fun _ _ => ?_) ?_)
    | (with_reducible apply State.setFld_keeps)
    | (with_reducible apply State.setCmd_keeps)
    | (with_reducible apply State.takeLeg_keeps)
    | (with_reducible apply State.rollLeg_keeps)
    | (with_reducible apply Keeps.with)
    | (with_reducible apply Keeps.host)
    | (with_reducible apply Keeps.sheets)
    | (with_reducible apply Keeps.slots)
    | (with_reducible apply Keeps.fwd)
    | (with_reducible apply Keeps.fifo))

theorem State.toFullTest_keeps {σ : State} (n : Nat) (l : Lane) (s : State) (h : Keeps σ s) : Keeps σ (State.toFullTest n l s) := by
  unfold State.toFullTest
  repeat' (first
    | (with_reducible assumption)
    | (intro t; refine_lift have ht : Keeps σ t := ?_; ?_; clear_value t; rotate_left; subst t)
    | (intro t; subst t; beta_reduce)
    | lift_lets
    | split
    | (with_reducible apply State.updBrick_keeps)
    | (with_reducible apply State.setFld_keeps)
    | (with_reducible apply Keeps.with)
    | (with_reducible apply Keeps.host)
    | (with_reducible apply Keeps.sheets)
    | (with_reducible apply Keeps.slots)
    | (with_reducible apply Keeps.fwd)
    | (with_reducible apply Keeps.fifo))

theorem State.beginHold_keeps {σ : State} (n : Nat) (both : Bool) (s : State) (h : Keeps σ s) : Keeps σ (State.beginHold n both s) := by
  unfold State.beginHold
  repeat' (first
    | (with_reducible assumption)
    | (intro t; refine_lift have ht : Keeps σ t := ?_; ?_; clear_value t; rotate_left; subst t)
    | (intro t; subst t; beta_reduce)
    | lift_lets
    | split
    | (with_reducible apply State.setFld_keeps)
    | (with_reducible apply State.bump_keeps)
    | (with_reducible apply State.updBrick_keeps)
    | (with_reducible apply State.stopExcite_keeps)
    | (with_reducible apply State.flagRaise_keeps)
    | (with_reducible apply Keeps.with)
    | (with_reducible apply Keeps.host)
    | (with_reducible apply Keeps.sheets)
    | (with_reducible apply Keeps.slots)
    | (with_reducible apply Keeps.fwd)
    | (with_reducible apply Keeps.fifo))

theorem State.compareLanes_keeps {σ : State} (n : Nat) (upsA : List Upset) (upsB : List Upset) (differ : Bool) (s : State) (h : Keeps σ s) : Keeps σ (State.compareLanes n upsA upsB differ s).1 := by
  unfold State.compareLanes
  repeat' (first
    | (with_reducible assumption)
    | (intro t; refine_lift have ht : Keeps σ t := ?_; ?_; clear_value t; rotate_left; subst t)
    | (intro t; subst t; beta_reduce)
    | lift_lets
    | split
    | (with_reducible apply State.bump_keeps)
    | (with_reducible apply State.flagRaise_keeps)
    | (with_reducible apply State.toFullTest_keeps)
    | (with_reducible apply State.laneSheet_keeps)
    | (with_reducible apply State.beginHold_keeps)
    | (with_reducible apply State.raise_keeps)
    | (with_reducible apply Keeps.with)
    | (with_reducible apply Keeps.host)
    | (with_reducible apply Keeps.sheets)
    | (with_reducible apply Keeps.slots)
    | (with_reducible apply Keeps.fwd)
    | (with_reducible apply Keeps.fifo)
    | (dsimp only))

theorem State.leaderUpdate_keeps {σ : State} (n : Nat) (upsA : List Upset) (upsB : List Upset) (held : List (Nat × BitVec 14)) (s : State) (h : Keeps σ s) : Keeps σ (State.leaderUpdate n upsA upsB held s) := by
  unfold State.leaderUpdate
  repeat' (first
    | (with_reducible assumption)
    | (intro t; refine_lift have ht : Keeps σ t := ?_; ?_; clear_value t; rotate_left; subst t)
    | (intro t; subst t; beta_reduce)
    | lift_lets
    | split
    | (with_reducible apply State.updBrick_keeps)
    | (with_reducible refine forEach_keeps (fun _ _ _ => ?_) ?_)
    | (with_reducible apply State.runLeg_keeps)
    | (with_reducible apply State.sourceTrigger_keeps)
    | (with_reducible apply State.endFallback_keeps)
    | (with_reducible apply State.rollLeg_keeps)
    | (with_reducible apply State.passInstant_keeps)
    | (with_reducible apply State.stopExcite_keeps)
    | (with_reducible apply State.show_keeps)
    | (with_reducible apply State.removal_keeps)
    | (with_reducible apply State.commandEffect_keeps)
    | (with_reducible apply State.compareLanes_keeps)
    | (with_reducible apply State.computeLeader_keeps)
    | (with_reducible apply Keeps.with)
    | (with_reducible apply Keeps.host)
    | (with_reducible apply Keeps.sheets)
    | (with_reducible apply Keeps.slots)
    | (with_reducible apply Keeps.fwd)
    | (with_reducible apply Keeps.fifo)
    | (dsimp only))

theorem State.followerCommand_keeps {σ : State} (n : Nat) (o : FollowerOut) (u : Int) (s : State) (h : Keeps σ s) : Keeps σ (State.followerCommand n o u s) := by
  unfold State.followerCommand
  repeat' (first
    | (with_reducible assumption)
    | (intro t; refine_lift have ht : Keeps σ t := ?_; ?_; clear_value t; rotate_left; subst t)
    | (intro t; subst t; beta_reduce)
    | lift_lets
    | split
    | (with_reducible apply State.setFld_keeps)
    | (with_reducible apply State.setBrick_keeps)
    | (with_reducible apply State.saturation_keeps)
    | (with_reducible apply State.updBrick_keeps)
    | (with_reducible apply State.setCmd_keeps)
    | (with_reducible apply State.takeLeg_keeps)
    | (with_reducible apply Keeps.with)
    | (with_reducible apply Keeps.host)
    | (with_reducible apply Keeps.sheets)
    | (with_reducible apply Keeps.slots)
    | (with_reducible apply Keeps.fwd)
    | (with_reducible apply Keeps.fifo))

theorem State.followerUpdate_keeps {σ : State} (n : Nat) (upsA : List Upset) (upsB : List Upset) (s : State) (h : Keeps σ s) : Keeps σ (State.followerUpdate n upsA upsB s) := by
  unfold State.followerUpdate
  repeat' (first
    | (with_reducible assumption)
    | (intro t; refine_lift have ht : Keeps σ t := ?_; ?_; clear_value t; rotate_left; subst t)
    | (intro t; subst t; beta_reduce)
    | lift_lets
    | split
    | (with_reducible apply State.updBrick_keeps)
    | (with_reducible apply State.passInstant_keeps)
    | (with_reducible apply State.runLeg_keeps)
    | (with_reducible apply State.rollLeg_keeps)
    | (with_reducible apply State.compareLanes_keeps)
    | (with_reducible apply State.followerCommand_keeps)
    | (with_reducible apply State.takeLimits_keeps)
    | (with_reducible refine onlyIf_keeps (fun _ _ => ?_) ?_)
    | (with_reducible apply State.applyStaged_keeps)
    | (with_reducible apply State.slowLimit_keeps)
    | (with_reducible apply State.slowFault_keeps)
    | (with_reducible apply State.syncLanes_keeps)
    | (with_reducible apply Keeps.with)
    | (with_reducible apply Keeps.host)
    | (with_reducible apply Keeps.sheets)
    | (with_reducible apply Keeps.slots)
    | (with_reducible apply Keeps.fwd)
    | (with_reducible apply Keeps.fifo)
    | (dsimp only))

theorem State.secondaryUpdate_keeps {σ : State} (n : Nat) (upsA : List Upset) (upsB : List Upset) (s : State) (h : Keeps σ s) : Keeps σ (State.secondaryUpdate n upsA upsB s) := by
  unfold State.secondaryUpdate
  repeat' (first
    | (with_reducible assumption)
    | (intro t; refine_lift have ht : Keeps σ t := ?_; ?_; clear_value t; rotate_left; subst t)
    | (intro t; subst t; beta_reduce)
    | lift_lets
    | split
    | (with_reducible apply State.compareLanes_keeps)
    | (with_reducible apply State.updBrick_keeps)
    | (with_reducible apply Keeps.with)
    | (with_reducible apply Keeps.host)
    | (with_reducible apply Keeps.sheets)
    | (with_reducible apply Keeps.slots)
    | (with_reducible apply Keeps.fwd)
    | (with_reducible apply Keeps.fifo)
    | (dsimp only))

theorem State.haltedUpdate_keeps {σ : State} (n : Nat) (s : State) (h : Keeps σ s) : Keeps σ (State.haltedUpdate n s) := by
  unfold State.haltedUpdate
  repeat' (first
    | (with_reducible assumption)
    | (intro t; refine_lift have ht : Keeps σ t := ?_; ?_; clear_value t; rotate_left; subst t)
    | (intro t; subst t; beta_reduce)
    | lift_lets
    | split
    | (with_reducible apply State.slowLimit_keeps)
    | (with_reducible apply State.takeLimits_keeps)
    | (with_reducible apply State.slowFault_keeps)
    | (with_reducible apply Keeps.with)
    | (with_reducible apply Keeps.host)
    | (with_reducible apply Keeps.sheets)
    | (with_reducible apply Keeps.slots)
    | (with_reducible apply Keeps.fwd)
    | (with_reducible apply Keeps.fifo)
    | (dsimp only))

theorem State.layRetired_keeps {σ : State} (n : Nat) (l : Lane) (s : State) (h : Keeps σ s) : Keeps σ (State.layRetired n l s) := by
  unfold State.layRetired
  repeat' (first
    | (with_reducible assumption)
    | (intro t; refine_lift have ht : Keeps σ t := ?_; ?_; clear_value t; rotate_left; subst t)
    | (intro t; subst t; beta_reduce)
    | lift_lets
    | split
    | (with_reducible apply State.flagRaise_keeps)
    | (with_reducible apply State.setFld_keeps)
    | (with_reducible apply Keeps.with)
    | (with_reducible apply Keeps.host)
    | (with_reducible apply Keeps.sheets)
    | (with_reducible apply Keeps.slots)
    | (with_reducible apply Keeps.fwd)
    | (with_reducible apply Keeps.fifo))

theorem State.railFault_keeps {σ : State} (n : Nat) (code : Nat) (payload : List Byte) (s : State) (h : Keeps σ s) : Keeps σ (State.railFault n code payload s) := by
  unfold State.railFault
  repeat' (first
    | (with_reducible assumption)
    | (intro t; refine_lift have ht : Keeps σ t := ?_; ?_; clear_value t; rotate_left; subst t)
    | (intro t; subst t; beta_reduce)
    | lift_lets
    | split
    | (with_reducible apply State.setFld_keeps)
    | (with_reducible apply State.layRetired_keeps)
    | (with_reducible apply State.brickOff_keeps)
    | (with_reducible apply State.raise_keeps)
    | (with_reducible apply Keeps.with)
    | (with_reducible apply Keeps.host)
    | (with_reducible apply Keeps.sheets)
    | (with_reducible apply Keeps.slots)
    | (with_reducible apply Keeps.fwd)
    | (with_reducible apply Keeps.fifo))

theorem State.retireLane_keeps {σ : State} (n : Nat) (code : Nat) (l : Lane) (s : State) (h : Keeps σ s) : Keeps σ (State.retireLane n code l s) := by
  unfold State.retireLane
  repeat' (first
    | (with_reducible assumption)
    | (intro t; refine_lift have ht : Keeps σ t := ?_; ?_; clear_value t; rotate_left; subst t)
    | (intro t; subst t; beta_reduce)
    | lift_lets
    | split
    | (with_reducible apply State.laneSheet_keeps)
    | (with_reducible apply State.setFld_keeps)
    | (with_reducible apply State.layRetired_keeps)
    | (with_reducible apply State.railFault_keeps)
    | (with_reducible apply Keeps.with)
    | (with_reducible apply Keeps.host)
    | (with_reducible apply Keeps.sheets)
    | (with_reducible apply Keeps.slots)
    | (with_reducible apply Keeps.fwd)
    | (with_reducible apply Keeps.fifo))

theorem State.countTransient_keeps {σ : State} (n : Nat) (l : Lane) (s : State) (h : Keeps σ s) : Keeps σ (State.countTransient n l s).1 := by
  unfold State.countTransient
  repeat' (first
    | (with_reducible assumption)
    | (intro t; refine_lift have ht : Keeps σ t := ?_; ?_; clear_value t; rotate_left; subst t)
    | (intro t; subst t; beta_reduce)
    | lift_lets
    | split
    | (with_reducible apply State.updBrick_keeps)
    | (with_reducible apply State.flagRaise_keeps)
    | (with_reducible apply State.bump_keeps)
    | (with_reducible apply State.laneSheet_keeps)
    | (with_reducible apply Keeps.with)
    | (with_reducible apply Keeps.host)
    | (with_reducible apply Keeps.sheets)
    | (with_reducible apply Keeps.slots)
    | (with_reducible apply Keeps.fwd)
    | (with_reducible apply Keeps.fifo)
    | (dsimp only))

theorem State.recover_keeps {σ : State} (n : Nat) (l : Lane) (s : State) (h : Keeps σ s) : Keeps σ (State.recover n l s) := by
  unfold State.recover
  repeat' (first
    | (with_reducible assumption)
    | (intro t; refine_lift have ht : Keeps σ t := ?_; ?_; clear_value t; rotate_left; subst t)
    | (intro t; subst t; beta_reduce)
    | lift_lets
    | split
    | (with_reducible apply State.setFld_keeps)
    | (with_reducible apply State.computeLeader_keeps)
    | (with_reducible apply State.show_keeps)
    | (with_reducible refine forEach_keeps (fun _ _ _ => ?_) ?_)
    | (with_reducible apply State.setCmd_keeps)
    | (with_reducible apply State.runLeg_keeps)
    | (with_reducible apply State.takeLeg_keeps)
    | (with_reducible apply State.takeLimits_keeps)
    | (with_reducible refine onlyIf_keeps (fun _ _ => ?_) ?_)
    | (with_reducible apply State.applyStaged_keeps)
    | (with_reducible apply State.trims_keeps)
    | (with_reducible apply State.syncLanes_keeps)
    | (with_reducible apply State.followerCommand_keeps)
    | (with_reducible apply Keeps.with)
    | (with_reducible apply Keeps.host)
    | (with_reducible apply Keeps.sheets)
    | (with_reducible apply Keeps.slots)
    | (with_reducible apply Keeps.fwd)
    | (with_reducible apply Keeps.fifo))

theorem State.scrubLane_keeps {σ : State} (n : Nat) (l : Lane) (flips : Upsets) (s : State) (h : Keeps σ s) : Keeps σ (State.scrubLane n l flips s).1 := by
  unfold State.scrubLane
  repeat' (first
    | (with_reducible assumption)
    | (intro t; refine_lift have ht : Keeps σ t := ?_; ?_; clear_value t; rotate_left; subst t)
    | (intro t; subst t; beta_reduce)
    | lift_lets
    | split
    | (with_reducible refine forEach_keeps (fun _ _ _ => ?_) ?_)
    | (with_reducible apply State.bump_keeps)
    | (with_reducible refine onlyIf_keeps (fun _ _ => ?_) ?_)
    | (with_reducible apply State.setFld_keeps)
    | (with_reducible apply Keeps.with)
    | (with_reducible apply Keeps.host)
    | (with_reducible apply Keeps.sheets)
    | (with_reducible apply Keeps.slots)
    | (with_reducible apply Keeps.fwd)
    | (with_reducible apply Keeps.fifo)
    | (dsimp only))

theorem State.fastTrip_keeps {σ : State} (n : Nat) (s : State) (h : Keeps σ s) : Keeps σ (State.fastTrip n s) := by
  unfold State.fastTrip
  repeat' (first
    | (with_reducible assumption)
    | (intro t; refine_lift have ht : Keeps σ t := ?_; ?_; clear_value t; rotate_left; subst t)
    | (intro t; subst t; beta_reduce)
    | lift_lets
    | split
    | (with_reducible apply State.raise_keeps)
    | (with_reducible apply State.setFld_keeps)
    | (with_reducible apply State.updBrick_keeps)
    | (with_reducible apply State.brickOff_keeps)
    | (with_reducible apply Keeps.with)
    | (with_reducible apply Keeps.host)
    | (with_reducible apply Keeps.sheets)
    | (with_reducible apply Keeps.slots)
    | (with_reducible apply Keeps.fwd)
    | (with_reducible apply Keeps.fifo))

theorem State.fastSense_keeps {σ : State} (n : Nat) (microvolts : Nat) (s : State) (h : Keeps σ s) : Keeps σ (State.fastSense n microvolts s) := by
  unfold State.fastSense
  repeat' (first
    | (with_reducible assumption)
    | (intro t; refine_lift have ht : Keeps σ t := ?_; ?_; clear_value t; rotate_left; subst t)
    | (intro t; subst t; beta_reduce)
    | lift_lets
    | split
    | (with_reducible apply State.takeFree_keeps)
    | (with_reducible apply State.fastTrip_keeps)
    | (with_reducible apply Keeps.with)
    | (with_reducible apply Keeps.host)
    | (with_reducible apply Keeps.sheets)
    | (with_reducible apply Keeps.slots)
    | (with_reducible apply Keeps.fwd)
    | (with_reducible apply Keeps.fifo)
    | (dsimp only))

theorem State.retryRst_keeps {σ : State} (n : Nat) (s : State) (h : Keeps σ s) : Keeps σ (State.retryRst n s) := by
  unfold State.retryRst
  repeat' (first
    | (with_reducible assumption)
    | (intro t; refine_lift have ht : Keeps σ t := ?_; ?_; clear_value t; rotate_left; subst t)
    | (intro t; subst t; beta_reduce)
    | lift_lets
    | split
    | (with_reducible apply State.setFld_keeps)
    | (with_reducible apply Keeps.with)
    | (with_reducible apply Keeps.host)
    | (with_reducible apply Keeps.sheets)
    | (with_reducible apply Keeps.slots)
    | (with_reducible apply Keeps.fwd)
    | (with_reducible apply Keeps.fifo))

theorem State.lcntClr_keeps {σ : State} (n : Nat) (s : State) (h : Keeps σ s) : Keeps σ (State.lcntClr n s) := by
  unfold State.lcntClr
  repeat' (first
    | (with_reducible assumption)
    | (intro t; refine_lift have ht : Keeps σ t := ?_; ?_; clear_value t; rotate_left; subst t)
    | (intro t; subst t; beta_reduce)
    | lift_lets
    | split
    | (with_reducible apply State.setReg_keeps)
    | (with_reducible apply Keeps.with)
    | (with_reducible apply Keeps.host)
    | (with_reducible apply Keeps.sheets)
    | (with_reducible apply Keeps.slots)
    | (with_reducible apply Keeps.fwd)
    | (with_reducible apply Keeps.fifo))

theorem State.brkCntClr_keeps {σ : State} (n : Nat) (s : State) (h : Keeps σ s) : Keeps σ (State.brkCntClr n s) := by
  unfold State.brkCntClr
  repeat' (first
    | (with_reducible assumption)
    | (intro t; refine_lift have ht : Keeps σ t := ?_; ?_; clear_value t; rotate_left; subst t)
    | (intro t; subst t; beta_reduce)
    | lift_lets
    | split
    | (with_reducible apply State.setReg_keeps)
    | (with_reducible apply Keeps.with)
    | (with_reducible apply Keeps.host)
    | (with_reducible apply Keeps.sheets)
    | (with_reducible apply Keeps.slots)
    | (with_reducible apply Keeps.fwd)
    | (with_reducible apply Keeps.fifo))

theorem State.beginRun_keeps {σ : State} (kind : RunKind) (todo : List Action) (phase : Nat) (s : State) (h : Keeps σ s) : Keeps σ (State.beginRun kind todo phase s) := by
  unfold State.beginRun
  repeat' (first
    | (with_reducible assumption)
    | (intro t; refine_lift have ht : Keeps σ t := ?_; ?_; clear_value t; rotate_left; subst t)
    | (intro t; subst t; beta_reduce)
    | lift_lets
    | split
    | (with_reducible apply State.setFld_keeps)
    | (with_reducible apply Keeps.with)
    | (with_reducible apply Keeps.host)
    | (with_reducible apply Keeps.sheets)
    | (with_reducible apply Keeps.slots)
    | (with_reducible apply Keeps.fwd)
    | (with_reducible apply Keeps.fifo))

theorem State.lineReport_keeps {σ : State} (s : State) (h : Keeps σ s) : Keeps σ (State.lineReport s) := by
  unfold State.lineReport
  repeat' (first
    | (with_reducible assumption)
    | (intro t; refine_lift have ht : Keeps σ t := ?_; ?_; clear_value t; rotate_left; subst t)
    | (intro t; subst t; beta_reduce)
    | lift_lets
    | split
    | (with_reducible apply State.send_keeps)
    | (with_reducible apply Keeps.with)
    | (with_reducible apply Keeps.host)
    | (with_reducible apply Keeps.sheets)
    | (with_reducible apply Keeps.slots)
    | (with_reducible apply Keeps.fwd)
    | (with_reducible apply Keeps.fifo))

theorem State.setLine_keeps {σ : State} (high : Bool) (s : State) (h : Keeps σ s) : Keeps σ (State.setLine high s) := by
  unfold State.setLine
  repeat' (first
    | (with_reducible assumption)
    | (intro t; refine_lift have ht : Keeps σ t := ?_; ?_; clear_value t; rotate_left; subst t)
    | (intro t; subst t; beta_reduce)
    | lift_lets
    | split
    | (with_reducible apply State.lineReport_keeps)
    | (with_reducible apply Keeps.with)
    | (with_reducible apply Keeps.host)
    | (with_reducible apply Keeps.sheets)
    | (with_reducible apply Keeps.slots)
    | (with_reducible apply Keeps.fwd)
    | (with_reducible apply Keeps.fifo))

theorem State.takeHold_keeps {σ : State} (s : State) (h : Keeps σ s) : Keeps σ (State.takeHold s) := by
  unfold State.takeHold
  repeat' (first
    | (with_reducible assumption)
    | (intro t; refine_lift have ht : Keeps σ t := ?_; ?_; clear_value t; rotate_left; subst t)
    | (intro t; subst t; beta_reduce)
    | lift_lets
    | split
    | (with_reducible apply Keeps.with)
    | (with_reducible apply Keeps.host)
    | (with_reducible apply Keeps.sheets)
    | (with_reducible apply Keeps.slots)
    | (with_reducible apply Keeps.fwd)
    | (with_reducible apply Keeps.fifo))

theorem State.seeLow_keeps {σ : State} (s : State) (h : Keeps σ s) : Keeps σ (State.seeLow s) := by
  unfold State.seeLow
  repeat' (first
    | (with_reducible assumption)
    | (intro t; refine_lift have ht : Keeps σ t := ?_; ?_; clear_value t; rotate_left; subst t)
    | (intro t; subst t; beta_reduce)
    | lift_lets
    | split
    | (with_reducible apply State.setLine_keeps)
    | (with_reducible apply Keeps.with)
    | (with_reducible apply Keeps.host)
    | (with_reducible apply Keeps.sheets)
    | (with_reducible apply Keeps.slots)
    | (with_reducible apply Keeps.fwd)
    | (with_reducible apply Keeps.fifo))

theorem State.courseStep_keeps {σ : State} (down : Bool) (s : State) (h : Keeps σ s) : Keeps σ (State.courseStep down s) := by
  unfold State.courseStep
  repeat' (first
    | (with_reducible assumption)
    | (intro t; refine_lift have ht : Keeps σ t := ?_; ?_; clear_value t; rotate_left; subst t)
    | (intro t; subst t; beta_reduce)
    | lift_lets
    | split
    | (with_reducible apply State.setFlag_keeps)
    | (with_reducible apply State.setFld_keeps)
    | (with_reducible apply State.takeHold_keeps)
    | (with_reducible apply State.beginRun_keeps)
    | (with_reducible apply State.setLine_keeps)
    | (with_reducible apply State.settleStep_keeps)
    | (with_reducible apply State.flagRaise_keeps)
    | (with_reducible apply State.bump_keeps)
    | (with_reducible apply State.seeLow_keeps)
    | (with_reducible apply Keeps.with)
    | (with_reducible apply Keeps.host)
    | (with_reducible apply Keeps.sheets)
    | (with_reducible apply Keeps.slots)
    | (with_reducible apply Keeps.fwd)
    | (with_reducible apply Keeps.fifo))

theorem State.ldoOut_keeps {σ : State} (rail : Nat) (s : State) (h : Keeps σ s) : Keeps σ (State.ldoOut rail s).2 := by
  unfold State.ldoOut
  repeat' (first
    | (with_reducible assumption)
    | (intro t; refine_lift have ht : Keeps σ t := ?_; ?_; clear_value t; rotate_left; subst t)
    | (intro t; subst t; beta_reduce)
    | lift_lets
    | split
    | (with_reducible apply State.takeFree_keeps)
    | (with_reducible apply Keeps.with)
    | (with_reducible apply Keeps.host)
    | (with_reducible apply Keeps.sheets)
    | (with_reducible apply Keeps.slots)
    | (with_reducible apply Keeps.fwd)
    | (with_reducible apply Keeps.fifo)
    | (dsimp only))

theorem State.putAux_keeps {σ : State} (rail : Nat) (v : Option Nat) (s : State) (h : Keeps σ s) : Keeps σ (State.putAux rail v s) := by
  unfold State.putAux
  repeat' (first
    | (with_reducible assumption)
    | (intro t; refine_lift have ht : Keeps σ t := ?_; ?_; clear_value t; rotate_left; subst t)
    | (intro t; subst t; beta_reduce)
    | lift_lets
    | split
    | (with_reducible apply Keeps.with)
    | (with_reducible apply Keeps.host)
    | (with_reducible apply Keeps.sheets)
    | (with_reducible apply Keeps.slots)
    | (with_reducible apply Keeps.fwd)
    | (with_reducible apply Keeps.fifo))

theorem State.setAux_keeps {σ : State} (rail : Nat) (on : Bool) (s : State) (h : Keeps σ s) : Keeps σ (State.setAux rail on s) := by
  unfold State.setAux
  repeat' (first
    | (with_reducible assumption)
    | (intro t; refine_lift have ht : Keeps σ t := ?_; ?_; clear_value t; rotate_left; subst t)
    | (intro t; subst t; beta_reduce)
    | lift_lets
    | split
    | (with_reducible apply State.ldoOut_keeps)
    | (with_reducible apply State.putAux_keeps)
    | (with_reducible apply Keeps.with)
    | (with_reducible apply Keeps.host)
    | (with_reducible apply Keeps.sheets)
    | (with_reducible apply Keeps.slots)
    | (with_reducible apply Keeps.fwd)
    | (with_reducible apply Keeps.fifo)
    | (dsimp only))

theorem State.beginDelay_keeps {σ : State} (rail : Nat) (s : State) (h : Keeps σ s) : Keeps σ (State.beginDelay rail s) := by
  unfold State.beginDelay
  repeat' (first
    | (with_reducible assumption)
    | (intro t; refine_lift have ht : Keeps σ t := ?_; ?_; clear_value t; rotate_left; subst t)
    | (intro t; subst t; beta_reduce)
    | lift_lets
    | split
    | (with_reducible apply Keeps.with)
    | (with_reducible apply Keeps.host)
    | (with_reducible apply Keeps.sheets)
    | (with_reducible apply Keeps.slots)
    | (with_reducible apply Keeps.fwd)
    | (with_reducible apply Keeps.fifo))

theorem State.courseFault_keeps {σ : State} (code : Nat) (rail : Nat) (s : State) (h : Keeps σ s) : Keeps σ (State.courseFault code rail s) := by
  unfold State.courseFault
  repeat' (first
    | (with_reducible assumption)
    | (intro t; refine_lift have ht : Keeps σ t := ?_; ?_; clear_value t; rotate_left; subst t)
    | (intro t; subst t; beta_reduce)
    | lift_lets
    | split
    | (with_reducible apply State.allOff_keeps)
    | (with_reducible apply Keeps.with)
    | (with_reducible apply Keeps.host)
    | (with_reducible apply Keeps.sheets)
    | (with_reducible apply Keeps.slots)
    | (with_reducible apply Keeps.fwd)
    | (with_reducible apply Keeps.fifo))

theorem State.requestRejoin_keeps {σ : State} (s : State) (h : Keeps σ s) : Keeps σ (State.requestRejoin s) := by
  unfold State.requestRejoin
  repeat' (first
    | (with_reducible assumption)
    | (intro t; refine_lift have ht : Keeps σ t := ?_; ?_; clear_value t; rotate_left; subst t)
    | (intro t; subst t; beta_reduce)
    | lift_lets
    | split
    | (with_reducible apply State.settleStep_keeps)
    | (with_reducible apply State.beginRun_keeps)
    | (with_reducible apply State.reportRejoin_keeps)
    | (with_reducible apply State.flagRaise_keeps)
    | (with_reducible apply State.setFld_keeps)
    | (with_reducible apply Keeps.with)
    | (with_reducible apply Keeps.host)
    | (with_reducible apply Keeps.sheets)
    | (with_reducible apply Keeps.slots)
    | (with_reducible apply Keeps.fwd)
    | (with_reducible apply Keeps.fifo))

theorem State.unhalt_keeps {σ : State} (n : Nat) (s : State) (h : Keeps σ s) : Keeps σ (State.unhalt n s) := by
  unfold State.unhalt
  repeat' (first
    | (with_reducible assumption)
    | (intro t; refine_lift have ht : Keeps σ t := ?_; ?_; clear_value t; rotate_left; subst t)
    | (intro t; subst t; beta_reduce)
    | lift_lets
    | split
    | (with_reducible apply State.setFld_keeps)
    | (with_reducible apply State.setBrkState_keeps)
    | (with_reducible apply State.takeLimits_keeps)
    | (with_reducible refine onlyIf_keeps (fun _ _ => ?_) ?_)
    | (with_reducible apply State.applyStaged_keeps)
    | (with_reducible apply Keeps.with)
    | (with_reducible apply Keeps.host)
    | (with_reducible apply Keeps.sheets)
    | (with_reducible apply Keeps.slots)
    | (with_reducible apply Keeps.fwd)
    | (with_reducible apply Keeps.fifo))

theorem State.clearFault_keeps {σ : State} (s : State) (h : Keeps σ s) : Keeps σ (State.clearFault s) := by
  unfold State.clearFault
  repeat' (first
    | (with_reducible assumption)
    | (intro t; refine_lift have ht : Keeps σ t := ?_; ?_; clear_value t; rotate_left; subst t)
    | (intro t; subst t; beta_reduce)
    | lift_lets
    | split
    | (with_reducible apply State.setFld_keeps)
    | (with_reducible refine forEach_keeps (fun _ _ _ => ?_) ?_)
    | (with_reducible apply State.updBrick_keeps)
    | (with_reducible refine onlyIf_keeps (fun _ _ => ?_) ?_)
    | (with_reducible apply State.unhalt_keeps)
    | (with_reducible apply State.raise_keeps)
    | (with_reducible apply Keeps.with)
    | (with_reducible apply Keeps.host)
    | (with_reducible apply Keeps.sheets)
    | (with_reducible apply Keeps.slots)
    | (with_reducible apply Keeps.fwd)
    | (with_reducible apply Keeps.fifo))

theorem State.faultClr_keeps {σ : State} (blocked : Bool) (s : State) (h : Keeps σ s) : Keeps σ (State.faultClr blocked s) := by
  unfold State.faultClr
  repeat' (first
    | (with_reducible assumption)
    | (intro t; refine_lift have ht : Keeps σ t := ?_; ?_; clear_value t; rotate_left; subst t)
    | (intro t; subst t; beta_reduce)
    | lift_lets
    | split
    | (with_reducible apply State.clearFault_keeps)
    | (with_reducible apply State.flagRaise_keeps)
    | (with_reducible apply Keeps.with)
    | (with_reducible apply Keeps.host)
    | (with_reducible apply Keeps.sheets)
    | (with_reducible apply Keeps.slots)
    | (with_reducible apply Keeps.fwd)
    | (with_reducible apply Keeps.fifo))

theorem State.confirmed_keeps {σ : State} (course : Nat) (down : Bool) (s : State) (h : Keeps σ s) : Keeps σ (State.confirmed course down s).1 := by
  unfold State.confirmed
  repeat' (first
    | (with_reducible assumption)
    | (intro t; refine_lift have ht : Keeps σ t := ?_; ?_; clear_value t; rotate_left; subst t)
    | (intro t; subst t; beta_reduce)
    | lift_lets
    | split
    | (with_reducible apply State.setFld_keeps)
    | (with_reducible apply State.flagRaise_keeps)
    | (with_reducible apply State.bump_keeps)
    | (with_reducible apply State.allOff_keeps)
    | (with_reducible apply State.seqRefresh_keeps)
    | (with_reducible apply Keeps.with)
    | (with_reducible apply Keeps.host)
    | (with_reducible apply Keeps.sheets)
    | (with_reducible apply Keeps.slots)
    | (with_reducible apply Keeps.fwd)
    | (with_reducible apply Keeps.fifo)
    | (dsimp only))

theorem State.holdLineFault_keeps {σ : State} (v : Nat) (code : Nat) (s : State) (h : Keeps σ s) : Keeps σ (State.holdLineFault v code s) := by
  unfold State.holdLineFault
  repeat' (first
    | (with_reducible assumption)
    | (intro t; refine_lift have ht : Keeps σ t := ?_; ?_; clear_value t; rotate_left; subst t)
    | (intro t; subst t; beta_reduce)
    | lift_lets
    | split
    | (with_reducible apply State.lineReport_keeps)
    | (with_reducible apply State.raise_keeps)
    | (with_reducible apply State.setFld_keeps)
    | (with_reducible apply State.sheet_keeps)
    | (with_reducible apply Keeps.with)
    | (with_reducible apply Keeps.host)
    | (with_reducible apply Keeps.sheets)
    | (with_reducible apply Keeps.slots)
    | (with_reducible apply Keeps.fwd)
    | (with_reducible apply Keeps.fifo))

theorem State.linkFloor_keeps {σ : State} (s : State) (h : Keeps σ s) : Keeps σ (State.linkFloor s) := by
  unfold State.linkFloor
  repeat' (first
    | (with_reducible assumption)
    | (intro t; refine_lift have ht : Keeps σ t := ?_; ?_; clear_value t; rotate_left; subst t)
    | (intro t; subst t; beta_reduce)
    | lift_lets
    | split
    | (with_reducible apply State.settleStep_keeps)
    | (with_reducible apply State.beginRun_keeps)
    | (with_reducible apply State.reportRejoin_keeps)
    | (with_reducible apply State.setFld_keeps)
    | (with_reducible apply State.send_keeps)
    | (with_reducible apply Keeps.with)
    | (with_reducible apply Keeps.host)
    | (with_reducible apply Keeps.sheets)
    | (with_reducible apply Keeps.slots)
    | (with_reducible apply Keeps.fwd)
    | (with_reducible apply Keeps.fifo))

theorem State.giveLinkFloor_keeps {σ : State} (s : State) (h : Keeps σ s) : Keeps σ (State.giveLinkFloor s) := by
  unfold State.giveLinkFloor
  repeat' (first
    | (with_reducible assumption)
    | (intro t; refine_lift have ht : Keeps σ t := ?_; ?_; clear_value t; rotate_left; subst t)
    | (intro t; subst t; beta_reduce)
    | lift_lets
    | split
    | (with_reducible apply State.linkFloor_keeps)
    | (with_reducible apply State.send_keeps)
    | (with_reducible apply Keeps.with)
    | (with_reducible apply Keeps.host)
    | (with_reducible apply Keeps.sheets)
    | (with_reducible apply Keeps.slots)
    | (with_reducible apply Keeps.fwd)
    | (with_reducible apply Keeps.fifo))

theorem State.givePulse_keeps {σ : State} (pulseSeen : Bool) (s : State) (h : Keeps σ s) : Keeps σ (State.givePulse pulseSeen s) := by
  unfold State.givePulse
  repeat' (first
    | (with_reducible assumption)
    | (intro t; refine_lift have ht : Keeps σ t := ?_; ?_; clear_value t; rotate_left; subst t)
    | (intro t; subst t; beta_reduce)
    | lift_lets
    | split
    | (with_reducible apply State.giveLinkFloor_keeps)
    | (with_reducible apply State.setLine_keeps)
    | (with_reducible apply State.setFld_keeps)
    | (with_reducible apply State.holdLineFault_keeps)
    | (with_reducible apply Keeps.with)
    | (with_reducible apply Keeps.host)
    | (with_reducible apply Keeps.sheets)
    | (with_reducible apply Keeps.slots)
    | (with_reducible apply Keeps.fwd)
    | (with_reducible apply Keeps.fifo))

theorem State.offerPulse_keeps {σ : State} (pulseSeen : Bool) (s : State) (h : Keeps σ s) : Keeps σ (State.offerPulse pulseSeen s) := by
  unfold State.offerPulse
  repeat' (first
    | (with_reducible assumption)
    | (intro t; refine_lift have ht : Keeps σ t := ?_; ?_; clear_value t; rotate_left; subst t)
    | (intro t; subst t; beta_reduce)
    | lift_lets
    | split
    | (with_reducible apply State.givePulse_keeps)
    | (with_reducible apply Keeps.with)
    | (with_reducible apply Keeps.host)
    | (with_reducible apply Keeps.sheets)
    | (with_reducible apply Keeps.slots)
    | (with_reducible apply Keeps.fwd)
    | (with_reducible apply Keeps.fifo))

theorem State.heldPulse_keeps {σ : State} (s : State) (h : Keeps σ s) : Keeps σ (State.heldPulse s) := by
  unfold State.heldPulse
  repeat' (first
    | (with_reducible assumption)
    | (intro t; refine_lift have ht : Keeps σ t := ?_; ?_; clear_value t; rotate_left; subst t)
    | (intro t; subst t; beta_reduce)
    | lift_lets
    | split
    | (with_reducible apply State.offerPulse_keeps)
    | (with_reducible apply Keeps.with)
    | (with_reducible apply Keeps.host)
    | (with_reducible apply Keeps.sheets)
    | (with_reducible apply Keeps.slots)
    | (with_reducible apply Keeps.fwd)
    | (with_reducible apply Keeps.fifo))

theorem State.systemDone_keeps {σ : State} (course : Nat) (s : State) (h : Keeps σ s) : Keeps σ (State.systemDone course s) := by
  unfold State.systemDone
  repeat' (first
    | (with_reducible assumption)
    | (intro t; refine_lift have ht : Keeps σ t := ?_; ?_; clear_value t; rotate_left; subst t)
    | (intro t; subst t; beta_reduce)
    | lift_lets
    | split
    | (with_reducible apply State.setFld_keeps)
    | (with_reducible apply State.raise_keeps)
    | (with_reducible apply Keeps.with)
    | (with_reducible apply Keeps.host)
    | (with_reducible apply Keeps.sheets)
    | (with_reducible apply Keeps.slots)
    | (with_reducible apply Keeps.fwd)
    | (with_reducible apply Keeps.fifo))

theorem State.stringDone_keeps {σ : State} (course : Nat) (down : Bool) (s : State) (h : Keeps σ s) : Keeps σ (State.stringDone course down s) := by
  unfold State.stringDone
  repeat' (first
    | (with_reducible assumption)
    | (intro t; refine_lift have ht : Keeps σ t := ?_; ?_; clear_value t; rotate_left; subst t)
    | (intro t; subst t; beta_reduce)
    | lift_lets
    | split
    | (with_reducible apply State.raise_keeps)
    | (with_reducible apply State.setFld_keeps)
    | (with_reducible apply State.systemDone_keeps)
    | (with_reducible apply State.send_keeps)
    | (with_reducible apply Keeps.with)
    | (with_reducible apply Keeps.host)
    | (with_reducible apply Keeps.sheets)
    | (with_reducible apply Keeps.slots)
    | (with_reducible apply Keeps.fwd)
    | (with_reducible apply Keeps.fifo))

theorem State.faultDownSheets_keeps {σ : State} (l : List (Nat × Nat)) (s : State) (h : Keeps σ s) : Keeps σ (State.faultDownSheets l s) := by
  unfold State.faultDownSheets
  repeat' (first
    | (with_reducible assumption)
    | (intro t; refine_lift have ht : Keeps σ t := ?_; ?_; clear_value t; rotate_left; subst t)
    | (intro t; subst t; beta_reduce)
    | lift_lets
    | split
    | (with_reducible refine forEach_keeps (fun _ _ _ => ?_) ?_)
    | (with_reducible apply State.sheet_keeps)
    | (with_reducible apply Keeps.with)
    | (with_reducible apply Keeps.host)
    | (with_reducible apply Keeps.sheets)
    | (with_reducible apply Keeps.slots)
    | (with_reducible apply Keeps.fwd)
    | (with_reducible apply Keeps.fifo))

theorem State.startDescent_keeps {σ : State} (s : State) (h : Keeps σ s) : Keeps σ (State.startDescent s) := by
  unfold State.startDescent
  repeat' (first
    | (with_reducible assumption)
    | (intro t; refine_lift have ht : Keeps σ t := ?_; ?_; clear_value t; rotate_left; subst t)
    | (intro t; subst t; beta_reduce)
    | lift_lets
    | split
    | (with_reducible apply State.setFld_keeps)
    | (with_reducible apply State.raise_keeps)
    | (with_reducible apply Keeps.with)
    | (with_reducible apply Keeps.host)
    | (with_reducible apply Keeps.sheets)
    | (with_reducible apply Keeps.slots)
    | (with_reducible apply Keeps.fwd)
    | (with_reducible apply Keeps.fifo))

theorem State.floorFrame_keeps {σ : State} (s : State) (h : Keeps σ s) : Keeps σ (State.floorFrame s).2 := by
  unfold State.floorFrame
  repeat' (first
    | (with_reducible assumption)
    | (intro t; refine_lift have ht : Keeps σ t := ?_; ?_; clear_value t; rotate_left; subst t)
    | (intro t; subst t; beta_reduce)
    | lift_lets
    | split
    | (with_reducible apply State.takeFree_keeps)
    | (with_reducible apply Keeps.with)
    | (with_reducible apply Keeps.host)
    | (with_reducible apply Keeps.sheets)
    | (with_reducible apply Keeps.slots)
    | (with_reducible apply Keeps.fwd)
    | (with_reducible apply Keeps.fifo)
    | (dsimp only))

theorem State.floorComplete_keeps {σ : State} (s : State) (h : Keeps σ s) : Keeps σ (State.floorComplete s) := by
  unfold State.floorComplete
  repeat' (first
    | (with_reducible assumption)
    | (intro t; refine_lift have ht : Keeps σ t := ?_; ?_; clear_value t; rotate_left; subst t)
    | (intro t; subst t; beta_reduce)
    | lift_lets
    | split
    | (with_reducible apply State.setFld_keeps)
    | (with_reducible apply State.stringDone_keeps)
    | (with_reducible apply Keeps.with)
    | (with_reducible apply Keeps.host)
    | (with_reducible apply Keeps.sheets)
    | (with_reducible apply Keeps.slots)
    | (with_reducible apply Keeps.fwd)
    | (with_reducible apply Keeps.fifo))

theorem State.seqCmd_keeps {σ : State} (w : Word) (s : State) (h : Keeps σ s) : Keeps σ (State.seqCmd w s) := by
  unfold State.seqCmd
  repeat' (first
    | (with_reducible assumption)
    | (intro t; refine_lift have ht : Keeps σ t := ?_; ?_; clear_value t; rotate_left; subst t)
    | (intro t; subst t; beta_reduce)
    | lift_lets
    | split
    | (with_reducible apply State.cfgErr_keeps)
    | (with_reducible apply State.setFld_keeps)
    | (with_reducible apply State.flagRaise_keeps)
    | (with_reducible apply Keeps.with)
    | (with_reducible apply Keeps.host)
    | (with_reducible apply Keeps.sheets)
    | (with_reducible apply Keeps.slots)
    | (with_reducible apply Keeps.fwd)
    | (with_reducible apply Keeps.fifo))

theorem State.lineClr_keeps {σ : State} (s : State) (h : Keeps σ s) : Keeps σ (State.lineClr s) := by
  unfold State.lineClr
  repeat' (first
    | (with_reducible assumption)
    | (intro t; refine_lift have ht : Keeps σ t := ?_; ?_; clear_value t; rotate_left; subst t)
    | (intro t; subst t; beta_reduce)
    | lift_lets
    | split
    | (with_reducible apply State.lineReport_keeps)
    | (with_reducible apply State.setFld_keeps)
    | (with_reducible apply State.flagRaise_keeps)
    | (with_reducible apply Keeps.with)
    | (with_reducible apply Keeps.host)
    | (with_reducible apply Keeps.sheets)
    | (with_reducible apply Keeps.slots)
    | (with_reducible apply Keeps.fwd)
    | (with_reducible apply Keeps.fifo))

theorem State.seqCntClr_keeps {σ : State} (s : State) (h : Keeps σ s) : Keeps σ (State.seqCntClr s) := by
  unfold State.seqCntClr
  repeat' (first
    | (with_reducible assumption)
    | (intro t; refine_lift have ht : Keeps σ t := ?_; ?_; clear_value t; rotate_left; subst t)
    | (intro t; subst t; beta_reduce)
    | lift_lets
    | split
    | (with_reducible apply State.setReg_keeps)
    | (with_reducible apply Keeps.with)
    | (with_reducible apply Keeps.host)
    | (with_reducible apply Keeps.sheets)
    | (with_reducible apply Keeps.slots)
    | (with_reducible apply Keeps.fwd)
    | (with_reducible apply Keeps.fifo))

theorem State.pgRise_keeps {σ : State} (r : Nat) (s : State) (h : Keeps σ s) : Keeps σ (State.pgRise r s) := by
  unfold State.pgRise
  repeat' (first
    | (with_reducible assumption)
    | (intro t; refine_lift have ht : Keeps σ t := ?_; ?_; clear_value t; rotate_left; subst t)
    | (intro t; subst t; beta_reduce)
    | lift_lets
    | split
    | (with_reducible apply State.setPg_keeps)
    | (with_reducible apply State.setFlag_keeps)
    | (with_reducible apply State.setRail_keeps)
    | (with_reducible apply State.finishAction_keeps)
    | (with_reducible apply Keeps.with)
    | (with_reducible apply Keeps.host)
    | (with_reducible apply Keeps.sheets)
    | (with_reducible apply Keeps.slots)
    | (with_reducible apply Keeps.fwd)
    | (with_reducible apply Keeps.fifo))

theorem State.railCompare_keeps {σ : State} (r : Nat) (above : Bool) (under : Bool) (s : State) (h : Keeps σ s) : Keeps σ (State.railCompare r above under s) := by
  unfold State.railCompare
  repeat' (first
    | (with_reducible assumption)
    | (intro t; refine_lift have ht : Keeps σ t := ?_; ?_; clear_value t; rotate_left; subst t)
    | (intro t; subst t; beta_reduce)
    | lift_lets
    | split
    | (with_reducible apply State.setPg_keeps)
    | (with_reducible apply State.beginDelay_keeps)
    | (with_reducible apply Keeps.with)
    | (with_reducible apply Keeps.host)
    | (with_reducible apply Keeps.sheets)
    | (with_reducible apply Keeps.slots)
    | (with_reducible apply Keeps.fwd)
    | (with_reducible apply Keeps.fifo))

theorem State.railSample_keeps {σ : State} (r : Nat) (v : Int) (s : State) (h : Keeps σ s) : Keeps σ (State.railSample r v s) := by
  unfold State.railSample
  repeat' (first
    | (with_reducible assumption)
    | (intro t; refine_lift have ht : Keeps σ t := ?_; ?_; clear_value t; rotate_left; subst t)
    | (intro t; subst t; beta_reduce)
    | lift_lets
    | split
    | (with_reducible apply State.setFld_keeps)
    | (with_reducible apply State.railCompare_keeps)
    | (with_reducible apply Keeps.with)
    | (with_reducible apply Keeps.host)
    | (with_reducible apply Keeps.sheets)
    | (with_reducible apply Keeps.slots)
    | (with_reducible apply Keeps.fwd)
    | (with_reducible apply Keeps.fifo))

theorem State.railWindow_keeps {σ : State} (r : Nat) (uv : Nat) (s : State) (h : Keeps σ s) : Keeps σ (State.railWindow r uv s) := by
  unfold State.railWindow
  repeat' (first
    | (with_reducible assumption)
    | (intro t; refine_lift have ht : Keeps σ t := ?_; ?_; clear_value t; rotate_left; subst t)
    | (intro t; subst t; beta_reduce)
    | lift_lets
    | split
    | (with_reducible apply State.setFld_keeps)
    | (with_reducible apply State.railCompare_keeps)
    | (with_reducible apply Keeps.with)
    | (with_reducible apply Keeps.host)
    | (with_reducible apply Keeps.sheets)
    | (with_reducible apply Keeps.slots)
    | (with_reducible apply Keeps.fwd)
    | (with_reducible apply Keeps.fifo))

theorem State.cutRegulator_keeps {σ : State} (rail : Nat) (s : State) (h : Keeps σ s) : Keeps σ (State.cutRegulator rail s) := by
  unfold State.cutRegulator
  repeat' (first
    | (with_reducible assumption)
    | (intro t; refine_lift have ht : Keeps σ t := ?_; ?_; clear_value t; rotate_left; subst t)
    | (intro t; subst t; beta_reduce)
    | lift_lets
    | split
    | (with_reducible apply State.setRail_keeps)
    | (with_reducible apply Keeps.with)
    | (with_reducible apply Keeps.host)
    | (with_reducible apply Keeps.sheets)
    | (with_reducible apply Keeps.slots)
    | (with_reducible apply Keeps.fwd)
    | (with_reducible apply Keeps.fifo))

theorem State.judgeRail_keeps {σ : State} (rail : Nat) (s : State) (h : Keeps σ s) : Keeps σ (State.judgeRail rail s) := by
  unfold State.judgeRail
  repeat' (first
    | (with_reducible assumption)
    | split
    | (dsimp only)
    | (with_reducible apply State.allOff_keeps)
    | (with_reducible apply State.cutRegulator_keeps)
    | (with_reducible apply Keeps.with)
    | (with_reducible apply Keeps.host)
    | (with_reducible apply Keeps.sheets)
    | (with_reducible apply Keeps.slots)
    | (with_reducible apply Keeps.fwd)
    | (with_reducible apply Keeps.fifo))

theorem State.applyMargins_keeps {σ : State} (s : State) (h : Keeps σ s) : Keeps σ (State.applyMargins s) := by
  unfold State.applyMargins
  repeat' (first
    | (with_reducible assumption)
    | (intro t; refine_lift have ht : Keeps σ t := ?_; ?_; clear_value t; rotate_left; subst t)
    | (intro t; subst t; beta_reduce)
    | lift_lets
    | split
    | (with_reducible refine forEach_keeps (fun _ _ _ => ?_) ?_)
    | (with_reducible apply State.setFld_keeps)
    | (with_reducible refine onlyIf_keeps (fun _ _ => ?_) ?_)
    | (with_reducible apply State.setAux_keeps)
    | (with_reducible apply State.raise_keeps)
    | (with_reducible apply Keeps.with)
    | (with_reducible apply Keeps.host)
    | (with_reducible apply Keeps.sheets)
    | (with_reducible apply Keeps.slots)
    | (with_reducible apply Keeps.fwd)
    | (with_reducible apply Keeps.fifo))

theorem State.supplyReport_keeps {σ : State} (address : Nat) (low : Bool) (s : State) (h : Keeps σ s) : Keeps σ (State.supplyReport address low s) := by
  unfold State.supplyReport
  repeat' (first
    | (with_reducible assumption)
    | (intro t; refine_lift have ht : Keeps σ t := ?_; ?_; clear_value t; rotate_left; subst t)
    | (intro t; subst t; beta_reduce)
    | lift_lets
    | split
    | (with_reducible apply State.startDescent_keeps)
    | (with_reducible apply Keeps.with)
    | (with_reducible apply Keeps.host)
    | (with_reducible apply Keeps.sheets)
    | (with_reducible apply Keeps.slots)
    | (with_reducible apply Keeps.fwd)
    | (with_reducible apply Keeps.fifo))

theorem State.reportSupply_keeps {σ : State} (low : Bool) (s : State) (h : Keeps σ s) : Keeps σ (State.reportSupply low s) := by
  unfold State.reportSupply
  repeat' (first
    | (with_reducible assumption)
    | (intro t; refine_lift have ht : Keeps σ t := ?_; ?_; clear_value t; rotate_left; subst t)
    | (intro t; subst t; beta_reduce)
    | lift_lets
    | split
    | (with_reducible apply State.supplyReport_keeps)
    | (with_reducible apply State.send_keeps)
    | (with_reducible apply Keeps.with)
    | (with_reducible apply Keeps.host)
    | (with_reducible apply Keeps.sheets)
    | (with_reducible apply Keeps.slots)
    | (with_reducible apply Keeps.fwd)
    | (with_reducible apply Keeps.fifo))

theorem State.endTimeline_keeps {σ : State} (s : State) (h : Keeps σ s) : Keeps σ (State.endTimeline s) := by
  unfold State.endTimeline
  repeat' (first
    | (with_reducible assumption)
    | (intro t; refine_lift have ht : Keeps σ t := ?_; ?_; clear_value t; rotate_left; subst t)
    | (intro t; subst t; beta_reduce)
    | lift_lets
    | split
    | (with_reducible apply Keeps.with)
    | (with_reducible apply Keeps.host)
    | (with_reducible apply Keeps.sheets)
    | (with_reducible apply Keeps.slots)
    | (with_reducible apply Keeps.fwd)
    | (with_reducible apply Keeps.fifo))

end Sys2Proof.Machine
end

