-- ==== Sys2Proof/Laws/KeepsServices.lean ====
section
/-! SUPPORT. The operations of the measuring, cell, loop, thermal and interrupt services keep the queue and the
canonical form (KeepsOps). -/
namespace Sys2Proof.Machine

set_option linter.all false

theorem State.driveAux_keeps {σ : State} (s : State) (h : Keeps σ s) : Keeps σ (State.driveAux s) := by
  unfold State.driveAux
  repeat' (first
    | (with_reducible assumption)
    | (intro t; refine_lift have ht : Keeps σ t := ?_; ?_; clear_value t; rotate_left; subst t)
    | (intro t; subst t; beta_reduce)
    | lift_lets
    | split
    | (with_reducible apply Keeps.with)
    | (with_reducible apply Keeps.host)
    | (with_reducible apply Keeps.sheets)
    | (with_reducible apply Keeps.slots)
    | (with_reducible apply Keeps.fwd)
    | (with_reducible apply Keeps.fifo))

theorem State.driveGates_keeps {σ : State} (a : Bool) (b : Bool) (s : State) (h : Keeps σ s) : Keeps σ (State.driveGates a b s) := by
  unfold State.driveGates
  repeat' (first
    | (with_reducible assumption)
    | (intro t; refine_lift have ht : Keeps σ t := ?_; ?_; clear_value t; rotate_left; subst t)
    | (intro t; subst t; beta_reduce)
    | lift_lets
    | split
    | (with_reducible apply Keeps.with)
    | (with_reducible apply Keeps.host)
    | (with_reducible apply Keeps.sheets)
    | (with_reducible apply Keeps.slots)
    | (with_reducible apply Keeps.fwd)
    | (with_reducible apply Keeps.fifo))

theorem State.drivePath_keeps {σ : State} (s : State) (h : Keeps σ s) : Keeps σ (State.drivePath s) := by
  unfold State.drivePath
  repeat' (first
    | (with_reducible assumption)
    | (intro t; refine_lift have ht : Keeps σ t := ?_; ?_; clear_value t; rotate_left; subst t)
    | (intro t; subst t; beta_reduce)
    | lift_lets
    | split
    | (with_reducible apply State.driveAux_keeps)
    | (with_reducible apply State.driveGates_keeps)
    | (with_reducible apply Keeps.with)
    | (with_reducible apply Keeps.host)
    | (with_reducible apply Keeps.sheets)
    | (with_reducible apply Keeps.slots)
    | (with_reducible apply Keeps.fwd)
    | (with_reducible apply Keeps.fifo))

theorem State.setUse_keeps {σ : State} (u : Nat) (s : State) (h : Keeps σ s) : Keeps σ (State.setUse u s) := by
  unfold State.setUse
  repeat' (first
    | (with_reducible assumption)
    | (intro t; refine_lift have ht : Keeps σ t := ?_; ?_; clear_value t; rotate_left; subst t)
    | (intro t; subst t; beta_reduce)
    | lift_lets
    | split
    | (with_reducible apply State.driveGates_keeps)
    | (with_reducible apply State.driveAux_keeps)
    | (with_reducible refine onlyIf_keeps (fun _ _ => ?_) ?_)
    | (with_reducible apply State.raise_keeps)
    | (with_reducible apply State.setFld_keeps)
    | (with_reducible apply Keeps.with)
    | (with_reducible apply Keeps.host)
    | (with_reducible apply Keeps.sheets)
    | (with_reducible apply Keeps.slots)
    | (with_reducible apply Keeps.fwd)
    | (with_reducible apply Keeps.fifo))

theorem State.beginHandover_keeps {σ : State} (b : Bool) (planned : Bool) (s : State) (h : Keeps σ s) : Keeps σ (State.beginHandover b planned s) := by
  unfold State.beginHandover
  repeat' (first
    | (with_reducible assumption)
    | (intro t; refine_lift have ht : Keeps σ t := ?_; ?_; clear_value t; rotate_left; subst t)
    | (intro t; subst t; beta_reduce)
    | lift_lets
    | split
    | (with_reducible apply State.driveGates_keeps)
    | (with_reducible apply Keeps.with)
    | (with_reducible apply Keeps.host)
    | (with_reducible apply Keeps.sheets)
    | (with_reducible apply Keeps.slots)
    | (with_reducible apply Keeps.fwd)
    | (with_reducible apply Keeps.fifo))

theorem State.choosePath_keeps {σ : State} (s : State) (h : Keeps σ s) : Keeps σ (State.choosePath s) := by
  unfold State.choosePath
  repeat' (first
    | (with_reducible assumption)
    | (intro t; refine_lift have ht : Keeps σ t := ?_; ?_; clear_value t; rotate_left; subst t)
    | (intro t; subst t; beta_reduce)
    | lift_lets
    | split
    | (with_reducible apply State.setUse_keeps)
    | (with_reducible apply State.beginHandover_keeps)
    | (with_reducible apply Keeps.with)
    | (with_reducible apply Keeps.host)
    | (with_reducible apply Keeps.sheets)
    | (with_reducible apply Keeps.slots)
    | (with_reducible apply Keeps.fwd)
    | (with_reducible apply Keeps.fifo))

theorem State.restartQual_keeps {σ : State} (b : Bool) (s : State) (h : Keeps σ s) : Keeps σ (State.restartQual b s) := by
  unfold State.restartQual
  repeat' (first
    | (with_reducible assumption)
    | (intro t; refine_lift have ht : Keeps σ t := ?_; ?_; clear_value t; rotate_left; subst t)
    | (intro t; subst t; beta_reduce)
    | lift_lets
    | split
    | (with_reducible apply Keeps.with)
    | (with_reducible apply Keeps.host)
    | (with_reducible apply Keeps.sheets)
    | (with_reducible apply Keeps.slots)
    | (with_reducible apply Keeps.fwd)
    | (with_reducible apply Keeps.fifo))

theorem State.loseSource_keeps {σ : State} (b : Bool) (s : State) (h : Keeps σ s) : Keeps σ (State.loseSource b s) := by
  unfold State.loseSource
  repeat' (first
    | (with_reducible assumption)
    | (intro t; refine_lift have ht : Keeps σ t := ?_; ?_; clear_value t; rotate_left; subst t)
    | (intro t; subst t; beta_reduce)
    | lift_lets
    | split
    | (with_reducible refine onlyIf_keeps (fun _ _ => ?_) ?_)
    | (with_reducible apply State.raise_keeps)
    | (with_reducible apply State.setFld_keeps)
    | (with_reducible apply State.restartQual_keeps)
    | (with_reducible apply State.sheet_keeps)
    | (with_reducible apply State.flagRaise_keeps)
    | (with_reducible apply Keeps.with)
    | (with_reducible apply Keeps.host)
    | (with_reducible apply Keeps.sheets)
    | (with_reducible apply Keeps.slots)
    | (with_reducible apply Keeps.fwd)
    | (with_reducible apply Keeps.fifo))

theorem State.ppCtrlWritten_keeps {σ : State} (s : State) (h : Keeps σ s) : Keeps σ (State.ppCtrlWritten s) := by
  unfold State.ppCtrlWritten
  repeat' (first
    | (with_reducible assumption)
    | (intro t; refine_lift have ht : Keeps σ t := ?_; ?_; clear_value t; rotate_left; subst t)
    | (intro t; subst t; beta_reduce)
    | lift_lets
    | split
    | (with_reducible apply State.choosePath_keeps)
    | (with_reducible apply State.driveAux_keeps)
    | (with_reducible apply Keeps.with)
    | (with_reducible apply Keeps.host)
    | (with_reducible apply Keeps.sheets)
    | (with_reducible apply Keeps.slots)
    | (with_reducible apply Keeps.fwd)
    | (with_reducible apply Keeps.fifo))

theorem State.setProbe_keeps {σ : State} (v : Nat) (s : State) (h : Keeps σ s) : Keeps σ (State.setProbe v s) := by
  unfold State.setProbe
  repeat' (first
    | (with_reducible assumption)
    | (intro t; refine_lift have ht : Keeps σ t := ?_; ?_; clear_value t; rotate_left; subst t)
    | (intro t; subst t; beta_reduce)
    | lift_lets
    | split
    | (with_reducible apply State.raise_keeps)
    | (with_reducible apply State.setFld_keeps)
    | (with_reducible apply Keeps.with)
    | (with_reducible apply Keeps.host)
    | (with_reducible apply Keeps.sheets)
    | (with_reducible apply Keeps.slots)
    | (with_reducible apply Keeps.fwd)
    | (with_reducible apply Keeps.fifo))

theorem State.probeFail_keeps {σ : State} (code : Nat) (s : State) (h : Keeps σ s) : Keeps σ (State.probeFail code s) := by
  unfold State.probeFail
  repeat' (first
    | (with_reducible assumption)
    | (intro t; refine_lift have ht : Keeps σ t := ?_; ?_; clear_value t; rotate_left; subst t)
    | (intro t; subst t; beta_reduce)
    | lift_lets
    | split
    | (with_reducible apply State.allOff_keeps)
    | (with_reducible apply State.setProbe_keeps)
    | (with_reducible apply Keeps.with)
    | (with_reducible apply Keeps.host)
    | (with_reducible apply Keeps.sheets)
    | (with_reducible apply Keeps.slots)
    | (with_reducible apply Keeps.fwd)
    | (with_reducible apply Keeps.fifo))

theorem State.probePass_keeps {σ : State} (s : State) (h : Keeps σ s) : Keeps σ (State.probePass s) := by
  unfold State.probePass
  repeat' (first
    | (with_reducible assumption)
    | (intro t; refine_lift have ht : Keeps σ t := ?_; ?_; clear_value t; rotate_left; subst t)
    | (intro t; subst t; beta_reduce)
    | lift_lets
    | split
    | (with_reducible apply State.setProbe_keeps)
    | (with_reducible apply Keeps.with)
    | (with_reducible apply Keeps.host)
    | (with_reducible apply Keeps.sheets)
    | (with_reducible apply Keeps.slots)
    | (with_reducible apply Keeps.fwd)
    | (with_reducible apply Keeps.fifo))

theorem State.probeStep_keeps {σ : State} (ch : Nat) (v : Int) (s : State) (h : Keeps σ s) : Keeps σ (State.probeStep ch v s) := by
  unfold State.probeStep
  repeat' (first
    | (with_reducible assumption)
    | (intro t; refine_lift have ht : Keeps σ t := ?_; ?_; clear_value t; rotate_left; subst t)
    | (intro t; subst t; beta_reduce)
    | lift_lets
    | split
    | (with_reducible apply State.probePass_keeps)
    | (with_reducible apply Keeps.with)
    | (with_reducible apply Keeps.host)
    | (with_reducible apply Keeps.sheets)
    | (with_reducible apply Keeps.slots)
    | (with_reducible apply Keeps.fwd)
    | (with_reducible apply Keeps.fifo))

theorem State.openModule_keeps {σ : State} (s : State) (h : Keeps σ s) : Keeps σ (State.openModule s) := by
  unfold State.openModule
  repeat' (first
    | (with_reducible assumption)
    | (intro t; refine_lift have ht : Keeps σ t := ?_; ?_; clear_value t; rotate_left; subst t)
    | (intro t; subst t; beta_reduce)
    | lift_lets
    | split
    | (with_reducible apply State.endSession_keeps)
    | (with_reducible apply Keeps.with)
    | (with_reducible apply Keeps.host)
    | (with_reducible apply Keeps.sheets)
    | (with_reducible apply Keeps.slots)
    | (with_reducible apply Keeps.fwd)
    | (with_reducible apply Keeps.fifo))

theorem State.pressEnd_keeps {σ : State} (t : Nat) (s : State) (h : Keeps σ s) : Keeps σ (State.pressEnd t s) := by
  unfold State.pressEnd
  repeat' (first
    | (with_reducible assumption)
    | (intro t; refine_lift have ht : Keeps σ t := ?_; ?_; clear_value t; rotate_left; subst t)
    | (intro t; subst t; beta_reduce)
    | lift_lets
    | split
    | (with_reducible apply State.raise_keeps)
    | (with_reducible apply State.setFld_keeps)
    | (with_reducible apply Keeps.with)
    | (with_reducible apply Keeps.host)
    | (with_reducible apply Keeps.sheets)
    | (with_reducible apply Keeps.slots)
    | (with_reducible apply Keeps.fwd)
    | (with_reducible apply Keeps.fifo))

theorem State.showUnits_keeps {σ : State} (f : Fld) (hi : Int) (v : Int) (s : State) (h : Keeps σ s) : Keeps σ (State.showUnits f hi v s) := by
  unfold State.showUnits
  repeat' (first
    | (with_reducible assumption)
    | (intro t; refine_lift have ht : Keeps σ t := ?_; ?_; clear_value t; rotate_left; subst t)
    | (intro t; subst t; beta_reduce)
    | lift_lets
    | split
    | (with_reducible apply State.setFld_keeps)
    | (with_reducible apply State.takeFree_keeps)
    | (with_reducible apply Keeps.with)
    | (with_reducible apply Keeps.host)
    | (with_reducible apply Keeps.sheets)
    | (with_reducible apply Keeps.slots)
    | (with_reducible apply Keeps.fwd)
    | (with_reducible apply Keeps.fifo)
    | (dsimp only))

theorem State.managerWrite_keeps {σ : State} (loop : Bool) (v : Int) (s : State) (h : Keeps σ s) : Keeps σ (State.managerWrite loop v s) := by
  unfold State.managerWrite
  repeat' (first
    | (with_reducible assumption)
    | (intro t; refine_lift have ht : Keeps σ t := ?_; ?_; clear_value t; rotate_left; subst t)
    | (intro t; subst t; beta_reduce)
    | lift_lets
    | split
    | (with_reducible apply State.putTarget_keeps)
    | (with_reducible apply State.takeFree_keeps)
    | (with_reducible apply Keeps.with)
    | (with_reducible apply Keeps.host)
    | (with_reducible apply Keeps.sheets)
    | (with_reducible apply Keeps.slots)
    | (with_reducible apply Keeps.fwd)
    | (with_reducible apply Keeps.fifo)
    | (dsimp only))

theorem State.setChargePhase_keeps {σ : State} (p : Nat) (s : State) (h : Keeps σ s) : Keeps σ (State.setChargePhase p s) := by
  unfold State.setChargePhase
  repeat' (first
    | (with_reducible assumption)
    | (intro t; refine_lift have ht : Keeps σ t := ?_; ?_; clear_value t; rotate_left; subst t)
    | (intro t; subst t; beta_reduce)
    | lift_lets
    | split
    | (with_reducible apply State.raise_keeps)
    | (with_reducible apply State.setFld_keeps)
    | (with_reducible apply Keeps.with)
    | (with_reducible apply Keeps.host)
    | (with_reducible apply Keeps.sheets)
    | (with_reducible apply Keeps.slots)
    | (with_reducible apply Keeps.fwd)
    | (with_reducible apply Keeps.fifo))

theorem State.takeSearchLimit_keeps {σ : State} (i : Int) (s : State) (h : Keeps σ s) : Keeps σ (State.takeSearchLimit i s) := by
  unfold State.takeSearchLimit
  repeat' (first
    | (with_reducible assumption)
    | (intro t; refine_lift have ht : Keeps σ t := ?_; ?_; clear_value t; rotate_left; subst t)
    | (intro t; subst t; beta_reduce)
    | lift_lets
    | split
    | (with_reducible apply State.showUnits_keeps)
    | (with_reducible apply Keeps.with)
    | (with_reducible apply Keeps.host)
    | (with_reducible apply Keeps.sheets)
    | (with_reducible apply Keeps.slots)
    | (with_reducible apply Keeps.fwd)
    | (with_reducible apply Keeps.fifo))

theorem State.endSearch_keeps {σ : State} (s : State) (h : Keeps σ s) : Keeps σ (State.endSearch s) := by
  unfold State.endSearch
  repeat' (first
    | (with_reducible assumption)
    | (intro t; refine_lift have ht : Keeps σ t := ?_; ?_; clear_value t; rotate_left; subst t)
    | (intro t; subst t; beta_reduce)
    | lift_lets
    | split
    | (with_reducible apply State.setFld_keeps)
    | (with_reducible apply Keeps.with)
    | (with_reducible apply Keeps.host)
    | (with_reducible apply Keeps.sheets)
    | (with_reducible apply Keeps.slots)
    | (with_reducible apply Keeps.fwd)
    | (with_reducible apply Keeps.fifo))

theorem State.searchRaise_keeps {σ : State} (s : State) (h : Keeps σ s) : Keeps σ (State.searchRaise s) := by
  unfold State.searchRaise
  repeat' (first
    | (with_reducible assumption)
    | (intro t; refine_lift have ht : Keeps σ t := ?_; ?_; clear_value t; rotate_left; subst t)
    | (intro t; subst t; beta_reduce)
    | lift_lets
    | split
    | (with_reducible apply State.endSearch_keeps)
    | (with_reducible apply State.takeSearchLimit_keeps)
    | (with_reducible apply Keeps.with)
    | (with_reducible apply Keeps.host)
    | (with_reducible apply Keeps.sheets)
    | (with_reducible apply Keeps.slots)
    | (with_reducible apply Keeps.fwd)
    | (with_reducible apply Keeps.fifo))

theorem State.beginSearch_keeps {σ : State} (s : State) (h : Keeps σ s) : Keeps σ (State.beginSearch s) := by
  unfold State.beginSearch
  repeat' (first
    | (with_reducible assumption)
    | (intro t; refine_lift have ht : Keeps σ t := ?_; ?_; clear_value t; rotate_left; subst t)
    | (intro t; subst t; beta_reduce)
    | lift_lets
    | split
    | (with_reducible apply State.searchRaise_keeps)
    | (with_reducible apply State.setFld_keeps)
    | (with_reducible apply Keeps.with)
    | (with_reducible apply Keeps.host)
    | (with_reducible apply Keeps.sheets)
    | (with_reducible apply Keeps.slots)
    | (with_reducible apply Keeps.fwd)
    | (with_reducible apply Keeps.fifo))

theorem State.showLimit_keeps {σ : State} (s : State) (h : Keeps σ s) : Keeps σ (State.showLimit s) := by
  unfold State.showLimit
  repeat' (first
    | (with_reducible assumption)
    | (intro t; refine_lift have ht : Keeps σ t := ?_; ?_; clear_value t; rotate_left; subst t)
    | (intro t; subst t; beta_reduce)
    | lift_lets
    | split
    | (with_reducible apply State.showUnits_keeps)
    | (with_reducible apply Keeps.with)
    | (with_reducible apply Keeps.host)
    | (with_reducible apply Keeps.sheets)
    | (with_reducible apply Keeps.slots)
    | (with_reducible apply Keeps.fwd)
    | (with_reducible apply Keeps.fifo))

theorem State.chargeStart_keeps {σ : State} (s : State) (h : Keeps σ s) : Keeps σ (State.chargeStart s) := by
  unfold State.chargeStart
  repeat' (first
    | (with_reducible assumption)
    | (intro t; refine_lift have ht : Keeps σ t := ?_; ?_; clear_value t; rotate_left; subst t)
    | (intro t; subst t; beta_reduce)
    | lift_lets
    | split
    | (with_reducible apply State.flagRaise_keeps)
    | (with_reducible apply State.setFld_keeps)
    | (with_reducible apply State.setChargePhase_keeps)
    | (with_reducible apply State.raise_keeps)
    | (with_reducible apply State.takeSearchLimit_keeps)
    | (with_reducible apply State.beginSearch_keeps)
    | (with_reducible apply State.setFlag_keeps)
    | (with_reducible apply State.drivePin_keeps)
    | (with_reducible apply Keeps.with)
    | (with_reducible apply Keeps.host)
    | (with_reducible apply Keeps.sheets)
    | (with_reducible apply Keeps.slots)
    | (with_reducible apply Keeps.fwd)
    | (with_reducible apply Keeps.fifo))

theorem State.chargeStop_keeps {σ : State} (s : State) (h : Keeps σ s) : Keeps σ (State.chargeStop s) := by
  unfold State.chargeStop
  repeat' (first
    | (with_reducible assumption)
    | (intro t; refine_lift have ht : Keeps σ t := ?_; ?_; clear_value t; rotate_left; subst t)
    | (intro t; subst t; beta_reduce)
    | lift_lets
    | split
    | (with_reducible apply State.endSession_keeps)
    | (with_reducible apply Keeps.with)
    | (with_reducible apply Keeps.host)
    | (with_reducible apply Keeps.sheets)
    | (with_reducible apply Keeps.slots)
    | (with_reducible apply Keeps.fwd)
    | (with_reducible apply Keeps.fifo))

theorem State.termination_keeps {σ : State} (low : Bool) (s : State) (h : Keeps σ s) : Keeps σ (State.termination low s) := by
  unfold State.termination
  repeat' (first
    | (with_reducible assumption)
    | (intro t; refine_lift have ht : Keeps σ t := ?_; ?_; clear_value t; rotate_left; subst t)
    | (intro t; subst t; beta_reduce)
    | lift_lets
    | split
    | (with_reducible apply State.endSession_keeps)
    | (with_reducible apply Keeps.with)
    | (with_reducible apply Keeps.host)
    | (with_reducible apply Keeps.sheets)
    | (with_reducible apply Keeps.slots)
    | (with_reducible apply Keeps.fwd)
    | (with_reducible apply Keeps.fifo))

theorem State.enterCv_keeps {σ : State} (s : State) (h : Keeps σ s) : Keeps σ (State.enterCv s) := by
  unfold State.enterCv
  repeat' (first
    | (with_reducible assumption)
    | (intro t; refine_lift have ht : Keeps σ t := ?_; ?_; clear_value t; rotate_left; subst t)
    | (intro t; subst t; beta_reduce)
    | lift_lets
    | split
    | (with_reducible apply State.setChargePhase_keeps)
    | (with_reducible apply State.managerWrite_keeps)
    | (with_reducible apply State.endSearch_keeps)
    | (with_reducible apply Keeps.with)
    | (with_reducible apply Keeps.host)
    | (with_reducible apply Keeps.sheets)
    | (with_reducible apply Keeps.slots)
    | (with_reducible apply Keeps.fwd)
    | (with_reducible apply Keeps.fifo))

theorem State.chargeSample_keeps {σ : State} (ch : Nat) (tick : Nat) (v : Int) (s : State) (h : Keeps σ s) : Keeps σ (State.chargeSample ch tick v s) := by
  unfold State.chargeSample
  repeat' (first
    | (with_reducible assumption)
    | (intro t; refine_lift have ht : Keeps σ t := ?_; ?_; clear_value t; rotate_left; subst t)
    | (intro t; subst t; beta_reduce)
    | lift_lets
    | split
    | (with_reducible refine onlyIf_keeps (fun _ _ => ?_) ?_)
    | (with_reducible apply State.enterCv_keeps)
    | (with_reducible apply Keeps.with)
    | (with_reducible apply Keeps.host)
    | (with_reducible apply Keeps.sheets)
    | (with_reducible apply Keeps.slots)
    | (with_reducible apply Keeps.fwd)
    | (with_reducible apply Keeps.fifo))

theorem State.evalConverter_keeps {σ : State} (s : State) (h : Keeps σ s) : Keeps σ (State.evalConverter s) := by
  unfold State.evalConverter
  repeat' (first
    | (with_reducible assumption)
    | (intro t; refine_lift have ht : Keeps σ t := ?_; ?_; clear_value t; rotate_left; subst t)
    | (intro t; subst t; beta_reduce)
    | lift_lets
    | split
    | (with_reducible apply State.managerWrite_keeps)
    | (with_reducible apply State.setChargePhase_keeps)
    | (with_reducible apply State.termination_keeps)
    | (with_reducible apply Keeps.with)
    | (with_reducible apply Keeps.host)
    | (with_reducible apply Keeps.sheets)
    | (with_reducible apply Keeps.slots)
    | (with_reducible apply Keeps.fwd)
    | (with_reducible apply Keeps.fifo))

theorem State.evalCharger_keeps {σ : State} (s : State) (h : Keeps σ s) : Keeps σ (State.evalCharger s) := by
  unfold State.evalCharger
  repeat' (first
    | (with_reducible assumption)
    | (intro t; refine_lift have ht : Keeps σ t := ?_; ?_; clear_value t; rotate_left; subst t)
    | (intro t; subst t; beta_reduce)
    | lift_lets
    | split
    | (with_reducible apply State.endSession_keeps)
    | (with_reducible apply State.sheet_keeps)
    | (with_reducible apply State.termination_keeps)
    | (with_reducible apply Keeps.with)
    | (with_reducible apply Keeps.host)
    | (with_reducible apply Keeps.sheets)
    | (with_reducible apply Keeps.slots)
    | (with_reducible apply Keeps.fwd)
    | (with_reducible apply Keeps.fifo))

theorem State.writeRecord_keeps {σ : State} (k : Nat) (stamp : Time) (samples : List Int) (s : State) (h : Keeps σ s) : Keeps σ (State.writeRecord k stamp samples s) := by
  unfold State.writeRecord
  repeat' (first
    | (with_reducible assumption)
    | (intro t; refine_lift have ht : Keeps σ t := ?_; ?_; clear_value t; rotate_left; subst t)
    | (intro t; subst t; beta_reduce)
    | lift_lets
    | split
    | (with_reducible apply State.sramWrite_keeps)
    | (with_reducible apply State.setFld_keeps)
    | (with_reducible apply State.setReg_keeps)
    | (with_reducible refine onlyIf_keeps (fun _ _ => ?_) ?_)
    | (with_reducible apply State.raise_keeps)
    | (with_reducible apply Keeps.with)
    | (with_reducible apply Keeps.host)
    | (with_reducible apply Keeps.sheets)
    | (with_reducible apply Keeps.slots)
    | (with_reducible apply Keeps.fwd)
    | (with_reducible apply Keeps.fifo))

theorem State.offerRecord_keeps {σ : State} (k : Nat) (cap : Nat) (stamp : Time) (samples : List Int) (s : State) (h : Keeps σ s) : Keeps σ (State.offerRecord k cap stamp samples s) := by
  unfold State.offerRecord
  repeat' (first
    | (with_reducible assumption)
    | (intro t; refine_lift have ht : Keeps σ t := ?_; ?_; clear_value t; rotate_left; subst t)
    | (intro t; subst t; beta_reduce)
    | lift_lets
    | split
    | (with_reducible apply State.writeRecord_keeps)
    | (with_reducible apply Keeps.with)
    | (with_reducible apply Keeps.host)
    | (with_reducible apply Keeps.sheets)
    | (with_reducible apply Keeps.slots)
    | (with_reducible apply Keeps.fwd)
    | (with_reducible apply Keeps.fifo))

theorem State.offerSense_keeps {σ : State} (ch : Nat) (trig : Nat) (cap : Nat) (stamp : Time) (s : State) (h : Keeps σ s) : Keeps σ (State.offerSense ch trig cap stamp s) := by
  unfold State.offerSense
  repeat' (first
    | (with_reducible assumption)
    | (intro t; refine_lift have ht : Keeps σ t := ?_; ?_; clear_value t; rotate_left; subst t)
    | (intro t; subst t; beta_reduce)
    | lift_lets
    | split
    | (with_reducible refine forEach_keeps (fun _ _ _ => ?_) ?_)
    | (with_reducible apply State.offerRecord_keeps)
    | (with_reducible apply Keeps.with)
    | (with_reducible apply Keeps.host)
    | (with_reducible apply Keeps.sheets)
    | (with_reducible apply Keeps.slots)
    | (with_reducible apply Keeps.fwd)
    | (with_reducible apply Keeps.fifo))

theorem State.dmaCfgWritten_keeps {σ : State} (k : Nat) (was : Bool) (s : State) (h : Keeps σ s) : Keeps σ (State.dmaCfgWritten k was s) := by
  unfold State.dmaCfgWritten
  repeat' (first
    | (with_reducible assumption)
    | (intro t; refine_lift have ht : Keeps σ t := ?_; ?_; clear_value t; rotate_left; subst t)
    | (intro t; subst t; beta_reduce)
    | lift_lets
    | split
    | (with_reducible apply State.setReg_keeps)
    | (with_reducible apply Keeps.with)
    | (with_reducible apply Keeps.host)
    | (with_reducible apply Keeps.sheets)
    | (with_reducible apply Keeps.slots)
    | (with_reducible apply Keeps.fwd)
    | (with_reducible apply Keeps.fifo))

theorem State.tdacWritten_keeps {σ : State} (s : State) (h : Keeps σ s) : Keeps σ (State.tdacWritten s) := by
  unfold State.tdacWritten
  repeat' (first
    | (with_reducible assumption)
    | (intro t; refine_lift have ht : Keeps σ t := ?_; ?_; clear_value t; rotate_left; subst t)
    | (intro t; subst t; beta_reduce)
    | lift_lets
    | split
    | (with_reducible apply Keeps.with)
    | (with_reducible apply Keeps.host)
    | (with_reducible apply Keeps.sheets)
    | (with_reducible apply Keeps.slots)
    | (with_reducible apply Keeps.fwd)
    | (with_reducible apply Keeps.fifo))

theorem State.switchDrivers_keeps {σ : State} (on : Word) (onEnd : Option Nat) (s : State) (h : Keeps σ s) : Keeps σ (State.switchDrivers on onEnd s) := by
  unfold State.switchDrivers
  repeat' (first
    | (with_reducible assumption)
    | (intro t; refine_lift have ht : Keeps σ t := ?_; ?_; clear_value t; rotate_left; subst t)
    | (intro t; subst t; beta_reduce)
    | lift_lets
    | split
    | (with_reducible apply State.setReg_keeps)
    | (with_reducible apply Keeps.with)
    | (with_reducible apply Keeps.host)
    | (with_reducible apply Keeps.sheets)
    | (with_reducible apply Keeps.slots)
    | (with_reducible apply Keeps.fwd)
    | (with_reducible apply Keeps.fifo))

theorem State.driversOff_keeps {σ : State} (s : State) (h : Keeps σ s) : Keeps σ (State.driversOff s) := by
  unfold State.driversOff
  repeat' (first
    | (with_reducible assumption)
    | (intro t; refine_lift have ht : Keeps σ t := ?_; ?_; clear_value t; rotate_left; subst t)
    | (intro t; subst t; beta_reduce)
    | lift_lets
    | split
    | (with_reducible apply State.switchDrivers_keeps)
    | (with_reducible apply Keeps.with)
    | (with_reducible apply Keeps.host)
    | (with_reducible apply Keeps.sheets)
    | (with_reducible apply Keeps.slots)
    | (with_reducible apply Keeps.fwd)
    | (with_reducible apply Keeps.fifo))

theorem State.setTap_keeps {σ : State} (k : Nat) (b : Bool) (s : State) (h : Keeps σ s) : Keeps σ (State.setTap k b s) := by
  unfold State.setTap
  repeat' (first
    | (with_reducible assumption)
    | (intro t; refine_lift have ht : Keeps σ t := ?_; ?_; clear_value t; rotate_left; subst t)
    | (intro t; subst t; beta_reduce)
    | lift_lets
    | split
    | (with_reducible apply State.setFlag_keeps)
    | (with_reducible apply Keeps.with)
    | (with_reducible apply Keeps.host)
    | (with_reducible apply Keeps.sheets)
    | (with_reducible apply Keeps.slots)
    | (with_reducible apply Keeps.fwd)
    | (with_reducible apply Keeps.fifo))

theorem State.owEnd_keeps {σ : State} (result : Nat) (s : State) (h : Keeps σ s) : Keeps σ (State.owEnd result s) := by
  unfold State.owEnd
  repeat' (first
    | (with_reducible assumption)
    | (intro t; refine_lift have ht : Keeps σ t := ?_; ?_; clear_value t; rotate_left; subst t)
    | (intro t; subst t; beta_reduce)
    | lift_lets
    | split
    | (with_reducible apply State.raise_keeps)
    | (with_reducible apply State.setFld_keeps)
    | (with_reducible apply Keeps.with)
    | (with_reducible apply Keeps.host)
    | (with_reducible apply Keeps.sheets)
    | (with_reducible apply Keeps.slots)
    | (with_reducible apply Keeps.fwd)
    | (with_reducible apply Keeps.fifo))

theorem State.owAbort_keeps {σ : State} (s : State) (h : Keeps σ s) : Keeps σ (State.owAbort s) := by
  unfold State.owAbort
  repeat' (first
    | (with_reducible assumption)
    | (intro t; refine_lift have ht : Keeps σ t := ?_; ?_; clear_value t; rotate_left; subst t)
    | (intro t; subst t; beta_reduce)
    | lift_lets
    | split
    | (with_reducible apply State.sheet_keeps)
    | (with_reducible apply State.owEnd_keeps)
    | (with_reducible apply Keeps.with)
    | (with_reducible apply Keeps.host)
    | (with_reducible apply Keeps.sheets)
    | (with_reducible apply Keeps.slots)
    | (with_reducible apply Keeps.fwd)
    | (with_reducible apply Keeps.fifo))

theorem State.owTapStart_keeps {σ : State} (s : State) (h : Keeps σ s) : Keeps σ (State.owTapStart s) := by
  unfold State.owTapStart
  repeat' (first
    | (with_reducible assumption)
    | (intro t; refine_lift have ht : Keeps σ t := ?_; ?_; clear_value t; rotate_left; subst t)
    | (intro t; subst t; beta_reduce)
    | lift_lets
    | split
    | (with_reducible apply State.setFld_keeps)
    | (with_reducible apply Keeps.with)
    | (with_reducible apply Keeps.host)
    | (with_reducible apply Keeps.sheets)
    | (with_reducible apply Keeps.slots)
    | (with_reducible apply Keeps.fwd)
    | (with_reducible apply Keeps.fifo))

theorem State.owRelease_keeps {σ : State} (s : State) (h : Keeps σ s) : Keeps σ (State.owRelease s) := by
  unfold State.owRelease
  repeat' (first
    | (with_reducible assumption)
    | (intro t; refine_lift have ht : Keeps σ t := ?_; ?_; clear_value t; rotate_left; subst t)
    | (intro t; subst t; beta_reduce)
    | lift_lets
    | split
    | (with_reducible apply State.owTapStart_keeps)
    | (with_reducible apply Keeps.with)
    | (with_reducible apply Keeps.host)
    | (with_reducible apply Keeps.sheets)
    | (with_reducible apply Keeps.slots)
    | (with_reducible apply Keeps.fwd)
    | (with_reducible apply Keeps.fifo))

theorem State.owGo_keeps {σ : State} (s : State) (h : Keeps σ s) : Keeps σ (State.owGo s) := by
  unfold State.owGo
  repeat' (first
    | (with_reducible assumption)
    | (intro t; refine_lift have ht : Keeps σ t := ?_; ?_; clear_value t; rotate_left; subst t)
    | (intro t; subst t; beta_reduce)
    | lift_lets
    | split
    | (with_reducible apply State.sheet_keeps)
    | (with_reducible apply State.setFld_keeps)
    | (with_reducible apply State.driversOff_keeps)
    | (with_reducible apply State.owRelease_keeps)
    | (with_reducible apply Keeps.with)
    | (with_reducible apply Keeps.host)
    | (with_reducible apply Keeps.sheets)
    | (with_reducible apply Keeps.slots)
    | (with_reducible apply Keeps.fwd)
    | (with_reducible apply Keeps.fifo))

theorem State.owRound_keeps {σ : State} (cells : List Int) (s : State) (h : Keeps σ s) : Keeps σ (State.owRound cells s) := by
  unfold State.owRound
  repeat' (first
    | (with_reducible assumption)
    | (intro t; refine_lift have ht : Keeps σ t := ?_; ?_; clear_value t; rotate_left; subst t)
    | (intro t; subst t; beta_reduce)
    | lift_lets
    | split
    | (with_reducible apply Keeps.with)
    | (with_reducible apply Keeps.host)
    | (with_reducible apply Keeps.sheets)
    | (with_reducible apply Keeps.slots)
    | (with_reducible apply Keeps.fwd)
    | (with_reducible apply Keeps.fifo))

theorem State.takeExtreme_keeps {σ : State} (c : Nat) (uv : Int) (s : State) (h : Keeps σ s) : Keeps σ (State.takeExtreme c uv s) := by
  unfold State.takeExtreme
  repeat' (first
    | (with_reducible assumption)
    | (intro t; refine_lift have ht : Keeps σ t := ?_; ?_; clear_value t; rotate_left; subst t)
    | (intro t; subst t; beta_reduce)
    | lift_lets
    | split
    | (with_reducible apply State.setFld_keeps)
    | (with_reducible apply Keeps.with)
    | (with_reducible apply Keeps.host)
    | (with_reducible apply Keeps.sheets)
    | (with_reducible apply Keeps.slots)
    | (with_reducible apply Keeps.fwd)
    | (with_reducible apply Keeps.fifo))

theorem State.publishBlock_keeps {σ : State} (s : State) (h : Keeps σ s) : Keeps σ (State.publishBlock s) := by
  unfold State.publishBlock
  repeat' (first
    | (with_reducible assumption)
    | (intro t; refine_lift have ht : Keeps σ t := ?_; ?_; clear_value t; rotate_left; subst t)
    | (intro t; subst t; beta_reduce)
    | lift_lets
    | split
    | (with_reducible refine forEach_keeps (fun _ _ _ => ?_) ?_)
    | (with_reducible apply State.setFlag_keeps)
    | (with_reducible apply State.setFld_keeps)
    | (with_reducible apply State.takeExtreme_keeps)
    | (with_reducible apply State.setReg_keeps)
    | (with_reducible apply State.raise_keeps)
    | (with_reducible apply Keeps.with)
    | (with_reducible apply Keeps.host)
    | (with_reducible apply Keeps.sheets)
    | (with_reducible apply Keeps.slots)
    | (with_reducible apply Keeps.fwd)
    | (with_reducible apply Keeps.fifo))

theorem State.blockRound_keeps {σ : State} (stamp : Time) (vals : List Int) (m : Mark) (s : State) (h : Keeps σ s) : Keeps σ (State.blockRound stamp vals m s) := by
  unfold State.blockRound
  repeat' (first
    | (with_reducible assumption)
    | (intro t; refine_lift have ht : Keeps σ t := ?_; ?_; clear_value t; rotate_left; subst t)
    | (intro t; subst t; beta_reduce)
    | lift_lets
    | split
    | (with_reducible apply State.publishBlock_keeps)
    | (with_reducible apply Keeps.with)
    | (with_reducible apply Keeps.host)
    | (with_reducible apply Keeps.sheets)
    | (with_reducible apply Keeps.slots)
    | (with_reducible apply Keeps.fwd)
    | (with_reducible apply Keeps.fifo))

theorem State.msrCntClr_keeps {σ : State} (s : State) (h : Keeps σ s) : Keeps σ (State.msrCntClr s) := by
  unfold State.msrCntClr
  repeat' (first
    | (with_reducible assumption)
    | (intro t; refine_lift have ht : Keeps σ t := ?_; ?_; clear_value t; rotate_left; subst t)
    | (intro t; subst t; beta_reduce)
    | lift_lets
    | split
    | (with_reducible apply State.setReg_keeps)
    | (with_reducible apply Keeps.with)
    | (with_reducible apply Keeps.host)
    | (with_reducible apply Keeps.sheets)
    | (with_reducible apply Keeps.slots)
    | (with_reducible apply Keeps.fwd)
    | (with_reducible apply Keeps.fifo))

theorem State.ntcTemp_keeps {σ : State} (s : State) (curve : Nat) (q : Rat) (h : Keeps σ s) : Keeps σ (State.ntcTemp s curve q).2 := by
  unfold State.ntcTemp
  repeat' (first
    | (with_reducible assumption)
    | (intro t; refine_lift have ht : Keeps σ t := ?_; ?_; clear_value t; rotate_left; subst t)
    | (intro t; subst t; beta_reduce)
    | lift_lets
    | split
    | (with_reducible apply State.takeFree_keeps)
    | (with_reducible apply Keeps.with)
    | (with_reducible apply Keeps.host)
    | (with_reducible apply Keeps.sheets)
    | (with_reducible apply Keeps.slots)
    | (with_reducible apply Keeps.fwd)
    | (with_reducible apply Keeps.fifo)
    | (dsimp only))

theorem State.stepBand_keeps {σ : State} (t : Int) (s : State) (h : Keeps σ s) : Keeps σ (State.stepBand t s) := by
  unfold State.stepBand
  repeat' (first
    | (with_reducible assumption)
    | (intro t; refine_lift have ht : Keeps σ t := ?_; ?_; clear_value t; rotate_left; subst t)
    | (intro t; subst t; beta_reduce)
    | lift_lets
    | split
    | (with_reducible apply State.retrim_keeps)
    | (with_reducible apply State.raise_keeps)
    | (with_reducible apply State.setFld_keeps)
    | (with_reducible apply Keeps.with)
    | (with_reducible apply Keeps.host)
    | (with_reducible apply Keeps.sheets)
    | (with_reducible apply Keeps.slots)
    | (with_reducible apply Keeps.fwd)
    | (with_reducible apply Keeps.fifo))

theorem State.refCheck_keeps {σ : State} (s : State) (h : Keeps σ s) : Keeps σ (State.refCheck s) := by
  unfold State.refCheck
  repeat' (first
    | (with_reducible assumption)
    | (intro t; refine_lift have ht : Keeps σ t := ?_; ?_; clear_value t; rotate_left; subst t)
    | (intro t; subst t; beta_reduce)
    | lift_lets
    | split
    | (with_reducible apply State.flagRaise_keeps)
    | (with_reducible refine forEach_keeps (fun _ _ _ => ?_) ?_)
    | (with_reducible apply State.allOff_keeps)
    | (with_reducible apply State.setFld_keeps)
    | (with_reducible apply Keeps.with)
    | (with_reducible apply Keeps.host)
    | (with_reducible apply Keeps.sheets)
    | (with_reducible apply Keeps.slots)
    | (with_reducible apply Keeps.fwd)
    | (with_reducible apply Keeps.fifo))

theorem State.setSensor_keeps {σ : State} (i : Nat) (v : Sensor) (s : State) (h : Keeps σ s) : Keeps σ (State.setSensor i v s) := by
  unfold State.setSensor
  repeat' (first
    | (with_reducible assumption)
    | (intro t; refine_lift have ht : Keeps σ t := ?_; ?_; clear_value t; rotate_left; subst t)
    | (intro t; subst t; beta_reduce)
    | lift_lets
    | split
    | (with_reducible apply Keeps.with)
    | (with_reducible apply Keeps.host)
    | (with_reducible apply Keeps.sheets)
    | (with_reducible apply Keeps.slots)
    | (with_reducible apply Keeps.fwd)
    | (with_reducible apply Keeps.fifo))

theorem State.checkSensor_keeps {σ : State} (i : Nat) (range : Bool) (s : State) (h : Keeps σ s) : Keeps σ (State.checkSensor i range s) := by
  unfold State.checkSensor
  repeat' (first
    | (with_reducible assumption)
    | (intro t; refine_lift have ht : Keeps σ t := ?_; ?_; clear_value t; rotate_left; subst t)
    | (intro t; subst t; beta_reduce)
    | lift_lets
    | split
    | (with_reducible apply State.setSensor_keeps)
    | (with_reducible apply Keeps.with)
    | (with_reducible apply Keeps.host)
    | (with_reducible apply Keeps.sheets)
    | (with_reducible apply Keeps.slots)
    | (with_reducible apply Keeps.fwd)
    | (with_reducible apply Keeps.fifo))

theorem State.countSensor_keeps {σ : State} (i : Nat) (s : State) (h : Keeps σ s) : Keeps σ (State.countSensor i s) := by
  unfold State.countSensor
  repeat' (first
    | (with_reducible assumption)
    | (intro t; refine_lift have ht : Keeps σ t := ?_; ?_; clear_value t; rotate_left; subst t)
    | (intro t; subst t; beta_reduce)
    | lift_lets
    | split
    | (with_reducible apply State.setSensor_keeps)
    | (with_reducible apply Keeps.with)
    | (with_reducible apply Keeps.host)
    | (with_reducible apply Keeps.sheets)
    | (with_reducible apply Keeps.slots)
    | (with_reducible apply Keeps.fwd)
    | (with_reducible apply Keeps.fifo))

theorem State.showHot_keeps {σ : State} (i : Nat) (s : State) (h : Keeps σ s) : Keeps σ (State.showHot i s) := by
  unfold State.showHot
  repeat' (first
    | (with_reducible assumption)
    | (intro t; refine_lift have ht : Keeps σ t := ?_; ?_; clear_value t; rotate_left; subst t)
    | (intro t; subst t; beta_reduce)
    | lift_lets
    | split
    | (with_reducible apply State.setFlag_keeps)
    | (with_reducible apply State.flagRaise_keeps)
    | (with_reducible apply Keeps.with)
    | (with_reducible apply Keeps.host)
    | (with_reducible apply Keeps.sheets)
    | (with_reducible apply Keeps.slots)
    | (with_reducible apply Keeps.fwd)
    | (with_reducible apply Keeps.fifo))

theorem State.thermalRound_keeps {σ : State} (s : State) (h : Keeps σ s) : Keeps σ (State.thermalRound s) := by
  unfold State.thermalRound
  repeat' (first
    | (with_reducible assumption)
    | (intro t; refine_lift have ht : Keeps σ t := ?_; ?_; clear_value t; rotate_left; subst t)
    | (intro t; subst t; beta_reduce)
    | lift_lets
    | split
    | (with_reducible refine forEach_keeps (fun _ _ _ => ?_) ?_)
    | (with_reducible apply State.ntcTemp_keeps)
    | (with_reducible apply State.setFld_keeps)
    | (with_reducible apply State.checkSensor_keeps)
    | (with_reducible apply State.countSensor_keeps)
    | (with_reducible apply State.showHot_keeps)
    | (with_reducible refine onlyIf_keeps (fun _ _ => ?_) ?_)
    | (with_reducible apply State.stepBand_keeps)
    | (with_reducible apply Keeps.with)
    | (with_reducible apply Keeps.host)
    | (with_reducible apply Keeps.sheets)
    | (with_reducible apply Keeps.slots)
    | (with_reducible apply Keeps.fwd)
    | (with_reducible apply Keeps.fifo)
    | (dsimp only))

theorem State.setBroken_keeps {σ : State} (i : Nat) (b : Bool) (s : State) (h : Keeps σ s) : Keeps σ (State.setBroken i b s) := by
  unfold State.setBroken
  repeat' (first
    | (with_reducible assumption)
    | (intro t; refine_lift have ht : Keeps σ t := ?_; ?_; clear_value t; rotate_left; subst t)
    | (intro t; subst t; beta_reduce)
    | lift_lets
    | split
    | (with_reducible apply State.setFlag_keeps)
    | (with_reducible apply Keeps.with)
    | (with_reducible apply Keeps.host)
    | (with_reducible apply Keeps.sheets)
    | (with_reducible apply Keeps.slots)
    | (with_reducible apply Keeps.fwd)
    | (with_reducible apply Keeps.fifo))

theorem State.thermalShutdown_keeps {σ : State} (code : Nat) (sensor : Nat) (s : State) (h : Keeps σ s) : Keeps σ (State.thermalShutdown code sensor s) := by
  unfold State.thermalShutdown
  repeat' (first
    | (with_reducible assumption)
    | (intro t; refine_lift have ht : Keeps σ t := ?_; ?_; clear_value t; rotate_left; subst t)
    | (intro t; subst t; beta_reduce)
    | lift_lets
    | split
    | (with_reducible apply State.allOff_keeps)
    | (with_reducible apply State.setFld_keeps)
    | (with_reducible apply Keeps.with)
    | (with_reducible apply Keeps.host)
    | (with_reducible apply Keeps.sheets)
    | (with_reducible apply Keeps.slots)
    | (with_reducible apply Keeps.fwd)
    | (with_reducible apply Keeps.fifo))

theorem State.setBin_keeps {σ : State} (c : Nat) (b : Nat) (re : Word) (im : Word) (s : State) (h : Keeps σ s) : Keeps σ (State.setBin c b re im s) := by
  unfold State.setBin
  repeat' (first
    | (with_reducible assumption)
    | (intro t; refine_lift have ht : Keeps σ t := ?_; ?_; clear_value t; rotate_left; subst t)
    | (intro t; subst t; beta_reduce)
    | lift_lets
    | split
    | (with_reducible apply State.setReg_keeps)
    | (with_reducible apply Keeps.with)
    | (with_reducible apply Keeps.host)
    | (with_reducible apply Keeps.sheets)
    | (with_reducible apply Keeps.slots)
    | (with_reducible apply Keeps.fwd)
    | (with_reducible apply Keeps.fifo))

theorem State.showHealth_keeps {σ : State} (s : State) (h : Keeps σ s) : Keeps σ (State.showHealth s) := by
  unfold State.showHealth
  repeat' (first
    | (with_reducible assumption)
    | (intro t; refine_lift have ht : Keeps σ t := ?_; ?_; clear_value t; rotate_left; subst t)
    | (intro t; subst t; beta_reduce)
    | lift_lets
    | split
    | (with_reducible refine onlyIf_keeps (fun _ _ => ?_) ?_)
    | (with_reducible apply State.raise_keeps)
    | (with_reducible refine forEach_keeps (fun _ _ _ => ?_) ?_)
    | (with_reducible apply State.setReg_keeps)
    | (with_reducible apply Keeps.with)
    | (with_reducible apply Keeps.host)
    | (with_reducible apply Keeps.sheets)
    | (with_reducible apply Keeps.slots)
    | (with_reducible apply Keeps.fwd)
    | (with_reducible apply Keeps.fifo))

theorem State.evalGrade_keeps {σ : State} (s : State) (h : Keeps σ s) : Keeps σ (State.evalGrade s) := by
  unfold State.evalGrade
  repeat' (first
    | (with_reducible assumption)
    | (intro t; refine_lift have ht : Keeps σ t := ?_; ?_; clear_value t; rotate_left; subst t)
    | (intro t; subst t; beta_reduce)
    | lift_lets
    | split
    | (with_reducible apply State.setFld_keeps)
    | (with_reducible apply State.sheet_keeps)
    | (with_reducible apply State.flagRaise_keeps)
    | (with_reducible apply Keeps.with)
    | (with_reducible apply Keeps.host)
    | (with_reducible apply Keeps.sheets)
    | (with_reducible apply Keeps.slots)
    | (with_reducible apply Keeps.fwd)
    | (with_reducible apply Keeps.fifo))

theorem State.packValue_keeps {σ : State} (e : Nat) (v : Int) (s : State) (h : Keeps σ s) : Keeps σ (State.packValue e v s).2 := by
  unfold State.packValue
  repeat' (first
    | (with_reducible assumption)
    | (intro t; refine_lift have ht : Keeps σ t := ?_; ?_; clear_value t; rotate_left; subst t)
    | (intro t; subst t; beta_reduce)
    | lift_lets
    | split
    | (with_reducible apply State.takeFree_keeps)
    | (with_reducible apply Keeps.with)
    | (with_reducible apply Keeps.host)
    | (with_reducible apply Keeps.sheets)
    | (with_reducible apply Keeps.slots)
    | (with_reducible apply Keeps.fwd)
    | (with_reducible apply Keeps.fifo)
    | (dsimp only))

theorem State.packAll_keeps {σ : State} (e : Nat) (l : List (Option Int)) (s : State) (h : Keeps σ s) :
    Keeps σ (State.packAll e l s).2 := by
  induction l generalizing s with
  | nil => exact h
  | cons a r ih =>
    cases a with
    | none => exact ih s h
    | some v => exact ih _ (State.packValue_keeps e v s h)

theorem State.impedanceSheet_keeps {σ : State} (type : Nat) (c : Nat) (half : Nat) (bins : List (Option Nat × Bool)) (s : State) (h : Keeps σ s) : Keeps σ (State.impedanceSheet type c half bins s) := by
  unfold State.impedanceSheet
  repeat' (first
    | (with_reducible assumption)
    | (intro t; refine_lift have ht : Keeps σ t := ?_; ?_; clear_value t; rotate_left; subst t)
    | (intro t; refine_lift have ht : Keeps σ t.1 := ?_; ?_; clear_value t; rotate_left; subst t)
    | (intro t; refine_lift have ht : Keeps σ t.2 := ?_; ?_; clear_value t; rotate_left; subst t)
    | (intro t; refine_lift have ht : Keeps σ t.2.2 := ?_; ?_; clear_value t; rotate_left; subst t)
    | (intro t; clear_value t)
    | lift_lets
    | split
    | (with_reducible apply State.packAll_keeps)
    | (with_reducible apply State.sheet_keeps)
    | (with_reducible apply Keeps.with)
    | (with_reducible apply Keeps.host)
    | (with_reducible apply Keeps.sheets)
    | (with_reducible apply Keeps.slots)
    | (with_reducible apply Keeps.fwd)
    | (with_reducible apply Keeps.fifo)
    | (dsimp only))

theorem State.sweepSheets_keeps {σ : State} (s : State) (h : Keeps σ s) : Keeps σ (State.sweepSheets s) := by
  unfold State.sweepSheets
  repeat' (first
    | (with_reducible assumption)
    | (intro t; refine_lift have ht : Keeps σ t := ?_; ?_; clear_value t; rotate_left; subst t)
    | (intro t; subst t; beta_reduce)
    | lift_lets
    | split
    | (with_reducible refine forEach_keeps (fun _ _ _ => ?_) ?_)
    | (with_reducible apply State.impedanceSheet_keeps)
    | (with_reducible apply Keeps.with)
    | (with_reducible apply Keeps.host)
    | (with_reducible apply Keeps.sheets)
    | (with_reducible apply Keeps.slots)
    | (with_reducible apply Keeps.fwd)
    | (with_reducible apply Keeps.fifo))

theorem State.baselineSheet_keeps {σ : State} (c : Nat) (half : Nat) (act : Bool) (s : State) (h : Keeps σ s) : Keeps σ (State.baselineSheet c half act s) := by
  unfold State.baselineSheet
  repeat' (first
    | (with_reducible assumption)
    | (intro t; refine_lift have ht : Keeps σ t := ?_; ?_; clear_value t; rotate_left; subst t)
    | (intro t; subst t; beta_reduce)
    | lift_lets
    | split
    | (with_reducible apply State.impedanceSheet_keeps)
    | (with_reducible apply Keeps.with)
    | (with_reducible apply Keeps.host)
    | (with_reducible apply Keeps.sheets)
    | (with_reducible apply Keeps.slots)
    | (with_reducible apply Keeps.fwd)
    | (with_reducible apply Keeps.fifo))

theorem State.healthSheets_keeps {σ : State} (s : State) (h : Keeps σ s) : Keeps σ (State.healthSheets s) := by
  unfold State.healthSheets
  repeat' (first
    | (with_reducible assumption)
    | (intro t; refine_lift have ht : Keeps σ t := ?_; ?_; clear_value t; rotate_left; subst t)
    | (intro t; subst t; beta_reduce)
    | lift_lets
    | split
    | (with_reducible refine forEach_keeps (fun _ _ _ => ?_) ?_)
    | (with_reducible apply State.sheet_keeps)
    | (with_reducible apply Keeps.with)
    | (with_reducible apply Keeps.host)
    | (with_reducible apply Keeps.sheets)
    | (with_reducible apply Keeps.slots)
    | (with_reducible apply Keeps.fwd)
    | (with_reducible apply Keeps.fifo))

theorem State.setYield_keeps {σ : State} (b : Bool) (s : State) (h : Keeps σ s) : Keeps σ (State.setYield b s) := by
  unfold State.setYield
  repeat' (first
    | (with_reducible assumption)
    | (intro t; refine_lift have ht : Keeps σ t := ?_; ?_; clear_value t; rotate_left; subst t)
    | (intro t; subst t; beta_reduce)
    | lift_lets
    | split
    | (with_reducible apply State.raise_keeps)
    | (with_reducible apply State.setFlag_keeps)
    | (with_reducible apply Keeps.with)
    | (with_reducible apply Keeps.host)
    | (with_reducible apply Keeps.sheets)
    | (with_reducible apply Keeps.slots)
    | (with_reducible apply Keeps.fwd)
    | (with_reducible apply Keeps.fifo))

theorem State.showLim_keeps {σ : State} (s : State) (h : Keeps σ s) : Keeps σ (State.showLim s) := by
  unfold State.showLim
  repeat' (first
    | (with_reducible assumption)
    | (intro t; refine_lift have ht : Keeps σ t := ?_; ?_; clear_value t; rotate_left; subst t)
    | (intro t; subst t; beta_reduce)
    | lift_lets
    | split
    | (with_reducible apply State.raise_keeps)
    | (with_reducible apply State.setFld_keeps)
    | (with_reducible apply Keeps.with)
    | (with_reducible apply Keeps.host)
    | (with_reducible apply Keeps.sheets)
    | (with_reducible apply Keeps.slots)
    | (with_reducible apply Keeps.fwd)
    | (with_reducible apply Keeps.fifo))

theorem State.sweepLapse_keeps {σ : State} (s : State) (h : Keeps σ s) : Keeps σ (State.sweepLapse s) := by
  unfold State.sweepLapse
  repeat' (first
    | (with_reducible assumption)
    | (intro t; refine_lift have ht : Keeps σ t := ?_; ?_; clear_value t; rotate_left; subst t)
    | (intro t; subst t; beta_reduce)
    | lift_lets
    | split
    | (with_reducible apply Keeps.with)
    | (with_reducible apply Keeps.host)
    | (with_reducible apply Keeps.sheets)
    | (with_reducible apply Keeps.slots)
    | (with_reducible apply Keeps.fwd)
    | (with_reducible apply Keeps.fifo))

theorem State.sweepEnd_keeps {σ : State} (s : State) (h : Keeps σ s) : Keeps σ (State.sweepEnd s) := by
  unfold State.sweepEnd
  repeat' (first
    | (with_reducible assumption)
    | (intro t; refine_lift have ht : Keeps σ t := ?_; ?_; clear_value t; rotate_left; subst t)
    | (intro t; subst t; beta_reduce)
    | lift_lets
    | split
    | (with_reducible apply State.setFld_keeps)
    | (with_reducible apply State.flagRaise_keeps)
    | (with_reducible apply State.evalGrade_keeps)
    | (with_reducible apply State.showHealth_keeps)
    | (with_reducible apply State.sweepSheets_keeps)
    | (with_reducible apply Keeps.with)
    | (with_reducible apply Keeps.host)
    | (with_reducible apply Keeps.sheets)
    | (with_reducible apply Keeps.slots)
    | (with_reducible apply Keeps.fwd)
    | (with_reducible apply Keeps.fifo))

theorem State.sweepReq_keeps {σ : State} (s : State) (h : Keeps σ s) : Keeps σ (State.sweepReq s) := by
  unfold State.sweepReq
  repeat' (first
    | (with_reducible assumption)
    | (intro t; refine_lift have ht : Keeps σ t := ?_; ?_; clear_value t; rotate_left; subst t)
    | (intro t; subst t; beta_reduce)
    | lift_lets
    | split
    | (with_reducible apply Keeps.with)
    | (with_reducible apply Keeps.host)
    | (with_reducible apply Keeps.sheets)
    | (with_reducible apply Keeps.slots)
    | (with_reducible apply Keeps.fwd)
    | (with_reducible apply Keeps.fifo))

theorem State.windowStatus_keeps {σ : State} (w : Window) (v : Nat) (s : State) (h : Keeps σ s) : Keeps σ (State.windowStatus w v s) := by
  unfold State.windowStatus
  repeat' (first
    | (with_reducible assumption)
    | (intro t; refine_lift have ht : Keeps σ t := ?_; ?_; clear_value t; rotate_left; subst t)
    | (intro t; subst t; beta_reduce)
    | lift_lets
    | split
    | (with_reducible apply State.setFld_keeps)
    | (with_reducible apply Keeps.with)
    | (with_reducible apply Keeps.host)
    | (with_reducible apply Keeps.sheets)
    | (with_reducible apply Keeps.slots)
    | (with_reducible apply Keeps.fwd)
    | (with_reducible apply Keeps.fifo))

theorem State.zOf_keeps {σ : State} (w : Window) (acc : Int × Int) (s : State) (h : Keeps σ s) : Keeps σ (State.zOf w acc s).2 := by
  unfold State.zOf
  repeat' (first
    | (with_reducible assumption)
    | (intro t; refine_lift have ht : Keeps σ t := ?_; ?_; clear_value t; rotate_left; subst t)
    | (intro t; subst t; beta_reduce)
    | lift_lets
    | split
    | (with_reducible apply State.takeFree_keeps)
    | (with_reducible apply Keeps.with)
    | (with_reducible apply Keeps.host)
    | (with_reducible apply Keeps.sheets)
    | (with_reducible apply Keeps.slots)
    | (with_reducible apply Keeps.fwd)
    | (with_reducible apply Keeps.fifo)
    | (dsimp only))

theorem State.storeResult_keeps {σ : State} (w : Window) (c : Nat) (s : State) (h : Keeps σ s) : Keeps σ (State.storeResult w c s).1 := by
  unfold State.storeResult
  repeat' (first
    | (with_reducible assumption)
    | (intro t; refine_lift have ht : Keeps σ t := ?_; ?_; clear_value t; rotate_left; subst t)
    | (intro t; subst t; beta_reduce)
    | lift_lets
    | split
    | (with_reducible apply State.zOf_keeps)
    | (with_reducible apply State.setBin_keeps)
    | (with_reducible apply State.flagRaise_keeps)
    | (with_reducible apply State.baselineSheet_keeps)
    | (with_reducible apply Keeps.with)
    | (with_reducible apply Keeps.host)
    | (with_reducible apply Keeps.sheets)
    | (with_reducible apply Keeps.slots)
    | (with_reducible apply Keeps.fwd)
    | (with_reducible apply Keeps.fifo)
    | (dsimp only))

theorem State.windowResult_keeps {σ : State} (w : Window) (s : State) (h : Keeps σ s) : Keeps σ (State.windowResult w s) := by
  unfold State.windowResult
  repeat' (first
    | (with_reducible assumption)
    | (intro t; refine_lift have ht : Keeps σ t := ?_; ?_; clear_value t; rotate_left; subst t)
    | (intro t; subst t; beta_reduce)
    | lift_lets
    | split
    | (with_reducible apply State.setFld_keeps)
    | (with_reducible apply State.takeFree_keeps)
    | (with_reducible apply State.flagRaise_keeps)
    | (with_reducible apply State.sheet_keeps)
    | (with_reducible apply State.bump_keeps)
    | (with_reducible apply State.windowStatus_keeps)
    | (with_reducible refine forEach_keeps (fun _ _ _ => ?_) ?_)
    | (with_reducible apply State.storeResult_keeps)
    | (with_reducible apply State.showHealth_keeps)
    | (with_reducible refine onlyIf_keeps (fun _ _ => ?_) ?_)
    | (with_reducible apply State.raise_keeps)
    | (with_reducible apply Keeps.with)
    | (with_reducible apply Keeps.host)
    | (with_reducible apply Keeps.sheets)
    | (with_reducible apply Keeps.slots)
    | (with_reducible apply Keeps.fwd)
    | (with_reducible apply Keeps.fifo)
    | (dsimp only))

theorem State.closeWindow_keeps {σ : State} (s : State) (h : Keeps σ s) : Keeps σ (State.closeWindow s) := by
  unfold State.closeWindow
  repeat' (first
    | (with_reducible assumption)
    | (intro t; refine_lift have ht : Keeps σ t := ?_; ?_; clear_value t; rotate_left; subst t)
    | (intro t; subst t; beta_reduce)
    | lift_lets
    | split
    | (with_reducible apply State.owRelease_keeps)
    | (with_reducible apply State.showLim_keeps)
    | (with_reducible apply State.setYield_keeps)
    | (with_reducible apply State.setFld_keeps)
    | (with_reducible apply Keeps.with)
    | (with_reducible apply Keeps.host)
    | (with_reducible apply Keeps.sheets)
    | (with_reducible apply Keeps.slots)
    | (with_reducible apply Keeps.fwd)
    | (with_reducible apply Keeps.fifo))

theorem State.abandonSweep_keeps {σ : State} (s : State) (h : Keeps σ s) : Keeps σ (State.abandonSweep s) := by
  unfold State.abandonSweep
  repeat' (first
    | (with_reducible assumption)
    | (intro t; refine_lift have ht : Keeps σ t := ?_; ?_; clear_value t; rotate_left; subst t)
    | (intro t; subst t; beta_reduce)
    | lift_lets
    | split
    | (with_reducible apply State.closeWindow_keeps)
    | (with_reducible apply State.windowStatus_keeps)
    | (with_reducible apply State.setFld_keeps)
    | (with_reducible apply Keeps.with)
    | (with_reducible apply Keeps.host)
    | (with_reducible apply Keeps.sheets)
    | (with_reducible apply Keeps.slots)
    | (with_reducible apply Keeps.fwd)
    | (with_reducible apply Keeps.fifo))

theorem State.sum48_keeps {σ : State} (x : Int) (s : State) (h : Keeps σ s) : Keeps σ (State.sum48 x s).2 := by
  unfold State.sum48
  repeat' (first
    | (with_reducible assumption)
    | (intro t; refine_lift have ht : Keeps σ t := ?_; ?_; clear_value t; rotate_left; subst t)
    | (intro t; subst t; beta_reduce)
    | lift_lets
    | split
    | (with_reducible apply State.takeFree_keeps)
    | (with_reducible apply Keeps.with)
    | (with_reducible apply Keeps.host)
    | (with_reducible apply Keeps.sheets)
    | (with_reducible apply Keeps.slots)
    | (with_reducible apply Keeps.fwd)
    | (with_reducible apply Keeps.fifo)
    | (dsimp only))

theorem State.addLocked_keeps {σ : State} (c : Int) (d : Int) (a : Int × Int) (x : Int) (s : State) (h : Keeps σ s) : Keeps σ (State.addLocked c d a x s).2 := by
  unfold State.addLocked
  repeat' (first
    | (with_reducible assumption)
    | (intro t; refine_lift have ht : Keeps σ t := ?_; ?_; clear_value t; rotate_left; subst t)
    | (intro t; subst t; beta_reduce)
    | lift_lets
    | split
    | (with_reducible apply State.sum48_keeps)
    | (with_reducible apply Keeps.with)
    | (with_reducible apply Keeps.host)
    | (with_reducible apply Keeps.sheets)
    | (with_reducible apply Keeps.slots)
    | (with_reducible apply Keeps.fwd)
    | (with_reducible apply Keeps.fifo)
    | (dsimp only))

theorem State.addAll_keeps {σ : State} (c d : Int) (l : List ((Int × Int) × Int)) (s : State) (h : Keeps σ s) :
    Keeps σ (State.addAll c d l s).2 := by
  induction l generalizing s with
  | nil => exact h
  | cons a r ih => exact ih _ (State.addLocked_keeps c d a.1 a.2 s h)

theorem State.lockIn_keeps {σ : State} (r : Round) (s : State) (h : Keeps σ s) : Keeps σ (State.lockIn r s) := by
  unfold State.lockIn
  repeat' (first
    | (with_reducible assumption)
    | (intro t; refine_lift have ht : Keeps σ t := ?_; ?_; clear_value t; rotate_left; subst t)
    | (intro t; subst t; beta_reduce)
    | lift_lets
    | split
    | (with_reducible apply State.takeFree_keeps)
    | (with_reducible apply State.addAll_keeps)
    | (with_reducible apply State.addLocked_keeps)
    | (with_reducible apply Keeps.with)
    | (with_reducible apply Keeps.host)
    | (with_reducible apply Keeps.sheets)
    | (with_reducible apply Keeps.slots)
    | (with_reducible apply Keeps.fwd)
    | (with_reducible apply Keeps.fifo)
    | (dsimp only))

theorem State.acceptPulse_keeps {σ : State} (p : Pulse) (r : Round) (s : State) (h : Keeps σ s) : Keeps σ (State.acceptPulse p r s) := by
  unfold State.acceptPulse
  repeat' (first
    | (with_reducible assumption)
    | (intro t; refine_lift have ht : Keeps σ t := ?_; ?_; clear_value t; rotate_left; subst t)
    | (intro t; refine_lift have ht : Keeps σ t.1 := ?_; ?_; clear_value t; rotate_left; subst t)
    | (intro t; refine_lift have ht : Keeps σ t.2 := ?_; ?_; clear_value t; rotate_left; subst t)
    | (intro t; refine_lift have ht : Keeps σ t.2.2 := ?_; ?_; clear_value t; rotate_left; subst t)
    | (intro t; clear_value t)
    | lift_lets
    | split
    | (with_reducible refine forEach_keeps (fun _ _ _ => ?_) ?_)
    | (with_reducible apply State.setFld_keeps)
    | (with_reducible apply State.showUnits_keeps)
    | (with_reducible apply State.flagRaise_keeps)
    | (with_reducible apply State.showHealth_keeps)
    | (with_reducible apply State.packAll_keeps)
    | (with_reducible apply State.sheet_keeps)
    | (with_reducible apply Keeps.with)
    | (with_reducible apply Keeps.host)
    | (with_reducible apply Keeps.sheets)
    | (with_reducible apply Keeps.slots)
    | (with_reducible apply Keeps.fwd)
    | (with_reducible apply Keeps.fifo)
    | (dsimp only))

theorem State.watchPulse_keeps {σ : State} (r : Round) (s : State) (h : Keeps σ s) : Keeps σ (State.watchPulse r s) := by
  unfold State.watchPulse
  repeat' (first
    | (with_reducible assumption)
    | (intro t; refine_lift have ht : Keeps σ t := ?_; ?_; clear_value t; rotate_left; subst t)
    | (intro t; subst t; beta_reduce)
    | lift_lets
    | split
    | (with_reducible apply State.acceptPulse_keeps)
    | (with_reducible apply Keeps.with)
    | (with_reducible apply Keeps.host)
    | (with_reducible apply Keeps.sheets)
    | (with_reducible apply Keeps.slots)
    | (with_reducible apply Keeps.fwd)
    | (with_reducible apply Keeps.fifo))

theorem State.addCharge_keeps {σ : State} (q : Rat) (s : State) (h : Keeps σ s) : Keeps σ (State.addCharge q s) := by
  unfold State.addCharge
  repeat' (first
    | (with_reducible assumption)
    | (intro t; refine_lift have ht : Keeps σ t := ?_; ?_; clear_value t; rotate_left; subst t)
    | (intro t; subst t; beta_reduce)
    | lift_lets
    | split
    | (with_reducible apply State.takeFree_keeps)
    | (with_reducible apply Keeps.with)
    | (with_reducible apply Keeps.host)
    | (with_reducible apply Keeps.sheets)
    | (with_reducible apply Keeps.slots)
    | (with_reducible apply Keeps.fwd)
    | (with_reducible apply Keeps.fifo)
    | (dsimp only))

theorem State.integrateCell_keeps {σ : State} (r : Round) (s : State) (h : Keeps σ s) : Keeps σ (State.integrateCell r s) := by
  unfold State.integrateCell
  repeat' (first
    | (with_reducible assumption)
    | (intro t; refine_lift have ht : Keeps σ t := ?_; ?_; clear_value t; rotate_left; subst t)
    | (intro t; subst t; beta_reduce)
    | lift_lets
    | split
    | (with_reducible apply State.addCharge_keeps)
    | (with_reducible apply Keeps.with)
    | (with_reducible apply Keeps.host)
    | (with_reducible apply Keeps.sheets)
    | (with_reducible apply Keeps.slots)
    | (with_reducible apply Keeps.fwd)
    | (with_reducible apply Keeps.fifo))

theorem State.celRound_keeps {σ : State} (r : Round) (s : State) (h : Keeps σ s) : Keeps σ (State.celRound r s) := by
  unfold State.celRound
  repeat' (first
    | (with_reducible assumption)
    | (intro t; refine_lift have ht : Keeps σ t := ?_; ?_; clear_value t; rotate_left; subst t)
    | (intro t; subst t; beta_reduce)
    | lift_lets
    | split
    | (with_reducible apply State.lockIn_keeps)
    | (with_reducible apply State.integrateCell_keeps)
    | (with_reducible apply State.watchPulse_keeps)
    | (with_reducible apply Keeps.with)
    | (with_reducible apply Keeps.host)
    | (with_reducible apply Keeps.sheets)
    | (with_reducible apply Keeps.slots)
    | (with_reducible apply Keeps.fwd)
    | (with_reducible apply Keeps.fifo))

theorem State.baseRst_keeps {σ : State} (s : State) (h : Keeps σ s) : Keeps σ (State.baseRst s) := by
  unfold State.baseRst
  repeat' (first
    | (with_reducible assumption)
    | (intro t; refine_lift have ht : Keeps σ t := ?_; ?_; clear_value t; rotate_left; subst t)
    | (intro t; subst t; beta_reduce)
    | lift_lets
    | split
    | (with_reducible refine forEach_keeps (fun _ _ _ => ?_) ?_)
    | (with_reducible apply State.setBin_keeps)
    | (with_reducible apply State.showHealth_keeps)
    | (with_reducible apply Keeps.with)
    | (with_reducible apply Keeps.host)
    | (with_reducible apply Keeps.sheets)
    | (with_reducible apply Keeps.slots)
    | (with_reducible apply Keeps.fwd)
    | (with_reducible apply Keeps.fifo))

theorem State.emptyCells_keeps {σ : State} (s : State) (h : Keeps σ s) : Keeps σ (State.emptyCells s) := by
  unfold State.emptyCells
  repeat' (first
    | (with_reducible assumption)
    | (intro t; refine_lift have ht : Keeps σ t := ?_; ?_; clear_value t; rotate_left; subst t)
    | (intro t; subst t; beta_reduce)
    | lift_lets
    | split
    | (with_reducible refine forEach_keeps (fun _ _ _ => ?_) ?_)
    | (with_reducible apply State.setReg_keeps)
    | (with_reducible apply State.setBin_keeps)
    | (with_reducible refine onlyIf_keeps (fun _ _ => ?_) ?_)
    | (with_reducible apply State.raise_keeps)
    | (with_reducible apply Keeps.with)
    | (with_reducible apply Keeps.host)
    | (with_reducible apply Keeps.sheets)
    | (with_reducible apply Keeps.slots)
    | (with_reducible apply Keeps.fwd)
    | (with_reducible apply Keeps.fifo))

theorem State.restoreBins_keeps {σ : State} (c : Nat) (half : Nat) (p : List Byte) (base : Bool) (s : State) (h : Keeps σ s) : Keeps σ (State.restoreBins c half p base s) := by
  unfold State.restoreBins
  repeat' (first
    | (with_reducible assumption)
    | (intro t; refine_lift have ht : Keeps σ t := ?_; ?_; clear_value t; rotate_left; subst t)
    | (intro t; subst t; beta_reduce)
    | lift_lets
    | split
    | (with_reducible refine forEach_keeps (fun _ _ _ => ?_) ?_)
    | (with_reducible apply State.setBin_keeps)
    | (with_reducible apply Keeps.with)
    | (with_reducible apply Keeps.host)
    | (with_reducible apply Keeps.sheets)
    | (with_reducible apply Keeps.slots)
    | (with_reducible apply Keeps.fwd)
    | (with_reducible apply Keeps.fifo))

theorem State.stepLim_keeps {σ : State} (s : State) (h : Keeps σ s) : Keeps σ (State.stepLim s) := by
  unfold State.stepLim
  repeat' (first
    | (with_reducible assumption)
    | (intro t; refine_lift have ht : Keeps σ t := ?_; ?_; clear_value t; rotate_left; subst t)
    | (intro t; subst t; beta_reduce)
    | lift_lets
    | split
    | (with_reducible apply State.showLim_keeps)
    | (with_reducible apply Keeps.with)
    | (with_reducible apply Keeps.host)
    | (with_reducible apply Keeps.sheets)
    | (with_reducible apply Keeps.slots)
    | (with_reducible apply Keeps.fwd)
    | (with_reducible apply Keeps.fifo))

theorem State.layBalance_keeps {σ : State} (s : State) (h : Keeps σ s) : Keeps σ (State.layBalance s) := by
  unfold State.layBalance
  repeat' (first
    | (with_reducible assumption)
    | (intro t; refine_lift have ht : Keeps σ t := ?_; ?_; clear_value t; rotate_left; subst t)
    | (intro t; subst t; beta_reduce)
    | lift_lets
    | split
    | (with_reducible refine onlyIf_keeps (fun _ _ => ?_) ?_)
    | (with_reducible apply State.raise_keeps)
    | (with_reducible apply State.setReg_keeps)
    | (with_reducible apply State.showLim_keeps)
    | (with_reducible apply Keeps.with)
    | (with_reducible apply Keeps.host)
    | (with_reducible apply Keeps.sheets)
    | (with_reducible apply Keeps.slots)
    | (with_reducible apply Keeps.fwd)
    | (with_reducible apply Keeps.fifo))

theorem State.clipped_keeps {σ : State} (s : State) (h : Keeps σ s) : Keeps σ (State.clipped s) := by
  unfold State.clipped
  repeat' (first
    | (with_reducible assumption)
    | (intro t; refine_lift have ht : Keeps σ t := ?_; ?_; clear_value t; rotate_left; subst t)
    | (intro t; subst t; beta_reduce)
    | lift_lets
    | split
    | (with_reducible apply State.countFault_keeps)
    | (with_reducible apply Keeps.with)
    | (with_reducible apply Keeps.host)
    | (with_reducible apply Keeps.sheets)
    | (with_reducible apply Keeps.slots)
    | (with_reducible apply Keeps.fwd)
    | (with_reducible apply Keeps.fifo))

theorem State.windowSample_keeps {σ : State} (ch : Nat) (tick : Nat) (v : Int) (s : State) (h : Keeps σ s) : Keeps σ (State.windowSample ch tick v s) := by
  unfold State.windowSample
  repeat' (first
    | (with_reducible assumption)
    | (intro t; refine_lift have ht : Keeps σ t := ?_; ?_; clear_value t; rotate_left; subst t)
    | (intro t; subst t; beta_reduce)
    | lift_lets
    | split
    | (with_reducible refine forEach_keeps (fun _ _ _ => ?_) ?_)
    | (with_reducible apply State.updBrick_keeps)
    | (with_reducible apply Keeps.with)
    | (with_reducible apply Keeps.host)
    | (with_reducible apply Keeps.sheets)
    | (with_reducible apply Keeps.slots)
    | (with_reducible apply Keeps.fwd)
    | (with_reducible apply Keeps.fifo))

theorem State.senseSample_keeps {σ : State} (ch : Nat) (f : InFlight) (s : State) (h : Keeps σ s) : Keeps σ (State.senseSample ch f s) := by
  unfold State.senseSample
  repeat' (first
    | (with_reducible assumption)
    | (intro t; refine_lift have ht : Keeps σ t := ?_; ?_; clear_value t; rotate_left; subst t)
    | (intro t; subst t; beta_reduce)
    | lift_lets
    | split
    | (with_reducible apply State.setReg_keeps)
    | (with_reducible apply State.windowSample_keeps)
    | (with_reducible refine forEach_keeps (fun _ _ _ => ?_) ?_)
    | (with_reducible apply State.railSample_keeps)
    | (with_reducible apply State.chargeSample_keeps)
    | (with_reducible apply State.meterSample_keeps)
    | (with_reducible apply State.offerSense_keeps)
    | (with_reducible apply State.probeStep_keeps)
    | (with_reducible apply Keeps.with)
    | (with_reducible apply Keeps.host)
    | (with_reducible apply Keeps.sheets)
    | (with_reducible apply Keeps.slots)
    | (with_reducible apply Keeps.fwd)
    | (with_reducible apply Keeps.fifo))

theorem State.roundDone_keeps {σ : State} (trig : Nat) (cap : Nat) (stamp : Time) (vals : List Int) (s : State) (h : Keeps σ s) : Keeps σ (State.roundDone trig cap stamp vals s) := by
  unfold State.roundDone
  repeat' (first
    | (with_reducible assumption)
    | (intro t; refine_lift have ht : Keeps σ t := ?_; ?_; clear_value t; rotate_left; subst t)
    | (intro t; subst t; beta_reduce)
    | lift_lets
    | split
    | (with_reducible apply State.owRound_keeps)
    | (with_reducible apply State.blockRound_keeps)
    | (with_reducible apply State.celRound_keeps)
    | (with_reducible refine forEach_keeps (fun _ _ _ => ?_) ?_)
    | (with_reducible apply State.offerRecord_keeps)
    | (with_reducible apply Keeps.with)
    | (with_reducible apply Keeps.host)
    | (with_reducible apply Keeps.sheets)
    | (with_reducible apply Keeps.slots)
    | (with_reducible apply Keeps.fwd)
    | (with_reducible apply Keeps.fifo))

theorem State.cellSample_keeps {σ : State} (f : InFlight) (s : State) (h : Keeps σ s) : Keeps σ (State.cellSample f s) := by
  unfold State.cellSample
  repeat' (first
    | (with_reducible assumption)
    | (intro t; refine_lift have ht : Keeps σ t := ?_; ?_; clear_value t; rotate_left; subst t)
    | (intro t; subst t; beta_reduce)
    | lift_lets
    | split
    | (with_reducible apply State.roundDone_keeps)
    | (with_reducible apply Keeps.with)
    | (with_reducible apply Keeps.host)
    | (with_reducible apply Keeps.sheets)
    | (with_reducible apply Keeps.slots)
    | (with_reducible apply Keeps.fwd)
    | (with_reducible apply Keeps.fifo))

theorem State.hkSample_keeps {σ : State} (i : Nat) (f : InFlight) (s : State) (h : Keeps σ s) : Keeps σ (State.hkSample i f s) := by
  unfold State.hkSample
  repeat' (first
    | (with_reducible assumption)
    | (intro t; refine_lift have ht : Keeps σ t := ?_; ?_; clear_value t; rotate_left; subst t)
    | (intro t; subst t; beta_reduce)
    | lift_lets
    | split
    | (with_reducible refine forEach_keeps (fun _ _ _ => ?_) ?_)
    | (with_reducible apply State.offerRecord_keeps)
    | (with_reducible apply Keeps.with)
    | (with_reducible apply Keeps.host)
    | (with_reducible apply Keeps.sheets)
    | (with_reducible apply Keeps.slots)
    | (with_reducible apply Keeps.fwd)
    | (with_reducible apply Keeps.fifo))

theorem State.beginAnswer_keeps {σ : State} (s : State) (h : Keeps σ s) : Keeps σ (State.beginAnswer s) := by
  unfold State.beginAnswer
  repeat' (first
    | (with_reducible assumption)
    | (intro t; refine_lift have ht : Keeps σ t := ?_; ?_; clear_value t; rotate_left; subst t)
    | (intro t; subst t; beta_reduce)
    | lift_lets
    | split
    | (with_reducible apply State.takeFree_keeps)
    | (with_reducible apply Keeps.with)
    | (with_reducible apply Keeps.host)
    | (with_reducible apply Keeps.sheets)
    | (with_reducible apply Keeps.slots)
    | (with_reducible apply Keeps.fwd)
    | (with_reducible apply Keeps.fifo)
    | (dsimp only))

theorem State.holdAnswer_keeps {σ : State} (s : State) (h : Keeps σ s) : Keeps σ (State.holdAnswer s) := by
  unfold State.holdAnswer
  repeat' (first
    | (with_reducible assumption)
    | (intro t; refine_lift have ht : Keeps σ t := ?_; ?_; clear_value t; rotate_left; subst t)
    | (intro t; subst t; beta_reduce)
    | lift_lets
    | split
    | (with_reducible apply Keeps.with)
    | (with_reducible apply Keeps.host)
    | (with_reducible apply Keeps.sheets)
    | (with_reducible apply Keeps.slots)
    | (with_reducible apply Keeps.fwd)
    | (with_reducible apply Keeps.fifo))

theorem State.endFrame_keeps {σ : State} (s : State) (h : Keeps σ s) : Keeps σ (State.endFrame s) := by
  unfold State.endFrame
  repeat' (first
    | (with_reducible assumption)
    | (intro t; refine_lift have ht : Keeps σ t := ?_; ?_; clear_value t; rotate_left; subst t)
    | (intro t; subst t; beta_reduce)
    | lift_lets
    | split
    | (with_reducible apply Keeps.with)
    | (with_reducible apply Keeps.host)
    | (with_reducible apply Keeps.sheets)
    | (with_reducible apply Keeps.slots)
    | (with_reducible apply Keeps.fwd)
    | (with_reducible apply Keeps.fifo))

theorem State.cutAnswer_keeps {σ : State} (s : State) (h : Keeps σ s) : Keeps σ (State.cutAnswer s) := by
  unfold State.cutAnswer
  repeat' (first
    | (with_reducible assumption)
    | (intro t; refine_lift have ht : Keeps σ t := ?_; ?_; clear_value t; rotate_left; subst t)
    | (intro t; subst t; beta_reduce)
    | lift_lets
    | split
    | (with_reducible apply State.takeFree_keeps)
    | (with_reducible apply Keeps.with)
    | (with_reducible apply Keeps.host)
    | (with_reducible apply Keeps.sheets)
    | (with_reducible apply Keeps.slots)
    | (with_reducible apply Keeps.fwd)
    | (with_reducible apply Keeps.fifo)
    | (dsimp only))

theorem State.vcpErrors_keeps {σ : State} (frame : Bool) (s : State) (h : Keeps σ s) : Keeps σ (State.vcpErrors frame s) := by
  unfold State.vcpErrors
  repeat' (first
    | (with_reducible assumption)
    | (intro t; refine_lift have ht : Keeps σ t := ?_; ?_; clear_value t; rotate_left; subst t)
    | (intro t; subst t; beta_reduce)
    | lift_lets
    | split
    | (with_reducible apply State.sheet_keeps)
    | (with_reducible apply Keeps.with)
    | (with_reducible apply Keeps.host)
    | (with_reducible apply Keeps.sheets)
    | (with_reducible apply Keeps.slots)
    | (with_reducible apply Keeps.fwd)
    | (with_reducible apply Keeps.fifo))

theorem State.vcpAnswer_keeps {σ : State} (n : Nat) (cmd : Nat) (seq : Nat) (ans : Nat) (data : Nat) (s : State) (h : Keeps σ s) : Keeps σ (State.vcpAnswer n cmd seq ans data s) := by
  unfold State.vcpAnswer
  repeat' (first
    | (with_reducible assumption)
    | (intro t; refine_lift have ht : Keeps σ t := ?_; ?_; clear_value t; rotate_left; subst t)
    | (intro t; subst t; beta_reduce)
    | lift_lets
    | split
    | (with_reducible apply State.holdAnswer_keeps)
    | (with_reducible apply State.setFld_keeps)
    | (with_reducible apply State.bump_keeps)
    | (with_reducible apply State.raise_keeps)
    | (with_reducible apply State.flagRaise_keeps)
    | (with_reducible apply Keeps.with)
    | (with_reducible apply Keeps.host)
    | (with_reducible apply Keeps.sheets)
    | (with_reducible apply Keeps.slots)
    | (with_reducible apply Keeps.fwd)
    | (with_reducible apply Keeps.fifo))

theorem State.putRec_keeps {σ : State} (n : Nat) (q : Nat) (state : Nat) (target : Int) (s : State) (h : Keeps σ s) : Keeps σ (State.putRec n q state target s) := by
  unfold State.putRec
  repeat' (first
    | (with_reducible assumption)
    | (intro t; refine_lift have ht : Keeps σ t := ?_; ?_; clear_value t; rotate_left; subst t)
    | (intro t; subst t; beta_reduce)
    | lift_lets
    | split
    | (with_reducible apply State.setFld_keeps)
    | (with_reducible apply Keeps.with)
    | (with_reducible apply Keeps.host)
    | (with_reducible apply Keeps.sheets)
    | (with_reducible apply Keeps.slots)
    | (with_reducible apply Keeps.fwd)
    | (with_reducible apply Keeps.fifo))

theorem State.vcpSet_keeps {σ : State} (n : Nat) (cmd : Nat) (seq : Nat) (value : Nat) (s : State) (h : Keeps σ s) : Keeps σ (State.vcpSet n cmd seq value s) := by
  unfold State.vcpSet
  repeat' (first
    | (with_reducible assumption)
    | (intro t; refine_lift have ht : Keeps σ t := ?_; ?_; clear_value t; rotate_left; subst t)
    | (intro t; subst t; beta_reduce)
    | lift_lets
    | split
    | (with_reducible apply State.vcpAnswer_keeps)
    | (with_reducible apply State.writeTarget_keeps)
    | (with_reducible apply State.putRec_keeps)
    | (with_reducible apply Keeps.with)
    | (with_reducible apply Keeps.host)
    | (with_reducible apply Keeps.sheets)
    | (with_reducible apply Keeps.slots)
    | (with_reducible apply Keeps.fwd)
    | (with_reducible apply Keeps.fifo))

theorem State.vcpSlew_keeps {σ : State} (n : Nat) (seq : Nat) (value : Nat) (s : State) (h : Keeps σ s) : Keeps σ (State.vcpSlew n seq value s) := by
  unfold State.vcpSlew
  repeat' (first
    | (with_reducible assumption)
    | (intro t; refine_lift have ht : Keeps σ t := ?_; ?_; clear_value t; rotate_left; subst t)
    | (intro t; subst t; beta_reduce)
    | lift_lets
    | split
    | (with_reducible apply State.vcpAnswer_keeps)
    | (with_reducible apply State.setFld_keeps)
    | (with_reducible apply Keeps.with)
    | (with_reducible apply Keeps.host)
    | (with_reducible apply Keeps.sheets)
    | (with_reducible apply Keeps.slots)
    | (with_reducible apply Keeps.fwd)
    | (with_reducible apply Keeps.fifo))

theorem State.vcpPoll_keeps {σ : State} (n : Nat) (seq : Nat) (value : Nat) (s : State) (h : Keeps σ s) : Keeps σ (State.vcpPoll n seq value s) := by
  unfold State.vcpPoll
  repeat' (first
    | (with_reducible assumption)
    | (intro t; refine_lift have ht : Keeps σ t := ?_; ?_; clear_value t; rotate_left; subst t)
    | (intro t; subst t; beta_reduce)
    | lift_lets
    | split
    | (with_reducible apply State.vcpAnswer_keeps)
    | (with_reducible apply Keeps.with)
    | (with_reducible apply Keeps.host)
    | (with_reducible apply Keeps.sheets)
    | (with_reducible apply Keeps.slots)
    | (with_reducible apply Keeps.fwd)
    | (with_reducible apply Keeps.fifo))

theorem State.vcpRead_keeps {σ : State} (n : Nat) (seq : Nat) (value : Nat) (s : State) (h : Keeps σ s) : Keeps σ (State.vcpRead n seq value s) := by
  unfold State.vcpRead
  repeat' (first
    | (with_reducible assumption)
    | (intro t; refine_lift have ht : Keeps σ t := ?_; ?_; clear_value t; rotate_left; subst t)
    | (intro t; subst t; beta_reduce)
    | lift_lets
    | split
    | (with_reducible apply State.vcpAnswer_keeps)
    | (with_reducible apply Keeps.with)
    | (with_reducible apply Keeps.host)
    | (with_reducible apply Keeps.sheets)
    | (with_reducible apply Keeps.slots)
    | (with_reducible apply Keeps.fwd)
    | (with_reducible apply Keeps.fifo))

theorem State.vcpFrame_keeps {σ : State} (cmd : Nat) (group : Nat) (seq : Nat) (value : Nat) (cut : Bool) (s : State) (h : Keeps σ s) : Keeps σ (State.vcpFrame cmd group seq value cut s) := by
  unfold State.vcpFrame
  repeat' (first
    | (with_reducible assumption)
    | (intro t; refine_lift have ht : Keeps σ t := ?_; ?_; clear_value t; rotate_left; subst t)
    | (intro t; subst t; beta_reduce)
    | lift_lets
    | split
    | (with_reducible apply State.beginAnswer_keeps)
    | (with_reducible apply State.setReg_keeps)
    | (with_reducible apply State.vcpSet_keeps)
    | (with_reducible apply State.vcpSlew_keeps)
    | (with_reducible apply State.vcpPoll_keeps)
    | (with_reducible apply State.vcpRead_keeps)
    | (with_reducible apply State.vcpAnswer_keeps)
    | (with_reducible apply State.cutAnswer_keeps)
    | (with_reducible apply State.endFrame_keeps)
    | (with_reducible apply Keeps.with)
    | (with_reducible apply Keeps.host)
    | (with_reducible apply Keeps.sheets)
    | (with_reducible apply Keeps.slots)
    | (with_reducible apply Keeps.fwd)
    | (with_reducible apply Keeps.fifo))

theorem State.clearRecords_keeps {σ : State} (s : State) (h : Keeps σ s) : Keeps σ (State.clearRecords s) := by
  unfold State.clearRecords
  repeat' (first
    | (with_reducible assumption)
    | (intro t; refine_lift have ht : Keeps σ t := ?_; ?_; clear_value t; rotate_left; subst t)
    | (intro t; subst t; beta_reduce)
    | lift_lets
    | split
    | (with_reducible refine forEach_keeps (fun _ _ _ => ?_) ?_)
    | (with_reducible apply State.setReg_keeps)
    | (with_reducible apply Keeps.with)
    | (with_reducible apply Keeps.host)
    | (with_reducible apply Keeps.sheets)
    | (with_reducible apply Keeps.slots)
    | (with_reducible apply Keeps.fwd)
    | (with_reducible apply Keeps.fifo))

theorem State.vcpCntClr_keeps {σ : State} (s : State) (h : Keeps σ s) : Keeps σ (State.vcpCntClr s) := by
  unfold State.vcpCntClr
  repeat' (first
    | (with_reducible assumption)
    | (intro t; refine_lift have ht : Keeps σ t := ?_; ?_; clear_value t; rotate_left; subst t)
    | (intro t; subst t; beta_reduce)
    | lift_lets
    | split
    | (with_reducible apply State.setReg_keeps)
    | (with_reducible apply Keeps.with)
    | (with_reducible apply Keeps.host)
    | (with_reducible apply Keeps.sheets)
    | (with_reducible apply Keeps.slots)
    | (with_reducible apply Keeps.fwd)
    | (with_reducible apply Keeps.fifo))

theorem State.setRoute_keeps {σ : State} (src : Nat) (w : Word) (s : State) (h : Keeps σ s) : Keeps σ (State.setRoute src w s) := by
  unfold State.setRoute
  repeat' (first
    | (with_reducible assumption)
    | (intro t; refine_lift have ht : Keeps σ t := ?_; ?_; clear_value t; rotate_left; subst t)
    | (intro t; subst t; beta_reduce)
    | lift_lets
    | split
    | (with_reducible apply State.setReg_keeps)
    | (with_reducible apply Keeps.with)
    | (with_reducible apply Keeps.host)
    | (with_reducible apply Keeps.sheets)
    | (with_reducible apply Keeps.slots)
    | (with_reducible apply Keeps.fwd)
    | (with_reducible apply Keeps.fifo))

theorem State.offerRouted_keeps {σ : State} (src : Nat) (s : State) (t : State) (h : Keeps σ s) (h1 : Keeps σ t) : Keeps σ (State.offerRouted src s t) := by
  unfold State.offerRouted
  repeat' (first
    | (with_reducible assumption)
    | (intro t; refine_lift have ht : Keeps σ t := ?_; ?_; clear_value t; rotate_left; subst t)
    | (intro t; subst t; beta_reduce)
    | lift_lets
    | split
    | (with_reducible apply State.unwait_keeps)
    | (with_reducible apply State.afterFull_keeps)
    | (with_reducible apply State.offer_keeps)
    | (with_reducible apply Keeps.with)
    | (with_reducible apply Keeps.host)
    | (with_reducible apply Keeps.sheets)
    | (with_reducible apply Keeps.slots)
    | (with_reducible apply Keeps.fwd)
    | (with_reducible apply Keeps.fifo)
    | (dsimp only))

theorem State.reroute_keeps {σ : State} (src : Nat) (w : Word) (s : State) (h : Keeps σ s) : Keeps σ (State.reroute src w s) := by
  unfold State.reroute
  repeat' (first
    | (with_reducible assumption)
    | (intro t; refine_lift have ht : Keeps σ t := ?_; ?_; clear_value t; rotate_left; subst t)
    | (intro t; subst t; beta_reduce)
    | lift_lets
    | split
    | (with_reducible apply State.setRoute_keeps)
    | (with_reducible apply State.offerRouted_keeps)
    | (with_reducible refine onlyIf_keeps (fun _ _ => ?_) ?_)
    | (with_reducible apply State.dropEntry_keeps)
    | (with_reducible apply Keeps.with)
    | (with_reducible apply Keeps.host)
    | (with_reducible apply Keeps.sheets)
    | (with_reducible apply Keeps.slots)
    | (with_reducible apply Keeps.fwd)
    | (with_reducible apply Keeps.fifo))

theorem State.srcWritten_keeps {σ : State} (src : Nat) (w : Word) (s : State) (h : Keeps σ s) : Keeps σ (State.srcWritten src w s) := by
  unfold State.srcWritten
  repeat' (first
    | (with_reducible assumption)
    | (intro t; refine_lift have ht : Keeps σ t := ?_; ?_; clear_value t; rotate_left; subst t)
    | (intro t; subst t; beta_reduce)
    | lift_lets
    | split
    | (with_reducible apply State.clearPend_keeps)
    | (with_reducible apply State.refillQueue_keeps)
    | (with_reducible apply State.reroute_keeps)
    | (with_reducible apply Keeps.with)
    | (with_reducible apply Keeps.host)
    | (with_reducible apply Keeps.sheets)
    | (with_reducible apply Keeps.slots)
    | (with_reducible apply Keeps.fwd)
    | (with_reducible apply Keeps.fifo))

theorem State.relaySrc_keeps {σ : State} (src : Nat) (w : Word) (s : State) (h : Keeps σ s) : Keeps σ (State.relaySrc src w s) := by
  unfold State.relaySrc
  repeat' (first
    | (with_reducible assumption)
    | (intro t; refine_lift have ht : Keeps σ t := ?_; ?_; clear_value t; rotate_left; subst t)
    | (intro t; subst t; beta_reduce)
    | lift_lets
    | split
    | (with_reducible apply State.setRoute_keeps)
    | (with_reducible apply State.offerRouted_keeps)
    | (with_reducible refine onlyIf_keeps (fun _ _ => ?_) ?_)
    | (with_reducible apply State.dropEntry_keeps)
    | (with_reducible apply Keeps.with)
    | (with_reducible apply Keeps.host)
    | (with_reducible apply Keeps.sheets)
    | (with_reducible apply Keeps.slots)
    | (with_reducible apply Keeps.fwd)
    | (with_reducible apply Keeps.fifo))

theorem State.icuPopHead_keeps {σ : State} (s : State) (h : Keeps σ s) : Keeps σ (State.icuPopHead s) := by
  unfold State.icuPopHead
  repeat' (first
    | (with_reducible assumption)
    | (intro t; refine_lift have ht : Keeps σ t := ?_; ?_; clear_value t; rotate_left; subst t)
    | (intro t; subst t; beta_reduce)
    | lift_lets
    | split
    | (with_reducible apply State.refillQueue_keeps)
    | (with_reducible apply State.clearPend_keeps)
    | (with_reducible apply Keeps.with)
    | (with_reducible apply Keeps.host)
    | (with_reducible apply Keeps.sheets)
    | (with_reducible apply Keeps.slots)
    | (with_reducible apply Keeps.fwd)
    | (with_reducible apply Keeps.fifo))

theorem State.ringDoorbell_keeps {σ : State} (src : Nat) (s : State) (h : Keeps σ s) : Keeps σ (State.ringDoorbell src s) := by
  unfold State.ringDoorbell
  repeat' (first
    | (with_reducible assumption)
    | (intro t; refine_lift have ht : Keeps σ t := ?_; ?_; clear_value t; rotate_left; subst t)
    | (intro t; subst t; beta_reduce)
    | lift_lets
    | split
    | (with_reducible apply State.raise_keeps)
    | (with_reducible apply Keeps.with)
    | (with_reducible apply Keeps.host)
    | (with_reducible apply Keeps.sheets)
    | (with_reducible apply Keeps.slots)
    | (with_reducible apply Keeps.fwd)
    | (with_reducible apply Keeps.fifo))

theorem State.openGroup_keeps {σ : State} (g : Nat) (s : State) (h : Keeps σ s) : Keeps σ (State.openGroup g s) := by
  unfold State.openGroup
  repeat' (first
    | (with_reducible assumption)
    | (intro t; refine_lift have ht : Keeps σ t := ?_; ?_; clear_value t; rotate_left; subst t)
    | (intro t; subst t; beta_reduce)
    | lift_lets
    | split
    | (with_reducible apply Keeps.with)
    | (with_reducible apply Keeps.host)
    | (with_reducible apply Keeps.sheets)
    | (with_reducible apply Keeps.slots)
    | (with_reducible apply Keeps.fwd)
    | (with_reducible apply Keeps.fifo))

theorem State.holdWritten_keeps {σ : State} (g : Nat) (s : State) (h : Keeps σ s) : Keeps σ (State.holdWritten g s) := by
  unfold State.holdWritten
  repeat' (first
    | (with_reducible assumption)
    | (intro t; refine_lift have ht : Keeps σ t := ?_; ?_; clear_value t; rotate_left; subst t)
    | (intro t; subst t; beta_reduce)
    | lift_lets
    | split
    | (with_reducible apply State.deliverAll_keeps)
    | (with_reducible apply State.openGroup_keeps)
    | (with_reducible apply Keeps.with)
    | (with_reducible apply Keeps.host)
    | (with_reducible apply Keeps.sheets)
    | (with_reducible apply Keeps.slots)
    | (with_reducible apply Keeps.fwd)
    | (with_reducible apply Keeps.fifo))

theorem State.cancelStandby_keeps {σ : State} (k : Nat) (s : State) (h : Keeps σ s) : Keeps σ (State.cancelStandby k s) := by
  unfold State.cancelStandby
  repeat' (first
    | (with_reducible assumption)
    | (intro t; refine_lift have ht : Keeps σ t := ?_; ?_; clear_value t; rotate_left; subst t)
    | (intro t; subst t; beta_reduce)
    | lift_lets
    | split
    | (with_reducible apply Keeps.with)
    | (with_reducible apply Keeps.host)
    | (with_reducible apply Keeps.sheets)
    | (with_reducible apply Keeps.slots)
    | (with_reducible apply Keeps.fwd)
    | (with_reducible apply Keeps.fifo))

end Sys2Proof.Machine
end

