-- ==== Sys2Proof/Laws/KeepsBoot.lean ====
section
/-! SUPPORT. The operations of the bond, the clocks, the backup domain, the journal, the link, the watchdog, the resets, the
images and the boot keep the queue and the canonical form (KeepsOps). -/
namespace Sys2Proof.Machine

set_option linter.all false

theorem State.showParent_keeps {σ : State} (s : State) (h : Keeps σ s) : Keeps σ (State.showParent s) := by
  unfold State.showParent
  repeat' (first
    | (with_reducible assumption)
    | (intro t; refine_lift have ht : Keeps σ t := ?_; ?_; clear_value t; rotate_left; subst t)
    | (intro t; subst t; beta_reduce)
    | lift_lets
    | split
    | (with_reducible apply State.setFld_keeps)
    | (with_reducible apply Keeps.with)
    | (with_reducible apply Keeps.host)
    | (with_reducible apply Keeps.sheets)
    | (with_reducible apply Keeps.slots)
    | (with_reducible apply Keeps.fwd)
    | (with_reducible apply Keeps.fifo))

theorem State.showRing_keeps {σ : State} (trunk : Bool) (opened : Bool) (s : State) (h : Keeps σ s) : Keeps σ (State.showRing trunk opened s) := by
  unfold State.showRing
  repeat' (first
    | (with_reducible assumption)
    | (intro t; refine_lift have ht : Keeps σ t := ?_; ?_; clear_value t; rotate_left; subst t)
    | (intro t; subst t; beta_reduce)
    | lift_lets
    | split
    | (with_reducible apply State.showParent_keeps)
    | (with_reducible apply State.raise_keeps)
    | (with_reducible apply State.setFld_keeps)
    | (with_reducible apply State.setFlag_keeps)
    | (with_reducible apply Keeps.with)
    | (with_reducible apply Keeps.host)
    | (with_reducible apply Keeps.sheets)
    | (with_reducible apply Keeps.slots)
    | (with_reducible apply Keeps.fwd)
    | (with_reducible apply Keeps.fifo))

theorem State.sendRing_keeps {σ : State} (trunk : Bool) (opened : Bool) (s : State) (h : Keeps σ s) : Keeps σ (State.sendRing trunk opened s) := by
  unfold State.sendRing
  repeat' (first
    | (with_reducible assumption)
    | (intro t; refine_lift have ht : Keeps σ t := ?_; ?_; clear_value t; rotate_left; subst t)
    | (intro t; subst t; beta_reduce)
    | lift_lets
    | split
    | (with_reducible apply State.send_keeps)
    | (with_reducible apply Keeps.with)
    | (with_reducible apply Keeps.host)
    | (with_reducible apply Keeps.sheets)
    | (with_reducible apply Keeps.slots)
    | (with_reducible apply Keeps.fwd)
    | (with_reducible apply Keeps.fifo))

theorem State.declareRing_keeps {σ : State} (trunk : Bool) (opened : Bool) (s : State) (h : Keeps σ s) : Keeps σ (State.declareRing trunk opened s) := by
  unfold State.declareRing
  repeat' (first
    | (with_reducible assumption)
    | (intro t; refine_lift have ht : Keeps σ t := ?_; ?_; clear_value t; rotate_left; subst t)
    | (intro t; subst t; beta_reduce)
    | lift_lets
    | split
    | (with_reducible apply State.showParent_keeps)
    | (with_reducible apply State.setRing_keeps)
    | (with_reducible apply State.showRing_keeps)
    | (with_reducible apply State.sheet_keeps)
    | (with_reducible apply State.sendRing_keeps)
    | (with_reducible apply Keeps.with)
    | (with_reducible apply Keeps.host)
    | (with_reducible apply Keeps.sheets)
    | (with_reducible apply Keeps.slots)
    | (with_reducible apply Keeps.fwd)
    | (with_reducible apply Keeps.fifo))

theorem State.portLost_keeps {σ : State} (p : Nat) (s : State) (h : Keeps σ s) : Keeps σ (State.portLost p s) := by
  unfold State.portLost
  repeat' (first
    | (with_reducible assumption)
    | (intro t; refine_lift have ht : Keeps σ t := ?_; ?_; clear_value t; rotate_left; subst t)
    | (intro t; subst t; beta_reduce)
    | lift_lets
    | split
    | (with_reducible apply State.sendRing_keeps)
    | (with_reducible apply State.setRing_keeps)
    | (with_reducible apply State.declareRing_keeps)
    | (with_reducible apply State.showRing_keeps)
    | (with_reducible apply Keeps.with)
    | (with_reducible apply Keeps.host)
    | (with_reducible apply Keeps.sheets)
    | (with_reducible apply Keeps.slots)
    | (with_reducible apply Keeps.fwd)
    | (with_reducible apply Keeps.fifo))

theorem State.restore_keeps {σ : State} (lvl : Nat) (p : Nat → Bool) (s : State) (h : Keeps σ s) :
    Keeps σ (State.restore lvl p s) := by
  refine Keeps.trans h ⟨rfl, fun x => ?_, id, id, id, id, id, id, id, id⟩
  refine Registers.wf_filterMap _ _ (fun e _ y hy => ?_) (fun e he y hy => ?_) x
  · dsimp only at hy
    split at hy
    · split at hy
      · cases hy
      · cases hy; rfl
    · cases hy; rfl
  · dsimp only at hy
    split at hy
    · split at hy
      · cases hy
      · cases hy; assumption
    · cases hy; exact ((Registers.wf_iff _).mp x).2 _ he

theorem State.showStat_keeps {σ : State} (code : Nat) (s : State) (h : Keeps σ s) : Keeps σ (State.showStat code s) := by
  unfold State.showStat
  repeat' (first
    | (with_reducible assumption)
    | (intro t; refine_lift have ht : Keeps σ t := ?_; ?_; clear_value t; rotate_left; subst t)
    | (intro t; subst t; beta_reduce)
    | lift_lets
    | split
    | (with_reducible apply Keeps.with)
    | (with_reducible apply Keeps.host)
    | (with_reducible apply Keeps.sheets)
    | (with_reducible apply Keeps.slots)
    | (with_reducible apply Keeps.fwd)
    | (with_reducible apply Keeps.fifo))

theorem State.layBrick_keeps {σ : State} (n : Nat) (s : State) (h : Keeps σ s) : Keeps σ (State.layBrick n s) := by
  unfold State.layBrick
  repeat' (first
    | (with_reducible assumption)
    | (intro t; refine_lift have ht : Keeps σ t := ?_; ?_; clear_value t; rotate_left; subst t)
    | (intro t; subst t; beta_reduce)
    | lift_lets
    | split
    | (with_reducible apply State.restore_keeps)
    | (with_reducible apply State.setFld_keeps)
    | (with_reducible apply State.setFlag_keeps)
    | (with_reducible apply State.setBrick_keeps)
    | (with_reducible apply State.setBrkState_keeps)
    | (with_reducible refine forEach_keeps (fun _ _ _ => ?_) ?_)
    | (with_reducible apply State.setReg_keeps)
    | (with_reducible apply State.setRef_keeps)
    | (with_reducible apply State.loadStores_keeps)
    | (with_reducible apply State.takeLimits_keeps)
    | (with_reducible apply State.syncLanes_keeps)
    | (with_reducible apply Keeps.with)
    | (with_reducible apply Keeps.host)
    | (with_reducible apply Keeps.sheets)
    | (with_reducible apply Keeps.slots)
    | (with_reducible apply Keeps.fwd)
    | (with_reducible apply Keeps.fifo))

theorem State.layRails_keeps {σ : State} (s : State) (h : Keeps σ s) : Keeps σ (State.layRails s) := by
  unfold State.layRails
  repeat' (first
    | (with_reducible assumption)
    | (intro t; refine_lift have ht : Keeps σ t := ?_; ?_; clear_value t; rotate_left; subst t)
    | (intro t; subst t; beta_reduce)
    | lift_lets
    | split
    | (with_reducible refine forEach_keeps (fun _ _ _ => ?_) ?_)
    | (with_reducible apply State.setFld_keeps)
    | (with_reducible apply Keeps.with)
    | (with_reducible apply Keeps.host)
    | (with_reducible apply Keeps.sheets)
    | (with_reducible apply Keeps.slots)
    | (with_reducible apply Keeps.fwd)
    | (with_reducible apply Keeps.fifo))

theorem State.layThermal_keeps {σ : State} (s : State) (h : Keeps σ s) : Keeps σ (State.layThermal s) := by
  unfold State.layThermal
  repeat' (first
    | (with_reducible assumption)
    | (intro t; refine_lift have ht : Keeps σ t := ?_; ?_; clear_value t; rotate_left; subst t)
    | (intro t; subst t; beta_reduce)
    | lift_lets
    | split
    | (with_reducible refine forEach_keeps (fun _ _ _ => ?_) ?_)
    | (with_reducible apply State.setFlag_keeps)
    | (with_reducible apply State.setFld_keeps)
    | (with_reducible apply State.setSensor_keeps)
    | (with_reducible apply State.setBroken_keeps)
    | (with_reducible refine onlyIf_keeps (fun _ _ => ?_) ?_)
    | (with_reducible apply State.showHot_keeps)
    | (with_reducible apply Keeps.with)
    | (with_reducible apply Keeps.host)
    | (with_reducible apply Keeps.sheets)
    | (with_reducible apply Keeps.slots)
    | (with_reducible apply Keeps.fwd)
    | (with_reducible apply Keeps.fifo))

theorem State.layIcu_keeps {σ : State} (s : State) (h : Keeps σ s) : Keeps σ (State.layIcu s) := by
  unfold State.layIcu
  repeat' (first
    | (with_reducible assumption)
    | (intro t; refine_lift have ht : Keeps σ t := ?_; ?_; clear_value t; rotate_left; subst t)
    | (intro t; subst t; beta_reduce)
    | lift_lets
    | split
    | (with_reducible refine forEach_keeps (fun _ _ _ => ?_) ?_)
    | (with_reducible apply State.setFld_keeps)
    | (with_reducible apply State.relaySrc_keeps)
    | (with_reducible apply State.refillQueue_keeps)
    | (with_reducible apply State.holdWritten_keeps)
    | (with_reducible apply Keeps.with)
    | (with_reducible apply Keeps.host)
    | (with_reducible apply Keeps.sheets)
    | (with_reducible apply Keeps.slots)
    | (with_reducible apply Keeps.fwd)
    | (with_reducible apply Keeps.fifo))

theorem State.layLink_keeps {σ : State} (s : State) (h : Keeps σ s) : Keeps σ (State.layLink s) := by
  unfold State.layLink
  repeat' (first
    | (with_reducible assumption)
    | (intro t; refine_lift have ht : Keeps σ t := ?_; ?_; clear_value t; rotate_left; subst t)
    | (intro t; subst t; beta_reduce)
    | lift_lets
    | split
    | (with_reducible apply State.setFld_keeps)
    | (with_reducible refine onlyIf_keeps (fun _ _ => ?_) ?_)
    | (with_reducible apply State.raise_keeps)
    | (with_reducible refine forEach_keeps (fun _ _ _ => ?_) ?_)
    | (with_reducible apply State.portLost_keeps)
    | (with_reducible apply Keeps.with)
    | (with_reducible apply Keeps.host)
    | (with_reducible apply Keeps.sheets)
    | (with_reducible apply Keeps.slots)
    | (with_reducible apply Keeps.fwd)
    | (with_reducible apply Keeps.fifo))

theorem State.layPins_keeps {σ : State} (s : State) (h : Keeps σ s) : Keeps σ (State.layPins s) := by
  unfold State.layPins
  repeat' (first
    | (with_reducible assumption)
    | (intro t; refine_lift have ht : Keeps σ t := ?_; ?_; clear_value t; rotate_left; subst t)
    | (intro t; subst t; beta_reduce)
    | lift_lets
    | split
    | (with_reducible refine forEach_keeps (fun _ _ _ => ?_) ?_)
    | (with_reducible apply State.setFld_keeps)
    | (with_reducible apply State.setReg_keeps)
    | (with_reducible apply State.clearRecords_keeps)
    | (with_reducible apply Keeps.with)
    | (with_reducible apply Keeps.host)
    | (with_reducible apply Keeps.sheets)
    | (with_reducible apply Keeps.slots)
    | (with_reducible apply Keeps.fwd)
    | (with_reducible apply Keeps.fifo))

theorem State.layMeasure_keeps {σ : State} (s : State) (h : Keeps σ s) : Keeps σ (State.layMeasure s) := by
  unfold State.layMeasure
  repeat' (first
    | (with_reducible assumption)
    | (intro t; refine_lift have ht : Keeps σ t := ?_; ?_; clear_value t; rotate_left; subst t)
    | (intro t; subst t; beta_reduce)
    | lift_lets
    | split
    | (with_reducible apply State.setFld_keeps)
    | (with_reducible apply State.regrid_keeps)
    | (with_reducible apply State.endFallback_keeps)
    | (with_reducible apply State.startFallback_keeps)
    | (with_reducible refine forEach_keeps (fun _ _ _ => ?_) ?_)
    | (with_reducible apply Keeps.with)
    | (with_reducible apply Keeps.host)
    | (with_reducible apply Keeps.sheets)
    | (with_reducible apply Keeps.slots)
    | (with_reducible apply Keeps.fwd)
    | (with_reducible apply Keeps.fifo))

theorem State.layBalls_keeps {σ : State} (s : State) (h : Keeps σ s) : Keeps σ (State.layBalls s) := by
  unfold State.layBalls
  repeat' (first
    | (with_reducible assumption)
    | (intro t; refine_lift have ht : Keeps σ t := ?_; ?_; clear_value t; rotate_left; subst t)
    | (intro t; subst t; beta_reduce)
    | lift_lets
    | split
    | (with_reducible apply Keeps.with)
    | (with_reducible apply Keeps.host)
    | (with_reducible apply Keeps.sheets)
    | (with_reducible apply Keeps.slots)
    | (with_reducible apply Keeps.fwd)
    | (with_reducible apply Keeps.fifo))

theorem State.layBond_keeps {σ : State} (bytes : List Byte) (tiles : List Tile) (s : State) (h : Keeps σ s) : Keeps σ (State.layBond bytes tiles s) := by
  unfold State.layBond
  repeat' (first
    | (with_reducible assumption)
    | (intro t; refine_lift have ht : Keeps σ t := ?_; ?_; clear_value t; rotate_left; subst t)
    | (intro t; subst t; beta_reduce)
    | lift_lets
    | split
    | (with_reducible apply State.abandonSweep_keeps)
    | (with_reducible apply State.driversOff_keeps)
    | (with_reducible refine forEach_keeps (fun _ _ _ => ?_) ?_)
    | (with_reducible apply State.dropInjection_keeps)
    | (with_reducible apply State.layIcu_keeps)
    | (with_reducible apply State.layBrick_keeps)
    | (with_reducible apply State.setReg_keeps)
    | (with_reducible apply State.layBalance_keeps)
    | (with_reducible apply State.layLink_keeps)
    | (with_reducible apply State.layMeasure_keeps)
    | (with_reducible apply State.layPins_keeps)
    | (with_reducible apply State.layThermal_keeps)
    | (with_reducible apply State.layRails_keeps)
    | (with_reducible apply State.emptyCells_keeps)
    | (with_reducible apply State.clearHist_keeps)
    | (with_reducible apply State.changeReamLen_keeps)
    | (with_reducible apply State.setFld_keeps)
    | (with_reducible apply State.showStat_keeps)
    | (with_reducible apply State.layBalls_keeps)
    | (with_reducible apply State.setFlag_keeps)
    | (with_reducible apply State.showHealth_keeps)
    | (with_reducible apply State.seqRefresh_keeps)
    | (with_reducible apply State.applyMargins_keeps)
    | (with_reducible apply Keeps.with)
    | (with_reducible apply Keeps.host)
    | (with_reducible apply Keeps.sheets)
    | (with_reducible apply Keeps.slots)
    | (with_reducible apply Keeps.fwd)
    | (with_reducible apply Keeps.fifo))

theorem State.useSlot_keeps {σ : State} (k : Nat) (gen : Nat) (s : State) (h : Keeps σ s) : Keeps σ (State.useSlot k gen s) := by
  unfold State.useSlot
  repeat' (first
    | (with_reducible assumption)
    | (intro t; refine_lift have ht : Keeps σ t := ?_; ?_; clear_value t; rotate_left; subst t)
    | (intro t; subst t; beta_reduce)
    | lift_lets
    | split
    | (with_reducible apply State.setFld_keeps)
    | (with_reducible apply State.setReg_keeps)
    | (with_reducible apply State.raise_keeps)
    | (with_reducible apply Keeps.with)
    | (with_reducible apply Keeps.host)
    | (with_reducible apply Keeps.sheets)
    | (with_reducible apply Keeps.slots)
    | (with_reducible apply Keeps.fwd)
    | (with_reducible apply Keeps.fifo))

theorem State.bondAtStart_keeps {σ : State} (s : State) (h : Keeps σ s) : Keeps σ (State.bondAtStart s).1 := by
  unfold State.bondAtStart
  repeat' (first
    | (with_reducible assumption)
    | (intro t; refine_lift have ht : Keeps σ t := ?_; ?_; clear_value t; rotate_left; subst t)
    | (intro t; subst t; beta_reduce)
    | lift_lets
    | split
    | (with_reducible apply State.recordBond_keeps)
    | (with_reducible apply State.useSlot_keeps)
    | (with_reducible apply State.layBond_keeps)
    | (with_reducible apply State.setFld_keeps)
    | (with_reducible apply Keeps.with)
    | (with_reducible apply Keeps.host)
    | (with_reducible apply Keeps.sheets)
    | (with_reducible apply Keeps.slots)
    | (with_reducible apply Keeps.fwd)
    | (with_reducible apply Keeps.fifo)
    | (dsimp only))

theorem State.storeFailed_keeps {σ : State} (reason : Option Nat) (s : State) (h : Keeps σ s) : Keeps σ (State.storeFailed reason s) := by
  unfold State.storeFailed
  repeat' (first
    | (with_reducible assumption)
    | (intro t; refine_lift have ht : Keeps σ t := ?_; ?_; clear_value t; rotate_left; subst t)
    | (intro t; subst t; beta_reduce)
    | lift_lets
    | split
    | (with_reducible apply State.bondSheet_keeps)
    | (with_reducible apply State.recordBond_keeps)
    | (with_reducible apply State.takeFree_keeps)
    | (with_reducible apply State.answerDist_keeps)
    | (with_reducible apply State.endRequest_keeps)
    | (with_reducible apply State.raise_keeps)
    | (with_reducible apply Keeps.with)
    | (with_reducible apply Keeps.host)
    | (with_reducible apply Keeps.sheets)
    | (with_reducible apply Keeps.slots)
    | (with_reducible apply Keeps.fwd)
    | (with_reducible apply Keeps.fifo)
    | (dsimp only))

theorem State.storePartly_keeps {σ : State} (s : State) (h : Keeps σ s) : Keeps σ (State.storePartly s) := by
  unfold State.storePartly
  repeat' (first
    | (with_reducible assumption)
    | split
    | (dsimp only)
    | (with_reducible apply State.takeFree_keeps)
    | (with_reducible apply State.flashErase_keeps)
    | (with_reducible apply State.flashWrite_keeps)
    | (with_reducible apply Keeps.with)
    | (with_reducible apply Keeps.host)
    | (with_reducible apply Keeps.sheets)
    | (with_reducible apply Keeps.slots)
    | (with_reducible apply Keeps.fwd)
    | (with_reducible apply Keeps.fifo))

theorem State.beginStore_keeps {σ : State} (b : List Byte) (applied : Bool) (s : State) (h : Keeps σ s) : Keeps σ (State.beginStore b applied s) := by
  unfold State.beginStore
  repeat' (first
    | (with_reducible assumption)
    | (intro t; refine_lift have ht : Keeps σ t := ?_; ?_; clear_value t; rotate_left; subst t)
    | (intro t; subst t; beta_reduce)
    | lift_lets
    | split
    | (with_reducible apply State.setFld_keeps)
    | (with_reducible apply State.storeFailed_keeps)
    | (with_reducible apply Keeps.with)
    | (with_reducible apply Keeps.host)
    | (with_reducible apply Keeps.sheets)
    | (with_reducible apply Keeps.slots)
    | (with_reducible apply Keeps.fwd)
    | (with_reducible apply Keeps.fifo))

theorem State.sealActive_keeps {σ : State} (k : Nat) (gen : Nat) (s : State) (h : Keeps σ s) : Keeps σ (State.sealActive k gen s) := by
  unfold State.sealActive
  repeat' (first
    | (with_reducible assumption)
    | (intro t; refine_lift have ht : Keeps σ t := ?_; ?_; clear_value t; rotate_left; subst t)
    | (intro t; subst t; beta_reduce)
    | lift_lets
    | split
    | (with_reducible apply State.flashWrite_keeps)
    | (with_reducible apply State.useSlot_keeps)
    | (with_reducible apply State.setFld_keeps)
    | (with_reducible apply Keeps.with)
    | (with_reducible apply Keeps.host)
    | (with_reducible apply Keeps.sheets)
    | (with_reducible apply Keeps.slots)
    | (with_reducible apply Keeps.fwd)
    | (with_reducible apply Keeps.fifo))

theorem State.sealFails_keeps {σ : State} (k : Nat) (s : State) (h : Keeps σ s) : Keeps σ (State.sealFails k s) := by
  unfold State.sealFails
  repeat' (first
    | (with_reducible assumption)
    | (intro t; refine_lift have ht : Keeps σ t := ?_; ?_; clear_value t; rotate_left; subst t)
    | (intro t; subst t; beta_reduce)
    | lift_lets
    | split
    | (with_reducible apply State.takeFree_keeps)
    | (with_reducible apply State.storeFailed_keeps)
    | (with_reducible apply State.flashWrite_keeps)
    | (with_reducible apply Keeps.with)
    | (with_reducible apply Keeps.host)
    | (with_reducible apply Keeps.sheets)
    | (with_reducible apply Keeps.slots)
    | (with_reducible apply Keeps.fwd)
    | (with_reducible apply Keeps.fifo)
    | (dsimp only))

theorem State.acceptBond_keeps {σ : State} (src : Nat) (storeOnly : Bool) (storeAfter : Bool) (link : Option Nat) (s : State) (h : Keeps σ s) : Keeps σ (State.acceptBond src storeOnly storeAfter link s) := by
  unfold State.acceptBond
  repeat' (first
    | (with_reducible assumption)
    | (intro t; refine_lift have ht : Keeps σ t := ?_; ?_; clear_value t; rotate_left; subst t)
    | (intro t; subst t; beta_reduce)
    | lift_lets
    | split
    | (with_reducible apply State.setFld_keeps)
    | (with_reducible apply State.seqRefresh_keeps)
    | (with_reducible apply Keeps.with)
    | (with_reducible apply Keeps.host)
    | (with_reducible apply Keeps.sheets)
    | (with_reducible apply Keeps.slots)
    | (with_reducible apply Keeps.fwd)
    | (with_reducible apply Keeps.fifo))

theorem State.requestRelay_keeps {σ : State} (src : Nat) (store : Bool) (link : Option Nat) (s : State) (h : Keeps σ s) : Keeps σ (State.requestRelay src store link s) := by
  unfold State.requestRelay
  repeat' (first
    | (with_reducible assumption)
    | (intro t; refine_lift have ht : Keeps σ t := ?_; ?_; clear_value t; rotate_left; subst t)
    | (intro t; subst t; beta_reduce)
    | lift_lets
    | split
    | (with_reducible apply State.bondSheet_keeps)
    | (with_reducible apply State.recordBond_keeps)
    | (with_reducible apply State.raise_keeps)
    | (with_reducible apply State.answerDist_keeps)
    | (with_reducible apply State.setFld_keeps)
    | (with_reducible apply State.acceptBond_keeps)
    | (with_reducible apply Keeps.with)
    | (with_reducible apply Keeps.host)
    | (with_reducible apply Keeps.sheets)
    | (with_reducible apply Keeps.slots)
    | (with_reducible apply Keeps.fwd)
    | (with_reducible apply Keeps.fifo))

theorem State.bondBusy_keeps {σ : State} (s : State) (h : Keeps σ s) : Keeps σ (State.bondBusy s) := by
  unfold State.bondBusy
  repeat' (first
    | (with_reducible assumption)
    | (intro t; refine_lift have ht : Keeps σ t := ?_; ?_; clear_value t; rotate_left; subst t)
    | (intro t; subst t; beta_reduce)
    | lift_lets
    | split
    | (with_reducible apply State.raise_keeps)
    | (with_reducible apply State.setFld_keeps)
    | (with_reducible apply Keeps.with)
    | (with_reducible apply Keeps.host)
    | (with_reducible apply Keeps.sheets)
    | (with_reducible apply Keeps.slots)
    | (with_reducible apply Keeps.fwd)
    | (with_reducible apply Keeps.fifo))

theorem State.bondAbort_keeps {σ : State} (s : State) (h : Keeps σ s) : Keeps σ (State.bondAbort s) := by
  unfold State.bondAbort
  repeat' (first
    | (with_reducible assumption)
    | (intro t; refine_lift have ht : Keeps σ t := ?_; ?_; clear_value t; rotate_left; subst t)
    | (intro t; subst t; beta_reduce)
    | lift_lets
    | split
    | (with_reducible apply State.storeFailed_keeps)
    | (with_reducible apply State.storePartly_keeps)
    | (with_reducible apply State.seqRefresh_keeps)
    | (with_reducible apply State.abortRelay_keeps)
    | (with_reducible apply Keeps.with)
    | (with_reducible apply Keeps.host)
    | (with_reducible apply Keeps.sheets)
    | (with_reducible apply Keeps.slots)
    | (with_reducible apply Keeps.fwd)
    | (with_reducible apply Keeps.fifo))

theorem State.bndCtrlWritten_keeps {σ : State} (w : Word) (s : State) (h : Keeps σ s) : Keeps σ (State.bndCtrlWritten w s) := by
  unfold State.bndCtrlWritten
  repeat' (first
    | (with_reducible assumption)
    | (intro t; refine_lift have ht : Keeps σ t := ?_; ?_; clear_value t; rotate_left; subst t)
    | (intro t; subst t; beta_reduce)
    | lift_lets
    | split
    | (with_reducible apply State.bondBusy_keeps)
    | (with_reducible apply State.acceptBond_keeps)
    | (with_reducible apply State.requestRelay_keeps)
    | (with_reducible apply State.bondAbort_keeps)
    | (with_reducible apply Keeps.with)
    | (with_reducible apply Keeps.host)
    | (with_reducible apply Keeps.sheets)
    | (with_reducible apply Keeps.slots)
    | (with_reducible apply Keeps.fwd)
    | (with_reducible apply Keeps.fifo))

theorem State.rejectBond_keeps {σ : State} (e : BondErr) (s : State) (h : Keeps σ s) : Keeps σ (State.rejectBond e s) := by
  unfold State.rejectBond
  repeat' (first
    | (with_reducible assumption)
    | (intro t; refine_lift have ht : Keeps σ t := ?_; ?_; clear_value t; rotate_left; subst t)
    | (intro t; subst t; beta_reduce)
    | lift_lets
    | split
    | (with_reducible apply State.bondSheet_keeps)
    | (with_reducible apply State.recordBond_keeps)
    | (with_reducible apply State.seqRefresh_keeps)
    | (with_reducible apply State.raise_keeps)
    | (with_reducible apply State.answerDist_keeps)
    | (with_reducible apply State.endRequest_keeps)
    | (with_reducible apply Keeps.with)
    | (with_reducible apply Keeps.host)
    | (with_reducible apply Keeps.sheets)
    | (with_reducible apply Keeps.slots)
    | (with_reducible apply Keeps.fwd)
    | (with_reducible apply Keeps.fifo))

theorem State.stageBytes_keeps {σ : State} (owner : Nat) (bs : List Byte) (s : State) (h : Keeps σ s) : Keeps σ (State.stageBytes owner bs s).1 := by
  unfold State.stageBytes
  repeat' (first
    | (with_reducible assumption)
    | (intro t; refine_lift have ht : Keeps σ t := ?_; ?_; clear_value t; rotate_left; subst t)
    | (intro t; subst t; beta_reduce)
    | lift_lets
    | split
    | (with_reducible apply State.setFld_keeps)
    | (with_reducible apply Keeps.with)
    | (with_reducible apply Keeps.host)
    | (with_reducible apply Keeps.sheets)
    | (with_reducible apply Keeps.slots)
    | (with_reducible apply Keeps.fwd)
    | (with_reducible apply Keeps.fifo)
    | (dsimp only))

theorem State.bndDataWritten_keeps {σ : State} (w : Word) (s : State) (h : Keeps σ s) : Keeps σ (State.bndDataWritten w s) := by
  unfold State.bndDataWritten
  repeat' (first
    | (with_reducible assumption)
    | (intro t; refine_lift have ht : Keeps σ t := ?_; ?_; clear_value t; rotate_left; subst t)
    | (intro t; subst t; beta_reduce)
    | lift_lets
    | split
    | (with_reducible apply State.stageBytes_keeps)
    | (with_reducible apply State.rejectBond_keeps)
    | (with_reducible apply State.setFld_keeps)
    | (with_reducible apply Keeps.with)
    | (with_reducible apply Keeps.host)
    | (with_reducible apply Keeps.sheets)
    | (with_reducible apply Keeps.slots)
    | (with_reducible apply Keeps.fwd)
    | (with_reducible apply Keeps.fifo)
    | (dsimp only))

theorem State.bondRestarted_keeps {σ : State} (s : State) (h : Keeps σ s) : Keeps σ (State.bondRestarted s) := by
  unfold State.bondRestarted
  repeat' (first
    | (with_reducible assumption)
    | (intro t; refine_lift have ht : Keeps σ t := ?_; ?_; clear_value t; rotate_left; subst t)
    | (intro t; subst t; beta_reduce)
    | lift_lets
    | split
    | (with_reducible apply State.storeFailed_keeps)
    | (with_reducible apply State.storePartly_keeps)
    | (with_reducible apply State.seqRefresh_keeps)
    | (with_reducible apply State.abortRelay_keeps)
    | (with_reducible apply Keeps.with)
    | (with_reducible apply Keeps.host)
    | (with_reducible apply Keeps.sheets)
    | (with_reducible apply Keeps.slots)
    | (with_reducible apply Keeps.fwd)
    | (with_reducible apply Keeps.fifo))

theorem State.setTime_keeps {σ : State} (t : Time) (s : State) (h : Keeps σ s) : Keeps σ (State.setTime t s) := by
  unfold State.setTime
  repeat' (first
    | (with_reducible assumption)
    | (intro t; refine_lift have ht : Keeps σ t := ?_; ?_; clear_value t; rotate_left; subst t)
    | (intro t; subst t; beta_reduce)
    | lift_lets
    | split
    | (with_reducible apply Keeps.with)
    | (with_reducible apply Keeps.host)
    | (with_reducible apply Keeps.sheets)
    | (with_reducible apply Keeps.slots)
    | (with_reducible apply Keeps.fwd)
    | (with_reducible apply Keeps.fifo))

theorem State.bkdCode_keeps {σ : State} (code : Nat) (s : State) (h : Keeps σ s) : Keeps σ (State.bkdCode code s) := by
  unfold State.bkdCode
  repeat' (first
    | (with_reducible assumption)
    | (intro t; refine_lift have ht : Keeps σ t := ?_; ?_; clear_value t; rotate_left; subst t)
    | (intro t; subst t; beta_reduce)
    | lift_lets
    | split
    | (with_reducible apply State.sheet_keeps)
    | (with_reducible apply Keeps.with)
    | (with_reducible apply Keeps.host)
    | (with_reducible apply Keeps.sheets)
    | (with_reducible apply Keeps.slots)
    | (with_reducible apply Keeps.fwd)
    | (with_reducible apply Keeps.fifo))

theorem State.seedTime_keeps {σ : State} (s : State) (h : Keeps σ s) : Keeps σ (State.seedTime s) := by
  unfold State.seedTime
  repeat' (first
    | (with_reducible assumption)
    | (intro t; refine_lift have ht : Keeps σ t := ?_; ?_; clear_value t; rotate_left; subst t)
    | (intro t; subst t; beta_reduce)
    | lift_lets
    | split
    | (with_reducible apply State.setTime_keeps)
    | (with_reducible apply State.bkdCode_keeps)
    | (with_reducible apply State.setFld_keeps)
    | (with_reducible apply Keeps.with)
    | (with_reducible apply Keeps.host)
    | (with_reducible apply Keeps.sheets)
    | (with_reducible apply Keeps.slots)
    | (with_reducible apply Keeps.fwd)
    | (with_reducible apply Keeps.fifo))

theorem State.setTstate_keeps {σ : State} (v : Nat) (s : State) (h : Keeps σ s) : Keeps σ (State.setTstate v s) := by
  unfold State.setTstate
  repeat' (first
    | (with_reducible assumption)
    | (intro t; refine_lift have ht : Keeps σ t := ?_; ?_; clear_value t; rotate_left; subst t)
    | (intro t; subst t; beta_reduce)
    | lift_lets
    | split
    | (with_reducible apply State.setFld_keeps)
    | (with_reducible apply State.setReg_keeps)
    | (with_reducible apply State.raise_keeps)
    | (with_reducible apply Keeps.with)
    | (with_reducible apply Keeps.host)
    | (with_reducible apply Keeps.sheets)
    | (with_reducible apply Keeps.slots)
    | (with_reducible apply Keeps.fwd)
    | (with_reducible apply Keeps.fifo))

theorem State.seedAtLock_keeps {σ : State} (s : State) (h : Keeps σ s) : Keeps σ (State.seedAtLock s) := by
  have ht : Keeps σ { s with clk := { s.clk with seedFor := 0 } } := h.with h.host h.sheets h.slots h.fwd h.fifo
  have hs := State.seedTime_keeps _ ht
  unfold State.seedAtLock
  dsimp only
  split
  · exact h
  · exact hs
  · split
    · exact State.stepped_keeps _ _ hs h
    · exact State.setTstate_keeps _ _ (State.stepped_keeps _ _ hs h)
  · exact State.stepped_keeps _ _ hs h

theorem State.setGo_keeps {σ : State} (s : State) (h : Keeps σ s) : Keeps σ (State.setGo s) := by
  unfold State.setGo
  repeat' (first
    | (with_reducible assumption)
    | (intro t; refine_lift have ht : Keeps σ t := ?_; ?_; clear_value t; rotate_left; subst t)
    | (intro t; subst t; beta_reduce)
    | lift_lets
    | split
    | (with_reducible apply State.setTime_keeps)
    | (with_reducible apply State.stepped_keeps)
    | (with_reducible apply State.setFld_keeps)
    | (with_reducible apply Keeps.with)
    | (with_reducible apply Keeps.host)
    | (with_reducible apply Keeps.sheets)
    | (with_reducible apply Keeps.slots)
    | (with_reducible apply Keeps.fwd)
    | (with_reducible apply Keeps.fifo))

theorem State.slewInc_keeps {σ : State} (s : State) (h : Keeps σ s) : Keeps σ (State.slewInc s) := by
  unfold State.slewInc
  repeat' (first
    | (with_reducible assumption)
    | (intro t; refine_lift have ht : Keeps σ t := ?_; ?_; clear_value t; rotate_left; subst t)
    | (intro t; subst t; beta_reduce)
    | lift_lets
    | split
    | (with_reducible apply State.takeFree_keeps)
    | (with_reducible apply State.setReg_keeps)
    | (with_reducible apply Keeps.with)
    | (with_reducible apply Keeps.host)
    | (with_reducible apply Keeps.sheets)
    | (with_reducible apply Keeps.slots)
    | (with_reducible apply Keeps.fwd)
    | (with_reducible apply Keeps.fifo)
    | (dsimp only))

theorem State.servo_keeps {σ : State} (o : Int) (o28 : Int) (s : State) (h : Keeps σ s) : Keeps σ (State.servo o o28 s) := by
  unfold State.servo
  repeat' (first
    | (with_reducible assumption)
    | (intro t; refine_lift have ht : Keeps σ t := ?_; ?_; clear_value t; rotate_left; subst t)
    | (intro t; subst t; beta_reduce)
    | lift_lets
    | split
    | (with_reducible apply State.setReg_keeps)
    | (with_reducible apply State.stepped_keeps)
    | (with_reducible apply State.setFld_keeps)
    | (with_reducible apply State.slewInc_keeps)
    | (with_reducible apply State.setTstate_keeps)
    | (with_reducible apply Keeps.with)
    | (with_reducible apply Keeps.host)
    | (with_reducible apply Keeps.sheets)
    | (with_reducible apply Keeps.slots)
    | (with_reducible apply Keeps.fwd)
    | (with_reducible apply Keeps.fifo))

theorem State.meanInc_keeps {σ : State} (s : State) (h : Keeps σ s) : Keeps σ (State.meanInc s) := by
  unfold State.meanInc
  repeat' (first
    | (with_reducible assumption)
    | (intro t; refine_lift have ht : Keeps σ t := ?_; ?_; clear_value t; rotate_left; subst t)
    | (intro t; subst t; beta_reduce)
    | lift_lets
    | split
    | (with_reducible apply State.setReg_keeps)
    | (with_reducible apply State.takeFree_keeps)
    | (with_reducible apply Keeps.with)
    | (with_reducible apply Keeps.host)
    | (with_reducible apply Keeps.sheets)
    | (with_reducible apply Keeps.slots)
    | (with_reducible apply Keeps.fwd)
    | (with_reducible apply Keeps.fifo)
    | (dsimp only))

theorem State.loseRef_keeps {σ : State} (s : State) (h : Keeps σ s) : Keeps σ (State.loseRef s) := by
  unfold State.loseRef
  repeat' (first
    | (with_reducible assumption)
    | (intro t; refine_lift have ht : Keeps σ t := ?_; ?_; clear_value t; rotate_left; subst t)
    | (intro t; subst t; beta_reduce)
    | lift_lets
    | split
    | (with_reducible apply State.flagRaise_keeps)
    | (with_reducible apply State.setFld_keeps)
    | (with_reducible apply Keeps.with)
    | (with_reducible apply Keeps.host)
    | (with_reducible apply Keeps.sheets)
    | (with_reducible apply Keeps.slots)
    | (with_reducible apply Keeps.fwd)
    | (with_reducible apply Keeps.fifo))

theorem State.findRef_keeps {σ : State} (port : Bool) (s : State) (h : Keeps σ s) : Keeps σ (State.findRef port s) := by
  unfold State.findRef
  repeat' (first
    | (with_reducible assumption)
    | (intro t; refine_lift have ht : Keeps σ t := ?_; ?_; clear_value t; rotate_left; subst t)
    | (intro t; subst t; beta_reduce)
    | lift_lets
    | split
    | (with_reducible apply State.setFld_keeps)
    | (with_reducible apply State.setFlag_keeps)
    | (with_reducible apply Keeps.with)
    | (with_reducible apply Keeps.host)
    | (with_reducible apply Keeps.sheets)
    | (with_reducible apply Keeps.slots)
    | (with_reducible apply Keeps.fwd)
    | (with_reducible apply Keeps.fifo))

theorem State.qualify_keeps {σ : State} (port : Bool) (s : State) (h : Keeps σ s) : Keeps σ (State.qualify port s) := by
  unfold State.qualify
  repeat' (first
    | (with_reducible assumption)
    | (intro t; refine_lift have ht : Keeps σ t := ?_; ?_; clear_value t; rotate_left; subst t)
    | (intro t; subst t; beta_reduce)
    | lift_lets
    | split
    | (with_reducible apply State.findRef_keeps)
    | (with_reducible apply Keeps.with)
    | (with_reducible apply Keeps.host)
    | (with_reducible apply Keeps.sheets)
    | (with_reducible apply Keeps.slots)
    | (with_reducible apply Keeps.fwd)
    | (with_reducible apply Keeps.fifo))

theorem State.beginAttempt_keeps {σ : State} (qualified : Bool) (s : State) (h : Keeps σ s) : Keeps σ (State.beginAttempt qualified s) := by
  unfold State.beginAttempt
  repeat' (first
    | (with_reducible assumption)
    | (intro t; refine_lift have ht : Keeps σ t := ?_; ?_; clear_value t; rotate_left; subst t)
    | (intro t; subst t; beta_reduce)
    | lift_lets
    | split
    | (with_reducible apply Keeps.with)
    | (with_reducible apply Keeps.host)
    | (with_reducible apply Keeps.sheets)
    | (with_reducible apply Keeps.slots)
    | (with_reducible apply Keeps.fwd)
    | (with_reducible apply Keeps.fifo))

theorem State.lockClocks_keeps {σ : State} (s : State) (h : Keeps σ s) : Keeps σ (State.lockClocks s) := by
  unfold State.lockClocks
  repeat' (first
    | (with_reducible assumption)
    | (intro t; refine_lift have ht : Keeps σ t := ?_; ?_; clear_value t; rotate_left; subst t)
    | (intro t; subst t; beta_reduce)
    | lift_lets
    | split
    | (with_reducible apply State.setFld_keeps)
    | (with_reducible apply Keeps.with)
    | (with_reducible apply Keeps.host)
    | (with_reducible apply Keeps.sheets)
    | (with_reducible apply Keeps.slots)
    | (with_reducible apply Keeps.fwd)
    | (with_reducible apply Keeps.fifo))

theorem State.bakTick_keeps {σ : State} (set : Option (BitVec 36 × BitVec 15)) (s : State) (h : Keeps σ s) : Keeps σ (State.bakTick set s) := by
  unfold State.bakTick
  repeat' (first
    | (with_reducible assumption)
    | (intro t; refine_lift have ht : Keeps σ t := ?_; ?_; clear_value t; rotate_left; subst t)
    | (intro t; subst t; beta_reduce)
    | lift_lets
    | split
    | (with_reducible apply Keeps.with)
    | (with_reducible apply Keeps.host)
    | (with_reducible apply Keeps.sheets)
    | (with_reducible apply Keeps.slots)
    | (with_reducible apply Keeps.fwd)
    | (with_reducible apply Keeps.fifo))

theorem State.bkdReset_keeps {σ : State} (s : State) (h : Keeps σ s) : Keeps σ (State.bkdReset s) := by
  refine Keeps.trans h ⟨rfl, fun x => ?_, id, id, id, id, id, id, id, fun _ => Nat.zero_le _⟩
  refine Registers.wf_filterMap _ _ (fun e _ y hy => ?_) (fun e he y hy => ?_) x
  · dsimp only at hy
    split at hy
    · split at hy
      · cases hy
      · cases hy; rfl
    · cases hy; rfl
  · dsimp only at hy
    split at hy
    · split at hy
      · cases hy
      · cases hy; assumption
    · cases hy; exact ((Registers.wf_iff _).mp x).2 _ he

theorem State.nextSample_keeps {σ : State} (s : State) (h : Keeps σ s) : Keeps σ (State.nextSample s) := by
  unfold State.nextSample
  repeat' (first
    | (with_reducible assumption)
    | (intro t; refine_lift have ht : Keeps σ t := ?_; ?_; clear_value t; rotate_left; subst t)
    | (intro t; subst t; beta_reduce)
    | lift_lets
    | split
    | (with_reducible apply Keeps.with)
    | (with_reducible apply Keeps.host)
    | (with_reducible apply Keeps.sheets)
    | (with_reducible apply Keeps.slots)
    | (with_reducible apply Keeps.fwd)
    | (with_reducible apply Keeps.fifo))

theorem State.rtcTimeRead_keeps {σ : State} (path : Nat) (w : Nat) (s : State) (h : Keeps σ s) : Keeps σ (State.rtcTimeRead path w s).2 := by
  unfold State.rtcTimeRead
  repeat' (first
    | (with_reducible assumption)
    | (intro t; refine_lift have ht : Keeps σ t := ?_; ?_; clear_value t; rotate_left; subst t)
    | (intro t; subst t; beta_reduce)
    | lift_lets
    | split
    | (with_reducible refine forEach_keeps (fun _ _ _ => ?_) ?_)
    | (with_reducible apply Keeps.with)
    | (with_reducible apply Keeps.host)
    | (with_reducible apply Keeps.sheets)
    | (with_reducible apply Keeps.slots)
    | (with_reducible apply Keeps.fwd)
    | (with_reducible apply Keeps.fifo)
    | (dsimp only))

theorem State.rtcStatRead_keeps {σ : State} (path : Nat) (s : State) (h : Keeps σ s) : Keeps σ (State.rtcStatRead path s).2 := by
  unfold State.rtcStatRead
  repeat' (first
    | (with_reducible assumption)
    | (intro t; refine_lift have ht : Keeps σ t := ?_; ?_; clear_value t; rotate_left; subst t)
    | (intro t; subst t; beta_reduce)
    | lift_lets
    | split
    | (with_reducible apply Keeps.with)
    | (with_reducible apply Keeps.host)
    | (with_reducible apply Keeps.sheets)
    | (with_reducible apply Keeps.slots)
    | (with_reducible apply Keeps.fwd)
    | (with_reducible apply Keeps.fifo)
    | (dsimp only))

theorem State.commitWritten_keeps {σ : State} (code : Nat) (s : State) (h : Keeps σ s) : Keeps σ (State.commitWritten code s) := by
  unfold State.commitWritten
  repeat' (first
    | (with_reducible assumption)
    | (intro t; refine_lift have ht : Keeps σ t := ?_; ?_; clear_value t; rotate_left; subst t)
    | (intro t; subst t; beta_reduce)
    | lift_lets
    | split
    | (with_reducible apply State.setFld_keeps)
    | (with_reducible apply State.flagRaise_keeps)
    | (with_reducible apply State.bkdCode_keeps)
    | (with_reducible apply Keeps.with)
    | (with_reducible apply Keeps.host)
    | (with_reducible apply Keeps.sheets)
    | (with_reducible apply Keeps.slots)
    | (with_reducible apply Keeps.fwd)
    | (with_reducible apply Keeps.fifo))

theorem State.lateAlarm_keeps {σ : State} (s : State) (h : Keeps σ s) : Keeps σ (State.lateAlarm s) := by
  unfold State.lateAlarm
  repeat' (first
    | (with_reducible assumption)
    | (intro t; refine_lift have ht : Keeps σ t := ?_; ?_; clear_value t; rotate_left; subst t)
    | (intro t; subst t; beta_reduce)
    | lift_lets
    | split
    | (with_reducible apply State.raise_keeps)
    | (with_reducible apply Keeps.with)
    | (with_reducible apply Keeps.host)
    | (with_reducible apply Keeps.sheets)
    | (with_reducible apply Keeps.slots)
    | (with_reducible apply Keeps.fwd)
    | (with_reducible apply Keeps.fifo))

theorem State.evtSheet_keeps {σ : State} (e : EvtEntry) (s : State) (h : Keeps σ s) : Keeps σ (State.evtSheet e s) := by
  unfold State.evtSheet
  repeat' (first
    | (with_reducible assumption)
    | (intro t; refine_lift have ht : Keeps σ t := ?_; ?_; clear_value t; rotate_left; subst t)
    | (intro t; subst t; beta_reduce)
    | lift_lets
    | split
    | (with_reducible apply State.sheet_keeps)
    | (with_reducible apply Keeps.with)
    | (with_reducible apply Keeps.host)
    | (with_reducible apply Keeps.sheets)
    | (with_reducible apply Keeps.slots)
    | (with_reducible apply Keeps.fwd)
    | (with_reducible apply Keeps.fifo))

theorem State.evtPop_keeps {σ : State} (s : State) (h : Keeps σ s) : Keeps σ (State.evtPop s) := by
  unfold State.evtPop
  repeat' (first
    | (with_reducible assumption)
    | (intro t; refine_lift have ht : Keeps σ t := ?_; ?_; clear_value t; rotate_left; subst t)
    | (intro t; subst t; beta_reduce)
    | lift_lets
    | split
    | (with_reducible apply Keeps.with)
    | (with_reducible apply Keeps.host)
    | (with_reducible apply Keeps.sheets)
    | (with_reducible apply Keeps.slots)
    | (with_reducible apply Keeps.fwd)
    | (with_reducible apply Keeps.fifo)
    | (exact fun x => Nat.le_trans (by simp) (h.fifo x)))

theorem State.codeSheets_keeps {σ : State} (s : State) (h : Keeps σ s) : Keeps σ (State.codeSheets s) := by
  unfold State.codeSheets
  repeat' (first
    | (with_reducible assumption)
    | (intro t; refine_lift have ht : Keeps σ t := ?_; ?_; clear_value t; rotate_left; subst t)
    | (intro t; subst t; beta_reduce)
    | lift_lets
    | split
    | (with_reducible refine forEach_keeps (fun _ _ _ => ?_) ?_)
    | (with_reducible apply State.sheet_keeps)
    | (with_reducible apply Keeps.with)
    | (with_reducible apply Keeps.host)
    | (with_reducible apply Keeps.sheets)
    | (with_reducible apply Keeps.slots)
    | (with_reducible apply Keeps.fwd)
    | (with_reducible apply Keeps.fifo))

theorem State.evtSheets_keeps {σ : State} (s : State) (h : Keeps σ s) : Keeps σ (State.evtSheets s) := by
  unfold State.evtSheets
  repeat' (first
    | (with_reducible assumption)
    | (intro t; refine_lift have ht : Keeps σ t := ?_; ?_; clear_value t; rotate_left; subst t)
    | (intro t; subst t; beta_reduce)
    | lift_lets
    | split
    | (with_reducible refine forEach_keeps (fun _ _ _ => ?_) ?_)
    | (with_reducible apply State.evtSheet_keeps)
    | (with_reducible apply Keeps.with)
    | (with_reducible apply Keeps.host)
    | (with_reducible apply Keeps.sheets)
    | (with_reducible apply Keeps.slots)
    | (with_reducible apply Keeps.fwd)
    | (with_reducible apply Keeps.fifo)
    | (intro hx; dsimp only; rw [List.length_map]; exact Keeps.fifo (by assumption) hx))

theorem State.sheetPartly_keeps {σ : State} (slot : Nat) (s : State) (h : Keeps σ s) : Keeps σ (State.sheetPartly slot s) := by
  unfold State.sheetPartly
  repeat' (first
    | (with_reducible assumption)
    | (intro t; refine_lift have ht : Keeps σ t := ?_; ?_; clear_value t; rotate_left; subst t)
    | (intro t; subst t; beta_reduce)
    | lift_lets
    | split
    | (with_reducible apply State.takeFree_keeps)
    | (with_reducible apply State.flashWrite_keeps)
    | (with_reducible apply Keeps.with)
    | (with_reducible apply Keeps.host)
    | (with_reducible apply Keeps.sheets)
    | (with_reducible apply Keeps.slots)
    | (with_reducible apply Keeps.fwd)
    | (with_reducible apply Keeps.fifo)
    | (dsimp only))

theorem State.eraseAhead_keeps {σ : State} (slot : Nat) (s : State) (h : Keeps σ s) : Keeps σ (State.eraseAhead slot s) := by
  unfold State.eraseAhead
  repeat' (first
    | (with_reducible assumption)
    | (intro t; refine_lift have ht : Keeps σ t := ?_; ?_; clear_value t; rotate_left; subst t)
    | (intro t; subst t; beta_reduce)
    | lift_lets
    | split
    | (with_reducible apply State.flashErase_keeps)
    | (with_reducible apply Keeps.with)
    | (with_reducible apply Keeps.host)
    | (with_reducible apply Keeps.sheets)
    | (with_reducible apply Keeps.slots)
    | (with_reducible apply Keeps.fwd)
    | (with_reducible apply Keeps.fifo))

theorem State.reportLost_keeps {σ : State} (s : State) (h : Keeps σ s) : Keeps σ (State.reportLost s) := by
  unfold State.reportLost
  repeat' (first
    | (with_reducible assumption)
    | (intro t; refine_lift have ht : Keeps σ t := ?_; ?_; clear_value t; rotate_left; subst t)
    | (intro t; subst t; beta_reduce)
    | lift_lets
    | split
    | (with_reducible apply State.sheet_keeps)
    | (with_reducible apply Keeps.with)
    | (with_reducible apply Keeps.host)
    | (with_reducible apply Keeps.sheets)
    | (with_reducible apply Keeps.slots)
    | (with_reducible apply Keeps.fwd)
    | (with_reducible apply Keeps.fifo))

theorem State.cutSheet_keeps {σ : State} (s : State) (h : Keeps σ s) : Keeps σ (State.cutSheet s) := by
  unfold State.cutSheet
  repeat' (first
    | (with_reducible assumption)
    | (intro t; refine_lift have ht : Keeps σ t := ?_; ?_; clear_value t; rotate_left; subst t)
    | (intro t; subst t; beta_reduce)
    | lift_lets
    | split
    | (with_reducible apply State.eraseAhead_keeps)
    | (with_reducible apply State.sheetPartly_keeps)
    | (with_reducible apply Keeps.with)
    | (with_reducible apply Keeps.host)
    | (with_reducible apply Keeps.sheets)
    | (with_reducible apply Keeps.slots)
    | (with_reducible apply Keeps.fwd)
    | (with_reducible apply Keeps.fifo)
    | (exact fun x => ⟨(Keeps.slots (by assumption) x).1, fun _ hk => nomatch hk⟩))

theorem State.jnlLoad_keeps {σ : State} (path : Nat) (slot : Nat) (s : State) (h : Keeps σ s) : Keeps σ (State.jnlLoad path slot s) := by
  unfold State.jnlLoad
  repeat' (first
    | (with_reducible assumption)
    | (intro t; refine_lift have ht : Keeps σ t := ?_; ?_; clear_value t; rotate_left; subst t)
    | (intro t; subst t; beta_reduce)
    | lift_lets
    | split
    | (with_reducible apply Keeps.with)
    | (with_reducible apply Keeps.host)
    | (with_reducible apply Keeps.sheets)
    | (with_reducible apply Keeps.slots)
    | (with_reducible apply Keeps.fwd)
    | (with_reducible apply Keeps.fifo))

theorem State.loseSignal_keeps {σ : State} (p : Nat) (s : State) (h : Keeps σ s) : Keeps σ (State.loseSignal p s) := by
  unfold State.loseSignal
  repeat' (first
    | (with_reducible assumption)
    | (intro t; refine_lift have ht : Keeps σ t := ?_; ?_; clear_value t; rotate_left; subst t)
    | (intro t; subst t; beta_reduce)
    | lift_lets
    | split
    | (with_reducible apply State.loseRef_keeps)
    | (with_reducible apply Keeps.with)
    | (with_reducible apply Keeps.host)
    | (with_reducible apply Keeps.sheets)
    | (with_reducible apply Keeps.slots)
    | (with_reducible apply Keeps.fwd)
    | (with_reducible apply Keeps.fifo))

theorem State.setPass_keeps {σ : State} (p : Pass) (s : State) (h : Keeps σ s) : Keeps σ (State.setPass p s) := by
  unfold State.setPass
  repeat' (first
    | (with_reducible assumption)
    | (intro t; refine_lift have ht : Keeps σ t := ?_; ?_; clear_value t; rotate_left; subst t)
    | (intro t; subst t; beta_reduce)
    | lift_lets
    | split
    | (with_reducible apply State.setFlag_keeps)
    | (with_reducible apply Keeps.with)
    | (with_reducible apply Keeps.host)
    | (with_reducible apply Keeps.sheets)
    | (with_reducible apply Keeps.slots)
    | (with_reducible apply Keeps.fwd)
    | (with_reducible apply Keeps.fifo))

theorem State.sendClaim_keeps {σ : State} (trunk : Bool) (s : State) (h : Keeps σ s) : Keeps σ (State.sendClaim trunk s) := by
  unfold State.sendClaim
  repeat' (first
    | (with_reducible assumption)
    | (intro t; refine_lift have ht : Keeps σ t := ?_; ?_; clear_value t; rotate_left; subst t)
    | (intro t; subst t; beta_reduce)
    | lift_lets
    | split
    | (with_reducible apply State.send_keeps)
    | (with_reducible apply Keeps.with)
    | (with_reducible apply Keeps.host)
    | (with_reducible apply Keeps.sheets)
    | (with_reducible apply Keeps.slots)
    | (with_reducible apply Keeps.fwd)
    | (with_reducible apply Keeps.fifo))

theorem State.startEnum_keeps {σ : State} (s : State) (h : Keeps σ s) : Keeps σ (State.startEnum s) := by
  unfold State.startEnum
  repeat' (first
    | (with_reducible assumption)
    | (intro t; refine_lift have ht : Keeps σ t := ?_; ?_; clear_value t; rotate_left; subst t)
    | (intro t; subst t; beta_reduce)
    | lift_lets
    | split
    | (with_reducible apply State.sendClaim_keeps)
    | (with_reducible apply State.setPass_keeps)
    | (with_reducible apply Keeps.with)
    | (with_reducible apply Keeps.host)
    | (with_reducible apply Keeps.sheets)
    | (with_reducible apply Keeps.slots)
    | (with_reducible apply Keeps.fwd)
    | (with_reducible apply Keeps.fifo))

theorem State.sendWalk_keeps {σ : State} (port : Nat) (side : Nat) (s : State) (h : Keeps σ s) : Keeps σ (State.sendWalk port side s) := by
  unfold State.sendWalk
  repeat' (first
    | (with_reducible assumption)
    | (intro t; refine_lift have ht : Keeps σ t := ?_; ?_; clear_value t; rotate_left; subst t)
    | (intro t; subst t; beta_reduce)
    | lift_lets
    | split
    | (with_reducible apply State.emit_keeps)
    | (with_reducible apply Keeps.with)
    | (with_reducible apply Keeps.host)
    | (with_reducible apply Keeps.sheets)
    | (with_reducible apply Keeps.slots)
    | (with_reducible apply Keeps.fwd)
    | (with_reducible apply Keeps.fifo))

theorem State.beginWalk_keeps {σ : State} (s : State) (h : Keeps σ s) : Keeps σ (State.beginWalk s) := by
  unfold State.beginWalk
  repeat' (first
    | (with_reducible assumption)
    | (intro t; refine_lift have ht : Keeps σ t := ?_; ?_; clear_value t; rotate_left; subst t)
    | (intro t; subst t; beta_reduce)
    | lift_lets
    | split
    | (with_reducible apply State.sendWalk_keeps)
    | (with_reducible apply State.setPass_keeps)
    | (with_reducible apply State.setRing_keeps)
    | (with_reducible apply Keeps.with)
    | (with_reducible apply Keeps.host)
    | (with_reducible apply Keeps.sheets)
    | (with_reducible apply Keeps.slots)
    | (with_reducible apply Keeps.fwd)
    | (with_reducible apply Keeps.fifo))

theorem State.judgeTrunk_keeps {σ : State} (s : State) (h : Keeps σ s) : Keeps σ (State.judgeTrunk s) := by
  unfold State.judgeTrunk
  repeat' (first
    | (with_reducible assumption)
    | (intro t; refine_lift have ht : Keeps σ t := ?_; ?_; clear_value t; rotate_left; subst t)
    | (intro t; subst t; beta_reduce)
    | lift_lets
    | split
    | (with_reducible apply State.sheet_keeps)
    | (with_reducible apply Keeps.with)
    | (with_reducible apply Keeps.host)
    | (with_reducible apply Keeps.sheets)
    | (with_reducible apply Keeps.slots)
    | (with_reducible apply Keeps.fwd)
    | (with_reducible apply Keeps.fifo))

theorem State.claimTrunk_keeps {σ : State} (s : State) (h : Keeps σ s) : Keeps σ (State.claimTrunk s) := by
  unfold State.claimTrunk
  repeat' (first
    | (with_reducible assumption)
    | (intro t; refine_lift have ht : Keeps σ t := ?_; ?_; clear_value t; rotate_left; subst t)
    | (intro t; subst t; beta_reduce)
    | lift_lets
    | split
    | (with_reducible apply State.judgeTrunk_keeps)
    | (with_reducible apply State.sendClaim_keeps)
    | (with_reducible apply State.setPass_keeps)
    | (with_reducible apply Keeps.with)
    | (with_reducible apply Keeps.host)
    | (with_reducible apply Keeps.sheets)
    | (with_reducible apply Keeps.slots)
    | (with_reducible apply Keeps.fwd)
    | (with_reducible apply Keeps.fifo))

theorem State.takeAddress_keeps {σ : State} (a : Nat) (role : Nat) (ndev : Nat) (nstr : Nat) (s : State) (h : Keeps σ s) : Keeps σ (State.takeAddress a role ndev nstr s) := by
  unfold State.takeAddress
  repeat' (first
    | (with_reducible assumption)
    | split
    | (dsimp only)
    | (with_reducible apply State.setFld_keeps)
    | (with_reducible apply State.showParent_keeps)
    | (with_reducible apply State.setTstate_keeps)
    | (with_reducible refine onlyIf_keeps (fun _ _ => ?_) ?_)
    | (with_reducible apply State.flagRaise_keeps)
    | (with_reducible apply State.seqRefresh_keeps)
    | (with_reducible apply State.forwardStuck_keeps)
    | (with_reducible apply Keeps.with)
    | (with_reducible apply Keeps.host)
    | (with_reducible apply Keeps.sheets)
    | (with_reducible apply Keeps.slots)
    | (with_reducible apply Keeps.fwd)
    | (with_reducible apply Keeps.fifo))

theorem State.loseAddress_keeps {σ : State} (s : State) (h : Keeps σ s) : Keeps σ (State.loseAddress s) := by
  unfold State.loseAddress
  repeat' (first
    | (with_reducible assumption)
    | (intro t; refine_lift have ht : Keeps σ t := ?_; ?_; clear_value t; rotate_left; subst t)
    | (intro t; subst t; beta_reduce)
    | lift_lets
    | split
    | (with_reducible apply State.setFld_keeps)
    | (with_reducible apply State.setReg_keeps)
    | (with_reducible apply State.seqRefresh_keeps)
    | (with_reducible apply State.setTstate_keeps)
    | (with_reducible apply Keeps.with)
    | (with_reducible apply Keeps.host)
    | (with_reducible apply Keeps.sheets)
    | (with_reducible apply Keeps.slots)
    | (with_reducible apply Keeps.fwd)
    | (with_reducible apply Keeps.fifo))

theorem State.sendAssign_keeps {σ : State} (mode : Nat) (l : List (BitVec 64 × Nat)) (s : State) (h : Keeps σ s) : Keeps σ (State.sendAssign mode l s) := by
  unfold State.sendAssign
  repeat' (first
    | (with_reducible assumption)
    | (intro t; refine_lift have ht : Keeps σ t := ?_; ?_; clear_value t; rotate_left; subst t)
    | (intro t; subst t; beta_reduce)
    | lift_lets
    | split
    | (with_reducible refine forEach_keeps (fun _ _ _ => ?_) ?_)
    | (with_reducible apply State.send_keeps)
    | (with_reducible apply Keeps.with)
    | (with_reducible apply Keeps.host)
    | (with_reducible apply Keeps.sheets)
    | (with_reducible apply Keeps.slots)
    | (with_reducible apply Keeps.fwd)
    | (with_reducible apply Keeps.fifo))

theorem State.assignString_keeps {σ : State} (k : Nat) (role : Nat) (nstr : Nat) (s : State) (h : Keeps σ s) : Keeps σ (State.assignString k role nstr s) := by
  unfold State.assignString
  repeat' (first
    | (with_reducible assumption)
    | (intro t; refine_lift have ht : Keeps σ t := ?_; ?_; clear_value t; rotate_left; subst t)
    | (intro t; subst t; beta_reduce)
    | lift_lets
    | split
    | (with_reducible apply State.takeAddress_keeps)
    | (with_reducible apply State.sendAssign_keeps)
    | (with_reducible apply State.setPass_keeps)
    | (with_reducible apply Keeps.with)
    | (with_reducible apply Keeps.host)
    | (with_reducible apply Keeps.sheets)
    | (with_reducible apply Keeps.slots)
    | (with_reducible apply Keeps.fwd)
    | (with_reducible apply Keeps.fifo))

theorem State.noKeystone_keeps {σ : State} (s : State) (h : Keeps σ s) : Keeps σ (State.noKeystone s) := by
  unfold State.noKeystone
  repeat' (first
    | (with_reducible assumption)
    | (intro t; refine_lift have ht : Keeps σ t := ?_; ?_; clear_value t; rotate_left; subst t)
    | (intro t; subst t; beta_reduce)
    | lift_lets
    | split
    | (with_reducible apply State.setPass_keeps)
    | (with_reducible apply State.sheet_keeps)
    | (with_reducible apply Keeps.with)
    | (with_reducible apply Keeps.host)
    | (with_reducible apply Keeps.sheets)
    | (with_reducible apply Keeps.slots)
    | (with_reducible apply Keeps.fwd)
    | (with_reducible apply Keeps.fifo))

theorem State.walkedRing_keeps {σ : State} (trunk : Bool) (opened : Bool) (n : Nat) (s : State) (h : Keeps σ s) : Keeps σ (State.walkedRing trunk opened n s) := by
  unfold State.walkedRing
  repeat' (first
    | (with_reducible assumption)
    | (intro t; refine_lift have ht : Keeps σ t := ?_; ?_; clear_value t; rotate_left; subst t)
    | (intro t; subst t; beta_reduce)
    | lift_lets
    | split
    | (with_reducible apply State.declareRing_keeps)
    | (with_reducible apply State.showParent_keeps)
    | (with_reducible apply State.setRing_keeps)
    | (with_reducible apply Keeps.with)
    | (with_reducible apply Keeps.host)
    | (with_reducible apply Keeps.sheets)
    | (with_reducible apply Keeps.slots)
    | (with_reducible apply Keeps.fwd)
    | (with_reducible apply Keeps.fifo))

theorem State.walkDone_keeps {σ : State} (n : Nat) (opened : Bool) (s : State) (h : Keeps σ s) : Keeps σ (State.walkDone n opened s) := by
  unfold State.walkDone
  repeat' (first
    | (with_reducible assumption)
    | (intro t; refine_lift have ht : Keeps σ t := ?_; ?_; clear_value t; rotate_left; subst t)
    | (intro t; subst t; beta_reduce)
    | lift_lets
    | split
    | (with_reducible apply State.setFld_keeps)
    | (with_reducible apply State.walkedRing_keeps)
    | (with_reducible refine forEach_keeps (fun _ _ _ => ?_) ?_)
    | (with_reducible apply State.flagRaise_keeps)
    | (with_reducible apply State.sheet_keeps)
    | (with_reducible apply State.sendAssign_keeps)
    | (with_reducible apply State.setPass_keeps)
    | (with_reducible apply State.claimTrunk_keeps)
    | (with_reducible apply State.assignString_keeps)
    | (with_reducible apply State.noKeystone_keeps)
    | (with_reducible apply Keeps.with)
    | (with_reducible apply Keeps.host)
    | (with_reducible apply Keeps.sheets)
    | (with_reducible apply Keeps.slots)
    | (with_reducible apply Keeps.fwd)
    | (with_reducible apply Keeps.fifo))

theorem State.trunkDone_keeps {σ : State} (s : State) (h : Keeps σ s) : Keeps σ (State.trunkDone s) := by
  unfold State.trunkDone
  repeat' (first
    | (with_reducible assumption)
    | (intro t; refine_lift have ht : Keeps σ t := ?_; ?_; clear_value t; rotate_left; subst t)
    | (intro t; subst t; beta_reduce)
    | lift_lets
    | split
    | (with_reducible apply State.setFld_keeps)
    | (with_reducible refine forEach_keeps (fun _ _ _ => ?_) ?_)
    | (with_reducible apply State.flagRaise_keeps)
    | (with_reducible apply State.sheet_keeps)
    | (with_reducible apply State.takeFree_keeps)
    | (with_reducible apply State.assignString_keeps)
    | (with_reducible apply State.sendAssign_keeps)
    | (with_reducible apply Keeps.with)
    | (with_reducible apply Keeps.host)
    | (with_reducible apply Keeps.sheets)
    | (with_reducible apply Keeps.slots)
    | (with_reducible apply Keeps.fwd)
    | (with_reducible apply Keeps.fifo)
    | (dsimp only))

theorem State.walkTimeout_keeps {σ : State} (s : State) (h : Keeps σ s) : Keeps σ (State.walkTimeout s) := by
  unfold State.walkTimeout
  repeat' (first
    | (with_reducible assumption)
    | (intro t; refine_lift have ht : Keeps σ t := ?_; ?_; clear_value t; rotate_left; subst t)
    | (intro t; subst t; beta_reduce)
    | lift_lets
    | split
    | (with_reducible apply State.sendWalk_keeps)
    | (with_reducible apply State.setPass_keeps)
    | (with_reducible apply State.setRing_keeps)
    | (with_reducible apply State.walkDone_keeps)
    | (with_reducible apply State.trunkDone_keeps)
    | (with_reducible apply State.declareRing_keeps)
    | (with_reducible apply Keeps.with)
    | (with_reducible apply Keeps.host)
    | (with_reducible apply Keeps.sheets)
    | (with_reducible apply Keeps.slots)
    | (with_reducible apply Keeps.fwd)
    | (with_reducible apply Keeps.fifo))

theorem State.endAssign_keeps {σ : State} (trunk : Bool) (count : Nat) (named : Bool) (s : State) (h : Keeps σ s) : Keeps σ (State.endAssign trunk count named s) := by
  unfold State.endAssign
  repeat' (first
    | (with_reducible assumption)
    | (intro t; refine_lift have ht : Keeps σ t := ?_; ?_; clear_value t; rotate_left; subst t)
    | (intro t; subst t; beta_reduce)
    | lift_lets
    | split
    | (with_reducible apply State.setFld_keeps)
    | (with_reducible apply State.loseAddress_keeps)
    | (with_reducible apply Keeps.with)
    | (with_reducible apply Keeps.host)
    | (with_reducible apply Keeps.sheets)
    | (with_reducible apply Keeps.slots)
    | (with_reducible apply Keeps.fwd)
    | (with_reducible apply Keeps.fifo))

theorem State.endSync_keeps {σ : State} (s : State) (h : Keeps σ s) : Keeps σ (State.endSync s) := by
  unfold State.endSync
  repeat' (first
    | (with_reducible assumption)
    | (intro t; refine_lift have ht : Keeps σ t := ?_; ?_; clear_value t; rotate_left; subst t)
    | (intro t; subst t; beta_reduce)
    | lift_lets
    | split
    | (with_reducible apply Keeps.with)
    | (with_reducible apply Keeps.host)
    | (with_reducible apply Keeps.sheets)
    | (with_reducible apply Keeps.slots)
    | (with_reducible apply Keeps.fwd)
    | (with_reducible apply Keeps.fifo))

theorem State.couchDone_keeps {σ : State} (s : State) (h : Keeps σ s) : Keeps σ (State.couchDone s) := by
  unfold State.couchDone
  repeat' (first
    | (with_reducible assumption)
    | (intro t; refine_lift have ht : Keeps σ t := ?_; ?_; clear_value t; rotate_left; subst t)
    | (intro t; subst t; beta_reduce)
    | lift_lets
    | split
    | (with_reducible apply State.raise_keeps)
    | (with_reducible apply State.setFld_keeps)
    | (with_reducible apply Keeps.with)
    | (with_reducible apply Keeps.host)
    | (with_reducible apply Keeps.sheets)
    | (with_reducible apply Keeps.slots)
    | (with_reducible apply Keeps.fwd)
    | (with_reducible apply Keeps.fifo))

theorem State.lnkFwdPop_keeps {σ : State} (s : State) (h : Keeps σ s) : Keeps σ (State.lnkFwdPop s) := by
  unfold State.lnkFwdPop
  repeat' (first
    | (with_reducible assumption)
    | (intro t; refine_lift have ht : Keeps σ t := ?_; ?_; clear_value t; rotate_left; subst t)
    | (intro t; subst t; beta_reduce)
    | lift_lets
    | split
    | (with_reducible apply Keeps.with)
    | (with_reducible apply Keeps.host)
    | (with_reducible apply Keeps.sheets)
    | (with_reducible apply Keeps.slots)
    | (with_reducible apply Keeps.fwd)
    | (with_reducible apply Keeps.fifo)
    | (exact fun x => Nat.le_trans (by simp) (h.fwd x)))

theorem State.lnkCntClr_keeps {σ : State} (s : State) (h : Keeps σ s) : Keeps σ (State.lnkCntClr s) := by
  unfold State.lnkCntClr
  repeat' (first
    | (with_reducible assumption)
    | (intro t; refine_lift have ht : Keeps σ t := ?_; ?_; clear_value t; rotate_left; subst t)
    | (intro t; subst t; beta_reduce)
    | lift_lets
    | split
    | (with_reducible apply State.setReg_keeps)
    | (with_reducible apply Keeps.with)
    | (with_reducible apply Keeps.host)
    | (with_reducible apply Keeps.sheets)
    | (with_reducible apply Keeps.slots)
    | (with_reducible apply Keeps.fwd)
    | (with_reducible apply Keeps.fifo))

theorem State.raDone_keeps {σ : State} (tag : Nat) (result : Nat) (s : State) (h : Keeps σ s) : Keeps σ (State.raDone tag result s) := by
  unfold State.raDone
  repeat' (first
    | (with_reducible assumption)
    | (intro t; refine_lift have ht : Keeps σ t := ?_; ?_; clear_value t; rotate_left; subst t)
    | (intro t; subst t; beta_reduce)
    | lift_lets
    | split
    | (with_reducible apply State.setFld_keeps)
    | (with_reducible apply State.raise_keeps)
    | (with_reducible apply Keeps.with)
    | (with_reducible apply Keeps.host)
    | (with_reducible apply Keeps.sheets)
    | (with_reducible apply Keeps.slots)
    | (with_reducible apply Keeps.fwd)
    | (with_reducible apply Keeps.fifo))

theorem State.raGo_keeps {σ : State} (w : Word) (s : State) (h : Keeps σ s) : Keeps σ (State.raGo w s) := by
  unfold State.raGo
  repeat' (first
    | (with_reducible assumption)
    | (intro t; refine_lift have ht : Keeps σ t := ?_; ?_; clear_value t; rotate_left; subst t)
    | (intro t; subst t; beta_reduce)
    | lift_lets
    | split
    | (with_reducible apply State.setFld_keeps)
    | (with_reducible apply State.setReg_keeps)
    | (with_reducible apply State.sendTo_keeps)
    | (with_reducible apply State.raDone_keeps)
    | (with_reducible apply Keeps.with)
    | (with_reducible apply Keeps.host)
    | (with_reducible apply Keeps.sheets)
    | (with_reducible apply Keeps.slots)
    | (with_reducible apply Keeps.fwd)
    | (with_reducible apply Keeps.fifo))

theorem State.raFree_keeps {σ : State} (tag : Nat) (s : State) (h : Keeps σ s) : Keeps σ (State.raFree tag s) := by
  unfold State.raFree
  repeat' (first
    | (with_reducible assumption)
    | (intro t; refine_lift have ht : Keeps σ t := ?_; ?_; clear_value t; rotate_left; subst t)
    | (intro t; subst t; beta_reduce)
    | lift_lets
    | split
    | (with_reducible apply State.setReg_keeps)
    | (with_reducible apply Keeps.with)
    | (with_reducible apply Keeps.host)
    | (with_reducible apply Keeps.sheets)
    | (with_reducible apply Keeps.slots)
    | (with_reducible apply Keeps.fwd)
    | (with_reducible apply Keeps.fifo))

theorem State.newCycle_keeps {σ : State} (first : Bool) (s : State) (h : Keeps σ s) : Keeps σ (State.newCycle first s) := by
  unfold State.newCycle
  repeat' (first
    | (with_reducible assumption)
    | (intro t; refine_lift have ht : Keeps σ t := ?_; ?_; clear_value t; rotate_left; subst t)
    | (intro t; subst t; beta_reduce)
    | lift_lets
    | split
    | (with_reducible apply State.takeFree_keeps)
    | (with_reducible apply State.setReg_keeps)
    | (with_reducible apply State.raise_keeps)
    | (with_reducible apply Keeps.with)
    | (with_reducible apply Keeps.host)
    | (with_reducible apply Keeps.sheets)
    | (with_reducible apply Keeps.slots)
    | (with_reducible apply Keeps.fwd)
    | (with_reducible apply Keeps.fifo)
    | (dsimp only))

theorem State.wdgTick_keeps {σ : State} (s : State) (h : Keeps σ s) : Keeps σ (State.wdgTick s) := by
  unfold State.wdgTick
  repeat' (first
    | (with_reducible assumption)
    | (intro t; refine_lift have ht : Keeps σ t := ?_; ?_; clear_value t; rotate_left; subst t)
    | (intro t; subst t; beta_reduce)
    | lift_lets
    | split
    | (with_reducible apply State.newCycle_keeps)
    | (with_reducible apply Keeps.with)
    | (with_reducible apply Keeps.host)
    | (with_reducible apply Keeps.sheets)
    | (with_reducible apply Keeps.slots)
    | (with_reducible apply Keeps.fwd)
    | (with_reducible apply Keeps.fifo))

theorem State.arm_keeps {σ : State} (s : State) (h : Keeps σ s) : Keeps σ (State.arm s) := by
  unfold State.arm
  repeat' (first
    | (with_reducible assumption)
    | (intro t; refine_lift have ht : Keeps σ t := ?_; ?_; clear_value t; rotate_left; subst t)
    | (intro t; subst t; beta_reduce)
    | lift_lets
    | split
    | (with_reducible apply State.setReg_keeps)
    | (with_reducible apply Keeps.with)
    | (with_reducible apply Keeps.host)
    | (with_reducible apply Keeps.sheets)
    | (with_reducible apply Keeps.slots)
    | (with_reducible apply Keeps.fwd)
    | (with_reducible apply Keeps.fifo))

theorem State.joinFail_keeps {σ : State} (code : Nat) (tasks : Nat) (s : State) (h : Keeps σ s) : Keeps σ (State.joinFail code tasks s) := by
  unfold State.joinFail
  repeat' (first
    | (with_reducible assumption)
    | (intro t; refine_lift have ht : Keeps σ t := ?_; ?_; clear_value t; rotate_left; subst t)
    | (intro t; subst t; beta_reduce)
    | lift_lets
    | split
    | (with_reducible refine onlyIf_keeps (fun _ _ => ?_) ?_)
    | (with_reducible apply State.recode_keeps)
    | (with_reducible apply State.setFld_keeps)
    | (with_reducible apply Keeps.with)
    | (with_reducible apply Keeps.host)
    | (with_reducible apply Keeps.sheets)
    | (with_reducible apply Keeps.slots)
    | (with_reducible apply Keeps.fwd)
    | (with_reducible apply Keeps.fifo))

theorem State.failOff_keeps {σ : State} (code : Nat) (s : State) (h : Keeps σ s) : Keeps σ (State.failOff code s) := by
  unfold State.failOff
  repeat' (first
    | (with_reducible assumption)
    | (intro t; refine_lift have ht : Keeps σ t := ?_; ?_; clear_value t; rotate_left; subst t)
    | (intro t; subst t; beta_reduce)
    | lift_lets
    | split
    | (with_reducible refine onlyIf_keeps (fun _ _ => ?_) ?_)
    | (with_reducible apply State.allOffBody_keeps)
    | (with_reducible apply Keeps.with)
    | (with_reducible apply Keeps.host)
    | (with_reducible apply Keeps.sheets)
    | (with_reducible apply Keeps.slots)
    | (with_reducible apply Keeps.fwd)
    | (with_reducible apply Keeps.fifo))

theorem State.wdgFail_keeps {σ : State} (code : Nat) (tasks : Nat) (pc : Word × Word × Word × Word) (s : State) (h : Keeps σ s) : Keeps σ (State.wdgFail code tasks pc s) := by
  unfold State.wdgFail
  repeat' (first
    | (with_reducible assumption)
    | (intro t; refine_lift have ht : Keeps σ t := ?_; ?_; clear_value t; rotate_left; subst t)
    | (intro t; subst t; beta_reduce)
    | lift_lets
    | split
    | (with_reducible apply State.joinFail_keeps)
    | (with_reducible apply State.setReg_keeps)
    | (with_reducible apply State.bump_keeps)
    | (with_reducible apply State.failOff_keeps)
    | (with_reducible apply State.raise_keeps)
    | (with_reducible apply Keeps.with)
    | (with_reducible apply Keeps.host)
    | (with_reducible apply Keeps.sheets)
    | (with_reducible apply Keeps.slots)
    | (with_reducible apply Keeps.fwd)
    | (with_reducible apply Keeps.fifo))

theorem State.evidGood_keeps {σ : State} (s : State) (h : Keeps σ s) : Keeps σ (State.evidGood s) := by
  unfold State.evidGood
  repeat' (first
    | (with_reducible assumption)
    | (intro t; refine_lift have ht : Keeps σ t := ?_; ?_; clear_value t; rotate_left; subst t)
    | (intro t; subst t; beta_reduce)
    | lift_lets
    | split
    | (with_reducible apply State.setReg_keeps)
    | (with_reducible apply State.setFld_keeps)
    | (with_reducible apply Keeps.with)
    | (with_reducible apply Keeps.host)
    | (with_reducible apply Keeps.sheets)
    | (with_reducible apply Keeps.slots)
    | (with_reducible apply Keeps.fwd)
    | (with_reducible apply Keeps.fifo))

theorem State.checkin_keeps {σ : State} (p : Path) (task : Nat) (value : Nat) (pc : Word × Word × Word × Word) (s : State) (h : Keeps σ s) : Keeps σ (State.checkin p task value pc s) := by
  unfold State.checkin
  repeat' (first
    | (with_reducible assumption)
    | (intro t; refine_lift have ht : Keeps σ t := ?_; ?_; clear_value t; rotate_left; subst t)
    | (intro t; subst t; beta_reduce)
    | lift_lets
    | split
    | (with_reducible apply State.setFld_keeps)
    | (with_reducible refine onlyIf_keeps (fun _ _ => ?_) ?_)
    | (with_reducible apply State.evidGood_keeps)
    | (with_reducible apply State.wdgFail_keeps)
    | (with_reducible apply Keeps.with)
    | (with_reducible apply Keeps.host)
    | (with_reducible apply Keeps.sheets)
    | (with_reducible apply Keeps.slots)
    | (with_reducible apply Keeps.fwd)
    | (with_reducible apply Keeps.fifo))

theorem State.evidClr_keeps {σ : State} (s : State) (h : Keeps σ s) : Keeps σ (State.evidClr s) := by
  unfold State.evidClr
  repeat' (first
    | (with_reducible assumption)
    | (intro t; refine_lift have ht : Keeps σ t := ?_; ?_; clear_value t; rotate_left; subst t)
    | (intro t; subst t; beta_reduce)
    | lift_lets
    | split
    | (with_reducible apply State.setFld_keeps)
    | (with_reducible apply Keeps.with)
    | (with_reducible apply Keeps.host)
    | (with_reducible apply Keeps.sheets)
    | (with_reducible apply Keeps.slots)
    | (with_reducible apply Keeps.fwd)
    | (with_reducible apply Keeps.fifo))

theorem State.wdgJournal_keeps {σ : State} (s : State) (h : Keeps σ s) : Keeps σ (State.wdgJournal s) := by
  unfold State.wdgJournal
  repeat' (first
    | (with_reducible assumption)
    | (intro t; refine_lift have ht : Keeps σ t := ?_; ?_; clear_value t; rotate_left; subst t)
    | (intro t; subst t; beta_reduce)
    | lift_lets
    | split
    | (with_reducible apply State.sheet_keeps)
    | (with_reducible apply State.raise_keeps)
    | (with_reducible apply State.setFld_keeps)
    | (with_reducible apply Keeps.with)
    | (with_reducible apply Keeps.host)
    | (with_reducible apply Keeps.sheets)
    | (with_reducible apply Keeps.slots)
    | (with_reducible apply Keeps.fwd)
    | (with_reducible apply Keeps.fifo))

theorem State.wdgDisarm_keeps {σ : State} (s : State) (h : Keeps σ s) : Keeps σ (State.wdgDisarm s) := by
  unfold State.wdgDisarm
  repeat' (first
    | (with_reducible assumption)
    | (intro t; refine_lift have ht : Keeps σ t := ?_; ?_; clear_value t; rotate_left; subst t)
    | (intro t; subst t; beta_reduce)
    | lift_lets
    | split
    | (with_reducible apply State.setFld_keeps)
    | (with_reducible apply Keeps.with)
    | (with_reducible apply Keeps.host)
    | (with_reducible apply Keeps.sheets)
    | (with_reducible apply Keeps.slots)
    | (with_reducible apply Keeps.fwd)
    | (with_reducible apply Keeps.fifo))

theorem State.noteCause_keeps {σ : State} (src : Nat) (s : State) (h : Keeps σ s) : Keeps σ (State.noteCause src s) := by
  unfold State.noteCause
  repeat' (first
    | (with_reducible assumption)
    | (intro t; refine_lift have ht : Keeps σ t := ?_; ?_; clear_value t; rotate_left; subst t)
    | (intro t; subst t; beta_reduce)
    | lift_lets
    | split
    | (with_reducible apply State.setFld_keeps)
    | (with_reducible apply Keeps.with)
    | (with_reducible apply Keeps.host)
    | (with_reducible apply Keeps.sheets)
    | (with_reducible apply Keeps.slots)
    | (with_reducible apply Keeps.fwd)
    | (with_reducible apply Keeps.fifo))

theorem State.bootFault_keeps {σ : State} (code : Nat) (s : State) (h : Keeps σ s) : Keeps σ (State.bootFault code s) := by
  unfold State.bootFault
  repeat' (first
    | (with_reducible assumption)
    | (intro t; refine_lift have ht : Keeps σ t := ?_; ?_; clear_value t; rotate_left; subst t)
    | (intro t; subst t; beta_reduce)
    | lift_lets
    | split
    | (with_reducible apply State.setFld_keeps)
    | (with_reducible apply Keeps.with)
    | (with_reducible apply Keeps.host)
    | (with_reducible apply Keeps.sheets)
    | (with_reducible apply Keeps.slots)
    | (with_reducible apply Keeps.fwd)
    | (with_reducible apply Keeps.fifo))

theorem State.bootStat_keeps {σ : State} (code : Nat) (s : State) (h : Keeps σ s) : Keeps σ (State.bootStat code s) := by
  unfold State.bootStat
  repeat' (first
    | (with_reducible assumption)
    | (intro t; refine_lift have ht : Keeps σ t := ?_; ?_; clear_value t; rotate_left; subst t)
    | (intro t; subst t; beta_reduce)
    | lift_lets
    | split
    | (with_reducible apply Keeps.with)
    | (with_reducible apply Keeps.host)
    | (with_reducible apply Keeps.sheets)
    | (with_reducible apply Keeps.slots)
    | (with_reducible apply Keeps.fwd)
    | (with_reducible apply Keeps.fifo))

theorem State.releaseAll_keeps {σ : State} (s : State) (h : Keeps σ s) : Keeps σ (State.releaseAll s) := by
  unfold State.releaseAll
  repeat' (first
    | (with_reducible assumption)
    | (intro t; refine_lift have ht : Keeps σ t := ?_; ?_; clear_value t; rotate_left; subst t)
    | (intro t; subst t; beta_reduce)
    | lift_lets
    | split
    | (with_reducible apply Keeps.with)
    | (with_reducible apply Keeps.host)
    | (with_reducible apply Keeps.sheets)
    | (with_reducible apply Keeps.slots)
    | (with_reducible apply Keeps.fwd)
    | (with_reducible apply Keeps.fifo))

theorem State.partialRow_keeps {σ : State} (row : Nat) (kept : Word) (s : State) (h : Keeps σ s) : Keeps σ (State.partialRow row kept s) := by
  unfold State.partialRow
  repeat' (first
    | (with_reducible assumption)
    | (intro t; refine_lift have ht : Keeps σ t := ?_; ?_; clear_value t; rotate_left; subst t)
    | (intro t; subst t; beta_reduce)
    | lift_lets
    | split
    | (with_reducible apply State.takeFree_keeps)
    | (with_reducible apply Keeps.with)
    | (with_reducible apply Keeps.host)
    | (with_reducible apply Keeps.sheets)
    | (with_reducible apply Keeps.slots)
    | (with_reducible apply Keeps.fwd)
    | (with_reducible apply Keeps.fifo)
    | (dsimp only))

theorem State.cutRow_keeps {σ : State} (c : OtpCmd) (pulses : Nat) (s : State) (h : Keeps σ s) : Keeps σ (State.cutRow c pulses s) := by
  unfold State.cutRow
  repeat' (first
    | (with_reducible assumption)
    | (intro t; refine_lift have ht : Keeps σ t := ?_; ?_; clear_value t; rotate_left; subst t)
    | (intro t; subst t; beta_reduce)
    | lift_lets
    | split
    | (with_reducible apply State.takeFree_keeps)
    | (with_reducible apply State.partialRow_keeps)
    | (with_reducible apply Keeps.with)
    | (with_reducible apply Keeps.host)
    | (with_reducible apply Keeps.sheets)
    | (with_reducible apply Keeps.slots)
    | (with_reducible apply Keeps.fwd)
    | (with_reducible apply Keeps.fifo)
    | (dsimp only))

theorem State.cutOtp_keeps {σ : State} (s : State) (h : Keeps σ s) : Keeps σ (State.cutOtp s) := by
  unfold State.cutOtp
  repeat' (first
    | (with_reducible assumption)
    | (intro t; refine_lift have ht : Keeps σ t := ?_; ?_; clear_value t; rotate_left; subst t)
    | (intro t; subst t; beta_reduce)
    | lift_lets
    | split
    | (with_reducible apply State.takeFree_keeps)
    | (with_reducible apply State.cutRow_keeps)
    | (with_reducible apply State.setFld_keeps)
    | (with_reducible apply Keeps.with)
    | (with_reducible apply Keeps.host)
    | (with_reducible apply Keeps.sheets)
    | (with_reducible apply Keeps.slots)
    | (with_reducible apply Keeps.fwd)
    | (with_reducible apply Keeps.fifo)
    | (dsimp only))

theorem State.dropBlocks_keeps {σ : State} (cold : Bool) (lvl : Nat) (s : State) (h : Keeps σ s) :
    Keeps σ (State.dropBlocks cold lvl s) :=
  ⟨h.pending, h.regs, h.flash, fun _ => rfl, fun _ => by simp [State.dropBlocks], fun _ => Nat.zero_le _, h.sheets,
    fun x => ⟨(h.slots x).1, fun k hk => nomatch hk⟩, fun _ => Nat.zero_le _,
    h.fifo⟩

theorem State.startP1_keeps {σ : State} (s : State) (h : Keeps σ s) : Keeps σ (State.startP1 s) := by
  unfold State.startP1
  repeat' (first
    | (with_reducible assumption)
    | (intro t; refine_lift have ht : Keeps σ t := ?_; ?_; clear_value t; rotate_left; subst t)
    | (intro t; subst t; beta_reduce)
    | lift_lets
    | split
    | (with_reducible apply Keeps.with)
    | (with_reducible apply Keeps.host)
    | (with_reducible apply Keeps.sheets)
    | (with_reducible apply Keeps.slots)
    | (with_reducible apply Keeps.fwd)
    | (with_reducible apply Keeps.fifo))

theorem State.beginPhases_keeps {σ : State} (s : State) (h : Keeps σ s) : Keeps σ (State.beginPhases s) := by
  unfold State.beginPhases
  repeat' (first
    | (with_reducible assumption)
    | (intro t; refine_lift have ht : Keeps σ t := ?_; ?_; clear_value t; rotate_left; subst t)
    | (intro t; subst t; beta_reduce)
    | lift_lets
    | split
    | (with_reducible apply State.startP1_keeps)
    | (with_reducible apply Keeps.with)
    | (with_reducible apply Keeps.host)
    | (with_reducible apply Keeps.sheets)
    | (with_reducible apply Keeps.slots)
    | (with_reducible apply Keeps.fwd)
    | (with_reducible apply Keeps.fifo))

theorem State.beginP0_keeps {σ : State} (s : State) (h : Keeps σ s) : Keeps σ (State.beginP0 s) := by
  unfold State.beginP0
  repeat' (first
    | (with_reducible assumption)
    | (intro t; refine_lift have ht : Keeps σ t := ?_; ?_; clear_value t; rotate_left; subst t)
    | (intro t; subst t; beta_reduce)
    | lift_lets
    | split
    | (with_reducible apply Keeps.with)
    | (with_reducible apply Keeps.host)
    | (with_reducible apply Keeps.sheets)
    | (with_reducible apply Keeps.slots)
    | (with_reducible apply Keeps.fwd)
    | (with_reducible apply Keeps.fifo))

theorem State.enterStart_keeps {σ : State} (lvl : Nat) (bor : Bool) (s : State) (h : Keeps σ s) : Keeps σ (State.enterStart lvl bor s) := by
  unfold State.enterStart
  repeat' (first
    | (with_reducible assumption)
    | (intro t; refine_lift have ht : Keeps σ t := ?_; ?_; clear_value t; rotate_left; subst t)
    | (intro t; subst t; beta_reduce)
    | lift_lets
    | split
    | (with_reducible apply State.wdgDisarm_keeps)
    | (with_reducible apply State.cutOtp_keeps)
    | (with_reducible apply State.storePartly_keeps)
    | (with_reducible apply State.cutSheet_keeps)
    | (with_reducible apply State.dropBlocks_keeps)
    | (with_reducible apply State.restore_keeps)
    | (with_reducible apply State.releaseAll_keeps)
    | (with_reducible apply Keeps.with)
    | (with_reducible apply Keeps.host)
    | (with_reducible apply Keeps.sheets)
    | (with_reducible apply Keeps.slots)
    | (with_reducible apply Keeps.fwd)
    | (with_reducible apply Keeps.fifo))

theorem State.enterRestart_keeps {σ : State} (lvl : Nat) (wdg : Bool) (s : State) (h : Keeps σ s) : Keeps σ (State.enterRestart lvl wdg s) := by
  unfold State.enterRestart
  repeat' (first
    | (with_reducible assumption)
    | (intro t; refine_lift have ht : Keeps σ t := ?_; ?_; clear_value t; rotate_left; subst t)
    | (intro t; subst t; beta_reduce)
    | lift_lets
    | split
    | (with_reducible apply State.abandonSweep_keeps)
    | (with_reducible apply State.restore_keeps)
    | (with_reducible apply State.cutSheet_keeps)
    | (with_reducible apply State.driveInt_keeps)
    | (with_reducible apply State.clearRecords_keeps)
    | (with_reducible apply Keeps.with)
    | (with_reducible apply Keeps.host)
    | (with_reducible apply Keeps.sheets)
    | (with_reducible apply Keeps.slots)
    | (with_reducible apply Keeps.fwd)
    | (with_reducible apply Keeps.fifo))

theorem State.performReset_keeps {σ : State} (lvl : Nat) (src : Nat) (bor : Bool) (s : State) (h : Keeps σ s) : Keeps σ (State.performReset lvl src bor s) := by
  unfold State.performReset
  repeat' (first
    | (with_reducible assumption)
    | (intro t; refine_lift have ht : Keeps σ t := ?_; ?_; clear_value t; rotate_left; subst t)
    | (intro t; subst t; beta_reduce)
    | lift_lets
    | split
    | (with_reducible apply State.enterStart_keeps)
    | (with_reducible apply State.beginP0_keeps)
    | (with_reducible apply State.beginPhases_keeps)
    | (with_reducible apply State.enterRestart_keeps)
    | (with_reducible apply State.setFld_keeps)
    | (with_reducible apply Keeps.with)
    | (with_reducible apply Keeps.host)
    | (with_reducible apply Keeps.sheets)
    | (with_reducible apply Keeps.slots)
    | (with_reducible apply Keeps.fwd)
    | (with_reducible apply Keeps.fifo))

theorem State.equalRequest_keeps {σ : State} (src : Nat) (lvl : Nat) (s : State) (h : Keeps σ s) : Keeps σ (State.equalRequest src lvl s) := by
  unfold State.equalRequest
  repeat' (first
    | (with_reducible assumption)
    | (intro t; refine_lift have ht : Keeps σ t := ?_; ?_; clear_value t; rotate_left; subst t)
    | (intro t; subst t; beta_reduce)
    | lift_lets
    | split
    | (with_reducible apply State.setFld_keeps)
    | (with_reducible apply Keeps.with)
    | (with_reducible apply Keeps.host)
    | (with_reducible apply Keeps.sheets)
    | (with_reducible apply Keeps.slots)
    | (with_reducible apply Keeps.fwd)
    | (with_reducible apply Keeps.fifo))

theorem State.restartP2_keeps {σ : State} (s : State) (h : Keeps σ s) : Keeps σ (State.restartP2 s) := by
  unfold State.restartP2
  repeat' (first
    | (with_reducible assumption)
    | (intro t; refine_lift have ht : Keeps σ t := ?_; ?_; clear_value t; rotate_left; subst t)
    | (intro t; subst t; beta_reduce)
    | lift_lets
    | split
    | (with_reducible apply State.bootStat_keeps)
    | (with_reducible apply State.bootFault_keeps)
    | (with_reducible apply Keeps.with)
    | (with_reducible apply Keeps.host)
    | (with_reducible apply Keeps.sheets)
    | (with_reducible apply Keeps.slots)
    | (with_reducible apply Keeps.fwd)
    | (with_reducible apply Keeps.fifo))

theorem State.requestReset_keeps {σ : State} (src : Nat) (lvl : Nat) (quiet : Bool) (s : State) (h : Keeps σ s) : Keeps σ (State.requestReset src lvl quiet s) := by
  unfold State.requestReset
  repeat' (first
    | (with_reducible assumption)
    | (intro t; refine_lift have ht : Keeps σ t := ?_; ?_; clear_value t; rotate_left; subst t)
    | (intro t; subst t; beta_reduce)
    | lift_lets
    | split
    | (with_reducible apply State.noteCause_keeps)
    | (with_reducible apply State.restartP2_keeps)
    | (with_reducible apply State.equalRequest_keeps)
    | (with_reducible apply State.allOff_keeps)
    | (with_reducible apply State.performReset_keeps)
    | (with_reducible apply Keeps.with)
    | (with_reducible apply Keeps.host)
    | (with_reducible apply Keeps.sheets)
    | (with_reducible apply Keeps.slots)
    | (with_reducible apply Keeps.fwd)
    | (with_reducible apply Keeps.fifo))

theorem State.brownOut_keeps {σ : State} (s : State) (h : Keeps σ s) : Keeps σ (State.brownOut s) := by
  unfold State.brownOut
  repeat' (first
    | (with_reducible assumption)
    | (intro t; refine_lift have ht : Keeps σ t := ?_; ?_; clear_value t; rotate_left; subst t)
    | (intro t; subst t; beta_reduce)
    | lift_lets
    | split
    | (with_reducible apply State.noteCause_keeps)
    | (with_reducible apply State.performReset_keeps)
    | (with_reducible apply Keeps.with)
    | (with_reducible apply Keeps.host)
    | (with_reducible apply Keeps.sheets)
    | (with_reducible apply Keeps.slots)
    | (with_reducible apply Keeps.fwd)
    | (with_reducible apply Keeps.fifo))

theorem State.activate_keeps {σ : State} (img : List Byte) (src : Nat) (s : State) (h : Keeps σ s) : Keeps σ (State.activate img src s) := by
  unfold State.activate
  repeat' (first
    | (with_reducible assumption)
    | (intro t; refine_lift have ht : Keeps σ t := ?_; ?_; clear_value t; rotate_left; subst t)
    | (intro t; subst t; beta_reduce)
    | lift_lets
    | split
    | (with_reducible apply State.setReg_keeps)
    | (with_reducible apply State.setFld_keeps)
    | (with_reducible apply State.setFlag_keeps)
    | (with_reducible apply State.bootStat_keeps)
    | (with_reducible apply State.drivePath_keeps)
    | (with_reducible refine onlyIf_keeps (fun _ _ => ?_) ?_)
    | (with_reducible apply State.arm_keeps)
    | (with_reducible apply Keeps.with)
    | (with_reducible apply Keeps.host)
    | (with_reducible apply Keeps.sheets)
    | (with_reducible apply Keeps.slots)
    | (with_reducible apply Keeps.fwd)
    | (with_reducible apply Keeps.fifo))

theorem State.enterLoader_keeps {σ : State} (e : ImageError) (s : State) (h : Keeps σ s) : Keeps σ (State.enterLoader e s) := by
  unfold State.enterLoader
  repeat' (first
    | (with_reducible assumption)
    | (intro t; refine_lift have ht : Keeps σ t := ?_; ?_; clear_value t; rotate_left; subst t)
    | (intro t; subst t; beta_reduce)
    | lift_lets
    | split
    | (with_reducible apply State.bootFault_keeps)
    | (with_reducible apply State.setFld_keeps)
    | (with_reducible apply State.bootStat_keeps)
    | (with_reducible apply Keeps.with)
    | (with_reducible apply Keeps.host)
    | (with_reducible apply Keeps.sheets)
    | (with_reducible apply Keeps.slots)
    | (with_reducible apply Keeps.fwd)
    | (with_reducible apply Keeps.fifo))

theorem State.askImage_keeps {σ : State} (port : Nat) (s : State) (h : Keeps σ s) : Keeps σ (State.askImage port s) := by
  unfold State.askImage
  repeat' (first
    | (with_reducible assumption)
    | (intro t; refine_lift have ht : Keeps σ t := ?_; ?_; clear_value t; rotate_left; subst t)
    | (intro t; subst t; beta_reduce)
    | lift_lets
    | split
    | (with_reducible apply State.emit_keeps)
    | (with_reducible apply Keeps.with)
    | (with_reducible apply Keeps.host)
    | (with_reducible apply Keeps.sheets)
    | (with_reducible apply Keeps.slots)
    | (with_reducible apply Keeps.fwd)
    | (with_reducible apply Keeps.fifo))

theorem State.showSpace_keeps {σ : State} (s : State) (h : Keeps σ s) : Keeps σ (State.showSpace s) := by
  unfold State.showSpace
  repeat' (first
    | (with_reducible assumption)
    | (intro t; refine_lift have ht : Keeps σ t := ?_; ?_; clear_value t; rotate_left; subst t)
    | (intro t; subst t; beta_reduce)
    | lift_lets
    | split
    | (with_reducible apply State.setFld_keeps)
    | (with_reducible apply Keeps.with)
    | (with_reducible apply Keeps.host)
    | (with_reducible apply Keeps.sheets)
    | (with_reducible apply Keeps.slots)
    | (with_reducible apply Keeps.fwd)
    | (with_reducible apply Keeps.fifo))

theorem State.updBegin_keeps {σ : State} (n : Nat) (link : Bool) (s : State) (h : Keeps σ s) : Keeps σ (State.updBegin n link s) := by
  unfold State.updBegin
  repeat' (first
    | (with_reducible assumption)
    | (intro t; refine_lift have ht : Keeps σ t := ?_; ?_; clear_value t; rotate_left; subst t)
    | (intro t; subst t; beta_reduce)
    | lift_lets
    | split
    | (with_reducible apply State.setFld_keeps)
    | (with_reducible apply State.showSpace_keeps)
    | (with_reducible apply State.flashErase_keeps)
    | (with_reducible apply Keeps.with)
    | (with_reducible apply Keeps.host)
    | (with_reducible apply Keeps.sheets)
    | (with_reducible apply Keeps.slots)
    | (with_reducible apply Keeps.fwd)
    | (with_reducible apply Keeps.fifo))

theorem State.updEnd_keeps {σ : State} (state : Nat) (result : Nat) (s : State) (h : Keeps σ s) : Keeps σ (State.updEnd state result s) := by
  unfold State.updEnd
  repeat' (first
    | (with_reducible assumption)
    | (intro t; refine_lift have ht : Keeps σ t := ?_; ?_; clear_value t; rotate_left; subst t)
    | (intro t; subst t; beta_reduce)
    | lift_lets
    | split
    | (with_reducible apply State.setFld_keeps)
    | (with_reducible apply State.emit_keeps)
    | (with_reducible apply State.sendTo_keeps)
    | (with_reducible apply State.raise_keeps)
    | (with_reducible apply State.sheet_keeps)
    | (with_reducible apply Keeps.with)
    | (with_reducible apply Keeps.host)
    | (with_reducible apply Keeps.sheets)
    | (with_reducible apply Keeps.slots)
    | (with_reducible apply Keeps.fwd)
    | (with_reducible apply Keeps.fifo))

theorem State.updBlock_keeps {σ : State} (b : List Byte) (flashError : Bool) (s : State) (h : Keeps σ s) : Keeps σ (State.updBlock b flashError s) := by
  unfold State.updBlock
  repeat' (first
    | (with_reducible assumption)
    | (intro t; refine_lift have ht : Keeps σ t := ?_; ?_; clear_value t; rotate_left; subst t)
    | (intro t; subst t; beta_reduce)
    | lift_lets
    | split
    | (with_reducible apply State.updEnd_keeps)
    | (with_reducible apply State.takeFree_keeps)
    | (with_reducible apply State.flashErase_keeps)
    | (with_reducible apply State.flashWrite_keeps)
    | (with_reducible apply State.setFld_keeps)
    | (with_reducible apply Keeps.with)
    | (with_reducible apply Keeps.host)
    | (with_reducible apply Keeps.sheets)
    | (with_reducible apply Keeps.slots)
    | (with_reducible apply Keeps.fwd)
    | (with_reducible apply Keeps.fifo)
    | (dsimp only))

theorem State.updTake_keeps {σ : State} (bs : List Byte) (flashError : Bool) (s : State) (h : Keeps σ s) : Keeps σ (State.updTake bs flashError s) := by
  unfold State.updTake
  repeat' (first
    | (with_reducible assumption)
    | split
    | (dsimp only)
    | (with_reducible apply State.updBlock_keeps)
    | (with_reducible apply State.showSpace_keeps)
    | (with_reducible apply Keeps.with)
    | (with_reducible apply Keeps.host)
    | (with_reducible apply Keeps.sheets)
    | (with_reducible apply Keeps.slots)
    | (with_reducible apply Keeps.fwd)
    | (with_reducible apply Keeps.fifo))

theorem State.updCtrlWritten_keeps {σ : State} (w : Word) (s : State) (h : Keeps σ s) : Keeps σ (State.updCtrlWritten w s) := by
  unfold State.updCtrlWritten
  repeat' (first
    | (with_reducible assumption)
    | (intro t; refine_lift have ht : Keeps σ t := ?_; ?_; clear_value t; rotate_left; subst t)
    | (intro t; subst t; beta_reduce)
    | lift_lets
    | split
    | (with_reducible apply State.updBegin_keeps)
    | (with_reducible apply State.updEnd_keeps)
    | (with_reducible apply Keeps.with)
    | (with_reducible apply Keeps.host)
    | (with_reducible apply Keeps.sheets)
    | (with_reducible apply Keeps.slots)
    | (with_reducible apply Keeps.fwd)
    | (with_reducible apply Keeps.fifo))

theorem State.rewriteFlash_keeps {σ : State} (s : State) (h : Keeps σ s) : Keeps σ (State.rewriteFlash s) := by
  unfold State.rewriteFlash
  repeat' (first
    | (with_reducible assumption)
    | (intro t; refine_lift have ht : Keeps σ t := ?_; ?_; clear_value t; rotate_left; subst t)
    | (intro t; subst t; beta_reduce)
    | lift_lets
    | split
    | (with_reducible apply State.updBegin_keeps)
    | (with_reducible apply State.setFld_keeps)
    | (with_reducible apply State.showSpace_keeps)
    | (with_reducible apply Keeps.with)
    | (with_reducible apply Keeps.host)
    | (with_reducible apply Keeps.sheets)
    | (with_reducible apply Keeps.slots)
    | (with_reducible apply Keeps.fwd)
    | (with_reducible apply Keeps.fifo))

theorem State.sampleAddr_keeps {σ : State} (s : State) (h : Keeps σ s) : Keeps σ (State.sampleAddr s) := by
  unfold State.sampleAddr
  repeat' (first
    | (with_reducible assumption)
    | (intro t; refine_lift have ht : Keeps σ t := ?_; ?_; clear_value t; rotate_left; subst t)
    | (intro t; subst t; beta_reduce)
    | lift_lets
    | split
    | (with_reducible apply State.takeFree_keeps)
    | (with_reducible apply State.setFld_keeps)
    | (with_reducible apply Keeps.with)
    | (with_reducible apply Keeps.host)
    | (with_reducible apply Keeps.sheets)
    | (with_reducible apply Keeps.slots)
    | (with_reducible apply Keeps.fwd)
    | (with_reducible apply Keeps.fifo)
    | (dsimp only))

theorem State.beginP4_keeps {σ : State} (s : State) (h : Keeps σ s) : Keeps σ (State.beginP4 s) := by
  unfold State.beginP4
  repeat' (first
    | (with_reducible assumption)
    | (intro t; refine_lift have ht : Keeps σ t := ?_; ?_; clear_value t; rotate_left; subst t)
    | (intro t; subst t; beta_reduce)
    | lift_lets
    | split
    | (with_reducible apply State.setFld_keeps)
    | (with_reducible apply State.bootStat_keeps)
    | (with_reducible apply State.sampleAddr_keeps)
    | (with_reducible apply State.layLink_keeps)
    | (with_reducible apply Keeps.with)
    | (with_reducible apply Keeps.host)
    | (with_reducible apply Keeps.sheets)
    | (with_reducible apply Keeps.slots)
    | (with_reducible apply Keeps.fwd)
    | (with_reducible apply Keeps.fifo))

theorem State.startSheet_keeps {σ : State} (s : State) (h : Keeps σ s) : Keeps σ (State.startSheet s) := by
  unfold State.startSheet
  repeat' (first
    | (with_reducible assumption)
    | (intro t; refine_lift have ht : Keeps σ t := ?_; ?_; clear_value t; rotate_left; subst t)
    | (intro t; subst t; beta_reduce)
    | lift_lets
    | split
    | (with_reducible apply State.sheet_keeps)
    | (with_reducible apply Keeps.with)
    | (with_reducible apply Keeps.host)
    | (with_reducible apply Keeps.sheets)
    | (with_reducible apply Keeps.slots)
    | (with_reducible apply Keeps.fwd)
    | (with_reducible apply Keeps.fifo))

theorem State.faultSheet_keeps {σ : State} (code : Nat) (s : State) (h : Keeps σ s) : Keeps σ (State.faultSheet code s) := by
  unfold State.faultSheet
  repeat' (first
    | (with_reducible assumption)
    | (intro t; refine_lift have ht : Keeps σ t := ?_; ?_; clear_value t; rotate_left; subst t)
    | (intro t; subst t; beta_reduce)
    | lift_lets
    | split
    | (with_reducible apply State.bondSheet_keeps)
    | (with_reducible apply State.sheet_keeps)
    | (with_reducible apply Keeps.with)
    | (with_reducible apply Keeps.host)
    | (with_reducible apply Keeps.sheets)
    | (with_reducible apply Keeps.slots)
    | (with_reducible apply Keeps.fwd)
    | (with_reducible apply Keeps.fifo))

theorem State.recoverySheet_keeps {σ : State} (s : State) (h : Keeps σ s) : Keeps σ (State.recoverySheet s) := by
  unfold State.recoverySheet
  repeat' (first
    | (with_reducible assumption)
    | (intro t; refine_lift have ht : Keeps σ t := ?_; ?_; clear_value t; rotate_left; subst t)
    | (intro t; subst t; beta_reduce)
    | lift_lets
    | split
    | (with_reducible apply State.takeFree_keeps)
    | (with_reducible apply State.sheet_keeps)
    | (with_reducible apply Keeps.with)
    | (with_reducible apply Keeps.host)
    | (with_reducible apply Keeps.sheets)
    | (with_reducible apply Keeps.slots)
    | (with_reducible apply Keeps.fwd)
    | (with_reducible apply Keeps.fifo)
    | (dsimp only))

theorem State.startSheets_keeps {σ : State} (failed : List (Nat × Lane)) (s : State) (h : Keeps σ s) : Keeps σ (State.startSheets failed s) := by
  unfold State.startSheets
  repeat' (first
    | (with_reducible assumption)
    | (intro t; refine_lift have ht : Keeps σ t := ?_; ?_; clear_value t; rotate_left; subst t)
    | (intro t; subst t; beta_reduce)
    | lift_lets
    | split
    | (with_reducible apply State.startSheet_keeps)
    | (with_reducible refine forEach_keeps (fun _ _ _ => ?_) ?_)
    | (with_reducible apply State.faultSheet_keeps)
    | (with_reducible apply State.sheet_keeps)
    | (with_reducible refine onlyIf_keeps (fun _ _ => ?_) ?_)
    | (with_reducible apply State.recoverySheet_keeps)
    | (with_reducible apply State.codeSheets_keeps)
    | (with_reducible apply State.evtSheets_keeps)
    | (with_reducible apply State.retireLane_keeps)
    | (with_reducible apply Keeps.with)
    | (with_reducible apply Keeps.host)
    | (with_reducible apply Keeps.sheets)
    | (with_reducible apply Keeps.slots)
    | (with_reducible apply Keeps.fwd)
    | (with_reducible apply Keeps.fifo))

theorem State.reachIdle_keeps {σ : State} (s : State) (h : Keeps σ s) : Keeps σ (State.reachIdle s) := by
  unfold State.reachIdle
  repeat' (first
    | (with_reducible assumption)
    | (intro t; refine_lift have ht : Keeps σ t := ?_; ?_; clear_value t; rotate_left; subst t)
    | (intro t; subst t; beta_reduce)
    | lift_lets
    | split
    | (with_reducible apply State.regrid_keeps)
    | (with_reducible apply Keeps.with)
    | (with_reducible apply Keeps.host)
    | (with_reducible apply Keeps.sheets)
    | (with_reducible apply Keeps.slots)
    | (with_reducible apply Keeps.fwd)
    | (with_reducible apply Keeps.fifo))

theorem State.restartDone_keeps {σ : State} (lvl : Nat) (copiesOk : Bool) (s : State) (h : Keeps σ s) : Keeps σ (State.restartDone lvl copiesOk s) := by
  unfold State.restartDone
  repeat' (first
    | (with_reducible assumption)
    | (intro t; refine_lift have ht : Keeps σ t := ?_; ?_; clear_value t; rotate_left; subst t)
    | (intro t; subst t; beta_reduce)
    | lift_lets
    | split
    | (with_reducible apply State.startSheet_keeps)
    | (with_reducible apply State.bondRestarted_keeps)
    | (with_reducible apply State.endSession_keeps)
    | (with_reducible apply State.wdgJournal_keeps)
    | (with_reducible apply State.driveInt_keeps)
    | (with_reducible apply State.refillQueue_keeps)
    | (with_reducible refine onlyIf_keeps (fun _ _ => ?_) ?_)
    | (with_reducible apply State.newCycle_keeps)
    | (with_reducible apply State.requestReset_keeps)
    | (with_reducible apply State.bootFault_keeps)
    | (with_reducible apply Keeps.with)
    | (with_reducible apply Keeps.host)
    | (with_reducible apply Keeps.sheets)
    | (with_reducible apply Keeps.slots)
    | (with_reducible apply Keeps.fwd)
    | (with_reducible apply Keeps.fifo))

theorem State.otpEnd_keeps {σ : State} (result : Nat) (s : State) (h : Keeps σ s) : Keeps σ (State.otpEnd result s) := by
  unfold State.otpEnd
  repeat' (first
    | (with_reducible assumption)
    | (intro t; refine_lift have ht : Keeps σ t := ?_; ?_; clear_value t; rotate_left; subst t)
    | (intro t; subst t; beta_reduce)
    | lift_lets
    | split
    | (with_reducible apply State.setFld_keeps)
    | (with_reducible apply State.raise_keeps)
    | (with_reducible apply Keeps.with)
    | (with_reducible apply Keeps.host)
    | (with_reducible apply Keeps.sheets)
    | (with_reducible apply Keeps.slots)
    | (with_reducible apply Keeps.fwd)
    | (with_reducible apply Keeps.fifo))

theorem State.otpCtrlWritten_keeps {σ : State} (w : Word) (s : State) (h : Keeps σ s) : Keeps σ (State.otpCtrlWritten w s) := by
  unfold State.otpCtrlWritten
  repeat' (first
    | (with_reducible assumption)
    | (intro t; refine_lift have ht : Keeps σ t := ?_; ?_; clear_value t; rotate_left; subst t)
    | (intro t; subst t; beta_reduce)
    | lift_lets
    | split
    | (with_reducible apply State.setFld_keeps)
    | (with_reducible apply State.otpEnd_keeps)
    | (with_reducible apply Keeps.with)
    | (with_reducible apply Keeps.host)
    | (with_reducible apply Keeps.sheets)
    | (with_reducible apply Keeps.slots)
    | (with_reducible apply Keeps.fwd)
    | (with_reducible apply Keeps.fifo))

theorem State.raiseLatched_keeps {σ : State} (src : Nat) (stamp : Time) (twice : Bool) (s : State) (h : Keeps σ s) : Keeps σ (State.raiseLatched src stamp twice s) := by
  unfold State.raiseLatched
  repeat' (first
    | (with_reducible assumption)
    | (intro t; refine_lift have ht : Keeps σ t := ?_; ?_; clear_value t; rotate_left; subst t)
    | (intro t; subst t; beta_reduce)
    | lift_lets
    | split
    | (with_reducible refine onlyIf_keeps (fun _ _ => ?_) ?_)
    | (with_reducible apply State.setFld_keeps)
    | (with_reducible apply State.markPend_keeps)
    | (with_reducible apply State.driveInt_keeps)
    | (with_reducible apply State.afterFull_keeps)
    | (with_reducible apply State.offer_keeps)
    | (with_reducible apply Keeps.with)
    | (with_reducible apply Keeps.host)
    | (with_reducible apply Keeps.sheets)
    | (with_reducible apply Keeps.slots)
    | (with_reducible apply Keeps.fwd)
    | (with_reducible apply Keeps.fifo)
    | (dsimp only))

theorem State.raiseCaught_keeps {σ : State} (s : State) (h : Keeps σ s) : Keeps σ (State.raiseCaught s) := by
  unfold State.raiseCaught
  repeat' (first
    | (with_reducible assumption)
    | (intro t; refine_lift have ht : Keeps σ t := ?_; ?_; clear_value t; rotate_left; subst t)
    | (intro t; subst t; beta_reduce)
    | lift_lets
    | split
    | (with_reducible refine forEach_keeps (fun _ _ _ => ?_) ?_)
    | (with_reducible apply State.raiseLatched_keeps)
    | (with_reducible apply Keeps.with)
    | (with_reducible apply Keeps.host)
    | (with_reducible apply Keeps.sheets)
    | (with_reducible apply Keeps.slots)
    | (with_reducible apply Keeps.fwd)
    | (with_reducible apply Keeps.fifo))

theorem State.leaveStandby_keeps {σ : State} (s : State) (h : Keeps σ s) : Keeps σ (State.leaveStandby s) := by
  unfold State.leaveStandby
  repeat' (first
    | (with_reducible assumption)
    | (intro t; refine_lift have ht : Keeps σ t := ?_; ?_; clear_value t; rotate_left; subst t)
    | (intro t; subst t; beta_reduce)
    | lift_lets
    | split
    | (with_reducible apply State.reachIdle_keeps)
    | (with_reducible refine onlyIf_keeps (fun _ _ => ?_) ?_)
    | (with_reducible apply State.newCycle_keeps)
    | (with_reducible apply State.driveInt_keeps)
    | (with_reducible apply State.lateAlarm_keeps)
    | (with_reducible apply State.evtSheets_keeps)
    | (with_reducible apply State.raise_keeps)
    | (with_reducible apply State.raiseCaught_keeps)
    | (with_reducible apply Keeps.with)
    | (with_reducible apply Keeps.host)
    | (with_reducible apply Keeps.sheets)
    | (with_reducible apply Keeps.slots)
    | (with_reducible apply Keeps.fwd)
    | (with_reducible apply Keeps.fifo))

theorem State.pwrCtrlWritten_keeps {σ : State} (w : Word) (s : State) (h : Keeps σ s) : Keeps σ (State.pwrCtrlWritten w s) := by
  unfold State.pwrCtrlWritten
  repeat' (first
    | (with_reducible assumption)
    | (intro t; refine_lift have ht : Keeps σ t := ?_; ?_; clear_value t; rotate_left; subst t)
    | (intro t; subst t; beta_reduce)
    | lift_lets
    | split
    | (with_reducible apply State.setReg_keeps)
    | (with_reducible apply State.flagRaise_keeps)
    | (with_reducible apply Keeps.with)
    | (with_reducible apply Keeps.host)
    | (with_reducible apply Keeps.sheets)
    | (with_reducible apply Keeps.slots)
    | (with_reducible apply Keeps.fwd)
    | (with_reducible apply Keeps.fifo))

end Sys2Proof.Machine
end

