-- ==== Sys2Proof/Laws/KeepsBus.lean ====
section
/-! SUPPORT. The operations of the distribution, the register bus, the host ports and the clocks' ticks keep the queue and the
canonical form (KeepsOps). -/
namespace Sys2Proof.Machine

set_option linter.all false

theorem State.castDist_keeps {σ : State} (type : Nat) (mode : Nat) (target : Nat) (payload : List Byte) (s : State) (h : Keeps σ s) : Keeps σ (State.castDist type mode target payload s) := by
  unfold State.castDist
  repeat' (first
    | (with_reducible assumption)
    | (intro t; refine_lift have ht : Keeps σ t := ?_; ?_; clear_value t; rotate_left; subst t)
    | (intro t; subst t; beta_reduce)
    | lift_lets
    | split
    | (with_reducible apply State.sendTo_keeps)
    | (with_reducible apply State.emit_keeps)
    | (with_reducible apply State.send_keeps)
    | (with_reducible apply Keeps.with)
    | (with_reducible apply Keeps.host)
    | (with_reducible apply Keeps.sheets)
    | (with_reducible apply Keeps.slots)
    | (with_reducible apply Keeps.fwd)
    | (with_reducible apply Keeps.fifo))

theorem State.castNext_keeps {σ : State} (d : Sending) (s : State) (h : Keeps σ s) : Keeps σ (State.castNext d s).1 := by
  unfold State.castNext
  repeat' (first
    | (with_reducible assumption)
    | (intro t; refine_lift have ht : Keeps σ t := ?_; ?_; clear_value t; rotate_left; subst t)
    | (intro t; subst t; beta_reduce)
    | lift_lets
    | split
    | (with_reducible apply State.castDist_keeps)
    | (with_reducible apply Keeps.with)
    | (with_reducible apply Keeps.host)
    | (with_reducible apply Keeps.sheets)
    | (with_reducible apply Keeps.slots)
    | (with_reducible apply Keeps.fwd)
    | (with_reducible apply Keeps.fifo)
    | (dsimp only))

theorem State.beginCollect_keeps {σ : State} (s : State) (h : Keeps σ s) : Keeps σ (State.beginCollect s) := by
  unfold State.beginCollect
  repeat' (first
    | (with_reducible assumption)
    | (intro t; refine_lift have ht : Keeps σ t := ?_; ?_; clear_value t; rotate_left; subst t)
    | (intro t; subst t; beta_reduce)
    | lift_lets
    | split
    | (with_reducible apply State.setFld_keeps)
    | (with_reducible apply Keeps.with)
    | (with_reducible apply Keeps.host)
    | (with_reducible apply Keeps.sheets)
    | (with_reducible apply Keeps.slots)
    | (with_reducible apply Keeps.fwd)
    | (with_reducible apply Keeps.fifo))

theorem State.distFrames_keeps {σ : State} (s : State) (h : Keeps σ s) : Keeps σ (State.distFrames s) := by
  unfold State.distFrames
  repeat' (first
    | (with_reducible assumption)
    | (intro t; refine_lift have ht : Keeps σ t := ?_; ?_; clear_value t; rotate_left; subst t)
    | (intro t; subst t; beta_reduce)
    | lift_lets
    | split
    | (with_reducible apply State.castNext_keeps)
    | (with_reducible apply State.beginCollect_keeps)
    | (with_reducible apply Keeps.with)
    | (with_reducible apply Keeps.host)
    | (with_reducible apply Keeps.sheets)
    | (with_reducible apply Keeps.slots)
    | (with_reducible apply Keeps.fwd)
    | (with_reducible apply Keeps.fifo)
    | (dsimp only))

theorem State.castStart_keeps {σ : State} (image : Bool) (apply : Bool) (store : Bool) (mode : Nat) (target : Nat) (bs : List Byte) (s : State) (h : Keeps σ s) : Keeps σ (State.castStart image apply store mode target bs s) := by
  unfold State.castStart
  repeat' (first
    | (with_reducible assumption)
    | (intro t; refine_lift have ht : Keeps σ t := ?_; ?_; clear_value t; rotate_left; subst t)
    | (intro t; subst t; beta_reduce)
    | lift_lets
    | split
    | (with_reducible apply State.castDist_keeps)
    | (with_reducible apply Keeps.with)
    | (with_reducible apply Keeps.host)
    | (with_reducible apply Keeps.sheets)
    | (with_reducible apply Keeps.slots)
    | (with_reducible apply Keeps.fwd)
    | (with_reducible apply Keeps.fifo))

theorem State.distCtrlWritten_keeps {σ : State} (w : Word) (s : State) (h : Keeps σ s) : Keeps σ (State.distCtrlWritten w s) := by
  unfold State.distCtrlWritten
  repeat' (first
    | (with_reducible assumption)
    | (intro t; refine_lift have ht : Keeps σ t := ?_; ?_; clear_value t; rotate_left; subst t)
    | (intro t; subst t; beta_reduce)
    | lift_lets
    | split
    | (with_reducible apply State.setFld_keeps)
    | (with_reducible apply State.castStart_keeps)
    | (with_reducible apply State.setReg_keeps)
    | (with_reducible apply State.beginCollect_keeps)
    | (with_reducible apply Keeps.with)
    | (with_reducible apply Keeps.host)
    | (with_reducible apply Keeps.sheets)
    | (with_reducible apply Keeps.slots)
    | (with_reducible apply Keeps.fwd)
    | (with_reducible apply Keeps.fifo))

theorem State.startBond_keeps {σ : State} (d : Dist) (s : State) (h : Keeps σ s) : Keeps σ (State.startBond d s) := by
  unfold State.startBond
  repeat' (first
    | (with_reducible assumption)
    | (intro t; refine_lift have ht : Keeps σ t := ?_; ?_; clear_value t; rotate_left; subst t)
    | (intro t; subst t; beta_reduce)
    | lift_lets
    | split
    | (with_reducible apply State.sendTo_keeps)
    | (with_reducible apply State.bondBusy_keeps)
    | (with_reducible apply State.setFld_keeps)
    | (with_reducible apply State.rejectBond_keeps)
    | (with_reducible apply Keeps.with)
    | (with_reducible apply Keeps.host)
    | (with_reducible apply Keeps.sheets)
    | (with_reducible apply Keeps.slots)
    | (with_reducible apply Keeps.fwd)
    | (with_reducible apply Keeps.fifo))

theorem State.bondArrived_keeps {σ : State} (d : Dist) (s : State) (h : Keeps σ s) : Keeps σ (State.bondArrived d s) := by
  unfold State.bondArrived
  repeat' (first
    | (with_reducible assumption)
    | (intro t; refine_lift have ht : Keeps σ t := ?_; ?_; clear_value t; rotate_left; subst t)
    | (intro t; subst t; beta_reduce)
    | lift_lets
    | split
    | (with_reducible apply State.raise_keeps)
    | (with_reducible apply State.setFld_keeps)
    | (with_reducible apply State.requestRelay_keeps)
    | (with_reducible apply State.answerDist_keeps)
    | (with_reducible apply Keeps.with)
    | (with_reducible apply Keeps.host)
    | (with_reducible apply Keeps.sheets)
    | (with_reducible apply Keeps.slots)
    | (with_reducible apply Keeps.fwd)
    | (with_reducible apply Keeps.fifo))

theorem State.told_keeps {σ : State} (s : State) (b : Option Bool) (h : Keeps σ s) : Keeps σ (State.told s b).2 := by
  unfold State.told
  repeat' (first
    | (with_reducible assumption)
    | (intro t; refine_lift have ht : Keeps σ t := ?_; ?_; clear_value t; rotate_left; subst t)
    | (intro t; subst t; beta_reduce)
    | lift_lets
    | split
    | (with_reducible apply State.takeFree_keeps)
    | (with_reducible apply Keeps.with)
    | (with_reducible apply Keeps.host)
    | (with_reducible apply Keeps.sheets)
    | (with_reducible apply Keeps.slots)
    | (with_reducible apply Keeps.fwd)
    | (with_reducible apply Keeps.fifo)
    | (dsimp only))

theorem State.toldPc_keeps {σ : State} (s : State) (pc : Option (Word × Word × Word × Word)) (h : Keeps σ s) : Keeps σ (State.toldPc s pc).2 := by
  unfold State.toldPc
  repeat' (first
    | (with_reducible assumption)
    | (intro t; refine_lift have ht : Keeps σ t := ?_; ?_; clear_value t; rotate_left; subst t)
    | (intro t; subst t; beta_reduce)
    | lift_lets
    | split
    | (with_reducible apply State.takeFree_keeps)
    | (with_reducible apply Keeps.with)
    | (with_reducible apply Keeps.host)
    | (with_reducible apply Keeps.sheets)
    | (with_reducible apply Keeps.slots)
    | (with_reducible apply Keeps.fwd)
    | (with_reducible apply Keeps.fifo)
    | (dsimp only))

theorem State.couchSend_keeps {σ : State} (id : Nat) (t : Time) (s : State) (h : Keeps σ s) : Keeps σ (State.couchSend id t s) := by
  unfold State.couchSend
  repeat' (first
    | (with_reducible assumption)
    | split
    | (dsimp only)
    | (with_reducible apply State.setReg_keeps)
    | (with_reducible apply State.send_keeps)
    | (with_reducible apply State.couchDone_keeps)
    | (with_reducible apply Keeps.with)
    | (with_reducible apply Keeps.host)
    | (with_reducible apply Keeps.sheets)
    | (with_reducible apply Keeps.slots)
    | (with_reducible apply Keeps.fwd)
    | (with_reducible apply Keeps.fifo))

theorem State.couchGo_keeps {σ : State} (id : Nat) (s : State) (h : Keeps σ s) : Keeps σ (State.couchGo id s) := by
  unfold State.couchGo
  repeat' (first
    | (with_reducible assumption)
    | (intro t; refine_lift have ht : Keeps σ t := ?_; ?_; clear_value t; rotate_left; subst t)
    | (intro t; subst t; beta_reduce)
    | lift_lets
    | split
    | (with_reducible apply State.couchResult_keeps)
    | (with_reducible apply State.couchRequest_keeps)
    | (with_reducible apply State.couchSend_keeps)
    | (with_reducible apply Keeps.with)
    | (with_reducible apply Keeps.host)
    | (with_reducible apply Keeps.sheets)
    | (with_reducible apply Keeps.slots)
    | (with_reducible apply Keeps.fwd)
    | (with_reducible apply Keeps.fifo)
    | (dsimp only))

theorem State.couchFree_keeps {σ : State} (banks : Nat) (s : State) (h : Keeps σ s) : Keeps σ (State.couchFree banks s) := by
  unfold State.couchFree
  repeat' (first
    | (with_reducible assumption)
    | (intro t; refine_lift have ht : Keeps σ t := ?_; ?_; clear_value t; rotate_left; subst t)
    | (intro t; subst t; beta_reduce)
    | lift_lets
    | split
    | (with_reducible refine forEach_keeps (fun _ _ _ => ?_) ?_)
    | (with_reducible apply State.freeBank_keeps)
    | (with_reducible apply State.send_keeps)
    | (with_reducible apply Keeps.with)
    | (with_reducible apply Keeps.host)
    | (with_reducible apply Keeps.sheets)
    | (with_reducible apply Keeps.slots)
    | (with_reducible apply Keeps.fwd)
    | (with_reducible apply Keeps.fifo))

theorem State.brkWritten_keeps {σ : State} (p : Path) (a : Nat) (w : Word) (s : State) (h : Keeps σ s) : Keeps σ (State.brkWritten p a w s) := by
  unfold State.brkWritten
  repeat' (first
    | (with_reducible assumption)
    | (intro t; refine_lift have ht : Keeps σ t := ?_; ?_; clear_value t; rotate_left; subst t)
    | (intro t; subst t; beta_reduce)
    | lift_lets
    | split
    | (with_reducible apply State.writeTarget_keeps)
    | (with_reducible apply State.stage_keeps)
    | (with_reducible refine onlyIf_keeps (fun _ _ => ?_) ?_)
    | (with_reducible apply State.commitCoefs_keeps)
    | (with_reducible apply State.brkCntClr_keeps)
    | (with_reducible apply State.updBrick_keeps)
    | (with_reducible apply State.takeLimits_keeps)
    | (with_reducible apply State.lcntClr_keeps)
    | (with_reducible apply State.retryRst_keeps)
    | (with_reducible apply Keeps.with)
    | (with_reducible apply Keeps.host)
    | (with_reducible apply Keeps.sheets)
    | (with_reducible apply Keeps.slots)
    | (with_reducible apply Keeps.fwd)
    | (with_reducible apply Keeps.fifo))

theorem State.seqWritten_keeps {σ : State} (a : Nat) (w : Word) (side : Side) (s : State) (h : Keeps σ s) : Keeps σ (State.seqWritten a w side s) := by
  unfold State.seqWritten
  repeat' (first
    | (with_reducible assumption)
    | (intro t; refine_lift have ht : Keeps σ t := ?_; ?_; clear_value t; rotate_left; subst t)
    | (intro t; subst t; beta_reduce)
    | lift_lets
    | split
    | (with_reducible apply State.told_keeps)
    | (with_reducible apply State.faultClr_keeps)
    | (with_reducible refine onlyIf_keeps (fun _ _ => ?_) ?_)
    | (with_reducible apply State.lineClr_keeps)
    | (with_reducible apply State.seqCntClr_keeps)
    | (with_reducible apply State.requestRejoin_keeps)
    | (with_reducible apply State.seqCmd_keeps)
    | (with_reducible apply State.applyMargins_keeps)
    | (with_reducible apply Keeps.with)
    | (with_reducible apply Keeps.host)
    | (with_reducible apply Keeps.sheets)
    | (with_reducible apply Keeps.slots)
    | (with_reducible apply Keeps.fwd)
    | (with_reducible apply Keeps.fifo)
    | (dsimp only))

theorem State.msrWritten_keeps {σ : State} (a : Nat) (old : Word) (w : Word) (s : State) (h : Keeps σ s) : Keeps σ (State.msrWritten a old w s) := by
  unfold State.msrWritten
  repeat' (first
    | (with_reducible assumption)
    | (intro t; refine_lift have ht : Keeps σ t := ?_; ?_; clear_value t; rotate_left; subst t)
    | (intro t; subst t; beta_reduce)
    | lift_lets
    | split
    | (with_reducible refine onlyIf_keeps (fun _ _ => ?_) ?_)
    | (with_reducible apply State.owGo_keeps)
    | (with_reducible apply State.owAbort_keeps)
    | (with_reducible apply State.msrCntClr_keeps)
    | (with_reducible apply State.tdacWritten_keeps)
    | (with_reducible apply State.dmaCfgWritten_keeps)
    | (with_reducible apply Keeps.with)
    | (with_reducible apply Keeps.host)
    | (with_reducible apply Keeps.sheets)
    | (with_reducible apply Keeps.slots)
    | (with_reducible apply Keeps.fwd)
    | (with_reducible apply Keeps.fifo))

theorem State.mtrWritten_keeps {σ : State} (a : Nat) (w : Word) (s : State) (h : Keeps σ s) : Keeps σ (State.mtrWritten a w s) := by
  unfold State.mtrWritten
  repeat' (first
    | (with_reducible assumption)
    | (intro t; refine_lift have ht : Keeps σ t := ?_; ?_; clear_value t; rotate_left; subst t)
    | (intro t; subst t; beta_reduce)
    | lift_lets
    | split
    | (with_reducible apply State.clearExtremes_keeps)
    | (with_reducible apply State.clearHist_keeps)
    | (with_reducible apply State.couchGo_keeps)
    | (with_reducible apply State.couchFree_keeps)
    | (with_reducible apply Keeps.with)
    | (with_reducible apply Keeps.host)
    | (with_reducible apply Keeps.sheets)
    | (with_reducible apply Keeps.slots)
    | (with_reducible apply Keeps.fwd)
    | (with_reducible apply Keeps.fifo))

theorem State.lnkWritten_keeps {σ : State} (a : Nat) (w : Word) (s : State) (h : Keeps σ s) : Keeps σ (State.lnkWritten a w s) := by
  unfold State.lnkWritten
  repeat' (first
    | (with_reducible assumption)
    | (intro t; refine_lift have ht : Keeps σ t := ?_; ?_; clear_value t; rotate_left; subst t)
    | (intro t; subst t; beta_reduce)
    | lift_lets
    | split
    | (with_reducible refine onlyIf_keeps (fun _ _ => ?_) ?_)
    | (with_reducible apply State.startEnum_keeps)
    | (with_reducible apply State.lnkCntClr_keeps)
    | (with_reducible apply State.lnkFwdPop_keeps)
    | (with_reducible apply State.raGo_keeps)
    | (with_reducible apply State.raFree_keeps)
    | (with_reducible apply State.distCtrlWritten_keeps)
    | (with_reducible apply Keeps.with)
    | (with_reducible apply Keeps.host)
    | (with_reducible apply Keeps.sheets)
    | (with_reducible apply Keeps.slots)
    | (with_reducible apply Keeps.fwd)
    | (with_reducible apply Keeps.fifo))

theorem State.icuWritten_keeps {σ : State} (a : Nat) (w : Word) (s : State) (h : Keeps σ s) : Keeps σ (State.icuWritten a w s) := by
  unfold State.icuWritten
  repeat' (first
    | (with_reducible assumption)
    | (intro t; refine_lift have ht : Keeps σ t := ?_; ?_; clear_value t; rotate_left; subst t)
    | (intro t; subst t; beta_reduce)
    | lift_lets
    | split
    | (with_reducible apply State.ringDoorbell_keeps)
    | (with_reducible apply State.driveInt_keeps)
    | (with_reducible refine onlyIf_keeps (fun _ _ => ?_) ?_)
    | (with_reducible apply State.icuPopHead_keeps)
    | (with_reducible apply State.holdWritten_keeps)
    | (with_reducible apply State.srcWritten_keeps)
    | (with_reducible apply Keeps.with)
    | (with_reducible apply Keeps.host)
    | (with_reducible apply Keeps.sheets)
    | (with_reducible apply Keeps.slots)
    | (with_reducible apply Keeps.fwd)
    | (with_reducible apply Keeps.fifo))

theorem State.wdgWritten_keeps {σ : State} (p : Path) (a : Nat) (w : Word) (side : Side) (s : State) (h : Keeps σ s) : Keeps σ (State.wdgWritten p a w side s) := by
  unfold State.wdgWritten
  repeat' (first
    | (with_reducible assumption)
    | (intro t; refine_lift have ht : Keeps σ t := ?_; ?_; clear_value t; rotate_left; subst t)
    | (intro t; subst t; beta_reduce)
    | lift_lets
    | split
    | (with_reducible refine onlyIf_keeps (fun _ _ => ?_) ?_)
    | (with_reducible apply State.arm_keeps)
    | (with_reducible apply State.evidClr_keeps)
    | (with_reducible apply State.toldPc_keeps)
    | (with_reducible apply State.checkin_keeps)
    | (with_reducible apply Keeps.with)
    | (with_reducible apply Keeps.host)
    | (with_reducible apply Keeps.sheets)
    | (with_reducible apply Keeps.slots)
    | (with_reducible apply Keeps.fwd)
    | (with_reducible apply Keeps.fifo)
    | (dsimp only))

theorem State.bkdWritten_keeps {σ : State} (a : Nat) (w : Word) (s : State) (h : Keeps σ s) : Keeps σ (State.bkdWritten a w s) := by
  unfold State.bkdWritten
  repeat' (first
    | (with_reducible assumption)
    | (intro t; refine_lift have ht : Keeps σ t := ?_; ?_; clear_value t; rotate_left; subst t)
    | (intro t; subst t; beta_reduce)
    | lift_lets
    | split
    | (with_reducible apply State.commitWritten_keeps)
    | (with_reducible refine onlyIf_keeps (fun _ _ => ?_) ?_)
    | (with_reducible apply State.setFld_keeps)
    | (with_reducible apply State.evtPop_keeps)
    | (with_reducible apply Keeps.with)
    | (with_reducible apply Keeps.host)
    | (with_reducible apply Keeps.sheets)
    | (with_reducible apply Keeps.slots)
    | (with_reducible apply Keeps.fwd)
    | (with_reducible apply Keeps.fifo))

theorem State.hstWritten_keeps {σ : State} (a : Nat) (w : Word) (s : State) (h : Keeps σ s) : Keeps σ (State.hstWritten a w s) := by
  unfold State.hstWritten
  repeat' (first
    | (with_reducible assumption)
    | (intro t; refine_lift have ht : Keeps σ t := ?_; ?_; clear_value t; rotate_left; subst t)
    | (intro t; subst t; beta_reduce)
    | lift_lets
    | split
    | (with_reducible apply State.setReg_keeps)
    | (with_reducible apply Keeps.with)
    | (with_reducible apply Keeps.host)
    | (with_reducible apply Keeps.sheets)
    | (with_reducible apply Keeps.slots)
    | (with_reducible apply Keeps.fwd)
    | (with_reducible apply Keeps.fifo))

theorem State.written_keeps {σ : State} (p : Path) (a : Nat) (old : Word) (w : Word) (side : Side) (s : State) (h : Keeps σ s) : Keeps σ (State.written p a old w side s) := by
  unfold State.written
  repeat' (first
    | (with_reducible assumption)
    | (intro t; refine_lift have ht : Keeps σ t := ?_; ?_; clear_value t; rotate_left; subst t)
    | (intro t; subst t; beta_reduce)
    | lift_lets
    | split
    | (with_reducible apply State.pwrCtrlWritten_keeps)
    | (with_reducible apply State.requestReset_keeps)
    | (with_reducible apply State.updCtrlWritten_keeps)
    | (with_reducible apply State.told_keeps)
    | (with_reducible apply State.updTake_keeps)
    | (with_reducible apply State.otpCtrlWritten_keeps)
    | (with_reducible refine onlyIf_keeps (fun _ _ => ?_) ?_)
    | (with_reducible apply State.setGo_keeps)
    | (with_reducible apply State.bkdWritten_keeps)
    | (with_reducible apply State.bndCtrlWritten_keeps)
    | (with_reducible apply State.bndDataWritten_keeps)
    | (with_reducible apply State.brkWritten_keeps)
    | (with_reducible apply State.clearRecords_keeps)
    | (with_reducible apply State.vcpCntClr_keeps)
    | (with_reducible apply State.seqWritten_keeps)
    | (with_reducible apply State.msrWritten_keeps)
    | (with_reducible apply State.baseRst_keeps)
    | (with_reducible apply State.sweepReq_keeps)
    | (with_reducible apply State.chargeStop_keeps)
    | (with_reducible apply State.chargeStart_keeps)
    | (with_reducible apply State.ppCtrlWritten_keeps)
    | (with_reducible apply State.mtrWritten_keeps)
    | (with_reducible apply State.lnkWritten_keeps)
    | (with_reducible apply State.icuWritten_keeps)
    | (with_reducible apply State.wdgWritten_keeps)
    | (with_reducible apply State.hstWritten_keeps)
    | (with_reducible apply Keeps.with)
    | (with_reducible apply Keeps.host)
    | (with_reducible apply Keeps.sheets)
    | (with_reducible apply Keeps.slots)
    | (with_reducible apply Keeps.fwd)
    | (with_reducible apply Keeps.fifo)
    | (dsimp only))

theorem State.regWrite_keeps {σ : State} (p : Path) (a : Nat) (w : Word) (side : Side) (s : State) (h : Keeps σ s) : Keeps σ (State.regWrite p a w side s) := by
  unfold State.regWrite
  repeat' (first
    | (with_reducible assumption)
    | (intro t; refine_lift have ht : Keeps σ t := ?_; ?_; clear_value t; rotate_left; subst t)
    | (intro t; subst t; beta_reduce)
    | lift_lets
    | split
    | (with_reducible apply State.cfgErr_keeps)
    | (with_reducible apply State.jnlLoad_keeps)
    | (with_reducible apply State.written_keeps)
    | (with_reducible apply State.setReg_keeps)
    | (with_reducible apply Keeps.with)
    | (with_reducible apply Keeps.host)
    | (with_reducible apply Keeps.sheets)
    | (with_reducible apply Keeps.slots)
    | (with_reducible apply Keeps.fwd)
    | (with_reducible apply Keeps.fifo))

theorem State.busWrite_keeps {σ : State} (p : Path) (adr : Word) (w : Word) (side : Side) (s : State) (h : Keeps σ s) : Keeps σ (State.busWrite p adr w side s) := by
  unfold State.busWrite
  repeat' (first
    | (with_reducible assumption)
    | (intro t; refine_lift have ht : Keeps σ t := ?_; ?_; clear_value t; rotate_left; subst t)
    | (intro t; subst t; beta_reduce)
    | lift_lets
    | split
    | (with_reducible apply State.busErr_keeps)
    | (with_reducible apply State.regWrite_keeps)
    | (with_reducible apply Keeps.with)
    | (with_reducible apply Keeps.host)
    | (with_reducible apply Keeps.sheets)
    | (with_reducible apply Keeps.slots)
    | (with_reducible apply Keeps.fwd)
    | (with_reducible apply Keeps.fifo))

theorem State.freezePage_keeps {σ : State} (p : Path) (a : Nat) (s : State) (h : Keeps σ s) : Keeps σ (State.freezePage p a s) := by
  unfold State.freezePage
  repeat' (first
    | (with_reducible assumption)
    | (intro t; refine_lift have ht : Keeps σ t := ?_; ?_; clear_value t; rotate_left; subst t)
    | (intro t; subst t; beta_reduce)
    | lift_lets
    | split
    | (with_reducible refine forEach_keeps (fun _ _ _ => ?_) ?_)
    | (with_reducible apply State.freeze_keeps)
    | (with_reducible apply Keeps.with)
    | (with_reducible apply Keeps.host)
    | (with_reducible apply Keeps.sheets)
    | (with_reducible apply Keeps.slots)
    | (with_reducible apply Keeps.fwd)
    | (with_reducible apply Keeps.fifo))

theorem State.gpioIn_keeps {σ : State} (s : State) (h : Keeps σ s) : Keeps σ (State.gpioIn s).2 := by
  unfold State.gpioIn
  repeat' (first
    | (with_reducible assumption)
    | (intro t; refine_lift have ht : Keeps σ t := ?_; ?_; clear_value t; rotate_left; subst t)
    | (intro t; subst t; beta_reduce)
    | lift_lets
    | split
    | (with_reducible apply State.takeFree_keeps)
    | (with_reducible apply Keeps.with)
    | (with_reducible apply Keeps.host)
    | (with_reducible apply Keeps.sheets)
    | (with_reducible apply Keeps.slots)
    | (with_reducible apply Keeps.fwd)
    | (with_reducible apply Keeps.fifo)
    | (dsimp only))

theorem State.regRead_keeps {σ : State} (p : Path) (a : Nat) (s : State) (h : Keeps σ s) : Keeps σ (State.regRead p a s).2 := by
  unfold State.regRead
  repeat' (first
    | (with_reducible assumption)
    | (intro t; refine_lift have ht : Keeps σ t := ?_; ?_; clear_value t; rotate_left; subst t)
    | (intro t; subst t; beta_reduce)
    | lift_lets
    | split
    | (with_reducible apply State.rtcTimeRead_keeps)
    | (with_reducible apply State.rtcStatRead_keeps)
    | (with_reducible apply State.gpioIn_keeps)
    | (with_reducible apply State.freezePage_keeps)
    | (with_reducible apply Keeps.with)
    | (with_reducible apply Keeps.host)
    | (with_reducible apply Keeps.sheets)
    | (with_reducible apply Keeps.slots)
    | (with_reducible apply Keeps.fwd)
    | (with_reducible apply Keeps.fifo)
    | (dsimp only))

theorem State.pointRead_keeps {σ : State} (p : Path) (i : Nat) (s : State) (h : Keeps σ s) : Keeps σ (State.pointRead p i s).2 := by
  unfold State.pointRead
  repeat' (first
    | (with_reducible assumption)
    | (intro t; refine_lift have ht : Keeps σ t := ?_; ?_; clear_value t; rotate_left; subst t)
    | (intro t; subst t; beta_reduce)
    | lift_lets
    | split
    | (with_reducible apply State.freezePage_keeps)
    | (with_reducible apply Keeps.with)
    | (with_reducible apply Keeps.host)
    | (with_reducible apply Keeps.sheets)
    | (with_reducible apply Keeps.slots)
    | (with_reducible apply Keeps.fwd)
    | (with_reducible apply Keeps.fifo)
    | (dsimp only))

theorem State.busRead_keeps {σ : State} (p : Path) (adr : Word) (s : State) (h : Keeps σ s) : Keeps σ (State.busRead p adr s).2 := by
  unfold State.busRead
  repeat' (first
    | (with_reducible assumption)
    | (intro t; refine_lift have ht : Keeps σ t := ?_; ?_; clear_value t; rotate_left; subst t)
    | (intro t; subst t; beta_reduce)
    | lift_lets
    | split
    | (with_reducible apply State.busErr_keeps)
    | (with_reducible apply State.regRead_keeps)
    | (with_reducible apply State.pointRead_keeps)
    | (with_reducible apply Keeps.with)
    | (with_reducible apply Keeps.host)
    | (with_reducible apply Keeps.sheets)
    | (with_reducible apply Keeps.slots)
    | (with_reducible apply Keeps.fwd)
    | (with_reducible apply Keeps.fifo)
    | (dsimp only))

theorem State.portWrite_keeps {σ : State} (p : Path) (stop : Bool) (l : List Word) (adr : Word) (e : Bool) (s : State)
    (h : Keeps σ s) : Keeps σ (State.portWrite p stop l adr e s).2.2 := by
  induction l generalizing adr e s with
  | nil => exact h
  | cons w r ih =>
    unfold State.portWrite
    split
    · exact h
    · exact ih _ _ _ (State.busWrite_keeps _ _ _ _ _ h)

theorem State.portRead_keeps {σ : State} (p : Path) (n : Nat) (adr : Word) (e : Bool) (l : List Word) (s : State)
    (h : Keeps σ s) : Keeps σ (State.portRead p n adr e l s).2.2 := by
  induction n generalizing adr e l s with
  | zero => exact h
  | succ n ih => exact ih _ _ _ _ (State.busRead_keeps _ _ _ h)

theorem State.frameError_keeps {σ : State} (p : Path) (adr : Word) (s : State) (h : Keeps σ s) : Keeps σ (State.frameError p adr s) := by
  unfold State.frameError
  repeat' (first
    | (with_reducible assumption)
    | (intro t; refine_lift have ht : Keeps σ t := ?_; ?_; clear_value t; rotate_left; subst t)
    | (intro t; subst t; beta_reduce)
    | lift_lets
    | split
    | (with_reducible apply State.busErr_keeps)
    | (with_reducible apply State.flagRaise_keeps)
    | (with_reducible apply State.bump_keeps)
    | (with_reducible apply Keeps.with)
    | (with_reducible apply Keeps.host)
    | (with_reducible apply Keeps.sheets)
    | (with_reducible apply Keeps.slots)
    | (with_reducible apply Keeps.fwd)
    | (with_reducible apply Keeps.fifo))

theorem State.spiEnd_keeps {σ : State} (status : Byte) (dout : List Word) (bus : Bool) (late : Bool) (frame : Bool) (s : State) (h : Keeps σ s) : Keeps σ (State.spiEnd status dout bus late frame s) := by
  unfold State.spiEnd
  repeat' (first
    | (with_reducible assumption)
    | (intro t; refine_lift have ht : Keeps σ t := ?_; ?_; clear_value t; rotate_left; subst t)
    | (intro t; subst t; beta_reduce)
    | lift_lets
    | split
    | (with_reducible apply Keeps.with)
    | (with_reducible apply Keeps.host)
    | (with_reducible apply Keeps.sheets)
    | (with_reducible apply Keeps.slots)
    | (with_reducible apply Keeps.fwd)
    | (with_reducible apply Keeps.fifo))

theorem State.i2cReadFrom_keeps {σ : State} (address : Word) (count : Nat) (s : State) (h : Keeps σ s) : Keeps σ (State.i2cReadFrom address count s) := by
  unfold State.i2cReadFrom
  repeat' (first
    | (with_reducible assumption)
    | (intro t; refine_lift have ht : Keeps σ t := ?_; ?_; clear_value t; rotate_left; subst t)
    | (intro t; subst t; beta_reduce)
    | lift_lets
    | split
    | (with_reducible apply State.portRead_keeps)
    | (with_reducible apply Keeps.with)
    | (with_reducible apply Keeps.host)
    | (with_reducible apply Keeps.sheets)
    | (with_reducible apply Keeps.slots)
    | (with_reducible apply Keeps.fwd)
    | (with_reducible apply Keeps.fifo)
    | (dsimp only))

theorem State.answerRemote_keeps {σ : State} (source : Nat) (tag : Nat) (result : Nat) (data : List Word) (s : State) (h : Keeps σ s) : Keeps σ (State.answerRemote source tag result data s) := by
  unfold State.answerRemote
  repeat' (first
    | (with_reducible assumption)
    | (intro t; refine_lift have ht : Keeps σ t := ?_; ?_; clear_value t; rotate_left; subst t)
    | (intro t; subst t; beta_reduce)
    | lift_lets
    | split
    | (with_reducible apply State.sendTo_keeps)
    | (with_reducible apply Keeps.with)
    | (with_reducible apply Keeps.host)
    | (with_reducible apply Keeps.sheets)
    | (with_reducible apply Keeps.slots)
    | (with_reducible apply Keeps.fwd)
    | (with_reducible apply Keeps.fifo))

theorem State.answerBusy_keeps {σ : State} (source : Nat) (tag : Nat) (s : State) (h : Keeps σ s) : Keeps σ (State.answerBusy source tag s) := by
  unfold State.answerBusy
  repeat' (first
    | (with_reducible assumption)
    | (intro t; refine_lift have ht : Keeps σ t := ?_; ?_; clear_value t; rotate_left; subst t)
    | (intro t; subst t; beta_reduce)
    | lift_lets
    | split
    | (with_reducible apply State.raise_keeps)
    | (with_reducible apply State.bump_keeps)
    | (with_reducible apply State.answerRemote_keeps)
    | (with_reducible apply Keeps.with)
    | (with_reducible apply Keeps.host)
    | (with_reducible apply Keeps.sheets)
    | (with_reducible apply Keeps.slots)
    | (with_reducible apply Keeps.fwd)
    | (with_reducible apply Keeps.fifo))

theorem State.writeRow_keeps {σ : State} (path : Path) (address : Word) (data : Word) (side : Side) (s : State) (h : Keeps σ s) : Keeps σ (State.writeRow path address data side s) := by
  unfold State.writeRow
  repeat' (first
    | (with_reducible assumption)
    | (intro t; refine_lift have ht : Keeps σ t := ?_; ?_; clear_value t; rotate_left; subst t)
    | (intro t; subst t; beta_reduce)
    | lift_lets
    | split
    | (with_reducible apply State.busWrite_keeps)
    | (with_reducible apply State.spiEnd_keeps)
    | (with_reducible apply Keeps.with)
    | (with_reducible apply Keeps.host)
    | (with_reducible apply Keeps.sheets)
    | (with_reducible apply Keeps.slots)
    | (with_reducible apply Keeps.fwd)
    | (with_reducible apply Keeps.fifo))

theorem State.readRow_keeps {σ : State} (path : Path) (address : Word) (s : State) (h : Keeps σ s) : Keeps σ (State.readRow path address s) := by
  unfold State.readRow
  repeat' (first
    | (with_reducible assumption)
    | (intro t; refine_lift have ht : Keeps σ t := ?_; ?_; clear_value t; rotate_left; subst t)
    | (intro t; subst t; beta_reduce)
    | lift_lets
    | split
    | (with_reducible apply State.portRead_keeps)
    | (with_reducible apply State.spiEnd_keeps)
    | (with_reducible apply State.i2cReadFrom_keeps)
    | (with_reducible apply State.busRead_keeps)
    | (with_reducible apply Keeps.with)
    | (with_reducible apply Keeps.host)
    | (with_reducible apply Keeps.sheets)
    | (with_reducible apply Keeps.slots)
    | (with_reducible apply Keeps.fwd)
    | (with_reducible apply Keeps.fifo)
    | (dsimp only))

theorem State.coreWork_keeps {σ : State} (s : State) (h : Keeps σ s) : Keeps σ (State.coreWork s) := by
  unfold State.coreWork
  repeat' (first
    | (with_reducible assumption)
    | (intro t; refine_lift have ht : Keeps σ t := ?_; ?_; clear_value t; rotate_left; subst t)
    | (intro t; subst t; beta_reduce)
    | lift_lets
    | split
    | (with_reducible apply State.distFrames_keeps)
    | (with_reducible apply State.walkTimeout_keeps)
    | (with_reducible apply State.floorComplete_keeps)
    | (with_reducible apply State.lineReport_keeps)
    | (with_reducible apply State.heldPulse_keeps)
    | (with_reducible apply State.settleStep_keeps)
    | (with_reducible apply State.emitEdges_keeps)
    | (with_reducible apply Keeps.with)
    | (with_reducible apply Keeps.host)
    | (with_reducible apply Keeps.sheets)
    | (with_reducible apply Keeps.slots)
    | (with_reducible apply Keeps.fwd)
    | (with_reducible apply Keeps.fifo))

theorem State.coreTick_keeps {σ : State} (byRc : Bool) (s : State) (h : Keeps σ s) : Keeps σ (State.coreTick byRc s) := by
  unfold State.coreTick
  repeat' (first
    | (with_reducible assumption)
    | (intro t; refine_lift have ht : Keeps σ t := ?_; ?_; clear_value t; rotate_left; subst t)
    | (intro t; subst t; beta_reduce)
    | lift_lets
    | split
    | (with_reducible refine onlyIf_keeps (fun _ _ => ?_) ?_)
    | (with_reducible apply State.sweepLapse_keeps)
    | (with_reducible apply State.coreWork_keeps)
    | (with_reducible apply Keeps.with)
    | (with_reducible apply Keeps.host)
    | (with_reducible apply Keeps.sheets)
    | (with_reducible apply Keeps.slots)
    | (with_reducible apply Keeps.fwd)
    | (with_reducible apply Keeps.fifo))

theorem State.wdgCycle_keeps {σ : State} (s : State) (h : Keeps σ s) : Keeps σ (State.wdgCycle s) := by
  unfold State.wdgCycle
  repeat' (first
    | (with_reducible assumption)
    | (intro t; refine_lift have ht : Keeps σ t := ?_; ?_; clear_value t; rotate_left; subst t)
    | (intro t; subst t; beta_reduce)
    | lift_lets
    | split
    | (with_reducible apply State.wdgTick_keeps)
    | (with_reducible apply Keeps.with)
    | (with_reducible apply Keeps.host)
    | (with_reducible apply Keeps.sheets)
    | (with_reducible apply Keeps.slots)
    | (with_reducible apply Keeps.fwd)
    | (with_reducible apply Keeps.fifo))

theorem State.rcTick_keeps {σ : State} (s : State) (h : Keeps σ s) : Keeps σ (State.rcTick s) := by
  unfold State.rcTick
  repeat' (first
    | (with_reducible assumption)
    | (intro t; refine_lift have ht : Keeps σ t := ?_; ?_; clear_value t; rotate_left; subst t)
    | (intro t; subst t; beta_reduce)
    | lift_lets
    | split
    | (with_reducible refine onlyIf_keeps (fun _ _ => ?_) ?_)
    | (with_reducible apply State.sweepLapse_keeps)
    | (with_reducible apply State.wdgCycle_keeps)
    | (with_reducible apply State.brownOut_keeps)
    | (with_reducible apply State.coreTick_keeps)
    | (with_reducible apply Keeps.with)
    | (with_reducible apply Keeps.host)
    | (with_reducible apply Keeps.sheets)
    | (with_reducible apply Keeps.slots)
    | (with_reducible apply Keeps.fwd)
    | (with_reducible apply Keeps.fifo))

theorem State.tick_keeps {σ : State} (s : State) (h : Keeps σ s) : Keeps σ (State.tick s) := by
  unfold State.tick
  repeat' (first
    | (with_reducible assumption)
    | (intro t; refine_lift have ht : Keeps σ t := ?_; ?_; clear_value t; rotate_left; subst t)
    | (intro t; subst t; beta_reduce)
    | lift_lets
    | split
    | (with_reducible apply State.bakTick_keeps)
    | (with_reducible apply State.rcTick_keeps)
    | (with_reducible apply State.coreTick_keeps)
    | (with_reducible apply Keeps.with)
    | (with_reducible apply Keeps.host)
    | (with_reducible apply Keeps.sheets)
    | (with_reducible apply Keeps.slots)
    | (with_reducible apply Keeps.fwd)
    | (with_reducible apply Keeps.fifo))

end Sys2Proof.Machine
end

