-- ==== Sys2Proof/WellFormed.lean ====
section
/-! DEFINITION. Well-formed commands: the ranges the rows give their operands (a brick number, a rail, a list's length). A
meaning is total all the same; a command that is not well-formed names nothing the device has. -/
namespace Sys2Proof

/-- Upsets of a coefficient store (R192) name one of its 22 words or its check value. -/
def inStore {w : Nat} (l : List (Nat × BitVec w)) : Bool := l.all (fun p => decide (p.1 ≤ 22))

/-- The MODE of a frame is one that its TYPE is sent in (R406). -/
def FrameHead.inModes (f : FrameHead) (modes : List Nat) : Bool := modes.contains f.mode.toNat

/-- A command whose operands lie in the ranges the spec gives them. -/
def Instr.wellFormed : Instr → Bool
  | .wakePulse => true
  | .por => true
  | .bor => true
  | .inputCollapse => true
  | .resetNAssert => true
  | .resetNRelease _ => true
  | .swrst _ => true
  | .allOffTimelineEnd => true
  | .p0SupplyDone _ _ => true
  | .p1RegulatorsDone => true
  | .p1RegulatorTimeout => true
  | .p1RetryEnd => true
  | .p2OptionsDone => true
  | .p2Restart source => decide (2 ≤ source) && decide (source ≤ 8)
  | .p2RestartWindowEnd => true
  | .refQualified _ => true
  | .pllLock => true
  | .lockAttemptTimeout => true
  | .refWindowEnd _ => true
  | .refReturn _ => true
  | .refLostTimeout => true
  | .lossOfLock => true
  | .p4ImageDone => true
  | .p5BondDone => true
  | .p6ServicesDone failedLanes => failedLanes.all (fun f => decide (f.1 < 16))
  | .l2RestartDone _ => true
  | .l3RestartDone _ => true
  | .otpRead _ _ => true
  | .otpProgram _ _ _ _ => true
  | .otpCommandDone failedBit => failedBit.all (fun k => decide (k < 39))
  | .otpConditionLost _ => true
  | .loaderImgRequest => true
  | .loaderImgTimeout => true
  | .updStart _ _ => true
  | .updAbort _ _ => true
  | .updData _ _ _ => true
  | .updateCheckDone _ => true
  | .bondStoreCmd _ _ => true
  | .bondApply _ _ _ => true
  | .bondAbort _ => true
  | .bndData _ _ => true
  | .bondReceiveTimeout => true
  | .bondValidationDone => true
  | .bondTakesEffect => true
  | .bondStoreDone _ => true
  | .setGo _ => true
  | .stmTimeLoRead _ => true
  | .syncHoldoverTimeout => true
  | .vbakFirstRise => true
  | .vbakLoss => true
  | .calOverflow => true
  | .rtcTimeRead _ _ => true
  | .rtcFreezeTimeout _ => true
  | .rtcStatRead _ => true
  | .commitBinary _ _ => true
  | .commitCalendar _ _ => true
  | .commitApply => true
  | .oscStopDetect => true
  | .vbakSample _ => true
  | .alarmFire => true
  | .evtEdgeAccept input _ => decide (input < 4)
  | .evtPop _ => true
  | .evtOvfClr _ => true
  | .brickUpdate n _ _ => decide (n < 16)
  | .settleTimeout n => decide (n < 16)
  | .brkTargetWrite _ n _ => decide (n < 16)
  | .coefCommit _ n => decide (n < 16)
  | .brkCntClr _ n => decide (n < 16)
  | .laneScrub n dataA dataB codeA codeB => decide (n < 16) && inStore dataA && inStore dataB && inStore codeA && inStore codeB
  | .quickTestDone n _ _ => decide (n < 16)
  | .fullTestDone n _ _ => decide (n < 16)
  | .laneRejoin n => decide (n < 16)
  | .supervisorLaneMismatch => true
  | .fastLimitTrip cs => decide (cs.brick < 16)
  | .blankingEnd n _ => decide (n < 16)
  | .retryTimerExpiry _ => true
  | .running1sExpiry n => decide (n < 16)
  | .retryRst _ n => decide (n < 16)
  | .lcntClr _ n => decide (n < 16)
  | .courseStepUp => true
  | .courseStepDown => true
  | .courseFloor => true
  | .courseInvalidLow => true
  | .railOn => true
  | .railOff => true
  | .waitPg => true
  | .waitPgTimeout => true
  | .delay => true
  | .delayExpiry => true
  | .pinSet => true
  | .setRef => true
  | .moduleClose => true
  | .moduleOpen => true
  | .cascInRise => true
  | .cascTimeout => true
  | .seqTarget _ _ => true
  | .seqFloor _ _ => true
  | .courseMasterStep _ => true
  | .courseLineIdle => true
  | .confirm course _ => course.head.inModes [2]
  | .courseAns _ _ _ _ _ => true
  | .confirmAnswerTimeout => true
  | .confirmMissingTimeout => true
  | .trunkStep course _ _ _ => course.head.inModes [4]
  | .headDone _ => true
  | .headReportTimeout => true
  | .rejoin _ => true
  | .faultClr _ _ => true
  | .lineClr _ => true
  | .seqCntClr _ => true
  | .railViolation rail _ => decide (rail < 21)
  | .pgDelayExpiry rail => decide (rail < 21)
  | .marginPinChange _ _ => true
  | .supplyLow _ => true
  | .supplyGood _ => true
  | .supply _ _ => true
  | .stepTimeout => true
  | .linkFloor => true
  | .floorDone _ => true
  | .lineState _ _ => true
  | .alloff _ source _ => source.inModes [2, 3]
  | .journalDrain => true
  | .sheetWritten _ => true
  | .headSearchDone => true
  | .jnlRdSlot _ _ => true
  | .jnlRdLoaded _ => true
  | .spiWrite _ _ _ => true
  | .spiRead _ count late _ => decide (late.length ≤ count + 1)
  | .spiReservedCmd command => command != 2 && command != 3
  | .i2cWrite _ _ _ => true
  | .i2cRead _ _ _ => true
  | .i2cCurrentRead _ => true
  | .i2cSclTimeout => true
  | .hstCntClr _ => true
  | .registerWrite _ _ _ => true
  | .doorbellWrite _ _ => true
  | .icuSrcWrite _ _ _ => true
  | .icuPop _ _ => true
  | .holdoffExpiry g => decide (g < 32)
  | .icuHoldWrite _ g _ => decide (g < 32)
  | .intNGapEnd => true
  | .standbyRequest _ => true
  | .standbyEnter => true
  | .wakeLatchEdge latch => decide (latch < 13)
  | .irqEdge n _ => decide (n < 8)
  | .gpioEdge n _ => decide (n < 16)
  | .wakeRise => true
  | .arm _ => true
  | .evidClr _ => true
  | .checkin _ _ _ _ => true
  | .wdgWindowClose _ => true
  | .wdoPulseEnd => true
  | .cascInFall => true
  | .serviceProcessorFault => true
  | .syncStart => true
  | .syncReq _ _ => true
  | .syncRsp => true
  | .syncFup _ _ _ => true
  | .syncFupTimeout => true
  | .vcpShortFrame => true
  | .vcpCrcFail => true
  | .setV _ _ _ => true
  | .setI _ _ _ => true
  | .setSlew _ _ _ => true
  | .poll _ _ _ => true
  | .read _ _ _ => true
  | .vcpReservedCmd command _ _ _ => decide (command.toNat = 0) || decide (6 ≤ command.toNat)
  | .vcpRecClr _ => true
  | .vcpCntClr _ => true
  | .vcpLastLoRead _ => true
  | .periodicTrigger _ => true
  | .extTrigger _ => true
  | .triggerFallbackTimeout => true
  | .conversionDone _ => true
  | .cellBlockDone => true
  | .cellTsLoRead _ => true
  | .hkTick => true
  | .hkCaptureTimeout _ => true
  | .hkRoundDone => true
  | .dmaCfgWrite _ _ _ => true
  | .dmaWptrRead _ _ => true
  | .tdacWrite _ _ => true
  | .owGo _ => true
  | .owAbort _ => true
  | .owWindowEnd => true
  | .owTapGapEnd => true
  | .msrCntClr _ => true
  | .sensorFlagBroken sensor => decide (sensor < 13)
  | .sensorUnflag sensor => decide (sensor < 13)
  | .privBrokenTimeout sensor => decide (sensor < 13)
  | .thermalShutdown sensor => decide (sensor < 13)
  | .throttleEval => true
  | .thmLockClear => true
  | .sweepStart => true
  | .sweepReq _ => true
  | .windowLeadinStart => true
  | .windowMeasureStart => true
  | .windowEnd _ => true
  | .restPoint => true
  | .baseRst _ => true
  | .celRestoreDone => true
  | .celZrRead _ _ _ => true
  | .balSecondBoundary => true
  | .balOnTimeEnd => true
  | .sourceQualified _ => true
  | .sourceLost _ => true
  | .sourceOv _ => true
  | .handoverDone => true
  | .longQualEnd _ => true
  | .ppPrefWrite _ _ _ => true
  | .probeT50Expiry => true
  | .probeTimeout => true
  | .prechargeOffTimer => true
  | .servicePress => true
  | .serviceRelease => true
  | .serviceHeld20s => true
  | .switchCycleTimer => true
  | .shipModeSheetWritten => true
  | .start _ => true
  | .stop _ => true
  | .chargeEval => true
  | .searchDwellEnd => true
  | .searchRepeat => true
  | .sessionTmax => true
  | .reamLatch => true
  | .meterRestoreDone => true
  | .histSecond => true
  | .midnightStats => true
  | .statClr _ => true
  | .pointWrite _ _ _ => true
  | .coherentPageRead _ _ => true
  | .couchGo _ _ => true
  | .couchFreeWrite _ _ => true
  | .couchReq id _ => id.head.inModes [3]
  | .couchAns _ _ _ => true
  | .couchFree ids => ids.head.inModes [3] && decide (ids.body.length ≤ 4)
  | .couchAnswerTimeout => true
  | .couchInstant => true
  | .couchHeld _ => true
  | .portUp _ => true
  | .portDown _ => true
  | .ringCheckSend _ => true
  | .ringCheck port _ => port.inModes [1]
  | .ringCheckTimeout _ => true
  | .ringState _ _ _ _ => true
  | .helloSend => true
  | .hello serial => serial.head.inModes [2]
  | .enumAutoStart => true
  | .enum _ => true
  | .claim trunk serial _ => serial.head.inModes [if trunk then 4 else 2]
  | .claimTimeout => true
  | .walk _ _ _ => true
  | .walkReport _ _ _ _ => true
  | .assign trunk entries => entries.head.inModes [if trunk then 4 else 2] && decide (entries.body.length ≤ 25)
  | .raRead _ _ _ => true
  | .raWrite _ _ _ => true
  | .raBlockRead _ _ _ _ => true
  | .rdReq _ _ _ count _ => decide (1 ≤ count.toNat) && decide (count.toNat ≤ 63)
  | .wrReq _ _ _ _ _ => true
  | .raRsp _ _ data => decide (data.length ≤ 63)
  | .raTimeout _ => true
  | .raFree _ _ => true
  | .distGo _ _ => true
  | .distAbort _ _ => true
  | .distStart source _ _ _ _ => source.inModes [0, 1, 2, 3]
  | .distData offset bytes _ => offset.head.inModes [0, 1, 2, 3] && decide (1 ≤ bytes.length) && decide (bytes.length ≤ 252)
  | .distResult _ _ => true
  | .distCollectEnd => true
  | .imgReq _ => true
  | .doorbell source => source.head.inModes [0, 2, 3]
  | .irqFwd _ _ _ => true
  | .reset _ _ => true
  | .fwdPop _ => true
  | .lnkCntClr _ => true
  | .linkFrameError _ => true

end Sys2Proof
end

