-- ==== Sys2Proof/Tests/Slice0.lean ====
section
/-! SUPPORT. The tests: ill-formed commands refused, worked examples of the spec, and for every statement that has premises a
state and operands that meet them. -/
namespace Sys2Proof.Tests
open Sys2Proof Sys2Proof.Machine

set_option maxRecDepth 20000
set_option linter.all false

/-! ### States the tests run on -/

/-- Fields set one after another. -/
def puts (l : List (Fld × Nat)) (s : State) : State := l.foldl (fun t p => t.setFld p.1 p.2) s

/-- A device in Idle without a bond, and one with given tiles in force. -/
def seq0 : Seq := { Seq.initial with idleFrom := some 0 }
def up : State := { State.reset with
  seq := seq0
  boot := { Boot.initial with power := .active, phase := 7, stat := some 0 }
  clk := { Clk.initial with onRc := false, seedFor := 0 }
  jnl := { Jnl.initial with searching := false }
  pins := { Pins.initial with gates := .high, faultN := .high, gpioReleased := false, hostReleased := false, pre := true, io := true, core := true, ana := true }
  regs := (State.reset.setFld STM_STAT_PLL_LOCKED 1).regs }
def laid (ts : List (Nat × Nat × List Byte)) : State := { up with
  bnd := { Bnd.initial with bytes := [1], tiles := ts.map (fun t => ⟨t.1, t.2.1, 0, 0, t.2.2⟩) } }
def upFld (l : List (Fld × Nat)) : State := puts l up
/-- `n` zero bytes with some set. -/
def zeros (n : Nat) (l : List (Nat × Byte)) : List Byte := l.foldl (fun b p => b.set p.1 p.2) (List.replicate n 0)
def atCore (n : Nat) (s : State) : State := { s with clk := { s.clk with core := n } }
def atRc (n : Nat) (s : State) : State := { s with clk := { s.clk with rc := n } }
def atTime (n : Nat) (s : State) : State := { s with clk := { s.clk with acc := BitVec.ofNat 128 (n * 2 ^ 52) } }

/-! Power, reset, boot -/
def dormant : State := { up with boot := { up.boot with power := .dormant } }
def heldLow : State := { up with boot := { up.boot with power := .starting, phase := 1, hold := .resetN, resetNLow := true } }
def fallen : State := { upFld [(SEQ_FAULT_ACTIVE, 1)] with seq := { seq0 with timeline := true, out := true } }
def supL (n : Nat) : State := { up with boot := { up.boot with rstMap := BitVec.ofNat 32 (n * 1024) } }
def cycling : State := { up with cpm := { up.cpm with switchAt := some 0 } }
def shipping : State := { up with cpm := { up.cpm with ship := true } }
def inP (k : Nat) : State := { atRc 200000 up with boot := { up.boot with power := .starting, phase := k } }
def p1Held : State := { inP 1 with boot := { (inP 1).boot with hold := .p1Off } }
def p2Window : State := { atRc 2000000 up with boot := { up.boot with p2Since := some 0, p2Restarts := 3 } }
def restarting (k : Nat) : State := { up with boot := { up.boot with restart := some k } }
def warm : State := upFld [(STM_STAT_TBAND, 3)]
def otpCmd (p : Bool) (d : Word) : State := { up with boot := { up.boot with otpCmd := some ⟨p, 330, d⟩ } }
def loader : State := { up with boot := { up.boot with power := .starting, phase := 4, hold := .loader } }
def loaderUp : State := puts [(LNK_STAT_EN, 15), (LNK_STAT_UP, 3)] loader
def loading : State := { puts [(RPC_UPD_STAT_STATE, 1)] (atCore 50000000 loader) with boot := { loader.boot with updLink := true } }
def updating : State := upFld [(RPC_UPD_STAT_STATE, 1), (RPC_UPD_STAT_SPACE, 1024)]
def updChecked : State := { updating with boot := { up.boot with updCheck := true } }

def fallenWaiting : State := { fallen with boot := { fallen.boot with waiting := some (1, 4) } }
def hotReset : State := { fallen with thm := { fallen.thm with resetDue := true } }
/-- The least bond: its identity tile alone. -/
def leastBond : List Byte :=
  [1, 0, 1, 0, 64, 0, 0, 0, 0, 0, 0, 0, 0, 0, 0, 0, 52, 18, 0, 0, 80, 72, 0, 0, 1, 0, 0, 0, 84, 0, 0, 0, 227, 176, 196, 66,
   152, 252, 28, 20, 154, 251, 244, 200, 153, 111, 185, 36, 39, 174, 65, 228, 100, 155, 147, 76, 164, 149, 153, 27, 120, 82,
   184, 85] ++ List.replicate 16 0 ++ [63, 25, 67, 31]
def slotWith (b : List Byte) : State := { inP 5 with
  flash := setCells flashBlank 0x210000 ([66, 78, 68, 83, 7, 0, 0, 0, 84, 0, 0, 0, 108, 150, 151, 177] ++ leBytes 4 0)
    (setCells flashBlank 0x200000 b []) }
def bondInSlot : State := slotWith leastBond
def badInSlot : State := slotWith (leastBond.set 0 2)

/-! Clocks, bond, backup domain -/
def attempting : State := { atRc 100000 up with clk := { (atRc 100000 up).clk with attemptAt := some 0 } }
def qualified : State := { attempting with clk := { attempting.clk with qualifiedAt := some 5, onRc := true } }
def later : State := atRc 1000 up
def refGone : State := { puts [(STM_STAT_REF_LOST, 1), (SEQ_STAT_DEV_COURSE, 1)] (atRc 2000000 up) with clk := { (atRc 2000000 up).clk with refLostAt := some 0 } }
def holding : State := puts [(STM_STAT_TSTATE, 2)] (atCore 120000000 up)
/-- A member of an enumerated string of four: position 1, both ports up. -/
def onString (role : Nat) : State := upFld [(LNK_ADDR_UNADDR, 0), (LNK_ADDR_ADDR, if role = 0 then 1 else 0), (LNK_ADDR_NDEV, 4), (LNK_ADDR_NSTR, 1), (LNK_STAT_ROLE, role), (LNK_STAT_EN, 15), (LNK_STAT_UP, 15)]
def member : State := onString 0
def head : State := onString 1
def keystone : State := onString 2
def following : State := puts [(STM_STAT_TSTATE, 1)] member
def syncedWith (n : Nat) : State := { (member.setFld STM_STAT_TSTATE n) with lnk := { member.lnk with syncT1 := some 0, syncT4 := some (0, 0) } }
def syncing : State := { following with lnk := { following.lnk with syncT1 := some 0 } }
def syncedEighth : State := { (syncedWith 1) with clk := { (syncedWith 1).clk with goodRun := 7 } }
def synced : State := { atCore 300000 following with lnk := { following.lnk with syncT1 := some 0, syncT4 := some (0, 0) } }
def bonding : State := { upFld [(BND_STAT_STATE, 1)] with bnd := { Bnd.initial with src := 0 } }
def bondingLate : State := atCore 240000000 bonding
def validating : State := { upFld [(BND_STAT_STATE, 2)] with bnd := { Bnd.initial with staging := [1, 2, 3] } }
def accepted : State := { upFld [(BND_STAT_STATE, 3)] with bnd := { Bnd.initial with accepted := some ([], []) } }
def storing : State := { upFld [(BND_STAT_STATE, 4)] with bnd := { Bnd.initial with storing := some ([1, 2], false) } }
def unpowered : State := { up with bkd := { up.bkd with powered := false } }
def year3000 : State := { up with bkd := { up.bkd with sec := 0x758F18880 } }
def frozen : State := { up with bkd := { up.bkd with freezes := [(0, 0)] }, clk := { up.clk with bak := 100 } }
def dated : State := { up with regs := ((up.setReg RTC_SET_TIME 0).setReg RTC_SET_DATE 0x20000101).regs }
def committed : State := { up with bkd := { up.bkd with commit := some (77, 0) }, clk := { up.clk with bak := 5 } }

/-! Bricks and courses -/
/-- Mortar, and a leader 0 with follower 1 laid in one converter. -/
def bricks (l : List (Fld × Nat)) : State := { puts ([(BRK_COMP_CMD_MAX_LIMIT 0, 100), (BRK_CFG_ROLE 0, 1), (BRK_CFG_ROLE 1, 2), (BRK_CFG_LEADER 1, 0), (BRK_STAT_STATE 0, 1), (BRK_STAT_STATE 1, 1), (VCP_GRP_GROUP 0, 7)] ++ l) up with
  bnd := (laid [(3, 0, zeros 96 [(5, 4)]), (4, 0, zeros 96 [(0x20, 128)]), (7, 0, zeros 12 [(1, 1), (8, 3), (9, 0x10)])]).bnd }
def withBrick (n : Nat) (f : Brick → Brick) (s : State) : State := { s with brk := s.brk.set n (f Brick.fresh) }
def leading : State := bricks []
def follower : State := bricks [(BRK_STAT_STATE 0, 3), (BRK_STAT_STATE 1, 3)]
def leaderOn : State := { withBrick 0 (fun b => { b with updates := 1, next := 40 }) (bricks [(BRK_STAT_STATE 0, 3), (BRK_PERIOD_PERIOD 0, 20000)]) with
  bnd := (laid [(3, 0, zeros 96 [(5, 4)]), (4, 0, zeros 96 [(0x20, 128)])]).bnd }
def heldLeader : State := bricks [(BRK_STAT_STATE 0, 3), (BRK_LANE_STAT_HOLD 0, 1)]
def secondaryOn : State := puts [(BRK_CFG_ROLE 1, 3)] (bricks [(BRK_STAT_STATE 0, 3), (BRK_STAT_STATE 1, 3)])
def running : State := bricks [(BRK_STAT_STATE 0, 3)]
def settling : State := withBrick 0 (fun b => { b with settleAt := some 0 }) running
def ranLong : State := withBrick 0 (fun b => { b with runSince := some 0 }) (atCore 240000000 running)
def coefRunning : State := bricks [(BRK_STAT_STATE 0, 3)]
def heldBoth : State := withBrick 0 (fun b => { b with holdBoth := true }) (puts [(BRK_LANE_STAT_LANE_A 0, 1), (BRK_LANE_STAT_LANE_B 0, 1)] heldLeader)
def scrubbing : State := withBrick 0 (fun b => { b with copyA := { b.copyA with store := List.replicate 22 5, check := storeCheck (List.replicate 22 5) } }) (atCore 240000 (bricks [(BRK_LANE_STAT_LANE_B 0, 3)]))
def testing : State := withBrick 0 (fun b => { b with testing := [.b] }) (bricks [(BRK_LANE_STAT_LANE_B 0, 2)])
def rejoiningLane : State := withBrick 0 (fun b => { b with rejoin := some .b }) (bricks [(BRK_STAT_STATE 0, 3), (BRK_LANE_STAT_LANE_A 0, 1), (BRK_LANE_STAT_LANE_B 0, 2)])
def heldOne : State := bricks [(BRK_STAT_STATE 0, 3), (BRK_LANE_STAT_HOLD 0, 1), (BRK_LANE_STAT_LANE_A 0, 2), (BRK_LANE_STAT_LANE_B 0, 1), (BRK_LANE_STAT_DRIVE 0, 1)]
def testingThird : State := withBrick 0 (fun b => { b with testing := [.b], transB := [0, 0] }) (bricks [(BRK_LANE_STAT_LANE_B 0, 2)])
/-- A converter whose bricks have phase-current channels, under an I²t limit. -/
def sensed (role limit : Nat) : State :=
  let f (b : Brick) : Brick := { b with updates := 1, next := 40, i2tIn := BitVec.ofNat 32 limit }
  let s := bricks [(BRK_STAT_STATE 0, 3), (BRK_STAT_STATE 1, 3), (BRK_PERIOD_PERIOD 0, 20000), (BRK_I2T_LIMIT_LIMIT (role - 1), limit)]
  { withBrick (role - 1) f s with
    bnd := (laid [(3, 0, zeros 96 [(5, 4)]), (4, 0, zeros 96 [(0x20, 128), (0x21, 129)]), (7, 0, zeros 16 [(1, 2), (8, 3), (9, 0x10), (12, 4), (13, 0x11)])]).bnd }
def fast : State := running
def retrying : State := { upFld [(SEQ_FAULT_ACTIVE, 1)] with seq := { seq0 with retryAt := some 0 }, jnl := { up.jnl with onlyShorts := true } }
def vcp : State := puts [(VCP_STAT_EN, 1)] running
def vcpPending : State := puts [(recFld 0 3, 5)] vcp
/-- A course tile with one action of opcode `op` in each direction. -/
def courseTile (c : Nat) (op : Byte) : Nat × Nat × List Byte := (6, c, zeros 20 [(0, 2), (4, op), (8, 5), (12, op), (13, 2)])
/-- A solo device of HEAD_OK = 1. -/
def soloed (l : List (Fld × Nat)) : State := { upFld l with bnd := (laid [(0xB, 0, zeros 8 [(0, 1)]), courseTile 1 4, courseTile 2 4]).bnd }
def stepping : State := soloed []
def course5 : State := soloed [(SEQ_STAT_DEV_COURSE, 5)]
/-- A run with an action of opcode `op` on `target` at its head. -/
def doing (op target arg : Nat) (s : State) : State := { s with seq := { s.seq with kind := .step, todo := [⟨op, false, target, arg⟩, ⟨4, false, 0, 7⟩] } }
def outDevice : State := { up with seq := { seq0 with out := true } }
def waitingPg : State := { up with seq := { seq0 with kind := .step, wait := .pg 0 0 } }
def delaying : State := { up with seq := { seq0 with kind := .step, todo := [⟨4, false, 0, 100⟩, ⟨4, false, 0, 7⟩], wait := .delay 0 } }
def cascWaiting : State := { atCore 1000000000000 up with seq := { seq0 with kind := .step, todo := [⟨1, true, 0, 0⟩] } }
def solo5 : State := soloed [(SEQ_STAT_STR_COURSE, 5)]
def soloUp : State := soloed [(SEQ_CMD_TARGET, 1)]
def lineLow : State := { member with pins := { member.pins with courseHigh := false }, seq := { member.seq with tookHold := true } }
def headConfirming : State := { head with seq := { head.seq with headStep := some (1, false), confirmEnd := some 0 } }
def confirmLate : State := { member with seq := { member.seq with confirmBy := some 0 } }
def strung (n : Nat) (s : State) : State := puts [(LNK_ADDR_NSTR, n)] s
def keystoneLate : State := { strung 2 (atCore 1000000000000 keystone) with seq := { keystone.seq with stepping := true, trunkAt := some 0 } }
def keystoneStep : State := { strung 3 keystone with seq := { keystone.seq with stepping := true } }
def rejoinable : State := { soloed [(SEQ_STAT_STR_COURSE, 1)] with seq := { seq0 with out := true } }
/-- Course 2, with an action of both courses to do on the way down. -/
def floorBare : State := { course5 with bnd := (laid [(0xB, 0, zeros 8 [(0, 1)])]).bnd }
def floorAt2 : State := { soloed [(SEQ_STAT_DEV_COURSE, 2)] with bnd := (laid [(0xB, 0, zeros 8 [(0, 1)]), courseTile 1 4, courseTile 2 4]).bnd }
def stuckLow : State := { atCore 1000000000000 head with pins := { up.pins with courseHigh := false }, seq := { seq0 with pulseAt := some 0 } }
def memberOut : State := { member with seq := { member.seq with out := true } }
def memberUp : State := { puts [(SEQ_STAT_DEV_COURSE, 1)] member with bnd := (laid [courseTile 1 4]).bnd }
def headFloor : State := { head with seq := { head.seq with floorGiven := true, kind := .floor } }
def violating : State := { up with bnd := (laid [(5, 0, zeros 32 [(1, 1)])]).bnd, seq := { seq0 with viol := [(0, (true, 4, false))] } }
def pgDue : State := { upFld [(SEQ_ON_RAIL, 1)] with seq := { seq0 with pgRun := [(0, 0)] } }
def lowSupply : State := upFld [(SEQ_STAT_SUP_LOW, 1)]

/-! Measurement, cells, charging -/
def gridDue : State := atTime 10 up
def extTrig : State := { up with bnd := (laid [(7, 0, zeros 8 [(0, 17)]), (0xD, 0, zeros 80 [(0, 5)])]).bnd }
def extTrigLate : State := atCore 240000 extTrig
def flight (c : Conv) : InFlight := ⟨c, 1, 0, 0, 0, 0, ⟨0, 0, 0, 0, 0, 0⟩, 5, false⟩
def converting (adc : Nat) (c : Conv) : State := { atCore 100 up with msr := { Msr.initial with pipe := Msr.initial.pipe.set adc [flight c] } }
def blockReady : State := { up with msr := { Msr.initial with rounds := 1 } }
def hkDue : State := { up with msr := { Msr.initial with hkNext := some 0 } }
def hkWaiting : State := { atCore 240000 up with msr := { Msr.initial with hkWait := some 0 } }
def hkFull : State := { up with msr := { Msr.initial with hkBusy := true, hkVals := (List.range 32).map (fun i => (i, 1000)) } }
/-- Four cells. -/
def celled (l : List (Nat × Byte)) (f : List (Fld × Nat)) : State := { upFld f with
  bnd := (laid [(8, 0, zeros 16 ([(0, 4), (0xC, 0x10), (0xD, 0x27)] ++ l)), (0xE, 3, zeros 24 [(4, 60), (8, 1)])]).bnd }
def streamSet : State := upFld [(MSR_DMA_GEOM_BLKLEN 0, 64), (MSR_DMA_GEOM_NBLK 0, 2), (MSR_DMA_STAMP_ADDR 0, 0x1000)]
def owReady : State := celled [] [(MSR_OW_CFG_FIRST, 0), (MSR_OW_CFG_LAST, 4), (MSR_OW_CFG_WINDOW, 63)]
def owAs (p : OwPhase) : State := { celled [] [(MSR_OW_STAT_BUSY, 1)] with msr := { Msr.initial with ow := p, owLast := 4, owRounds := List.replicate 8 [0, 0, 0, 0] } }
def sensors (c : Sensor) (l : List (Fld × Nat)) : State := { upFld l with
  bnd := (laid [(9, 0, zeros 96 [(0, 3)])]).bnd, thm := { Thm.initial with sensors := c :: List.replicate 12 ⟨0, 0, 0, 0, 0, 0⟩, evalDue := true } }
def sensing : State := sensors ⟨3, 0, 0, 0, 0, 0⟩ []
def sensorBack : State := sensors ⟨0, 0, 100, 0, 0, 0⟩ [(THM_T_BROKEN 0, 1)]
def privBroken : State := sensors ⟨0, 0, 0, 6000, 0, 0⟩ [(THM_T_BROKEN 0, 1)]
def tooHot : State := sensors ⟨0, 0, 0, 0, 3, 0⟩ []
def hotSensor : State := sensors ⟨0, 0, 0, 0, 0, 0⟩ [(THM_T_T 0, 100)]
def thermLocked : State := { upFld [(THM_STAT_THM_LOCK, 1)] with thm := { Thm.initial with sensors := List.replicate 13 ⟨0, 0, 0, 0, 0, 6000⟩ } }
def sweepDue : State := atTime 120 (celled [(2, 1), (4, 1)] [])
def win0 : Window := ⟨15, 0, false, true, 0, 0, 0, [], 0, [], (0, 0)⟩
def sweeping : State := { atTime 1000 (celled [(2, 1), (4, 1)] [(CEL_STAT_SWEEP, 1)]) with cel := { Cel.initial with todo := [3] } }
def windowAs (m : Bool) : State := { atTime 1000000 (celled [(2, 1), (4, 1)] [(CEL_STAT_SWEEP, 1), (CEL_STAT_WIN, 1)]) with cel := { Cel.initial with window := some { win0 with measuring := m } } }
def windowNoScale : State := { (windowAs true) with bnd := (laid [(8, 0, zeros 16 [(0, 4), (2, 1), (4, 1)])]).bnd }
def winWith (n : Nat) (i : Int × Int) : Window := { win0 with measuring := true, active := false, rounds := n, acc := List.replicate 4 (2 ^ 70, 2 ^ 69), accI := i }
def windowWith (iMin : Byte) (n : Nat) (i : Int × Int) : State := { (windowAs true) with
  bnd := (laid [(8, 0, zeros 16 [(0, 4), (2, 1), (4, 1), (0xC, 0x10), (0xD, 0x27)]), (0xE, 3, zeros 24 [(4, 60), (8, 1), (0xC, iMin)])]).bnd
  cel := { Cel.initial with window := some (winWith n i) } }
def resting : State := { celled [] [] with cel := { Cel.initial with restFor := 1800 } }
def restoringCells : State := celled [] []
def balancing : State := atTime 50 (celled [] [])
def balancingByHost : State := { atTime 50 (celled [] [(CEL_BAL_CTRL_HOST, 1), (CEL_BAL_MAN_CELLS, 6)]) with cel := Cel.initial }
def balancingAuto : State := atTime 50 (celled [(1, 1), (9, 50)] [(MSR_CELL_V 0, 3000000), (MSR_CELL_V 1, 3100000), (MSR_CELL_V 2, 3000000), (MSR_CELL_V 3, 3000000)])
def balOn : State := { upFld [] with cel := { Cel.initial with onEnd := some 0 } }
def bothSources : State := upFld [(qualFld false, 1), (qualFld true, 1), (CPM_PP_STAT_USE, useCode false)]
def handing : State := { bothSources with cpm := { Cpm.initial with handover := some false } }
def longQual : State := { puts [(longFld false, 1)] (atRc 600000000 bothSources) with cpm := { Cpm.initial with longA := some 0 } }
def probingBlind : State := { up with cpm := { Cpm.initial with probeAt := some 0 } }
def probing : State := { atCore 20000000 up with
  bnd := (laid [(8, 0, zeros 16 [(0, 4)]), (0xE, 2, zeros 40 [(7, 3), (0x1C, 1)])]).bnd, cpm := { Cpm.initial with probeAt := some 0, probeTime := 1000000 } }
def closedLong : State := { atCore 2400000 up with cpm := { Cpm.initial with closedAt := some 0 }, seq := { seq0 with kind := .step, todo := [⟨7, false, 0, 100⟩, ⟨4, false, 0, 7⟩], wait := .module } }
def pressed : State := { atCore 1000 up with cpm := { Cpm.initial with pressAt := some 0 } }
def pressedLong : State := { atCore 4800000000 up with cpm := { Cpm.initial with pressAt := some 0 } }
/-- A charge manager of a mode, through brick 0. -/
def charger (mode : Byte) (f : List (Fld × Nat)) : State := { puts f running with
  bnd := { Bnd.initial with tiles := running.bnd.tiles ++ [⟨8, 0, 0, 0, zeros 16 [(0, 4), (0xC, 0x10), (0xD, 0x27)]⟩, ⟨0xA, 0, 0, 0, zeros 20 [(0xB, 8), (0xF, 8)]⟩, ⟨0xE, 2, 0, 0, zeros 40 [(4, mode), (8, 255), (0xA, 20), (0x14, 20), (0x18, 60)]⟩] }
  pins := { up.pins with dswG := .high } }
def chargeable : State := charger 0 []
def charging : State := atTime 50 (charger 0 [(CPM_CHG_STAT_PHASE, 1)])
def chargingWritten : State := { charging with cpm := { charging.cpm with written := some (true, charging.chargeLimit) } }
def chargingCv (i : Int) : State := { charging.setFld CPM_CHG_STAT_PHASE 2 with cpm := { charging.cpm with curHist := [(0, i)], iS := 1000 } }
def chargingBy1 (i v : Int) : State := { atTime 50 (charger 1 [(CPM_CHG_STAT_PHASE, 1)]) with
  cpm := { charging.cpm with curHist := if i < 0 then [] else [(0, i)], volHist := [(0, v)] } }
def dwelling : State := { charging with cpm := { Cpm.initial with dwellAt := some 0 } }
def searchDue : State := { charging with cpm := { Cpm.initial with searchAt := some 0 } }
def chargedLong : State := atTime 100 charging
def noBond : State := up

/-! Meters, couches, journal -/
def cold : State := { up with mtr := { Mtr.initial with histSec := none } }
def reamDue : State := { atTime 4000 up with regs := (up.setFld MTR_STAT_RESTORING 0).regs }
def restoring : State := up
def restoreBytes : List Byte := (⟨0, 1, some 5, 0x1021, List.replicate 42 3⟩ : Sheet).bytes
def cellsFrom (a : Nat) (l : List Byte) : List Host.Cell := setCells flashBlank a l []
def restoringSheet : State := { up with flash := cellsFrom 0x240000 restoreBytes }
def midnight : State := { up with mtr := { Mtr.initial with statDay := some 7 } }
def couching : State := upFld [(⟨MTR_COUCH_T_LO, 0, 32⟩, 0x10000000)]
def couchHeldSt : State := upFld [(MTR_COUCH_STAT_STATE 0, 2)]
def couchAsked : State := { keystone with lnk := { keystone.lnk with couchAt := some 0, couchId := 5 } }
def couchDue : State := upFld [(MTR_COUCH_STAT_STATE 0, 1)]
def couchTaken : State := { couchDue with mtr := { Mtr.initial with banks := [⟨[], true⟩, Bank.free, Bank.free, Bank.free] } }
def someSheet : Sheet := ⟨7, 1, some 2, 0x0B01, [1]⟩
def sheeted : State := { atCore 24000 up with jnl := { up.jnl with queue := [someSheet] } }
def sheetWriting : State := { up with jnl := { up.jnl with queue := [someSheet], writing := some 3 } }
def searching : State := { up with jnl := Jnl.initial }
def searchingSheet : State := { searching with flash := cellsFrom 0x240000 restoreBytes }
def jnlLoading : State := { up with jnl := { up.jnl with loads := [(0, 3)] } }

/-! Link -/
def portsDown : State := upFld [(LNK_STAT_EN, 15)]
def newcomer : State := upFld [(LNK_STAT_EN, 15), (LNK_STAT_UP, 15)]
def sampled : State := { up with bkd := { up.bkd with sampleAt := 100 } }
def ringThird : State := { head with lnk := { head.lnk with string := ⟨0, some 0, 0, 2, 0, false⟩ } }
def ringLate : State := { atCore 24000 ringThird with lnk := { head.lnk with string := ⟨0, some 0, 1, 0, 0, false⟩ } }
def helloDue : State := atCore 24000000 up
def headOkBond (s : State) : State := { s with bnd := (laid [(0xB, 0, zeros 8 [(0, 1), (4, 1), (5, 1)])]).bnd }
def enumDue : State := { headOkBond up with lnk := { up.lnk with enumAt := some 0 } }
def claiming : State := { portsDown with lnk := { up.lnk with pass := .claim, candidate := true } }
def walking : State := { up with lnk := { up.lnk with pass := .walkB } }
def tagAs (n : Nat) : State := puts [(LNK_RA_STAT_STATE 3, n)] member
def tagLate : State := { atCore 240000 (tagAs 1) with lnk := { up.lnk with tags := [(3, 0)] } }
def bonded : State := { member with bnd := (laid []).bnd }
def distSending : State := { puts [(LNK_DIST_STAT_STATE, 1)] bonded with lnk := { up.lnk with sending := some ⟨[1], 0, 2, 0, 0⟩ } }
def distReceiving : State := { puts [(BND_STAT_STATE, 1)] member with bnd := { Bnd.initial with src := 1, storeOnly := true }, lnk := { up.lnk with dist := some ⟨false, true, false, 2, 200, 0⟩ } }
def distCollecting : State := atCore 48000000 (puts [(LNK_DIST_STAT_STATE, 2)] member)
def serving : State := headOkBond portsDown

/-! Interrupts, Standby, watchdog -/
def queued : State := { upFld [(ICU_SRC_PEND 840, 1)] with icu := { Icu.initial with queue := [⟨840, 0, 0⟩] } }
def held : State := { up with icu := { Icu.initial with held := [(2, 0)] } }
def heldWaiting : State := { upFld [(ICU_SRC_PEND 840, 1), (ICU_SRC_EN 840, 1), (ICU_SRC_GROUP 840, 2), (ICU_HOLD_HOLD 2, 50)] with icu := { Icu.initial with held := [(2, 0)], waiting := [840] } }
def gapped : State := { up with icu := { Icu.initial with gapEnd := some 0 } }
def standbyReady : State := upFld [(⟨GLB_WAKE_MASK, 0, 13⟩, 256)]
def standbyArmed : State := { standbyReady with icu := { Icu.initial with armed := true } }
def standby : State := { standbyArmed with boot := { up.boot with power := .standby } }
def edged : State := { upFld [(⟨HST_GPIO_EDGE, 0, 32⟩, 0x10)] with bnd := (laid [(0xD, 0, zeros 80 [(8, 4), (0x42, 1)])]).bnd }
def watchdogAt (count : Nat) : State := { upFld [(⟨WDG_CHAL, 0, 16⟩, 0xACE1), (WDG_TASKS_REG, 1)] with wdg := { Wdg.initial with armed := true, count := count, tOpen := 100, tClose := 200 } }
def pulsing : State := { up with wdg := { Wdg.initial with armed := true, stopped := true, pulseEnd := some 0 } }
def alarmed : State := upFld [(RTC_CTRL_ALM_EN, 1)]
def watchingInputs : State := upFld [(EVT_CFG_EDGE 1, 1)]

/-- The state a command answers. -/
def after (c : Instr) (s : State) : State :=
  match exec c s with
  | .next t => t
  | _ => s

/-! ### Ill-formed commands are refused (WellFormed) -/

theorem test_wf_1 :
    Instr.wellFormed (.p2Restart 1) = false ∧ Instr.wellFormed (.p2Restart 8) = true ∧
    Instr.wellFormed (.p6ServicesDone [(16, .a)]) = false ∧ Instr.wellFormed (.p6ServicesDone [(15, .b)]) = true ∧
    Instr.wellFormed (.otpCommandDone (some 39)) = false ∧ Instr.wellFormed (.otpCommandDone (some 38)) = true ∧
    Instr.wellFormed (.evtEdgeAccept 4 true) = false ∧ Instr.wellFormed (.evtEdgeAccept 3 true) = true ∧
    Instr.wellFormed (.brickUpdate 16 ⟨[], []⟩ []) = false ∧ Instr.wellFormed (.brickUpdate 15 ⟨[], []⟩ []) = true ∧
    Instr.wellFormed (.settleTimeout 16) = false ∧ Instr.wellFormed (.settleTimeout 15) = true ∧
    Instr.wellFormed (.brkTargetWrite .spi 16 0) = false ∧ Instr.wellFormed (.brkTargetWrite .spi 15 0) = true ∧
    Instr.wellFormed (.coefCommit .spi 16) = false ∧ Instr.wellFormed (.coefCommit .spi 15) = true := by
  decide

theorem test_wf_2 :
    Instr.wellFormed (.brkCntClr .spi 16) = false ∧ Instr.wellFormed (.brkCntClr .spi 15) = true ∧
    Instr.wellFormed (.laneScrub 15 [(23, 1)] [] [] []) = false ∧ Instr.wellFormed (.laneScrub 15 [(22, 1)] [] [] [(0, 64)]) = true ∧
    Instr.wellFormed (.quickTestDone 16 true true) = false ∧ Instr.wellFormed (.quickTestDone 15 true true) = true ∧
    Instr.wellFormed (.fullTestDone 16 .a true) = false ∧ Instr.wellFormed (.fullTestDone 15 .a true) = true ∧
    Instr.wellFormed (.laneRejoin 16) = false ∧ Instr.wellFormed (.laneRejoin 15) = true ∧
    Instr.wellFormed (.fastLimitTrip ⟨16, 0⟩) = false ∧ Instr.wellFormed (.fastLimitTrip ⟨15, 0⟩) = true ∧
    Instr.wellFormed (.blankingEnd 16 0) = false ∧ Instr.wellFormed (.blankingEnd 15 0) = true ∧
    Instr.wellFormed (.running1sExpiry 16) = false ∧ Instr.wellFormed (.running1sExpiry 15) = true := by
  decide

theorem test_wf_3 :
    Instr.wellFormed (.retryRst .spi 16) = false ∧ Instr.wellFormed (.retryRst .spi 15) = true ∧
    Instr.wellFormed (.lcntClr .spi 16) = false ∧ Instr.wellFormed (.lcntClr .spi 15) = true ∧
    Instr.wellFormed (.railViolation 21 []) = false ∧ Instr.wellFormed (.railViolation 20 [1]) = true ∧
    Instr.wellFormed (.pgDelayExpiry 21) = false ∧ Instr.wellFormed (.pgDelayExpiry 20) = true ∧
    Instr.wellFormed (.alloff 0 ⟨0, 1, 0, 0, 0⟩ false) = false ∧ Instr.wellFormed (.alloff 0 ⟨0, 2, 0, 0, 0⟩ false) = true ∧
    Instr.wellFormed (.spiRead 0 1 [true, true, true] false) = false ∧ Instr.wellFormed (.spiRead 0 1 [true, true] false) = true ∧
    Instr.wellFormed (.spiReservedCmd 3) = false ∧ Instr.wellFormed (.spiReservedCmd 4) = true ∧
    Instr.wellFormed (.holdoffExpiry 32) = false ∧ Instr.wellFormed (.holdoffExpiry 31) = true := by
  decide

theorem test_wf_4 :
    Instr.wellFormed (.icuHoldWrite .spi 32 0) = false ∧ Instr.wellFormed (.icuHoldWrite .spi 31 0) = true ∧
    Instr.wellFormed (.wakeLatchEdge 13) = false ∧ Instr.wellFormed (.wakeLatchEdge 12) = true ∧
    Instr.wellFormed (.irqEdge 8 true) = false ∧ Instr.wellFormed (.irqEdge 7 true) = true ∧
    Instr.wellFormed (.gpioEdge 16 true) = false ∧ Instr.wellFormed (.gpioEdge 15 true) = true ∧
    Instr.wellFormed (.vcpReservedCmd 5 0 0 ⟨0, false⟩) = false ∧ Instr.wellFormed (.vcpReservedCmd 6 0 0 ⟨0, true⟩) = true ∧
    Instr.wellFormed (.sensorFlagBroken 13) = false ∧ Instr.wellFormed (.sensorFlagBroken 12) = true ∧
    Instr.wellFormed (.sensorUnflag 13) = false ∧ Instr.wellFormed (.sensorUnflag 12) = true ∧
    Instr.wellFormed (.privBrokenTimeout 13) = false ∧ Instr.wellFormed (.privBrokenTimeout 12) = true := by
  decide

theorem test_wf_5 :
    Instr.wellFormed (.thermalShutdown 13) = false ∧ Instr.wellFormed (.thermalShutdown 12) = true ∧
    Instr.wellFormed (.couchReq ⟨⟨0, 2, 0, 0, 0⟩, 1⟩ 0) = false ∧ Instr.wellFormed (.couchReq ⟨⟨0, 3, 0, 0, 0⟩, 1⟩ 0) = true ∧
    Instr.wellFormed (.couchFree ⟨⟨0, 3, 0, 0, 0⟩, [1, 2, 3, 4, 5]⟩) = false ∧ Instr.wellFormed (.couchFree ⟨⟨0, 3, 0, 0, 0⟩, [1, 2, 3, 4]⟩) = true ∧
    Instr.wellFormed (.ringCheck ⟨0, 0, 0, 0, 0⟩ 1) = false ∧ Instr.wellFormed (.ringCheck ⟨0, 1, 0, 0, 0⟩ 1) = true ∧
    Instr.wellFormed (.assign false ⟨⟨0, 2, 0, 0, 0⟩, List.replicate 26 (0, 0)⟩) = false ∧ Instr.wellFormed (.assign false ⟨⟨0, 2, 0, 0, 0⟩, List.replicate 25 (0, 0)⟩) = true ∧
    Instr.wellFormed (.rdReq 1 0 0 0 0) = false ∧ Instr.wellFormed (.rdReq 1 0 0 63 0) = true ∧
    Instr.wellFormed (.raRsp 0 0 (List.replicate 64 0)) = false ∧ Instr.wellFormed (.raRsp 0 0 (List.replicate 63 0)) = true ∧
    Instr.wellFormed (.distStart ⟨0, 4, 0, 0, 0⟩ true true true 0) = false ∧ Instr.wellFormed (.distStart ⟨0, 3, 0, 0, 0⟩ true true true 0) = true := by
  decide

theorem test_wf_6 :
    Instr.wellFormed (.distData ⟨⟨0, 3, 0, 0, 0⟩, 0⟩ [] false) = false ∧ Instr.wellFormed (.distData ⟨⟨0, 3, 0, 0, 0⟩, 0⟩ [1] false) = true ∧
    Instr.wellFormed (.doorbell ⟨⟨0, 1, 0, 0, 0⟩, 1⟩) = false ∧ Instr.wellFormed (.doorbell ⟨⟨0, 2, 0, 0, 0⟩, 1⟩) = true ∧
    Instr.wellFormed (.confirm ⟨⟨0, 1, 0, 0, 0⟩, 1⟩ false) = false ∧ Instr.wellFormed (.confirm ⟨⟨0, 2, 0, 0, 0⟩, 1⟩ false) = true ∧
    Instr.wellFormed (.trunkStep ⟨⟨0, 2, 0, 0, 0⟩, 1⟩ false false false) = false ∧ Instr.wellFormed (.trunkStep ⟨⟨0, 4, 0, 0, 0⟩, 1⟩ false false false) = true ∧
    Instr.wellFormed (.hello ⟨⟨0, 3, 0, 0, 0⟩, ⟨1, true, true, false⟩⟩) = false ∧ Instr.wellFormed (.hello ⟨⟨0, 2, 0, 0, 0⟩, ⟨1, true, true, false⟩⟩) = true ∧
    Instr.wellFormed (.claim true ⟨⟨0, 2, 0, 0, 0⟩, ⟨1, true⟩⟩ 1) = false ∧ Instr.wellFormed (.claim false ⟨⟨0, 2, 0, 0, 0⟩, ⟨1, true⟩⟩ 1) = true := by
  decide

/-! ### Worked examples of the spec -/

/-- R129, chapter The bond: the check value of the CRC-32. -/
theorem test_crc32 : crc32 [0x31, 0x32, 0x33, 0x34, 0x35, 0x36, 0x37, 0x38, 0x39] = 0xCBF43926 := by decide
/-- R221: the check value of the CRC-8. -/
theorem test_crc8 : crc8 [0x31, 0x32, 0x33, 0x34, 0x35, 0x36, 0x37, 0x38, 0x39] = 0xF4 := by decide
/-- Worked example, a charge setpoint: the command frame of SET_I, SEQ 5, VALUE 0x00199A to group 3. -/
theorem test_vcp_frame : vcpWord 3 2 5 0x199A = 0x032500199A03 := by decide
/-- The same: the record of SEQ 5 becomes PENDING, the others stay free, and the target is written. -/
def vcpGroup3 : State := vcp.setFld (VCP_GRP_GROUP 0) 3
theorem test_vcp_records : (after (.setI 3 5 ⟨0x00199A, false⟩) vcpGroup3).reg (VCP_REC_LO 0) = 0x88588888 ∧
    (after (.setI 3 5 ⟨0x00199A, false⟩) vcpGroup3).reg (VCP_GRP 0) = 0x00035210 := by decide
/-- Worked example, setting a leap day: the commit of 2028-02-29 14:30:00 is applied. -/
def leapSet : State :=
  after (.commitCalendar .spi false) ((up.setReg RTC_SET_TIME 0x00143000).setReg RTC_SET_DATE 0x20280229)
theorem test_leap_day : leapSet.bkd.commit = some (0x034F970E8, 0) ∧ calDate 0x34F970E8 = 0x20284229 := by decide
/-- The same writes with the year 2100 are rejected: WERR_FIELD names the day. -/
def leapRefused : State :=
  after (.commitCalendar .spi false) ((up.setReg RTC_SET_TIME 0x00143000).setReg RTC_SET_DATE 0x21000229)
theorem test_common_year : leapRefused.flag RTC_STAT_RTC_WERR = true ∧ leapRefused.fld RTC_STAT_WERR_FIELD = 4 := by decide
/-- Worked example, one routed source: ICU_HOST_0 and ICU_SRC_64 after BRK_0 settled. -/
def routed : State := ((((up.setReg (ICU_SRC 64) 0xA305).setReg (ICU_HOLD 5) 1000).setFlag ICU_CTRL_INT_EN true).raise 64)
theorem test_routed : routed.live ICU_HOST_0 = 0xA0010040 ∧ routed.reg (ICU_SRC 64) = 0x8000A305 ∧ routed.icu.intN = true := by
  decide
theorem test_popped : (after (.icuPop .spi true) routed).icu.intN = false ∧
    (after (.icuPop .spi true) routed).reg (ICU_SRC 64) = 0x0000A305 := by decide
/-- Worked example, a host task checks in early: one tick before T_open. -/
def earlyTask : State := { ((((up.setReg WDG_CFG 0x80000014).setReg WDG_WIN 0x00C803E8).setReg WDG_CHAL 0xE270).setReg WDG_TASKS
    0x00011001) with wdg := { up.wdg with armed := true, count := 19999, tOpen := 20000, tClose := 100000 } }
theorem test_early : (after (.checkin .spi 12 0xE270 (1, 2, 3, 4)) earlyTask).reg WDG_EV_MASK = 0x00011000 ∧
    (after (.checkin .spi 12 0xE270 (1, 2, 3, 4)) earlyTask).fld SEQ_FAULT_CODE = 0x0C01 := by decide
/-- Chapter Clocks: the trimmed STM_INC of the worked example is accepted, one count beyond 200 ppm is not. -/
theorem test_inc : (after (.registerWrite .spi (adr STM_INC) 0x011E53DC) up).reg STM_INC = 0x011E53DC ∧
    (after (.registerWrite .spi (adr STM_INC) 0x011E7000) up).reg STM_INC = 0x011E54C6 := by decide
/-- Worked example, four-phase buck: the edges of BRK_1 in the leader's frame (Table — Buck edge times). -/
theorem test_buck_edges : (⟨.p, 245760, 62669, 0, 1229, 922, 0, 0, false⟩ : LegPlan).pulses 61440 307200 =
    [⟨true, 62669, 124109, false, false⟩, ⟨false, 125031, 245760 + 61440, false, false⟩] := by decide
/-- Worked example, dual-active bridge: the leg starts at c = −61,440 and δ = 30,720, and the edges of BRK_2 (Table — DAB edge
times, one period on). -/
theorem test_dab_edges : (legForm 8 1 (-61440) 614400 9216 30720).2.2 = 276480 ∧
    (legForm 8 2 (-61440) 614400 9216 30720).2.2 = -61440 ∧ (legForm 8 3 (-61440) 614400 9216 30720).2.2 = 215040 ∧
    (⟨.s, 614400, 0, -61440, 9216, 9216, 0, 0, false⟩ : LegPlan).pulses 552960 1167360 =
      [⟨true, 562176, 614400 + 245760, false, false⟩, ⟨false, 614400 + 254976, 614400 + 552960, false, false⟩] := by decide
/-- The same example: one update instant of its compensator. -/
theorem test_dab_update : (compensate (fun i => [-524288, 458752, 0, 0, 1048576, 0, 0].getD i 0)
    { Brick.fresh with e1 := 126, y1 := -61434 } [] 122 0 0 (-153600) 153600).c = -61440 := by decide

/-! ### Premises met: the completion statements -/

theorem square_nonneg (k : Rat) : 0 ≤ k * k := by
  rcases Rat.nonneg_total k with h | h
  · exact Rat.mul_nonneg h h
  · have := Rat.mul_nonneg h h
    rwa [Rat.neg_mul, Rat.mul_neg, Rat.neg_neg] at this

theorem meets_PowerAndResetEvents_1 :
    ((fun (s : State)  => (s.boot.power = .dormant)) dormant ) ∧
    ((fun (s : State)  => (s.active = true)) up ) ∧
    ((fun (s : State)  => (s.awake = true)) up ) ∧
    ((fun (s : State)  => (s.active = true) ∧ (s.railUp = false) ∧ (s.boot.waiting = none) ∧ (s.boot.restart = none)
      ∧ (s.mapLevel 2 ≤ 1)) up ) ∧
    ((fun (s : State) (tst : Bool) => (s.boot.power = .starting) ∧ (s.boot.hold = .resetN) ∧ (s.boot.level = 1 ∨ tst
      = false)) heldLow (false)) ∧
    ((fun (s : State) (path : Path) => (s.active = true) ∧ (s.railUp = false) ∧ (s.boot.waiting = none) ∧
      (s.boot.restart = none) ∧ (s.answers path = true) ∧ (s.mapLevel 4 ≤ 1) ∧ (s.boot.resetNLow = false) ∧
      (s.boot.tstHigh = false)) up (.spi)) ∧
    ((fun (s : State)  => (s.seq.timeline = true) ∧ (s.thm.resetDue = false) ∧ (s.boot.waiting = none)) fallen ) ∧
    ((fun (s : State)  => (s.active = true) ∧ (s.supervisorRuns = true) ∧ (s.boot.waiting = none) ∧ (s.boot.restart
      = none) ∧ (2 ≤ s.mapLevel 8)) ((supL 2)) ) := by
  refine ⟨?_, ?_, ?_, ?_, ?_, ?_, ?_, ?_⟩ <;> decide

theorem meets_PowerAndResetEvents_2 :
    ((fun (s : State)  => (s.active = true) ∧ (s.railUp = false) ∧ (s.boot.waiting = none) ∧ (s.boot.restart = none)
      ∧ (reached s.cpm.switchAt s.clk.core = true) ∧ (s.boot.resetNLow = false) ∧ (s.boot.tstHigh = false)) cycling
      ) ∧
    ((fun (s : State)  => (s.active = true) ∧ (s.cpm.ship = true) ∧ (∀ e ∈ s.jnl.queue, e.type ≠ 0x1006)) shipping ) ∧
    ((fun (s : State)  => (s.linked = true) ∧ (s.railUp = false) ∧ (s.boot.waiting = none) ∧ (s.boot.restart = none)
      ∧ (s.mapLevel 5 ≤ 1)) member ) ∧
    ((fun (s : State)  => (s.active = true) ∧ (s.supervisorRuns = true) ∧ (s.boot.waiting = none) ∧ (s.boot.restart
      = none) ∧ (s.mapLevel 8 = 3)) ((supL 3)) ) ∧
    ((fun (s : State) (l : Nat) (k : Nat) => (s.active = true) ∧ (s.seq.timeline = true) ∧ (s.thm.resetDue = false)
      ∧ (s.boot.waiting = some (l, k)) ∧ (l ≤ 1) ∧ (k < 9) ∧ (s.boot.restart = none)) fallenWaiting (1) (4)) ∧
    ((fun (s : State)  => (s.active = true) ∧ (s.thm.resetDue = true) ∧ (s.boot.waiting = none) ∧ (s.boot.restart =
      none)) hotReset ) := by
  refine ⟨?_, ?_, ?_, ?_, ?_, ?_⟩ <;> decide

theorem meets_BootPhasesComplete_1 :
    ((fun (s : State) (vsys : Nat) (tst : Bool) => (s.inPhase 0 = true) ∧ (5680 < vsys) ∧ (s.boot.phaseAt + 10000 ≤
      s.clk.rc) ∧ (s.boot.resetNLow = false) ∧ (s.boot.level = 1 ∨ tst = false)) ((inP 0)) (12000) (false)) ∧
    ((fun (s : State)  => (s.inPhase 1 = true) ∧ (s.boot.level = 0)) ((inP 1)) ) ∧
    ((fun (s : State)  => (s.inPhase 1 = true) ∧ (s.boot.phaseAt + 30000 ≤ s.clk.rc)) ((inP 1)) ) ∧
    ((fun (s : State)  => (s.boot.power = .starting) ∧ (s.boot.hold = .p1Off) ∧ (s.boot.retryAt ≤ s.clk.rc)) p1Held
      ) ∧
    ((fun (s : State)  => (s.inPhase 2 = true) ∧ (s.otpFails = false)) ((inP 2)) ) ∧
    ((fun (s : State) (source : Nat) => (s.inPhase 2 = true) ∧ (2 ≤ source) ∧ (source ≤ 8) ∧ (s.boot.p2Since =
      none)) ((inP 2)) (4)) ∧
    ((fun (s : State) (a : Nat) => (s.boot.p2Since = some a) ∧ (a + 1000000 ≤ s.clk.rc) ∧ (s.boot.hold = .none))
      p2Window (0)) ∧
    ((fun (s : State)  => (s.inPhase 4 = true)) ((inP 4)) ) := by
  refine ⟨?_, ?_, ?_, ?_, ?_, ?_, ?_, ?_⟩ <;> decide +kernel

theorem meets_BootPhasesComplete_2 :
    ((fun (s : State)  => (s.inPhase 5 = true)) ((inP 5)) ) ∧
    ((fun (s : State) (failed : List (Nat × Lane)) => (s.inPhase 6 = true)) ((inP 6)) ([])) ∧
    ((fun (s : State)  => (s.boot.restart = some 2) ∧ (s.boot.hold ≠ .resetN)) ((restarting 2)) ) ∧
    ((fun (s : State)  => (s.boot.restart = some 3) ∧ (s.boot.hold ≠ .resetN)) ((restarting 3)) ) ∧
    ((fun (s : State) (k : Nat) (e : Seal) (b : List Byte) (ts : List Tile) => (s.inPhase 5 = true) ∧ (s.startSlot =
      some (k, e)) ∧ (s.flashRead (slotBase k) e.length = b) ∧ ((validate b e.length s.bondSigned
      s.keyHash).toOption = some ts)) bondInSlot (0) (⟨7, 84, 0⟩) (leastBond) ([⟨1, 0, 0, 0, slice leastBond 16
      64⟩])) ∧
    ((fun (s : State)  => (s.inPhase 5 = true) ∧ (s.startSlot = none)) ((inP 5)) ) ∧
    ((fun (s : State) (k : Nat) (e : Seal) (b : List Byte) (r : BondErr) => (s.inPhase 5 = true) ∧ (s.startSlot =
      some (k, e)) ∧ (s.flashRead (slotBase k) e.length = b) ∧ (rejectionOf (validate b e.length s.bondSigned
      s.keyHash) = some r)) badInSlot (0) (⟨7, 84, 0⟩) ((leastBond.set 0 2)) (⟨1, 0, 0⟩)) := by
  refine ⟨?_, ?_, ?_, ?_, ?_, ?_, ?_⟩ <;> decide +kernel

theorem meets_OtpAndUpdateCommands_1 :
    ((fun (s : State) (path : Path) (row : BitVec 9) => (s.serves path = true) ∧ (s.flag OTP_STAT_BUSY = false)) up
      (.spi) (200)) ∧
    ((fun (s : State) (path : Path) (row : BitVec 9) => (s.serves path = true) ∧ (s.flag OTP_STAT_BUSY = false) ∧
      (320 ≤ row.toNat) ∧ (s.flag OTP_LOCK_CUST_W = false) ∧ (s.idle = true) ∧ (1 ≤ s.fld STM_STAT_TBAND) ∧ (s.fld
      STM_STAT_TBAND ≤ 5)) warm (.spi) (400)) ∧
    ((fun (s : State) (failedBit : Option Nat) (c : OtpCmd) => (s.boot.otpCmd = some c) ∧ (c.program = false) ∧
      (s.flag (otpLocks c.row).1 = false) ∧ ((s.otpRow c.row).bad = false)) ((otpCmd false 0)) (none) (⟨false, 330,
      0⟩)) ∧
    ((fun (s : State) (c : OtpCmd) => (s.boot.otpCmd = some c) ∧ (c.program = true) ∧ (c.data ≠ 0) ∧ (s.boot.otp.any
      (fun r => decide (r.1 = c.row)) = false)) ((otpCmd true 5)) (⟨true, 330, 5⟩)) ∧
    ((fun (s : State) (pulses : Nat) (c : OtpCmd) => (s.boot.otpCmd = some c) ∧ (c.program = true)) ((otpCmd true
      5)) (1) (⟨true, 330, 5⟩)) ∧
    ((fun (s : State)  => (s.loaderMode = true) ∧ (s.loaderLinkOff = false) ∧ (s.fld RPC_UPD_STAT_STATE ≠ 1 ∨
      s.boot.updLink = false) ∧ (s.boot.loaderAskAt ≤ s.clk.core) ∧ (s.clk.onRc = false)) loaderUp ) ∧
    ((fun (s : State)  => (s.loaderMode = true) ∧ (s.boot.updLink = true) ∧ (s.boot.updCheck = false) ∧ (s.fld
      RPC_UPD_STAT_STATE = 1) ∧ (s.boot.loaderFrameAt + 24000000 ≤ s.clk.core)) loading ) ∧
    ((fun (s : State) (path : Path) (blocks : BitVec 10) => (s.serves path = true) ∧ (2 ≤ blocks.toNat) ∧
      (blocks.toNat ≤ 512) ∧ (s.fld RPC_UPD_STAT_STATE ≠ 1)) up (.spi) (3)) := by
  refine ⟨?_, ?_, ?_, ?_, ?_, ?_, ?_, ?_⟩ <;> decide

theorem meets_OtpAndUpdateCommands_2 :
    ((fun (s : State) (path : Path) (blocks : BitVec 10) => (s.serves path = true) ∧ (s.fld RPC_UPD_STAT_STATE = 1))
      updating (.spi) (0)) ∧
    ((fun (s : State) (path : Path) (data : Word) (flashError : Bool) => (s.serves path = true) ∧ (s.fld
      RPC_UPD_STAT_STATE = 1) ∧ (s.fld RPC_UPD_STAT_SPACE ≠ 0) ∧ (s.boot.updLink = false) ∧ (s.boot.updCheck =
      false) ∧ (s.boot.updBytes.length + 4 < 4096)) updating (.spi) (0x11223344) (false)) ∧
    ((fun (s : State)  => (s.fld RPC_UPD_STAT_STATE = 1) ∧ (s.boot.updCheck = true) ∧ (s.boot.restart = none) ∧
      (s.loaderMode = false)) updChecked ) := by
  refine ⟨?_, ?_, ?_⟩ <;> decide

theorem meets_ClocksAndSyncComplete_1 :
    ((fun (s : State) (port : Bool) => (s.clk.attemptAt.isSome = true) ∧ (s.clk.qualifiedAt = none)) attempting
      (true)) ∧
    ((fun (s : State)  => (s.active = true) ∧ (s.clk.attemptAt.isSome = true) ∧ (s.clk.qualifiedAt.isSome = true))
      qualified ) ∧
    ((fun (s : State) (a : Nat) => (s.clk.attemptAt = some a) ∧ (s.clk.qualifiedAt = none) ∧ (a + 60000 ≤ s.clk.rc))
      attempting (0)) ∧
    ((fun (s : State) (edges : Nat) => (s.refWatched = true) ∧ (s.clk.windowAt + 100 ≤ s.clk.rc) ∧ (edges < 200) ∧
      (s.flag STM_STAT_REF_LOST = false)) later (150)) ∧
    ((fun (s : State) (port : Bool) => (s.refWatched = true) ∧ (s.flag STM_STAT_REF_LOST = true)) refGone (true)) ∧
    ((fun (s : State) (a : Nat) => (s.clk.refLostAt = some a) ∧ (a + 1000000 ≤ s.clk.rc)) refGone (0)) ∧
    ((fun (s : State)  => (s.active = true) ∧ (s.flag STM_STAT_PLL_LOCKED = true)) up ) ∧
    ((fun (s : State) (path : Path) => (s.serves path = true) ∧ (s.fld STM_STAT_TSTATE = 0)) up (.spi)) := by
  refine ⟨?_, ?_, ?_, ?_, ?_, ?_, ?_, ?_⟩ <;> decide

theorem meets_ClocksAndSyncComplete_2 :
    ((fun (s : State) (path : Path) => (s.serves path = true)) up (.spi)) ∧
    ((fun (s : State)  => (s.fld STM_STAT_TSTATE = 2) ∧ (s.clk.lastSync + 120000000 ≤ s.clk.core)) holding ) ∧
    ((fun (s : State)  => (s.linked = true) ∧ (s.fld STM_STAT_TSTATE ≠ 0) ∧ (s.lnk.syncLast ≠ some (s.nowU / 2 ^
      23))) following ) ∧
    ((fun (s : State) (port : BitVec 2) (turn : Nat) => (s.linked = true) ∧ (s.clk.onRc = false) ∧ (s.portUp
      port.toNat = true)) member (0) (5)) ∧
    ((fun (s : State)  => (s.lnk.syncT1.isSome = true) ∧ (s.lnk.syncT4 = none)) syncing ) ∧
    ((fun (s : State) (t2 : BitVec 72) (t3 : BitVec 72) (tstate : BitVec 2) (t1 : Nat) (t4 : Nat × Nat) =>
      (s.lnk.syncT1 = some t1) ∧ (s.lnk.syncT4 = some t4)) synced (0) (0) (0) (0) ((0, 0))) ∧
    ((fun (s : State) (t4 : Nat × Nat) => (s.lnk.syncT4 = some t4) ∧ (t4.2 + 240000 ≤ s.clk.core)) synced ((0, 0))) ∧
    ((fun (s : State) (t2 : BitVec 72) (t3 : BitVec 72) (tstate : BitVec 2) (t1 : Nat) (t4 : Nat × Nat) (o : Int) (d
      : Int) => (s.lnk.syncT1 = some t1) ∧ (s.lnk.syncT4 = some t4) ∧ (s.clk.core ≤ t4.2 + 240000) ∧ (o =
      (BitVec.ofNat 72 t1 - t2).toInt + (BitVec.ofNat 72 t4.1 - t3).toInt) ∧ (d = (BitVec.ofNat 72 t4.1 -
      BitVec.ofNat 72 t1).toInt - (t3 - t2).toInt) ∧ (0 ≤ d) ∧ (d * 500000 ≤ 2 ^ 37) ∧ (tstate = 0 ∨ tstate = 2) ∧
      (s.fld STM_STAT_TSTATE = 1) ∧ (s.clk.goodRun + 1 < 8)) ((syncedWith 1)) (0x1000) (0x1000) (0) (0) ((0, 0))
      (-0x2000) (0)) := by
  refine ⟨?_, ?_, ?_, ?_, ?_, ?_, ?_, ?_⟩ <;> decide

theorem meets_ClocksAndSyncComplete_3 :
    ((fun (s : State) (t2 : BitVec 72) (t3 : BitVec 72) (tstate : BitVec 2) (t1 : Nat) (t4 : Nat × Nat) (o : Int) (d
      : Int) => (s.lnk.syncT1 = some t1) ∧ (s.lnk.syncT4 = some t4) ∧ (s.clk.core ≤ t4.2 + 240000) ∧ (o =
      (BitVec.ofNat 72 t1 - t2).toInt + (BitVec.ofNat 72 t4.1 - t3).toInt) ∧ (d = (BitVec.ofNat 72 t4.1 -
      BitVec.ofNat 72 t1).toInt - (t3 - t2).toInt) ∧ (0 ≤ d) ∧ (d * 500000 ≤ 2 ^ 37) ∧ (tstate = 0 ∨ tstate = 2) ∧
      (s.fld STM_STAT_TSTATE = 1) ∧ (8 ≤ s.clk.goodRun + 1) ∧ (o.natAbs * 50000000 ≤ 2 ^ 37)) syncedEighth (0) (0)
      (0) (0) ((0, 0)) (0) (0)) ∧
    ((fun (s : State) (t2 : BitVec 72) (t3 : BitVec 72) (tstate : BitVec 2) (t1 : Nat) (t4 : Nat × Nat) (o : Int) (d
      : Int) => (s.lnk.syncT1 = some t1) ∧ (s.lnk.syncT4 = some t4) ∧ (s.clk.core ≤ t4.2 + 240000) ∧ (o =
      (BitVec.ofNat 72 t1 - t2).toInt + (BitVec.ofNat 72 t4.1 - t3).toInt) ∧ (d = (BitVec.ofNat 72 t4.1 -
      BitVec.ofNat 72 t1).toInt - (t3 - t2).toInt) ∧ (0 ≤ d) ∧ (d * 500000 ≤ 2 ^ 37) ∧ (tstate = 0 ∨ tstate = 2) ∧
      (s.fld STM_STAT_TSTATE = 1) ∧ (2 ^ 37 < o.natAbs * 50000000)) ((syncedWith 1)) (0x1000) (0x1000) (0) (0) ((0,
      0)) (-0x2000) (0)) ∧
    ((fun (s : State) (t2 : BitVec 72) (t3 : BitVec 72) (tstate : BitVec 2) (t1 : Nat) (t4 : Nat × Nat) (o : Int) (d
      : Int) => (s.lnk.syncT1 = some t1) ∧ (s.lnk.syncT4 = some t4) ∧ (s.clk.core ≤ t4.2 + 240000) ∧ (o =
      (BitVec.ofNat 72 t1 - t2).toInt + (BitVec.ofNat 72 t4.1 - t3).toInt) ∧ (d = (BitVec.ofNat 72 t4.1 -
      BitVec.ofNat 72 t1).toInt - (t3 - t2).toInt) ∧ (0 ≤ d) ∧ (d * 500000 ≤ 2 ^ 37) ∧ (tstate = 0 ∨ tstate = 2) ∧
      (s.fld STM_STAT_TSTATE = 2)) ((syncedWith 2)) (0x1000) (0x1000) (0) (0) ((0, 0)) (-0x2000) (0)) ∧
    ((fun (s : State) (t2 : BitVec 72) (t3 : BitVec 72) (tstate : BitVec 2) (t1 : Nat) (t4 : Nat × Nat) (o : Int) (d
      : Int) => (s.lnk.syncT1 = some t1) ∧ (s.lnk.syncT4 = some t4) ∧ (s.clk.core ≤ t4.2 + 240000) ∧ (o =
      (BitVec.ofNat 72 t1 - t2).toInt + (BitVec.ofNat 72 t4.1 - t3).toInt) ∧ (d = (BitVec.ofNat 72 t4.1 -
      BitVec.ofNat 72 t1).toInt - (t3 - t2).toInt) ∧ (0 ≤ d) ∧ (d * 500000 ≤ 2 ^ 37) ∧ (tstate = 0 ∨ tstate = 2) ∧
      (s.fld STM_STAT_TSTATE = 3)) ((syncedWith 3)) (0x1000) (0x1000) (0) (0) ((0, 0)) (-0x2000) (0)) := by
  refine ⟨?_, ?_, ?_, ?_⟩ <;> decide

theorem meets_BondCommandsComplete :
    ((fun (s : State) (path : Path) (src : BitVec 2) => (s.serves path = true) ∧ (src = 0 ∨ src = 1) ∧ (s.fld
      BND_STAT_STATE = 0) ∧ (s.fld BND_STAT_OWNER ≠ 2)) up (.spi) (0)) ∧
    ((fun (s : State) (path : Path) (src : BitVec 2) (store : Bool) => (s.serves path = true) ∧ (src = 0 ∨ src = 1)
      ∧ (s.fld BND_STAT_STATE = 0) ∧ (s.fld BND_STAT_OWNER ≠ 2) ∧ (s.relayReason src.toNat = none)) up (.spi) (0)
      (true)) ∧
    ((fun (s : State) (path : Path) => (s.serves path = true) ∧ (s.relayOpen = true) ∧ (s.bnd.storing = none))
      bonding (.spi)) ∧
    ((fun (s : State) (path : Path) (data : Word) => (s.serves path = true) ∧ (s.fld BND_STAT_STATE = 1) ∧
      (s.bnd.src = 0) ∧ (s.fld BND_STAT_OWNER ≠ 2) ∧ (s.bnd.staging.length + 4 < 84)) bonding (.spi) (5)) ∧
    ((fun (s : State)  => (s.fld BND_STAT_STATE = 1) ∧ (s.boot.restart = none) ∧ (s.bnd.wordAt + 240000000 ≤
      s.clk.core)) bondingLate ) ∧
    ((fun (s : State)  => (s.fld BND_STAT_STATE = 2) ∧ (s.boot.restart = none) ∧ (s.bnd.afterSheet = false) ∧
      (s.bnd.storeOnly = false)) validating ) ∧
    ((fun (s : State) (b : List Byte) (ts : List Tile) => (s.bnd.accepted = some (b, ts)) ∧ (s.fld BND_STAT_STATE =
      3) ∧ (s.boot.restart = none)) accepted ([]) ([])) ∧
    ((fun (s : State) (b : List Byte) => (s.bnd.storing = some (b, false)) ∧ (s.boot.restart = none)) storing ([1,
      2])) := by
  refine ⟨?_, ?_, ?_, ?_, ?_, ?_, ?_, ?_⟩ <;> decide

theorem meets_BackupDomainCommands_1 :
    ((fun (s : State)  => (s.bkd.powered = false)) unpowered ) ∧
    ((fun (s : State)  => (s.bkd.powered = true)) up ) ∧
    ((fun (s : State)  => (s.bkd.powered = true) ∧ (calLast < s.bkd.sec.toNat)) year3000 ) ∧
    ((fun (s : State) (path : Path) (word : BitVec 2) => (s.serves path = true) ∧ (s.bkd.powered = true) ∧
      (s.bkd.freezes.any (fun f => decide (f.1 = pathShadow path)) = false)) up (.spi) (1)) ∧
    ((fun (s : State) (path : Path) (at0 : Nat) => (s.bkd.freezes.find? (fun f => decide (f.1 = pathShadow path)) =
      some (pathShadow path, at0)) ∧ (at0 + 64 ≤ s.clk.bak)) frozen (.spi) (0)) ∧
    ((fun (s : State) (path : Path) => (s.serves path = true) ∧ (s.bkd.powered = true)) frozen (.spi)) ∧
    ((fun (s : State) (path : Path) (almEn : Bool) => (s.serves path = true) ∧ (s.bkd.powered = true) ∧
      (s.bkd.commit = none)) up (.spi) (true)) ∧
    ((fun (s : State) (path : Path) (almEn : Bool) (sec : Nat) => (s.serves path = true) ∧ (s.bkd.powered = true) ∧
      (s.bkd.commit = none) ∧ (calendarOf (s.reg RTC_SET_TIME).toNat (s.reg RTC_SET_DATE).toNat = .inr sec)) dated
      (.spi) (false) (0)) := by
  refine ⟨?_, ?_, ?_, ?_, ?_, ?_, ?_, ?_⟩ <;> decide

theorem meets_BackupDomainCommands_2 :
    ((fun (s : State) (v : BitVec 36 × BitVec 15) => (s.bkd.powered = true) ∧ (s.bkd.commit = some v) ∧
      (s.bkd.commitAt + 1 ≤ s.clk.bak)) committed ((77, 0))) ∧
    ((fun (s : State)  => (s.bkd.powered = true)) up ) ∧
    ((fun (s : State) (millivolts : Nat) => (s.bkd.powered = true) ∧ (millivolts < 2070) ∧ (s.bkd.sampleAt ≤
      s.clk.bak)) up (2000)) ∧
    ((fun (s : State) (millivolts : Nat) => (s.bkd.powered = true) ∧ (2130 ≤ millivolts)) up (2130)) ∧
    ((fun (s : State) (millivolts : Nat) => (s.clk.bak < s.bkd.sampleAt)) sampled (2000)) ∧
    ((fun (s : State)  => (s.bkd.powered = true) ∧ (s.flag RTC_CTRL_ALM_EN = true) ∧ ((s.reg RTC_ALM_LO).toNat + 2 ^
      32 * s.fld RTC_ALM_HI_ALM_HI ≤ s.bkd.sec.toNat)) alarmed ) ∧
    ((fun (s : State) (input : Nat) (level : Bool) => (s.bkd.powered = true) ∧ (input < 4) ∧ (selects (s.fld
      (EVT_CFG_EDGE input)) level = true) ∧ (s.bkd.fifo.length < 16)) watchingInputs (1) (true)) ∧
    ((fun (s : State) (path : Path) => (s.serves path = true) ∧ (s.bkd.powered = true)) up (.spi)) := by
  refine ⟨?_, ?_, ?_, ?_, ?_, ?_, ?_, ?_⟩ <;> decide

theorem meets_BackupDomainCommands_3 :
    (fun (s : State) (path : Path) => (s.serves path = true) ∧ (s.bkd.powered = true)) up (.spi) := by
  decide

theorem meets_BrickCommandsComplete_1 :
    ((fun (s : State) (n : Nat) (held : List (Nat × BitVec 14)) => (s.active = true) ∧ (n < 16) ∧ (s.brk.length =
      16) ∧ (s.brkState n = brkRunning) ∧ (s.role n = 2) ∧ (s.instantDue n = true) ∧ (s.driven n = true) ∧ (s.flag
      (BRK_LANE_STAT_HOLD n) = false) ∧ ((s.brick n).commit = false) ∧ (s.currentCh n = none)) follower (1) ([])) ∧
    ((fun (s : State) (n : Nat) (held : List (Nat × BitVec 14)) => (s.active = true) ∧ (n < 16) ∧ (s.brk.length =
      16) ∧ (s.brkState n = brkRunning) ∧ (s.role n = 1) ∧ (s.leader n = n) ∧ (n ∈ s.members n) ∧ (s.instantDue n =
      true) ∧ (s.driven n = true) ∧ (s.flag (BRK_LANE_STAT_HOLD n) = false) ∧ ((s.brick n).updates ≠ 0) ∧ (s.kind n
      ≠ 10) ∧ (s.sessionOpen = false) ∧ (s.currentCh n = none)) leaderOn (0) ([])) ∧
    ((fun (s : State) (n : Nat) (lanes : LaneErrors) (held : List (Nat × BitVec 14)) => (s.active = true) ∧ (n < 16)
      ∧ (s.brk.length = 16) ∧ (s.brkState n = brkRunning) ∧ (s.role n = 1) ∧ (s.instantDue n = true) ∧ (s.flag
      (BRK_LANE_STAT_HOLD n) = true)) heldLeader (0) (⟨[⟨.e0, 3⟩], []⟩) ([])) ∧
    ((fun (s : State) (n : Nat) => (n < 16) ∧ (s.brk.length = 16) ∧ (s.coreRuns = true) ∧ (reached (s.brick
      n).settleAt s.clk.core = true) ∧ ((s.brick n).decided = false)) settling (0)) ∧
    ((fun (s : State) (n : Nat) (held : List (Nat × BitVec 14)) => (s.active = true) ∧ (n < 16) ∧ (switching
      (s.brkState n) = true) ∧ (s.role n = 3) ∧ (s.leaderInstant (s.leader n) = true) ∧ (s.follows n = true) ∧
      (s.flag (BRK_LANE_STAT_HOLD n) = false) ∧ ((s.brick n).holdBoth = false)) secondaryOn (1) ([])) ∧
    ((fun (s : State) (n : Nat) (at0 : Nat) => (n < 16) ∧ (s.brk.length = 16) ∧ (s.brkState n = brkRunning) ∧
      ((s.brick n).runSince = some at0) ∧ (at0 + 240000000 ≤ s.clk.core)) ranLong (0) (0)) ∧
    ((fun (s : State) (path : Path) (n : Nat) (data : Word) => (s.serves path = true) ∧ (n < 16) ∧ (s.brk.length =
      16) ∧ (s.sessionOpen = false) ∧ (s.brkRestricted n 0x18 = false) ∧ (data &&& 0xFFFE0000#32 = 0)) leading
      (.spi) (0) (0x1234)) ∧
    ((fun (s : State) (path : Path) (n : Nat) => (s.serves path = true) ∧ (n < 16) ∧ (s.brk.length = 16) ∧
      (s.brkRestricted n 0x38 = false) ∧ (s.stagedOk n = true) ∧ (switching (s.brkState n) = true)) coefRunning
      (.spi) (0)) := by
  refine ⟨?_, ?_, ?_, ?_, ?_, ?_, ?_, ?_⟩ <;> decide

theorem meets_BrickCommandsComplete_2 :
    ((fun (s : State) (path : Path) (n : Nat) => (s.serves path = true) ∧ (n < 16) ∧ (s.brk.length = 16) ∧
      (s.brkRestricted n 0x38 = false) ∧ (s.stagedOk n = true) ∧ (switching (s.brkState n) = false)) leading (.spi)
      (0)) ∧
    ((fun (s : State) (path : Path) (n : Nat) => (s.serves path = true) ∧ (n < 16) ∧ (s.brkRestricted n 0x38 =
      false)) leading (.spi) (0)) ∧
    ((fun (s : State) (path : Path) (n : Nat) => (s.serves path = true) ∧ (n < 16) ∧ (s.brkRestricted n 0x2F0 =
      false)) leading (.spi) (0)) ∧
    ((fun (s : State) (path : Path) (n : Nat) => (s.serves path = true) ∧ (n < 16) ∧ (s.brkRestricted n 0x2F0 =
      false)) leading (.spi) (0)) ∧
    ((fun (s : State) (n : Nat) (held : List (Nat × BitVec 14)) (a : Nat) (q : Nat) => (s.active = true) ∧ (n < 16)
      ∧ (s.brk.length = 16) ∧ (s.brkState n = brkRunning) ∧ (s.instantDue n = true) ∧ (s.driven n = true) ∧ (s.flag
      (BRK_LANE_STAT_HOLD n) = false) ∧ ((s.brick n).commit = false) ∧ ((s.brick n).fastIn = s.reg (BRK_FAST n)) ∧
      ((s.brick n).slowIn = s.reg (BRK_SLOW n)) ∧ ((s.brick n).i2tIn = s.reg (BRK_I2T_LIMIT n)) ∧ ((s.currentCh
      n).isSome = true) ∧ (s.average n = a) ∧ (q = (((s.fld (BRK_I2T_Q n) * 2 ^ 32 + (s.brick n).qFrac : Nat) : Int)
      + ((a : Int) * a - (s.slowThr n : Int) * s.slowThr n) * ((s.period n / s.updates n : Nat) : Int)).toNat) ∧
      (s.role n = 1) ∧ (s.leader n = n) ∧ (n ∈ s.members n) ∧ ((s.brick n).updates ≠ 0) ∧ (s.kind n ≠ 10) ∧
      (s.sessionOpen = false) ∧ (s.trigSrc ≠ n + 1) ∧ (q / 2 ^ 32 < (s.brick n).i2tIn.toNat)) ((sensed 1 20)) (0)
      ([]) (0) (0)) ∧
    ((fun (s : State) (n : Nat) (held : List (Nat × BitVec 14)) (a : Nat) (q : Nat) => (s.active = true) ∧ (n < 16)
      ∧ (s.brk.length = 16) ∧ (s.brkState n = brkRunning) ∧ (s.instantDue n = true) ∧ (s.driven n = true) ∧ (s.flag
      (BRK_LANE_STAT_HOLD n) = false) ∧ ((s.brick n).commit = false) ∧ ((s.brick n).fastIn = s.reg (BRK_FAST n)) ∧
      ((s.brick n).slowIn = s.reg (BRK_SLOW n)) ∧ ((s.brick n).i2tIn = s.reg (BRK_I2T_LIMIT n)) ∧ ((s.currentCh
      n).isSome = true) ∧ (s.average n = a) ∧ (q = (((s.fld (BRK_I2T_Q n) * 2 ^ 32 + (s.brick n).qFrac : Nat) : Int)
      + ((a : Int) * a - (s.slowThr n : Int) * s.slowThr n) * ((s.period n / s.updates n : Nat) : Int)).toNat) ∧
      (s.role n = 1) ∧ (s.leader n = n) ∧ (n ∈ s.members n) ∧ ((s.brick n).updates ≠ 0) ∧ (s.kind n ≠ 10) ∧
      (s.sessionOpen = false) ∧ (s.trigSrc ≠ n + 1) ∧ ((s.brick n).i2tIn.toNat ≤ q / 2 ^ 32)) ((sensed 1 0)) (0)
      ([]) (0) (0)) ∧
    ((fun (s : State) (n : Nat) (held : List (Nat × BitVec 14)) (a : Nat) (q : Nat) => (s.active = true) ∧ (n < 16)
      ∧ (s.brk.length = 16) ∧ (s.brkState n = brkRunning) ∧ (s.instantDue n = true) ∧ (s.driven n = true) ∧ (s.flag
      (BRK_LANE_STAT_HOLD n) = false) ∧ ((s.brick n).commit = false) ∧ ((s.brick n).fastIn = s.reg (BRK_FAST n)) ∧
      ((s.brick n).slowIn = s.reg (BRK_SLOW n)) ∧ ((s.brick n).i2tIn = s.reg (BRK_I2T_LIMIT n)) ∧ ((s.currentCh
      n).isSome = true) ∧ (s.average n = a) ∧ (q = (((s.fld (BRK_I2T_Q n) * 2 ^ 32 + (s.brick n).qFrac : Nat) : Int)
      + ((a : Int) * a - (s.slowThr n : Int) * s.slowThr n) * ((s.period n / s.updates n : Nat) : Int)).toNat) ∧
      (s.role n = 2) ∧ (q / 2 ^ 32 < (s.brick n).i2tIn.toNat)) ((sensed 2 20)) (1) ([]) (0) (0)) ∧
    ((fun (s : State) (n : Nat) (held : List (Nat × BitVec 14)) (a : Nat) (q : Nat) => (s.active = true) ∧ (n < 16)
      ∧ (s.brk.length = 16) ∧ (s.brkState n = brkRunning) ∧ (s.instantDue n = true) ∧ (s.driven n = true) ∧ (s.flag
      (BRK_LANE_STAT_HOLD n) = false) ∧ ((s.brick n).commit = false) ∧ ((s.brick n).fastIn = s.reg (BRK_FAST n)) ∧
      ((s.brick n).slowIn = s.reg (BRK_SLOW n)) ∧ ((s.brick n).i2tIn = s.reg (BRK_I2T_LIMIT n)) ∧ ((s.currentCh
      n).isSome = true) ∧ (s.average n = a) ∧ (q = (((s.fld (BRK_I2T_Q n) * 2 ^ 32 + (s.brick n).qFrac : Nat) : Int)
      + ((a : Int) * a - (s.slowThr n : Int) * s.slowThr n) * ((s.period n / s.updates n : Nat) : Int)).toNat) ∧
      (s.role n = 2) ∧ ((s.brick n).i2tIn.toNat ≤ q / 2 ^ 32)) ((sensed 2 0)) (1) ([]) (0) (0)) := by
  refine ⟨?_, ?_, ?_, ?_, ?_, ?_, ?_, ?_⟩ <;> decide

theorem meets_LaneAndLimitCommands_1 :
    ((fun (s : State) (n : Nat) (dataA : List (Nat × BitVec 32)) (dataB : List (Nat × BitVec 32)) (codeA : List (Nat
      × BitVec 7)) (codeB : List (Nat × BitVec 7)) => (n < 16) ∧ (s.brk.length = 16) ∧ (s.coreRuns = true) ∧ (s.role
      n ≠ 0) ∧ ((s.brick n).scrubAt + 240000 ≤ s.clk.core) ∧ (laneState s n .a ≤ 1) ∧ (laneState s n .b = 3) ∧
      (s.flag (BRK_LANE_EV_CORR_EV n) = false) ∧ ((scrubWords ((s.brick n).copy .a).store ⟨dataA, codeA⟩).lost =
      false) ∧ (storeCheck (scrubWords ((s.brick n).copy .a).store ⟨dataA, codeA⟩).words = ((s.brick n).copy
      .a).check) ∧ ((Upsets.mk dataA codeA).word ((s.brick n).copy .a).store.length = 0) ∧ (s.fld
      (BRK_LANE_A_CNT_CORR_CNT n) + (scrubWords ((s.brick n).copy .a).store ⟨dataA, codeA⟩).corrected ≤ 255))
      scrubbing (0) ([(2, 16)]) ([]) ([]) ([])) ∧
    ((fun (s : State) (n : Nat) => (n < 16) ∧ (s.flag (BRK_LANE_STAT_HOLD n) = true) ∧ ((s.brick n).holdBoth = true)
      ∧ (laneState s n .a = 1) ∧ (laneState s n .b = 1)) heldBoth (0)) ∧
    ((fun (s : State) (n : Nat) (lane : Lane) => (n < 16) ∧ ((s.brick n).testing.contains lane = true) ∧ (laneState
      s n lane = 2)) testing (0) (.b)) ∧
    ((fun (s : State) (n : Nat) (lane : Lane) => (n < 16) ∧ (s.brk.length = 16) ∧ ((s.brick n).rejoin = some lane) ∧
      (s.brkState n = brkRunning) ∧ (s.flag (BRK_LANE_STAT_HOLD n) = false) ∧ (s.periodStartDue n = true) ∧
      (laneState s n (otherLane lane) ≠ 0)) rejoiningLane (0) (.b)) ∧
    ((fun (s : State) (cs : CsSample) => (s.fastArmed cs.brick = true) ∧ (s.fastCrossed cs.brick cs.microvolts =
      true) ∧ (s.blankingOver cs.brick = true) ∧ (s.brk.length = 16)) fast (⟨0, 300000⟩)) ∧
    ((fun (s : State) (n : Nat) (microvolts : Nat) => (s.fastArmed n = true) ∧ (s.fastCrossed n microvolts = true) ∧
      (s.blankingOver n = true) ∧ (s.brk.length = 16)) fast (0) (300000)) ∧
    ((fun (s : State) (blocked : Bool) => (reached s.seq.retryAt s.clk.core = true)) retrying (true)) ∧
    ((fun (s : State)  => (reached s.seq.retryAt s.clk.core = true) ∧ (s.flag SEQ_FAULT_ACTIVE = true) ∧
      (s.jnl.onlyShorts = true) ∧ (s.anyViolation = false)) retrying ) := by
  refine ⟨?_, ?_, ?_, ?_, ?_, ?_, ?_, ?_⟩ <;> decide +kernel

theorem meets_LaneAndLimitCommands_2 :
    ((fun (s : State) (n : Nat) => (n < 16) ∧ (s.brk.length = 16) ∧ (s.flag (BRK_LANE_STAT_HOLD n) = true) ∧
      ((s.brick n).holdBoth = true) ∧ (laneState s n .a = 1) ∧ (laneState s n .b = 1)) heldBoth (0)) ∧
    ((fun (s : State) (n : Nat) (passA : Bool) (passB : Bool) (l : Lane) => (n < 16) ∧ (s.brk.length = 16) ∧ (s.flag
      (BRK_LANE_STAT_HOLD n) = true) ∧ ((s.brick n).holdBoth = true) ∧ (laneState s n .a = 1) ∧ (laneState s n .b =
      1) ∧ (passA = decide (l = .a)) ∧ (passB = decide (l = .b))) heldBoth (0) (false) (true) (.b)) ∧
    ((fun (s : State) (n : Nat) (l : Lane) => (n < 16) ∧ (s.brk.length = 16) ∧ (s.flag (BRK_LANE_STAT_HOLD n) =
      true) ∧ ((s.brick n).holdBoth = false) ∧ (s.driving n = l) ∧ (laneState s n l = 1) ∧ ((s.countTransient n l).2
      = false)) heldOne (0) (.b)) ∧
    ((fun (s : State) (n : Nat) (lane : Lane) => (n < 16) ∧ (s.brk.length = 16) ∧ ((s.brick n).testing.contains lane
      = true) ∧ (laneState s n lane = 2) ∧ ((s.countTransient n lane).2 = false)) testing (0) (.b)) ∧
    ((fun (s : State) (n : Nat) (lane : Lane) => (n < 16) ∧ (s.brk.length = 16) ∧ ((s.brick n).testing.contains lane
      = true) ∧ (laneState s n lane = 2) ∧ ((s.countTransient n lane).2 = true)) testingThird (0) (.b)) := by
  refine ⟨?_, ?_, ?_, ?_, ?_⟩ <;> decide +kernel

theorem meets_VcpCommandsComplete_1 :
    ((fun (s : State)  => (s.vcpUp = true) ∧ (s.fld VCP_ERR_CNT_FRAME_CNT + 1 < 65536)) vcp ) ∧
    ((fun (s : State)  => (s.vcpUp = true) ∧ (s.fld VCP_ERR_CNT_CRC_CNT + 1 < 65536)) vcp ) ∧
    ((fun (s : State) (n : Nat) (group : BitVec 8) (seq : BitVec 4) (value : VcpValue) => (s.vcpUp = true) ∧
      (s.groupOwner group.toNat = some n) ∧ (s.brkState n = brkRunning) ∧ (data24 (BitVec.ofNat 16
      (value.value.toNat % 65536)).toInt = value.value.toNat) ∧ (s.vcp.last.any (fun p => decide (p = (n, 1,
      seq.toNat, value.value.toNat))) = false) ∧ (s.sessionOpen = false)) vcp (0) (7) (3) (⟨100, false⟩)) ∧
    ((fun (s : State) (n : Nat) (group : BitVec 8) (seq : BitVec 4) (value : VcpValue) => (s.vcpUp = true) ∧
      (s.groupOwner group.toNat = some n) ∧ (s.brkState n = brkRunning) ∧ (data24 (BitVec.ofNat 16
      (value.value.toNat % 65536)).toInt = value.value.toNat) ∧ (s.vcp.last.any (fun p => decide (p = (n, 2,
      seq.toNat, value.value.toNat))) = false) ∧ (s.sessionOpen = false)) vcp (0) (7) (3) (⟨100, false⟩)) ∧
    ((fun (s : State) (n : Nat) (group : BitVec 8) (seq : BitVec 4) (value : VcpValue) => (s.vcpUp = true) ∧
      (s.groupOwner group.toNat = some n) ∧ (s.brkState n ≠ brkHalted) ∧ (value.value.toNat ≠ 0)) vcp (0) (7) (3)
      (⟨100, false⟩)) ∧
    ((fun (s : State) (n : Nat) (group : BitVec 8) (seq : BitVec 4) (value : VcpValue) => (s.vcpUp = true) ∧
      (s.groupOwner group.toNat = some n) ∧ (value.value = 0) ∧ (s.fld (recFld n seq.toNat) = ansPending))
      vcpPending (0) (7) (3) (⟨0, false⟩)) ∧
    ((fun (s : State) (n : Nat) (group : BitVec 8) (seq : BitVec 4) (value : VcpValue) => (s.vcpUp = true) ∧
      (s.groupOwner group.toNat = some n) ∧ (value.value = 1)) vcp (0) (7) (3) (⟨1, false⟩)) ∧
    ((fun (s : State) (command : BitVec 4) (n : Nat) (group : BitVec 8) (seq : BitVec 4) (value : VcpValue) =>
      (s.vcpUp = true) ∧ (s.groupOwner group.toNat = some n) ∧ (command = 0 ∨ 6 ≤ command.toNat)) vcp (9) (0) (7)
      (3) (⟨100, false⟩)) := by
  refine ⟨?_, ?_, ?_, ?_, ?_, ?_, ?_, ?_⟩ <;> decide

theorem meets_VcpCommandsComplete_2 :
    ((fun (s : State) (path : Path) => (s.serves path = true) ∧ (s.flag VCP_STAT_ACTIVE = false)) up (.spi)) ∧
    ((fun (s : State) (path : Path) => (s.serves path = true)) up (.spi)) ∧
    ((fun (s : State) (path : Path) => (s.serves path = true)) up (.spi)) := by
  refine ⟨?_, ?_, ?_⟩ <;> decide

theorem meets_CourseStepsComplete_1 :
    ((fun (s : State)  => (s.stepsCourse = true) ∧ (s.fld SEQ_STAT_DEV_COURSE < 254) ∧ ((s.courseActions (s.fld
      SEQ_STAT_DEV_COURSE + 1) false).all (fun a => a.op != 0) = true)) stepping ) ∧
    ((fun (s : State)  => (s.stepsCourse = true) ∧ (0 < s.fld SEQ_STAT_DEV_COURSE) ∧ ((s.courseActions (s.fld
      SEQ_STAT_DEV_COURSE) true).all (fun a => a.op != 0) = true)) course5 ) ∧
    ((fun (s : State)  => (s.stepsCourse = true) ∧ (s.fld SEQ_STAT_DEV_COURSE = 0)) stepping ) ∧
    ((fun (s : State)  => (s.onCourse = true) ∧ (s.lineIdle = true) ∧ (s.fld SEQ_CNT_LINE_CNT + 1 < 2 ^
      SEQ_CNT_LINE_CNT.width)) stepping ) ∧
    ((fun (s : State) (a : Action) (b : Action) (r : List Action) => (s.seq.todo = a :: b :: r) ∧ (b.op ≠ 0) ∧
      (s.nextAction 1 = some a) ∧ (a.target < 16) ∧ (s.brkState a.target = brkStopped) ∧ (s.cannotStart a.target =
      false) ∧ (a.target ∈ s.members a.target)) ((doing 1 0 100 leading)) (⟨1, false, 0, 100⟩) (⟨4, false, 0, 7⟩)
      ([])) ∧
    ((fun (s : State) (a : Action) (b : Action) (r : List Action) => (s.seq.todo = a :: b :: r) ∧ (b.op ≠ 0) ∧
      (s.nextAction 1 = some a) ∧ (a.target = 19) ∧ (bitsOf (s.fld SEQ_ON_RAIL) 19 1 = 0)) ((doing 1 19 0 up)) (⟨1,
      false, 19, 0⟩) (⟨4, false, 0, 7⟩) ([])) ∧
    ((fun (s : State) (a : Action) (b : Action) (r : List Action) => (s.seq.todo = a :: b :: r) ∧ (b.op ≠ 0) ∧
      (s.nextAction 2 = some a) ∧ (a.target < 16) ∧ (s.brkState a.target = brkRunning) ∧ (a.target ∈ s.members
      a.target)) ((doing 2 0 100 running)) (⟨2, false, 0, 100⟩) (⟨4, false, 0, 7⟩) ([])) ∧
    ((fun (s : State) (a : Action) (b : Action) (r : List Action) => (s.seq.todo = a :: b :: r) ∧ (b.op ≠ 0) ∧
      (s.nextAction 2 = some a) ∧ (a.target = 19)) ((doing 2 19 0 up)) (⟨2, false, 19, 0⟩) (⟨4, false, 0, 7⟩) ([])) := by
  refine ⟨?_, ?_, ?_, ?_, ?_, ?_, ?_, ?_⟩ <;> decide

theorem meets_CourseStepsComplete_2 :
    ((fun (s : State) (a : Action) (b : Action) (r : List Action) => (s.seq.todo = a :: b :: r) ∧ (b.op ≠ 0) ∧
      (s.nextAction 3 = some a) ∧ (s.flag (SEQ_RAIL_STAT_PG a.target) = false)) ((doing 3 0 100 up)) (⟨3, false, 0,
      100⟩) (⟨4, false, 0, 7⟩) ([])) ∧
    ((fun (s : State) (rail : Nat) (d : Nat) => (s.seq.wait = .pg rail d) ∧ (d ≤ s.clk.core) ∧ (s.flag
      SEQ_FAULT_ACTIVE = false)) waitingPg (0) (0)) ∧
    ((fun (s : State) (a : Action) (b : Action) (r : List Action) => (s.seq.todo = a :: b :: r) ∧ (b.op ≠ 0) ∧
      (s.nextAction 4 = some a)) ((doing 4 0 100 up)) (⟨4, false, 0, 100⟩) (⟨4, false, 0, 7⟩) ([])) ∧
    ((fun (s : State) (a : Action) (b : Action) (r : List Action) (d : Nat) => (s.seq.todo = a :: b :: r) ∧ (b.op ≠
      0) ∧ (s.seq.wait = .delay d) ∧ (d ≤ s.clk.core)) delaying (⟨4, false, 0, 100⟩) (⟨4, false, 0, 7⟩) ([]) (0)) ∧
    ((fun (s : State) (a : Action) (b : Action) (r : List Action) => (s.seq.todo = a :: b :: r) ∧ (b.op ≠ 0) ∧
      (s.nextAction 5 = some a)) ((doing 5 3 1 up)) (⟨5, false, 3, 1⟩) (⟨4, false, 0, 7⟩) ([])) ∧
    ((fun (s : State) (a : Action) (b : Action) (r : List Action) => (s.seq.todo = a :: b :: r) ∧ (b.op ≠ 0) ∧
      (s.nextAction 6 = some a) ∧ (a.target < 16) ∧ (s.sessionOpen = false)) ((doing 6 0 500 leading)) (⟨6, false,
      0, 500⟩) (⟨4, false, 0, 7⟩) ([])) ∧
    ((fun (s : State) (a : Action) (b : Action) (r : List Action) => (s.seq.todo = a :: b :: r) ∧ (b.op ≠ 0) ∧
      (s.nextAction 7 = some a) ∧ (s.pins.dswG ≠ .high) ∧ (s.moduleMissing = false)) ((doing 7 0 100 up)) (⟨7,
      false, 0, 100⟩) (⟨4, false, 0, 7⟩) ([])) ∧
    ((fun (s : State) (a : Action) (b : Action) (r : List Action) => (s.seq.todo = a :: b :: r) ∧ (b.op ≠ 0) ∧
      (s.nextAction 8 = some a)) ((doing 8 0 0 up)) (⟨8, false, 0, 0⟩) (⟨4, false, 0, 7⟩) ([])) := by
  refine ⟨?_, ?_, ?_, ?_, ?_, ?_, ?_, ?_⟩ <;> decide

theorem meets_CourseStepsComplete_3 :
    ((fun (s : State)  => (s.active = true) ∧ (s.seq.out = true) ∧ (s.seq.timeline = false)) outDevice ) ∧
    ((fun (s : State)  => (s.active = true) ∧ (s.seq.out = true) ∧ (s.seq.timeline = false)) outDevice ) ∧
    ((fun (s : State) (a : Action) (r : List Action) => (s.seq.todo = a :: r) ∧ (s.seq.kind = .step) ∧ (a.cascaded =
      true) ∧ (s.seq.cascSeen = false) ∧ (s.seq.wait = .none) ∧ (s.seq.stepAt + s.fld SEQ_TMO_CASC_TMO * 240000 ≤
      s.clk.core) ∧ (s.flag SEQ_FAULT_ACTIVE = false)) cascWaiting (⟨1, true, 0, 0⟩) ([])) ∧
    ((fun (s : State) (c : Nat) => (s.stepsCourse = true) ∧ (s.fld SEQ_STAT_DEV_COURSE = c) ∧ (0 < c) ∧
      ((s.floorActions c).any (fun a => a.op != 0) = true)) floorAt2 (2)) ∧
    ((fun (s : State) (c : Nat) => (s.stepsCourse = true) ∧ (s.fld SEQ_STAT_DEV_COURSE = c) ∧ (0 < c) ∧
      ((s.floorActions c).all (fun a => a.op == 0) = true)) floorBare (5)) := by
  refine ⟨?_, ?_, ?_, ?_, ?_⟩ <;> decide

theorem meets_HeadAndLineCommands_1 :
    ((fun (s : State) (path : Path) (target : BitVec 8) => (s.serves path = true) ∧ (s.courseMaster = true) ∧
      (target.toNat ≤ 254) ∧ (target.toNat ≤ s.fld SEQ_STAT_STR_COURSE)) solo5 (.spi) (3)) ∧
    ((fun (s : State) (path : Path) (target : BitVec 8) => (s.serves path = true) ∧ (s.courseMaster = true) ∧
      (target.toNat ≤ 254)) solo5 (.spi) (3)) ∧
    ((fun (s : State)  => (s.active = true) ∧ (s.courseMaster = true) ∧ (s.trunked = false) ∧ (s.seq.stepping =
      false) ∧ (s.seq.headStep = none) ∧ (s.seq.rejoining = []) ∧ (s.seq.kind = .none) ∧ (s.onCourse = true) ∧
      (s.lineIdle = true) ∧ (s.seq.lines.any (fun p => decide (2 ≤ p.2)) = false) ∧ (s.fld SEQ_STAT_STR_COURSE <
      s.fld SEQ_CMD_TARGET) ∧ (s.seq.floorReq = false) ∧ (s.fld SEQ_STAT_LINE_FAULT = 0)) soloUp ) ∧
    ((fun (s : State)  => (s.active = true) ∧ (s.pins.courseHigh = false) ∧ (s.pins.courseHold = false) ∧
      (s.actsHead = false) ∧ (s.seq.tookHold = true)) lineLow ) ∧
    ((fun (s : State) (course : Framed (BitVec 8)) (down : Bool) => (s.takesIn course.head = true) ∧ (s.unaddressed
      = false) ∧ (s.isHead = false) ∧ (s.seq.out = false) ∧ (s.fld SEQ_STAT_DEV_COURSE = course.body.toNat) ∧
      (s.flag SEQ_STAT_DIR = down)) member (⟨⟨0, 2, 0, 4, 1⟩, 0⟩) (false)) ∧
    ((fun (s : State) (course : Framed (BitVec 8)) (down : Bool) (o : Nat) => (s.takesIn course.head = true) ∧
      (s.unaddressed = true ∨ s.isHead = true) ∧ (course.head.mode = 2) ∧ (course.head.hops.toNat < 63) ∧ (o =
      course.head.port.toNat + 1 - 2 * (course.head.port.toNat % 2)) ∧ (s.portUp o = true) ∧ (s.clk.onRc = false))
      newcomer (⟨⟨0, 2, 0, 4, 1⟩, 0⟩) (false) (1)) ∧
    ((fun (s : State) (address : BitVec 12) (course : BitVec 8) (down : Bool) (status : BitVec 2) (rejoin : Bool) =>
      (s.active = true) ∧ (s.unaddressed = false) ∧ (s.isHead = true) ∧ (address.toNat / 64 = s.ownString) ∧
      (s.seq.confirmEnd.isSome = true) ∧ (s.solo = false)) headConfirming (2) (0) (false) (1) (false)) ∧
    ((fun (s : State) (c : Nat) (down : Bool) => (s.seq.headStep = some (c, down)) ∧ (reached s.seq.confirmEnd
      s.clk.core = true)) headConfirming (1) (false)) := by
  refine ⟨?_, ?_, ?_, ?_, ?_, ?_, ?_, ?_⟩ <;> decide

theorem meets_HeadAndLineCommands_2 :
    ((fun (s : State)  => (reached s.seq.confirmBy s.clk.core = true)) confirmLate ) ∧
    ((fun (s : State) (course : Framed (BitVec 8)) (down : Bool) => (s.takesIn course.head = true) ∧ (s.onCourse =
      true) ∧ (s.actsHead = true) ∧ (s.lineIdle = true) ∧ (s.seq.rejoining = []) ∧ (s.seq.kind = .none) ∧
      (s.courseMaster = false) ∧ (s.fld SEQ_STAT_LINE_FAULT = 0)) head (⟨⟨2, 4, 64, 4, 1⟩, 2⟩) (false)) ∧
    ((fun (s : State) (address : HeadReport) => (s.active = true) ∧ (s.courseMaster = true) ∧ (s.seq.stepping =
      true) ∧ (s.trunked = true) ∧ (address.course.toNat = s.seq.sysCourse) ∧ (address.down = s.seq.sysDown) ∧
      ((List.range (max (s.fld LNK_ADDR_NSTR) 1)).all (fun k => (address.address.toNat / 64 :: s.seq.heads).contains
      k) = false)) keystoneStep (⟨64, BitVec.ofNat 8 keystoneStep.seq.sysCourse, keystoneStep.seq.sysDown⟩)) ∧
    ((fun (s : State) (address : HeadReport) => (address.course.toNat ≠ s.seq.sysCourse ∨ address.down ≠
      s.seq.sysDown)) keystoneStep (⟨64, 200, false⟩)) ∧
    ((fun (s : State) (at0 : Nat) => (s.seq.stepping = true) ∧ (s.allHeads = false) ∧ (s.seq.trunkAt = some at0) ∧
      (at0 + s.fld SEQ_TMO_STEP_TMO * 240000 ≤ s.clk.core) ∧ (s.flag SEQ_STAT_DESCENT = false)) keystoneLate (0)) ∧
    ((fun (s : State) (path : Path) => (s.serves path = true) ∧ (s.flag SEQ_FAULT_ACTIVE = true)) fallen (.spi)) ∧
    ((fun (s : State) (path : Path) (a : Action) (r : List Action) => (s.serves path = true) ∧ (s.flag
      SEQ_FAULT_ACTIVE = false) ∧ (s.seq.out = true) ∧ (s.seq.kind = .none) ∧ (0 < s.stringCourse) ∧
      (s.rejoinActions s.stringCourse = a :: r) ∧ (a.op ≠ 0)) rejoinable (.spi) (⟨4, false, 0, 5⟩) ([courseMark 1])) ∧
    ((fun (s : State) (path : Path) => (s.serves path = true) ∧ (s.flag SEQ_FAULT_ACTIVE = true) ∧ (s.anyViolation =
      false)) fallen (.spi)) := by
  refine ⟨?_, ?_, ?_, ?_, ?_, ?_, ?_, ?_⟩ <;> decide

theorem meets_HeadAndLineCommands_3 :
    ((fun (s : State) (path : Path) => (s.serves path = true) ∧ (s.pins.courseHigh = true)) up (.spi)) ∧
    ((fun (s : State) (path : Path) => (s.serves path = true)) up (.spi)) ∧
    ((fun (s : State) (at0 : Nat) => (s.pins.courseHigh = false) ∧ (s.actsHead = true) ∧ (s.seq.pulseAt = some at0)
      ∧ (at0 + s.fld SEQ_TMO_STEP_TMO * 240000 ≤ s.clk.core)) stuckLow (0)) ∧
    ((fun (s : State)  => (s.active = true) ∧ (s.portOn s.floorFrame.1.port.toNat = true) ∧ (s.unaddressed = false)
      ∧ (s.isHead = false) ∧ (s.seq.out = true)) memberOut ) ∧
    ((fun (s : State) (a : Action) (r : List Action) => (s.active = true) ∧ (s.portOn s.floorFrame.1.port.toNat =
      true) ∧ (s.unaddressed = false) ∧ (s.isHead = false) ∧ (s.seq.out = false) ∧ (s.floorActions (s.fld
      SEQ_STAT_DEV_COURSE) = a :: r) ∧ (a.op ≠ 0)) memberUp (⟨4, false, 0, 0⟩) ([courseMark 0])) ∧
    ((fun (s : State) (address : BitVec 12) => (s.active = true) ∧ (s.actsHead = true) ∧ (s.seq.floorGiven = true) ∧
      (s.seq.kind ≠ .none)) headFloor (2)) ∧
    ((fun (s : State) (address : BitVec 12) (state : BitVec 2) => (s.linked = true) ∧ (s.courseMaster = true))
      keystone (64) (1)) := by
  refine ⟨?_, ?_, ?_, ?_, ?_, ?_, ?_⟩ <;> decide

theorem meets_SupervisionCommands :
    ((fun (s : State) (rail : Nat) (microvolts : List Nat) => (16 ≤ rail) ∧ (rail ≤ 20) ∧ (s.railsRun = true) ∧
      (s.ovArmed rail = true) ∧ (microvolts.length = 8) ∧ (∀ u ∈ microvolts, railCodeUv rail * s.railOv rail < (u :
      Int)) ∧ (s.seq.viol.any (fun p => decide (p.1 = rail)) = false) ∧ (s.flag SEQ_FAULT_ACTIVE = false)) up (16)
      ((List.replicate 8 9000000))) ∧
    ((fun (s : State) (rail : Nat) (microvolts : List Nat) (above : Bool) (k : Nat) => (s.active = true) ∧ (rail <
      16) ∧ ((if above then s.ovArmed rail else s.uvArmed rail) = true) ∧ (s.seq.viol.find? (fun p => decide (p.1 =
      rail)) = some (rail, above, k, false)) ∧ (4 ≤ k) ∧ (s.flag SEQ_FAULT_ACTIVE = false)) violating (0) ([])
      (true) (4)) ∧
    ((fun (s : State) (rail : Nat) (d : Nat) => (s.active = true) ∧ (rail < 16) ∧ (s.railIsOn rail = true) ∧ (s.flag
      (SEQ_RAIL_STAT_PG rail) = false) ∧ (s.seq.pgRun.find? (fun p => decide (p.1 = rail)) = some (rail, d)) ∧ (d ≤
      s.clk.core) ∧ (s.seq.wait = .none)) pgDue (0) (0)) ∧
    ((fun (s : State) (up : Bool) (dn : Bool) => (s.active = true)) up (true) (true)) ∧
    ((fun (s : State) (vsys : Nat) => (s.active = true) ∧ (vsys < 5320) ∧ (s.flag SEQ_STAT_SUP_LOW = false)) up
      (5000)) ∧
    ((fun (s : State) (vsys : Nat) => (s.active = true) ∧ (5680 < vsys) ∧ (s.flag SEQ_STAT_SUP_LOW = true))
      lowSupply (6000)) ∧
    ((fun (s : State) (address : BitVec 12) (low : Bool) => (s.linked = true) ∧ (s.courseMaster = true)) keystone
      (1) (true)) ∧
    ((fun (s : State) (code : BitVec 16) (source : FrameHead) (unaddressed : Bool) => (s.active = true) ∧ (s.portOn
      source.port.toNat = true) ∧ (s.unaddressed = false) ∧ (unaddressed = true ∨ s.ownReturn source = false) ∧
      ((s.firstCopy 0x50 (if unaddressed then 0x8000 else source.address.toNat) source.tag.toNat).1 = true) ∧
      (s.flag SEQ_FAULT_ACTIVE = false)) member (0x0521) (⟨0, 3, 3, 0, 1⟩) (false)) := by
  refine ⟨?_, ?_, ?_, ?_, ?_, ?_, ?_, ?_⟩ <;> decide

theorem meets_MeasurementCommandsComplete_1 :
    ((fun (s : State) (held : List (Nat × BitVec 14)) => (s.active = true) ∧ (s.onGrid = true) ∧ (timeReached
      (instant s.gridNum 60000000) s.now = true) ∧ (s.msr.senseEnd ≤ s.convNow)) gridDue ([])) ∧
    ((fun (s : State) (held : List (Nat × BitVec 14)) => (s.active = true) ∧ (s.trigSrc = 17) ∧ (s.gpioFunc 0 = 5) ∧
      (s.flag MSR_STAT_TRIG_FB = false) ∧ (s.msr.senseEnd ≤ s.convNow)) extTrig ([])) ∧
    ((fun (s : State)  => (s.active = true) ∧ (s.trigSrc = 17) ∧ (s.flag MSR_STAT_TRIG_FB = false) ∧ (s.msr.extAt +
      60000 ≤ s.convNow)) extTrigLate ) ∧
    ((fun (s : State) (adc : BitVec 2) (f : InFlight) (r : List InFlight) => (s.msr.pipe.getD adc.toNat [] = f :: r)
      ∧ (f.start + 8 ≤ s.convNow) ∧ (f.clipped = false) ∧ (f.conv = .ref)) ((converting 1 .ref)) (1) ((flight .ref))
      ([])) ∧
    ((fun (s : State) (adc : BitVec 2) (f : InFlight) (r : List InFlight) (i : Nat) => (s.msr.pipe.getD adc.toNat []
      = f :: r) ∧ (f.start + 8 ≤ s.convNow) ∧ (f.clipped = false) ∧ (f.conv = .hk i) ∧ (i < 30)) ((converting 3 (.hk
      4))) (3) ((flight (.hk 4))) ([]) (4)) ∧
    ((fun (s : State) (adc : BitVec 2) (f : InFlight) (r : List InFlight) (ch : Nat) => (s.msr.pipe.getD adc.toNat
      [] = f :: r) ∧ (f.start + 8 ≤ s.convNow) ∧ (f.clipped = false) ∧ (f.conv = .sense ch) ∧ (ch < 24))
      ((converting 0 (.sense 3))) (0) ((flight (.sense 3))) ([]) (3)) ∧
    ((fun (s : State)  => (s.blockFull = true)) blockReady ) ∧
    ((fun (s : State) (path : Path) => (s.serves path = true)) up (.spi)) := by
  refine ⟨?_, ?_, ?_, ?_, ?_, ?_, ?_, ?_⟩ <;> decide

theorem meets_MeasurementCommandsComplete_2 :
    ((fun (s : State) (d : Nat) => (s.active = true) ∧ (s.msr.hkNext = some d) ∧ (d ≤ s.clk.core)) hkDue (0)) ∧
    ((fun (s : State) (held : List (Nat × BitVec 14)) (d : Nat) => (s.active = true) ∧ (s.msr.hkWait = some d) ∧ (d
      + 240000 ≤ s.clk.core)) hkWaiting ([]) (0)) ∧
    ((fun (s : State)  => (s.msr.hkBusy = true) ∧ (32 ≤ s.msr.hkVals.length) ∧ (s.msr.hkRef = false)) hkFull ) ∧
    ((fun (s : State) (path : Path) (stream : BitVec 4) (data : Word) => (s.serves path = true) ∧ (s.flag
      (MSR_DMA_CFG_EN stream.toNat) = false) ∧ (data.getLsbD 31 = true) ∧ (data &&& 0x0F000000#32 = 0) ∧ (bitsOf
      data.toNat 28 3 ≤ 2) ∧ (s.streamOk stream.toNat (bitsOf data.toNat 28 3) (bitsOf data.toNat 0 24) = true))
      streamSet (.spi) (0) (0xA0000000)) ∧
    ((fun (s : State) (path : Path) (stream : BitVec 4) => (s.serves path = true)) up (.spi) (2)) ∧
    ((fun (s : State) (path : Path) (data : Word) => (s.serves path = true) ∧ (s.tdacRefused data = false) ∧ (lowest
      (reservedBit (fieldsOf MSR_TDAC) data) none = none)) up (.spi) (0x123)) ∧
    ((fun (s : State) (path : Path) => (s.serves path = true) ∧ (s.flag MSR_OW_STAT_BUSY = false) ∧ (s.owFits (s.fld
      MSR_OW_CFG_WINDOW) = true) ∧ (s.fld MSR_OW_CFG_FIRST ≤ s.fld MSR_OW_CFG_LAST) ∧ (s.fld MSR_OW_CFG_LAST ≤
      s.cells) ∧ (s.cel.window.isNone = true)) owReady (.spi)) ∧
    ((fun (s : State) (path : Path) => (s.serves path = true) ∧ (s.msr.ow ≠ .idle)) ((owAs .window)) (.spi)) := by
  refine ⟨?_, ?_, ?_, ?_, ?_, ?_, ?_, ?_⟩ <;> decide

theorem meets_MeasurementCommandsComplete_3 :
    ((fun (s : State)  => (s.msr.owAt ≤ s.clk.core) ∧ (s.msr.ow = .window) ∧ (8 ≤ s.msr.owRounds.length)) ((owAs
      .window)) ) ∧
    ((fun (s : State)  => (s.msr.ow = .gap) ∧ (s.msr.owAt ≤ s.clk.core) ∧ (s.msr.owTap < s.msr.owLast)) ((owAs
      .gap)) ) ∧
    ((fun (s : State) (path : Path) => (s.serves path = true)) up (.spi)) := by
  refine ⟨?_, ?_, ?_⟩ <;> decide

theorem meets_ThermalCommandsComplete :
    ((fun (s : State) (sensor : Nat) => (sensor < 13) ∧ (s.senBroken sensor = false) ∧ (s.flagDue sensor = true))
      sensing (0)) ∧
    ((fun (s : State) (sensor : Nat) => (sensor < 13) ∧ (s.senBroken sensor = true) ∧ (s.flagDue sensor = true))
      sensorBack (0)) ∧
    ((fun (s : State) (sensor : Nat) => (sensor < 13) ∧ (s.senPriv sensor = true) ∧ (s.senBroken sensor = true) ∧
      (s.flagDue sensor = false) ∧ (6000 ≤ (s.sensor sensor).broken)) privBroken (0)) ∧
    ((fun (s : State) (sensor : Nat) => (sensor < 13) ∧ (s.senCounted sensor = true) ∧ (s.flagDue sensor = false) ∧
      (3 ≤ (s.sensor sensor).hotRun) ∧ (s.flag SEQ_FAULT_ACTIVE = false)) tooHot (0)) ∧
    ((fun (s : State)  => (s.thm.evalDue = true) ∧ ((List.range 13).any s.flagDue = false) ∧ ((List.range 13).any
      s.senHot = true) ∧ (s.fld THM_STAT_K < 15)) hotSensor ) ∧
    ((fun (s : State)  => (s.flag THM_STAT_THM_LOCK = true) ∧ (s.thm.resetDue = false) ∧ (((List.range 13).filter
      s.senCounted).all (fun i => decide (6000 ≤ (s.sensor i).cool)) = true) ∧ ((List.range 13).all (fun i =>
      !(s.senPriv i && s.senBroken i)) = true)) thermLocked ) := by
  refine ⟨?_, ?_, ?_, ?_, ?_, ?_⟩ <;> decide

theorem meets_CellCommandsComplete_weak :
    (fun (s : State) (w : Window) => (s.cel.window.isSome = true) ∧ ((forEach s.lateRounds State.lockIn
      s).cel.window = some w) ∧ (w.j < 16) ∧ (s.msReached (w.a + 2 * windowMs w.j) = true) ∧ (s.celIGain ≠ 0) ∧
      (w.disturbed = 0) ∧ (4 * (16 + w.slot) ≤ w.rounds) ∧ (s.ampSquare w < (if w.active then (w.amp : Rat) *
      s.celIGain / 65536 / 2 else (s.iMin : Rat) * ((s.capacity : Rat) / 10)) * (if w.active then (w.amp : Rat) *
      s.celIGain / 65536 / 2 else (s.iMin : Rat) * ((s.capacity : Rat) / 10)))) ((windowWith 50 64 (0, 0)))
      ((winWith 64 (0, 0))) := by
  have h : State.ampSquare (windowWith 50 64 (0, 0)) (winWith 64 (0, 0)) = 0 := by simp [State.ampSquare, winWith]
  refine ⟨by decide, by decide, by decide, by decide, by decide, by decide, by decide, ?_⟩
  rw [h]
  decide +kernel

theorem meets_CellCommandsComplete_valid :
    (fun (s : State) (w : Window) (c : Nat) => (s.cel.window.isSome = true) ∧ ((forEach s.lateRounds State.lockIn
      s).cel.window = some w) ∧ (w.j < 16) ∧ (s.msReached (w.a + 2 * windowMs w.j) = true) ∧ (s.celIGain ≠ 0) ∧
      (w.disturbed = 0) ∧ (4 * (16 + w.slot) ≤ w.rounds) ∧ ((if w.active then (w.amp : Rat) * s.celIGain / 65536 / 2
      else (s.iMin : Rat) * ((s.capacity : Rat) / 10)) * (if w.active then (w.amp : Rat) * s.celIGain / 65536 / 2
      else (s.iMin : Rat) * ((s.capacity : Rat) / 10)) ≤ s.ampSquare w) ∧ (w.accI ≠ (0, 0)) ∧ (c < s.cells) ∧ (c <
      32) ∧ (w.held.contains c = false)) ((windowWith 0 64 (2 ^ 70, 0))) ((winWith 64 (2 ^ 70, 0))) (1) := by
  have h : 0 ≤ State.ampSquare (windowWith 0 64 (2 ^ 70, 0)) (winWith 64 (2 ^ 70, 0)) := by
    unfold State.ampSquare
    split
    · exact Rat.le_refl
    · refine Rat.mul_nonneg (square_nonneg _) (Rat.intCast_nonneg.2 (by decide))
  refine ⟨by decide, by decide, by decide, by decide, by decide, by decide, by decide, Rat.le_trans ?_ h, by decide, by decide,
    by decide, by decide⟩
  decide +kernel

theorem meets_CellCommandsComplete_1 :
    ((fun (s : State)  => (s.active = true) ∧ (0 < s.cells) ∧ (s.exciteMode ≠ 0) ∧ (s.freqMask ≠ 0) ∧ (s.freqMask <
      65536) ∧ (s.flag CEL_STAT_SWEEP = false) ∧ (s.cel.lastStart.getD 0 ≤ 1000 * (s.secNow / s.sweepPeriod *
      s.sweepPeriod))) sweepDue ) ∧
    ((fun (s : State) (path : Path) => (s.serves path = true)) sweepDue (.spi)) ∧
    ((fun (s : State) (j : Nat) (a : Nat) => (s.nextLeadIn = some (j, a)) ∧ (s.leadInDue = true) ∧ (j < 16))
      sweeping (3) (0)) ∧
    ((fun (s : State) (w : Window) => (s.cel.window = some w) ∧ (w.measuring = false) ∧ (s.msReached (w.a + windowMs
      w.j) = true)) ((windowAs false)) (win0)) ∧
    ((fun (s : State) (w : Window) => (s.cel.window = some w) ∧ (s.msReached (w.a + 2 * windowMs w.j) = true))
      ((windowAs true)) ({ win0 with measuring := true })) ∧
    ((fun (s : State)  => (s.active = true) ∧ (0 < s.cells) ∧ (s.celIGain ≠ 0) ∧ (s.restT ≤ s.cel.restFor)) resting
      ) ∧
    ((fun (s : State) (path : Path) => (s.serves path = true)) up (.spi)) ∧
    ((fun (s : State)  => (s.active = true) ∧ (s.jnl.searching = false) ∧ (s.flag CEL_STAT_RESTORED = false))
      restoringCells ) := by
  refine ⟨?_, ?_, ?_, ?_, ?_, ?_, ?_, ?_⟩ <;> decide

theorem meets_CellCommandsComplete_2 :
    ((fun (s : State) (path : Path) (cell : BitVec 5) (bin : BitVec 6) => (s.serves path = true)) up (.spi) (2) (5)) ∧
    ((fun (s : State)  => (s.active = true) ∧ (0 < s.cells) ∧ (s.cel.balSec ≠ s.secNow)) balancing ) ∧
    ((fun (s : State)  => (reached s.cel.onEnd s.clk.core = true)) balOn ) ∧
    ((fun (s : State) (agree : Bool) (w : Window) => (s.cel.window.isSome = true) ∧ ((forEach s.lateRounds
      State.lockIn s).cel.window = some w) ∧ (w.j < 16) ∧ (s.msReached (w.a + 2 * windowMs w.j) = true) ∧
      (s.celIGain = 0)) ((windowNoScale)) (true) ({ win0 with measuring := true })) ∧
    ((fun (s : State) (agree : Bool) (w : Window) => (s.cel.window.isSome = true) ∧ ((forEach s.lateRounds
      State.lockIn s).cel.window = some w) ∧ (w.j < 16) ∧ (s.msReached (w.a + 2 * windowMs w.j) = true) ∧
      (s.celIGain ≠ 0) ∧ (agree = false ∨ w.disturbed ≠ 0)) ((windowAs true)) (false) ({ win0 with measuring := true
      })) ∧
    ((fun (s : State) (w : Window) => (s.cel.window.isSome = true) ∧ ((forEach s.lateRounds State.lockIn
      s).cel.window = some w) ∧ (w.j < 16) ∧ (s.msReached (w.a + 2 * windowMs w.j) = true) ∧ (s.celIGain ≠ 0) ∧
      (w.disturbed = 0) ∧ (w.rounds < 4 * (16 + w.slot))) ((windowAs true)) ({ win0 with measuring := true })) ∧
    ((fun (s : State) (c : Nat) => (s.active = true) ∧ (0 < s.cells) ∧ (s.cel.balSec ≠ s.secNow) ∧ (c < 32) ∧
      (s.flag CEL_BAL_CTRL_HOST = true)) balancingByHost (1)) ∧
    ((fun (s : State)  => (s.active = true) ∧ (0 < s.cells) ∧ (s.cel.balSec ≠ s.secNow) ∧ (s.flag CEL_BAL_CTRL_HOST
      = false) ∧ (s.balMode = 0 ∨ s.balAllowed = false)) balancing ) := by
  refine ⟨?_, ?_, ?_, ?_, ?_, ?_, ?_, ?_⟩ <;> decide

theorem meets_CellCommandsComplete_3 :
    ((fun (s : State) (c : Nat) (k : Nat) (low : Int) => (s.active = true) ∧ (0 < s.cells) ∧ (s.cel.balSec ≠
      s.secNow) ∧ (s.flag CEL_BAL_CTRL_HOST = false) ∧ (s.balMode ≠ 0) ∧ (s.balAllowed = true) ∧ (k < s.cells) ∧
      (s.openCell k = false) ∧ (low = s.sfld (MSR_CELL_V k)) ∧ (∀ i : Nat, i < s.cells → s.openCell i = false → low
      ≤ s.sfld (MSR_CELL_V i)) ∧ (c < s.cells) ∧ (c < 32)) balancingAuto (1) (0) (3000000)) ∧
    ((fun (s : State) (pct : Nat) => (s.active = true) ∧ (0 < s.cells) ∧ (s.cel.balSec ≠ s.secNow) ∧ (s.cel.window =
      none) ∧ (s.msr.ow = .idle) ∧ (s.leadInDue = false) ∧ (pct = s.balDuty * (16 - s.fld THM_STAT_K) / 16) ∧ (pct ≠
      0)) balancingAuto (50)) ∧
    ((fun (s : State)  => (s.active = true) ∧ (0 < s.cells) ∧ (s.cel.balSec ≠ s.secNow) ∧ (s.balMode ≠ 2)) balancing
      ) := by
  refine ⟨?_, ?_, ?_⟩ <;> decide

theorem meets_ChargeAndPathCommands_1 :
    ((fun (s : State) (b : Bool) => (s.pathRuns = true) ∧ (s.cpm.handover = none) ∧ (s.qualified b = false) ∧
      (s.qualDue b = true)) ((atRc 2000000 up)) (false)) ∧
    ((fun (s : State) (b : Bool) => (s.pathRuns = true) ∧ (s.qualified b = true) ∧ (s.cpm.handover = none) ∧ (s.fld
      CPM_PP_STAT_USE = useCode b) ∧ (s.qualified (!b) = true)) bothSources (false)) ∧
    ((fun (s : State) (b : Bool) => (s.pathRuns = true) ∧ (s.qualified b = true)) bothSources (false)) ∧
    ((fun (s : State) (b : Bool) => (s.cpm.handover = some b) ∧ (s.flag CPM_PP_CTRL_PREF = b)) handing (false)) ∧
    ((fun (s : State) (b : Bool) (at0 : Nat) => (s.flag (longFld b) = true) ∧ (s.qualified b = true) ∧ ((if b then
      s.cpm.longB else s.cpm.longA) = some at0) ∧ (at0 + 600000000 ≤ s.clk.rc)) longQual (false) (0)) ∧
    ((fun (s : State) (path : Path) (pref : Bool) (auxMode : Bool) => (s.serves path = true)) up (.spi) (true)
      (false)) ∧
    ((fun (s : State) (at0 : Nat) => (s.probeWatches = true) ∧ (s.cpm.t50Done = false) ∧ (s.t50Ticks <
      s.cpm.probeTime) ∧ (s.cpm.probeAt = some at0) ∧ (at0 + s.t50Ticks ≤ s.clk.core) ∧ (s.probeReached
      s.probeSample 1 2 = true)) probing (0)) ∧
    ((fun (s : State) (at0 : Nat) => (s.cpm.probeAt = some at0) ∧ (at0 + s.cpm.probeTime ≤ s.clk.core) ∧
      (s.probeWatches = false)) probingBlind (0)) := by
  refine ⟨?_, ?_, ?_, ?_, ?_, ?_, ?_, ?_⟩ <;> decide +kernel

theorem meets_ChargeAndPathCommands_2 :
    ((fun (s : State) (at0 : Nat) (a : Action) (b : Action) (r : List Action) => (s.cpm.closedAt = some at0) ∧ (at0
      + 2400000 ≤ s.clk.core) ∧ (s.seq.wait = .module) ∧ (s.seq.todo = a :: b :: r) ∧ (b.op ≠ 0)) closedLong (0)
      (⟨7, false, 0, 100⟩) (⟨4, false, 0, 7⟩) ([])) ∧
    ((fun (s : State)  => (s.active = true) ∧ (s.cpm.pressAt = none) ∧ (s.cpm.switchAt = none) ∧ (s.cpm.ship =
      false)) up ) ∧
    ((fun (s : State) (at0 : Nat) => (s.active = true) ∧ (s.cpm.pressAt = some at0) ∧ (s.pressTicks at0 ≤ 30000000))
      pressed (0)) ∧
    ((fun (s : State) (at0 : Nat) => (s.active = true) ∧ (s.cpm.pressAt = some at0) ∧ (75000000 ≤ s.pressTicks at0))
      pressedLong (0)) ∧
    ((fun (s : State) (path : Path) => (s.serves path = true) ∧ (s.startRefusal = 0)) chargeable (.spi)) ∧
    ((fun (s : State) (path : Path) => (s.serves path = true) ∧ (s.sessionOpen = true)) charging (.spi)) ∧
    ((fun (s : State)  => (s.sessionOpen = true) ∧ (s.chgMode ≤ 1) ∧ (s.cpm.evaluated ≠ s.nowU * 100 / 2 ^ 28))
      charging ) ∧
    ((fun (s : State) (d : Nat) => (s.sessionOpen = true) ∧ (s.fld CPM_CHG_STAT_PHASE = 1) ∧ (s.cpm.dwellAt = some
      d) ∧ (d ≤ s.clk.core) ∧ (s.cpm.vRef = none) ∧ (s.meanOver s.cpm.curHist 20 = none) ∧ (s.searchLimit +
      s.ratingUnits s.searchStep < s.chargeCap)) dwelling (0)) := by
  refine ⟨?_, ?_, ?_, ?_, ?_, ?_, ?_, ?_⟩ <;> decide +kernel

theorem meets_ChargeAndPathCommands_3 :
    ((fun (s : State) (d : Nat) => (s.sessionOpen = true) ∧ (s.chgMode = 0) ∧ (s.fld CPM_CHG_STAT_PHASE = 1) ∧
      (s.cpm.searchAt = some d) ∧ (d ≤ s.clk.core)) searchDue (0)) ∧
    ((fun (s : State)  => (s.sessionOpen = true) ∧ ((s.tMax : Int) * 2 ^ 28 ≤ ticksBetween s.cpm.openAt s.now))
      chargedLong ) ∧
    ((fun (s : State) (lim : Int) => (s.sessionOpen = true) ∧ (s.cpm.evaluated ≠ s.nowU * 100 / 2 ^ 28) ∧
      (s.chargeLimit = lim) ∧ (0 ≤ lim) ∧ (lim ≤ 32767) ∧ (s.chgMode = 0) ∧ (s.chgBrick < 16) ∧ (s.fld
      CPM_CHG_STAT_PHASE = 1) ∧ (s.cpm.written ≠ some (true, lim))) charging (charging.chargeLimit)) ∧
    ((fun (s : State) (lim : Int) => (s.sessionOpen = true) ∧ (s.cpm.evaluated ≠ s.nowU * 100 / 2 ^ 28) ∧
      (s.chargeLimit = lim) ∧ (0 ≤ lim) ∧ (lim ≤ 32767) ∧ (s.chgMode = 0) ∧ (s.fld CPM_CHG_STAT_PHASE = 1) ∧
      (s.cpm.written = some (true, lim))) chargingWritten (charging.chargeLimit)) ∧
    ((fun (s : State) (lim : Int) (m : Rat) => (s.sessionOpen = true) ∧ (s.cpm.evaluated ≠ s.nowU * 100 / 2 ^ 28) ∧
      (s.chargeLimit = lim) ∧ (0 ≤ lim) ∧ (lim ≤ 32767) ∧ (s.chgMode = 0) ∧ (s.chgBrick < 16) ∧ (s.fld
      CPM_CHG_STAT_PHASE = 2) ∧ (s.meanOver s.cpm.curHist 10 = some m) ∧ ((lim : Rat) < m)) ((chargingCv 30000))
      ((chargingCv 0).chargeLimit) (30000)) ∧
    ((fun (s : State) (lim : Int) (m : Rat) (since : Time) => (s.sessionOpen = true) ∧ (s.cpm.evaluated ≠ s.nowU *
      100 / 2 ^ 28) ∧ (s.chargeLimit = lim) ∧ (0 ≤ lim) ∧ (lim ≤ 32767) ∧ (s.chgMode = 0) ∧ (s.fld
      CPM_CHG_STAT_PHASE = 2) ∧ (s.meanOver s.cpm.curHist 10 = some m) ∧ (m ≤ lim) ∧ (since = s.cpm.lowSince.getD
      s.now)) ((chargingCv 1)) ((chargingCv 0).chargeLimit) (1) ((chargingCv 1).now)) ∧
    ((fun (s : State) (lim : Int) (i1 : Rat) => (s.sessionOpen = true) ∧ (s.cpm.evaluated ≠ s.nowU * 100 / 2 ^ 28) ∧
      (s.chargeLimit = lim) ∧ (0 ≤ lim) ∧ (lim ≤ 32767) ∧ (s.chgMode = 1) ∧ (s.meanOver s.cpm.curHist 1000 = some
      i1) ∧ (((lim + s.ratingUnits s.overTol : Int) : Rat) < i1)) ((chargingBy1 30000 0)) ((chargingBy1 0
      0).chargeLimit) (30000)) ∧
    ((fun (s : State) (lim : Int) (v10 : Rat) => (s.sessionOpen = true) ∧ (s.cpm.evaluated ≠ s.nowU * 100 / 2 ^ 28)
      ∧ (s.chargeLimit = lim) ∧ (0 ≤ lim) ∧ (lim ≤ 32767) ∧ (s.chgMode = 1) ∧ (s.cpm.curHist = []) ∧ (s.meanOver
      s.cpm.volHist 10 = some v10) ∧ (((s.vUnits s.cvV : Int) : Rat) * 101 / 100 < v10)) ((chargingBy1 (-1) 30000))
      ((chargingBy1 0 0).chargeLimit) (30000)) := by
  refine ⟨?_, ?_, ?_, ?_, ?_, ?_, ?_, ?_⟩ <;> decide +kernel

theorem meets_MeterAndCouchCommands_1 :
    ((fun (s : State)  => (s.reamRuns = true) ∧ (timeReached s.boundary s.now = true) ∧ (∀ d ∈ s.mtr.due,
      timeReached s.boundary d.stamp = true) ∧ (s.mtr.held = [])) reamDue ) ∧
    ((fun (s : State)  => (s.active = true) ∧ (s.restoring = true) ∧ (s.newestSheet (fun b => sheetType b == 0x1021)
      = none)) restoring ) ∧
    ((fun (s : State) (b : List Byte) (k : Nat) => (s.active = true) ∧ (s.restoring = true) ∧ (s.newestSheet (fun b
      => sheetType b == 0x1021) = some (b, k)) ∧ (b ≠ [])) restoringSheet (restoreBytes) (0)) ∧
    ((fun (s : State)  => (s.active = true) ∧ (s.mtr.histSec ≠ some s.secNow) ∧ ((s.reg (MTR_HIST (s.histBin
      s.moduleTempExact))).toNat + 1 < 2 ^ 32)) up ) ∧
    ((fun (s : State) (d : Nat) => (s.active = true) ∧ (s.mtr.statDay = some d) ∧ (d ≠ s.secNow / 86400) ∧
      (s.jnl.queue.length ≤ 29)) midnight (7)) ∧
    ((fun (s : State) (path : Path) => (s.serves path = true)) up (.spi)) ∧
    ((fun (s : State) (path : Path) (point : BitVec 13) (data : Word) => (s.serves path = true) ∧ (0x1300 ≤
      point.toNat) ∧ (point.toNat ≤ 0x1DFF)) up (.spi) (0x1300) (7)) ∧
    ((fun (s : State) (path : Path) (point : BitVec 13) (data : Word) => (s.serves path = true) ∧ (point.toNat <
      0x1300 ∨ 0x1DFF < point.toNat)) up (.spi) (0x1100) (7)) := by
  refine ⟨?_, ?_, ?_, ?_, ?_, ?_, ?_, ?_⟩ <;> decide +kernel

theorem meets_MeterAndCouchCommands_2 :
    ((fun (s : State) (path : Path) (address : Word) => (s.serves path = true) ∧ (address.toNat = MTR_TOT 0)) up
      (.spi) ((adr (MTR_TOT 0)))) ∧
    ((fun (s : State) (path : Path) (id : BitVec 16) (k : Nat) => (s.serves path = true) ∧ (k < 4) ∧ (s.fld
      (MTR_COUCH_STAT_STATE k) = 0) ∧ (∀ j : Nat, j < k → s.fld (MTR_COUCH_STAT_STATE j) ≠ 0) ∧ (∀ j : Nat, j < 4 →
      s.fld (MTR_COUCH_STAT_STATE j) ≠ 0 → s.fld (MTR_COUCH_STAT_ID j) ≠ id.toNat) ∧ (s.relayInProgress = false) ∧
      (s.fld STM_STAT_TSTATE = 0) ∧ (2 ^ 28 ≤ 200 * ticksBetween s.now (BitVec.ofNat 64 ((s.reg
      MTR_COUCH_T_LO).toNat + 2 ^ 32 * (s.reg MTR_COUCH_T_HI).toNat)))) couching (.spi) (5) (0)) ∧
    ((fun (s : State) (path : Path) (id : BitVec 16) => (s.serves path = true) ∧ (s.fld STM_STAT_TSTATE ≠ 0))
      following (.spi) (5)) ∧
    ((fun (s : State) (path : Path) (banks : BitVec 4) => (s.serves path = true) ∧ (s.flag MTR_COUCH_CTRL_GO =
      false) ∧ (s.fld MTR_COUCH_CTRL_FREE = 0)) couchHeldSt (.spi) (3)) ∧
    ((fun (s : State) (id : Framed (BitVec 16)) (time : Time) (k : Nat) => (s.takesIn id.head = true) ∧
      (s.unaddressed = false) ∧ (k < 4) ∧ (s.fld (MTR_COUCH_STAT_STATE k) = 0) ∧ (∀ j : Nat, j < k → s.fld
      (MTR_COUCH_STAT_STATE j) ≠ 0) ∧ (∀ j : Nat, j < 4 → s.fld (MTR_COUCH_STAT_STATE j) ≠ 0 → s.fld
      (MTR_COUCH_STAT_ID j) ≠ id.body.toNat) ∧ (s.relayInProgress = false) ∧ (s.reachedBefore time = false)) member
      (⟨⟨0, 3, 0, 4, 1⟩, 5⟩) (0x1000) (0)) ∧
    ((fun (s : State) (address : BitVec 12) (id : BitVec 16) (result : Byte) => (s.linked = true) ∧ (s.isKeystone =
      true) ∧ (s.lnk.couchAt.isSome = true) ∧ (s.lnk.couchId = id.toNat) ∧ (result = 1) ∧ (s.fld
      LNK_COUCH_SUM_ACC_CNT + 1 < 8192)) couchAsked (2) (5) (1)) ∧
    ((fun (s : State) (address : BitVec 12) (id : BitVec 16) (result : Byte) => (s.linked = true) ∧ (s.isKeystone =
      true) ∧ (s.lnk.couchAt.isSome = true) ∧ (s.lnk.couchId = id.toNat) ∧ (result ≠ 1) ∧ (s.fld
      LNK_COUCH_SUM_REF_CNT = 0)) couchAsked (2) (5) (3)) ∧
    ((fun (s : State) (ids : Framed (List (BitVec 16))) => (s.takesIn ids.head = true) ∧ (s.unaddressed = false))
      member (⟨⟨0, 3, 0, 4, 1⟩, [5]⟩)) := by
  refine ⟨?_, ?_, ?_, ?_, ?_, ?_, ?_, ?_⟩ <;> decide +kernel

theorem meets_MeterAndCouchCommands_3 :
    ((fun (s : State) (a : Nat) => (s.lnk.couchAt = some a) ∧ (a + 2400000 ≤ s.clk.core)) ((atCore 2400000
      couchAsked)) (0)) ∧
    ((fun (s : State) (k : Nat) => (k < 4) ∧ (k < s.mtr.banks.length) ∧ (s.couchPending k = true) ∧ (timeReached
      (s.couchT k) s.now = true)) couchDue (0)) ∧
    ((fun (s : State) (bank : BitVec 2) => (s.fld (MTR_COUCH_STAT_STATE bank.toNat) = 1) ∧ ((s.mtr.banks.getD
      bank.toNat Bank.free).taken = true)) couchTaken (0)) := by
  refine ⟨?_, ?_, ?_⟩ <;> decide +kernel

theorem meets_JournalCommandsComplete :
    ((fun (s : State)  => (s.mayDrain = true) ∧ (s.jnl.searching = false) ∧ (s.jnl.queue ≠ []) ∧ (s.jnl.writing =
      none) ∧ (s.jnl.drainAt + 24000 ≤ s.clk.core)) sheeted ) ∧
    ((fun (s : State) (slot : Nat) (sh : Sheet) (rest : List Sheet) => (s.jnl.writing = some slot) ∧ (s.jnl.queue =
      sh :: rest) ∧ (s.jnl.lostNow = 0)) sheetWriting (3) (someSheet) ([])) ∧
    ((fun (s : State) (slot : Nat) (sh : Sheet) (rest : List Sheet) => (s.jnl.writing = some slot) ∧ (s.jnl.queue =
      sh :: rest)) sheetWriting (3) (someSheet) ([])) ∧
    ((fun (s : State)  => (s.supervisorRuns = true) ∧ (s.jnl.searching = true) ∧ (s.newestSheet (fun _ => true) =
      none) ∧ (s.jnl.queue = [])) searching ) ∧
    ((fun (s : State) (b : List Byte) (k : Nat) => (s.supervisorRuns = true) ∧ (s.jnl.searching = true) ∧
      (s.newestSheet (fun _ => true) = some (b, k))) searchingSheet (restoreBytes) (0)) ∧
    ((fun (s : State) (path : Path) (slot : BitVec 17) => (s.serves path = true) ∧ (slot.toNat < 94208)) up (.spi)
      (3)) ∧
    ((fun (s : State) (path : Path) (slot : Nat) => (s.jnl.loads.find? (fun l => decide (l.1 = pathShadow path)) =
      some (pathShadow path, slot))) jnlLoading (.spi) (3)) := by
  refine ⟨?_, ?_, ?_, ?_, ?_, ?_, ?_⟩ <;> decide

theorem meets_LinkRingCommands_1 :
    ((fun (s : State) (port : BitVec 2) => (s.portsRun = true) ∧ (s.portOn port.toNat = true) ∧ (s.portUp port.toNat
      = false)) portsDown (1)) ∧
    ((fun (s : State) (port : BitVec 2) => (s.active = true) ∧ (s.portUp port.toNat = true)) member (1)) ∧
    ((fun (s : State) (trunk : Bool) => (s.supervises trunk = true) ∧ ((s.ring trunk).nextAt ≤ s.clk.core)) keystone
      (false)) ∧
    ((fun (s : State) (port : FrameHead) (serial : BitVec 64) => (s.active = true) ∧ (s.portOn port.port.toNat =
      true) ∧ (serial ≠ s.serial) ∧ (port.hops.toNat < 63) ∧ (s.clk.onRc = false) ∧ (s.portUp (if port.port.toNat %
      2 = 0 then port.port.toNat + 1 else port.port.toNat - 1) = true)) member (⟨0, 1, 64, 7, 2⟩) (9)) ∧
    ((fun (s : State) (port : FrameHead) (serial : BitVec 64) (a : Nat) => (s.active = true) ∧ (s.portOn
      port.port.toNat = true) ∧ (serial = s.serial) ∧ (s.supervises (decide (2 ≤ port.port.toNat)) = true) ∧
      ((s.ring (decide (2 ≤ port.port.toNat))).sentAt = some a) ∧ (s.clk.core ≤ a + 24000) ∧ (2 ≤ (s.ring (decide (2
      ≤ port.port.toNat))).returned)) ringThird (⟨0, 1, 64, 7, 2⟩) (0) (0)) ∧
    ((fun (s : State) (trunk : Bool) (a : Nat) => (s.supervises trunk = true) ∧ ((s.ring trunk).sentAt = some a) ∧
      (a + 24000 ≤ s.clk.core)) ringLate (false) (0)) ∧
    ((fun (s : State) (opened : Bool) (source : RingReporter) (event : Byte) => (s.linked = true) ∧ (s.isHead =
      false) ∧ (s.portOn source.port.toNat = true) ∧ (source.unaddressed = false) ∧ (source.address.toNat ≠ s.fld
      LNK_ADDR_ADDR) ∧ ((s.firstCopy 0x07 source.address.toNat event.toNat).1 = true)) member (true) (⟨0, 3, false,
      0⟩) (1)) ∧
    ((fun (s : State) (source : Framed (BitVec 16)) => (s.takesIn source.head = true) ∧ (s.unaddressed = false) ∧
      (832 ≤ source.body.toNat) ∧ (source.body.toNat ≤ 1023) ∧ (s.flag (ICU_SRC_EN source.body.toNat) = false))
      member (⟨⟨0, 3, 2, 0, 0⟩, 840⟩)) := by
  refine ⟨?_, ?_, ?_, ?_, ?_, ?_, ?_, ?_⟩ <;> decide

theorem meets_LinkRingCommands_2 :
    ((fun (s : State) (address : BitVec 12) (source : BitVec 10) (stamp : Time) => (s.linked = true) ∧ (s.isHead =
      true) ∧ (s.lnk.fwd.length < 64) ∧ (s.flag (ICU_SRC_EN 683) = false)) head (2) (7) (0)) ∧
    ((fun (s : State) (path : Path) => (s.serves path = true)) up (.spi)) ∧
    ((fun (s : State) (path : Path) => (s.serves path = true)) up (.spi)) ∧
    ((fun (s : State) (crc : Bool) => (s.portsRun = true) ∧ (s.fld (if crc then LNK_ERR_CNT_CRC_CNT else
      LNK_ERR_CNT_CODE_CNT) + 1 < 65536)) up (true)) := by
  refine ⟨?_, ?_, ?_, ?_⟩ <;> decide

theorem meets_EnumerationCommands_1 :
    ((fun (s : State)  => (s.active = true) ∧ (s.unaddressed = true) ∧ (s.lnk.helloAt + 24000000 ≤ s.clk.core))
      helloDue ) ∧
    ((fun (s : State) (serial : Framed HelloBody) => (s.linked = true) ∧ (s.portOn serial.head.port.toNat = true) ∧
      (serial.body.serial ≠ s.serial) ∧ (s.isHead = true) ∧ (s.fld SEQ_STAT_STR_COURSE = 0) ∧ (s.lnk.enumAt = none))
      head (⟨⟨0, 2, 0, 4, 1⟩, ⟨9, false, false, false⟩⟩)) ∧
    ((fun (s : State)  => (s.active = true) ∧ (reached s.lnk.enumAt s.clk.core = true) ∧ (s.fld SEQ_STAT_STR_COURSE
      = 0) ∧ (s.headOk = true)) enumDue ) ∧
    ((fun (s : State) (path : Path) => (s.serves path = true) ∧ (s.linked = true) ∧ (s.isHead = true) ∧ (s.fld
      SEQ_STAT_STR_COURSE = 0) ∧ (s.headOk = true)) ((headOkBond head)) (.spi)) ∧
    ((fun (s : State) (serial : Framed Claimant) (rank : Byte) => (s.active = true) ∧ (s.portOn
      serial.head.port.toNat = true) ∧ (serial.body.serial ≠ s.serial) ∧ (s.fld SEQ_STAT_STR_COURSE = 0) ∧
      (s.lnk.pass = .claim) ∧ (s.lnk.candidate = true) ∧ (outranks (rank.toNat, serial.body.serial) (s.rank,
      s.serial) = true)) claiming (⟨⟨0, 2, 0, 4, 1⟩, ⟨9, true⟩⟩) (3)) ∧
    ((fun (s : State)  => (s.active = true) ∧ (s.lnk.passAt + 4800000 ≤ s.clk.core) ∧ (s.lnk.pass = .claim) ∧
      (s.lnk.candidate = true)) ((atCore 4800000 claiming)) ) ∧
    ((fun (s : State) (port : WalkIn) (count : Byte) (side : Bool) (p : Nat) (o : Nat) => (s.active = true) ∧
      (port.port.toNat = p) ∧ (o = (if p % 2 = 0 then p + 1 else p - 1)) ∧ (s.portOn p = true) ∧ (s.lnk.pass =
      .none) ∧ (s.clk.onRc = false) ∧ (decide (p % 2 = 1) = side) ∧ (s.portUp p = true) ∧ (s.portUp o = true))
      member (⟨0, 2⟩) (1) (false) (0) (1)) ∧
    ((fun (s : State) (trunk : Bool) (serial : BitVec 64) (distance : Byte) (side : Bool) => (s.lnk.pass = .walkB) ∧
      (trunk = false)) walking (false) (9) (1) (false)) := by
  refine ⟨?_, ?_, ?_, ?_, ?_, ?_, ?_, ?_⟩ <;> decide

theorem meets_EnumerationCommands_2 :
    (fun (s : State) (entries : Framed (List (BitVec 64 × BitVec 16))) (e : BitVec 64 × BitVec 16) => (s.takesIn
      entries.head = true) ∧ (s.lnk.pass ≠ .claim) ∧ (entries.body.length ≠ 25) ∧ (entries.body.find? (fun e =>
      decide (e.1 = s.serial)) = some e) ∧ (e.2.toNat % 64 ≠ 0)) portsDown (⟨⟨0, 2, 0, 4, 1⟩, [(0, 2)]⟩) ((0, 2)) := by
  decide

theorem meets_RemoteAndDistributionCommands_1 :
    ((fun (s : State) (path : Path) (tag : BitVec 5) (dest : BitVec 12) => (s.serves path = true) ∧ (s.unaddressed =
      false) ∧ (s.clk.onRc = false) ∧ (∀ p : Nat, p < 4 → s.portUp p = true) ∧ (s.fld (LNK_RA_STAT_STATE tag.toNat)
      = 0)) member (.spi) (3) (5)) ∧
    ((fun (s : State) (path : Path) (tag : BitVec 5) (dest : BitVec 12) => (s.serves path = true) ∧ (s.unaddressed =
      false) ∧ (s.clk.onRc = false) ∧ (∀ p : Nat, p < 4 → s.portUp p = true) ∧ (s.fld (LNK_RA_STAT_STATE tag.toNat)
      = 0)) member (.spi) (3) (5)) ∧
    ((fun (s : State) (path : Path) (tag : BitVec 5) (count : BitVec 6) (dest : BitVec 12) => (s.serves path = true)
      ∧ (s.unaddressed = false) ∧ (s.clk.onRc = false) ∧ (∀ p : Nat, p < 4 → s.portUp p = true) ∧ (s.fld
      (LNK_RA_STAT_STATE tag.toNat) = 0) ∧ (count ≠ 0)) member (.spi) (3) (5) (5)) ∧
    ((fun (s : State) (path : Path) (tag : BitVec 5) => (s.serves path = true) ∧ (s.fld (LNK_RA_STAT_STATE
      tag.toNat) = 2)) ((tagAs 2)) (.spi) (3)) ∧
    ((fun (s : State) (source : BitVec 12) (tag : BitVec 5) (address : Word) (count : Byte) (waiting : Nat) =>
      (s.linked = true) ∧ (s.boot.restart = none) ∧ (waiting < 32) ∧ (s.clk.onRc = false) ∧ (count = 1) ∧ (∀ p :
      Nat, p < 4 → s.portUp p = true) ∧ (s.busFault .link false address.toNat = none)) member (5) (3) (0x10018) (1)
      (0)) ∧
    ((fun (s : State) (source : BitVec 12) (tag : BitVec 5) (address : Word) (count : Byte) (waiting : Nat) =>
      (s.linked = true) ∧ (s.clk.onRc = false) ∧ (32 ≤ waiting) ∧ (∀ p : Nat, p < 4 → s.portUp p = true) ∧ (s.flag
      (ICU_SRC_EN 680) = false)) member (5) (3) (0x10018) (1) (32)) ∧
    ((fun (s : State) (source : BitVec 12) (tag : BitVec 5) (address : Word) (data : Word) (waiting : Nat) (p : Nat)
      => (s.linked = true) ∧ (s.boot.restart = none) ∧ (waiting < 32) ∧ (s.clk.onRc = false) ∧ (∀ p : Nat, p < 4 →
      s.portUp p = true) ∧ (0x1300 ≤ p) ∧ (p ≤ 0x1DFF) ∧ (address.toNat = 0x800000 + 4 * p)) member (5) (3)
      (0x804C00) (9) (0) (0x1300)) ∧
    ((fun (s : State) (tag : BitVec 5) (result : Byte) (data : List Word) => (s.linked = true) ∧ (s.fld
      (LNK_RA_STAT_STATE tag.toNat) = 1) ∧ (data.length ≤ 63)) ((tagAs 1)) (3) (0) ([7, 8])) := by
  refine ⟨?_, ?_, ?_, ?_, ?_, ?_, ?_, ?_⟩ <;> decide

theorem meets_RemoteAndDistributionCommands_2 :
    ((fun (s : State) (tag : BitVec 5) (at0 : Nat) => (s.lnk.tags.find? (fun p => decide (p.1 = tag.toNat)) = some
      (tag.toNat, at0)) ∧ (at0 + 240000 ≤ s.clk.core)) tagLate (3) (0)) ∧
    ((fun (s : State) (path : Path) (control : Word) => (s.serves path = true) ∧ (reservedBit (fieldsOf
      LNK_DIST_CTRL) (control ||| 0x80000000) = none) ∧ (s.distCtrlRefused (control ||| 0x80000000) = none) ∧
      (control.getLsbD 30 = false) ∧ (bitsOf control.toNat 28 2 = 0) ∧ (s.bnd.bytes ≠ [])) bonded (.spi) (0x2000)) ∧
    ((fun (s : State) (path : Path) (control : Word) => (s.serves path = true) ∧ (reservedBit (fieldsOf
      LNK_DIST_CTRL) (control ||| 0x40000000) = none) ∧ (s.distCtrlRefused (control ||| 0x40000000) = none))
      distSending (.spi) (0x2000)) ∧
    ((fun (s : State) (source : FrameHead) (apply : Bool) (store : Bool) (length : Word) => (s.takesIn source =
      true) ∧ (s.unaddressed = false) ∧ (s.boot.restart = none) ∧ (s.bondFromLink = true) ∧ (length.toNat ≤ 65536) ∧
      (s.fld BND_STAT_OWNER ≠ 1) ∧ (s.fld BND_STAT_STATE = 0)) member (⟨0, 2, 2, 0, 0⟩) (true) (false) (200)) ∧
    ((fun (s : State) (offset : Framed Word) (bytes : List Byte) (flashError : Bool) (d : Dist) => (s.takesIn
      offset.head = true) ∧ (s.unaddressed = false) ∧ (s.boot.restart = none) ∧ (s.lnk.dist = some d) ∧ (d.image =
      false) ∧ (d.sender = offset.head.address.toNat) ∧ (s.bnd.src = 1) ∧ (s.fld BND_STAT_STATE = 1) ∧
      (offset.body.toNat = d.got) ∧ (bytes ≠ []) ∧ (bytes.length ≤ 252) ∧ (bytes.length ≤ d.length - d.got) ∧
      (s.offered.length + bytes.length < 84)) distReceiving (⟨⟨0, 2, 2, 0, 0⟩, 0⟩) ([1, 2, 3]) (false) (⟨false,
      true, false, 2, 200, 0⟩)) ∧
    ((fun (s : State) (source : BitVec 12) (result : Byte) => (s.linked = true) ∧ (s.fld LNK_DIST_STAT_STATE = 2) ∧
      (s.fld LNK_DIST_CTRL_WHAT = 0) ∧ (s.fld LNK_DIST_STAT_OK_CNT + 1 < 8192) ∧ (s.fld LNK_DIST_STAT_FAIL_CNT + 1 <
      8192)) distCollecting (2) (1)) ∧
    ((fun (s : State)  => (s.fld LNK_DIST_STAT_STATE = 2) ∧ (s.lnk.distAt + 48000000 ≤ s.clk.core)) distCollecting ) ∧
    ((fun (s : State) (port : BitVec 2) => (s.active = true) ∧ (s.portOn port.toNat = true) ∧ (s.t8 0xB 0 4 0 = 1) ∧
      (s.fld RPC_UPD_STAT_STATE ≠ 1) ∧ (s.lnk.serve = none)) serving (1)) := by
  refine ⟨?_, ?_, ?_, ?_, ?_, ?_, ?_, ?_⟩ <;> decide

theorem meets_HostPortCommands_1 :
    ((fun (s : State) (address : Word) (words : List Word) (w : Word) (p : Nat) => (s.serves .spi = true) ∧ (words =
      [w]) ∧ (0x1300 ≤ p) ∧ (p ≤ 0x1DFF) ∧ (address.toNat = 0x800000 + 4 * p)) up (0x804C00) ([9]) (9) (0x1300)) ∧
    ((fun (s : State) (address : Word) (words : List Word) => (s.serves .spi = true) ∧ (words = [])) up (0x804C00)
      ([])) ∧
    ((fun (s : State) (address : Word) (count : Nat) (late : List Bool) => (s.serves .spi = true) ∧ (count = 1) ∧
      (late = [])) up (0x10018) (1) ([])) ∧
    ((fun (s : State) (address : Word) (count : Nat) (late : List Bool) => (s.serves .spi = true) ∧ (count = 1) ∧
      (late = [true])) up (0x10018) (1) ([true])) ∧
    ((fun (s : State) (command : Byte) => (s.serves .spi = true) ∧ (command ≠ 2) ∧ (command ≠ 3)) up (9)) ∧
    ((fun (s : State) (address : Word) (words : List Word) (w : Word) (p : Nat) => (s.serves .i2c = true) ∧ (words =
      [w]) ∧ (0x1300 ≤ p) ∧ (p ≤ 0x1DFF) ∧ (address.toNat = 0x800000 + 4 * p)) up (0x804C00) ([9]) (9) (0x1300)) ∧
    ((fun (s : State) (address : Word) (count : Nat) => (s.serves .i2c = true) ∧ (count = 1)) up (0x10018) (1)) ∧
    ((fun (s : State) (count : Nat) => (s.serves .i2c = true) ∧ (count = 1)) up (1)) := by
  refine ⟨?_, ?_, ?_, ?_, ?_, ?_, ?_, ?_⟩ <;> decide

theorem meets_HostPortCommands_2 :
    ((fun (s : State)  => (s.serves .i2c = true)) up ) ∧
    ((fun (s : State) (path : Path) => (s.serves path = true) ∧ (reservedBit (fieldsOf HST_CTRL) (s.reg HST_CTRL |||
      4) = none)) up (.spi)) ∧
    ((fun (s : State) (path : Path) (address : Word) (data : Word) => (s.serves path = true) ∧ (address.toNat % 4 =
      0) ∧ (address.toNat / 0x10000 = 3) ∧ (address.toNat ≠ STM_CTRL) ∧ (address.toNat ≠ STM_INC) ∧ ((fieldsOf
      address.toNat).any FieldSpec.writable = true) ∧ (reservedBit (fieldsOf address.toNat) data = none)) up (.spi)
      ((adr STM_SET_LO)) (9)) := by
  refine ⟨?_, ?_, ?_⟩ <;> decide

theorem meets_InterruptCommandsComplete_1 :
    ((fun (s : State) (path : Path) (source : BitVec 10) => (s.serves path = true) ∧ (832 ≤ source.toNat) ∧ (s.flag
      (ICU_SRC_EN source.toNat) = false)) up (.spi) (840)) ∧
    ((fun (s : State) (path : Path) (source : BitVec 10) (data : Word) => (s.serves path = true) ∧ (reservedBit
      (fieldsOf (ICU_SRC source.toNat)) data = none) ∧ (bitsOf data.toNat 8 3 ≠ 4)) up (.spi) (840) (0x83FF)) ∧
    ((fun (s : State) (path : Path) (intEn : Bool) (e : QEntry) => (s.serves path = true) ∧ (headEntry s.icu.queue =
      some e) ∧ (s.icu.stuck = [])) queued (.spi) (true) (⟨840, 0, 0⟩)) ∧
    ((fun (s : State) (g : Nat) (d : Nat) => (s.icu.held.find? (fun p => decide (p.1 = g)) = some (g, d)) ∧ (d ≤
      s.clk.core) ∧ ((s.groupWaits g).filter s.eligible = [])) held (2) (0)) ∧
    ((fun (s : State) (g : Nat) (d : Nat) => (s.icu.held.find? (fun p => decide (p.1 = g)) = some (g, d)) ∧ (d ≤
      s.clk.core) ∧ ((s.groupWaits g).filter s.eligible ≠ []) ∧ (s.fld (ICU_HOLD_HOLD g) ≠ 0)) heldWaiting (2) (0)) ∧
    ((fun (s : State) (path : Path) (g : Nat) (data : Word) => (s.serves path = true) ∧ (g < 32) ∧ (reservedBit
      (fieldsOf (ICU_HOLD g)) data = none) ∧ (s.groupWaits g = [])) held (.spi) (2) (0)) ∧
    ((fun (s : State)  => (reached s.icu.gapEnd s.clk.core = true) ∧ (s.icu.intN = false)) gapped ) ∧
    ((fun (s : State) (path : Path) => (s.serves path = true) ∧ (s.standbyAllowed = true)) standbyReady (.spi)) := by
  refine ⟨?_, ?_, ?_, ?_, ?_, ?_, ?_, ?_⟩ <;> decide

theorem meets_InterruptCommandsComplete_2 :
    ((fun (s : State) (path : Path) => (s.serves path = true) ∧ (s.standbyAllowed = false)) course5 (.spi)) ∧
    ((fun (s : State)  => (s.icu.armed = true) ∧ (s.idle = true) ∧ (s.jnl.queue = [])) standbyArmed ) ∧
    ((fun (s : State) (latch : Nat) => (s.boot.power = .standby) ∧ (s.icu.armed = true) ∧ (s.latchArmed latch =
      true) ∧ (bitsOf (s.reg ICU_LATCH).toNat latch 1 = 0) ∧ (s.clk.attemptAt = none)) standby (8)) ∧
    ((fun (s : State) (n : Nat) (rising : Bool) => (s.edgesSampled = true) ∧ (n < 8) ∧ (selects (s.irqEdgeOf n)
      rising = true) ∧ (s.flag (ICU_SRC_EN (800 + n)) = false)) edged (2) (true)) ∧
    ((fun (s : State) (n : Nat) (rising : Bool) => (s.edgesSampled = true) ∧ (n < 16) ∧ (s.gpioFunc n = 4) ∧
      (selects (bitsOf (s.reg HST_GPIO_EDGE).toNat (2 * n) 2) rising = true) ∧ (s.flag (ICU_SRC_EN (816 + n)) =
      false)) edged (2) (true)) ∧
    ((fun (s : State)  => (s.active = true) ∧ (s.flag (ICU_SRC_EN 808) = false)) up ) := by
  refine ⟨?_, ?_, ?_, ?_, ?_, ?_⟩ <;> decide

theorem meets_WatchdogCommandsComplete :
    ((fun (s : State) (path : Path) => (s.serves path = true) ∧ (s.hwStart = false) ∧ (s.wdg.armed = false)) up
      (.spi)) ∧
    ((fun (s : State) (path : Path) => (s.serves path = true)) up (.spi)) ∧
    ((fun (s : State) (path : Path) (task : BitVec 4) (value : BitVec 16) (counters : Word × Word × Word × Word) =>
      (s.serves path = true) ∧ (s.watching = true) ∧ (s.wdg.starting = none) ∧ (path = .sup ∨ 12 ≤ task.toNat ∧
      bitsOf (s.fld WDG_TASKS_REG) task.toNat 1 = 1) ∧ (s.wdg.tOpen ≤ s.wdg.count) ∧ (bitsOf (s.fld WDG_TASKS_IN)
      task.toNat 1 = 0) ∧ ((s.reg WDG_CHAL).toNat = value.toNat)) ((watchdogAt 150)) (.sup) (0) (0xACE1) ((0, 0, 0,
      0))) ∧
    ((fun (s : State) (path : Path) (task : BitVec 4) (value : BitVec 16) (counters : Word × Word × Word × Word) =>
      (s.serves path = true) ∧ (s.watching = true) ∧ (s.wdg.starting = none) ∧ (path = .sup ∨ 12 ≤ task.toNat ∧
      bitsOf (s.fld WDG_TASKS_REG) task.toNat 1 = 1) ∧ (s.wdg.count < s.wdg.tOpen) ∧ (s.wdg.stopped = false))
      ((watchdogAt 50)) (.sup) (0) (0xACE1) ((0, 0, 0, 0))) ∧
    ((fun (s : State) (counters : Word × Word × Word × Word) => (s.watching = true) ∧ (s.boot.power ≠ .standby) ∧
      (s.wdg.starting = none) ∧ (s.wdg.stopped = false) ∧ (s.wdg.tClose ≤ s.wdg.count + 1)) ((watchdogAt 199)) ((0,
      0, 0, 0))) ∧
    ((fun (s : State)  => (s.active = true) ∧ (s.railUp = false) ∧ (s.boot.waiting = none) ∧ (s.boot.restart = none)
      ∧ (reached s.wdg.pulseEnd s.clk.rc = true) ∧ (s.mapLevel 3 ≤ 1)) pulsing ) := by
  refine ⟨?_, ?_, ?_, ?_, ?_, ?_⟩ <;> decide

/-! ### Premises met: the frames (exec answers a next state) -/

theorem meets_FrameBootAndClocks :
    Registers.wf up.regs = true ∧ (∃ t, exec (.resetNRelease false) up = .next t) ∧ (∃ t, exec (.p0SupplyDone 0
    false) up = .next t) ∧ (∃ t, exec (.p2Restart 0) up = .next t) ∧ (∃ t, exec (.refQualified false) up = .next t)
    ∧ (∃ t, exec (.refWindowEnd 0) up = .next t) ∧ (∃ t, exec (.refReturn false) up = .next t) ∧ (∃ t, exec
    (.l2RestartDone false) up = .next t) ∧ (∃ t, exec (.l3RestartDone false) up = .next t) ∧ (∃ t, exec (.otpRead
    .spi 0) up = .next t) ∧ (∃ t, exec (.otpProgram .spi 0 0 0) up = .next t) ∧ (∃ t, exec (.otpCommandDone none) up
    = .next t) ∧ (∃ t, exec (.otpConditionLost 0) up = .next t) ∧ (∃ t, exec (.updStart .spi 0) up = .next t) ∧ (∃
    t, exec (.updAbort .spi 0) up = .next t) ∧ (∃ t, exec (.updData .spi 0 false) up = .next t) ∧ (∃ t, exec
    (.updateCheckDone false) up = .next t) ∧ (∃ t, exec (.setGo .spi) up = .next t) ∧ (∃ t, exec (.stmTimeLoRead
    .spi) up = .next t) ∧ (∃ t, exec (.syncReq 0 0) up = .next t) ∧ (∃ t, exec (.syncFup 0 0 0) up = .next t) ∧ (∃
    t, exec (.reset 0 false) up = .next t) ∧ (∃ t, exec .wakePulse up = .next t) ∧ (∃ t, exec .por up = .next t) ∧
    (∃ t, exec .bor up = .next t) ∧ (∃ t, exec .inputCollapse up = .next t) ∧ (∃ t, exec .resetNAssert up = .next t)
    ∧ (∃ t, exec .allOffTimelineEnd up = .next t) ∧ (∃ t, exec .p1RegulatorsDone up = .next t) ∧ (∃ t, exec
    .p1RegulatorTimeout up = .next t) ∧ (∃ t, exec .p1RetryEnd up = .next t) ∧ (∃ t, exec .p2OptionsDone up = .next
    t) ∧ (∃ t, exec .p2RestartWindowEnd up = .next t) ∧ (∃ t, exec .pllLock up = .next t) ∧ (∃ t, exec
    .lockAttemptTimeout up = .next t) ∧ (∃ t, exec .p4ImageDone up = .next t) ∧ (∃ t, exec .p5BondDone up = .next t)
    ∧ (∃ t, exec .loaderImgRequest up = .next t) ∧ (∃ t, exec .loaderImgTimeout up = .next t) ∧ (∃ t, exec
    .syncStart up = .next t) ∧ (∃ t, exec .syncRsp up = .next t) ∧ (∃ t, exec .syncFupTimeout up = .next t) ∧ (∃ t,
    exec .syncHoldoverTimeout up = .next t) ∧ (∃ t, exec .supervisorLaneMismatch up = .next t) ∧ (∃ t, exec
    .switchCycleTimer up = .next t) ∧ (∃ t, exec .shipModeSheetWritten up = .next t) ∧ (∃ t, exec
    .serviceProcessorFault up = .next t) ∧ (∃ t, exec (.swrst .spi) up = .next t) :=
  ⟨by decide, ⟨_, rfl⟩, ⟨_, rfl⟩, ⟨_, rfl⟩, ⟨_, rfl⟩, ⟨_, rfl⟩, ⟨_, rfl⟩, ⟨_, rfl⟩, ⟨_, rfl⟩, ⟨_, rfl⟩, ⟨_, rfl⟩,
    ⟨_, rfl⟩, ⟨_, rfl⟩, ⟨_, rfl⟩, ⟨_, rfl⟩, ⟨_, rfl⟩, ⟨_, rfl⟩, ⟨_, rfl⟩, ⟨_, rfl⟩, ⟨_, rfl⟩, ⟨_, rfl⟩, ⟨_, rfl⟩,
    ⟨_, rfl⟩, ⟨_, rfl⟩, ⟨_, rfl⟩, ⟨_, rfl⟩, ⟨_, rfl⟩, ⟨_, rfl⟩, ⟨_, rfl⟩, ⟨_, rfl⟩, ⟨_, rfl⟩, ⟨_, rfl⟩, ⟨_, rfl⟩,
    ⟨_, rfl⟩, ⟨_, rfl⟩, ⟨_, rfl⟩, ⟨_, rfl⟩, ⟨_, rfl⟩, ⟨_, rfl⟩, ⟨_, rfl⟩, ⟨_, rfl⟩, ⟨_, rfl⟩, ⟨_, rfl⟩, ⟨_, rfl⟩,
    ⟨_, rfl⟩, ⟨_, rfl⟩, ⟨_, rfl⟩, ⟨_, rfl⟩⟩

theorem meets_FrameBondAndBackup :
    Registers.wf up.regs = true ∧ (∃ t, exec (.bondStoreCmd .spi 0) up = .next t) ∧ (∃ t, exec (.bondApply .spi 0
    false) up = .next t) ∧ (∃ t, exec (.bondAbort .spi) up = .next t) ∧ (∃ t, exec (.bndData .spi 0) up = .next t) ∧
    (∃ t, exec (.bondStoreDone false) up = .next t) ∧ (∃ t, exec (.rtcTimeRead .spi 0) up = .next t) ∧ (∃ t, exec
    (.rtcFreezeTimeout .spi) up = .next t) ∧ (∃ t, exec (.rtcStatRead .spi) up = .next t) ∧ (∃ t, exec
    (.commitBinary .spi false) up = .next t) ∧ (∃ t, exec (.commitCalendar .spi false) up = .next t) ∧ (∃ t, exec
    (.vbakSample 0) up = .next t) ∧ (∃ t, exec (.evtEdgeAccept 0 false) up = .next t) ∧ (∃ t, exec (.evtPop .spi) up
    = .next t) ∧ (∃ t, exec (.evtOvfClr .spi) up = .next t) ∧ (∃ t, exec .bondReceiveTimeout up = .next t) ∧ (∃ t,
    exec .bondValidationDone up = .next t) ∧ (∃ t, exec .bondTakesEffect up = .next t) ∧ (∃ t, exec .vbakFirstRise
    up = .next t) ∧ (∃ t, exec .vbakLoss up = .next t) ∧ (∃ t, exec .calOverflow up = .next t) ∧ (∃ t, exec
    .commitApply up = .next t) ∧ (∃ t, exec .oscStopDetect up = .next t) ∧ (∃ t, exec .alarmFire up = .next t) :=
  ⟨by decide, ⟨_, rfl⟩, ⟨_, rfl⟩, ⟨_, rfl⟩, ⟨_, rfl⟩, ⟨_, rfl⟩, ⟨_, rfl⟩, ⟨_, rfl⟩, ⟨_, rfl⟩, ⟨_, rfl⟩, ⟨_, rfl⟩,
    ⟨_, rfl⟩, ⟨_, rfl⟩, ⟨_, rfl⟩, ⟨_, rfl⟩, ⟨_, rfl⟩, ⟨_, rfl⟩, ⟨_, rfl⟩, ⟨_, rfl⟩, ⟨_, rfl⟩, ⟨_, rfl⟩, ⟨_, rfl⟩,
    ⟨_, rfl⟩, ⟨_, rfl⟩⟩

theorem meets_FrameBricksAndVcp :
    (∃ t, exec (.settleTimeout 0) up = .next t) ∧ (∃ t, exec (.brkTargetWrite .spi 0 0) up = .next t) ∧ (∃ t, exec
    (.coefCommit .spi 0) up = .next t) ∧ (∃ t, exec (.brkCntClr .spi 0) up = .next t) ∧ (∃ t, exec (.laneRejoin 0)
    up = .next t) ∧ (∃ t, exec (.retryTimerExpiry false) up = .next t) ∧ (∃ t, exec (.running1sExpiry 0) up = .next
    t) ∧ (∃ t, exec (.retryRst .spi 0) up = .next t) ∧ (∃ t, exec (.lcntClr .spi 0) up = .next t) ∧ (∃ t, exec
    (.setV 0 0 ⟨0, false⟩) up = .next t) ∧ (∃ t, exec (.setI 0 0 ⟨0, false⟩) up = .next t) ∧ (∃ t, exec (.setSlew 0
    0 ⟨0, false⟩) up = .next t) ∧ (∃ t, exec (.poll 0 0 ⟨0, false⟩) up = .next t) ∧ (∃ t, exec (.read 0 0 ⟨0,
    false⟩) up = .next t) ∧ (∃ t, exec (.vcpReservedCmd 0 0 0 ⟨0, false⟩) up = .next t) ∧ (∃ t, exec (.vcpRecClr
    .spi) up = .next t) ∧ (∃ t, exec (.vcpCntClr .spi) up = .next t) ∧ (∃ t, exec (.vcpLastLoRead .spi) up = .next
    t) ∧ (∃ t, exec .vcpShortFrame up = .next t) ∧ (∃ t, exec .vcpCrcFail up = .next t) :=
  ⟨⟨_, rfl⟩, ⟨_, rfl⟩, ⟨_, rfl⟩, ⟨_, rfl⟩, ⟨_, rfl⟩, ⟨_, rfl⟩, ⟨_, rfl⟩, ⟨_, rfl⟩, ⟨_, rfl⟩, ⟨_, rfl⟩, ⟨_, rfl⟩, ⟨_,
    rfl⟩, ⟨_, rfl⟩, ⟨_, rfl⟩, ⟨_, rfl⟩, ⟨_, rfl⟩, ⟨_, rfl⟩, ⟨_, rfl⟩, ⟨_, rfl⟩, ⟨_, rfl⟩⟩

theorem meets_FrameCourses :
    (∃ t, exec (.seqTarget .spi 0) up = .next t) ∧ (∃ t, exec (.seqFloor .spi 0) up = .next t) ∧ (∃ t, exec
    (.courseMasterStep false) up = .next t) ∧ (∃ t, exec (.courseAns 0 0 false 0 false) up = .next t) ∧ (∃ t, exec
    (.trunkStep ⟨⟨0, 0, 0, 0, 0⟩, 0⟩ false false false) up = .next t) ∧ (∃ t, exec (.headDone ⟨0, 0, false⟩) up =
    .next t) ∧ (∃ t, exec (.rejoin .spi) up = .next t) ∧ (∃ t, exec (.faultClr .spi false) up = .next t) ∧ (∃ t,
    exec (.lineClr .spi) up = .next t) ∧ (∃ t, exec (.seqCntClr .spi) up = .next t) ∧ (∃ t, exec (.pgDelayExpiry 0)
    up = .next t) ∧ (∃ t, exec (.marginPinChange false false) up = .next t) ∧ (∃ t, exec (.supplyLow 0) up = .next
    t) ∧ (∃ t, exec (.supplyGood 0) up = .next t) ∧ (∃ t, exec (.supply 0 false) up = .next t) ∧ (∃ t, exec
    (.floorDone 0) up = .next t) ∧ (∃ t, exec (.lineState 0 0) up = .next t) ∧ (∃ t, exec .courseStepUp up = .next
    t) ∧ (∃ t, exec .courseStepDown up = .next t) ∧ (∃ t, exec .courseFloor up = .next t) ∧ (∃ t, exec
    .courseInvalidLow up = .next t) ∧ (∃ t, exec .railOff up = .next t) ∧ (∃ t, exec .waitPg up = .next t) ∧ (∃ t,
    exec .delay up = .next t) ∧ (∃ t, exec .delayExpiry up = .next t) ∧ (∃ t, exec .pinSet up = .next t) ∧ (∃ t,
    exec .setRef up = .next t) ∧ (∃ t, exec .moduleOpen up = .next t) ∧ (∃ t, exec .cascInRise up = .next t) ∧ (∃ t,
    exec .confirmAnswerTimeout up = .next t) ∧ (∃ t, exec .confirmMissingTimeout up = .next t) ∧ (∃ t, exec
    .headReportTimeout up = .next t) ∧ (∃ t, exec .stepTimeout up = .next t) ∧ (∃ t, exec .linkFloor up = .next t) ∧
    (∃ t, exec .cascInFall up = .next t) :=
  ⟨⟨_, rfl⟩, ⟨_, rfl⟩, ⟨_, rfl⟩, ⟨_, rfl⟩, ⟨_, rfl⟩, ⟨_, rfl⟩, ⟨_, rfl⟩, ⟨_, rfl⟩, ⟨_, rfl⟩, ⟨_, rfl⟩, ⟨_, rfl⟩, ⟨_,
    rfl⟩, ⟨_, rfl⟩, ⟨_, rfl⟩, ⟨_, rfl⟩, ⟨_, rfl⟩, ⟨_, rfl⟩, ⟨_, rfl⟩, ⟨_, rfl⟩, ⟨_, rfl⟩, ⟨_, rfl⟩, ⟨_, rfl⟩, ⟨_,
    rfl⟩, ⟨_, rfl⟩, ⟨_, rfl⟩, ⟨_, rfl⟩, ⟨_, rfl⟩, ⟨_, rfl⟩, ⟨_, rfl⟩, ⟨_, rfl⟩, ⟨_, rfl⟩, ⟨_, rfl⟩, ⟨_, rfl⟩, ⟨_,
    rfl⟩, ⟨_, rfl⟩⟩

theorem meets_FrameAllOff :
    (∃ t, exec (.p6ServicesDone []) up = .next t) ∧ (∃ t, exec (.brickUpdate 0 ⟨[], []⟩ []) up = .next t) ∧ (∃ t,
    exec (.laneScrub 0 [] [] [] []) up = .next t) ∧ (∃ t, exec (.quickTestDone 0 false false) up = .next t) ∧ (∃ t,
    exec (.fullTestDone 0 .a false) up = .next t) ∧ (∃ t, exec (.fastLimitTrip ⟨0, 0⟩) up = .next t) ∧ (∃ t, exec
    (.blankingEnd 0 0) up = .next t) ∧ (∃ t, exec (.confirm ⟨⟨0, 0, 0, 0, 0⟩, 0⟩ false) up = .next t) ∧ (∃ t, exec
    (.railViolation 0 []) up = .next t) ∧ (∃ t, exec (.alloff 0 ⟨0, 0, 0, 0, 0⟩ false) up = .next t) ∧ (∃ t, exec
    (.privBrokenTimeout 0) up = .next t) ∧ (∃ t, exec (.thermalShutdown 0) up = .next t) ∧ (∃ t, exec (.checkin .spi
    0 0 (0, 0, 0, 0)) up = .next t) ∧ (∃ t, exec (.wdgWindowClose (0, 0, 0, 0)) up = .next t) ∧ (∃ t, exec
    .refLostTimeout up = .next t) ∧ (∃ t, exec .lossOfLock up = .next t) ∧ (∃ t, exec .railOn up = .next t) ∧ (∃ t,
    exec .waitPgTimeout up = .next t) ∧ (∃ t, exec .moduleClose up = .next t) ∧ (∃ t, exec .cascTimeout up = .next
    t) ∧ (∃ t, exec .courseLineIdle up = .next t) ∧ (∃ t, exec .hkRoundDone up = .next t) ∧ (∃ t, exec
    .probeT50Expiry up = .next t) ∧ (∃ t, exec .probeTimeout up = .next t) ∧ (∃ t, exec .serviceRelease up = .next
    t) ∧ (∃ t, exec .serviceHeld20s up = .next t) :=
  ⟨⟨_, rfl⟩, ⟨_, rfl⟩, ⟨_, rfl⟩, ⟨_, rfl⟩, ⟨_, rfl⟩, ⟨_, rfl⟩, ⟨_, rfl⟩, ⟨_, rfl⟩, ⟨_, rfl⟩, ⟨_, rfl⟩, ⟨_, rfl⟩, ⟨_,
    rfl⟩, ⟨_, rfl⟩, ⟨_, rfl⟩, ⟨_, rfl⟩, ⟨_, rfl⟩, ⟨_, rfl⟩, ⟨_, rfl⟩, ⟨_, rfl⟩, ⟨_, rfl⟩, ⟨_, rfl⟩, ⟨_, rfl⟩, ⟨_,
    rfl⟩, ⟨_, rfl⟩, ⟨_, rfl⟩, ⟨_, rfl⟩⟩

theorem meets_FrameMeasurementAndCells :
    (∃ t, exec (.periodicTrigger []) up = .next t) ∧ (∃ t, exec (.extTrigger []) up = .next t) ∧ (∃ t, exec
    (.conversionDone 0) up = .next t) ∧ (∃ t, exec (.cellTsLoRead .spi) up = .next t) ∧ (∃ t, exec
    (.hkCaptureTimeout []) up = .next t) ∧ (∃ t, exec (.dmaCfgWrite .spi 0 0) up = .next t) ∧ (∃ t, exec
    (.dmaWptrRead .spi 0) up = .next t) ∧ (∃ t, exec (.tdacWrite .spi 0) up = .next t) ∧ (∃ t, exec (.owGo .spi) up
    = .next t) ∧ (∃ t, exec (.owAbort .spi) up = .next t) ∧ (∃ t, exec (.msrCntClr .spi) up = .next t) ∧ (∃ t, exec
    (.sensorFlagBroken 0) up = .next t) ∧ (∃ t, exec (.sensorUnflag 0) up = .next t) ∧ (∃ t, exec (.sweepReq .spi)
    up = .next t) ∧ (∃ t, exec (.windowEnd false) up = .next t) ∧ (∃ t, exec (.baseRst .spi) up = .next t) ∧ (∃ t,
    exec (.celZrRead .spi 0 0) up = .next t) ∧ (∃ t, exec .triggerFallbackTimeout up = .next t) ∧ (∃ t, exec
    .cellBlockDone up = .next t) ∧ (∃ t, exec .hkTick up = .next t) ∧ (∃ t, exec .owWindowEnd up = .next t) ∧ (∃ t,
    exec .owTapGapEnd up = .next t) ∧ (∃ t, exec .throttleEval up = .next t) ∧ (∃ t, exec .thmLockClear up = .next
    t) ∧ (∃ t, exec .sweepStart up = .next t) ∧ (∃ t, exec .windowLeadinStart up = .next t) ∧ (∃ t, exec
    .windowMeasureStart up = .next t) ∧ (∃ t, exec .restPoint up = .next t) ∧ (∃ t, exec .celRestoreDone up = .next
    t) ∧ (∃ t, exec .balSecondBoundary up = .next t) ∧ (∃ t, exec .balOnTimeEnd up = .next t) :=
  ⟨⟨_, rfl⟩, ⟨_, rfl⟩, ⟨_, rfl⟩, ⟨_, rfl⟩, ⟨_, rfl⟩, ⟨_, rfl⟩, ⟨_, rfl⟩, ⟨_, rfl⟩, ⟨_, rfl⟩, ⟨_, rfl⟩, ⟨_, rfl⟩, ⟨_,
    rfl⟩, ⟨_, rfl⟩, ⟨_, rfl⟩, ⟨_, rfl⟩, ⟨_, rfl⟩, ⟨_, rfl⟩, ⟨_, rfl⟩, ⟨_, rfl⟩, ⟨_, rfl⟩, ⟨_, rfl⟩, ⟨_, rfl⟩, ⟨_,
    rfl⟩, ⟨_, rfl⟩, ⟨_, rfl⟩, ⟨_, rfl⟩, ⟨_, rfl⟩, ⟨_, rfl⟩, ⟨_, rfl⟩, ⟨_, rfl⟩, ⟨_, rfl⟩⟩

theorem meets_FrameChargeAndPath :
    (∃ t, exec (.sourceQualified false) up = .next t) ∧ (∃ t, exec (.sourceLost false) up = .next t) ∧ (∃ t, exec
    (.sourceOv false) up = .next t) ∧ (∃ t, exec (.longQualEnd false) up = .next t) ∧ (∃ t, exec (.ppPrefWrite .spi
    false false) up = .next t) ∧ (∃ t, exec (.start .spi) up = .next t) ∧ (∃ t, exec (.stop .spi) up = .next t) ∧ (∃
    t, exec .handoverDone up = .next t) ∧ (∃ t, exec .prechargeOffTimer up = .next t) ∧ (∃ t, exec .chargeEval up =
    .next t) ∧ (∃ t, exec .searchDwellEnd up = .next t) ∧ (∃ t, exec .searchRepeat up = .next t) ∧ (∃ t, exec
    .sessionTmax up = .next t) ∧ (∃ t, exec .servicePress up = .next t) :=
  ⟨⟨_, rfl⟩, ⟨_, rfl⟩, ⟨_, rfl⟩, ⟨_, rfl⟩, ⟨_, rfl⟩, ⟨_, rfl⟩, ⟨_, rfl⟩, ⟨_, rfl⟩, ⟨_, rfl⟩, ⟨_, rfl⟩, ⟨_, rfl⟩, ⟨_,
    rfl⟩, ⟨_, rfl⟩, ⟨_, rfl⟩⟩

theorem meets_FrameMetersAndJournal :
    (∃ t, exec (.statClr .spi) up = .next t) ∧ (∃ t, exec (.pointWrite .spi 0 0) up = .next t) ∧ (∃ t, exec
    (.coherentPageRead .spi 0) up = .next t) ∧ (∃ t, exec (.couchGo .spi 0) up = .next t) ∧ (∃ t, exec
    (.couchFreeWrite .spi 0) up = .next t) ∧ (∃ t, exec (.couchReq ⟨⟨0, 0, 0, 0, 0⟩, 0⟩ 0) up = .next t) ∧ (∃ t,
    exec (.couchAns 0 0 0) up = .next t) ∧ (∃ t, exec (.couchFree ⟨⟨0, 0, 0, 0, 0⟩, []⟩) up = .next t) ∧ (∃ t, exec
    (.couchHeld 0) up = .next t) ∧ (∃ t, exec (.sheetWritten false) up = .next t) ∧ (∃ t, exec (.jnlRdSlot .spi 0)
    up = .next t) ∧ (∃ t, exec (.jnlRdLoaded .spi) up = .next t) ∧ (∃ t, exec .reamLatch up = .next t) ∧ (∃ t, exec
    .meterRestoreDone up = .next t) ∧ (∃ t, exec .histSecond up = .next t) ∧ (∃ t, exec .midnightStats up = .next t)
    ∧ (∃ t, exec .couchAnswerTimeout up = .next t) ∧ (∃ t, exec .couchInstant up = .next t) ∧ (∃ t, exec
    .journalDrain up = .next t) ∧ (∃ t, exec .headSearchDone up = .next t) :=
  ⟨⟨_, rfl⟩, ⟨_, rfl⟩, ⟨_, rfl⟩, ⟨_, rfl⟩, ⟨_, rfl⟩, ⟨_, rfl⟩, ⟨_, rfl⟩, ⟨_, rfl⟩, ⟨_, rfl⟩, ⟨_, rfl⟩, ⟨_, rfl⟩, ⟨_,
    rfl⟩, ⟨_, rfl⟩, ⟨_, rfl⟩, ⟨_, rfl⟩, ⟨_, rfl⟩, ⟨_, rfl⟩, ⟨_, rfl⟩, ⟨_, rfl⟩, ⟨_, rfl⟩⟩

theorem meets_FrameLink :
    (∃ t, exec (.portUp 0) up = .next t) ∧ (∃ t, exec (.portDown 0) up = .next t) ∧ (∃ t, exec (.ringCheckSend
    false) up = .next t) ∧ (∃ t, exec (.ringCheck ⟨0, 0, 0, 0, 0⟩ 0) up = .next t) ∧ (∃ t, exec (.ringCheckTimeout
    false) up = .next t) ∧ (∃ t, exec (.ringState false false ⟨0, 0, false, 0⟩ 0) up = .next t) ∧ (∃ t, exec (.hello
    ⟨⟨0, 0, 0, 0, 0⟩, ⟨0, false, false, false⟩⟩) up = .next t) ∧ (∃ t, exec (.enum .spi) up = .next t) ∧ (∃ t, exec
    (.claim false ⟨⟨0, 0, 0, 0, 0⟩, ⟨0, false⟩⟩ 0) up = .next t) ∧ (∃ t, exec (.walk ⟨0, 0⟩ 0 false) up = .next t) ∧
    (∃ t, exec (.walkReport false 0 0 false) up = .next t) ∧ (∃ t, exec (.assign false ⟨⟨0, 0, 0, 0, 0⟩, []⟩) up =
    .next t) ∧ (∃ t, exec (.raRead .spi 0 0) up = .next t) ∧ (∃ t, exec (.raWrite .spi 0 0) up = .next t) ∧ (∃ t,
    exec (.raBlockRead .spi 0 0 0) up = .next t) ∧ (∃ t, exec (.raRsp 0 0 []) up = .next t) ∧ (∃ t, exec (.raTimeout
    0) up = .next t) ∧ (∃ t, exec (.raFree .spi 0) up = .next t) ∧ (∃ t, exec (.distGo .spi 0) up = .next t) ∧ (∃ t,
    exec (.distAbort .spi 0) up = .next t) ∧ (∃ t, exec (.distStart ⟨0, 0, 0, 0, 0⟩ false false false 0) up = .next
    t) ∧ (∃ t, exec (.distData ⟨⟨0, 0, 0, 0, 0⟩, 0⟩ [] false) up = .next t) ∧ (∃ t, exec (.distResult 0 0) up =
    .next t) ∧ (∃ t, exec (.imgReq 0) up = .next t) ∧ (∃ t, exec (.doorbell ⟨⟨0, 0, 0, 0, 0⟩, 0⟩) up = .next t) ∧ (∃
    t, exec (.irqFwd 0 0 0) up = .next t) ∧ (∃ t, exec (.fwdPop .spi) up = .next t) ∧ (∃ t, exec (.lnkCntClr .spi)
    up = .next t) ∧ (∃ t, exec (.linkFrameError false) up = .next t) ∧ (∃ t, exec .helloSend up = .next t) ∧ (∃ t,
    exec .enumAutoStart up = .next t) ∧ (∃ t, exec .claimTimeout up = .next t) ∧ (∃ t, exec .distCollectEnd up =
    .next t) ∧ (∃ t, exec (.rdReq 0 0 0 0 0) up = .next t) ∧ (named actingRegs (adr STM_SET_LO).toNat = false ∧ ∃ t,
    exec (.wrReq 1 0 (adr STM_SET_LO) 0x10 0) up = .next t) :=
  ⟨⟨_, rfl⟩, ⟨_, rfl⟩, ⟨_, rfl⟩, ⟨_, rfl⟩, ⟨_, rfl⟩, ⟨_, rfl⟩, ⟨_, rfl⟩, ⟨_, rfl⟩, ⟨_, rfl⟩, ⟨_, rfl⟩, ⟨_, rfl⟩, ⟨_,
    rfl⟩, ⟨_, rfl⟩, ⟨_, rfl⟩, ⟨_, rfl⟩, ⟨_, rfl⟩, ⟨_, rfl⟩, ⟨_, rfl⟩, ⟨_, rfl⟩, ⟨_, rfl⟩, ⟨_, rfl⟩, ⟨_, rfl⟩, ⟨_,
    rfl⟩, ⟨_, rfl⟩, ⟨_, rfl⟩, ⟨_, rfl⟩, ⟨_, rfl⟩, ⟨_, rfl⟩, ⟨_, rfl⟩, ⟨_, rfl⟩, ⟨_, rfl⟩, ⟨_, rfl⟩, ⟨_, rfl⟩, ⟨_,
    rfl⟩, ⟨by decide, _, rfl⟩⟩

theorem meets_FrameHostAndInterrupts :
    Registers.wf up.regs = true ∧ (∃ t, exec (.spiReservedCmd 0) up = .next t) ∧ (∃ t, exec (.hstCntClr .spi) up =
    .next t) ∧ (∃ t, exec (.doorbellWrite .spi 0) up = .next t) ∧ (∃ t, exec (.icuSrcWrite .spi 0 0) up = .next t) ∧
    (∃ t, exec (.icuPop .spi false) up = .next t) ∧ (∃ t, exec (.holdoffExpiry 0) up = .next t) ∧ (∃ t, exec
    (.icuHoldWrite .spi 0 0) up = .next t) ∧ (∃ t, exec (.standbyRequest .spi) up = .next t) ∧ (∃ t, exec
    (.wakeLatchEdge 0) up = .next t) ∧ (∃ t, exec (.irqEdge 0 false) up = .next t) ∧ (∃ t, exec (.gpioEdge 0 false)
    up = .next t) ∧ (∃ t, exec (.arm .spi) up = .next t) ∧ (∃ t, exec (.evidClr .spi) up = .next t) ∧ (∃ t, exec
    .i2cSclTimeout up = .next t) ∧ (∃ t, exec .intNGapEnd up = .next t) ∧ (∃ t, exec .standbyEnter up = .next t) ∧
    (∃ t, exec .wakeRise up = .next t) ∧ (∃ t, exec .wdoPulseEnd up = .next t) ∧ (∃ t, exec (.spiRead 0 0 [] false)
    up = .next t) ∧ (∃ t, exec (.i2cRead 0 0 false) up = .next t) ∧ (∃ t, exec (.i2cCurrentRead 0) up = .next t) ∧
    ((∀ k : Nat, k < [0x10#32, 0x20#32].length → named actingRegs (wordAt (adr STM_SET_LO) k) = false) ∧ ∃ t, exec
    (.spiWrite (adr STM_SET_LO) [0x10, 0x20] false) up = .next t) ∧ ((∀ k : Nat, k < [0x10#32, 0x20#32].length →
    named actingRegs (wordAt (adr STM_SET_LO) k) = false) ∧ ∃ t, exec (.i2cWrite (adr STM_SET_LO) [0x10, 0x20]
    false) up = .next t) ∧ (named actingRegs (adr STM_SET_LO).toNat = false ∧ ∃ t, exec (.registerWrite .spi (adr
    STM_SET_LO) 0x10) up = .next t) :=
  ⟨by decide, ⟨_, rfl⟩, ⟨_, rfl⟩, ⟨_, rfl⟩, ⟨_, rfl⟩, ⟨_, rfl⟩, ⟨_, rfl⟩, ⟨_, rfl⟩, ⟨_, rfl⟩, ⟨_, rfl⟩, ⟨_, rfl⟩,
    ⟨_, rfl⟩, ⟨_, rfl⟩, ⟨_, rfl⟩, ⟨_, rfl⟩, ⟨_, rfl⟩, ⟨_, rfl⟩, ⟨_, rfl⟩, ⟨_, rfl⟩, ⟨_, rfl⟩, ⟨_, rfl⟩, ⟨_, rfl⟩,
    ⟨by decide, _, rfl⟩, ⟨by decide, _, rfl⟩, ⟨by decide, _, rfl⟩⟩

/-! ### Premises met: the other statements -/

theorem meets_TimePasses : up.pending = [] ∧ dormant.pending = [] ∧ dormant.awake = false ∧ up.rcTime = false ∧
    ({ up with clk := { up.clk with onRc := true } } : State).rcTime = true := by decide

theorem meets_ExecKeepsQueue : ∃ t, exec .por up = .next t := ⟨_, rfl⟩

theorem meets_ResetValues : GLB_STAT ≠ RPC_RST_CAUSE ∧ GLB_STAT ≠ MTR_STAT := by decide

theorem meets_StepKeepsCanonical : up.canonical = true ∧ State.reset.canonical = true ∧
    ∃ t, step { up with pending := [.por] } = .next t := ⟨by decide, by decide, _, rfl⟩

theorem meets_StepKeepsDepths : up.bounded = true ∧ ∃ t, step { up with pending := [.journalDrain] } = .next t :=
  ⟨by decide, _, rfl⟩

theorem meets_RestoreByLevel : Registers.wf warm.regs = true ∧ (fun _ : Nat => true) STM_STAT = true ∧
    ((fun _ : Nat => false) STM_STAT = false) ∧ (⟨31, 1, .rw1c, 0, 2, []⟩ : FieldSpec) ∈ fieldsOf STM_STAT ∧
    warm.answers .spi = true ∧ warm.early .spi RPC_SWRST = false ∧ warm.idle = true ∧ warm.boot.waiting = none ∧
    warm.boot.restart = none ∧ warm.flag CEL_STAT_SWEEP = false ∧ STM_STAT ∉ [RPC_RST_CAUSE, RPC_RST_STAT, OTP_STAT, WDG_EV_STAT] ∧
    named [VCP_REC_LO 0, VCP_REC_HI 0] STM_STAT = false ∧ named [VCP_REC_LO 0, VCP_REC_HI 0] (VCP_REC_LO 3) = true ∧
    warm.mapLevel 4 ≠ 2 := by decide

theorem meets_BackupKeptThroughResets : (∃ t, exec .por up = .next t) ∧ Registers.wf up.regs = true ∧
    (fieldsOf RTC_TRIM).any (fun f => f.level == 0) = true ∧ unpowered.bkd.powered = false ∧
    Registers.wf unpowered.regs = true := ⟨⟨_, rfl⟩, by decide, by decide, by decide, by decide⟩

/-- A device in Run whose RST_MAP gives a software reset the level `l`. -/
def railed (l : Nat) : State := { upFld [(SEQ_STAT_DEV_COURSE, 2)] with boot := { up.boot with rstMap := BitVec.ofNat 32 (l * 16) } }

theorem meets_ResetWaitsForAllOff : (railed 0).answers .spi = true ∧ (railed 0).early .spi RPC_SWRST = false ∧
    (railed 0).railUp = true ∧ (railed 0).mapLevel 4 = 0 ∧ (railed 1).mapLevel 4 = 1 ∧ (railed 1).railUp = true ∧
    (railed 0).boot.waiting = none ∧ (railed 0).boot.restart = none ∧ (railed 0).flag SEQ_FAULT_ACTIVE = false ∧
    fallen.active = true ∧ fallen.seq.timeline = true ∧ fallen.thm.resetDue = false ∧
    ({ fallen with boot := { fallen.boot with waiting := some (1, 8) } } : State).boot.waiting = some (1, 8) ∧
    fallen.boot.restart = none ∧ fallen.flag SEQ_FAULT_ACTIVE = true := by decide

theorem meets_RestartKeepsRegulation : (railed 2).answers .spi = true ∧ (railed 2).early .spi RPC_SWRST = false ∧
    (railed 2).active = true ∧ (railed 2).mapLevel 4 = 2 ∧ (railed 3).mapLevel 4 = 3 ∧ (railed 2).boot.waiting = none ∧
    (railed 2).boot.restart = none ∧ Registers.wf (railed 2).regs = true := by decide

theorem meets_PlainRegisterWrite : up.answers .spi = true ∧
    (∀ a ∈ [STM_SET_LO, STM_STAT, RTC_ALM_HI, SEQ_EV, HST_STAT, THM_STAT], named actingRegs (adr a).toNat = false ∧
      ((adr a).toNat / 0x10000 = 4 → up.bkd.powered = true) ∧ up.busFault .spi true (adr a).toNat = none ∧
      reservedBit (fieldsOf (adr a).toNat) 0 = none ∧ up.refused .spi (adr a).toNat 0 = none ∧
      (fieldsOf (adr a).toNat).any FieldSpec.writable = true) := by decide

theorem meets_WritesWithoutEffect : up.busFault .spi true (adr 0x3FF00).toNat = none ∧
    windowOf (adr 0x3FF00).toNat = some .regs ∧ (∀ f ∈ fieldsOf (adr 0x3FF00).toNat, f.kind = .ro) ∧
    up.busFault .spi true (adr GLB_PART_ID).toNat = none ∧ windowOf (adr GLB_PART_ID).toNat = some .regs ∧
    (∀ f ∈ fieldsOf (adr GLB_PART_ID).toNat, f.kind = .ro) ∧ State.reset.boot.power = .starting ∧
    State.reset.boot.phase < 4 ∧ dormant.boot.power = .dormant ∧ (restarting 2).boot.restart = some 2 ∧
    (inP 3).boot.power = .starting ∧ (inP 3).boot.phase < 4 := by decide

theorem meets_RefusedWrite : up.answers .spi = true ∧ up.busFault .spi true (adr STM_INC).toNat = none ∧
    windowOf (adr STM_INC).toNat = some .regs ∧ ((adr STM_INC).toNat / 0x10000 = 4 → up.bkd.powered = true) ∧
    (fieldsOf (adr STM_INC).toNat).any FieldSpec.writable = true ∧
    lowest (reservedBit (fieldsOf (adr STM_INC).toNat) 0) (up.refused .spi (adr STM_INC).toNat 0) = some 0 := by decide

theorem meets_FirstCfgErrorKept : (cfgErrOf (adr STM_INC).toNat).2.1 ≠ 0 ∧ blockOffset (adr STM_INC).toNat < 4096 ∧
    up.flag (cfgErrOf (adr STM_INC).toNat).1 = false ∧
    (upFld [(STM_STAT_CFG_ERR, 1)]).flag (cfgErrOf (adr STM_INC).toNat).1 = true ∧
    (upFld [(STM_STAT_CFG_ERR, 1)]).answers .spi = true ∧
    lowest (reservedBit (fieldsOf (adr STM_INC).toNat) 0)
      ((upFld [(STM_STAT_CFG_ERR, 1)]).refused .spi (adr STM_INC).toNat 0) = some 0 := by decide

/-- Where the two kinds of refusal meet: SRC of BND_CTRL reserved (bit 8) and CMD without its key (bit 0). -/
theorem meets_FirstCfgErrorKept_both : reservedBit (fieldsOf BND_CTRL) 0x301 = some 8 ∧
    up.refused .spi BND_CTRL 0x301 = some 0 ∧ up.busFault .spi true (adr BND_CTRL).toNat = none ∧
    (after (.registerWrite .spi (adr BND_CTRL) 0x301) up).fld BND_CFG_ERR_INFO_FIELD_BIT = 0 := by decide

theorem meets_BusErrorRecord : up.answers .spi = true ∧ (1 : Word).toNat % 4 ≠ 0 ∧ windowOf (1 : Word).toNat ≠ none ∧
    (0x828000 : Word).toNat % 4 = 0 ∧ windowOf (0x828000 : Word).toNat = none ∧ (0x828002 : Word).toNat % 4 ≠ 0 ∧
    windowOf (0x828002 : Word).toNat = none ∧ up.flag GLB_STAT_BUS_ERR = false ∧
    (upFld [(GLB_STAT_BUS_ERR, 1)]).flag GLB_STAT_BUS_ERR = true ∧
    (upFld [(GLB_STAT_BUS_ERR, 1)]).answers .spi = true := by decide

/-- Where the two clauses meet: the address is neither aligned nor in a window. -/
theorem test_both_bus_errors :
    bitsOf ((after (.registerWrite .spi 0x828002 1) up).reg GLB_BUS_ERR_INFO).toNat 27 3 = 1 ∧
    (up.busRead .spi 0x828002).1 = 0 := by decide

/-- The state after a first read of STM_TIME_LO. -/
def timeRead : State := (up.busRead .spi (adr STM_TIME_LO)).2

theorem meets_ReadFreezesPage : STM_TIME_HI ∈ frozenBy STM_TIME_LO ∧ up.answers .spi = true ∧
    up.busFault .spi false STM_TIME_LO = none ∧ pathShadow .link ≠ pathShadow .spi ∧ timeRead.answers .spi = true ∧
    timeRead.busFault .spi false STM_TIME_HI = none := by decide

theorem meets_EqualRank : member.answers .spi = true ∧ member.answers .link = true ∧
    member.busFault .spi true (adr STM_SET_LO).toNat = none ∧ (∀ n : Nat, n < 16 → (adr STM_SET_LO).toNat ≠ BRK_TARGET n) ∧
    (adr STM_SET_LO).toNat ≠ JNL_RD_SLOT ∧ named actingRegs (adr STM_SET_LO).toNat = false ∧
    ((adr STM_SET_LO).toNat / 0x10000 = 4 → member.bkd.powered = true) ∧
    (∀ f ∈ fieldsOf (adr STM_SET_LO).toNat, f.kind = .rw) ∧ (fieldsOf (adr STM_SET_LO).toNat).any FieldSpec.writable = true ∧
    reservedBit (fieldsOf (adr STM_SET_LO).toNat) 1 = none ∧ member.refused .spi (adr STM_SET_LO).toNat 1 = none ∧
    reservedBit (fieldsOf (adr STM_SET_LO).toNat) 2 = none ∧ member.refused .link (adr STM_SET_LO).toNat 2 = none := by decide

/-- Two entries of one priority whose stamps lie either side of the wrap of SYSTIME. -/
def twoEntries : State := { up with icu := { up.icu with queue := [⟨5, 2, 1⟩, ⟨9, 2, 0xFFFFFFFFFFFFFFFF⟩] } }

theorem meets_HeadEntryOrder : twoEntries.icu.queue ≠ [] ∧
    (∀ e ∈ twoEntries.icu.queue, (e.stamp - 0xFFFFFFFFFFFFFFFF).toNat < 2 ^ 63) := by decide

/-- A full host queue, and the same with a source waiting for it. -/
def fullQueue : State := { up.setReg (ICU_SRC 832) 0x000083FF with
  icu := { up.icu with queue := (List.range 64).map (fun k => ⟨k, 1, BitVec.ofNat 64 k⟩) } }
def fullWaiting : State := { up.setReg (ICU_SRC 832) 0x800083FF with
  icu := { fullQueue.icu with stuck := [832] } }

theorem meets_FullQueueKeepsPending_1 : fullQueue.answers .spi = true ∧ fullQueue.early .spi ICU_DOORBELL = false ∧
    fullQueue.icuRuns = true ∧ fullQueue.icu.queue.length = 64 ∧ (∀ e ∈ fullQueue.icu.queue, e.source ≠ 832) ∧
    fullQueue.flag (ICU_SRC_PEND 832) = false ∧ fullQueue.flag (ICU_SRC_EN 832) = true ∧
    fullQueue.fld (ICU_SRC_DEST 832) = 3 ∧ 32 ≤ fullQueue.fld (ICU_SRC_GROUP 832) ∧
    (∀ h ∈ fullQueue.icu.held, h.1 ≠ fullQueue.fld (ICU_SRC_GROUP 832)) ∧ fullQueue.icu.stuck = [] ∧
    fullQueue.flag (ICU_SRC_EN 6) = false := by decide

theorem meets_FullQueueKeepsPending_2 : fullWaiting.answers .spi = true ∧ fullWaiting.early .spi ICU_CTRL = false ∧
    fullWaiting.icu.queue.length = 64 ∧ headEntry fullWaiting.icu.queue = some ⟨0, 1, 0⟩ ∧
    (∀ x ∈ fullWaiting.icu.queue, ∀ y ∈ fullWaiting.icu.queue, x.source = y.source → x = y) ∧
    fullWaiting.icu.queue.Nodup ∧ (∀ x ∈ fullWaiting.icu.queue, x.source ≠ 832) ∧ fullWaiting.icu.stuck = [832] ∧
    fullWaiting.flag (ICU_SRC_PEND 832) = true ∧ fullWaiting.flag (ICU_SRC_EN 832) = true ∧
    fullWaiting.fld (ICU_SRC_DEST 832) = 3 := by decide +kernel

/-- A journal queue of `n` sheets. -/
def withSheets (n : Nat) : State := { up with jnl := { up.jnl with queue := List.replicate n someSheet } }

theorem meets_SheetQueue : (withSheets 31).jnl.queue.length < 32 ∧ (withSheets 31).jnl.searching = false ∧
    searching.jnl.queue.length < 32 ∧ searching.jnl.searching = true ∧ 32 ≤ (withSheets 32).jnl.queue.length ∧
    (withSheets 32).fld JNL_LOST_LOST + 1 < 2 ^ JNL_LOST_LOST.width := by decide

/-- The last slot of the journal, and the first of its last sector, being written. -/
def lastSlot (k : Nat) : State := { withSheets 1 with jnl := { (withSheets 1).jnl with writing := some k } }

theorem meets_SheetInFlash : (lastSlot 94207).jnl.writing = some 94207 ∧ 94207 < slotCount ∧
    (lastSlot 94207).jnl.queue = someSheet :: [] ∧ (lastSlot 94207).jnl.lostNow = 0 ∧
    (lastSlot 94144).jnl.writing = some 94144 ∧ 94144 % 64 = 0 := by decide

theorem meets_AllOffEffects : up.flag SEQ_FAULT_ACTIVE = false ∧ fallen.flag SEQ_FAULT_ACTIVE = true ∧
    running.fld (BRK_STAT_STATE 0) ≠ brkUnassigned := by decide

theorem meets_WatchdogChallenge : up.answers .spi = true ∧ up.early .spi WDG_CTRL = false ∧ up.armRefused = false ∧
    up.hwStart = false ∧
    ({ up with wdg := { up.wdg with armed := true, starting := some false } } : State).wdg.starting = some false ∧
    (0xACE1 : BitVec 16) ≠ 0 := by decide

/-- A compensator that is one gain of 1, from histories of 0. -/
def gainOne (k : Nat) : Int := if k = 0 then 2 ^ 20 else 0

theorem meets_CompensatorLimits : (-5 : Int) ≤ 5 ∧ (-5 : Int) ≤ (compensate gainOne Brick.fresh [] 5 0 0 (-5) 5).v ∧
    (compensate gainOne Brick.fresh [] 5 0 0 (-5) 5).v ≤ 5 ∧ (compensate gainOne Brick.fresh [] 5 0 0 (-5) 5).frozen = false ∧
    5 < (compensate gainOne Brick.fresh [] 6 0 0 (-5) 5).v ∧ (compensate gainOne Brick.fresh [] 6 0 0 (-5) 5).frozen = true ∧
    (compensate gainOne Brick.fresh [] (-6) 0 0 (-5) 5).v < -5 := by decide

end Sys2Proof.Tests
end

section
/-! SUPPORT. Every command keeps what no operation breaks (`Keeps`): one lemma a command, each from the lemmas of the operations it
calls; and so does a step. -/
namespace Sys2Proof.Machine

/-- Both branches of a guard keep it. -/
theorem Keeps.ite {σ s t : State} {c : Prop} [Decidable c] (hs : Keeps σ s) (ht : Keeps σ t) : Keeps σ (if c then s else t) := by
  split
  · exact hs
  · exact ht

/-- What bounds a state's queues and slots: the queues themselves, the journal's head and the slots being written. -/
def depths (icu : Icu) (jnl : Jnl) (lnk : Lnk) (bkd : Bkd) :=
  (icu.queue, jnl.queue, jnl.head, jnl.writing, lnk.fwd, bkd.fifo)

/-- An update that leaves the depths and the slots as they are. -/
theorem Keeps.parts {o t : State} (h : Keeps o t) {sh fr clk boot bkd icu hst wdg jnl pins bnd seq vcp cpm msr thm cel mtr lnk}
    (hd : depths icu jnl lnk bkd = depths t.icu t.jnl t.lnk t.bkd) :
    Keeps o (State.mk t.pending t.regs sh fr clk boot bkd icu hst wdg jnl pins bnd t.brk seq vcp cpm msr thm cel mtr lnk
      t.sram t.flash) := by
  simp only [depths, Prod.mk.injEq] at hd
  obtain ⟨hicu, hjnl, hhead, hwriting, hlnk, hbkd⟩ := hd
  exact h.with (fun x => hicu ▸ h.host x) (fun x => hjnl ▸ h.sheets x) (fun x => hhead ▸ hwriting ▸ h.slots x)
    (fun x => hlnk ▸ h.fwd x) (fun x => hbkd ▸ h.fifo x)

/-! ### The commands with a depth or a slot of their own to keep -/

/-- Statistics taken back from a journal sheet, where there is one (R384), keep what every operation keeps. -/
theorem restoreHist_keeps {σ : State} (b : List Byte) (h : Nat) (t : State) (ht : Keeps σ t) :
    Keeps σ (if b.isEmpty then t else
      forEach (List.range 8) (fun i t => t.setReg (MTR_HIST (8 * h + i)) (BitVec.ofNat 32 (u32 b (1 + 4 * i)))) t) := by
  split
  · exact ht
  · exact forEach_keeps (fun _ _ hu => State.setReg_keeps _ _ _ hu) ht

theorem execMeterRestoreDone_keeps (s : State) : OKeeps s (execMeterRestoreDone s) := by
  refine .next ?_
  split
  · extract_lets p pay q m0 m t stat hist t1 b t2
    have ht : Keeps s t := (Keeps.refl s).with id id id id id
    have ht1 : Keeps s t1 := restoreHist_keeps (stat 1) 1 _ (restoreHist_keeps (stat 0) 0 _ ht)
    refine State.raise_keeps _ _ (State.setFld_keeps _ _ _ ?_)
    unfold t2
    split
    · exact ht1
    · exact State.setFld_keeps _ _ _ (State.setFld_keeps _ _ _ ht1)
  · exact .refl s

theorem execEvtEdgeAccept_keeps (input : Nat) (level : Bool) (s : State) : OKeeps s (execEvtEdgeAccept input level s) := by
  refine .next ?_
  split
  · split
    · split
      · exact .refl s
      · exact State.raise_keeps _ _ (State.bkdCode_keeps _ _ (State.bump_keeps _ _ (.refl s)))
    · next hroom =>
      refine State.raise_keeps _ _ (onlyIf_keeps (fun _ => State.evtSheet_keeps _ _) ?_)
      refine (Keeps.refl s).with id id id id fun _ => ?_
      simp only [List.length_append, List.length_singleton]
      omega
  · exact .refl s

theorem execJournalDrain_keeps (s : State) : OKeeps s (execJournalDrain s) := by
  refine .next ?_
  split
  · exact (Keeps.refl s).with id id (fun h => ⟨Nat.mod_lt _ (by decide), by simpa using h.1⟩) id id
  · exact .refl s

theorem execSheetWritten_keeps (flashError : Bool) (s : State) : OKeeps s (execSheetWritten flashError s) := by
  refine .next ?_
  split
  · next slot sh rest hw hq =>
    split
    · have h := State.eraseAhead_keeps slot _ (State.sheetPartly_keeps slot s (.refl s))
      exact State.flagRaise_keeps _ _ _ (State.sheet_keeps _ _ _
        (h.with h.host h.sheets (fun _ => ⟨Nat.mod_lt _ (by decide), by simp⟩) h.fwd h.fifo))
    · have h := State.flashWrite_keeps (slotAddress slot) sh.bytes _ (State.eraseAhead_keeps slot s (.refl s))
      refine State.reportLost_keeps _ (h.with h.host (fun hl => ?_) (fun hs => ⟨(h.slots hs).1, by simp⟩) h.fwd h.fifo)
      rw [hq] at hl
      exact Nat.le_of_succ_le hl
  · exact .refl s

/-- Numbering the waiting sheets (R396) drops and adds none. -/
theorem numberSheets_length (l : List Sheet) (n : Nat) : (numberSheets n l).1.length = l.length := by
  induction l generalizing n with
  | nil => rfl
  | cons sh r ih => cases h : sh.seq <;> simp [numberSheets, h, ih]

theorem execHeadSearchDone_keeps (s : State) : OKeeps s (execHeadSearchDone s) := by
  refine .next ?_
  split
  · refine (Keeps.refl s).with id (fun h => (numberSheets_length _ _).trans_le h) (fun h => ⟨?_, h.2⟩) id id
    dsimp only
    split
    · exact Nat.mod_lt _ (by decide)
    · decide
  · exact .refl s

theorem execSpiRead_keeps (address : Word) (count : Nat) (late : List Bool) (addressCut : Bool) (s : State) :
    OKeeps s (execSpiRead address count late addressCut s) := by
  refine .next ?_
  split
  · split
    · exact State.spiEnd_keeps _ _ _ _ _ _ (State.frameError_keeps _ _ _ (.refl s))
    · exact State.spiEnd_keeps _ _ _ _ _ _ (forEach_keeps (fun _ _ hu => State.flagRaise_keeps _ _ _ (State.bump_keeps _ _ hu))
        (State.portRead_keeps _ _ _ _ _ _ (.refl s)))
  · exact .refl s

theorem execPor_keeps (s : State) : OKeeps s (execPor s) := by
  refine .next ?_
  have h : Keeps s s.cutSheet.storePartly.cutOtp := State.cutOtp_keeps _ (State.storePartly_keeps _ (State.cutSheet_keeps _ (.refl s)))
  have hr := State.setFld_keeps _ MTR_STAT_RESTORING 1 (State.setFld_keeps _ RPC_RST_CAUSE_CAUSE 1
    (State.restore_keeps 1 (fun _ => true) _ h))
  exact ⟨h.pending, hr.regs, h.flash, fun _ => Memory.wf_nil _, fun _ => rfl, fun _ => Nat.zero_le _,
    fun _ => Nat.zero_le _, fun _ => ⟨Nat.zero_lt_succ _, fun _ hk => by cases hk⟩, fun _ => Nat.zero_le _, h.fifo⟩

/-! ### The other commands -/

theorem execPeriodicTrigger_keeps (held : List (Nat × BitVec 14)) (s : State) : OKeeps s (execPeriodicTrigger held s) :=
  .next (.ite (State.trigger_keeps _ _ _ _ _ (State.stepGrid_keeps _ (.refl s))) (.refl s))

theorem execExtTrigger_keeps (held : List (Nat × BitVec 14)) (s : State) : OKeeps s (execExtTrigger held s) :=
  .next (.ite (State.sourceTrigger_keeps _ _ _ _ _ (.parts (State.endFallback_keeps _ (.refl s)) rfl)) (.refl s))

theorem execTriggerFallbackTimeout_keeps (s : State) : OKeeps s (execTriggerFallbackTimeout s) :=
  .next (.ite (State.startFallback_keeps _ (.refl s)) (.refl s))

theorem execReamLatch_keeps (s : State) : OKeeps s (execReamLatch s) :=
  .next (.ite (State.releaseHeld_keeps _ (State.latchReam_keeps _ _ _ (State.takeCouches_keeps _ _ _ (.refl s) (.refl s))))
    (.refl s))

theorem execCouchInstant_keeps (s : State) : OKeeps s (execCouchInstant s) :=
  .next (State.takeCouches_keeps _ _ _ (.refl s) (.refl s))

theorem execCouchHeld_keeps (bank : BitVec 2) (s : State) : OKeeps s (execCouchHeld bank s) :=
  .next (.ite (State.sheet_keeps _ _ _ (State.setFld_keeps _ _ _ (.refl s))) (.refl s))

theorem execHistSecond_keeps (s : State) : OKeeps s (execHistSecond s) :=
  .next (.ite (State.bump_keeps _ _ (.parts (.refl s) rfl)) (.refl s))

theorem execMidnightStats_keeps (s : State) : OKeeps s (execMidnightStats s) :=
  .next (.ite (State.sheet_keeps _ _ _ (State.sheet_keeps _ _ _ (State.sheet_keeps _ _ _ (.parts (.refl s) rfl)))) (.refl s))

theorem execBrickUpdate_keeps (n : Nat) (lanes : LaneErrors) (held : List (Nat × BitVec 14)) (s : State) :
    OKeeps s (execBrickUpdate n lanes held s) :=
  .next (.ite (.ite (State.leaderUpdate_keeps _ _ _ _ _ (.refl s)) (.ite (State.followerUpdate_keeps _ _ _ _ (.refl s)) (.ite
    (State.secondaryUpdate_keeps _ _ _ _ (.refl s)) (.refl s)))) (.ite (State.haltedUpdate_keeps _ _ (.refl s)) (.refl s)))

theorem execSettleTimeout_keeps (n : Nat) (s : State) : OKeeps s (execSettleTimeout n s) :=
  .next (.ite (State.settleDecide_keeps _ _ _ (.refl s)) (.refl s))

theorem execRunning1sExpiry_keeps (n : Nat) (s : State) : OKeeps s (execRunning1sExpiry n s) :=
  .next (.ite (State.updBrick_keeps _ _ _ (State.setFld_keeps _ _ _ (.refl s))) (.refl s))

theorem execQuickTestDone_keeps (n : Nat) (passA passB : Bool) (s : State) : OKeeps s (execQuickTestDone n passA passB s) := by
  refine .next (.ite (.ite ?_ ?_) (.refl _))
  · extract_lets a b t ta tb
    have ht : Keeps s t := .ite (State.endHold_keeps _ _ _ _ (.refl _)) (.refl _)
    have hta : Keeps s ta := .ite (State.retireLane_keeps _ _ _ _ ht) ht
    have htb : Keeps s tb := .ite (State.retireLane_keeps _ _ _ _ hta) hta
    exact .ite (State.recover_keeps _ _ _ (State.updBrick_keeps _ _ _ (State.toFullTest_keeps _ _ _ htb)))
      (.ite (State.recover_keeps _ _ _ htb) (.ite (State.recover_keeps _ _ _ htb) (State.railFault_keeps _ _ _ _ htb)))
  · extract_lets l pass t r u v
    have ht : Keeps s t := .ite (State.endHold_keeps _ _ _ _ (.refl _)) (.refl _)
    have hr : Keeps s r.1 := State.countTransient_keeps _ _ _ ht
    have hv : Keeps s v := State.recover_keeps _ _ _ (.ite hr (State.updBrick_keeps _ _ _ hr))
    exact .ite (.ite (State.retireLane_keeps _ _ _ _ hv) hv) (State.railFault_keeps _ _ _ _ ht)

theorem execFullTestDone_keeps (n : Nat) (lane : Lane) (pass : Bool) (s : State) :
    OKeeps s (execFullTestDone n lane pass s) :=
  .next (.ite (.ite (.ite (State.retireLane_keeps _ _ _ _ (State.countTransient_keeps _ _ _ (State.updBrick_keeps _ _ _
    (.refl s)))) (.ite (State.countTransient_keeps _ _ _ (State.updBrick_keeps _ _ _ (.refl s))) (State.updBrick_keeps _ _ _
    (State.countTransient_keeps _ _ _ (State.updBrick_keeps _ _ _ (.refl s)))))) (State.retireLane_keeps _ _ _ _
    (State.updBrick_keeps _ _ _ (.refl s)))) (.refl s))

theorem execLaneRejoin_keeps (n : Nat) (s : State) : OKeeps s (execLaneRejoin n s) := by
  refine .next ?_
  split
  · refine .ite (.ite ?_ (State.updBrick_keeps _ _ _ (State.setFld_keeps _ _ _ (.refl s)))) (.refl s)
    dsimp only
    split
    · exact State.updBrick_keeps _ _ _ (State.toFullTest_keeps _ _ _ (State.setFld_keeps _ _ _ (State.setFld_keeps _ _ _
        (State.updBrick_keeps _ _ _ (State.setFld_keeps _ _ _ (.refl s))))))
    · exact State.setFld_keeps _ _ _ (State.setFld_keeps _ _ _ (State.updBrick_keeps _ _ _ (State.setFld_keeps _ _ _
        (.refl s))))
  · exact .refl s

theorem execLaneScrub_keeps (n : Nat) (dataA dataB : List (Nat × BitVec 32)) (codeA codeB : List (Nat × BitVec 7)) (s : State) :
    OKeeps s (execLaneScrub n dataA dataB codeA codeB s) := by
  unfold execLaneScrub
  extract_lets scrubs run charge failed store a b t
  have hrun {l : Lane} {flips : Upsets} {t : State} (ht : Keeps s t) : Keeps s (run l flips t).1 := by
    unfold run
    split
    · exact State.scrubLane_keeps _ _ _ _ ht
    · exact ht
  have hfailed {t : State} (ht : Keeps s t) : Keeps s (failed t) := State.flagRaise_keeps _ _ _ ht
  have hcharge {l : Lane} {t : State} (ht : Keeps s t) : Keeps s (charge l t) := State.bump_keeps _ _ ht
  have hstore {l : Lane} {t : State} (ht : Keeps s t) : Keeps s (store l t) :=
    .ite (State.updBrick_keeps _ _ _ (State.toFullTest_keeps _ _ _ (State.laneSheet_keeps _ _ _ _ _ (hfailed (hcharge ht)))))
      (State.railFault_keeps _ _ _ _ (hfailed (hcharge ht)))
  have ht : Keeps s t := hrun (hrun (State.updBrick_keeps _ _ _ (.refl _)))
  exact .next (.ite (.ite (State.railFault_keeps _ _ _ _ (hfailed (hcharge (hcharge ht)))) (.ite (hstore ht) (.ite (hstore ht) ht)))
    (.refl _))

theorem execFastLimitTrip_keeps (cs : CsSample) (s : State) : OKeeps s (execFastLimitTrip cs s) :=
  .next (State.fastSense_keeps _ _ _ (.refl s))

theorem execBlankingEnd_keeps (n microvolts : Nat) (s : State) : OKeeps s (execBlankingEnd n microvolts s) :=
  .next (State.fastSense_keeps _ _ _ (.refl s))

theorem execCourseStepUp_keeps (s : State) : OKeeps s (execCourseStepUp s) :=
  .next (State.courseStep_keeps _ _ (.refl s))

theorem execCourseStepDown_keeps (s : State) : OKeeps s (execCourseStepDown s) :=
  .next (State.courseStep_keeps _ _ (.refl s))

theorem execCourseFloor_keeps (s : State) : OKeeps s (execCourseFloor s) :=
  .next (.ite (.ite (.parts (State.flagRaise_keeps _ _ _ (State.setLine_keeps _ _ (State.setFld_keeps _ _ _ (.refl s)))) rfl)
    (State.settleStep_keeps _ (State.takeHold_keeps _ (State.beginRun_keeps _ _ _ _ (.parts (State.flagRaise_keeps _ _ _
    (State.setLine_keeps _ _ (State.setFld_keeps _ _ _ (.refl s)))) rfl))))) (State.seeLow_keeps _ (.refl s)))

theorem execCourseInvalidLow_keeps (s : State) : OKeeps s (execCourseInvalidLow s) :=
  .next (.ite (.ite (.parts (State.sheet_keeps _ _ _ (State.flagRaise_keeps _ _ _ (State.bump_keeps _ _
    (State.lineReport_keeps _ (.parts (.refl s) rfl))))) rfl) (.parts (State.flagRaise_keeps _ _ _ (State.bump_keeps _ _
    (State.lineReport_keeps _ (.parts (.refl s) rfl)))) rfl)) (.refl s))

theorem execRailOn_keeps (s : State) : OKeeps s (execRailOn s) := by
  refine .next ?_
  split
  · exact .refl s
  · exact .ite (.ite (State.courseFault_keeps _ _ _ (.refl s)) (.refl s)) (.ite (.ite (State.finishAction_keeps _ (.refl s))
      (.ite (State.courseFault_keeps _ _ _ (.refl s)) (.ite (State.finishAction_keeps _ (State.startBrick_keeps _ _ _
      (.refl s))) (State.finishAction_keeps _ (.refl s))))) (.ite (.ite (State.finishAction_keeps _ (.refl s))
      (State.finishAction_keeps _ (State.beginDelay_keeps _ _ (State.setRail_keeps _ _ _ (State.setOn_keeps _ _ _
      (State.setAux_keeps _ _ _ (.refl s))))))) (State.finishAction_keeps _ (.refl s))))

theorem execRailOff_keeps (s : State) : OKeeps s (execRailOff s) := by
  refine .next ?_
  split
  · exact .refl s
  · exact .ite (.ite (.parts (.ite (.refl s) (State.stopBrick_keeps _ _ _ (.refl s))) rfl) (State.finishAction_keeps _ (.refl s)))
      (.ite (State.finishAction_keeps _ (State.railDown_keeps _ _ (State.setAux_keeps _ _ _ (.refl s))))
      (State.finishAction_keeps _ (.refl s)))

theorem execWaitPg_keeps (s : State) : OKeeps s (execWaitPg s) := by
  refine .next ?_
  split
  · exact .refl s
  · exact .ite (State.finishAction_keeps _ (.refl s)) (.parts (.refl s) rfl)

theorem execWaitPgTimeout_keeps (s : State) : OKeeps s (execWaitPgTimeout s) := by
  refine .next ?_
  split
  · exact .ite (State.courseFault_keeps _ _ _ (.refl s)) (.refl s)
  · exact .refl s

theorem execDelay_keeps (s : State) : OKeeps s (execDelay s) := by
  refine .next ?_
  split
  · exact .refl s
  · exact .parts (.refl s) rfl

theorem execDelayExpiry_keeps (s : State) : OKeeps s (execDelayExpiry s) := by
  refine .next ?_
  split
  · exact .ite (State.finishAction_keeps _ (.refl s)) (.refl s)
  · exact .refl s

theorem execPinSet_keeps (s : State) : OKeeps s (execPinSet s) := by
  refine .next ?_
  split
  · exact .refl s
  · exact State.finishAction_keeps _ (State.drivePin_keeps _ _ _ (.refl s))

theorem execSetRef_keeps (s : State) : OKeeps s (execSetRef s) := by
  refine .next ?_
  split
  · exact .refl s
  · exact State.finishAction_keeps _ (State.writeTarget_keeps _ _ _ _ _ (.refl s))

theorem execCascInRise_keeps (s : State) : OKeeps s (execCascInRise s) :=
  .next (.ite (.ite (.ite (.parts (.refl s) rfl) (.parts (.parts (.refl s) rfl) rfl)) (.ite (State.settleStep_keeps _ (.parts (.parts
    (.refl s) rfl) rfl)) (.ite (.parts (.parts (.refl s) rfl) rfl) (.parts (.refl s) rfl)))) (.parts (.refl s) rfl))

theorem execCascInFall_keeps (s : State) : OKeeps s (execCascInFall s) :=
  .next (.ite (.parts (.parts (.refl s) rfl) rfl) (.parts (.refl s) rfl))

theorem execCascTimeout_keeps (s : State) : OKeeps s (execCascTimeout s) := by
  refine .next ?_
  split
  · exact .ite (State.allOff_keeps _ _ _ _ (State.flagRaise_keeps _ _ _ (.refl s))) (.refl s)
  · exact .refl s

theorem execRetryTimerExpiry_keeps (blocked : Bool) (s : State) : OKeeps s (execRetryTimerExpiry blocked s) :=
  .next (.ite (.ite (State.requestRejoin_keeps _ (State.clearFault_keeps _ (forEach_keeps (fun _ _ hu => (.ite
    (State.setFld_keeps _ _ _ hu) hu)) (.parts (.refl s) rfl)))) (.parts (.refl s) rfl)) (.refl s))

theorem execCourseLineIdle_keeps (s : State) : OKeeps s (execCourseLineIdle s) := by
  refine .next (.ite (State.setLine_keeps _ _ (.refl s)) (.ite ?_ (.refl s)))
  split
  · exact .parts (State.confirmed_keeps _ _ _ (.parts (State.send_keeps _ _ _ _ _ (State.setLine_keeps _ _ (.parts
      (.refl s) rfl))) rfl)) rfl
  · exact .ite (State.setLine_keeps _ _ (.parts (.refl s) rfl)) (.parts (State.setLine_keeps _ _ (.parts (.refl s) rfl)) rfl)

theorem execConfirm_keeps (course : Framed (BitVec 8)) (down : Bool) (s : State) : OKeeps s (execConfirm course down s) :=
  .next (.ite (State.send_keeps _ _ _ _ _ (State.confirmed_keeps _ _ _ (State.passOn_keeps _ _ _ _ _ _ (.refl s))))
    (State.passOn_keeps _ _ _ _ _ _ (.refl s)))

theorem execCourseAns_keeps (address : BitVec 12) (_course : BitVec 8) (_down : Bool) (status : BitVec 2) (rejoin : Bool) (s : State) :
    OKeeps s (execCourseAns address _course _down status rejoin s) :=
  .next (.ite (.ite (.parts (.parts (.refl s) rfl) rfl) (.parts (.refl s) rfl)) (.refl s))

theorem execConfirmAnswerTimeout_keeps (s : State) : OKeeps s (execConfirmAnswerTimeout s) := by
  refine .next ?_
  split
  · refine .ite ?_ (.refl _)
    extract_lets ans addr all seq cleared told bad conc seq' t u
    have htold : Keeps s told := forEach_keeps (fun _ _ hu => .ite
      (State.raise_keeps _ _ (State.setFld_keeps _ _ _ (State.bump_keeps _ _ (State.sheet_keeps _ _ _ hu)))) (.ite
      (State.raise_keeps _ _ (State.setFld_keeps _ _ _ (State.bump_keeps _ _ (State.sheet_keeps _ _ _ hu)))) hu)) (.parts (.refl _) rfl)
    have ht : Keeps s t := .parts htold rfl
    exact State.stringDone_keeps _ _ _ (.ite (State.faultDownSheets_keeps _ _ ht) ht)
  · exact .refl _

theorem execConfirmMissingTimeout_keeps (s : State) : OKeeps s (execConfirmMissingTimeout s) :=
  .next (.ite (State.sheet_keeps _ _ _ (.parts (.refl s) rfl)) (.refl s))

theorem execCourseMasterStep_keeps (pulseSeen : Bool) (s : State) : OKeeps s (execCourseMasterStep pulseSeen s) :=
  .next (.ite (State.givePulse_keeps _ _ (.ite (State.send_keeps _ _ _ _ _ (.parts (.ite (State.setFld_keeps _ _ _ (.parts
    (.refl s) rfl)) (.parts (.refl s) rfl)) rfl)) (.ite (State.setFld_keeps _ _ _ (.parts (.refl s) rfl)) (.parts (.refl s) rfl)))) (.refl s))

theorem execTrunkStep_keeps (course : Framed (BitVec 8)) (down floor pulseSeen : Bool) (s : State) :
    OKeeps s (execTrunkStep course down floor pulseSeen s) :=
  .next (.ite (.ite (.parts (State.passOn_keeps _ _ _ _ _ _ (.refl s)) rfl) (State.offerPulse_keeps _ _ (.parts
    (State.passOn_keeps _ _ _ _ _ _ (.refl s)) rfl))) (State.passOn_keeps _ _ _ _ _ _ (.refl s)))

theorem execHeadDone_keeps (address : HeadReport) (s : State) : OKeeps s (execHeadDone address s) :=
  .next (.ite (.ite (State.systemDone_keeps _ _ (.parts (.refl s) rfl)) (.parts (.refl s) rfl)) (.refl s))

theorem execHeadReportTimeout_keeps (s : State) : OKeeps s (execHeadReportTimeout s) :=
  .next (.ite (State.startDescent_keeps _ (.parts (State.setFld_keeps _ _ _ (State.sheet_keeps _ _ _ (.refl s))) rfl)) (.refl s))

theorem execStepTimeout_keeps (s : State) : OKeeps s (execStepTimeout s) :=
  .next (.ite (State.giveLinkFloor_keeps _ (State.holdLineFault_keeps _ _ _ (.refl s))) (.refl s))

theorem execLinkFloor_keeps (s : State) : OKeeps s (execLinkFloor s) :=
  .next (.ite (.ite (.ite (State.relay_keeps _ _ _ _ _ _ (State.floorFrame_keeps _ (.refl s))) (State.linkFloor_keeps _
    (State.relay_keeps _ _ _ _ _ _ (State.floorFrame_keeps _ (.refl s))))) (.refl s)) (.refl s))

theorem execFloorDone_keeps (address : BitVec 12) (s : State) : OKeeps s (execFloorDone address s) :=
  .next (.ite (State.floorComplete_keeps _ (.parts (.refl s) rfl)) (.refl s))

theorem execLineState_keeps (address : BitVec 12) (state : BitVec 2) (s : State) :
    OKeeps s (execLineState address state s) :=
  .next (.ite (.parts (.refl s) rfl) (.refl s))

theorem execPgDelayExpiry_keeps (rail : Nat) (s : State) : OKeeps s (execPgDelayExpiry rail s) :=
  .next (.ite (State.pgRise_keeps _ _ (.refl s)) (.refl s))

theorem execRailViolation_keeps (rail : Nat) (microvolts : List Nat) (s : State) :
    OKeeps s (execRailViolation rail microvolts s) :=
  .next (.ite (.refl s) (.ite (State.judgeRail_keeps _ _ (.refl s)) (forEach_keeps (fun _ _ hu => (State.judgeRail_keeps _ _
    (State.railWindow_keeps _ _ _ hu))) (.refl s))))

theorem execMarginPinChange_keeps (up dn : Bool) (s : State) : OKeeps s (execMarginPinChange up dn s) :=
  .next (.ite (State.applyMargins_keeps _ (onlyIf_keeps (fun _ hu => (State.flagRaise_keeps _ _ _ hu))
    (State.setFlag_keeps _ _ _ (State.setFlag_keeps _ _ _ (.parts (.refl s) rfl))))) (.refl s))

theorem execSupplyLow_keeps (vsys : Nat) (s : State) : OKeeps s (execSupplyLow vsys s) :=
  .next (.ite (.ite (State.within_keeps _ _ _ _ (.refl s)) (State.reportSupply_keeps _ _ (State.sheet_keeps _ _ _
    (State.flagRaise_keeps _ _ _ (State.setFld_keeps _ _ _ (.parts (State.within_keeps _ _ _ _ (.refl s)) rfl)))))) (.refl s))

theorem execSupplyGood_keeps (vsys : Nat) (s : State) : OKeeps s (execSupplyGood vsys s) :=
  .next (.ite (.ite (State.reportSupply_keeps _ _ (State.flagRaise_keeps _ _ _ (State.setFld_keeps _ _ _ (.parts
    (State.aboveStart_keeps _ _ (.refl s)) rfl)))) (State.aboveStart_keeps _ _ (.refl s))) (.refl s))

theorem execSupply_keeps (address : BitVec 12) (low : Bool) (s : State) : OKeeps s (execSupply address low s) :=
  .next (.ite (State.supplyReport_keeps _ _ _ (.refl s)) (.refl s))

theorem execAlloff_keeps (code : BitVec 16) (source : FrameHead) (unaddressed : Bool) (s : State) :
    OKeeps s (execAlloff code source unaddressed s) :=
  .next (.ite (.ite (.ite (State.relay_keeps _ _ _ _ _ _ (State.firstCopy_keeps _ _ _ _ (.refl s)))
    (State.allOff_keeps _ _ _ _ (State.relay_keeps _ _ _ _ _ _ (State.firstCopy_keeps _ _ _ _ (.refl s)))))
    (State.firstCopy_keeps _ _ _ _ (.refl s))) (.refl s))

theorem execSourceQualified_keeps (b : Bool) (s : State) : OKeeps s (execSourceQualified b s) :=
  .next (.ite (State.driveAux_keeps _ (State.choosePath_keeps _ (.parts (State.raise_keeps _ _ (State.setFld_keeps _ _ _
    (.refl s))) rfl))) (.refl s))

theorem execSourceLost_keeps (b : Bool) (s : State) : OKeeps s (execSourceLost b s) := by
  refine .next (.ite ?_ (.ite (State.loseSource_keeps _ _ (.refl s)) (.refl s)))
  split
  · exact .ite (.ite (State.beginHandover_keeps _ _ _ (State.loseSource_keeps _ _ (.refl s))) (State.setUse_keeps _ _ (.parts
      (State.loseSource_keeps _ _ (.refl s)) rfl))) (.refl s)
  · exact .ite (State.driveAux_keeps _ (.ite (State.beginHandover_keeps _ _ _ (State.sheet_keeps _ _ _
      (State.setFld_keeps _ _ _ (State.loseSource_keeps _ _ (.refl s))))) (State.setUse_keeps _ _ (State.sheet_keeps _ _ _
      (State.setFld_keeps _ _ _ (State.loseSource_keeps _ _ (.refl s))))))) (State.loseSource_keeps _ _ (.refl s))

theorem execSourceOv_keeps (b : Bool) (s : State) : OKeeps s (execSourceOv b s) :=
  .next (.ite (State.sheet_keeps _ _ _ (State.flagRaise_keeps _ _ _ (.refl s))) (.refl s))

theorem execHandoverDone_keeps (s : State) : OKeeps s (execHandoverDone s) := by
  refine .next ?_
  split
  · exact .refl s
  · exact State.choosePath_keeps _ (State.setFld_keeps _ _ _ (State.bump_keeps _ _ (forEach_keeps (fun _ _ hu =>
      (State.restartQual_keeps _ _ hu)) (State.setUse_keeps _ _ (.parts (.refl s) rfl)))))

theorem execLongQualEnd_keeps (b : Bool) (s : State) : OKeeps s (execLongQualEnd b s) :=
  .next (.ite (.parts (State.setFld_keeps _ _ _ (.refl s)) rfl) (.refl s))

theorem execModuleClose_keeps (s : State) : OKeeps s (execModuleClose s) := by
  refine .next ?_
  split
  · exact .refl s
  · exact .ite (.ite (.refl s) (State.finishAction_keeps _ (.refl s))) (.ite (State.probeFail_keeps _ _ (.refl s)) (.ite
      (.refl s) (State.setFld_keeps _ _ _ (.parts (.refl s) rfl))))

theorem execProbeT50Expiry_keeps (s : State) : OKeeps s (execProbeT50Expiry s) :=
  .next (.ite (.ite (.parts (.refl s) rfl) (State.probeFail_keeps _ _ (.refl s))) (.refl s))

theorem execProbeTimeout_keeps (s : State) : OKeeps s (execProbeTimeout s) :=
  .next (.ite (.ite (.ite (.refl s) (State.probePass_keeps _ (.refl s))) (.ite (.ite (.refl s) (State.probePass_keeps _
    (.refl s))) (.ite (State.probeFail_keeps _ _ (.refl s)) (State.probeFail_keeps _ _ (.refl s))))) (.refl s))

theorem execPrechargeOffTimer_keeps (s : State) : OKeeps s (execPrechargeOffTimer s) :=
  .next (.ite (.ite (State.finishAction_keeps _ (.parts (.refl s) rfl)) (.parts (.refl s) rfl)) (.refl s))

theorem execModuleOpen_keeps (s : State) : OKeeps s (execModuleOpen s) := by
  refine .next ?_
  split
  · exact .refl s
  · exact State.finishAction_keeps _ (State.openModule_keeps _ (.parts (.refl s) rfl))

theorem execServicePress_keeps (s : State) : OKeeps s (execServicePress s) :=
  .next (.ite (State.setFld_keeps _ _ _ (.parts (.refl s) rfl)) (.refl s))

theorem execServiceRelease_keeps (s : State) : OKeeps s (execServiceRelease s) := by
  refine .next ?_
  split
  · exact .refl s
  · exact .ite (.ite (State.setFld_keeps _ _ _ (State.pressEnd_keeps _ _ (.refl s))) (.parts (State.openModule_keeps _ (.ite
      (State.allOff_keeps _ _ _ _ (State.setFld_keeps _ _ _ (State.pressEnd_keeps _ _ (.refl s)))) (State.setFld_keeps _ _ _
      (State.pressEnd_keeps _ _ (.refl s))))) rfl)) (.refl s)

theorem execServiceHeld20s_keeps (s : State) : OKeeps s (execServiceHeld20s s) := by
  refine .next ?_
  split
  · exact .refl s
  · exact .ite (.parts (State.sheet_keeps _ _ _ (State.openModule_keeps _ (.ite (State.allOff_keeps _ _ _ _
      (State.pressEnd_keeps _ _ (.refl s))) (State.pressEnd_keeps _ _ (.refl s))))) rfl) (.refl s)

theorem execChargeEval_keeps (s : State) : OKeeps s (execChargeEval s) :=
  .next (.ite (.ite (State.evalConverter_keeps _ (State.showLimit_keeps _ (.parts (.refl s) rfl))) (State.evalCharger_keeps _
    (State.showLimit_keeps _ (.parts (.refl s) rfl)))) (.refl s))

theorem execSearchDwellEnd_keeps (s : State) : OKeeps s (execSearchDwellEnd s) :=
  .next (.ite (.ite (State.flagRaise_keeps _ _ _ (State.endSearch_keeps _ (State.takeSearchLimit_keeps _ _ (.refl s))))
    (State.searchRaise_keeps _ (.refl s))) (.refl s))

theorem execSearchRepeat_keeps (s : State) : OKeeps s (execSearchRepeat s) :=
  .next (.ite (State.beginSearch_keeps _ (.refl s)) (.refl s))

theorem execSessionTmax_keeps (s : State) : OKeeps s (execSessionTmax s) :=
  .next (.ite (State.endSession_keeps _ _ (State.sheet_keeps _ _ _ (.refl s))) (.refl s))

theorem execOwWindowEnd_keeps (s : State) : OKeeps s (execOwWindowEnd s) := by
  refine .next (.ite ?_ (.refl s))
  split
  · exact State.owAbort_keeps _ (.refl s)
  · exact .ite (State.owAbort_keeps _ (.refl s)) (.parts (.ite (State.raise_keeps _ _ (State.sheet_keeps _ _ _
      (State.setTap_keeps _ _ _ (.refl s)))) (State.setTap_keeps _ _ _ (.refl s))) rfl)
  · exact .refl s

theorem execOwTapGapEnd_keeps (s : State) : OKeeps s (execOwTapGapEnd s) :=
  .next (.ite (.ite (State.owTapStart_keeps _ (.parts (.refl s) rfl)) (State.owEnd_keeps _ _ (.refl s))) (.refl s))

theorem execCellBlockDone_keeps (s : State) : OKeeps s (execCellBlockDone s) :=
  .next (.ite (State.publishBlock_keeps _ (.refl s)) (.refl s))

theorem execHkTick_keeps (s : State) : OKeeps s (execHkTick s) :=
  .next (.ite (.parts (.refl s) rfl) (.refl s))

theorem execHkCaptureTimeout_keeps (held : List (Nat × BitVec 14)) (s : State) : OKeeps s (execHkCaptureTimeout held s) :=
  .next (.ite (.parts (State.pushPipe_keeps _ _ _ (State.injectHeld_keeps _ _ (.parts (.refl s) rfl))) rfl) (.refl s))

theorem execHkRoundDone_keeps (s : State) : OKeeps s (execHkRoundDone s) :=
  .next (.ite (State.thermalRound_keeps _ (State.refCheck_keeps _ (State.raise_keeps _ _ (forEach_keeps (fun _ _ hu =>
    (State.setFld_keeps _ _ _ (State.setFld_keeps _ _ _ hu))) (.parts (.refl s) rfl))))) (.refl s))

theorem execSensorFlagBroken_keeps (sensor : Nat) (s : State) : OKeeps s (execSensorFlagBroken sensor s) :=
  .next (.ite (State.showHot_keeps _ _ (State.flagRaise_keeps _ _ _ (State.sheet_keeps _ _ _ (State.setSensor_keeps _ _ _
    (State.setBroken_keeps _ _ _ (.refl s)))))) (.refl s))

theorem execSensorUnflag_keeps (sensor : Nat) (s : State) : OKeeps s (execSensorUnflag sensor s) :=
  .next (.ite (State.showHot_keeps _ _ (State.raise_keeps _ _ (State.sheet_keeps _ _ _ (State.setSensor_keeps _ _ _
    (State.setBroken_keeps _ _ _ (.refl s)))))) (.refl s))

theorem execPrivBrokenTimeout_keeps (sensor : Nat) (s : State) : OKeeps s (execPrivBrokenTimeout sensor s) :=
  .next (.ite (State.thermalShutdown_keeps _ _ _ (State.setSensor_keeps _ _ _ (.refl s))) (.refl s))

theorem execThermalShutdown_keeps (sensor : Nat) (s : State) : OKeeps s (execThermalShutdown sensor s) :=
  .next (.ite (State.thermalShutdown_keeps _ _ _ (State.setSensor_keeps _ _ _ (.refl s))) (.refl s))

theorem execThrottleEval_keeps (s : State) : OKeeps s (execThrottleEval s) :=
  .next (.ite (.ite (.parts (.refl s) rfl) (.ite (State.sheet_keeps _ _ _ (State.flagRaise_keeps _ _ _ (State.setFld_keeps _ _ _
    (.parts (.refl s) rfl)))) (.ite (State.sheet_keeps _ _ _ (State.flagRaise_keeps _ _ _ (State.setFld_keeps _ _ _ (.parts
    (.refl s) rfl)))) (State.flagRaise_keeps _ _ _ (State.setFld_keeps _ _ _ (.parts (.refl s) rfl)))))) (.refl s))

theorem execThmLockClear_keeps (s : State) : OKeeps s (execThmLockClear s) :=
  .next (.ite (State.raise_keeps _ _ (State.setFld_keeps _ _ _ (.refl s))) (.refl s))

theorem execSweepStart_keeps (s : State) : OKeeps s (execSweepStart s) :=
  .next (.ite (.ite (State.sweepEnd_keeps _ (.parts (State.setFld_keeps _ _ _ (.refl s)) rfl)) (.parts (State.setFld_keeps _ _ _
    (.refl s)) rfl)) (.refl s))

theorem execWindowLeadinStart_keeps (s : State) : OKeeps s (execWindowLeadinStart s) := by
  refine .next ?_
  split
  · exact .refl s
  · exact .ite (State.setYield_keeps _ _ (State.driversOff_keeps _ (.ite (State.sheet_keeps _ _ _ (State.setFld_keeps _ _ _
      (State.setFlag_keeps _ _ _ (State.setFld_keeps _ _ _ (State.setFld_keeps _ _ _ (State.setFlag_keeps _ _ _
      (State.setFld_keeps _ _ _ (.parts (.refl s) rfl)))))))) (State.setFlag_keeps _ _ _ (State.setFld_keeps _ _ _
      (State.setFld_keeps _ _ _ (State.setFlag_keeps _ _ _ (State.setFld_keeps _ _ _ (.parts (.refl s) rfl))))))))) (.refl s)

theorem execWindowMeasureStart_keeps (s : State) : OKeeps s (execWindowMeasureStart s) := by
  refine .next ?_
  split
  · exact .ite (State.setFld_keeps _ _ _ (.parts (.refl s) rfl)) (.refl s)
  · exact .refl s

theorem execWindowEnd_keeps (enginesAgree : Bool) (s : State) : OKeeps s (execWindowEnd enginesAgree s) := by
  refine .next ?_
  split
  · exact .refl s
  · refine .ite ?_ (.refl s)
    dsimp only
    split
    · exact forEach_keeps (fun _ _ hu => (State.lockIn_keeps _ _ hu)) (.refl s)
    · exact .ite (State.sweepEnd_keeps _ (State.closeWindow_keeps _ (.parts (.ite (State.windowStatus_keeps _ _ _
        (forEach_keeps (fun _ _ hu => (State.lockIn_keeps _ _ hu)) (.refl s))) (State.windowResult_keeps _ _ (forEach_keeps
        (fun _ _ hu => (State.lockIn_keeps _ _ hu)) (.refl s)))) rfl))) (State.closeWindow_keeps _ (.parts (.ite
        (State.windowStatus_keeps _ _ _ (forEach_keeps (fun _ _ hu => (State.lockIn_keeps _ _ hu)) (.refl s)))
        (State.windowResult_keeps _ _ (forEach_keeps (fun _ _ hu => (State.lockIn_keeps _ _ hu)) (.refl s)))) rfl))

theorem execRestPoint_keeps (s : State) : OKeeps s (execRestPoint s) :=
  .next (.ite (.ite (.parts (.refl s) rfl) (State.evalGrade_keeps _ (State.healthSheets_keeps _ (State.showHealth_keeps _ (.parts
    (.refl s) rfl))))) (.refl s))

theorem execCelRestoreDone_keeps (s : State) : OKeeps s (execCelRestoreDone s) := by
  refine .next (.ite ?_ (.refl _))
  extract_lets get bins pulses caps cel charge grade told
  have hbins : Keeps s bins := by
    refine forEach_keeps (fun _ _ hu => forEach_keeps (fun _ _ hv => forEach_keeps (fun _ _ hw => ?_) ?_) hu) (.refl _)
    · split
      · exact State.restoreBins_keeps _ _ _ _ _ hw
      · exact hw
    · split
      · exact State.restoreBins_keeps _ _ _ _ _ hv
      · exact hv
  have hpulses : Keeps s pulses := by
    refine forEach_keeps (fun _ _ hu => ?_) hbins
    split
    · refine forEach_keeps (fun _ _ hv => ?_) hu
      split
      · exact .parts hv rfl
      · exact hv
    · exact hu
  have hcaps : Keeps s caps := by
    refine forEach_keeps (fun _ _ hu => ?_) hpulses
    split
    · exact forEach_keeps (fun _ _ hv => .ite hv (.parts hv rfl)) hu
    · exact hu
  have hcharge : Keeps s charge := by
    unfold charge
    split
    · exact .parts hcaps rfl
    · exact hcaps
  have hgrade : Keeps s grade := by
    unfold grade
    split
    · exact State.setFld_keeps _ _ _ hcharge
    · exact hcharge
  have htold : Keeps s told := forEach_keeps (fun _ _ hu => .ite (State.sheet_keeps _ _ _ hu) hu) hgrade
  exact State.showHealth_keeps _ (State.raise_keeps _ _ (State.setFld_keeps _ _ _ htold))

theorem execBalSecondBoundary_keeps (s : State) : OKeeps s (execBalSecondBoundary s) :=
  .next (.ite (State.showHealth_keeps _ (State.stepLim_keeps _ (.ite (State.driversOff_keeps _ (onlyIf_keeps (fun _ hu =>
    (State.raise_keeps _ _ hu)) (State.setReg_keeps _ _ _ (forEach_keeps (fun _ _ hu => (State.sheet_keeps _ _ _ hu)) (.parts
    (.refl s) rfl))))) (State.switchDrivers_keeps _ _ _ (onlyIf_keeps (fun _ hu => (State.raise_keeps _ _ hu))
    (State.setReg_keeps _ _ _ (forEach_keeps (fun _ _ hu => (State.sheet_keeps _ _ _ hu)) (.parts (.refl s) rfl)))))))) (.refl s))

theorem execBalOnTimeEnd_keeps (s : State) : OKeeps s (execBalOnTimeEnd s) :=
  .next (.ite (State.driversOff_keeps _ (.refl s)) (.refl s))

theorem execConversionDone_keeps (adc : BitVec 2) (s : State) : OKeeps s (execConversionDone adc s) := by
  refine .next ?_
  split
  · exact .refl s
  · refine .ite ?_ (.refl s)
    split
    · exact State.senseSample_keeps _ _ _ (onlyIf_keeps (fun _ hu => (State.clipped_keeps _ hu)) (.parts (.refl s) rfl))
    · exact State.cellSample_keeps _ _ (onlyIf_keeps (fun _ hu => (State.clipped_keeps _ hu)) (.parts (.refl s) rfl))
    · exact State.cellSample_keeps _ _ (onlyIf_keeps (fun _ hu => (State.clipped_keeps _ hu)) (.parts (.refl s) rfl))
    · exact State.hkSample_keeps _ _ _ (onlyIf_keeps (fun _ hu => (State.clipped_keeps _ hu)) (.parts (.refl s) rfl))
    · exact .parts (onlyIf_keeps (fun _ hu => (State.clipped_keeps _ hu)) (.parts (.refl s) rfl)) rfl

theorem execVcpShortFrame_keeps (s : State) : OKeeps s (execVcpShortFrame s) :=
  .next (.ite (State.vcpErrors_keeps _ _ (State.flagRaise_keeps _ _ _ (State.bump_keeps _ _ (State.endFrame_keeps _
    (.refl s))))) (State.endFrame_keeps _ (.refl s)))

theorem execSetV_keeps (group : BitVec 8) (seq : BitVec 4) (value : VcpValue) (s : State) :
    OKeeps s (execSetV group seq value s) :=
  .next (State.vcpFrame_keeps _ _ _ _ _ _ (.refl s))

theorem execSetI_keeps (group : BitVec 8) (seq : BitVec 4) (value : VcpValue) (s : State) :
    OKeeps s (execSetI group seq value s) :=
  .next (State.vcpFrame_keeps _ _ _ _ _ _ (.refl s))

theorem execSetSlew_keeps (group : BitVec 8) (seq : BitVec 4) (value : VcpValue) (s : State) :
    OKeeps s (execSetSlew group seq value s) :=
  .next (State.vcpFrame_keeps _ _ _ _ _ _ (.refl s))

theorem execPoll_keeps (group : BitVec 8) (seq : BitVec 4) (value : VcpValue) (s : State) :
    OKeeps s (execPoll group seq value s) :=
  .next (State.vcpFrame_keeps _ _ _ _ _ _ (.refl s))

theorem execRead_keeps (group : BitVec 8) (seq : BitVec 4) (value : VcpValue) (s : State) :
    OKeeps s (execRead group seq value s) :=
  .next (State.vcpFrame_keeps _ _ _ _ _ _ (.refl s))

theorem execVcpReservedCmd_keeps (command : BitVec 4) (group : BitVec 8) (seq : BitVec 4) (value : VcpValue) (s : State) :
    OKeeps s (execVcpReservedCmd command group seq value s) :=
  .next (State.vcpFrame_keeps _ _ _ _ _ _ (.refl s))

theorem execVcpCrcFail_keeps (s : State) : OKeeps s (execVcpCrcFail s) :=
  .next (.ite (State.vcpErrors_keeps _ _ (State.flagRaise_keeps _ _ _ (State.bump_keeps _ _ (State.beginAnswer_keeps _
    (.refl s))))) (State.endFrame_keeps _ (.refl s)))

theorem execHoldoffExpiry_keeps (g : Nat) (s : State) : OKeeps s (execHoldoffExpiry g s) := by
  refine .next ?_
  split
  · exact .refl s
  · exact .ite (.ite (State.openGroup_keeps _ _ (.refl s)) (.ite (State.deliverAll_keeps _ _ (State.openGroup_keeps _ _
      (.refl s))) (.parts (State.deliverAll_keeps _ _ (State.openGroup_keeps _ _ (.refl s))) rfl))) (.refl s)

theorem execIntNGapEnd_keeps (s : State) : OKeeps s (execIntNGapEnd s) :=
  .next (.ite (State.driveInt_keeps _ (.parts (.refl s) rfl)) (.refl s))

theorem execIrqEdge_keeps (n : Nat) (rising : Bool) (s : State) : OKeeps s (execIrqEdge n rising s) :=
  .next (.ite (State.raise_keeps _ _ (State.cancelStandby_keeps _ _ (.refl s))) (.refl s))

theorem execGpioEdge_keeps (n : Nat) (rising : Bool) (s : State) : OKeeps s (execGpioEdge n rising s) :=
  .next (.ite (State.raise_keeps _ _ (.refl s)) (.refl s))

theorem execWakeRise_keeps (s : State) : OKeeps s (execWakeRise s) :=
  .next (.ite (State.raise_keeps _ _ (State.cancelStandby_keeps _ _ (.refl s))) (.refl s))

theorem execBondStoreDone_keeps (flashError : Bool) (s : State) : OKeeps s (execBondStoreDone flashError s) := by
  refine .next ?_
  split
  · exact .refl s
  · exact .ite (.refl s) (.ite (State.storeFailed_keeps _ _ (State.storePartly_keeps _ (.refl s))) (.ite
      (State.answerDist_keeps _ (State.sealActive_keeps _ _ _ (.parts (State.flashWrite_keeps _ _ _
      (State.flashWrite_keeps _ _ _ (State.flashErase_keeps _ _ _ (.refl s)))) rfl))) (State.answerDist_keeps _
      (State.endRequest_keeps _ _ (.parts (State.flashWrite_keeps _ _ _ (State.flashWrite_keeps _ _ _
      (State.flashErase_keeps _ _ _ (.refl s)))) rfl)))))

theorem execBondReceiveTimeout_keeps (s : State) : OKeeps s (execBondReceiveTimeout s) :=
  .next (.ite (State.seqRefresh_keeps _ (State.abortRelay_keeps _ _ (.refl s))) (.refl s))

theorem execBondValidationDone_keeps (s : State) : OKeeps s (execBondValidationDone s) := by
  refine .next (.ite ?_ (.refl s))
  split
  · exact State.rejectBond_keeps _ _ (.refl s)
  · exact .ite (State.beginStore_keeps _ _ _ (.refl s)) (.parts (State.setFld_keeps _ _ _ (.refl s)) rfl)

theorem execBondTakesEffect_keeps (s : State) : OKeeps s (execBondTakesEffect s) := by
  refine .next ?_
  split
  · exact .refl _
  · refine .ite ?_ (.refl _)
    extract_lets old laid sheet t r u
    have ht : Keeps s t := State.raise_keeps _ _ (State.sheet_keeps _ _ _ (State.layBond_keeps _ _ _ (State.setFld_keeps _ _ _
      (State.setFld_keeps _ _ _ (.refl _)))))
    have hspent : Keeps s t.spendStaging.answerDist := State.answerDist_keeps _ (State.spendStaging_keeps _ ht)
    refine .ite ?_ (.ite (State.beginStore_keeps _ _ _ hspent) hspent)
    split
    · exact .ite (State.sealFails_keeps _ _ (State.takeFree_keeps _ _ ht)) (State.answerDist_keeps _ (State.sealActive_keeps _ _ _
        (State.spendStaging_keeps _ (State.takeFree_keeps _ _ ht))))
    · exact hspent

theorem execSyncHoldoverTimeout_keeps (s : State) : OKeeps s (execSyncHoldoverTimeout s) :=
  .next (.ite (State.setTstate_keeps _ _ (State.meanInc_keeps _ (.refl s))) (.refl s))

theorem execRefQualified_keeps (port : Bool) (s : State) : OKeeps s (execRefQualified port s) :=
  .next (.ite (State.qualify_keeps _ _ (.refl s)) (.refl s))

theorem execRefReturn_keeps (port : Bool) (s : State) : OKeeps s (execRefReturn port s) :=
  .next (.ite (State.qualify_keeps _ _ (.refl s)) (.refl s))

theorem execLockAttemptTimeout_keeps (s : State) : OKeeps s (execLockAttemptTimeout s) :=
  .next (.ite (.parts (.ite (.refl s) (.parts (.refl s) rfl)) rfl) (.refl s))

theorem execRefWindowEnd_keeps (edges : Nat) (s : State) : OKeeps s (execRefWindowEnd edges s) :=
  .next (.ite (.ite (State.loseRef_keeps _ (.parts (.refl s) rfl)) (.parts (.refl s) rfl)) (.refl s))

theorem execRefLostTimeout_keeps (s : State) : OKeeps s (execRefLostTimeout s) := by
  refine .next ?_
  split
  · exact .ite (.ite (State.allOff_keeps _ _ _ _ (.parts (.refl s) rfl)) (.parts (.refl s) rfl)) (.refl s)
  · exact .refl s

theorem execLossOfLock_keeps (s : State) : OKeeps s (execLossOfLock s) :=
  .next (.ite (State.flagRaise_keeps _ _ _ (State.beginAttempt_keeps _ _ (State.setFld_keeps _ _ _ (.parts
    (State.allOff_keeps _ _ _ _ (.refl s)) rfl)))) (.refl s))

theorem execCalOverflow_keeps (s : State) : OKeeps s (execCalOverflow s) :=
  .next (.ite (State.flagRaise_keeps _ _ _ (.refl s)) (.refl s))

theorem execVbakFirstRise_keeps (s : State) : OKeeps s (execVbakFirstRise s) :=
  .next (.ite (.refl s) (State.raise_keeps _ _ (State.raise_keeps _ _ (State.bkdReset_keeps _ (.parts (.refl s) rfl)))))

theorem execVbakLoss_keeps (s : State) : OKeeps s (execVbakLoss s) :=
  .next (.ite (.parts (State.bkdReset_keeps _ (.refl s)) rfl) (.refl s))

theorem execOscStopDetect_keeps (s : State) : OKeeps s (execOscStopDetect s) :=
  .next (.ite (State.flagRaise_keeps _ _ _ (.ite (.refl s) (State.bkdCode_keeps _ _ (.refl s)))) (.refl s))

theorem execVbakSample_keeps (millivolts : Nat) (s : State) : OKeeps s (execVbakSample millivolts s) := by
  refine .next (.ite (.refl _) ?_)
  extract_lets u r t
  have hu : Keeps s u := State.nextSample_keeps _ (.refl _)
  have hr : Keeps s r.2 := by
    unfold r
    split
    · exact State.takeFree_keeps _ _ hu
    · exact hu
  exact .ite (State.flagRaise_keeps _ _ _ (.ite hr (State.bkdCode_keeps _ _ hr))) hr

theorem execRtcFreezeTimeout_keeps (path : Path) (s : State) : OKeeps s (execRtcFreezeTimeout path s) := by
  refine .next ?_
  split
  · exact .ite (State.raise_keeps _ _ (.parts (.refl s) rfl)) (.refl s)
  · exact .refl s

theorem execCommitApply_keeps (s : State) : OKeeps s (execCommitApply s) := by
  refine .next ?_
  split
  · exact .refl s
  · exact .ite (onlyIf_keeps (fun _ hu => (State.sheet_keeps _ _ _ hu)) (State.setFld_keeps _ _ _ (.ite
      (State.flagRaise_keeps _ _ _ (.parts (State.bakTick_keeps _ _ (.refl s)) rfl)) (State.setFld_keeps _ _ _ (.parts
      (State.bakTick_keeps _ _ (.refl s)) rfl))))) (.refl s)

theorem execAlarmFire_keeps (s : State) : OKeeps s (execAlarmFire s) :=
  .next (.ite (.ite (State.raise_keeps _ _ (State.setFld_keeps _ _ _ (State.setFld_keeps _ _ _ (.refl s)))) (.parts
    (State.setFld_keeps _ _ _ (State.setFld_keeps _ _ _ (.refl s))) rfl)) (.refl s))

theorem execJnlRdLoaded_keeps (path : Path) (s : State) : OKeeps s (execJnlRdLoaded path s) := by
  refine .next ?_
  split
  · exact .refl s
  · exact State.raise_keeps _ _ (forEach_keeps (fun _ _ hu => (.parts hu rfl)) (.parts (.refl s) rfl))

theorem execPortUp_keeps (port : BitVec 2) (s : State) : OKeeps s (execPortUp port s) :=
  .next (.ite (State.forwardStuck_keeps _ (State.raise_keeps _ _ (State.showParent_keeps _ (State.setFld_keeps _ _ _
    (.refl s))))) (.refl s))

theorem execPortDown_keeps (port : BitVec 2) (s : State) : OKeeps s (execPortDown port s) :=
  .next (.ite (.ite (State.loseSignal_keeps _ _ (State.sheet_keeps _ _ _ (State.raise_keeps _ _ (State.setFld_keeps _ _ _
    (.refl s))))) (State.portLost_keeps _ _ (State.loseSignal_keeps _ _ (State.sheet_keeps _ _ _ (State.raise_keeps _ _
    (State.setFld_keeps _ _ _ (.refl s))))))) (State.loseSignal_keeps _ _ (.refl s)))

theorem execRingCheckSend_keeps (trunk : Bool) (s : State) : OKeeps s (execRingCheckSend trunk s) :=
  .next (.ite (State.emit_keeps _ _ _ _ _ _ _ (State.setRing_keeps _ _ _ (.refl s))) (.refl s))

theorem execRingCheck_keeps (port : FrameHead) (serial : BitVec 64) (s : State) : OKeeps s (execRingCheck port serial s) := by
  refine .next (.ite (.refl s) (.ite (State.put_keeps _ _ _ _ _ _ _ _ _ (.refl s)) (.ite ?_ (.refl s))))
  dsimp only
  split
  · exact .ite (.ite (State.declareRing_keeps _ _ _ (State.setRing_keeps _ _ _ (.refl s))) (State.setRing_keeps _ _ _
      (.refl s))) (.refl s)
  · exact .refl s

theorem execRingCheckTimeout_keeps (trunk : Bool) (s : State) : OKeeps s (execRingCheckTimeout trunk s) :=
  .next (.ite (.ite (State.declareRing_keeps _ _ _ (State.setRing_keeps _ _ _ (State.takeFree_keeps _ _
    (State.setRing_keeps _ _ _ (.refl s))))) (State.setRing_keeps _ _ _ (.refl s))) (.refl s))

theorem execRingState_keeps (trunk opened : Bool) (source : RingReporter) (event : Byte) (s : State) :
    OKeeps s (execRingState trunk opened source event s) := by
  refine .next (.ite ?_ (.refl _))
  extract_lets r g both q f t
  have hr : Keeps s r.2 := State.firstCopy_keeps _ _ _ _ (.refl _)
  have hg : Keeps s g := State.relay_keeps _ _ _ _ _ _ hr
  have ht : Keeps s t := .ite (State.setRing_keeps _ _ _ (State.takeFree_keeps _ _ hg)) hg
  exact .ite hr (.ite hg (.ite (.ite (State.declareRing_keeps _ _ _ ht) ht) (State.showRing_keeps _ _ _ ht)))

theorem execLinkFrameError_keeps (crc : Bool) (s : State) : OKeeps s (execLinkFrameError crc s) :=
  .next (.ite (.ite (.parts (State.flagRaise_keeps _ _ _ (State.bump_keeps _ _ (.refl s))) rfl) (.parts (State.sheet_keeps _ _ _
    (State.flagRaise_keeps _ _ _ (State.bump_keeps _ _ (.refl s)))) rfl)) (.refl s))

theorem execHelloSend_keeps (s : State) : OKeeps s (execHelloSend s) :=
  .next (.ite (State.send_keeps _ _ _ _ _ (.parts (.refl s) rfl)) (.refl s))

theorem execHello_keeps (serial : Framed HelloBody) (s : State) : OKeeps s (execHello serial s) :=
  .next (.ite (.ite (State.relay_keeps _ _ _ _ _ _ (.refl s)) (.ite (.ite (State.relay_keeps _ _ _ _ _ _ (.refl s)) (.parts
    (State.relay_keeps _ _ _ _ _ _ (.refl s)) rfl)) (.ite (.ite (State.beginWalk_keeps _ (State.relay_keeps _ _ _ _ _ _
    (.refl s))) (State.relay_keeps _ _ _ _ _ _ (.refl s))) (.ite (State.relay_keeps _ _ _ _ _ _ (.refl s))
    (State.sheet_keeps _ _ _ (.parts (State.relay_keeps _ _ _ _ _ _ (.refl s)) rfl)))))) (.refl s))

theorem execEnumAutoStart_keeps (s : State) : OKeeps s (execEnumAutoStart s) :=
  .next (.ite (.ite (State.startEnum_keeps _ (.refl s)) (.parts (.refl s) rfl)) (.refl s))

theorem execClaim_keeps (trunk : Bool) (serial : Framed Claimant) (rank : Byte) (s : State) :
    OKeeps s (execClaim trunk serial rank s) := by
  refine .next (.ite (.refl s) ?_)
  have hrelay {p type src : _} {both : Bool} {payload : List Byte} : Keeps s (s.relay p type src both payload) :=
    State.relay_keeps _ _ _ _ _ _ (.refl s)
  refine .ite ?_ (.ite hrelay ?_)
  · extract_lets _ t
    have ht : Keeps s t := .parts hrelay rfl
    exact .ite (State.judgeTrunk_keeps _ ht) (.ite (State.claimTrunk_keeps _ ht) ht)
  · extract_lets _ seen t
    have hseen : Keeps s seen := .parts hrelay rfl
    have ht : Keeps s t := .ite (State.startEnum_keeps _ hseen) hseen
    exact .ite (State.sheet_keeps _ _ _ (.parts ht rfl)) ht

theorem execClaimTimeout_keeps (s : State) : OKeeps s (execClaimTimeout s) := by
  refine .next (.ite ?_ (.refl s))
  split
  · exact .ite (State.beginWalk_keeps _ (.refl s)) (State.setPass_keeps _ _ (.refl s))
  · exact .ite (State.sendWalk_keeps _ _ _ (State.setPass_keeps _ _ (.parts (.refl s) rfl))) (.ite (State.setPass_keeps _ _
      (.refl s)) (State.noKeystone_keeps _ (.refl s)))
  · exact .refl s

theorem execWalk_keeps (port : WalkIn) (count : Byte) (side : Bool) (s : State) : OKeeps s (execWalk port count side s) :=
  .next (.ite (.refl s) (.ite (State.walkDone_keeps _ _ _ (.refl s)) (.ite (State.trunkDone_keeps _
    (State.walkedRing_keeps _ _ _ _ (.refl s))) (.ite (.refl s) (.ite (State.sheet_keeps _ _ _ (.refl s))
    (State.emit_keeps _ _ _ _ _ _ _ (State.emit_keeps _ _ _ _ _ _ _ (State.setRing_keeps _ _ _ (State.takeFree_keeps _ _
    (.refl s))))))))))

theorem execWalkReport_keeps (trunk : Bool) (serial : BitVec 64) (distance : Byte) (side : Bool) (s : State) :
    OKeeps s (execWalkReport trunk serial distance side s) := by
  refine .next ?_
  split
  · exact .ite (.parts (.refl s) rfl) (.refl s)
  · exact .ite (.refl s) (.parts (.refl s) rfl)
  · exact .ite (.refl s) (.parts (.refl s) rfl)
  · exact .refl s

theorem execAssign_keeps (trunk : Bool) (entries : Framed (List (BitVec 64 × BitVec 16))) (s : State) :
    OKeeps s (execAssign trunk entries s) := by
  refine .next (.ite (State.passOn_keeps _ _ _ _ _ _ (.refl s)) (State.endAssign_keeps _ _ _ _ ?_))
  split
  · exact .ite (.ite (State.passOn_keeps _ _ _ _ _ _ (.refl s)) (State.assignString_keeps _ _ _ _
      (State.passOn_keeps _ _ _ _ _ _ (.refl s)))) (.ite (State.passOn_keeps _ _ _ _ _ _ (.refl s))
      (State.takeAddress_keeps _ _ _ _ _ (State.takeFree_keeps _ _ (State.passOn_keeps _ _ _ _ _ _ (.refl s)))))
  · exact State.passOn_keeps _ _ _ _ _ _ (.refl s)

theorem execSyncStart_keeps (s : State) : OKeeps s (execSyncStart s) :=
  .next (.ite (.parts (State.emit_keeps _ _ _ _ _ _ _ (State.showParent_keeps _ (.refl s))) rfl) (.refl s))

theorem execSyncReq_keeps (port : BitVec 2) (turn : Nat) (s : State) : OKeeps s (execSyncReq port turn s) :=
  .next (.ite (State.emit_keeps _ _ _ _ _ _ _ (State.emit_keeps _ _ _ _ _ _ _ (.refl s))) (.refl s))

theorem execSyncRsp_keeps (s : State) : OKeeps s (execSyncRsp s) :=
  .next (.ite (.parts (.refl s) rfl) (.refl s))

theorem execSyncFup_keeps (t2 t3 : BitVec 72) (tstate : BitVec 2) (s : State) : OKeeps s (execSyncFup t2 t3 tstate s) := by
  refine .next ?_
  split
  · exact .ite (State.servo_keeps _ _ _ (State.setFld_keeps _ _ _ (State.endSync_keeps _ (.refl s)))) (State.endSync_keeps _
      (.refl s))
  · exact .refl s

theorem execSyncFupTimeout_keeps (s : State) : OKeeps s (execSyncFupTimeout s) :=
  .next (.ite (State.endSync_keeps _ (.refl s)) (.refl s))

theorem execCouchReq_keeps (id : Framed (BitVec 16)) (time : Time) (s : State) : OKeeps s (execCouchReq id time s) :=
  .next (.ite (State.send_keeps _ _ _ _ _ (.ite (State.couchRequest_keeps _ _ _ _ (State.passOn_keeps _ _ _ _ _ _ (.refl s)))
    (State.flagRaise_keeps _ _ _ (State.couchRequest_keeps _ _ _ _ (State.passOn_keeps _ _ _ _ _ _ (.refl s))))))
    (State.passOn_keeps _ _ _ _ _ _ (.refl s)))

theorem execCouchAns_keeps (address : BitVec 12) (id : BitVec 16) (result : Byte) (s : State) :
    OKeeps s (execCouchAns address id result s) :=
  .next (.ite (.ite (State.couchDone_keeps _ (.ite (State.setFld_keeps _ _ _ (.refl s)) (.ite (State.setReg_keeps _ _ _
    (State.setFld_keeps _ _ _ (.refl s))) (State.setFld_keeps _ _ _ (.refl s))))) (.ite (State.setFld_keeps _ _ _ (.refl s))
    (.ite (State.setReg_keeps _ _ _ (State.setFld_keeps _ _ _ (.refl s))) (State.setFld_keeps _ _ _ (.refl s))))) (.refl s))

theorem execCouchFree_keeps (ids : Framed (List (BitVec 16))) (s : State) : OKeeps s (execCouchFree ids s) :=
  .next (.ite (forEach_keeps (fun _ _ hu => (.ite (State.freeBank_keeps _ _ hu) hu)) (State.passOn_keeps _ _ _ _ _ _
    (.refl s))) (State.passOn_keeps _ _ _ _ _ _ (.refl s)))

theorem execCouchAnswerTimeout_keeps (s : State) : OKeeps s (execCouchAnswerTimeout s) :=
  .next (.ite (State.couchDone_keeps _ (.refl s)) (.refl s))

theorem execDoorbell_keeps (source : Framed (BitVec 16)) (s : State) : OKeeps s (execDoorbell source s) :=
  .next (.ite (.ite (State.raise_keeps _ _ (State.passOn_keeps _ _ _ _ _ _ (.refl s))) (State.bump_keeps _ _
    (State.passOn_keeps _ _ _ _ _ _ (.refl s)))) (State.passOn_keeps _ _ _ _ _ _ (.refl s)))

theorem execIrqFwd_keeps (address : BitVec 12) (source : BitVec 10) (stamp : Time) (s : State) :
    OKeeps s (execIrqFwd address source stamp s) := by
  refine .next (.ite ?_ (.refl s))
  dsimp only
  split
  · exact State.raise_keeps _ _ (State.fwdPush_keeps _ _ _ _ (.refl s))
  · exact State.fwdPush_keeps _ _ _ _ (.refl s)

theorem execRaRsp_keeps (tag : BitVec 5) (result : Byte) (data : List Word) (s : State) :
    OKeeps s (execRaRsp tag result data s) :=
  .next (.ite (State.raDone_keeps _ _ _ (State.setFld_keeps _ _ _ (forEach_keeps (fun _ _ hu => (State.setReg_keeps _ _ _ hu))
    (.refl s)))) (.refl s))

theorem execRaTimeout_keeps (tag : BitVec 5) (s : State) : OKeeps s (execRaTimeout tag s) := by
  refine .next ?_
  split
  · exact .ite (State.raDone_keeps _ _ _ (State.bump_keeps _ _ (.refl s))) (.refl s)
  · exact .refl s

theorem execWdgWindowClose_keeps (counters : Word × Word × Word × Word) (s : State) :
    OKeeps s (execWdgWindowClose counters s) :=
  .next (.ite (.ite (.ite (.refl s) (.parts (.refl s) rfl)) (State.wdgFail_keeps _ _ _ _ (.refl s))) (.refl s))

theorem execBor_keeps (s : State) : OKeeps s (execBor s) :=
  .next (.ite (State.brownOut_keeps _ (.refl s)) (.refl s))

theorem execInputCollapse_keeps (s : State) : OKeeps s (execInputCollapse s) :=
  .next (.ite (State.brownOut_keeps _ (.refl s)) (.refl s))

theorem execResetNAssert_keeps (s : State) : OKeeps s (execResetNAssert s) :=
  .next (State.requestReset_keeps _ _ _ _ (.parts (.refl s) rfl))

theorem execResetNRelease_keeps (tst : Bool) (s : State) : OKeeps s (execResetNRelease tst s) :=
  .next (.ite (State.beginPhases_keeps _ (.parts (.refl s) rfl)) (.ite (.parts (.parts (.refl s) rfl) rfl) (.parts (.refl s) rfl)))

theorem execAllOffTimelineEnd_keeps (s : State) : OKeeps s (execAllOffTimelineEnd s) := by
  refine .next (.ite ?_ (.refl s))
  extract_lets hot ended boot thm u t lv pick
  have hu : Keeps s u := .parts (State.endTimeline_keeps _ (.refl s)) rfl
  have ht : Keeps s t := .ite (State.noteCause_keeps _ _ hu) hu
  clear_value pick
  split
  · exact .ite ht (State.performReset_keeps _ _ _ _ ht)
  · exact ht

theorem execWdoPulseEnd_keeps (s : State) : OKeeps s (execWdoPulseEnd s) :=
  .next (.ite (State.requestReset_keeps _ _ _ _ (.parts (.refl s) rfl)) (.refl s))

theorem execReset_keeps (key : BitVec 16) (unicast : Bool) (s : State) : OKeeps s (execReset key unicast s) :=
  .next (.ite (.ite (State.requestReset_keeps _ _ _ _ (.refl s)) (State.bump_keeps _ _ (.refl s))) (.refl s))

theorem execSupervisorLaneMismatch_keeps (s : State) : OKeeps s (execSupervisorLaneMismatch s) :=
  .next (.ite (State.requestReset_keeps _ _ _ _ (State.sheet_keeps _ _ _ (.refl s))) (.refl s))

theorem execServiceProcessorFault_keeps (s : State) : OKeeps s (execServiceProcessorFault s) :=
  .next (.ite (State.requestReset_keeps _ _ _ _ (.refl s)) (.refl s))

theorem execSwitchCycleTimer_keeps (s : State) : OKeeps s (execSwitchCycleTimer s) :=
  .next (.ite (State.requestReset_keeps _ _ _ _ (.parts (.refl s) rfl)) (.refl s))

theorem execShipModeSheetWritten_keeps (s : State) : OKeeps s (execShipModeSheetWritten s) :=
  .next (.ite (.parts (State.releaseAll_keeps _ (State.wdgDisarm_keeps _ (State.cutOtp_keeps _ (State.storePartly_keeps _
    (State.cutSheet_keeps _ (State.driversOff_keeps _ (.refl s))))))) rfl) (.refl s))

theorem execWakePulse_keeps (s : State) : OKeeps s (execWakePulse s) :=
  .next (.ite (State.setFld_keeps _ _ _ (State.setFld_keeps _ _ _ (.parts (State.beginP0_keeps _ (State.enterStart_keeps _ _ _
    (.refl s))) rfl))) (.refl s))

theorem execP4ImageDone_keeps (s : State) : OKeeps s (execP4ImageDone s) := by
  refine .next (.ite ?_ (.refl s))
  split
  · exact State.activate_keeps _ _ _ (.refl s)
  · exact State.enterLoader_keeps _ _ (.refl s)

theorem execLoaderImgRequest_keeps (s : State) : OKeeps s (execLoaderImgRequest s) :=
  .next (.ite (.parts (State.askImage_keeps _ _ (State.askImage_keeps _ _ (.refl s))) rfl) (.refl s))

theorem execUpdateCheckDone_keeps (flashError : Bool) (s : State) : OKeeps s (execUpdateCheckDone flashError s) := by
  refine .next (.ite ?_ (.refl s))
  dsimp only
  split
  · exact State.updEnd_keeps _ _ _ (.refl s)
  · exact .ite (State.activate_keeps _ _ _ (State.updEnd_keeps _ _ _ (.refl s))) (.ite (State.updEnd_keeps _ _ _
      (State.flashErase_keeps _ _ _ (.refl s))) (State.updEnd_keeps _ _ _ (.parts (State.flashWrite_keeps _ _ _
      (State.flashErase_keeps _ _ _ (.refl s))) rfl)))

theorem execLoaderImgTimeout_keeps (s : State) : OKeeps s (execLoaderImgTimeout s) :=
  .next (.ite (.parts (State.setFld_keeps _ _ _ (State.setFld_keeps _ _ _ (State.setFld_keeps _ _ _ (.refl s)))) rfl) (.refl s))

theorem execP0SupplyDone_keeps (vsys : Nat) (tst : Bool) (s : State) : OKeeps s (execP0SupplyDone vsys tst s) :=
  .next (.ite (.ite (State.beginPhases_keeps _ (.parts (State.aboveStart_keeps _ _ (.refl s)) rfl)) (State.aboveStart_keeps _ _
    (.refl s))) (.refl s))

theorem execP1RegulatorsDone_keeps (s : State) : OKeeps s (execP1RegulatorsDone s) :=
  .next (.ite (.ite (State.bootStat_keeps _ _ (forEach_keeps (fun _ _ hu => (State.beginDelay_keeps _ _
    (State.setRail_keeps _ _ _ (State.setFlag_keeps _ _ _ hu)))) (State.layThermal_keeps _ (State.layRails_keeps _
    (State.choosePath_keeps _ (State.drivePath_keeps _ (.parts (.refl s) rfl))))))) (State.beginP4_keeps _ (forEach_keeps
    (fun _ _ hu => (State.beginDelay_keeps _ _ (State.setRail_keeps _ _ _ (State.setFlag_keeps _ _ _ hu))))
    (State.layThermal_keeps _ (State.layRails_keeps _ (State.choosePath_keeps _ (State.drivePath_keeps _ (.parts
    (.refl s) rfl)))))))) (.refl s))

theorem execP1RegulatorTimeout_keeps (s : State) : OKeeps s (execP1RegulatorTimeout s) :=
  .next (.ite (.parts (.refl s) rfl) (.refl s))

theorem execP1RetryEnd_keeps (s : State) : OKeeps s (execP1RetryEnd s) :=
  .next (.ite (State.startP1_keeps _ (.refl s)) (.refl s))

theorem execP2OptionsDone_keeps (s : State) : OKeeps s (execP2OptionsDone s) :=
  .next (.ite (.ite (State.bootStat_keeps _ _ (State.bootFault_keeps _ _ (.parts (.parts (.ite (State.setFld_keeps _ _ _
    (.refl s)) (State.setFld_keeps _ _ _ (State.setFld_keeps _ _ _ (.refl s)))) rfl) rfl))) (State.beginAttempt_keeps _ _
    (State.setFlag_keeps _ _ _ (.parts (.parts (.ite (State.setFld_keeps _ _ _ (.refl s)) (State.setFld_keeps _ _ _
    (State.setFld_keeps _ _ _ (.refl s)))) rfl) rfl)))) (.refl s))

theorem execP2Restart_keeps (source : Nat) (s : State) : OKeeps s (execP2Restart source s) :=
  .next (.ite (State.restartP2_keeps _ (State.noteCause_keeps _ _ (.refl s))) (.refl s))

theorem execP2RestartWindowEnd_keeps (s : State) : OKeeps s (execP2RestartWindowEnd s) := by
  refine .next ?_
  split
  · exact .ite (.parts (.refl s) rfl) (.refl s)
  · exact .refl s

theorem execP5BondDone_keeps (s : State) : OKeeps s (execP5BondDone s) := by
  refine .next (.ite ?_ (.refl s))
  dsimp only
  split
  · exact State.bootStat_keeps _ _ (.parts (State.bondAtStart_keeps _ (.refl s)) rfl)
  · exact onlyIf_keeps (fun _ hu => (State.raise_keeps _ _ hu)) (State.bootStat_keeps _ _ (State.bootFault_keeps _ _ (.parts
      (State.changeReamLen_keeps _ _ (State.layMeasure_keeps _ (State.layPins_keeps _ (State.setFld_keeps _ _ _ (.parts
      (State.bondAtStart_keeps _ (.refl s)) rfl))))) rfl)))

theorem execP6ServicesDone_keeps (failedLanes : List (Nat × Lane)) (s : State) :
    OKeeps s (execP6ServicesDone failedLanes s) :=
  .next (.ite (State.driveInt_keeps _ (State.rewriteFlash_keeps _ (State.lateAlarm_keeps _ (onlyIf_keeps (fun _ hu =>
    (State.raise_keeps _ _ hu)) (State.wdgJournal_keeps _ (State.raise_keeps _ _ (State.seqRefresh_keeps _
    (State.applyMargins_keeps _ (forEach_keeps (fun _ _ hu => (State.setFlag_keeps _ _ _ hu)) (.parts (State.reachIdle_keeps _
    (State.bootStat_keeps _ _ (.parts (State.startSheets_keeps _ _ (.refl s)) rfl))) rfl)))))))))) (.refl s))

theorem execL2RestartDone_keeps (copiesOk : Bool) (s : State) : OKeeps s (execL2RestartDone copiesOk s) :=
  .next (State.restartDone_keeps _ _ _ (.refl s))

theorem execL3RestartDone_keeps (copiesOk : Bool) (s : State) : OKeeps s (execL3RestartDone copiesOk s) :=
  .next (State.restartDone_keeps _ _ _ (.refl s))

theorem execOtpCommandDone_keeps (failedBit : Option Nat) (s : State) : OKeeps s (execOtpCommandDone failedBit s) := by
  refine .next ?_
  split
  · exact .refl s
  · refine .ite (.ite (State.otpEnd_keeps _ _ (.refl s)) (.ite (State.otpEnd_keeps _ _ (.refl s)) ?_)) (.ite
      (State.otpEnd_keeps _ _ (State.setReg_keeps _ _ _ (.refl s))) (.ite (State.otpEnd_keeps _ _ (State.setReg_keeps _ _ _
      (.refl s))) (State.otpEnd_keeps _ _ (State.setReg_keeps _ _ _ (.refl s)))))
    split
    · exact State.otpEnd_keeps _ _ (.parts (.refl s) rfl)
    · exact .ite (State.otpEnd_keeps _ _ (State.partialRow_keeps _ _ _ (.refl s))) (State.otpEnd_keeps _ _ (.refl s))

theorem execOtpConditionLost_keeps (pulses : Nat) (s : State) : OKeeps s (execOtpConditionLost pulses s) := by
  refine .next ?_
  split
  · exact .ite (State.otpEnd_keeps _ _ (State.cutRow_keeps _ _ _ (.refl s))) (.refl s)
  · exact .refl s

theorem execPllLock_keeps (s : State) : OKeeps s (execPllLock s) :=
  .next (.ite (.ite (State.leaveStandby_keeps _ (State.seedAtLock_keeps _ (State.lockClocks_keeps _ (.refl s)))) (.ite
    (State.beginP4_keeps _ (State.seedAtLock_keeps _ (State.lockClocks_keeps _ (.refl s)))) (onlyIf_keeps (fun _ hu =>
    (State.forwardStuck_keeps _ hu)) (State.seedAtLock_keeps _ (State.lockClocks_keeps _ (.refl s)))))) (.refl s))

theorem execStandbyEnter_keeps (s : State) : OKeeps s (execStandbyEnter s) :=
  .next (.ite (State.setFld_keeps _ _ _ (.parts (.refl s) rfl)) (.refl s))

theorem execWakeLatchEdge_keeps (latch : Nat) (s : State) : OKeeps s (execWakeLatchEdge latch s) :=
  .next (.ite (.ite (.ite (.parts (.refl s) rfl) (.ite (.parts (State.setReg_keeps _ _ _ (.refl s)) rfl) (State.beginAttempt_keeps _ _
    (.parts (.parts (State.setReg_keeps _ _ _ (.refl s)) rfl) rfl)))) (.ite (State.raise_keeps _ _ (.parts (.refl s) rfl)) (.refl s)))
    (.refl s))

theorem execDistResult_keeps (source : BitVec 12) (result : Byte) (s : State) : OKeeps s (execDistResult source result s) :=
  .next (.ite (State.bump_keeps _ _ (.refl s)) (.refl s))

theorem execDistCollectEnd_keeps (s : State) : OKeeps s (execDistCollectEnd s) :=
  .next (.ite (State.raise_keeps _ _ (.ite (State.setFld_keeps _ _ _ (.refl s)) (State.sheet_keeps _ _ _
    (State.setFld_keeps _ _ _ (.refl s))))) (.refl s))

theorem execImgReq_keeps (port : BitVec 2) (s : State) : OKeeps s (execImgReq port s) :=
  .next (.ite (.parts (State.castStart_keeps _ _ _ _ _ _ _ (.refl s)) rfl) (.refl s))

theorem execDistStart_keeps (source : FrameHead) (image apply store : Bool) (length : Word) (s : State) :
    OKeeps s (execDistStart source image apply store length s) := by
  refine .next (.ite ?_ (.ite (.ite (State.relay_keeps _ _ _ _ _ _ (.refl s)) (.ite (.ite (State.relay_keeps _ _ _ _ _ _
    (.refl s)) ?_) (State.startBond_keeps _ _ (State.relay_keeps _ _ _ _ _ _ (.refl s))))) (.refl s)))
  · split
    · exact State.updBegin_keeps _ _ _ (.parts (.refl s) rfl)
    · exact .refl s
  · split
    · exact State.updBegin_keeps _ _ _ (.parts (State.relay_keeps _ _ _ _ _ _ (.refl s)) rfl)
    · exact State.relay_keeps _ _ _ _ _ _ (.refl s)

theorem execDistData_keeps (offset : Framed Word) (bytes : List Byte) (flashError : Bool) (s : State) :
    OKeeps s (execDistData offset bytes flashError s) := by
  have hpass {p : FrameHead} {type a : Nat} {both : Bool} {payload : List Byte} : Keeps s (s.passOn p type a both payload) :=
    State.passOn_keeps _ _ _ _ _ _ (.refl s)
  refine .next ?_
  split
  · exact hpass
  · refine .ite hpass ?_
    extract_lets _ e t _ u v r
    have ht : Keeps s t := .parts hpass rfl
    have hu : Keeps s u := .parts ht rfl
    have hv : Keeps s v := onlyIf_keeps (fun _ hw => State.raise_keeps _ _ hw) hu
    have hr : Keeps s r.1 := State.stageBytes_keeps _ _ _ ht
    refine .ite (.ite hpass (State.updTake_keeps _ _ _ hv)) (.ite (.parts hpass rfl) ?_)
    split
    · exact hr
    · exact State.rejectBond_keeps _ _ (.parts hr rfl)
    · exact State.bondArrived_keeps _ _ hr

theorem execSpiWrite_keeps (address : Word) (words : List Word) (partialWord : Bool) (s : State) :
    OKeeps s (execSpiWrite address words partialWord s) :=
  .next (.ite (State.spiEnd_keeps _ _ _ _ _ _ (.ite (State.frameError_keeps _ _ _ (State.portWrite_keeps _ _ _ _ _ _
    (.refl s))) (State.portWrite_keeps _ _ _ _ _ _ (.refl s)))) (.refl s))

theorem execSpiReservedCmd_keeps (command : Byte) (s : State) : OKeeps s (execSpiReservedCmd command s) :=
  .next (.ite (State.spiEnd_keeps _ _ _ _ _ _ (State.flagRaise_keeps _ _ _ (State.bump_keeps _ _ (.refl s)))) (.refl s))

theorem execI2cWrite_keeps (address : Word) (words : List Word) (partialWord : Bool) (s : State) :
    OKeeps s (execI2cWrite address words partialWord s) :=
  .next (.ite (.ite (State.frameError_keeps _ _ _ (.parts (State.portWrite_keeps _ _ _ _ _ _ (.refl s)) rfl)) (.parts
    (State.portWrite_keeps _ _ _ _ _ _ (.refl s)) rfl)) (.refl s))

theorem execI2cRead_keeps (address : Word) (count : Nat) (partialAddress : Bool) (s : State) :
    OKeeps s (execI2cRead address count partialAddress s) :=
  .next (.ite (.ite (State.frameError_keeps _ _ _ (.refl s)) (State.i2cReadFrom_keeps _ _ _ (.refl s))) (.refl s))

theorem execI2cCurrentRead_keeps (count : Nat) (s : State) : OKeeps s (execI2cCurrentRead count s) :=
  .next (.ite (State.i2cReadFrom_keeps _ _ _ (.refl s)) (.refl s))

theorem execI2cSclTimeout_keeps (s : State) : OKeeps s (execI2cSclTimeout s) :=
  .next (.ite (State.flagRaise_keeps _ _ _ (State.bump_keeps _ _ (.refl s))) (.refl s))

theorem execRdReq_keeps (source : BitVec 12) (tag : BitVec 5) (address : Word) (count : Byte) (waiting : Nat) (s : State) :
    OKeeps s (execRdReq source tag address count waiting s) :=
  .next (.ite (.ite (State.answerBusy_keeps _ _ _ (.refl s)) (State.answerRemote_keeps _ _ _ _ _
    (State.portRead_keeps _ _ _ _ _ _ (.refl s)))) (.refl s))

theorem execWrReq_keeps (source : BitVec 12) (tag : BitVec 5) (address data : Word) (waiting : Nat) (s : State) :
    OKeeps s (execWrReq source tag address data waiting s) :=
  .next (.ite (.ite (State.answerBusy_keeps _ _ _ (.refl s)) (State.answerRemote_keeps _ _ _ _ _
    (State.busWrite_keeps _ _ _ _ _ (.refl s)))) (.refl s))

theorem execSwrst_keeps (path : Path) (s : State) : OKeeps s (execSwrst path s) :=
  .next (State.writeRow_keeps _ _ _ _ _ (.refl s))

theorem execOtpRead_keeps (path : Path) (row : BitVec 9) (s : State) : OKeeps s (execOtpRead path row s) :=
  .next (State.writeRow_keeps _ _ _ _ _ (.refl s))

theorem execOtpProgram_keeps (path : Path) (row : BitVec 9) (vsys : Nat) (vpp : Nat) (s : State) :
    OKeeps s (execOtpProgram path row vsys vpp s) :=
  .next (State.writeRow_keeps _ _ _ _ _ (.parts (.refl s) rfl))

theorem execUpdStart_keeps (path : Path) (blocks : BitVec 10) (s : State) : OKeeps s (execUpdStart path blocks s) :=
  .next (State.writeRow_keeps _ _ _ _ _ (.refl s))

theorem execUpdAbort_keeps (path : Path) (blocks : BitVec 10) (s : State) : OKeeps s (execUpdAbort path blocks s) :=
  .next (State.writeRow_keeps _ _ _ _ _ (.refl s))

theorem execUpdData_keeps (path : Path) (data : Word) (flashError : Bool) (s : State) :
    OKeeps s (execUpdData path data flashError s) :=
  .next (State.writeRow_keeps _ _ _ _ _ (.refl s))

theorem execBondStoreCmd_keeps (path : Path) (src : BitVec 2) (s : State) : OKeeps s (execBondStoreCmd path src s) :=
  .next (State.writeRow_keeps _ _ _ _ _ (.refl s))

theorem execBondApply_keeps (path : Path) (src : BitVec 2) (store : Bool) (s : State) :
    OKeeps s (execBondApply path src store s) :=
  .next (State.writeRow_keeps _ _ _ _ _ (.refl s))

theorem execBondAbort_keeps (path : Path) (s : State) : OKeeps s (execBondAbort path s) :=
  .next (State.writeRow_keeps _ _ _ _ _ (.refl s))

theorem execBndData_keeps (path : Path) (data : Word) (s : State) : OKeeps s (execBndData path data s) :=
  .next (State.writeRow_keeps _ _ _ _ _ (.refl s))

theorem execSetGo_keeps (path : Path) (s : State) : OKeeps s (execSetGo path s) :=
  .next (State.writeRow_keeps _ _ _ _ _ (.refl s))

theorem execStmTimeLoRead_keeps (path : Path) (s : State) : OKeeps s (execStmTimeLoRead path s) :=
  .next (State.readRow_keeps _ _ _ (.refl s))

theorem execRtcTimeRead_keeps (path : Path) (word : BitVec 2) (s : State) : OKeeps s (execRtcTimeRead path word s) :=
  .next (State.readRow_keeps _ _ _ (.refl s))

theorem execRtcStatRead_keeps (path : Path) (s : State) : OKeeps s (execRtcStatRead path s) :=
  .next (State.readRow_keeps _ _ _ (.refl s))

theorem execCommitBinary_keeps (path : Path) (almEn : Bool) (s : State) : OKeeps s (execCommitBinary path almEn s) :=
  .next (State.writeRow_keeps _ _ _ _ _ (.refl s))

theorem execCommitCalendar_keeps (path : Path) (almEn : Bool) (s : State) : OKeeps s (execCommitCalendar path almEn s) :=
  .next (State.writeRow_keeps _ _ _ _ _ (.refl s))

theorem execEvtPop_keeps (path : Path) (s : State) : OKeeps s (execEvtPop path s) :=
  .next (State.writeRow_keeps _ _ _ _ _ (.refl s))

theorem execEvtOvfClr_keeps (path : Path) (s : State) : OKeeps s (execEvtOvfClr path s) :=
  .next (State.writeRow_keeps _ _ _ _ _ (.refl s))

theorem execBrkTargetWrite_keeps (path : Path) (n : Nat) (data : Word) (s : State) :
    OKeeps s (execBrkTargetWrite path n data s) :=
  .next (.ite (State.writeRow_keeps _ _ _ _ _ (.refl s)) (.refl s))

theorem execCoefCommit_keeps (path : Path) (n : Nat) (s : State) : OKeeps s (execCoefCommit path n s) :=
  .next (.ite (State.writeRow_keeps _ _ _ _ _ (.refl s)) (.refl s))

theorem execBrkCntClr_keeps (path : Path) (n : Nat) (s : State) : OKeeps s (execBrkCntClr path n s) :=
  .next (.ite (State.writeRow_keeps _ _ _ _ _ (.refl s)) (.refl s))

theorem execRetryRst_keeps (path : Path) (n : Nat) (s : State) : OKeeps s (execRetryRst path n s) :=
  .next (.ite (State.writeRow_keeps _ _ _ _ _ (.refl s)) (.refl s))

theorem execLcntClr_keeps (path : Path) (n : Nat) (s : State) : OKeeps s (execLcntClr path n s) :=
  .next (.ite (State.writeRow_keeps _ _ _ _ _ (.refl s)) (.refl s))

theorem execSeqTarget_keeps (path : Path) (target : BitVec 8) (s : State) : OKeeps s (execSeqTarget path target s) :=
  .next (State.writeRow_keeps _ _ _ _ _ (.refl s))

theorem execSeqFloor_keeps (path : Path) (target : BitVec 8) (s : State) : OKeeps s (execSeqFloor path target s) :=
  .next (State.writeRow_keeps _ _ _ _ _ (.refl s))

theorem execRejoin_keeps (path : Path) (s : State) : OKeeps s (execRejoin path s) :=
  .next (State.writeRow_keeps _ _ _ _ _ (.refl s))

theorem execFaultClr_keeps (path : Path) (blocked : Bool) (s : State) : OKeeps s (execFaultClr path blocked s) :=
  .next (State.writeRow_keeps _ _ _ _ _ (.refl s))

theorem execLineClr_keeps (path : Path) (s : State) : OKeeps s (execLineClr path s) :=
  .next (State.writeRow_keeps _ _ _ _ _ (.refl s))

theorem execSeqCntClr_keeps (path : Path) (s : State) : OKeeps s (execSeqCntClr path s) :=
  .next (State.writeRow_keeps _ _ _ _ _ (.refl s))

theorem execJnlRdSlot_keeps (path : Path) (slot : BitVec 17) (s : State) : OKeeps s (execJnlRdSlot path slot s) :=
  .next (State.writeRow_keeps _ _ _ _ _ (.refl s))

theorem execHstCntClr_keeps (path : Path) (s : State) : OKeeps s (execHstCntClr path s) :=
  .next (State.writeRow_keeps _ _ _ _ _ (.refl s))

theorem execRegisterWrite_keeps (path : Path) (address : Word) (data : Word) (s : State) :
    OKeeps s (execRegisterWrite path address data s) :=
  .next (State.writeRow_keeps _ _ _ _ _ (.refl s))

theorem execDoorbellWrite_keeps (path : Path) (source : BitVec 10) (s : State) :
    OKeeps s (execDoorbellWrite path source s) :=
  .next (State.writeRow_keeps _ _ _ _ _ (.refl s))

theorem execIcuSrcWrite_keeps (path : Path) (source : BitVec 10) (data : Word) (s : State) :
    OKeeps s (execIcuSrcWrite path source data s) :=
  .next (State.writeRow_keeps _ _ _ _ _ (.refl s))

theorem execIcuPop_keeps (path : Path) (intEn : Bool) (s : State) : OKeeps s (execIcuPop path intEn s) :=
  .next (State.writeRow_keeps _ _ _ _ _ (.refl s))

theorem execIcuHoldWrite_keeps (path : Path) (g : Nat) (data : Word) (s : State) :
    OKeeps s (execIcuHoldWrite path g data s) :=
  .next (.ite (State.writeRow_keeps _ _ _ _ _ (.refl s)) (.refl s))

theorem execStandbyRequest_keeps (path : Path) (s : State) : OKeeps s (execStandbyRequest path s) :=
  .next (State.writeRow_keeps _ _ _ _ _ (.refl s))

theorem execArm_keeps (path : Path) (s : State) : OKeeps s (execArm path s) :=
  .next (State.writeRow_keeps _ _ _ _ _ (.refl s))

theorem execEvidClr_keeps (path : Path) (s : State) : OKeeps s (execEvidClr path s) :=
  .next (State.writeRow_keeps _ _ _ _ _ (.refl s))

theorem execCheckin_keeps (path : Path) (task : BitVec 4) (value : BitVec 16) (counters : Word × Word × Word × Word) (s : State) :
    OKeeps s (execCheckin path task value counters s) :=
  .next (State.writeRow_keeps _ _ _ _ _ (.refl s))

theorem execVcpRecClr_keeps (path : Path) (s : State) : OKeeps s (execVcpRecClr path s) :=
  .next (State.writeRow_keeps _ _ _ _ _ (.refl s))

theorem execVcpCntClr_keeps (path : Path) (s : State) : OKeeps s (execVcpCntClr path s) :=
  .next (State.writeRow_keeps _ _ _ _ _ (.refl s))

theorem execVcpLastLoRead_keeps (path : Path) (s : State) : OKeeps s (execVcpLastLoRead path s) :=
  .next (State.readRow_keeps _ _ _ (.refl s))

theorem execCellTsLoRead_keeps (path : Path) (s : State) : OKeeps s (execCellTsLoRead path s) :=
  .next (State.readRow_keeps _ _ _ (.refl s))

theorem execDmaCfgWrite_keeps (path : Path) (stream : BitVec 4) (data : Word) (s : State) :
    OKeeps s (execDmaCfgWrite path stream data s) :=
  .next (State.writeRow_keeps _ _ _ _ _ (.refl s))

theorem execDmaWptrRead_keeps (path : Path) (stream : BitVec 4) (s : State) : OKeeps s (execDmaWptrRead path stream s) :=
  .next (State.readRow_keeps _ _ _ (.refl s))

theorem execTdacWrite_keeps (path : Path) (data : Word) (s : State) : OKeeps s (execTdacWrite path data s) :=
  .next (State.writeRow_keeps _ _ _ _ _ (.refl s))

theorem execOwGo_keeps (path : Path) (s : State) : OKeeps s (execOwGo path s) :=
  .next (State.writeRow_keeps _ _ _ _ _ (.refl s))

theorem execOwAbort_keeps (path : Path) (s : State) : OKeeps s (execOwAbort path s) :=
  .next (State.writeRow_keeps _ _ _ _ _ (.refl s))

theorem execMsrCntClr_keeps (path : Path) (s : State) : OKeeps s (execMsrCntClr path s) :=
  .next (State.writeRow_keeps _ _ _ _ _ (.refl s))

theorem execSweepReq_keeps (path : Path) (s : State) : OKeeps s (execSweepReq path s) :=
  .next (State.writeRow_keeps _ _ _ _ _ (.refl s))

theorem execBaseRst_keeps (path : Path) (s : State) : OKeeps s (execBaseRst path s) :=
  .next (State.writeRow_keeps _ _ _ _ _ (.refl s))

theorem execCelZrRead_keeps (path : Path) (cell : BitVec 5) (bin : BitVec 6) (s : State) :
    OKeeps s (execCelZrRead path cell bin s) :=
  .next (State.readRow_keeps _ _ _ (.refl s))

theorem execPpPrefWrite_keeps (path : Path) (pref : Bool) (auxMode : Bool) (s : State) :
    OKeeps s (execPpPrefWrite path pref auxMode s) :=
  .next (State.writeRow_keeps _ _ _ _ _ (.refl s))

theorem execStart_keeps (path : Path) (s : State) : OKeeps s (execStart path s) :=
  .next (State.writeRow_keeps _ _ _ _ _ (.refl s))

theorem execStop_keeps (path : Path) (s : State) : OKeeps s (execStop path s) :=
  .next (State.writeRow_keeps _ _ _ _ _ (.refl s))

theorem execStatClr_keeps (path : Path) (s : State) : OKeeps s (execStatClr path s) :=
  .next (State.writeRow_keeps _ _ _ _ _ (.refl s))

theorem execPointWrite_keeps (path : Path) (point : BitVec 13) (data : Word) (s : State) :
    OKeeps s (execPointWrite path point data s) :=
  .next (State.writeRow_keeps _ _ _ _ _ (.refl s))

theorem execCoherentPageRead_keeps (path : Path) (address : Word) (s : State) :
    OKeeps s (execCoherentPageRead path address s) :=
  .next (State.readRow_keeps _ _ _ (.refl s))

theorem execCouchGo_keeps (path : Path) (id : BitVec 16) (s : State) : OKeeps s (execCouchGo path id s) :=
  .next (State.writeRow_keeps _ _ _ _ _ (.refl s))

theorem execCouchFreeWrite_keeps (path : Path) (banks : BitVec 4) (s : State) : OKeeps s (execCouchFreeWrite path banks s) :=
  .next (State.writeRow_keeps _ _ _ _ _ (.refl s))

theorem execEnum_keeps (path : Path) (s : State) : OKeeps s (execEnum path s) :=
  .next (State.writeRow_keeps _ _ _ _ _ (.refl s))

theorem execRaRead_keeps (path : Path) (tag : BitVec 5) (dest : BitVec 12) (s : State) :
    OKeeps s (execRaRead path tag dest s) :=
  .next (State.writeRow_keeps _ _ _ _ _ (.refl s))

theorem execRaWrite_keeps (path : Path) (tag : BitVec 5) (dest : BitVec 12) (s : State) :
    OKeeps s (execRaWrite path tag dest s) :=
  .next (State.writeRow_keeps _ _ _ _ _ (.refl s))

theorem execRaBlockRead_keeps (path : Path) (tag : BitVec 5) (count : BitVec 6) (dest : BitVec 12) (s : State) :
    OKeeps s (execRaBlockRead path tag count dest s) :=
  .next (State.writeRow_keeps _ _ _ _ _ (.refl s))

theorem execRaFree_keeps (path : Path) (tag : BitVec 5) (s : State) : OKeeps s (execRaFree path tag s) :=
  .next (State.writeRow_keeps _ _ _ _ _ (.refl s))

theorem execDistGo_keeps (path : Path) (control : Word) (s : State) : OKeeps s (execDistGo path control s) :=
  .next (State.writeRow_keeps _ _ _ _ _ (.refl s))

theorem execDistAbort_keeps (path : Path) (control : Word) (s : State) : OKeeps s (execDistAbort path control s) :=
  .next (State.writeRow_keeps _ _ _ _ _ (.refl s))

theorem execFwdPop_keeps (path : Path) (s : State) : OKeeps s (execFwdPop path s) :=
  .next (State.writeRow_keeps _ _ _ _ _ (.refl s))

theorem execLnkCntClr_keeps (path : Path) (s : State) : OKeeps s (execLnkCntClr path s) :=
  .next (State.writeRow_keeps _ _ _ _ _ (.refl s))

/-! ### Every command, and a step -/

/-- Every command keeps the queue, the canonical form and the depths. -/
theorem exec_keeps : ∀ (c : Instr) (s : State), OKeeps s (exec c s)
  | .resetNRelease tst, s => execResetNRelease_keeps tst s
  | .swrst path, s => execSwrst_keeps path s
  | .p0SupplyDone vsys tst, s => execP0SupplyDone_keeps vsys tst s
  | .p2Restart source, s => execP2Restart_keeps source s
  | .refQualified port, s => execRefQualified_keeps port s
  | .refWindowEnd edges, s => execRefWindowEnd_keeps edges s
  | .refReturn port, s => execRefReturn_keeps port s
  | .p6ServicesDone failedLanes, s => execP6ServicesDone_keeps failedLanes s
  | .l2RestartDone copiesOk, s => execL2RestartDone_keeps copiesOk s
  | .l3RestartDone copiesOk, s => execL3RestartDone_keeps copiesOk s
  | .otpRead path row, s => execOtpRead_keeps path row s
  | .otpProgram path row vsys vpp, s => execOtpProgram_keeps path row vsys vpp s
  | .otpCommandDone failedBit, s => execOtpCommandDone_keeps failedBit s
  | .otpConditionLost pulses, s => execOtpConditionLost_keeps pulses s
  | .updStart path blocks, s => execUpdStart_keeps path blocks s
  | .updAbort path blocks, s => execUpdAbort_keeps path blocks s
  | .updData path data flashError, s => execUpdData_keeps path data flashError s
  | .updateCheckDone flashError, s => execUpdateCheckDone_keeps flashError s
  | .bondStoreCmd path src, s => execBondStoreCmd_keeps path src s
  | .bondApply path src store, s => execBondApply_keeps path src store s
  | .bondAbort path, s => execBondAbort_keeps path s
  | .bndData path data, s => execBndData_keeps path data s
  | .bondStoreDone flashError, s => execBondStoreDone_keeps flashError s
  | .setGo path, s => execSetGo_keeps path s
  | .stmTimeLoRead path, s => execStmTimeLoRead_keeps path s
  | .syncReq port turn, s => execSyncReq_keeps port turn s
  | .syncFup t2 t3 tstate, s => execSyncFup_keeps t2 t3 tstate s
  | .rtcTimeRead path word, s => execRtcTimeRead_keeps path word s
  | .rtcFreezeTimeout path, s => execRtcFreezeTimeout_keeps path s
  | .rtcStatRead path, s => execRtcStatRead_keeps path s
  | .commitBinary path almEn, s => execCommitBinary_keeps path almEn s
  | .commitCalendar path almEn, s => execCommitCalendar_keeps path almEn s
  | .vbakSample millivolts, s => execVbakSample_keeps millivolts s
  | .evtEdgeAccept input level, s => execEvtEdgeAccept_keeps input level s
  | .evtPop path, s => execEvtPop_keeps path s
  | .evtOvfClr path, s => execEvtOvfClr_keeps path s
  | .brickUpdate n lanes held, s => execBrickUpdate_keeps n lanes held s
  | .settleTimeout n, s => execSettleTimeout_keeps n s
  | .brkTargetWrite path n data, s => execBrkTargetWrite_keeps path n data s
  | .coefCommit path n, s => execCoefCommit_keeps path n s
  | .brkCntClr path n, s => execBrkCntClr_keeps path n s
  | .laneScrub n dataA dataB codeA codeB, s => execLaneScrub_keeps n dataA dataB codeA codeB s
  | .quickTestDone n passA passB, s => execQuickTestDone_keeps n passA passB s
  | .fullTestDone n lane pass, s => execFullTestDone_keeps n lane pass s
  | .laneRejoin n, s => execLaneRejoin_keeps n s
  | .fastLimitTrip cs, s => execFastLimitTrip_keeps cs s
  | .blankingEnd n microvolts, s => execBlankingEnd_keeps n microvolts s
  | .retryTimerExpiry blocked, s => execRetryTimerExpiry_keeps blocked s
  | .running1sExpiry n, s => execRunning1sExpiry_keeps n s
  | .retryRst path n, s => execRetryRst_keeps path n s
  | .lcntClr path n, s => execLcntClr_keeps path n s
  | .setV group seq value, s => execSetV_keeps group seq value s
  | .setI group seq value, s => execSetI_keeps group seq value s
  | .setSlew group seq value, s => execSetSlew_keeps group seq value s
  | .poll group seq value, s => execPoll_keeps group seq value s
  | .read group seq value, s => execRead_keeps group seq value s
  | .vcpReservedCmd command group seq value, s => execVcpReservedCmd_keeps command group seq value s
  | .vcpRecClr path, s => execVcpRecClr_keeps path s
  | .vcpCntClr path, s => execVcpCntClr_keeps path s
  | .vcpLastLoRead path, s => execVcpLastLoRead_keeps path s
  | .seqTarget path target, s => execSeqTarget_keeps path target s
  | .seqFloor path target, s => execSeqFloor_keeps path target s
  | .courseMasterStep pulseSeen, s => execCourseMasterStep_keeps pulseSeen s
  | .confirm course down, s => execConfirm_keeps course down s
  | .courseAns address course down status rejoin, s => execCourseAns_keeps address course down status rejoin s
  | .trunkStep course down floor pulseSeen, s => execTrunkStep_keeps course down floor pulseSeen s
  | .headDone address, s => execHeadDone_keeps address s
  | .rejoin path, s => execRejoin_keeps path s
  | .faultClr path blocked, s => execFaultClr_keeps path blocked s
  | .lineClr path, s => execLineClr_keeps path s
  | .seqCntClr path, s => execSeqCntClr_keeps path s
  | .railViolation rail microvolts, s => execRailViolation_keeps rail microvolts s
  | .pgDelayExpiry rail, s => execPgDelayExpiry_keeps rail s
  | .marginPinChange up dn, s => execMarginPinChange_keeps up dn s
  | .supplyLow vsys, s => execSupplyLow_keeps vsys s
  | .supplyGood vsys, s => execSupplyGood_keeps vsys s
  | .supply address low, s => execSupply_keeps address low s
  | .floorDone address, s => execFloorDone_keeps address s
  | .lineState address state, s => execLineState_keeps address state s
  | .alloff code source unaddressed, s => execAlloff_keeps code source unaddressed s
  | .periodicTrigger held, s => execPeriodicTrigger_keeps held s
  | .extTrigger held, s => execExtTrigger_keeps held s
  | .conversionDone adc, s => execConversionDone_keeps adc s
  | .cellTsLoRead path, s => execCellTsLoRead_keeps path s
  | .hkCaptureTimeout held, s => execHkCaptureTimeout_keeps held s
  | .dmaCfgWrite path stream data, s => execDmaCfgWrite_keeps path stream data s
  | .dmaWptrRead path stream, s => execDmaWptrRead_keeps path stream s
  | .tdacWrite path data, s => execTdacWrite_keeps path data s
  | .owGo path, s => execOwGo_keeps path s
  | .owAbort path, s => execOwAbort_keeps path s
  | .msrCntClr path, s => execMsrCntClr_keeps path s
  | .sensorFlagBroken sensor, s => execSensorFlagBroken_keeps sensor s
  | .sensorUnflag sensor, s => execSensorUnflag_keeps sensor s
  | .privBrokenTimeout sensor, s => execPrivBrokenTimeout_keeps sensor s
  | .thermalShutdown sensor, s => execThermalShutdown_keeps sensor s
  | .sweepReq path, s => execSweepReq_keeps path s
  | .windowEnd enginesAgree, s => execWindowEnd_keeps enginesAgree s
  | .baseRst path, s => execBaseRst_keeps path s
  | .celZrRead path cell bin, s => execCelZrRead_keeps path cell bin s
  | .sourceQualified b, s => execSourceQualified_keeps b s
  | .sourceLost b, s => execSourceLost_keeps b s
  | .sourceOv b, s => execSourceOv_keeps b s
  | .longQualEnd b, s => execLongQualEnd_keeps b s
  | .ppPrefWrite path pref auxMode, s => execPpPrefWrite_keeps path pref auxMode s
  | .start path, s => execStart_keeps path s
  | .stop path, s => execStop_keeps path s
  | .statClr path, s => execStatClr_keeps path s
  | .pointWrite path point data, s => execPointWrite_keeps path point data s
  | .coherentPageRead path address, s => execCoherentPageRead_keeps path address s
  | .couchGo path id, s => execCouchGo_keeps path id s
  | .couchFreeWrite path banks, s => execCouchFreeWrite_keeps path banks s
  | .couchReq id time, s => execCouchReq_keeps id time s
  | .couchAns address id result, s => execCouchAns_keeps address id result s
  | .couchFree ids, s => execCouchFree_keeps ids s
  | .couchHeld bank, s => execCouchHeld_keeps bank s
  | .sheetWritten flashError, s => execSheetWritten_keeps flashError s
  | .jnlRdSlot path slot, s => execJnlRdSlot_keeps path slot s
  | .jnlRdLoaded path, s => execJnlRdLoaded_keeps path s
  | .portUp port, s => execPortUp_keeps port s
  | .portDown port, s => execPortDown_keeps port s
  | .ringCheckSend trunk, s => execRingCheckSend_keeps trunk s
  | .ringCheck port serial, s => execRingCheck_keeps port serial s
  | .ringCheckTimeout trunk, s => execRingCheckTimeout_keeps trunk s
  | .ringState trunk opened source event, s => execRingState_keeps trunk opened source event s
  | .hello serial, s => execHello_keeps serial s
  | .enum path, s => execEnum_keeps path s
  | .claim trunk serial rank, s => execClaim_keeps trunk serial rank s
  | .walk port count side, s => execWalk_keeps port count side s
  | .walkReport trunk serial distance side, s => execWalkReport_keeps trunk serial distance side s
  | .assign trunk entries, s => execAssign_keeps trunk entries s
  | .raRead path tag dest, s => execRaRead_keeps path tag dest s
  | .raWrite path tag dest, s => execRaWrite_keeps path tag dest s
  | .raBlockRead path tag count dest, s => execRaBlockRead_keeps path tag count dest s
  | .rdReq source tag address count waiting, s => execRdReq_keeps source tag address count waiting s
  | .wrReq source tag address data waiting, s => execWrReq_keeps source tag address data waiting s
  | .raRsp tag result data, s => execRaRsp_keeps tag result data s
  | .raTimeout tag, s => execRaTimeout_keeps tag s
  | .raFree path tag, s => execRaFree_keeps path tag s
  | .distGo path control, s => execDistGo_keeps path control s
  | .distAbort path control, s => execDistAbort_keeps path control s
  | .distStart source image apply store length, s => execDistStart_keeps source image apply store length s
  | .distData offset bytes flashError, s => execDistData_keeps offset bytes flashError s
  | .distResult source result, s => execDistResult_keeps source result s
  | .imgReq port, s => execImgReq_keeps port s
  | .doorbell source, s => execDoorbell_keeps source s
  | .irqFwd address source stamp, s => execIrqFwd_keeps address source stamp s
  | .reset key unicast, s => execReset_keeps key unicast s
  | .fwdPop path, s => execFwdPop_keeps path s
  | .lnkCntClr path, s => execLnkCntClr_keeps path s
  | .spiWrite address words partialWord, s => execSpiWrite_keeps address words partialWord s
  | .spiRead address count late addressCut, s => execSpiRead_keeps address count late addressCut s
  | .spiReservedCmd command, s => execSpiReservedCmd_keeps command s
  | .i2cWrite address words partialWord, s => execI2cWrite_keeps address words partialWord s
  | .i2cRead address count partialAddress, s => execI2cRead_keeps address count partialAddress s
  | .i2cCurrentRead count, s => execI2cCurrentRead_keeps count s
  | .hstCntClr path, s => execHstCntClr_keeps path s
  | .registerWrite path address data, s => execRegisterWrite_keeps path address data s
  | .doorbellWrite path source, s => execDoorbellWrite_keeps path source s
  | .icuSrcWrite path source data, s => execIcuSrcWrite_keeps path source data s
  | .icuPop path intEn, s => execIcuPop_keeps path intEn s
  | .holdoffExpiry g, s => execHoldoffExpiry_keeps g s
  | .icuHoldWrite path g data, s => execIcuHoldWrite_keeps path g data s
  | .standbyRequest path, s => execStandbyRequest_keeps path s
  | .wakeLatchEdge latch, s => execWakeLatchEdge_keeps latch s
  | .irqEdge n rising, s => execIrqEdge_keeps n rising s
  | .gpioEdge n rising, s => execGpioEdge_keeps n rising s
  | .arm path, s => execArm_keeps path s
  | .evidClr path, s => execEvidClr_keeps path s
  | .checkin path task value counters, s => execCheckin_keeps path task value counters s
  | .wdgWindowClose counters, s => execWdgWindowClose_keeps counters s
  | .linkFrameError crc, s => execLinkFrameError_keeps crc s
  | .wakePulse, s => execWakePulse_keeps s
  | .por, s => execPor_keeps s
  | .bor, s => execBor_keeps s
  | .inputCollapse, s => execInputCollapse_keeps s
  | .resetNAssert, s => execResetNAssert_keeps s
  | .allOffTimelineEnd, s => execAllOffTimelineEnd_keeps s
  | .p1RegulatorsDone, s => execP1RegulatorsDone_keeps s
  | .p1RegulatorTimeout, s => execP1RegulatorTimeout_keeps s
  | .p1RetryEnd, s => execP1RetryEnd_keeps s
  | .p2OptionsDone, s => execP2OptionsDone_keeps s
  | .p2RestartWindowEnd, s => execP2RestartWindowEnd_keeps s
  | .pllLock, s => execPllLock_keeps s
  | .lockAttemptTimeout, s => execLockAttemptTimeout_keeps s
  | .refLostTimeout, s => execRefLostTimeout_keeps s
  | .lossOfLock, s => execLossOfLock_keeps s
  | .p4ImageDone, s => execP4ImageDone_keeps s
  | .p5BondDone, s => execP5BondDone_keeps s
  | .loaderImgRequest, s => execLoaderImgRequest_keeps s
  | .loaderImgTimeout, s => execLoaderImgTimeout_keeps s
  | .bondReceiveTimeout, s => execBondReceiveTimeout_keeps s
  | .bondValidationDone, s => execBondValidationDone_keeps s
  | .bondTakesEffect, s => execBondTakesEffect_keeps s
  | .syncStart, s => execSyncStart_keeps s
  | .syncRsp, s => execSyncRsp_keeps s
  | .syncFupTimeout, s => execSyncFupTimeout_keeps s
  | .syncHoldoverTimeout, s => execSyncHoldoverTimeout_keeps s
  | .vbakFirstRise, s => execVbakFirstRise_keeps s
  | .vbakLoss, s => execVbakLoss_keeps s
  | .calOverflow, s => execCalOverflow_keeps s
  | .commitApply, s => execCommitApply_keeps s
  | .oscStopDetect, s => execOscStopDetect_keeps s
  | .alarmFire, s => execAlarmFire_keeps s
  | .supervisorLaneMismatch, s => execSupervisorLaneMismatch_keeps s
  | .vcpShortFrame, s => execVcpShortFrame_keeps s
  | .vcpCrcFail, s => execVcpCrcFail_keeps s
  | .courseStepUp, s => execCourseStepUp_keeps s
  | .courseStepDown, s => execCourseStepDown_keeps s
  | .courseFloor, s => execCourseFloor_keeps s
  | .courseInvalidLow, s => execCourseInvalidLow_keeps s
  | .railOn, s => execRailOn_keeps s
  | .railOff, s => execRailOff_keeps s
  | .waitPg, s => execWaitPg_keeps s
  | .waitPgTimeout, s => execWaitPgTimeout_keeps s
  | .delay, s => execDelay_keeps s
  | .delayExpiry, s => execDelayExpiry_keeps s
  | .pinSet, s => execPinSet_keeps s
  | .setRef, s => execSetRef_keeps s
  | .moduleClose, s => execModuleClose_keeps s
  | .moduleOpen, s => execModuleOpen_keeps s
  | .cascInRise, s => execCascInRise_keeps s
  | .cascTimeout, s => execCascTimeout_keeps s
  | .courseLineIdle, s => execCourseLineIdle_keeps s
  | .confirmAnswerTimeout, s => execConfirmAnswerTimeout_keeps s
  | .confirmMissingTimeout, s => execConfirmMissingTimeout_keeps s
  | .headReportTimeout, s => execHeadReportTimeout_keeps s
  | .stepTimeout, s => execStepTimeout_keeps s
  | .linkFloor, s => execLinkFloor_keeps s
  | .triggerFallbackTimeout, s => execTriggerFallbackTimeout_keeps s
  | .cellBlockDone, s => execCellBlockDone_keeps s
  | .hkTick, s => execHkTick_keeps s
  | .hkRoundDone, s => execHkRoundDone_keeps s
  | .owWindowEnd, s => execOwWindowEnd_keeps s
  | .owTapGapEnd, s => execOwTapGapEnd_keeps s
  | .throttleEval, s => execThrottleEval_keeps s
  | .thmLockClear, s => execThmLockClear_keeps s
  | .sweepStart, s => execSweepStart_keeps s
  | .windowLeadinStart, s => execWindowLeadinStart_keeps s
  | .windowMeasureStart, s => execWindowMeasureStart_keeps s
  | .restPoint, s => execRestPoint_keeps s
  | .celRestoreDone, s => execCelRestoreDone_keeps s
  | .balSecondBoundary, s => execBalSecondBoundary_keeps s
  | .balOnTimeEnd, s => execBalOnTimeEnd_keeps s
  | .handoverDone, s => execHandoverDone_keeps s
  | .probeT50Expiry, s => execProbeT50Expiry_keeps s
  | .probeTimeout, s => execProbeTimeout_keeps s
  | .prechargeOffTimer, s => execPrechargeOffTimer_keeps s
  | .serviceRelease, s => execServiceRelease_keeps s
  | .serviceHeld20s, s => execServiceHeld20s_keeps s
  | .switchCycleTimer, s => execSwitchCycleTimer_keeps s
  | .shipModeSheetWritten, s => execShipModeSheetWritten_keeps s
  | .chargeEval, s => execChargeEval_keeps s
  | .searchDwellEnd, s => execSearchDwellEnd_keeps s
  | .searchRepeat, s => execSearchRepeat_keeps s
  | .sessionTmax, s => execSessionTmax_keeps s
  | .reamLatch, s => execReamLatch_keeps s
  | .meterRestoreDone, s => execMeterRestoreDone_keeps s
  | .histSecond, s => execHistSecond_keeps s
  | .midnightStats, s => execMidnightStats_keeps s
  | .couchAnswerTimeout, s => execCouchAnswerTimeout_keeps s
  | .couchInstant, s => execCouchInstant_keeps s
  | .journalDrain, s => execJournalDrain_keeps s
  | .headSearchDone, s => execHeadSearchDone_keeps s
  | .helloSend, s => execHelloSend_keeps s
  | .enumAutoStart, s => execEnumAutoStart_keeps s
  | .claimTimeout, s => execClaimTimeout_keeps s
  | .distCollectEnd, s => execDistCollectEnd_keeps s
  | .i2cSclTimeout, s => execI2cSclTimeout_keeps s
  | .intNGapEnd, s => execIntNGapEnd_keeps s
  | .standbyEnter, s => execStandbyEnter_keeps s
  | .wakeRise, s => execWakeRise_keeps s
  | .wdoPulseEnd, s => execWdoPulseEnd_keeps s
  | .cascInFall, s => execCascInFall_keeps s
  | .servicePress, s => execServicePress_keeps s
  | .serviceProcessorFault, s => execServiceProcessorFault_keeps s

/-- A step on a queue that is not empty keeps what its command keeps of the state with the queue's rest. -/
theorem step_keeps_cons {s t : State} {c : Instr} {rest : List Instr} (hp : s.pending = c :: rest) (h : step s = .next t) :
    Keeps { s with pending := rest } t := by
  simp only [step, hp] at h
  exact exec_keeps c _ t h

/-- A step on an empty queue keeps what an instant keeps. -/
theorem step_keeps_nil {s t : State} (hp : s.pending = []) (h : step s = .next t) : Keeps s t := by
  simp only [step, hp, Host.Outcome.next.injEq] at h
  exact h ▸ State.tick_keeps s (.refl s)

theorem canonical_iff (s : State) : s.canonical = true ↔ Registers.wf s.regs = true ∧
    Memory.wf flashBlank s.flash = true ∧ Memory.wf sramBlank s.sram = true ∧ s.brk.length = 16 := by
  simp [State.canonical, and_assoc]

/-- What keeps the lists' canonical form keeps the state's. -/
theorem Keeps.canonical {s t : State} (k : Keeps s t) (h : s.canonical = true) : t.canonical = true := by
  obtain ⟨hregs, hflash, hsram, hbrk⟩ := (canonical_iff s).mp h
  exact (canonical_iff t).mpr ⟨k.regs hregs, k.flash hflash, k.sram hsram, k.brk hbrk⟩

end Sys2Proof.Machine
end

section
/-! The statements about every step, about a stop, and about the state after a power-on reset. -/
open Sys2Proof Sys2Proof.Machine

/-- Settles O7, from what each command and an instant keep. -/
theorem stepKeepsCanonical : Obligations.StepKeepsCanonical := by
  intro s t hs h
  cases hp : s.pending with
  | nil => exact (step_keeps_nil hp h).canonical hs
  | cons c rest => exact (step_keeps_cons hp h).canonical hs

/-- Settles O3: the meaning of every command is a next state. -/
theorem execNeverStops : Obligations.ExecNeverStops := by
  intro c s
  cases c <;> exact ⟨_, rfl⟩

/-- Settles O6, by evaluation of the one state. -/
theorem resetSound : Obligations.ResetSound := by
  unfold Obligations.ResetSound
  decide

/-- After a power-on reset only two registers are listed with a word of their own. -/
theorem reset_reg_of_ne {a : Nat} (hc : a ≠ RPC_RST_CAUSE) (hm : a ≠ MTR_STAT) : State.reset.reg a = regReset a := by
  have hnone : findReg a State.reset.regs = none := by
    refine findReg_of_absent a _ ?_
    simp only [State.reset, List.mem_cons, List.not_mem_nil, or_false, forall_eq_or_imp, forall_eq]
    exact ⟨Ne.symm hc, Ne.symm hm⟩
  simp only [State.reg, hnone]

/-- Settles O5: no other register is listed, and the rest is the one state evaluated. -/
theorem resetValues : Obligations.ResetValues :=
  ⟨fun _ hc hm => reset_reg_of_ne hc hm, by decide⟩
end

section
namespace Sys2Proof.Machine

/-! ### Fields of a table, bit by bit -/

/-- Bit `i` lies in the field. -/
def FieldSpec.has (f : FieldSpec) (i : Nat) : Bool := decide (f.lo ≤ i) && decide (i < f.lo + f.width)

theorem FieldSpec.has_iff (f : FieldSpec) (i : Nat) : f.has i = true ↔ f.lo ≤ i ∧ i < f.lo + f.width := by
  simp [FieldSpec.has]

theorem FieldSpec.getLsbD_mask (f : FieldSpec) {i : Nat} (hi : i < 32) : f.mask.getLsbD i = f.has i := by
  simp [FieldSpec.mask, FieldSpec.has, getLsbD_maskAt _ _ _ hi]

/-- Two fields share no bit. -/
def FieldSpec.apart (f g : FieldSpec) : Bool := decide (f.lo + f.width ≤ g.lo) || decide (g.lo + g.width ≤ f.lo)

/-- A field table names bits of one word, each in one field at most. -/
def tableOk (fs : List FieldSpec) : Bool :=
  fs.all (fun f => decide (f.lo + f.width ≤ 32)) && decide (fs.Pairwise (fun f g => f.apart g = true))

/-- The blocks' register lists. -/
def allBlocks : List (List RegDef) := [glbRegs, rpcRegs, otpRegs, stmRegs, bkdRegs, bndRegs, brkRegs, vcpRegs, seqRegs, msrRegs,
  thmRegs, celRegs, cpmRegs, mtrRegs, jnlRegs, lnkRegs, icuRegs, wdgRegs, hstRegs]

theorem blockRegs_mem (b : Nat) : blockRegs b = [] ∨ blockRegs b ∈ allBlocks := by
  unfold blockRegs
  split <;> simp [allBlocks]

/-- What holds of every register definition of the map holds of the one that covers an address. -/
theorem forall_regDefOf {P : RegDef → Bool} (h : allBlocks.all (fun l => l.all P) = true) {a : Nat} {d : RegDef}
    (hd : regDefOf a = some d) : P d = true := by
  have hmem : d ∈ blockRegs (a / 0x10000) := List.mem_of_find?_eq_some hd
  rcases blockRegs_mem (a / 0x10000) with hb | hb
  · simp [hb] at hmem
  · exact List.all_eq_true.mp (List.all_eq_true.mp h _ hb) _ hmem

theorem tableOk_fieldsOf (a : Nat) : tableOk (fieldsOf a) = true := by
  unfold fieldsOf
  split
  · next d hd => exact forall_regDefOf (P := fun d => tableOk d.fields) (by decide) hd
  · rfl

theorem lo_add_width_le {a : Nat} {f : FieldSpec} (hf : f ∈ fieldsOf a) : f.lo + f.width ≤ 32 := by
  have h := tableOk_fieldsOf a
  simp only [tableOk, Bool.and_eq_true, List.all_eq_true, decide_eq_true_eq] at h
  exact h.1 f hf

theorem lt_32_of_has {a i : Nat} {f : FieldSpec} (hf : f ∈ fieldsOf a) (hi : f.has i = true) : i < 32 := by
  have := lo_add_width_le hf
  have := (f.has_iff i).mp hi
  omega

/-- Two fields of a register that share a bit are one. -/
theorem eq_of_has {a i : Nat} {f g : FieldSpec} (hf : f ∈ fieldsOf a) (hg : g ∈ fieldsOf a) (hfi : f.has i = true)
    (hgi : g.has i = true) : g = f := by
  have h := tableOk_fieldsOf a
  simp only [tableOk, Bool.and_eq_true, decide_eq_true_eq] at h
  have hsymm : Std.Symm (fun f g : FieldSpec => f.apart g = true) := ⟨fun f g hfg => by rwa [FieldSpec.apart, Bool.or_comm]⟩
  by_contra hne
  have hapart := h.2.forall hf hg (Ne.symm hne)
  simp only [FieldSpec.apart, Bool.or_eq_true, decide_eq_true_eq] at hapart
  rw [FieldSpec.has_iff] at hfi hgi
  omega

theorem getLsbD_foldl_mask (p : FieldSpec → Bool) (fs : List FieldSpec) (m : Word) {i : Nat} (hi : i < 32) :
    (fs.foldl (fun m f => if p f then m ||| f.mask else m) m).getLsbD i = (m.getLsbD i || fs.any (fun f => p f && f.has i)) := by
  induction fs generalizing m with
  | nil => simp
  | cons f r ih =>
    rw [List.foldl_cons, ih, List.any_cons]
    cases hp : p f <;> simp [f.getLsbD_mask hi, Bool.or_assoc]

theorem getLsbD_maskOf (p : FieldSpec → Bool) (fs : List FieldSpec) {i : Nat} (hi : i < 32) :
    (maskOf p fs).getLsbD i = fs.any (fun f => p f && f.has i) := by
  simp [maskOf, getLsbD_foldl_mask p fs _ hi]

/-- Of the bits of a register's field, a mask of the table holds all or none. -/
theorem getLsbD_maskOf_of_has (p : FieldSpec → Bool) {a i : Nat} {f : FieldSpec} (hf : f ∈ fieldsOf a) (hi : f.has i = true) :
    (maskOf p (fieldsOf a)).getLsbD i = p f := by
  rw [getLsbD_maskOf p _ (lt_32_of_has hf hi), Bool.eq_iff_iff, List.any_eq_true]
  constructor
  · rintro ⟨g, hg, hpg⟩
    rw [Bool.and_eq_true] at hpg
    rw [← eq_of_has hf hg hi hpg.2]
    exact hpg.1
  · exact fun hp => ⟨f, hf, by simp [hp, hi]⟩

/-- Beside the fields it holds nothing. -/
theorem getLsbD_maskOf_of_none (p : FieldSpec → Bool) {fs : List FieldSpec} {i : Nat} (hi : ∀ f ∈ fs, f.has i = false) :
    (maskOf p fs).getLsbD i = false := by
  by_cases h32 : i < 32
  · rw [getLsbD_maskOf p _ h32, List.any_eq_false]
    exact fun f hf => by simp [hi f hf]
  · exact BitVec.getLsbD_of_ge _ _ (by omega)

/-- What a bit of a field of each type takes from an accepted write (Table — Field types). -/
def Kind.writtenBit (k : Kind) (old new : Bool) : Bool :=
  match k with
  | .rw => new
  | .rw1c => old && !new
  | .rws => old || new
  | .ro => old
  | .wo => old

theorem getLsbD_writtenWord (fs : List FieldSpec) (old w : Word) {i : Nat} (hi : i < 32) :
    (writtenWord fs old w).getLsbD i =
      ((old.getLsbD i && !(maskOf (fun f => f.kind == .rw) fs).getLsbD i || w.getLsbD i && (maskOf (fun f => f.kind == .rw) fs).getLsbD i) &&
        !(w.getLsbD i && (maskOf (fun f => f.kind == .rw1c) fs).getLsbD i) || w.getLsbD i && (maskOf (fun f => f.kind == .rws) fs).getLsbD i) := by
  simp [writtenWord, hi]

theorem getLsbD_writtenWord_of_has (old w : Word) {a i : Nat} {f : FieldSpec} (hf : f ∈ fieldsOf a) (hi : f.has i = true) :
    (writtenWord (fieldsOf a) old w).getLsbD i = f.kind.writtenBit (old.getLsbD i) (w.getLsbD i) := by
  rw [getLsbD_writtenWord _ _ _ (lt_32_of_has hf hi), getLsbD_maskOf_of_has _ hf hi, getLsbD_maskOf_of_has _ hf hi,
    getLsbD_maskOf_of_has _ hf hi]
  cases f.kind <;> cases old.getLsbD i <;> cases w.getLsbD i <;> rfl

theorem getLsbD_writtenWord_of_none (old w : Word) {fs : List FieldSpec} {i : Nat} (hi : ∀ f ∈ fs, f.has i = false) :
    (writtenWord fs old w).getLsbD i = old.getLsbD i := by
  by_cases h32 : i < 32
  · rw [getLsbD_writtenWord _ _ _ h32, getLsbD_maskOf_of_none _ hi, getLsbD_maskOf_of_none _ hi, getLsbD_maskOf_of_none _ hi]
    simp
  · rw [BitVec.getLsbD_of_ge _ _ (by omega), BitVec.getLsbD_of_ge _ _ (by omega)]

/-! ### Reset words and restores, bit by bit -/

theorem getLsbD_foldl_reset (fs : List FieldSpec) (m : Word) {i : Nat} (hi : i < 32) :
    (fs.foldl (fun m f => m ||| BitVec.ofNat 32 ((f.reset % 2 ^ f.width) <<< f.lo)) m).getLsbD i =
      (m.getLsbD i || fs.any (fun f => f.has i && f.reset.testBit (i - f.lo))) := by
  induction fs generalizing m with
  | nil => simp
  | cons f r ih =>
    rw [List.foldl_cons, ih, List.any_cons]
    have hbit : (BitVec.ofNat 32 ((f.reset % 2 ^ f.width) <<< f.lo)).getLsbD i = (f.has i && f.reset.testBit (i - f.lo)) := by
      simp only [BitVec.getLsbD_ofNat, hi, Nat.testBit_shiftLeft, Nat.testBit_mod_two_pow, FieldSpec.has]
      by_cases hlo : f.lo ≤ i
      · have : (i - f.lo < f.width) ↔ i < f.lo + f.width := by omega
        simp [hlo, this]
      · simp [hlo]
    simp [hbit, Bool.or_assoc]

/-- A bit of a field of a register's reset word is that of the field's reset value. -/
theorem getLsbD_regReset {a i : Nat} {f : FieldSpec} (hf : f ∈ fieldsOf a) (hi : f.has i = true) :
    (regReset a).getLsbD i = f.reset.testBit (i - f.lo) := by
  rw [regReset, resetOf, getLsbD_foldl_reset _ _ (lt_32_of_has hf hi), Bool.eq_iff_iff]
  simp only [BitVec.getLsbD_zero, Bool.false_or, List.any_eq_true, Bool.and_eq_true]
  constructor
  · rintro ⟨g, hg, hgi, hbit⟩
    rwa [← eq_of_has hf hg hi hgi]
  · exact fun hbit => ⟨f, hf, hi, hbit⟩

/-- A restore at a level gives a bit of a field its reset value, or leaves it, by the field's level (R7). -/
theorem getLsbD_restoredWord (lvl : Nat) (w : Word) {a i : Nat} {f : FieldSpec} (hf : f ∈ fieldsOf a) (hi : f.has i = true) :
    (restoredWord lvl a w).getLsbD i = if lvl ≤ f.level then f.reset.testBit (i - f.lo) else w.getLsbD i := by
  simp only [restoredWord, BitVec.getLsbD_or, BitVec.getLsbD_and, BitVec.getLsbD_not, lt_32_of_has hf hi,
    getLsbD_maskOf_of_has _ hf hi, getLsbD_regReset hf hi, restoredAt]
  by_cases h : lvl ≤ f.level <;> simp [h]

theorem restoredWord_regReset (lvl a : Nat) : restoredWord lvl a (regReset a) = regReset a := by
  apply BitVec.eq_of_getLsbD_eq
  intro i hi
  simp only [restoredWord, BitVec.getLsbD_or, BitVec.getLsbD_and, BitVec.getLsbD_not, hi]
  cases (regReset a).getLsbD i <;> simp

end Sys2Proof.Machine
end

section
namespace Sys2Proof.Machine

/-! ### The registers after a restore -/

/-- One listed word rewritten where its register is selected, and dropped where that gives its reset word. -/
def rewrittenEntry (g : Nat → Word → Word) (p : Nat → Bool) (e : Nat × Word) : Option (Nat × Word) :=
  if p e.1 then (if g e.1 e.2 = regReset e.1 then none else some (e.1, g e.1 e.2)) else some e

theorem restore_regs (lvl : Nat) (p : Nat → Bool) (s : State) :
    (s.restore lvl p).regs = s.regs.filterMap (rewrittenEntry (restoredWord lvl) p) := rfl

theorem fst_rewrittenEntry {g : Nat → Word → Word} {p : Nat → Bool} {e x : Nat × Word} (h : rewrittenEntry g p e = some x) :
    x.1 = e.1 := by
  unfold rewrittenEntry at h
  split at h
  · split at h
    · cases h
    · cases h; rfl
  · cases h; rfl

/-- A listed register with a word of its own reads that word, one listed nowhere its reset word. -/
theorem findReg_rewritten {g : Nat → Word → Word} (hg : ∀ a, g a (regReset a) = regReset a) (p : Nat → Bool) (a : Nat)
    (l : List (Nat × Word)) (h : Registers.wf l = true) : (findReg a (l.filterMap (rewrittenEntry g p))).getD (regReset a) =
      if p a then g a ((findReg a l).getD (regReset a)) else (findReg a l).getD (regReset a) := by
  rw [Registers.wf_iff] at h
  obtain ⟨hsorted, -⟩ := h
  induction l with
  | nil => simp [findReg, hg]
  | cons e r ih =>
    rw [List.pairwise_cons] at hsorted
    obtain ⟨hhead, htail⟩ := hsorted
    by_cases hea : e.1 = a
    · subst hea
      have habsent : findReg e.1 (r.filterMap (rewrittenEntry g p)) = none := by
        refine findReg_of_absent _ _ fun c hc => ?_
        obtain ⟨x, hx, hxc⟩ := List.mem_filterMap.mp hc
        rw [fst_rewrittenEntry hxc]
        exact Nat.ne_of_gt (hhead x hx)
      by_cases hp : p e.1 = true
      · by_cases hv : g e.1 e.2 = regReset e.1 <;> simp [findReg, rewrittenEntry, hp, hv, habsent]
      · simp [findReg, rewrittenEntry, hp]
    · rw [show findReg a (e :: r) = findReg a r from if_neg hea, ← ih htail, List.filterMap_cons]
      cases hx : rewrittenEntry g p e with
      | none => rfl
      | some x => rw [show findReg a (x :: r.filterMap (rewrittenEntry g p)) = findReg a (r.filterMap (rewrittenEntry g p)) from
          if_neg (fst_rewrittenEntry hx ▸ hea)]

theorem State.reg_eq_getD (s : State) (a : Nat) : s.reg a = (findReg a s.regs).getD (regReset a) := by
  unfold State.reg
  cases findReg a s.regs <;> rfl

/-- A restore gives every selected register its restored word and leaves the others. -/
theorem State.reg_restore (lvl : Nat) (p : Nat → Bool) (s : State) (h : Registers.wf s.regs = true) (a : Nat) :
    (s.restore lvl p).reg a = if p a then restoredWord lvl a (s.reg a) else s.reg a := by
  rw [State.reg_eq_getD, State.reg_eq_getD, restore_regs, findReg_rewritten (restoredWord_regReset lvl) p a _ h]

/-- Bit by bit: a field of the level or a stronger one has its reset value, every other field what it had. -/
theorem State.getLsbD_reg_restore (lvl : Nat) {p : Nat → Bool} (s : State) (h : Registers.wf s.regs = true) {a i : Nat}
    (ha : p a = true) {f : FieldSpec} (hf : f ∈ fieldsOf a) (hi : f.has i = true) :
    ((s.restore lvl p).reg a).getLsbD i = if lvl ≤ f.level then f.reset.testBit (i - f.lo) else (s.reg a).getLsbD i := by
  rw [State.reg_restore lvl p s h, if_pos ha, getLsbD_restoredWord lvl _ hf hi]

/-! ### Arrays of registers -/

theorem named_cons (b : Nat) (l : List Nat) (a : Nat) : named (b :: l) a = (named [b] a || named l a) := by
  simp [named]

theorem named_iff (l : List Nat) (a : Nat) : named l a = true ↔ ∃ b ∈ l, named [b] a = true := by
  simp [named]

theorem named_single {b a : Nat} {d : RegDef} (hd : regDefOf b = some d) : named [b] a = d.covers a := by
  simp [named, hd]

theorem named_mono {l m : List Nat} (h : l ⊆ m) {a : Nat} (ha : named l a = true) : named m a = true := by
  rw [named_iff] at ha ⊢
  obtain ⟨b, hb, hba⟩ := ha
  exact ⟨b, h hb, hba⟩

theorem named_self {l : List Nat} {b : Nat} (hb : b ∈ l) (h : named [b] b = true) : named l b = true :=
  (named_iff l b).mpr ⟨b, hb, h⟩

/-- An array of registers with no inner one covers each of its registers. -/
theorem RegDef.covers_add {d : RegDef} {i : Nat} (hi : i < d.count) (hs : 0 < d.stride) (hc : 0 < d.count2) :
    d.covers (d.base + d.stride * i) = true := by
  simp [RegDef.covers, hs, hi, hc]

theorem RegDef.covers_add_add {d : RegDef} {i j : Nat} (hi : i < d.count) (hj : j < d.count2) (hs : 0 < d.stride2)
    (hin : d.stride2 * d.count2 ≤ d.stride) : d.covers (d.base + d.stride * i + d.stride2 * j) = true := by
  have hlt : d.stride2 * j < d.stride := lt_of_lt_of_le (Nat.mul_lt_mul_of_pos_left hj hs) hin
  have hmod : (d.stride * i + d.stride2 * j) % d.stride = d.stride2 * j := by
    rw [Nat.mul_add_mod, Nat.mod_eq_of_lt hlt]
  have hdiv : (d.stride * i + d.stride2 * j) / d.stride = i := by
    rw [Nat.mul_add_div (by omega), Nat.div_eq_of_lt hlt, Nat.add_zero]
  rw [RegDef.covers, Nat.add_assoc]
  simp [hmod, hdiv, hi, hj, hs]

end Sys2Proof.Machine
end

section
namespace Sys2Proof.Machine

/-! ### Registers that only hold their fields -/

/-- The registers defined at `b` are `count` words from there, `stride` apart. -/
def isArrayAt (b stride count : Nat) : Bool :=
  match regDefOf b with
  | some d => decide (d.base = b) && decide (d.stride = stride) && decide (d.count = count) && decide (0 < d.count2)
  | none => false

theorem named_of_isArr {b stride count a : Nat} (hb : isArrayAt b stride count = true) (h : isArr b stride count a = true) :
    named [b] a = true := by
  unfold isArrayAt at hb
  split at hb
  · next d hd =>
    simp only [Bool.and_eq_true, decide_eq_true_eq] at hb
    obtain ⟨⟨⟨rfl, rfl⟩, rfl⟩, hc⟩ := hb
    simp only [isArr, Bool.and_eq_true, decide_eq_true_eq] at h
    obtain ⟨⟨hle, hmod⟩, hdiv⟩ := h
    simp [named_single hd, RegDef.covers, hle, hmod, hdiv, hc]
  · cases hb

/-- The address is of none of the registers with an effect beside their fields. -/
structure Plain (a : Nat) : Prop where
  aligned : a % 4 = 0
  notActing : named actingRegs a = false

theorem Plain.ne {a b : Nat} (h : Plain a) (hb : b ∈ actingRegs) (hbb : named [b] b = true) : a ≠ b := by
  rintro rfl
  have := named_mono (List.cons_subset.mpr ⟨hb, List.nil_subset _⟩) hbb
  rw [h.notActing] at this
  cases this

theorem Plain.not_isArr {a b stride count : Nat} (h : Plain a) (hb : b ∈ actingRegs) (harr : isArrayAt b stride count = true) :
    isArr b stride count a = false := by
  by_contra hisArr
  have := named_mono (List.cons_subset.mpr ⟨hb, List.nil_subset _⟩) (named_of_isArr harr (by simpa using hisArr))
  rw [h.notActing] at this
  cases this

/-- On the bricks' page the offset within a brick is none of an acting register's. -/
theorem Plain.offset_ne {a b : Nat} (h : Plain a) (hpage : a / 0x10000 = 0x10) (hb : b ∈ actingRegs)
    (harr : isArrayAt b 0x1000 16 = true) (hb0 : b / 0x1000 = 0x100) : a % 0x1000 ≠ b % 0x1000 := by
  have hn := h.not_isArr hb harr
  simp only [isArr, Bool.and_eq_false_iff, decide_eq_false_iff_not] at hn
  omega

/-- The words from 0x100 to 0x12C of a brick are its compensator's, all of them acting. -/
theorem Plain.offset_comp {a : Nat} (h : Plain a) (hpage : a / 0x10000 = 0x10) : ¬(0x100 ≤ a % 0x1000 ∧ a % 0x1000 ≤ 0x12C) := by
  rintro ⟨hlo, hhi⟩
  have hcomp : ¬ a % 0x1000 ≤ 0x120 := by
    intro h120
    have hcov : named [BRK_COMP 0 0] a = true := by
      rw [named_single (d := ⟨0x100100, 0x1000, 16, 0x4, 9, [⟨24, 8, .rw, 0x0, 3, []⟩, ⟨0, 24, .rw, 0x0, 3, []⟩]⟩) (by decide)]
      have := h.aligned
      simp only [RegDef.covers, Bool.and_eq_true, decide_eq_true_eq]
      omega
    have := named_mono (m := actingRegs) (List.cons_subset.mpr ⟨by decide, List.nil_subset _⟩) hcov
    rw [h.notActing] at this
    cases this
  have hthr := h.offset_ne hpage (b := BRK_COMP_BST_THR 0) (by decide) (by decide) (by decide)
  have hmin := h.offset_ne hpage (b := BRK_COMP_CMD_MIN 0) (by decide) (by decide) (by decide)
  have hmax := h.offset_ne hpage (b := BRK_COMP_CMD_MAX 0) (by decide) (by decide) (by decide)
  have := h.aligned
  simp only [BRK_COMP_BST_THR, BRK_COMP_CMD_MIN, BRK_COMP_CMD_MAX] at hthr hmin hmax
  omega

theorem Plain.brkWritten {a : Nat} (h : Plain a) (hpage : a / 0x10000 = 0x10) (p : Path) (w : Word) (s : State) :
    s.brkWritten p a w = s := by
  have htarget := h.offset_ne hpage (b := BRK_TARGET 0) (by decide) (by decide) (by decide)
  have hctrl := h.offset_ne hpage (b := BRK_CTRL 0) (by decide) (by decide) (by decide)
  have hfast := h.offset_ne hpage (b := BRK_FAST 0) (by decide) (by decide) (by decide)
  have hslow := h.offset_ne hpage (b := BRK_SLOW 0) (by decide) (by decide) (by decide)
  have hi2t := h.offset_ne hpage (b := BRK_I2T_LIMIT 0) (by decide) (by decide) (by decide)
  have hlane := h.offset_ne hpage (b := BRK_LANE_CTRL 0) (by decide) (by decide) (by decide)
  simp only [BRK_TARGET, BRK_CTRL, BRK_FAST, BRK_SLOW, BRK_I2T_LIMIT, BRK_LANE_CTRL] at htarget hctrl hfast hslow hi2t hlane
  simp only [State.brkWritten, if_neg htarget, if_neg (h.offset_comp hpage), if_neg hctrl, if_neg hlane,
    if_neg (show ¬(a % 0x1000 = 0x220 ∨ a % 0x1000 = 0x224 ∨ a % 0x1000 = 0x228) by omega)]

/-- Writing such a register does nothing beside storing its word. -/
theorem Plain.written {a : Nat} (h : Plain a) (p : Path) (old w : Word) (side : Side) (s : State) :
    s.written p a old w side = s := by
  have ne (b : Nat) (hb : b ∈ actingRegs) (hbb : named [b] b = true) : a ≠ b := h.ne hb hbb
  unfold State.written
  split
  · rw [if_neg (ne GLB_PWR_CTRL (by decide) (by decide))]
  · rw [if_neg (ne RPC_SWRST (by decide) (by decide)), if_neg (ne RPC_UPD_CTRL (by decide) (by decide)),
      if_neg (ne RPC_UPD_DATA (by decide) (by decide))]
  · rw [if_neg (ne OTP_CTRL (by decide) (by decide))]
  · rw [if_neg (ne STM_CTRL (by decide) (by decide))]
  · rw [State.bkdWritten, if_neg (ne RTC_CTRL (by decide) (by decide)), if_neg (ne EVT_STAT (by decide) (by decide))]
  · rw [if_neg (ne BND_CTRL (by decide) (by decide)), if_neg (ne BND_DATA (by decide) (by decide))]
  · next hpage => exact h.brkWritten hpage p w s
  · rw [if_neg (ne VCP_CTRL (by decide) (by decide))]
  · rw [State.seqWritten, if_neg (ne SEQ_CTRL (by decide) (by decide)), if_neg (ne SEQ_CMD (by decide) (by decide)),
      if_neg (by simp [h.not_isArr (b := SEQ_RAIL_MRG 0) (stride := 0x10) (count := 21) (by decide) (by decide)])]
  · rw [State.msrWritten, if_neg (ne MSR_CTRL (by decide) (by decide)), if_neg (ne MSR_CELL_CFG (by decide) (by decide)),
      if_neg (ne MSR_TDAC (by decide) (by decide)),
      if_neg (by simp [h.not_isArr (b := MSR_DMA_CFG 0) (stride := 0x20) (count := 16) (by decide) (by decide)])]
  · rw [if_neg (ne CEL_CTRL (by decide) (by decide))]
  · rw [if_neg (ne CPM_CTRL (by decide) (by decide)), if_neg (ne CPM_PP_CTRL (by decide) (by decide))]
  · rw [State.mtrWritten, if_neg (ne MTR_CTRL (by decide) (by decide)), if_neg (ne MTR_COUCH_CTRL (by decide) (by decide))]
  · rfl
  · rw [State.lnkWritten, if_neg (ne LNK_CTRL (by decide) (by decide)), if_neg (ne LNK_RA_CTRL (by decide) (by decide)),
      if_neg (by simp [h.not_isArr (b := LNK_RA_STAT 0) (stride := 4) (count := 32) (by decide) (by decide)]),
      if_neg (ne LNK_DIST_CTRL (by decide) (by decide))]
  · rw [State.icuWritten, if_neg (ne ICU_DOORBELL (by decide) (by decide)), if_neg (ne ICU_CTRL (by decide) (by decide)),
      if_neg (by simp [h.not_isArr (b := ICU_HOLD 0) (stride := 4) (count := 32) (by decide) (by decide)]),
      if_neg (by simp [h.not_isArr (b := ICU_SRC 0) (stride := 4) (count := 1024) (by decide) (by decide)])]
  · rw [State.wdgWritten, if_neg (ne WDG_CTRL (by decide) (by decide)), if_neg (ne WDG_CHECKIN (by decide) (by decide))]
  · rw [State.hstWritten, if_neg (ne HST_CTRL (by decide) (by decide)), if_neg (ne HST_GPIO_OUT (by decide) (by decide))]
  · rfl

theorem Plain.ownStore {a : Nat} (h : Plain a) : ownStore a = false := by
  have hbrk : ¬(a / 0x10000 = 0x10 ∧ (a % 0x1000 = 0x18 ∨ 0x100 ≤ a % 0x1000 ∧ a % 0x1000 ≤ 0x12C)) := by
    rintro ⟨hpage, ho | ho⟩
    · exact h.offset_ne hpage (b := BRK_TARGET 0) (by decide) (by decide) (by decide) ho
    · exact h.offset_comp hpage ho
  have hseq := h.ne (b := SEQ_CMD) (by decide) (by decide)
  have hjnl := h.ne (b := JNL_RD_SLOT) (by decide) (by decide)
  have hicu := h.not_isArr (b := ICU_SRC 0) (stride := 4) (count := 1024) (by decide) (by decide)
  simp only [Machine.ownStore, hicu, Bool.or_false, Bool.or_eq_false_iff, beq_eq_false_iff_ne]
  exact ⟨⟨by simpa using hbrk, hseq⟩, hjnl⟩

/-! ### Writes on a path -/

/-- What a spi transaction's end changes is what the port tells. -/
theorem State.spiEnd_eq (status : Byte) (dout : List Word) (bus late frame : Bool) (s : State) :
    s.spiEnd status dout bus late frame = { s with hst := (s.spiEnd status dout bus late frame).hst } := by
  unfold State.spiEnd
  split
  · rfl
  · rfl

/-- A write on any path is the bus's, and what a host port tells of its transaction. -/
theorem State.writeRow_eq (p : Path) (a w : Word) (side : Side) (s : State) :
    s.writeRow p a w side = { s.busWrite p a w side with hst := (s.writeRow p a w side).hst } := by
  cases p with
  | spi =>
    unfold State.writeRow
    dsimp only
    split
    · exact State.spiEnd_eq _ _ _ _ _ _
    · rfl
  | i2c =>
    unfold State.writeRow
    dsimp only
    split
    · rfl
    · rfl
  | link | sup | svc0 | svc1 => rfl

theorem State.writeRow_of_portParts {p : Path} (h : portParts p = []) (a w : Word) (side : Side) (s : State) :
    s.writeRow p a w side = s.busWrite p a w side := by
  cases p with
  | spi | i2c => cases h
  | link | sup | svc0 | svc1 => rfl

theorem exec_registerWrite (p : Path) (a w : Word) (s : State) :
    exec (.registerWrite p a w) s = .next (s.writeRow p a w Side.untold) := rfl

/-- A register with a field lies in the registers' window. -/
theorem windowOf_of_fields {a : Nat} (h : fieldsOf a ≠ []) : windowOf a = some .regs := by
  have hpage : blockRegs (a / 0x10000) ≠ [] := by
    intro hb
    simp [fieldsOf, regDefOf, hb] at h
  unfold windowOf
  dsimp only
  rw [if_pos]
  by_contra hno
  apply hpage
  unfold blockRegs
  split <;> first | omega | rfl

theorem ne_nil_of_writable {a : Nat} (h : (fieldsOf a).any FieldSpec.writable = true) : fieldsOf a ≠ [] := by
  intro hnil
  simp [hnil] at h

/-- An access without a bus fault is aligned. -/
theorem State.aligned_of_busFault {s : State} {p : Path} {write : Bool} {a : Nat} (h : s.busFault p write a = none) : a % 4 = 0 := by
  by_contra ha
  simp [State.busFault, ha] at h

/-- An access that the bus carries out at a register. -/
theorem State.busWrite_regs {s : State} {p : Path} {a : Word} (w : Word) (side : Side) (hans : s.answers p = true)
    (hbus : s.busFault p true a.toNat = none) (hwin : windowOf a.toNat = some .regs) :
    s.busWrite p a w side = s.regWrite p a.toNat w side := by
  simp [State.busWrite, hans, hbus, hwin]

theorem not_and_of_powered {P : Prop} {b : Bool} (h : P → b = true) : (P ∧ (!b) = true) = False := by
  simp only [Bool.not_eq_true', eq_iff_iff, iff_false, not_and, Bool.not_eq_false]
  exact h

/-- An accepted write. -/
theorem State.regWrite_accepted {s : State} {p : Path} {a : Nat} {w : Word} (side : Side)
    (hwr : (fieldsOf a).any FieldSpec.writable = true) (hbak : a / 0x10000 = 4 → s.bkd.powered = true)
    (hok : lowest (reservedBit (fieldsOf a) w) (s.refused p a w) = none) (hslot : a ≠ JNL_RD_SLOT) :
    s.regWrite p a w side =
      (if ownStore a then s else s.setReg a (writtenWord (fieldsOf a) (s.reg a) w)).written p a (s.reg a) w side := by
  simp only [State.regWrite, hwr, Bool.not_true, not_and_of_powered hbak, hok, hslot, if_false, Bool.false_eq_true]

/-- A write turned away as a whole. -/
theorem State.regWrite_refused {s : State} {p : Path} {a b : Nat} {w : Word} (side : Side)
    (hwr : (fieldsOf a).any FieldSpec.writable = true) (hbak : a / 0x10000 = 4 → s.bkd.powered = true)
    (hbad : lowest (reservedBit (fieldsOf a) w) (s.refused p a w) = some b) : s.regWrite p a w side = s.cfgErr a b := by
  simp only [State.regWrite, hwr, Bool.not_true, not_and_of_powered hbak, hbad, if_false, Bool.false_eq_true]

/-- An accepted write of a register that only holds its fields stores its word and does nothing else. -/
theorem State.regWrite_plain {s : State} {p : Path} {a : Nat} {w : Word} (side : Side) (h : Plain a)
    (hwr : (fieldsOf a).any FieldSpec.writable = true) (hbak : a / 0x10000 = 4 → s.bkd.powered = true)
    (hres : reservedBit (fieldsOf a) w = none) (href : s.refused p a w = none) :
    s.regWrite p a w side = s.setReg a (writtenWord (fieldsOf a) (s.reg a) w) := by
  rw [State.regWrite_accepted side hwr hbak (by rw [hres, href]; rfl) (h.ne (by decide) (by decide)), h.ownStore, h.written]
  rfl

end Sys2Proof.Machine

open Sys2Proof Sys2Proof.Machine

/-- Settles O13: the word stored is the written word of the field table, and a register that is not acting does nothing else. -/
theorem plainRegisterWrite : Obligations.PlainRegisterWrite := by
  intro s p a w hact hbak hans hbus hres href hwr
  have hplain : Plain a.toNat := ⟨State.aligned_of_busFault hbus, hact⟩
  have hwrite := State.busWrite_regs w Side.untold hans hbus (windowOf_of_fields (ne_nil_of_writable hwr))
  rw [State.regWrite_plain _ hplain hwr hbak hres href] at hwrite
  have heq := State.writeRow_eq p a w Side.untold s
  have hport (h : portParts p = []) := congrArg State.hst (State.writeRow_of_portParts h a w Side.untold s)
  rw [hwrite] at heq hport
  refine ⟨_, _, congrArg Host.Outcome.next heq, hport, fun f hf i hlo hhi => ?_, fun i hnone => ?_⟩
  · rw [getLsbD_writtenWord_of_has _ _ hf ((f.has_iff i).mpr ⟨hlo, hhi⟩)]
    cases f.kind <;> rfl
  · refine getLsbD_writtenWord_of_none _ _ fun f hf => ?_
    rw [Bool.eq_false_iff, Ne, FieldSpec.has_iff]
    exact hnone f hf
end

section
namespace Sys2Proof.Machine

/-! ### Writes that nothing takes -/

theorem any_writable_eq_false {fs : List FieldSpec} (h : ∀ f ∈ fs, f.kind = .ro) : fs.any FieldSpec.writable = false := by
  rw [List.any_eq_false]
  exact fun f hf => by simp [FieldSpec.writable, h f hf]

/-- A write at a register none of whose fields takes one. -/
theorem State.busWrite_of_ro {s : State} {p : Path} {a : Word} (w : Word) (side : Side) (hbus : s.busFault p true a.toNat = none)
    (hwin : windowOf a.toNat = some .regs) (hro : ∀ f ∈ fieldsOf a.toNat, f.kind = .ro) : s.busWrite p a w side = s := by
  by_cases hans : s.answers p = true
  · rw [State.busWrite_regs w side hans hbus hwin]
    simp [State.regWrite, any_writable_eq_false hro]
  · simp [State.busWrite, hans]

/-- A path that is not carried out: no write has an effect, no read freezes anything. -/
theorem State.writeRow_of_silent {s : State} {p : Path} (h : s.answers p = false) (a w : Word) (side : Side) :
    s.writeRow p a w side = s := by
  have hbus : s.busWrite p a w side = s := by simp [State.busWrite, h]
  cases p <;> simp [State.writeRow, hbus, h]

theorem State.busRead_of_silent {s : State} {p : Path} (h : s.answers p = false) (a : Word) : s.busRead p a = (0, s) := by
  simp [State.busRead, h]

/-- When the two host ports do not answer (R107, R430, R444). -/
theorem State.hostPort_silent {s : State} {p : Path} (hp : p = .spi ∨ p = .i2c) (h : s.boot.power = .off ∨ s.boot.power = .dormant ∨
    s.boot.power = .standby ∨ s.boot.restart = some 2 ∨ (s.boot.power = .starting ∧ s.boot.phase < 4)) : s.answers p = false := by
  have hport : s.answers p = ((s.active || (s.boot.power == .starting && decide (4 ≤ s.boot.phase))) && s.boot.restart != some 2) := by
    rcases hp with rfl | rfl <;> rfl
  rw [hport]
  rcases h with h | h | h | h | ⟨h, hphase⟩
  · simp [State.active, h]
  · simp [State.active, h]
  · simp [State.active, h]
  · simp [h]
  · simp [State.active, h, hphase]

end Sys2Proof.Machine

open Sys2Proof Sys2Proof.Machine

/-- Settles O14: a register without a writable field ignores the write, and a silent port carries out none. -/
theorem writesWithoutEffect : Obligations.WritesWithoutEffect := by
  refine ⟨fun s p a w hbus hwin hro => ?_, fun s p a w hp hoff => ?_⟩
  · have hwrite := State.busWrite_of_ro w Side.untold hbus hwin hro
    have heq := State.writeRow_eq p a w Side.untold s
    have hport (h : portParts p = []) := congrArg State.hst (State.writeRow_of_portParts h a w Side.untold s)
    rw [hwrite] at heq hport
    exact ⟨_, congrArg Host.Outcome.next heq, hport⟩
  · have hsilent := State.hostPort_silent hp hoff
    exact ⟨congrArg Host.Outcome.next (State.writeRow_of_silent hsilent a w Side.untold), State.busRead_of_silent hsilent a⟩
end

section
namespace Sys2Proof.Machine

/-! ### A restart in the middle of an impedance sweep -/

/-- The window of frequency 0 in progress, excited by the device itself. -/
def sweepWindow : Window := ⟨0, 0, true, true, 0, 0, 0, [], 0, [], (0, 0)⟩

/-- Idle in the middle of a sweep, RST_MAP giving a software reset the level L3. -/
def midSweep : State := { State.reset with
  boot := { Boot.initial with power := .active, rstMap := 0x30 }
  cel := { Cel.initial with window := some sweepWindow }
  regs := (State.reset.setFld CEL_STAT_SWEEP 1).regs }

/-- After the software reset of `midSweep`: the L3 restart is in progress, and the abandoned window (R321, R328) has left its
status in CEL_FQ_0. -/
def midSweepReset : State := midSweep.writeRow .sup (adr RPC_SWRST) 0x5E7A0000 Side.untold

theorem exec_swrst_midSweep : exec (.swrst .sup) midSweep = .next midSweepReset := rfl

theorem levelLeft_midSweepReset : midSweepReset.levelLeft = 5 := by decide

/-- The status of the window is a field that an L3 restart does not restore, and it has changed. -/
theorem not_keptBelow_midSweepReset :
    ¬ KeptBelow 5 (allOffRegs ++ [RPC_IMG_STAT, RPC_RST_CAUSE, RPC_RST_STAT, WDG_EV_STAT, CEL_STAT]) midSweep midSweepReset := by
  intro h
  have hfq := h (CEL_FQ 0) (by decide) (by decide) ⟨28, 4, .ro, 0x0, 3, []⟩ (by decide) (by decide)
  exact absurd hfq (by decide)

/-- The clause of the frame about SWRST. -/
theorem swrst_of_frameBootAndClocks (h : Obligations.FrameBootAndClocks) (s t : State) (path : Path)
    (hwf : Registers.wf s.regs = true) (hexec : exec (.swrst path) s = .next t) :
    KeptByLevel [RPC_IMG_STAT, RPC_RST_CAUSE, RPC_RST_STAT, WDG_EV_STAT, CEL_STAT] s t := by
  obtain ⟨-, -, -, -, -, -, -, -, -, -, -, -, -, -, -, -, -, -, -, -, -, -, -, -, -, -, -, -, -, -, -, -, -, -, -, -, -, -, -,
    -, -, -, -, -, -, -, hswrst⟩ := h
  exact (hswrst s t path hwf hexec).1

end Sys2Proof.Machine

open Sys2Proof Sys2Proof.Machine

/-- Refutes O51: a software reset at L3 in the middle of an impedance sweep abandons the window in progress, whose status in
CEL_FQ changes, though only an L1 or a stronger reset restores that field and the frame does not name CEL_FQ. -/
theorem not_frameBootAndClocks : ¬ Obligations.FrameBootAndClocks := by
  intro h
  obtain ⟨-, hkept⟩ := swrst_of_frameBootAndClocks h midSweep midSweepReset .sup (by decide) exec_swrst_midSweep
  rw [levelLeft_midSweepReset] at hkept
  exact not_keptBelow_midSweepReset hkept
end

section
namespace Sys2Proof.Machine

/-! ### What raising a source changes -/

theorem Part.same_refl (p : Part) (s : State) : p.same s s := by
  cases p <;> simp [Part.same]

theorem Part.same_trans {p : Part} {s t u : State} (h : p.same s t) (k : p.same t u) : p.same s u := by
  cases p
  case lnk => exact k.trans (by rw [show t.lnk = _ from h])
  case icu =>
    obtain ⟨h1, h2, h3⟩ := h
    obtain ⟨k1, k2, k3⟩ := k
    exact ⟨k1.trans h1, k2.trans h2, k3.trans h3⟩
  case jnl =>
    obtain ⟨h1, h2, h3, h4, h5⟩ := h
    obtain ⟨k1, k2, k3, k4, k5⟩ := k
    exact ⟨k1.trans h1, k2.trans h2, k3.trans h3, k4.trans h4, k5.trans h5⟩
  all_goals exact Eq.trans k h

theorem Part.same_setReg (p : Part) (s : State) (a : Nat) (v : Word) : p.same s (s.setReg a v) := by
  cases p <;> simp [Part.same]

/-- What raising a source may change: the sources' words, QFULL_EV, the link's drop counters; of the interrupt controller its
queue and waits, of the link the frames to send and the forward FIFO (R439 to R443, R423). -/
structure Raised (s t : State) : Prop where
  parts : ∀ p : Part, p.same s t
  jnl : t.jnl = s.jnl
  reg : ∀ a, isArr (ICU_SRC 0) 4 1024 a = false → a ≠ ICU_STAT → a ≠ LNK_DROP_CNT → t.reg a = s.reg a
  stat : ∀ i, i ≠ 8 → (t.reg ICU_STAT).getLsbD i = (s.reg ICU_STAT).getLsbD i

theorem Raised.refl (s : State) : Raised s s := ⟨fun p => p.same_refl s, rfl, fun _ _ _ _ => rfl, fun _ _ => rfl⟩

theorem Raised.trans {s t u : State} (h : Raised s t) (k : Raised t u) : Raised s u :=
  ⟨fun p => Part.same_trans (h.parts p) (k.parts p), k.jnl.trans h.jnl, fun a h1 h2 h3 => (k.reg a h1 h2 h3).trans (h.reg a h1 h2 h3),
    fun i hi => (k.stat i hi).trans (h.stat i hi)⟩

/-- An update of the controller's queue and waits. -/
theorem Raised.icu {σ s : State} (h : Raised σ s) {i : Icu} (h1 : i.armed = s.icu.armed) (h2 : i.again = s.icu.again)
    (h3 : i.latchStamps = s.icu.latchStamps) : Raised σ { s with icu := i } :=
  h.trans ⟨fun p => by cases p <;> simp [Part.same, h1, h2, h3], rfl, fun _ _ _ _ => rfl, fun _ _ => rfl⟩

/-- An update of the frames to send and the forward FIFO. -/
theorem Raised.lnk {σ s : State} (h : Raised σ s) {l : Lnk} (hl : l = { s.lnk with out := l.out, events := l.events, fwd := l.fwd }) :
    Raised σ { s with lnk := l } := by
  have hparts (p : Part) : p.same s { s with lnk := l } := by
    cases p
    case lnk => exact hl
    all_goals simp [Part.same]
  exact h.trans ⟨hparts, rfl, fun _ _ _ _ => rfl, fun _ _ => rfl⟩

theorem isArr_ICU_SRC (k : Nat) : isArr (ICU_SRC 0) 4 1024 (ICU_SRC k) = true := by
  have hk : k % 1024 < 1024 := Nat.mod_lt _ (by decide)
  have hle : ICU_SRC 0 ≤ ICU_SRC k := Nat.add_le_add_left (by omega) _
  have hsub : ICU_SRC k - ICU_SRC 0 = 4 * (k % 1024) := Nat.add_sub_add_left _ _ _
  simp [isArr, hle, hsub, hk]

theorem State.setFld_src_raised {σ : State} (s : State) (f : Fld) (v : Nat) (hf : isArr (ICU_SRC 0) 4 1024 f.reg = true)
    (h : Raised σ s) : Raised σ (s.setFld f v) := by
  refine h.trans ⟨fun p => p.same_setReg _ _ _, rfl, fun a ha _ _ => s.reg_setFld_other f v a ?_, fun i _ => ?_⟩
  · rintro rfl
    rw [hf] at ha
    cases ha
  · rw [s.reg_setFld_other f v ICU_STAT]
    intro he
    rw [← he] at hf
    exact absurd hf (by decide)

theorem State.setFld_qfull_raised {σ : State} (s : State) (v : Nat) (h : Raised σ s) : Raised σ (s.setFld ICU_STAT_QFULL_EV v) := by
  refine h.trans ⟨fun p => p.same_setReg _ _ _, rfl, fun a _ ha _ => s.reg_setFld_other _ v a ha, fun i hi => ?_⟩
  by_cases h32 : i < 32
  · rw [State.setFld, show ICU_STAT = ICU_STAT_QFULL_EV.reg from rfl, State.reg_setReg_self, getLsbD_putBits _ _ _ _ _ h32,
      if_neg (by simp only [ICU_STAT_QFULL_EV]; omega)]
  · rw [BitVec.getLsbD_of_ge _ _ (by omega), BitVec.getLsbD_of_ge _ _ (by omega)]

theorem State.setFld_drop_raised {σ : State} (s : State) (f : Fld) (v : Nat) (hf : f.reg = LNK_DROP_CNT) (h : Raised σ s) :
    Raised σ (s.setFld f v) :=
  h.trans ⟨fun p => p.same_setReg _ _ _, rfl, fun a _ _ ha => s.reg_setFld_other f v a (hf ▸ ha),
    fun i _ => by rw [s.reg_setFld_other f v ICU_STAT (hf ▸ by decide)]⟩

theorem forEach_raised {σ : State} {α : Type} {l : List α} {f : α → State → State} {s : State}
    (hf : ∀ a u, Raised σ u → Raised σ (f a u)) (h : Raised σ s) : Raised σ (forEach l f s) := by
  unfold forEach
  induction l generalizing s with
  | nil => exact h
  | cons a r ih => exact ih (hf a s h)

theorem State.put_raised {σ : State} (port type dest src hops tag : Nat) (both : Bool) (payload : List Byte) (s : State)
    (h : Raised σ s) : Raised σ (s.put port type dest src hops tag both payload) := by
  unfold State.put
  split
  · exact h.lnk rfl
  · exact h

theorem State.emit_raised {σ : State} (port type dest tag : Nat) (both : Bool) (payload : List Byte) (s : State)
    (h : Raised σ s) : Raised σ (s.emit port type dest tag both payload) := State.put_raised _ _ _ _ _ _ _ _ s h

/-- Sending a frame changes the frames to send and the type's event number. -/
theorem State.send_raised {σ : State} (type mode : Nat) (both : Bool) (payload : List Byte) (s : State) (h : Raised σ s) :
    Raised σ (s.send type mode both payload) := by
  have cast (ring ev : Nat) (u : State) (hu : Raised σ u) : Raised σ (forEach (u.castPorts ring both)
      (fun p w => w.emit p type (mode * 4096) ev both payload) u) :=
    forEach_raised (fun _ _ hw => State.emit_raised _ _ _ _ _ _ _ hw) hu
  have hev : Raised σ { s with lnk := { s.lnk with events := putPair s.lnk.events type ((s.eventNo type + 1) % 256) } } := h.lnk rfl
  unfold State.send
  dsimp only
  split
  · exact cast 0 _ _ hev
  · split
    · exact cast 1 _ _ (cast 0 _ _ hev)
    · exact cast 0 _ _ hev
  · exact cast 1 _ _ hev
  · split
    · exact h
    · exact State.emit_raised _ _ _ _ _ _ _ hev
  · split
    · exact h
    · exact State.emit_raised _ _ _ _ _ _ _ hev
  · exact h

theorem State.fwdPush_raised {σ : State} (address source : Nat) (stamp : Time) (s : State) (h : Raised σ s) :
    Raised σ (s.fwdPush address source stamp).1 := by
  unfold State.fwdPush
  split
  · exact h.lnk rfl
  · rw [State.bump_eq]
    split
    · exact State.setFld_drop_raised _ _ _ rfl h
    · exact h

theorem State.driveInt_raised {σ : State} (s : State) (h : Raised σ s) : Raised σ s.driveInt := by
  unfold State.driveInt
  dsimp only
  split
  · split
    · exact h
    · exact h.icu rfl rfl rfl
  · split
    · exact h.icu rfl rfl rfl
    · exact h

theorem State.unwait_raised {σ : State} (src : Nat) (s : State) (h : Raised σ s) : Raised σ (s.unwait src) := h.icu rfl rfl rfl

theorem State.addStuck_raised {σ : State} (src : Nat) (s : State) (h : Raised σ s) : Raised σ (s.addStuck src) := h.icu rfl rfl rfl

theorem State.clearPend_raised {σ : State} (s : State) (src : Nat) (h : Raised σ s) : Raised σ (s.clearPend src) := by
  have h1 := State.setFld_src_raised _ (ICU_SRC_AGAIN src) 0 (isArr_ICU_SRC src)
    (State.setFld_src_raised _ (ICU_SRC_PEND src) 0 (isArr_ICU_SRC src) h)
  exact ((h1.icu (i := { s.icu with queue := s.icu.queue.filter (fun e => !decide (e.source = src)) }) rfl rfl rfl).icu
    rfl rfl rfl).icu rfl rfl rfl

theorem State.deliver_raised {σ : State} (s : State) (src : Nat) (h : Raised σ s) : Raised σ (s.deliver src).1 := by
  have hu := State.unwait_raised src s h
  have hc := State.clearPend_raised s src h
  unfold State.deliver
  dsimp only
  split
  · exact hc
  · exact hc
  · exact hc
  · split
    · exact hu
    · split
      · exact hu.icu rfl rfl rfl
      · split
        · exact State.addStuck_raised src _ hu
        · exact State.setFld_qfull_raised _ _ (State.addStuck_raised src _ hu)
  · split
    · exact State.addStuck_raised src _ hu
    · split
      · exact State.fwdPush_raised _ _ _ _ hc
      · split
        · exact State.clearPend_raised _ src (State.send_raised _ _ _ _ _ h)
        · exact State.addStuck_raised src _ hu

theorem State.offer_raised {σ : State} (s : State) (src : Nat) (h : Raised σ s) : Raised σ (s.offer src).1 := by
  have hu := State.unwait_raised src s h
  unfold State.offer
  dsimp only
  split
  · split
    · exact hu.icu rfl rfl rfl
    · split
      · exact State.deliver_raised s src h
      · exact State.deliver_raised _ src (h.icu rfl rfl rfl)
  · exact hu

theorem State.markPend_raised {σ : State} (s : State) (src : Nat) (stamp : Time) (h : Raised σ s) : Raised σ (s.markPend src stamp) := by
  unfold State.markPend
  split
  · exact State.setFld_src_raised _ _ _ (isArr_ICU_SRC src) h
  · exact (State.setFld_src_raised _ (ICU_SRC_PEND src) 1 (isArr_ICU_SRC src) h).icu rfl rfl rfl

theorem State.raiseOnce_raised {σ : State} (s : State) (src : Nat) (stamp : Time) (h : Raised σ s) :
    Raised σ (s.raiseOnce src stamp).1 := by
  unfold State.raiseOnce
  dsimp only
  split
  · exact State.markPend_raised s src stamp h
  · exact State.offer_raised _ src (State.markPend_raised s src stamp h)

theorem State.chain_raised {σ : State} (n : Nat) (r : State × Option Nat) (h : Raised σ r.1) : Raised σ (State.chain n r) := by
  induction n generalizing r with
  | zero =>
    unfold State.chain
    split
    · exact h
    · exact State.markPend_raised _ _ _ h
  | succ n ih =>
    unfold State.chain
    split
    · exact h
    · exact ih _ (State.raiseOnce_raised _ _ _ h)

theorem State.raiseAt_raised {σ : State} (src : Nat) (stamp : Time) (s : State) (h : Raised σ s) : Raised σ (s.raiseAt src stamp) := by
  unfold State.raiseAt
  split
  · exact State.driveInt_raised _ (State.chain_raised _ _ (State.raiseOnce_raised s src stamp h))
  · exact h

theorem State.raise_raised {σ : State} (src : Nat) (s : State) (h : Raised σ s) : Raised σ (s.raise src) :=
  State.raiseAt_raised src s.now s h

theorem loud_eq_false {a : Nat} (h : loud a = false) : isArr (ICU_SRC 0) 4 1024 a = false ∧ a ≠ ICU_STAT ∧ a ≠ JNL_STAT ∧ a ≠ JNL_LOST ∧
    a ≠ GLB_SUMMARY ∧ a ≠ LNK_DROP_CNT := by
  simpa [loud, not_or] using h

/-- It is within every frame. -/
theorem Raised.withinAt {s t : State} (h : Raised s t) (own regs : List Nat) (parts : List Part) : WithinAt own regs parts s t :=
  ⟨fun a ha _ _ => have ⟨hsrc, hstat, _, _, _, hdrop⟩ := loud_eq_false ha; h.reg a hsrc hstat hdrop, fun p _ => h.parts p⟩

/-- A flag beside QFULL_EV, of no source and no drop counter, is not touched. -/
theorem Raised.flag {s t : State} (h : Raised s t) {f : Fld} (hsrc : isArr (ICU_SRC 0) 4 1024 f.reg = false) (hdrop : f.reg ≠ LNK_DROP_CNT)
    (hstat : f.reg = ICU_STAT → f.lo = 31 ∧ f.width = 1) : t.flag f = s.flag f := by
  have hbits : bitsOf (t.reg f.reg).toNat f.lo f.width = bitsOf (s.reg f.reg).toNat f.lo f.width := by
    by_cases hf : f.reg = ICU_STAT
    · obtain ⟨hlo, hwidth⟩ := hstat hf
      have hbit := h.stat 31 (by decide)
      refine Nat.eq_of_testBit_eq fun i => ?_
      rw [testBit_bitsOf, testBit_bitsOf, hf, hlo, hwidth]
      by_cases hi : i < 1
      · obtain rfl : i = 0 := by omega
        simpa [BitVec.getLsbD] using hbit
      · simp [hi]
    · rw [h.reg f.reg hsrc hf hdrop]
  simp [State.flag, State.fld, hbits]

/-! ### Frames compose -/

theorem WithinAt.refl (own regs : List Nat) (parts : List Part) (s : State) : WithinAt own regs parts s s :=
  (Raised.refl s).withinAt own regs parts

theorem WithinAt.trans {own regs : List Nat} {parts : List Part} {s t u : State} (h : WithinAt own regs parts s t)
    (k : WithinAt own regs parts t u) : WithinAt own regs parts s u :=
  ⟨fun a h1 h2 h3 => (k.1 a h1 h2 h3).trans (h.1 a h1 h2 h3), fun p hp => Part.same_trans (h.2 p hp) (k.2 p hp)⟩

theorem WithinAt.mono {own own' regs regs' : List Nat} {parts parts' : List Part} {s t : State} (h : WithinAt own regs parts s t)
    (ho : own ⊆ own') (hr : regs ⊆ regs') (hp : parts ⊆ parts') : WithinAt own' regs' parts' s t := by
  refine ⟨fun a h1 h2 h3 => h.1 a h1 (fun hm => h2 (ho hm)) ?_, fun p hq => h.2 p (fun hm => hq (hp hm))⟩
  by_contra hn
  rw [Bool.not_eq_false] at hn
  rw [named_mono hr hn] at h3
  cases h3

/-- Setting one of the registers `own`. -/
theorem WithinAt.setReg_own {own regs : List Nat} {parts : List Part} {a : Nat} (ha : a ∈ own) (s : State) (v : Word) :
    WithinAt own regs parts s (s.setReg a v) :=
  ⟨fun b _ hb _ => s.reg_setReg_other a b v (fun e => hb (e ▸ ha)), fun p _ => p.same_setReg s a v⟩

/-- Setting a register of one of the arrays named. -/
theorem WithinAt.setReg_named {own regs : List Nat} {parts : List Part} {a : Nat} (ha : named regs a = true) (s : State) (v : Word) :
    WithinAt own regs parts s (s.setReg a v) :=
  ⟨fun b _ _ hb => s.reg_setReg_other a b v (fun e => by rw [e, ha] at hb; cases hb), fun p _ => p.same_setReg s a v⟩

/-- What a host port tells of a transaction is of its own part. -/
theorem WithinAt.hst {own regs : List Nat} {p : Path} {s t : State} (h : WithinAt own regs (portParts p) s t) {x : Hst}
    (hx : portParts p = [] → x = t.hst) : WithinAt own regs (portParts p) s { t with hst := x } := by
  refine h.trans ⟨fun _ _ _ _ => rfl, fun q hq => ?_⟩
  cases q
  case hst =>
    refine hx ?_
    unfold portParts at hq ⊢
    split at hq
    · exact absurd (List.mem_singleton.mpr rfl) hq
    · next hn => exact if_neg hn
  all_goals simp [Part.same]

end Sys2Proof.Machine
end

section
namespace Sys2Proof.Machine

/-! ### The bit a refused write offends lies in a word -/

/-- A bit named is one of a word's. -/
def InWord (o : Option Nat) : Prop := ∀ b ∈ o, b < 32

theorem InWord.none : InWord none := fun _ h => by cases h

theorem InWord.some {b : Nat} (h : b < 32) : InWord (some b) := fun c hc => by
  obtain rfl := Option.mem_some.mp hc
  exact h

theorem InWord.ite {c : Prop} [Decidable c] {o p : Option Nat} (ho : InWord o) (hp : InWord p) : InWord (if c then o else p) := by
  split
  · exact ho
  · exact hp

theorem InWord.when {b : Nat} (c : Bool) (h : b < 32) : InWord (when c b) := .ite (.some h) .none

theorem InWord.lowest {o p : Option Nat} (ho : InWord o) (hp : InWord p) : InWord (lowest o p) := by
  cases o with
  | none => exact hp
  | some a =>
    cases p with
    | none => exact ho
    | some b => exact .some (lt_of_le_of_lt (Nat.min_le_left a b) (ho a rfl))

/-- A field table's answer, where each field answers within a word. -/
theorem InWord.foldl {fs : List FieldSpec} {f : Option Nat → FieldSpec → Option Nat} (hf : ∀ g ∈ fs, ∀ o, InWord o → InWord (f o g))
    {o : Option Nat} (ho : InWord o) : InWord (fs.foldl f o) := by
  induction fs generalizing o with
  | nil => exact ho
  | cons g r ih => exact ih (fun g' hg' => hf g' (List.mem_cons_of_mem _ hg')) (hf g List.mem_cons_self o ho)

/-- Every field of the map has a bit. -/
theorem lo_lt_32 {a : Nat} {f : FieldSpec} (hf : f ∈ fieldsOf a) : f.lo < 32 := by
  have hwidth : (fieldsOf a).all (fun f => decide (0 < f.width)) = true := by
    unfold fieldsOf
    split
    · next d hd => exact forall_regDefOf (P := fun d => d.fields.all (fun f => decide (0 < f.width))) (by decide) hd
    · rfl
  have hpos := List.all_eq_true.mp hwidth f hf
  have hle := lo_add_width_le hf
  simp only [decide_eq_true_eq] at hpos
  omega

theorem reservedBit_inWord (a : Nat) (w : Word) : InWord (reservedBit (fieldsOf a) w) := by
  refine InWord.foldl (fun f hf o ho => ?_) .none
  split
  · cases o with
    | none => exact .some (lo_lt_32 hf)
    | some b => exact .some (lt_of_le_of_lt (Nat.min_le_left _ _) (ho b rfl))
  · exact ho

theorem lowestWritable_inWord (a : Nat) : InWord (lowestWritable a) :=
  InWord.foldl (fun _ hf _ ho => .ite (.lowest ho (.some (lo_lt_32 hf))) ho) .none

theorem State.updCtrlRefused_inWord (s : State) (w : Word) : InWord (s.updCtrlRefused w) :=
  .ite (.ite (.some (by decide)) (.ite (.some (by decide)) (.ite .none (.ite .none (.some (by decide)))))) .none

theorem State.otpCtrlRefused_inWord (s : State) (w : Word) : InWord (s.otpCtrlRefused w) :=
  .ite (.some (by decide)) (.ite (.some (by decide)) .none)

theorem State.bndCtrlRefused_inWord (s : State) (w : Word) : InWord (s.bndCtrlRefused w) :=
  .ite (.some (by decide)) (.ite (.some (by decide)) .none)

theorem State.dmaCfgRefused_inWord (s : State) (k : Nat) (w : Word) : InWord (s.dmaCfgRefused k w) :=
  .ite (.ite (.some (by decide)) (.ite (.some (by decide)) .none)) (.ite (.some (by decide)) .none)

theorem State.distCtrlRefused_inWord (s : State) (w : Word) : InWord (s.distCtrlRefused w) :=
  .ite (.some (by decide)) (.ite (.some (by decide)) (.ite (.some (by split <;> decide)) (.ite (.some (by decide))
    (.ite (.some (by decide)) .none))))

theorem State.stmRefused_inWord (s : State) (a : Nat) (w : Word) : InWord (s.stmRefused a w) :=
  .ite (.when _ (by decide)) (.ite (.when _ (by decide)) .none)

theorem State.bkdRefused_inWord (s : State) (a : Nat) (w : Word) : InWord (s.bkdRefused a w) :=
  .ite (.when _ (by decide)) (.ite (.when _ (by decide)) .none)

theorem State.brkRefused_inWord (s : State) (a : Nat) (w : Word) : InWord (s.brkRefused a w) :=
  .ite (lowestWritable_inWord a) (.ite (.when _ (by decide)) (.ite (.when _ (by decide)) .none))

theorem State.seqRefused_inWord (s : State) (a : Nat) (w : Word) : InWord (s.seqRefused a w) :=
  .ite (.ite .none (.lowest (.when _ (by decide)) (.lowest (.when _ (by decide)) (.when _ (by decide)))))
    (.ite (.when _ (by decide)) (.ite (.when _ (by decide)) (.ite (.when _ (by decide)) .none)))

theorem State.msrRefused_inWord (s : State) (a : Nat) (w : Word) : InWord (s.msrRefused a w) := by
  refine .ite (.when _ (by decide)) (.ite (.when _ (by decide)) (.ite (.lowest (.when _ (by decide)) (.when _ (by decide)))
    (.ite ?_ .none)))
  dsimp only
  split
  · exact State.dmaCfgRefused_inWord _ _ _
  · exact .when _ (by decide)
  · exact .when _ (by decide)
  · exact .when _ (by decide)

theorem State.celRefused_inWord (s : State) (a : Nat) (w : Word) : InWord (s.celRefused a w) :=
  .ite (.when _ (by decide)) (.ite (.when _ (by decide)) .none)

theorem State.lnkRefused_inWord (s : State) (a : Nat) (w : Word) : InWord (s.lnkRefused a w) :=
  .ite (.when _ (by decide)) (.ite (.lowest (.when _ (by decide)) (.when _ (by decide)))
    (.ite (State.distCtrlRefused_inWord s w) .none))

theorem State.wdgRefused_inWord (s : State) (p : Path) (a : Nat) (w : Word) : InWord (s.wdgRefused p a w) :=
  .ite (.ite (.when _ (by decide)) (.lowest (.when _ (by decide)) (.when _ (by decide))))
    (.ite (.when _ (by decide)) (.ite (.when _ (by decide)) .none))

/-- A rule between fields names a bit of the word written. -/
theorem State.refused_inWord (s : State) (p : Path) (a : Nat) (w : Word) : InWord (s.refused p a w) := by
  unfold State.refused
  split
  · exact .ite (.ite (.some (by decide)) .none) .none
  · exact .ite (State.updCtrlRefused_inWord s w) (.ite (.when _ (by decide)) .none)
  · exact .ite (State.otpCtrlRefused_inWord s w) .none
  · exact State.stmRefused_inWord s a w
  · exact State.bkdRefused_inWord s a w
  · exact .ite (State.bndCtrlRefused_inWord s w) (.ite (.when _ (by decide)) .none)
  · exact State.brkRefused_inWord s a w
  · exact .ite (.when _ (by decide)) .none
  · exact State.seqRefused_inWord s a w
  · exact State.msrRefused_inWord s a w
  · exact State.celRefused_inWord s a w
  · exact .ite (.when _ (by decide)) .none
  · exact .ite (.when _ (by decide)) (.ite (.when _ (by decide)) .none)
  · exact State.lnkRefused_inWord s a w
  · exact .ite (.when _ (by decide)) .none
  · exact State.wdgRefused_inWord s p a w
  · exact .none

/-! ### What a refused write records -/

/-- Where a block's CFG_ERR and its record stand: one bit each word has, a record that no report touches, and where the two share
a register (RPC), the flag above the record. -/
structure CfgErrPlace (e : Fld × Nat × Nat) : Prop where
  width : e.1.width = 1
  lo : e.1.lo < 32
  notSource : isArr (ICU_SRC 0) 4 1024 e.1.reg = false
  notDrops : e.1.reg ≠ LNK_DROP_CNT
  besideQfull : e.1.reg = ICU_STAT → e.1.lo = 31 ∧ e.1.width = 1
  quiet : loud e.2.1 = false
  above : e.2.1 = e.1.reg → e.1.lo = 31

/-- The same, evaluated. -/
def cfgErrPlace (e : Fld × Nat × Nat) : Bool :=
  e.1.width == 1 && decide (e.1.lo < 32) && !isArr (ICU_SRC 0) 4 1024 e.1.reg && e.1.reg != LNK_DROP_CNT &&
    (e.1.reg != ICU_STAT || e.1.lo == 31) && !loud e.2.1 && (e.2.1 != e.1.reg || e.1.lo == 31)

theorem cfgErrPlace_brick : ∀ n < 16, cfgErrPlace (BRK_STAT_CFG_ERR n, BRK_CFG_ERR_INFO n, 64 + 16 * n + 5) = true := by decide

theorem cfgErrPlace_cfgErrOf (a : Nat) : cfgErrPlace (cfgErrOf a) = true := by
  unfold cfgErrOf
  split
  case h_7 => exact cfgErrPlace_brick _ (Nat.mod_lt _ (by decide))
  all_goals decide

theorem CfgErrPlace.of_cfgErrOf (a : Nat) : CfgErrPlace (cfgErrOf a) := by
  have h := cfgErrPlace_cfgErrOf a
  simp only [cfgErrPlace, Bool.and_eq_true, Bool.or_eq_true, beq_iff_eq, bne_iff_ne, decide_eq_true_eq, Bool.not_eq_true',
    ne_eq] at h
  obtain ⟨⟨⟨⟨⟨⟨hwidth, hlo⟩, hsrc⟩, hdrop⟩, hstat⟩, hquiet⟩, habove⟩ := h
  exact ⟨hwidth, hlo, hsrc, hdrop, fun e => ⟨hstat.resolve_left (not_not_intro e), hwidth⟩, hquiet,
    fun e => habove.resolve_left (not_not_intro e)⟩

/-- A refused write's record, before CFG_ERR is set and its source raised. -/
def State.cfgErrRecord (a b : Nat) (s : State) : State :=
  let e := cfgErrOf a
  if !s.flag e.1 && e.2.1 != 0 then
    if blockOffset a < 4096 then s.setReg e.2.1 (s.reg e.2.1 &&& 0x80000000 ||| BitVec.ofNat 32 (blockOffset a <<< 16 + b))
    else
      let r := s.takeFree 12
      r.2.setReg e.2.1 (BitVec.ofNat 32 (r.1 <<< 16 + b))
  else s

theorem State.cfgErr_eq (a b : Nat) (s : State) :
    s.cfgErr a b = (s.cfgErrRecord a b).flagRaise (cfgErrOf a).1 (cfgErrOf a).2.2 := rfl

/-- Setting a flag and raising its source changes no more than setting the flag and what raising changes. -/
theorem State.flagRaise_raised (f : Fld) (src : Nat) (s : State) : Raised (s.setFld f 1) (s.flagRaise f src) :=
  State.raise_raised src _ (Raised.refl _)

theorem WithinAt.free (own regs : List Nat) (parts : List Part) (s : State) (n : Nat) : WithinAt own regs parts s { s with free := n } :=
  ⟨fun _ _ _ _ => rfl, fun p _ => by cases p <;> simp [Part.same]⟩

theorem State.cfgErrRecord_withinAt (a b : Nat) (s : State) (regs : List Nat) (parts : List Part) :
    WithinAt [(cfgErrOf a).1.reg, (cfgErrOf a).2.1] regs parts s (s.cfgErrRecord a b) := by
  have hown : (cfgErrOf a).2.1 ∈ [(cfgErrOf a).1.reg, (cfgErrOf a).2.1] := by simp
  unfold State.cfgErrRecord
  dsimp only
  split
  · split
    · exact .setReg_own hown _ _
    · exact (WithinAt.free _ _ _ s _).trans (.setReg_own hown _ _)
  · exact .refl _ _ _ s

/-- A refused write changes its block's CFG_ERR and record, and what raising changes. -/
theorem State.cfgErr_withinAt (a b : Nat) (s : State) (regs : List Nat) (parts : List Part) :
    WithinAt [(cfgErrOf a).1.reg, (cfgErrOf a).2.1] regs parts s (s.cfgErr a b) :=
  ((State.cfgErrRecord_withinAt a b s regs parts).trans (.setReg_own List.mem_cons_self _ _)).trans
    ((State.flagRaise_raised _ _ _).withinAt _ _ _)

theorem State.cfgErr_flag (a b : Nat) (s : State) : (s.cfgErr a b).flag (cfgErrOf a).1 = true := by
  have h := CfgErrPlace.of_cfgErrOf a
  rw [State.cfgErr_eq, (State.flagRaise_raised _ _ _).flag h.notSource h.notDrops h.besideQfull]
  exact State.flag_setFld_one _ _ h.width h.lo

/-- Of the record, what raising the source and setting the flag leave. -/
theorem State.cfgErr_record (a b : Nat) (s : State) : (s.cfgErr a b).reg (cfgErrOf a).2.1 =
    ((s.cfgErrRecord a b).setFld (cfgErrOf a).1 1).reg (cfgErrOf a).2.1 :=
  have ⟨hsrc, hstat, _, _, _, hdrop⟩ := loud_eq_false (CfgErrPlace.of_cfgErrOf a).quiet
  (State.flagRaise_raised _ _ _).reg _ hsrc hstat hdrop

/-- The fields of two words agree where their bits do. -/
theorem bitsOf_congr {x y : Word} {lo width : Nat} (h : ∀ i, lo ≤ i → i < lo + width → x.getLsbD i = y.getLsbD i) :
    bitsOf x.toNat lo width = bitsOf y.toNat lo width := by
  refine Nat.eq_of_testBit_eq fun i => ?_
  rw [testBit_bitsOf, testBit_bitsOf]
  by_cases hi : i < width
  · simpa [hi, BitVec.getLsbD] using h (lo + i) (by omega) (by omega)
  · simp [hi]

/-- Below bit 31 the flag leaves the record. -/
theorem CfgErrPlace.bitsOf_setFld {e : Fld × Nat × Nat} (h : CfgErrPlace e) (s : State) {lo width : Nat} (hbits : lo + width ≤ 31) :
    bitsOf ((s.setFld e.1 1).reg e.2.1).toNat lo width = bitsOf (s.reg e.2.1).toNat lo width := by
  by_cases hrec : e.2.1 = e.1.reg
  · refine bitsOf_congr fun i _ hi => ?_
    have habove := h.above hrec
    rw [hrec, State.setFld, State.reg_setReg_self, getLsbD_putBits _ _ _ _ _ (by omega), if_neg (by omega)]
  · rw [s.reg_setFld_other e.1 1 e.2.1 hrec]

/-- A flag that is set keeps its register as it is set once more. -/
theorem State.reg_setFld_of_flag {s : State} {f : Fld} (hw : f.width = 1) (h : s.flag f = true) (a : Nat) :
    (s.setFld f 1).reg a = s.reg a := by
  by_cases ha : a = f.reg
  · subst ha
    rw [State.setFld, State.reg_setReg_self]
    refine BitVec.eq_of_getLsbD_eq fun i hi => ?_
    rw [getLsbD_putBits _ _ _ _ _ hi, hw]
    split
    · obtain rfl : i = f.lo := by omega
      have hbit := congrArg (fun n => n.testBit 0) (show bitsOf (s.reg f.reg).toNat f.lo f.width = 1 by
        have hlt : bitsOf (s.reg f.reg).toNat f.lo f.width < 2 := by rw [hw]; exact Nat.mod_lt _ (by decide)
        simp only [State.flag, State.fld, bne_iff_ne, ne_eq] at h
        omega)
      simp only [testBit_bitsOf, hw] at hbit
      simpa [BitVec.getLsbD] using hbit.symm
    · rfl
  · exact s.reg_setFld_other f 1 a ha

/-- Below bit 31 a word kept under that bit alone leaves the one put over it. -/
theorem bitsOf_and_or {x m y : Word} {lo width : Nat} (hbits : lo + width ≤ 31) (hm : m = BitVec.twoPow 32 31) :
    bitsOf (x &&& m ||| y).toNat lo width = bitsOf y.toNat lo width := by
  subst hm
  refine bitsOf_congr fun i _ hi => ?_
  simp only [BitVec.getLsbD_or, BitVec.getLsbD_and, BitVec.getLsbD_twoPow]
  simp [show ¬31 = i by omega]

/-- The record of a fresh error: the bit, and the offset where it fits. -/
theorem State.cfgErrRecord_fresh {a b : Nat} {s : State} (hb : b < 32) (hrec : (cfgErrOf a).2.1 ≠ 0)
    (hflag : s.flag (cfgErrOf a).1 = false) :
    bitsOf ((s.cfgErrRecord a b).reg (cfgErrOf a).2.1).toNat 0 5 = b ∧
      (blockOffset a < 4096 → bitsOf ((s.cfgErrRecord a b).reg (cfgErrOf a).2.1).toNat 16 12 = blockOffset a) := by
  have num (n : Nat) (hn : n < 4096) : (BitVec.ofNat 32 (n <<< 16 + b)).toNat = 65536 * n + b := by
    rw [BitVec.toNat_ofNat, Nat.shiftLeft_eq]
    omega
  have bit (n : Nat) (hn : n < 4096) : bitsOf (BitVec.ofNat 32 (n <<< 16 + b)).toNat 0 5 = b := by
    rw [num n hn, bitsOf, Nat.shiftRight_zero]
    omega
  unfold State.cfgErrRecord
  dsimp only
  rw [if_pos (by simp [hflag, hrec])]
  split
  · next hoff =>
    rw [State.reg_setReg_self]
    refine ⟨(bitsOf_and_or (by decide) (by decide)).trans (bit _ hoff), fun _ => (bitsOf_and_or (by decide) (by decide)).trans ?_⟩
    rw [num _ hoff, bitsOf, Nat.shiftRight_eq_div_pow]
    omega
  · next hoff =>
    refine ⟨?_, fun h => absurd h hoff⟩
    rw [State.reg_setReg_self]
    exact bit _ (Nat.mod_lt _ (by decide))

theorem State.cfgErrRecord_of_flag {a b : Nat} {s : State} (h : s.flag (cfgErrOf a).1 = true) : s.cfgErrRecord a b = s := by
  simp [State.cfgErrRecord, h]

/-- A refused write at a register is its block's CFG_ERR, and what a host port tells of the transaction. -/
theorem State.writeRow_refused {s : State} {p : Path} {a w : Word} {b : Nat} (side : Side) (hans : s.answers p = true)
    (hbus : s.busFault p true a.toNat = none) (hwin : windowOf a.toNat = some .regs)
    (hbak : a.toNat / 0x10000 = 4 → s.bkd.powered = true) (hwr : (fieldsOf a.toNat).any FieldSpec.writable = true)
    (hbad : lowest (reservedBit (fieldsOf a.toNat) w) (s.refused p a.toNat w) = some b) :
    ∃ h, s.writeRow p a w side = { s.cfgErr a.toNat b with hst := h } ∧ (portParts p = [] → h = (s.cfgErr a.toNat b).hst) := by
  have hwrite := (State.busWrite_regs w side hans hbus hwin).trans (State.regWrite_refused side hwr hbak hbad)
  have heq := State.writeRow_eq p a w side s
  have hport (h : portParts p = []) := congrArg State.hst (State.writeRow_of_portParts h a w side s)
  rw [hwrite] at heq hport
  exact ⟨_, heq, hport⟩

end Sys2Proof.Machine

open Sys2Proof Sys2Proof.Machine

/-- Settles O15: such a write is the block's CFG_ERR, and that changes its flag, its record and what raising a source changes. -/
theorem refusedWrite : Obligations.RefusedWrite := by
  intro s p a w b hans hbus hwin hbak hwr hbad
  obtain ⟨h, heq, hport⟩ := State.writeRow_refused Side.untold hans hbus hwin hbak hwr hbad
  exact ⟨_, congrArg Host.Outcome.next heq, s.cfgErr_flag a.toNat b, (s.cfgErr_withinAt a.toNat b [] (portParts p)).hst hport⟩

/-- Settles O16: the record is written only while CFG_ERR is clear, and the bit it names is one of the word. -/
theorem firstCfgErrorKept : Obligations.FirstCfgErrorKept := by
  intro s p a w b hans hbus hwin hbak hwr hbad hrec
  obtain ⟨h, heq, -⟩ := State.writeRow_refused Side.untold hans hbus hwin hbak hwr hbad
  have hplace := CfgErrPlace.of_cfgErrOf a.toNat
  have hb : b < 32 := (reservedBit_inWord a.toNat w).lowest (s.refused_inWord p a.toNat w) b hbad
  have hrecord := s.cfgErr_record a.toNat b
  refine ⟨_, congrArg Host.Outcome.next heq, fun hflag => ?_, fun hflag => ⟨?_, s.cfgErr_flag a.toNat b⟩⟩
  · obtain ⟨hbit, hoff⟩ := State.cfgErrRecord_fresh hb hrec hflag
    change bitsOf ((s.cfgErr a.toNat b).reg _).toNat 0 5 = b ∧
      (_ → bitsOf ((s.cfgErr a.toNat b).reg _).toNat 16 12 = blockOffset a.toNat)
    rw [hrecord, hplace.bitsOf_setFld _ (by decide), hplace.bitsOf_setFld _ (by decide)]
    exact ⟨hbit, hoff⟩
  · change (s.cfgErr a.toNat b).reg _ = _
    rw [hrecord, State.cfgErrRecord_of_flag hflag, State.reg_setFld_of_flag hplace.width hflag]
end

section
namespace Sys2Proof.Machine

/-! ### Bus errors -/

/-- A bus error's record, before BUS_ERR is set and its source raised. -/
def State.busErrRecord (p : Path) (kind : Nat) (a : Word) (s : State) : State :=
  if s.flag GLB_STAT_BUS_ERR then s
  else (s.setReg GLB_BUS_ERR_INFO (BitVec.ofNat 32 (pathCode p <<< 30 + kind <<< 27))).setReg GLB_BUS_ERR_ADDR a

theorem State.busErr_eq (p : Path) (kind : Nat) (a : Word) (s : State) :
    s.busErr p kind a = (s.busErrRecord p kind a).flagRaise GLB_STAT_BUS_ERR 0 := rfl

theorem State.busErrRecord_of_flag {p : Path} {kind : Nat} {a : Word} {s : State} (h : s.flag GLB_STAT_BUS_ERR = true) :
    s.busErrRecord p kind a = s := if_pos h

theorem State.busErrRecord_fresh {p : Path} {kind : Nat} {a : Word} {s : State} (h : s.flag GLB_STAT_BUS_ERR = false) :
    s.busErrRecord p kind a =
      (s.setReg GLB_BUS_ERR_INFO (BitVec.ofNat 32 (pathCode p <<< 30 + kind <<< 27))).setReg GLB_BUS_ERR_ADDR a :=
  if_neg (by simp [h])

/-- A bus error changes BUS_ERR, its record and what raising changes. -/
theorem State.busErr_within (p : Path) (kind : Nat) (a : Word) (s : State) : Within busErrRegs [] s (s.busErr p kind a) := by
  have hrecord : WithinAt [] busErrRegs [] s (s.busErrRecord p kind a) := by
    unfold State.busErrRecord
    split
    · exact .refl _ _ _ s
    · exact (WithinAt.setReg_named (by decide) _ _).trans (.setReg_named (by decide) _ _)
  exact (hrecord.trans (.setReg_named (by decide) _ _)).trans ((State.flagRaise_raised _ _ _).withinAt _ _ _)

theorem State.busErr_flag (p : Path) (kind : Nat) (a : Word) (s : State) : (s.busErr p kind a).flag GLB_STAT_BUS_ERR = true := by
  rw [State.busErr_eq, (State.flagRaise_raised _ _ _).flag (by decide) (by decide) (by decide)]
  exact State.flag_setFld_one _ _ rfl (by decide)

/-- Beside BUS_ERR's own word, no register that raising leaves alone changes after the record. -/
theorem State.busErr_record {p : Path} {kind : Nat} {a : Word} {s : State} {b : Nat} (hb : loud b = false) (hstat : b ≠ GLB_STAT) :
    (s.busErr p kind a).reg b = (s.busErrRecord p kind a).reg b := by
  obtain ⟨hsrc, hqfull, _, _, _, hdrop⟩ := loud_eq_false hb
  rw [State.busErr_eq, (State.flagRaise_raised _ _ _).reg b hsrc hqfull hdrop, State.reg_setFld_other _ _ _ _ hstat]

/-- A bus error leaves each path as open as it was. -/
theorem State.busErr_boot (p : Path) (kind : Nat) (a : Word) (s : State) : (s.busErr p kind a).boot = s.boot :=
  (s.busErr_within p kind a).2 .boot (by decide)

theorem State.answers_spi_of_boot {s t : State} (h : t.boot = s.boot) : t.answers .spi = s.answers .spi := by
  simp only [State.answers, State.active, h]

/-- KIND and PATH of a record made now. -/
theorem bitsOf_busErrInfo (p : Path) {kind : Nat} (hk : kind < 8) :
    bitsOf (BitVec.ofNat 32 (pathCode p <<< 30 + kind <<< 27)).toNat 27 3 = kind ∧
      bitsOf (BitVec.ofNat 32 (pathCode p <<< 30 + kind <<< 27)).toNat 30 2 = pathCode p := by
  have hp : pathCode p < 4 := by cases p <;> decide
  rw [BitVec.toNat_ofNat, Nat.shiftLeft_eq, Nat.shiftLeft_eq]
  simp only [bitsOf, Nat.shiftRight_eq_div_pow]
  omega

/-- An access not aligned is KIND 1, an aligned one outside every window KIND 3, a write or a read. -/
theorem State.busFault_of_kind {s : State} {p : Path} {a kind : Nat}
    (h : kind = 1 ∧ a % 4 ≠ 0 ∨ kind = 3 ∧ a % 4 = 0 ∧ windowOf a = none) (write : Bool) : s.busFault p write a = some kind := by
  rcases h with ⟨rfl, ha⟩ | ⟨rfl, ha, hw⟩
  · exact if_pos ha
  · simp [State.busFault, ha, hw]

/-- An access that the bus turns away. -/
theorem State.busWrite_of_fault {s : State} {p : Path} {a : Word} {kind : Nat} (w : Word) (side : Side) (hans : s.answers p = true)
    (hbus : s.busFault p true a.toNat = some kind) : s.busWrite p a w side = s.busErr p kind a := by
  simp [State.busWrite, hans, hbus]

theorem State.busRead_of_fault {s : State} {p : Path} {a : Word} {kind : Nat} (hans : s.answers p = true)
    (hbus : s.busFault p false a.toNat = some kind) : s.busRead p a = (0, s.busErr p kind a) := by
  simp [State.busRead, hans, hbus]

/-- What the host ports tell of a write that the bus turns away. -/
theorem State.writeRow_spi_prevBus {s : State} {a : Word} {kind : Nat} (w : Word) (side : Side) (hans : s.answers .spi = true)
    (hbus : s.busFault .spi true a.toNat = some kind) : (s.writeRow .spi a w side).hst.prevBus = true := by
  have hopen : (s.busErr .spi kind a).answers .spi = true :=
    (State.answers_spi_of_boot (s.busErr_boot .spi kind a)).trans hans
  simp [State.writeRow, State.busWrite_of_fault w side hans hbus, hans, hbus, State.spiEnd, hopen]

theorem State.writeRow_i2c_nack {s : State} {a : Word} {kind : Nat} (w : Word) (side : Side) (hans : s.answers .i2c = true)
    (hbus : s.busFault .i2c true a.toNat = some kind) : (s.writeRow .i2c a w side).hst.nack = true := by
  simp [State.writeRow, hans, hbus]

end Sys2Proof.Machine

open Sys2Proof Sys2Proof.Machine

/-- Settles O17: both accesses are the bus error of their kind, whose record is written only while BUS_ERR is clear. -/
theorem busErrorRecord : Obligations.BusErrorRecord := by
  intro s p a w kind hans hkind
  have hbus := State.busFault_of_kind (s := s) (p := p) hkind
  have hwrite := State.busWrite_of_fault w Side.untold hans (hbus true)
  have heq := State.writeRow_eq p a w Side.untold s
  have hport (h : portParts p = []) := congrArg State.hst (State.writeRow_of_portParts h a w Side.untold s)
  rw [hwrite] at heq hport
  have haddr := State.busErr_record (s := s) (p := p) (kind := kind) (a := a) (b := GLB_BUS_ERR_ADDR) (by decide) (by decide)
  have hinfo := State.busErr_record (s := s) (p := p) (kind := kind) (a := a) (b := GLB_BUS_ERR_INFO) (by decide) (by decide)
  refine ⟨_, _, congrArg Host.Outcome.next heq, State.busRead_of_fault hans (hbus false), ?_, ?_, hport, s.busErr_flag p kind a,
    s.busErr_within p kind a, fun hclear => ?_, fun hset => ?_⟩
  · rintro rfl
    exact State.writeRow_spi_prevBus w Side.untold hans (hbus true)
  · rintro rfl
    exact State.writeRow_i2c_nack w Side.untold hans (hbus true)
  · rw [State.busErrRecord_fresh hclear] at haddr hinfo
    rw [haddr, hinfo, State.reg_setReg_self, State.reg_setReg_other _ _ _ _ (by decide), State.reg_setReg_self]
    exact ⟨rfl, bitsOf_busErrInfo p (by omega)⟩
  · rw [State.busErrRecord_of_flag hset] at haddr hinfo
    exact ⟨haddr, hinfo⟩
end

section
namespace Sys2Proof.Machine

/-! ### The registers through a reset -/

theorem State.reg_of_regs {s t : State} (h : t.regs = s.regs) (a : Nat) : t.reg a = s.reg a := by
  rw [State.reg_eq_getD, State.reg_eq_getD, h]

/-- A restore of every register. -/
theorem State.reg_restore_all (lvl : Nat) {s : State} (h : Registers.wf s.regs = true) (a : Nat) :
    (s.restore lvl (fun _ => true)).reg a = restoredWord lvl a (s.reg a) := by
  rw [State.reg_restore lvl _ s h, if_pos rfl]

theorem State.eraseAhead_regs (slot : Nat) (s : State) : (s.eraseAhead slot).regs = s.regs := by
  unfold State.eraseAhead
  split <;> rfl

theorem State.sheetPartly_regs (slot : Nat) (s : State) : (s.sheetPartly slot).regs = s.regs := by
  unfold State.sheetPartly
  split <;> rfl

theorem State.cutSheet_regs (s : State) : s.cutSheet.regs = s.regs := by
  unfold State.cutSheet
  split
  · rfl
  · exact (State.eraseAhead_regs _ _).trans (State.sheetPartly_regs _ _)

theorem State.storePartly_regs (s : State) : s.storePartly.regs = s.regs := by
  unfold State.storePartly
  split
  · rfl
  · exact (apply_ite State.regs _ _ _).trans (ite_self s.regs)

theorem State.cutRow_regs (c : OtpCmd) (pulses : Nat) (s : State) : (s.cutRow c pulses).regs = s.regs := by
  unfold State.cutRow
  split
  · rfl
  · dsimp only
    split <;> rfl

theorem State.cutOtp_reg (s : State) {a : Nat} (ha : a ≠ OTP_STAT) : s.cutOtp.reg a = s.reg a := by
  unfold State.cutOtp
  split
  · split
    · rw [State.reg_setFld_other _ _ _ _ ha, State.reg_setFld_other _ _ _ _ ha]
      exact State.reg_of_regs (State.cutRow_regs _ _ _) a
    · rfl
  · rfl

theorem State.wdgDisarm_reg (s : State) {a : Nat} (ha : a ≠ WDG_EV_STAT) : s.wdgDisarm.reg a = s.reg a := by
  unfold State.wdgDisarm
  dsimp only
  split
  · exact State.reg_setFld_other _ WDG_EV_STAT_CUT 1 a ha
  · rfl

/-- L0 and L1 restore every register at their level, but for the two that tell what the reset cut (R121, R126, R459). -/
theorem State.enterStart_reg {s : State} (h : Registers.wf s.regs = true) (lvl : Nat) {a : Nat} (hotp : a ≠ OTP_STAT)
    (hwdg : a ≠ WDG_EV_STAT) : (s.enterStart lvl false).reg a = restoredWord (if lvl = 0 then 2 else 3) a (s.reg a) := by
  have hkeep := State.dropBlocks_keeps (decide (lvl = 0)) lvl _ (State.wdgDisarm_keeps _ (State.cutOtp_keeps _
    (State.storePartly_keeps _ (State.cutSheet_keeps _ (Keeps.refl s)))))
  calc (s.enterStart lvl false).reg a
      = ((s.cutSheet.storePartly.cutOtp.wdgDisarm.dropBlocks (decide (lvl = 0)) lvl).restore
          (if decide (lvl = 0) then 2 else 3) (fun _ => true)).reg a := rfl
    _ = restoredWord (if decide (lvl = 0) then 2 else 3) a (s.cutSheet.storePartly.cutOtp.wdgDisarm.reg a) :=
        State.reg_restore_all _ (hkeep.regs h) a
    _ = restoredWord (if lvl = 0 then 2 else 3) a (s.reg a) := by
        rw [State.wdgDisarm_reg _ hwdg, State.cutOtp_reg _ hotp, State.reg_of_regs (State.storePartly_regs _),
          State.reg_of_regs (State.cutSheet_regs _)]
        simp

theorem named_VCP_REC_LO (n : Nat) : named [VCP_REC_LO 0] (VCP_REC_LO n) = true := by
  rw [named_single (d := ⟨0x120100, 0x8, 16, 0x4, 1, _⟩) rfl]
  exact RegDef.covers_add (Nat.mod_lt _ (by decide)) (by decide) (by decide)

theorem named_VCP_REC_HI (n : Nat) : named [VCP_REC_HI 0] (VCP_REC_HI n) = true := by
  rw [named_single (d := ⟨0x120104, 0x8, 16, 0x4, 1, _⟩) rfl]
  exact RegDef.covers_add (Nat.mod_lt _ (by decide)) (by decide) (by decide)

/-- Clearing the setpoint port's records leaves the other registers. -/
theorem State.clearRecords_reg (s : State) {a : Nat} (ha : named [VCP_REC_LO 0, VCP_REC_HI 0] a = false) :
    s.clearRecords.reg a = s.reg a := by
  have ne (b n : Nat) (hb : b ∈ [VCP_REC_LO n, VCP_REC_HI n]) : a ≠ b := by
    rintro rfl
    rw [named_cons, Bool.or_eq_false_iff] at ha
    rcases List.mem_pair.mp hb with rfl | rfl
    · rw [named_VCP_REC_LO] at ha
      cases ha.1
    · rw [named_VCP_REC_HI] at ha
      cases ha.2
  have each (l : List Nat) (u : State) : (forEach l
      (fun n t => (t.setReg (VCP_REC_LO n) 0x88888888#32).setReg (VCP_REC_HI n) 0x88888888#32) u).reg a = u.reg a := by
    unfold forEach
    induction l generalizing u with
    | nil => rfl
    | cons n r ih =>
      rw [List.foldl_cons, ih, State.reg_setReg_other _ _ _ _ (ne _ n (by simp)), State.reg_setReg_other _ _ _ _ (ne _ n (by simp))]
  have hall := each (List.range 16) s
  unfold State.clearRecords
  generalize forEach (List.range 16) _ s = t at hall ⊢
  exact hall

theorem State.driveInt_regs (s : State) : s.driveInt.regs = s.regs := by
  unfold State.driveInt
  dsimp only
  split
  · split <;> rfl
  · split <;> rfl

/-- L2 and L3 restore every register at their level; an L2 clears the setpoint port's records besides (R52). -/
theorem State.enterRestart_reg {s : State} (h : Registers.wf s.regs = true) (hsweep : s.flag CEL_STAT_SWEEP = false) (lvl : Nat)
    (wdg : Bool) {a : Nat} (hrec : named [VCP_REC_LO 0, VCP_REC_HI 0] a = true → lvl ≠ 2) :
    (s.enterRestart lvl wdg).reg a = restoredWord (if lvl = 2 then 4 else 5) a (s.reg a) := by
  have hcalm : s.abandonSweep = s := by simp [State.abandonSweep, hsweep]
  unfold State.enterRestart
  rw [hcalm]
  dsimp only
  generalize hu : (if s.boot.resetNLow then _ else _ : State) = u
  have hregs : u.regs = s.regs := by
    subst hu
    split <;> rfl
  by_cases hlvl : lvl = 2
  · have hnot : named [VCP_REC_LO 0, VCP_REC_HI 0] a = false := by
      rw [← Bool.not_eq_true]
      exact fun hn => hrec hn hlvl
    rw [if_pos hlvl, if_pos hlvl, State.reg_of_regs (State.driveInt_regs _), State.clearRecords_reg _ hnot]
    calc (u.cutSheet.restore 4 (fun _ => true)).reg a
        = restoredWord 4 a (u.cutSheet.reg a) := State.reg_restore_all 4 (by rw [State.cutSheet_regs, hregs]; exact h) a
      _ = restoredWord 4 a (s.reg a) := by rw [State.reg_of_regs ((State.cutSheet_regs u).trans hregs)]
  · rw [if_neg hlvl, if_neg hlvl, State.reg_restore_all 5 (by rw [hregs]; exact h), State.reg_of_regs hregs]

theorem State.beginPhases_regs (s : State) : s.beginPhases.regs = s.regs := by
  unfold State.beginPhases
  split
  · rfl
  · split <;> rfl

/-- A reset performed at a level restores every register at it, but for the four that record the reset and what it cut, and the
setpoint port's records. -/
theorem State.performReset_reg {s : State} (h : Registers.wf s.regs = true) (hsweep : s.flag CEL_STAT_SWEEP = false) {lvl : Nat}
    (hlvl : lvl < 4) (src : Nat) {a : Nat} (hstat : a ≠ RPC_RST_STAT) (hotp : a ≠ OTP_STAT) (hwdg : a ≠ WDG_EV_STAT)
    (hrec : named [VCP_REC_LO 0, VCP_REC_HI 0] a = true → lvl ≠ 2) :
    (s.performReset lvl src false).reg a = restoredWord (2 + lvl) a (s.reg a) := by
  unfold State.performReset
  dsimp only
  rw [State.reg_setFld_other _ _ _ _ hstat, State.reg_setFld_other _ _ _ _ hstat, State.reg_setFld_other _ _ _ _ hstat]
  by_cases hstart : lvl ≤ 1
  · calc _ = ((s.enterStart lvl false).beginPhases).reg a := by rw [if_pos hstart]; rfl
      _ = restoredWord (if lvl = 0 then 2 else 3) a (s.reg a) := by
          rw [State.reg_of_regs (State.beginPhases_regs _), State.enterStart_reg h lvl hotp hwdg]
      _ = restoredWord (2 + lvl) a (s.reg a) := by
          congr 1
          split <;> omega
  · calc _ = (s.enterRestart lvl (src == 3)).reg a := by rw [if_neg hstart]; rfl
      _ = restoredWord (if lvl = 2 then 4 else 5) a (s.reg a) := State.enterRestart_reg h hsweep lvl _ hrec
      _ = restoredWord (2 + lvl) a (s.reg a) := by
          congr 1
          split <;> omega

/-! ### A software reset in Idle -/

theorem fieldsOf_RPC_SWRST : (fieldsOf RPC_SWRST).all (fun f => f.kind == .wo) = true := by decide

/-- No write changes the word of SWRST. -/
theorem writtenWord_RPC_SWRST (old w : Word) : writtenWord (fieldsOf RPC_SWRST) old w = old := by
  refine BitVec.eq_of_getLsbD_eq fun i hi => ?_
  have hwo (f : FieldSpec) (hf : f ∈ fieldsOf RPC_SWRST) : f.kind = .wo := by
    simpa using List.all_eq_true.mp fieldsOf_RPC_SWRST f hf
  by_cases hhas : ∃ f ∈ fieldsOf RPC_SWRST, f.has i = true
  · obtain ⟨f, hf, hfi⟩ := hhas
    rw [getLsbD_writtenWord_of_has old w hf hfi, hwo f hf]
    rfl
  · push Not at hhas
    exact getLsbD_writtenWord_of_none old w fun f hf => by simpa using hhas f hf

theorem State.reg_setReg_same (s : State) (a b : Nat) : (s.setReg a (s.reg a)).reg b = s.reg b := by
  by_cases hb : b = a
  · rw [hb, State.reg_setReg_self]
  · exact s.reg_setReg_other a b _ hb

/-- The level that RST_MAP gives a software reset is one of the four. -/
theorem State.mapLevel_swrst_lt (s : State) : s.mapLevel 4 < 4 := Nat.mod_lt _ (by decide)

/-- A write of SWRST with its key asks for a reset at the level of RST_MAP (R117). -/
theorem State.busWrite_swrst {s : State} {path : Path} (side : Side) (hans : s.answers path = true)
    (hearly : s.early path RPC_SWRST = false) : s.busWrite path (adr RPC_SWRST) 0x5E7A0000 side =
      (s.setReg RPC_SWRST (s.reg RPC_SWRST)).requestReset 4 (s.mapLevel 4) false := by
  have haddr : (adr RPC_SWRST).toNat = RPC_SWRST := by decide
  have hbus : s.busFault path true (adr RPC_SWRST).toNat = none := by
    have halign : RPC_SWRST % 4 = 0 := by decide
    have hwin : windowOf RPC_SWRST = some .regs := by decide
    simp [State.busFault, haddr, hwin, hearly, halign]
  rw [State.busWrite_regs _ side hans hbus (by decide), haddr, State.regWrite_accepted side (by decide) (fun h => absurd h (by decide))
    (show lowest (reservedBit (fieldsOf RPC_SWRST) 0x5E7A0000) none = none by decide) (by decide)]
  change ((s.setReg RPC_SWRST (writtenWord (fieldsOf RPC_SWRST) (s.reg RPC_SWRST) 0x5E7A0000)).requestReset 4 (s.mapLevel 4) false)
    = _
  rw [writtenWord_RPC_SWRST]

/-- In Idle, with no reset waiting and no restart in progress, a request is performed at once. -/
theorem State.requestReset_of_idle {s : State} (hidle : s.idle = true) (hwait : s.boot.waiting = none) (hrestart : s.boot.restart = none)
    (src lvl : Nat) : s.requestReset src lvl false = (s.noteCause src).performReset lvl src false := by
  simp only [State.idle, Bool.and_eq_true, Bool.not_eq_true'] at hidle
  obtain ⟨hactive, hrail⟩ := hidle
  have hpower : s.boot.power = .active := by simpa [State.active] using hactive
  simp [State.requestReset, hpower, hwait, State.requestLate, hrestart, hrail]

end Sys2Proof.Machine

open Sys2Proof Sys2Proof.Machine

/-- Settles O9: a restore is its field table's, and a software reset in Idle is one restore beside the registers named. -/
theorem restoreByLevel : Obligations.RestoreByLevel := by
  refine ⟨fun s lvl p hwf a => ⟨fun hp => ?_, fun hp f hf i hlo hhi => ?_⟩, fun s path hwf hans hearly hidle hwait hrestart hsweep => ?_⟩
  · rw [State.reg_restore lvl p s hwf, if_neg (by simp [hp])]
  · exact State.getLsbD_reg_restore lvl s hwf hp hf ((f.has_iff i).mpr ⟨hlo, hhi⟩)
  · have heq := State.writeRow_eq path (adr RPC_SWRST) 0x5E7A0000 Side.untold s
    rw [State.busWrite_swrst Side.untold hans hearly] at heq
    set u := s.setReg RPC_SWRST (s.reg RPC_SWRST) with hu
    have hreg (a : Nat) : u.reg a = s.reg a := s.reg_setReg_same RPC_SWRST a
    have hfld (f : Fld) : u.fld f = s.fld f := by simp [State.fld, hreg]
    have hflag (f : Fld) : u.flag f = s.flag f := by simp [State.flag, hfld]
    have hidleU : u.idle = true := by
      rw [← hidle]
      simp only [State.idle, State.railUp, State.active, hfld]
      rfl
    rw [State.requestReset_of_idle hidleU hwait hrestart] at heq
    refine ⟨_, congrArg Host.Outcome.next heq, fun a ha hrec f hf i hlo hhi => ?_⟩
    simp only [List.mem_cons, List.not_mem_nil, or_false, not_or] at ha
    obtain ⟨hcause, hstat, hotp, hwdg⟩ := ha
    have hwfU := (State.noteCause_keeps 4 _ (State.setReg_keeps _ RPC_SWRST (s.reg RPC_SWRST) (Keeps.refl s))).regs hwf
    have hsweepU : (u.noteCause 4).flag CEL_STAT_SWEEP = false := by
      rw [← hsweep, ← hflag, State.flag, State.noteCause, State.fld_setFld_other _ _ _ _ (by decide)]
      rfl
    have hword := State.performReset_reg hwfU hsweepU s.mapLevel_swrst_lt 4 hstat hotp hwdg hrec
    rw [State.noteCause, State.reg_setFld_other _ _ _ _ hcause, hreg] at hword
    change (((u.noteCause 4).performReset (s.mapLevel 4) 4 false).reg a).getLsbD i = _
    rw [State.noteCause, hword]
    exact getLsbD_restoredWord _ _ hf ((f.has_iff i).mpr ⟨hlo, hhi⟩)
end

section
namespace Sys2Proof.Machine

/-! ### What leaves the backup domain alone -/

/-- Through what happens from `s` to `t` the backup domain stands: its own state, and every / BKP field of its registers, where the
list of registers has its form. -/
structure Island (s t : State) : Prop where
  bkd : t.bkd = s.bkd
  wf : Registers.wf s.regs = true → Registers.wf t.regs = true
  field : Registers.wf s.regs = true → ∀ a, a / 0x10000 = 4 → ∀ f ∈ fieldsOf a, f.level = 0 →
    t.reg a &&& f.mask = s.reg a &&& f.mask

namespace Island

theorem refl (s : State) : Island s s := ⟨rfl, id, fun _ _ _ _ _ _ => rfl⟩

theorem trans {s t u : State} (h : Island s t) (k : Island t u) : Island s u :=
  ⟨k.bkd.trans h.bkd, fun x => k.wf (h.wf x), fun x a ha f hf hl => (k.field (h.wf x) a ha f hf hl).trans (h.field x a ha f hf hl)⟩

/-- Where no register of the domain changes. -/
theorem of_regs {s t : State} (hbkd : t.bkd = s.bkd) (hwf : Registers.wf s.regs = true → Registers.wf t.regs = true)
    (hreg : ∀ a, a / 0x10000 = 4 → t.reg a = s.reg a) : Island s t :=
  ⟨hbkd, hwf, fun _ a ha _ _ _ => by rw [hreg a ha]⟩

/-- An update of any other part of the state. -/
theorem parts {σ s : State} (h : Island σ s) {pd sh fr clk boot icu hst wdg jnl pins bnd brk seq vcp cpm msr thm cel mtr lnk sram flash} :
    Island σ (State.mk pd s.regs sh fr clk boot s.bkd icu hst wdg jnl pins bnd brk seq vcp cpm msr thm cel mtr lnk sram flash) :=
  ⟨h.bkd, h.wf, h.field⟩

theorem ite {σ s t : State} {c : Prop} [Decidable c] (hs : Island σ s) (ht : Island σ t) : Island σ (if c then s else t) := by
  split
  · exact hs
  · exact ht

theorem onlyIf {σ s : State} {b : Bool} {f : State → State} (hf : ∀ u, Island σ u → Island σ (f u)) (h : Island σ s) :
    Island σ (onlyIf b f s) := ite (hf s h) h

theorem forEach {σ s : State} {α : Type} {l : List α} {f : α → State → State} (hf : ∀ a u, Island σ u → Island σ (f a u))
    (h : Island σ s) : Island σ (forEach l f s) := by
  unfold Machine.forEach
  induction l generalizing s with
  | nil => exact h
  | cons a r ih => exact ih (hf a s h)

/-- The registers of the domain are those of one page, and the arrays of the others stand above it. -/
theorem page_add {b n : Nat} (h : 0x50000 ≤ b) : (b + n) / 0x10000 ≠ 4 := by omega

theorem loud_of_page {a : Nat} (ha : a / 0x10000 = 4) : loud a = false := by
  have hsrc : ¬ICU_SRC 0 ≤ a := by
    rw [show ICU_SRC 0 = 0x1B1000 from rfl]
    omega
  have hlist : a ∉ [ICU_STAT, JNL_STAT, JNL_LOST, GLB_SUMMARY, LNK_DROP_CNT] := fun hmem =>
    have hpage : ∀ b ∈ [ICU_STAT, JNL_STAT, JNL_LOST, GLB_SUMMARY, LNK_DROP_CNT], b / 0x10000 ≠ 4 := by decide
    hpage a hmem ha
  simp [loud, isArr, hsrc, List.contains_eq_mem, hlist]

/-- A report leaves it alone. -/
theorem of_calm {σ s t : State} (h : Island σ s) (hc : Calm s t) (hk : Keeps s t) : Island σ t :=
  h.trans (of_regs hc.bkd hk.regs fun a ha => hc.reg a (loud_of_page ha))

theorem of_raised {σ s t : State} (h : Island σ s) (hr : Raised s t) (hk : Keeps s t) : Island σ t :=
  h.trans (of_regs (hr.parts .bkd) hk.regs fun a ha =>
    have ⟨hsrc, hstat, _, _, _, hdrop⟩ := loud_eq_false (loud_of_page ha)
    hr.reg a hsrc hstat hdrop)

variable {σ s : State}

/-! ### The shared operations -/

theorem takeFree {w : Nat} (h : Island σ s) : Island σ (s.takeFree w).2 := h.parts

theorem setReg {a : Nat} {v : Word} (ha : a / 0x10000 ≠ 4) (h : Island σ s) : Island σ (s.setReg a v) :=
  h.trans (of_regs rfl (Registers.wf_setRegs _ _ _) fun b hb => s.reg_setReg_other a b v (fun e => ha (e ▸ hb)))

theorem setFld {f : Fld} {v : Nat} (hf : f.reg / 0x10000 ≠ 4) (h : Island σ s) : Island σ (s.setFld f v) := setReg hf h

theorem setFlag {f : Fld} {b : Bool} (hf : f.reg / 0x10000 ≠ 4) (h : Island σ s) : Island σ (s.setFlag f b) := setFld hf h

theorem raise {src : Nat} (h : Island σ s) : Island σ (s.raise src) :=
  h.of_raised (State.raise_raised src s (.refl s)) (State.raise_keeps src s (.refl s))

theorem flagRaise {f : Fld} {src : Nat} (hf : f.reg / 0x10000 ≠ 4) (h : Island σ s) : Island σ (s.flagRaise f src) :=
  raise (setFld hf h)

theorem sheet {type : Nat} {payload : List Byte} (h : Island σ s) : Island σ (s.sheet type payload) :=
  h.of_calm (State.sheet_calm type payload s (.refl s)) (State.sheet_keeps type payload s (.refl s))

theorem send {type mode : Nat} {both : Bool} {payload : List Byte} (h : Island σ s) : Island σ (s.send type mode both payload) :=
  h.of_calm (State.send_calm type mode both payload s (.refl s)) (State.send_keeps type mode both payload s (.refl s))

theorem sendTo {type target tag : Nat} {payload : List Byte} (h : Island σ s) : Island σ (s.sendTo type target tag payload) :=
  h.of_calm (State.sendTo_calm type target tag payload s (.refl s)) (State.sendTo_keeps type target tag payload s (.refl s))

theorem driveInt (h : Island σ s) : Island σ s.driveInt :=
  h.of_calm (State.driveInt_calm s (.refl s)) (State.driveInt_keeps s (.refl s))

theorem refillQueue (h : Island σ s) : Island σ s.refillQueue := by
  refine h.of_raised ?_ (State.refillQueue_keeps s (.refl s))
  refine State.driveInt_raised _ (forEach_raised (fun src u hu => ?_) (.refl s))
  split
  · exact State.chain_raised _ _ (State.deliver_raised u src hu)
  · exact State.unwait_raised src u hu

/-- A restore at a level keeps the / BKP fields (R7). -/
theorem restore {lvl : Nat} {p : Nat → Bool} (hl : 1 ≤ lvl) (h : Island σ s) : Island σ (s.restore lvl p) := by
  refine h.trans ⟨rfl, (State.restore_keeps lvl p s (.refl s)).regs, fun hwf a _ f hf hlevel => ?_⟩
  refine BitVec.eq_of_getLsbD_eq fun i hi => ?_
  rw [BitVec.getLsbD_and, BitVec.getLsbD_and, f.getLsbD_mask hi]
  by_cases hfi : f.has i = true
  · have hbit : ((s.restore lvl p).reg a).getLsbD i = (s.reg a).getLsbD i := by
      by_cases hp : p a = true
      · rw [State.getLsbD_reg_restore lvl s hwf hp hf hfi, if_neg (by omega)]
      · rw [State.reg_restore lvl p s hwf, if_neg hp]
    rw [hbit]
  · simp [hfi]

/-! ### Sheets, stores and the OTP cut short -/

theorem eraseAhead {slot : Nat} (h : Island σ s) : Island σ (s.eraseAhead slot) := ite (parts h) h

theorem sheetPartly {slot : Nat} (h : Island σ s) : Island σ (s.sheetPartly slot) := by
  unfold State.sheetPartly
  split
  · exact h
  · exact parts (takeFree h)

theorem cutSheet (h : Island σ s) : Island σ s.cutSheet := by
  unfold State.cutSheet
  split
  · exact h
  · exact parts (eraseAhead (sheetPartly h))

theorem storePartly (h : Island σ s) : Island σ s.storePartly := by
  unfold State.storePartly
  split
  · exact h
  · exact ite (parts (takeFree h)) (parts (parts (parts (takeFree h))))

theorem cutRow {c : OtpCmd} {n : Nat} (h : Island σ s) : Island σ (s.cutRow c n) :=
  ite h (ite h (parts (takeFree (takeFree (takeFree h)))))

theorem cutOtp (h : Island σ s) : Island σ s.cutOtp := by
  unfold State.cutOtp
  split
  · exact ite (setFld (by decide) (setFld (by decide) (parts (cutRow (takeFree h))))) h
  · exact h

theorem wdgDisarm (h : Island σ s) : Island σ s.wdgDisarm := parts (ite (setFld (by decide) h) h)

/-! ### A sweep abandoned, drivers released -/

theorem owRelease (h : Island σ s) : Island σ s.owRelease := ite (setFld (by decide) (parts h)) h

theorem showLim (h : Island σ s) : Island σ s.showLim := ite h (raise (setFld (by decide) h))

theorem setYield {b : Bool} (h : Island σ s) : Island σ (s.setYield b) := ite h (raise (setFlag (by decide) h))

theorem closeWindow (h : Island σ s) : Island σ s.closeWindow := owRelease (showLim (setYield (setFld (by decide) (parts h))))

theorem windowStatus {w : Window} {v : Nat} (h : Island σ s) : Island σ (s.windowStatus w v) := by
  have hstat := setFld (v := v) (show (if w.active then CEL_FQ_A_STAT w.j else CEL_FQ_P_STAT w.j).reg / 0x10000 ≠ 4 by
    split <;> exact page_add (by decide)) h
  exact ite (setFld (page_add (by decide)) hstat) hstat

theorem abandonSweep (h : Island σ s) : Island σ s.abandonSweep := by
  refine ite h (setFld (by decide) (parts ?_))
  split
  · exact closeWindow (windowStatus h)
  · exact h

theorem driversOff (h : Island σ s) : Island σ s.driversOff := ite h (parts (setReg (by decide) h))

/-! ### A bond's re-lay or store ended -/

theorem recordBond {e : BondErr} (h : Island σ s) : Island σ (s.recordBond e) := setReg (by decide) (setReg (by decide) h)

theorem bondSheet {code : Nat} {e : BondErr} {o : Option Nat} (h : Island σ s) : Island σ (s.bondSheet code e o) := sheet h

theorem seqRefresh (h : Island σ s) : Island σ s.seqRefresh := by
  have hrole (v : Nat) : Island σ (s.setFld SEQ_STAT_ROLE v) := setFld (by decide) h
  have hphase (v w : Nat) : Island σ ((s.setFld SEQ_STAT_ROLE v).setFld SEQ_STAT_PHASE w) := setFld (by decide) (hrole v)
  exact ite (hrole _) (ite (hphase _ _) (ite (hphase _ _) (ite (hphase _ _) (hphase _ _))))

theorem answerDist (h : Island σ s) : Island σ s.answerDist := by
  unfold State.answerDist
  split
  · exact sendTo (parts h)
  · exact h

theorem endRequest {result : Nat} (h : Island σ s) : Island σ (s.endRequest result) :=
  setFld (by decide) (setFld (by decide) (parts (ite h (setFld (by decide) h))))

theorem abortRelay {reason : Nat} (h : Island σ s) : Island σ (s.abortRelay reason) :=
  ite (raise (seqRefresh (answerDist (endRequest (bondSheet (recordBond h)))))) h

theorem storeFailed {reason : Option Nat} (h : Island σ s) : Island σ (s.storeFailed reason) := by
  refine raise (parts (answerDist (endRequest ?_)))
  split
  · exact bondSheet (recordBond h)
  · exact bondSheet (takeFree (takeFree (takeFree h)))

theorem bondRestarted (h : Island σ s) : Island σ s.bondRestarted := ite (storeFailed (storePartly h)) (seqRefresh (abortRelay h))

/-! ### A charge session ended -/

theorem putTarget {n target src : Nat} {loop : Bool} (h : Island σ s) : Island σ (s.putTarget n loop target src) := by
  have ht {f : Brick → Brick} : Island σ (((s.setFld (BRK_TARGET_TARGET n) target).setFlag (BRK_TARGET_LOOP n) loop).updBrick n f) :=
    parts (setFlag (page_add (by decide)) (setFld (page_add (by decide)) h))
  exact ite (setFlag (page_add (by decide)) ht) ht

theorem endSession {reason : Nat} (h : Island σ s) : Island σ (s.endSession reason) := by
  refine ite (raise (flagRaise (by decide) (sheet (ite (parts ?_) ?_)))) h
  all_goals exact ite (putTarget (parts (setReg (by decide) (setFld (by decide) (setFld (by decide) (setFld (by decide)
    (setFld (by decide) h))))))) (parts (setReg (by decide) (setFld (by decide) (setFld (by decide) (setFld (by decide)
    (setFld (by decide) h))))))

/-! ### The bricks halted -/

theorem dropInjection {n : Nat} (h : Island σ s) : Island σ (s.dropInjection n) := by
  unfold State.dropInjection
  split
  · exact ite (raise (setFld (by decide) (parts h))) h
  · exact h

theorem cutHold {n : Nat} (h : Island σ s) : Island σ (s.cutHold n) :=
  ite (sheet (setFld (page_add (by decide)) (setFld (page_add (by decide)) h))) h

theorem setBrkState {n st : Nat} (h : Island σ s) : Island σ (s.setBrkState n st) :=
  ite h (raise (setFld (page_add (by decide)) h))

theorem syncLanes {n : Nat} (h : Island σ s) : Island σ (s.syncLanes n) :=
  forEach (fun _ _ hu => onlyIf (fun _ hv => parts hv) hu) h

theorem recFld_page (n q : Nat) : (recFld n q).reg / 0x10000 ≠ 4 := by
  unfold recFld
  split <;> exact page_add (by decide)

theorem decideRec {n q state why : Nat} (h : Island σ s) : Island σ (s.decideRec n q state why) := by
  have ht {i : _} : Island σ { s.setFld (recFld n q) state with vcp := i } := parts (setFld (recFld_page n q) h)
  exact ite (raise (sheet ht)) (ite (raise ht) (ite (raise ht) ht))

theorem failRecs {n why : Nat} (h : Island σ s) : Island σ (s.failRecs n why) := parts (forEach (fun _ _ hu => decideRec hu) h)

theorem startFallback (h : Island σ s) : Island σ s.startFallback := by
  have hfb : Island σ (s.setFld MSR_STAT_TRIG_FB 1) := setFld (by decide) h
  exact parts hfb

theorem leaderOff {n : Nat} (h : Island σ s) : Island σ (s.leaderOff n) := ite (startFallback h) h

theorem haltBrick {n : Nat} (h : Island σ s) : Island σ (s.haltBrick n) :=
  ite h (onlyIf (fun _ hu => failRecs hu) (leaderOff (syncLanes (parts (cutHold (setFld (page_add (by decide))
    (setReg (page_add (by decide)) (setBrkState (onlyIf (fun _ hu => dropInjection hu) h)))))))))

/-! ### An all-off -/

theorem setPg {rail : Nat} {b : Bool} (h : Island σ s) : Island σ (s.setPg rail b) :=
  ite h (raise (setReg (by decide) (setFlag (page_add (by decide)) h)))

theorem railDown {rail : Nat} (h : Island σ s) : Island σ (s.railDown rail) :=
  parts (setFld (page_add (by decide)) (setFld (page_add (by decide)) (setPg (setReg (by decide) h))))

theorem dropAll (h : Island σ s) : Island σ s.dropAll := by
  unfold State.dropAll
  extract_lets told halted down course probe cel window
  have hhalted : Island σ halted := forEach (fun _ _ hu => haltBrick hu) (onlyIf (fun _ hu => send hu) h)
  have hcourse : Island σ course := setFld (by decide) (forEach (fun _ _ hu => railDown hu) hhalted)
  have hprobe : Island σ probe := ite (setFld (by decide) hcourse) hcourse
  have hwindow : Island σ window := parts hprobe
  exact seqRefresh (parts hwindow)

theorem markOff {brick : Option Nat} {code : Nat} {remote : Option (Nat × Bool)} (h : Island σ s) :
    Island σ (s.markOff brick code remote) := setReg (by decide) (parts h)

theorem recode {brick : Option Nat} {code : Nat} (h : Island σ s) : Island σ (s.recode brick code) := by
  unfold State.recode
  dsimp only
  split
  · exact parts (setFld (by decide) h)
  · exact setFld (by decide) h

theorem allOffBody {brick : Option Nat} {code : Nat} {remote : Option (Nat × Bool)} (h : Island σ s) :
    Island σ (s.allOffBody brick code remote) := by
  have hended := endSession (reason := 6) (dropAll (markOff (brick := brick) (code := code) (remote := remote) h))
  have hrelay {c : Prop} [Decidable c] := ite (c := c) (abortRelay (reason := 0x33) hended) hended
  refine ite ?_ (raise (parts (ite (send hrelay) hrelay)))
  split
  · exact ite (recode h) h
  · exact h

theorem allOff {code : Nat} {payload : List Byte} {remote : Option (Nat × Bool)} (h : Island σ s) :
    Island σ (s.allOff code payload remote) := allOffBody (sheet h)

/-! ### A level performed -/

theorem noteCause {src : Nat} (h : Island σ s) : Island σ (s.noteCause src) := setFld (by decide) h

theorem beginPhases (h : Island σ s) : Island σ s.beginPhases := ite (parts h) (ite (parts h) (parts h))

theorem enterStart {lvl : Nat} {bor : Bool} (h : Island σ s) : Island σ (s.enterStart lvl bor) := by
  have hcut := wdgDisarm (cutOtp (storePartly (cutSheet h)))
  have hlevel : Island σ ((s.cutSheet.storePartly.cutOtp.wdgDisarm.dropBlocks (decide (lvl = 0)) lvl).restore
      (if decide (lvl = 0) then 2 else 3) (fun _ => true)) := restore (by split <;> decide) (parts hcut)
  exact parts (ite (parts (restore (by decide) hlevel)) hlevel)

theorem clearRecords (h : Island σ s) : Island σ s.clearRecords :=
  parts (forEach (fun _ _ hu => setReg (page_add (by decide)) (setReg (page_add (by decide)) hu)) h)

theorem enterRestart {lvl : Nat} {wdg : Bool} (h : Island σ s) : Island σ (s.enterRestart lvl wdg) := by
  have hopen {b : Boot} : Island σ { s.abandonSweep with boot := b } := parts (abandonSweep h)
  exact ite (driveInt (clearRecords (parts (restore (by decide) (cutSheet (ite (parts hopen) hopen))))))
    (restore (by decide) (ite (parts hopen) hopen))

theorem performReset {lvl src : Nat} {bor : Bool} (h : Island σ s) : Island σ (s.performReset lvl src bor) :=
  setFld (by decide) (setFld (by decide) (setFld (by decide) (parts
    (ite (ite (parts (enterStart h)) (beginPhases (enterStart h))) (enterRestart h)))))

theorem brownOut (h : Island σ s) : Island σ s.brownOut := noteCause (performReset h)

/-! ### A reset requested -/

theorem bootFault {code : Nat} (h : Island σ s) : Island σ (s.bootFault code) := parts (setFld (by decide) h)

theorem restartP2 (h : Island σ s) : Island σ s.restartP2 := ite (parts (bootFault (parts (parts h)))) (parts h)

theorem equalRequest {src lvl : Nat} (h : Island σ s) : Island σ (s.equalRequest src lvl) :=
  ite (ite (setFld (by decide) (parts h)) (parts h)) h

theorem requestReset {src lvl : Nat} {quiet : Bool} (h : Island σ s) : Island σ (s.requestReset src lvl quiet) := by
  have ht : Island σ (s.noteCause src) := noteCause h
  unfold State.requestReset
  split
  · exact h
  · exact h
  · refine ite (restartP2 ht) ?_
    split
    · exact ite (parts ht) ht
    · exact ite (equalRequest ht) (ite (parts (allOff ht)) (performReset ht))

/-! ### A restart ended -/

theorem wdgJournal (h : Island σ s) : Island σ s.wdgJournal := ite (raise (setFld (by decide) (sheet h))) h

theorem newCycle {first : Bool} (h : Island σ s) : Island σ (s.newCycle first) := by
  have hfree : Island σ (if first then (0, s) else s.takeFree 11).2 := by
    split
    · exact h
    · exact takeFree h
  exact raise (parts (setReg (by decide) (setReg (by decide) hfree)))

theorem restartDone {lvl : Nat} {copiesOk : Bool} (h : Island σ s) : Island σ (s.restartDone lvl copiesOk) := by
  have hbond {b : _} {p : _} : Island σ (({ s with boot := b, pins := p } : State).startSheet.bondRestarted) :=
    bondRestarted (sheet (parts h))
  exact ite (ite (driveInt (refillQueue (onlyIf (fun _ hu => newCycle hu) (wdgJournal (endSession (ite (parts hbond) hbond))))))
    (requestReset (bootFault h))) h

/-! ### SWRST -/

theorem busErr {p : Path} {kind : Nat} {a : Word} (h : Island σ s) : Island σ (s.busErr p kind a) :=
  flagRaise (by decide) (ite h (setReg (by decide) (setReg (by decide) h)))

theorem busWrite_swrst {path : Path} (side : Side) (h : Island σ s) : Island σ (s.busWrite path (adr RPC_SWRST) 0x5E7A0000 side) := by
  by_cases hans : s.answers path = true
  · by_cases hearly : s.early path RPC_SWRST = true
    · have hbus : s.busFault path true (adr RPC_SWRST).toNat = some 4 := by
        have haddr : (adr RPC_SWRST).toNat = RPC_SWRST := by decide
        have halign : RPC_SWRST % 4 = 0 := by decide
        have hwin : windowOf RPC_SWRST = some .regs := by decide
        simp [State.busFault, haddr, halign, hwin, hearly]
      rw [State.busWrite_of_fault _ side hans hbus]
      exact busErr h
    · rw [State.busWrite_swrst side hans (by simpa using hearly)]
      exact requestReset (setReg (by decide) h)
  · rwa [show s.busWrite path (adr RPC_SWRST) 0x5E7A0000 side = s by simp [State.busWrite, hans]]

/-- A power-on reset restores what only it does, and takes the rest of the domain as it stands. -/
theorem por (h : Island σ s) {t : State} (ht : execPor s = .next t) : Island σ t := by
  have hcut := cutOtp (storePartly (cutSheet h))
  have hregs : Island σ (((s.cutSheet.storePartly.cutOtp.restore 1 (fun _ => true)).setFld RPC_RST_CAUSE_CAUSE 1).setFld
    MTR_STAT_RESTORING 1) := setFld (by decide) (setFld (by decide) (restore (by decide) hcut))
  cases ht
  exact parts hregs

theorem writeRow_swrst {path : Path} (side : Side) (h : Island σ s) :
    Island σ (s.writeRow path (adr RPC_SWRST) 0x5E7A0000 side) := by
  rw [State.writeRow_eq]
  exact parts (busWrite_swrst side h)

/-! ### The commands -/

theorem of_next {t u : State} (h : Island σ t) (hu : (Host.Outcome.next t : Host.Outcome State Fault Refusal) = .next u) :
    Island σ u := by
  cases hu
  exact h

theorem allOffTimelineEnd (h : Island σ s) {t : State} (ht : execAllOffTimelineEnd s = .next t) : Island σ t := by
  cases ht
  refine ite ?_ h
  have hended {b : Boot} {x : Thm} : Island σ { s.endTimeline with boot := b, thm := x } := parts (parts h)
  have hcause {c : Prop} [Decidable c] {b : Boot} {x : Thm} : Island σ
      (if c then { s.endTimeline with boot := b, thm := x }.noteCause 7 else { s.endTimeline with boot := b, thm := x }) :=
    ite (noteCause hended) hended
  dsimp only
  split
  · exact ite hcause (performReset hcause)
  · exact hcause

theorem shipModeSheetWritten (h : Island σ s) {t : State} (ht : execShipModeSheetWritten s = .next t) : Island σ t :=
  of_next (ite (parts (parts (wdgDisarm (cutOtp (storePartly (cutSheet (driversOff h))))))) h) ht

theorem wakePulse (h : Island σ s) {t : State} (ht : execWakePulse s = .next t) : Island σ t :=
  of_next (ite (setFld (by decide) (setFld (by decide) (parts (parts (enterStart h))))) h) ht

theorem standbyEnter (h : Island σ s) {t : State} (ht : execStandbyEnter s = .next t) : Island σ t :=
  of_next (ite (setFld (by decide) (parts h)) h) ht

theorem resetNRelease {tst : Bool} (h : Island σ s) {t : State} (ht : execResetNRelease tst s = .next t) : Island σ t :=
  of_next (ite (beginPhases (parts h)) (ite (parts h) (parts h))) ht

theorem reset {key : BitVec 16} {unicast : Bool} (h : Island σ s) {t : State} (ht : execReset key unicast s = .next t) :
    Island σ t := by
  refine of_next (ite (ite (requestReset h) ?_) h) ht
  rw [State.bump_eq]
  exact ite (setFld (by decide) h) h

/-- Each command of a reset, a power loss, the way to Dormant or Standby and the wake from it. -/
theorem of_exec {c : Instr} (hc : c ∈ [.por, .bor, .inputCollapse, .resetNAssert, .wakePulse, .shipModeSheetWritten,
      .swrst .spi, .swrst .i2c, .swrst .link, .swrst .sup, .allOffTimelineEnd, .wdoPulseEnd, .switchCycleTimer,
      .supervisorLaneMismatch, .serviceProcessorFault, .reset 0x5E7A true, .resetNRelease false,
      .resetNRelease true, .l2RestartDone true, .l2RestartDone false, .l3RestartDone true, .l3RestartDone false, .standbyEnter])
    {t : State} (ht : exec c s = .next t) : Island s t := by
  have h := refl s
  simp only [List.mem_cons, List.not_mem_nil, or_false] at hc
  rcases hc with rfl | rfl | rfl | rfl | rfl | rfl | rfl | rfl | rfl | rfl | rfl | rfl | rfl | rfl | rfl | rfl | rfl | rfl | rfl | rfl |
    rfl | rfl | rfl
  · exact por h ht
  · exact of_next (ite (brownOut h) h) ht
  · exact of_next (ite (brownOut h) h) ht
  · exact of_next (requestReset (parts h)) ht
  · exact wakePulse h ht
  · exact shipModeSheetWritten h ht
  · exact of_next (writeRow_swrst _ h) ht
  · exact of_next (writeRow_swrst _ h) ht
  · exact of_next (writeRow_swrst _ h) ht
  · exact of_next (writeRow_swrst _ h) ht
  · exact allOffTimelineEnd h ht
  · exact of_next (ite (requestReset (parts h)) h) ht
  · exact of_next (ite (requestReset (parts h)) h) ht
  · exact of_next (ite (requestReset (sheet h)) h) ht
  · exact of_next (ite (requestReset h) h) ht
  · exact reset h ht
  · exact resetNRelease h ht
  · exact resetNRelease h ht
  · exact of_next (restartDone h) ht
  · exact of_next (restartDone h) ht
  · exact of_next (restartDone h) ht
  · exact of_next (restartDone h) ht
  · exact standbyEnter h ht

end Island

/-! ### The first rise of VBAK -/

/-- A word of the domain with its / BKP fields at their reset values. -/
def firstWord (a : Nat) (w : Word) : Word :=
  (w &&& ~~~(maskOf (fun f => f.level == 0) (fieldsOf a))) ||| (regReset a &&& maskOf (fun f => f.level == 0) (fieldsOf a))

theorem getLsbD_firstWord (w : Word) {a i : Nat} {f : FieldSpec} (hf : f ∈ fieldsOf a) (hl : f.level = 0) (hi : f.has i = true) :
    (firstWord a w).getLsbD i = (regReset a).getLsbD i := by
  simp only [firstWord, BitVec.getLsbD_or, BitVec.getLsbD_and, BitVec.getLsbD_not, lt_32_of_has hf hi,
    getLsbD_maskOf_of_has _ hf hi, hl]
  simp

theorem firstWord_regReset (a : Nat) : firstWord a (regReset a) = regReset a := by
  refine BitVec.eq_of_getLsbD_eq fun i hi => ?_
  simp only [firstWord, BitVec.getLsbD_or, BitVec.getLsbD_and, BitVec.getLsbD_not, hi]
  cases (regReset a).getLsbD i <;> simp

theorem bkdReset_regs (s : State) :
    s.bkdReset.regs = s.regs.filterMap (rewrittenEntry firstWord (fun a => decide (a / 0x10000 = 4))) := by
  unfold State.bkdReset rewrittenEntry
  simp only [decide_eq_true_eq]
  rfl

/-- The domain's registers as they stand at the first rise. -/
theorem State.bkdReset_reg {s : State} (h : Registers.wf s.regs = true) {a : Nat} (ha : a / 0x10000 = 4) :
    s.bkdReset.reg a = firstWord a (s.reg a) := by
  rw [State.reg_eq_getD, State.reg_eq_getD, bkdReset_regs, findReg_rewritten firstWord_regReset _ a _ h, if_pos (by simpa using ha)]

theorem State.bkdReset_field {s : State} (h : Registers.wf s.regs = true) {a : Nat} (ha : a / 0x10000 = 4) {f : FieldSpec}
    (hf : f ∈ fieldsOf a) (hl : f.level = 0) : s.bkdReset.reg a &&& f.mask = regReset a &&& f.mask := by
  rw [State.bkdReset_reg h ha]
  refine BitVec.eq_of_getLsbD_eq fun i hi => ?_
  rw [BitVec.getLsbD_and, BitVec.getLsbD_and, f.getLsbD_mask hi]
  by_cases hfi : f.has i = true
  · rw [getLsbD_firstWord _ hf hl hfi]
  · simp [hfi]

end Sys2Proof.Machine

open Sys2Proof Sys2Proof.Machine

/-- Settles O10: no operation of those commands writes a register of the domain's page or its part of the state, and a restore
keeps the / BKP fields; the first rise of VBAK rewrites every word of the page. -/
theorem backupKeptThroughResets : Obligations.BackupKeptThroughResets := by
  refine ⟨fun s t c hc ht => ?_, fun s hoff hwf => ?_⟩
  · obtain ⟨hbkd, -, hfield⟩ := Island.of_exec hc ht
    rw [hbkd]
    exact ⟨rfl, rfl, rfl, rfl, rfl, fun a ha hregs => hfield hregs a ha⟩
  · set u := ({ s with bkd := { s.bkd with powered := true, sampleAt := s.clk.bak } } : State).bkdReset with hu
    have hexec : exec .vbakFirstRise s = .next ((u.raise 787).raise 788) := by
      change Host.Outcome.next (if s.bkd.powered then s else _) = _
      rw [if_neg (by simp [hoff])]
    obtain ⟨hbkd, -, hfield⟩ := Island.raise (src := 788) (Island.raise (src := 787) (Island.refl u))
    have hwfU : Registers.wf u.regs = true := (State.bkdReset_keeps _ (Keeps.refl _)).regs hwf
    refine ⟨_, hexec, ?_⟩
    rw [hbkd]
    refine ⟨rfl, rfl, rfl, rfl, rfl, fun a ha f hf hl => ?_⟩
    rw [hfield hwfU a ha f hf hl, hu]
    exact State.bkdReset_field hwf ha hf hl
end

section
namespace Sys2Proof.Machine

/-! ### Two check-ins of one task in one tick -/

/-- What the host ports tell of their transactions is in no register. -/
theorem State.fld_with_hst (s : State) (h : Hst) (f : Fld) : ({ s with hst := h } : State).fld f = s.fld f := rfl

/-- A device of an enumerated link whose watchdog runs inside the window of a cycle, with host task 12 registered. -/
def watchdogOpen : State := { State.reset with
  boot := { Boot.initial with power := .active }
  wdg := { Wdg.initial with armed := true, count := 150, tOpen := 100, tClose := 200 }
  regs := (((State.reset.setReg WDG_CHAL 0xE270).setReg WDG_TASKS 0x1001).setFlag LNK_ADDR_UNADDR false).regs }

/-- After task 12 has checked in from the link with a wrong value: the failure 0x0C04 of this tick is recorded. -/
def wrongFromLink : State :=
  watchdogOpen.writeRow .link (adr WDG_CHECKIN) 0xC0000 { Side.untold with pc := some (0, 0, 0, 0) }

theorem exec_checkin_watchdogOpen : exec (.checkin .link 12 0 (0, 0, 0, 0)) watchdogOpen = .next wrongFromLink := rfl

/-- Task 12 checks in once more in the same tick, now with the challenge. -/
def checkinAgain (p : Path) : State := wrongFromLink.writeRow p (adr WDG_CHECKIN) 0xCE270 Side.untold

theorem exec_checkinAgain (p : Path) :
    exec (.registerWrite p (adr WDG_CHECKIN) 0xCE270) wrongFromLink = .next (checkinAgain p) :=
  exec_registerWrite p _ _ _

/-- From the link it is judged after the wrong one, whose code stands (R453). -/
theorem code_checkinAgain_link : (checkinAgain .link).fld WDG_EV_STAT_CODE = 0x0C04 := by decide

/-- From the host port it is judged before the link's, which becomes a double check-in (R453). -/
theorem code_checkinAgain_spi : (checkinAgain .spi).fld WDG_EV_STAT_CODE = 0x0C02 := by decide

end Sys2Proof.Machine

open Sys2Proof Sys2Proof.Machine

/-- Refutes O19: check-ins of one tick are judged host port before link (R453), so WDG_CHECKIN keeps a trace of its writer. Where a
wrong check-in of the task has come from the link in this tick, the right one ends in the code 0x0C02 from the host port and in
0x0C04 from the link. -/
theorem not_equalRank : ¬ Obligations.EqualRank := by
  rintro ⟨hsame, -⟩
  have htarget : ∀ n : Nat, n < 16 → (adr WDG_CHECKIN).toNat ≠ BRK_TARGET n := by decide
  obtain ⟨t, h, hlink, hspi⟩ := hsame wrongFromLink (adr WDG_CHECKIN) 0xCE270 (by decide) (by decide) (by decide) htarget (by decide)
  rw [exec_checkinAgain, Host.Outcome.next.injEq] at hlink hspi
  subst hlink
  have hcode := code_checkinAgain_spi
  rw [hspi, State.fld_with_hst, code_checkinAgain_link] at hcode
  exact absurd hcode (by decide)
end

section
namespace Sys2Proof.Machine

/-! ### A trigger missed at a leader's update instant -/

/-- Leader 0 runs, in a hold, at an update instant, and the sense tile names it as the source of the common trigger; conversions of
the trigger before are still to start (R160, R194, R277). -/
def overrun : State := { State.reset with
  boot := { Boot.initial with power := .active }
  bnd := { Bnd.initial with tiles := [⟨7, 0, 0, 0, [1]⟩] }
  msr := { Msr.initial with senseEnd := 4 }
  regs := (((State.reset.setFld (BRK_CFG_ROLE 0) 1).setFld (BRK_STAT_STATE 0) brkRunning).setFld (BRK_LANE_STAT_HOLD 0) 1).regs }

/-- After the update instant of `overrun`: its trigger has come too early and is missed. -/
def overrunUpdate : State := overrun.leaderUpdate 0 [] [] []

theorem exec_brickUpdate_overrun : exec (.brickUpdate 0 ⟨[], []⟩ []) overrun = .next overrunUpdate := by
  have hdue : (overrun.active && decide (0 < 16) && switching (overrun.brkState 0) &&
      (if overrun.role 0 = 3 then overrun.leaderInstant (overrun.leader 0) else overrun.instantDue 0)) = true := by decide
  have hleader : overrun.role 0 = 1 := by decide
  exact congrArg Host.Outcome.next ((if_pos hdue).trans (if_pos hleader))

/-- The miss is counted (R277). -/
theorem reg_MSR_CNT_overrun : overrun.reg MSR_CNT = 0 ∧ overrunUpdate.reg MSR_CNT = 1 := by decide

end Sys2Proof.Machine

open Sys2Proof Sys2Proof.Machine

/-- Refutes O55: the update instant of a leader that gives the common trigger (R160) while that trigger cannot be accepted yet counts
a missed trigger in MSR_CNT (R277), which the frame of BRICK_UPDATE does not name. -/
theorem not_frameAllOff : ¬ Obligations.FrameAllOff := by
  rintro ⟨-, hupdate, -⟩
  obtain ⟨⟨hreg, -⟩, -⟩ := hupdate overrun overrunUpdate 0 ⟨[], []⟩ [] exec_brickUpdate_overrun
  have hcnt := hreg MSR_CNT (by decide) (by decide) (by decide)
  rw [reg_MSR_CNT_overrun.1, reg_MSR_CNT_overrun.2] at hcnt
  exact absurd hcnt (by decide)
end

section
namespace Sys2Proof.Machine

/-! ### What stands while the rest of an all-off comes -/

theorem BRK_STAT_mod (n : Nat) : BRK_STAT (n % 16) = BRK_STAT n := by
  simp only [BRK_STAT, Nat.mod_mod]

theorem loud_BRK_STAT (n : Nat) : loud (BRK_STAT n) = false := by
  have hall : ∀ k < 16, loud (BRK_STAT k) = false := by decide
  rw [← BRK_STAT_mod]
  exact hall _ (Nat.mod_lt n (by decide))

/-- The outputs an all-off drives, the course state it brings, and what says who drives the outputs. -/
def fallView (pins : Pins) (seq : Seq) (bnd : Bnd) (boot : Boot) :
    (Ball × Ball × Ball) × (Bool × Bool × List Action) × List Tile × Power :=
  ((pins.gates, pins.faultN, pins.cascOut), (seq.out, seq.timeline, seq.todo), bnd.tiles, boot.power)

/-- From `s` to `t` the record of an all-off, the course, every brick's STATE and the outputs stand. -/
structure Stands (s t : State) : Prop where
  record : t.reg SEQ_FAULT = s.reg SEQ_FAULT
  course : t.fld SEQ_STAT_DEV_COURSE = s.fld SEQ_STAT_DEV_COURSE
  brick : ∀ n, t.fld (BRK_STAT_STATE n) = s.fld (BRK_STAT_STATE n)
  view : fallView t.pins t.seq t.bnd t.boot = fallView s.pins s.seq s.bnd s.boot

namespace Stands

theorem refl (s : State) : Stands s s := ⟨rfl, rfl, fun _ => rfl, rfl⟩

theorem trans {s t u : State} (h : Stands s t) (k : Stands t u) : Stands s u :=
  ⟨k.record.trans h.record, k.course.trans h.course, fun n => (k.brick n).trans (h.brick n), k.view.trans h.view⟩

/-- An update beside the registers that leaves the view. -/
theorem parts {σ s : State} (h : Stands σ s)
    {pd sh fr clk boot bkd icu hst wdg jnl pins bnd brk seq vcp cpm msr thm cel mtr lnk sram flash}
    (hv : fallView pins seq bnd boot = fallView s.pins s.seq s.bnd s.boot) :
    Stands σ (State.mk pd s.regs sh fr clk boot bkd icu hst wdg jnl pins bnd brk seq vcp cpm msr thm cel mtr lnk sram flash) :=
  ⟨h.record, h.course, h.brick, hv.trans h.view⟩

theorem ite {σ s t : State} {c : Prop} [Decidable c] (hs : Stands σ s) (ht : Stands σ t) : Stands σ (if c then s else t) := by
  split
  · exact hs
  · exact ht

theorem onlyIf {σ s : State} {b : Bool} {f : State → State} (hf : ∀ u, Stands σ u → Stands σ (f u)) (h : Stands σ s) :
    Stands σ (onlyIf b f s) := ite (hf s h) h

theorem forEach {σ s : State} {α : Type} {l : List α} {f : α → State → State} (hf : ∀ a u, Stands σ u → Stands σ (f a u))
    (h : Stands σ s) : Stands σ (forEach l f s) := by
  unfold Machine.forEach
  induction l generalizing s with
  | nil => exact h
  | cons a r ih => exact ih (hf a s h)

/-- Where only loud registers change, and no part the view shows. -/
theorem of_quiet {σ s t : State} (h : Stands σ s) (hreg : ∀ a, loud a = false → t.reg a = s.reg a)
    (hv : fallView t.pins t.seq t.bnd t.boot = fallView s.pins s.seq s.bnd s.boot) : Stands σ t :=
  h.trans ⟨hreg _ (by decide), by simp only [State.fld, hreg SEQ_STAT_DEV_COURSE.reg (by decide)],
    fun n => by simp only [State.fld, hreg (BRK_STAT_STATE n).reg (loud_BRK_STAT n)], hv⟩

theorem of_calm {σ s t : State} (h : Stands σ s) (hc : Calm s t) : Stands σ t :=
  h.of_quiet hc.reg (by rw [hc.pins, hc.seq, hc.bnd, hc.boot])

theorem of_raised {σ s t : State} (h : Stands σ s) (hr : Raised s t) : Stands σ t := by
  refine h.of_quiet (fun a ha => ?_) ?_
  · obtain ⟨hsrc, hstat, _, _, _, hdrop⟩ := loud_eq_false ha
    exact hr.reg a hsrc hstat hdrop
  · rw [show t.pins = s.pins from hr.parts .pins, show t.seq = s.seq from hr.parts .seq, show t.bnd = s.bnd from hr.parts .bnd,
      show t.boot = s.boot from hr.parts .boot]

/-- A register that holds none of what stands. -/
structure Aside (a : Nat) : Prop where
  fault : a ≠ SEQ_FAULT
  stat : a ≠ SEQ_STAT
  brick : ∀ n, a ≠ BRK_STAT n

theorem Aside.of_ne {a : Nat} (hf : a ≠ SEQ_FAULT) (hs : a ≠ SEQ_STAT) (hp : a / 0x10000 ≠ 0x10) : Aside a :=
  ⟨hf, hs, fun n => by unfold BRK_STAT; omega⟩

/-- The registers of the bricks but STAT. -/
theorem Aside.brk {o k : Nat} (h : o % 0x1000 ≠ 4) (hlo : 0x100000 ≤ o) (hhi : o < 0x110000) :
    Aside (o + 0x1000 * (k % 16)) := by
  have hf : SEQ_FAULT = 0x130010 := rfl
  have hs : SEQ_STAT = 0x130008 := rfl
  refine ⟨by omega, by omega, fun n => ?_⟩
  unfold BRK_STAT
  omega

/-- The rails' registers stand above the record and the status. -/
theorem Aside.rail {o k : Nat} (h : 0x130011 ≤ o) : Aside (o + k) := by
  have hf : SEQ_FAULT = 0x130010 := rfl
  have hs : SEQ_STAT = 0x130008 := rfl
  refine ⟨by omega, by omega, fun n => ?_⟩
  unfold BRK_STAT
  omega

/-- The setpoint records stand between the bricks' registers and those. -/
theorem Aside.recFld (n q : Nat) : Aside (recFld n q).reg := by
  have hf : SEQ_FAULT = 0x130010 := rfl
  have hs : SEQ_STAT = 0x130008 := rfl
  have hlo : VCP_REC_LO n = 0x120100 + 0x8 * (n % 16) := rfl
  have hhi : VCP_REC_HI n = 0x120104 + 0x8 * (n % 16) := rfl
  have hreg : (Machine.recFld n q).reg = VCP_REC_LO n ∨ (Machine.recFld n q).reg = VCP_REC_HI n := by
    unfold Machine.recFld
    split
    · exact .inl rfl
    · exact .inr rfl
  refine ⟨by omega, by omega, fun m => ?_⟩
  unfold BRK_STAT
  omega

variable {σ s : State}

/-! #### Registers -/

theorem setReg {a : Nat} {v : Word} (ha : Aside a) (h : Stands σ s) : Stands σ (s.setReg a v) :=
  h.trans ⟨s.reg_setReg_other a _ v ha.fault.symm, s.fld_setReg_other a v _ ha.stat.symm,
    fun n => s.fld_setReg_other a v _ (ha.brick n).symm, rfl⟩

theorem setFld {f : Fld} {v : Nat} (hf : Aside f.reg) (h : Stands σ s) : Stands σ (s.setFld f v) := setReg hf h

theorem setFlag {f : Fld} {b : Bool} (hf : Aside f.reg) (h : Stands σ s) : Stands σ (s.setFlag f b) := setFld hf h

/-- A field of SEQ_STAT above the course. -/
theorem setStat {f : Fld} {v : Nat} (hr : f.reg = SEQ_STAT) (hlo : 8 ≤ f.lo) (h : Stands σ s) : Stands σ (s.setFld f v) := by
  have hbrick (n : Nat) : BRK_STAT n ≠ SEQ_STAT := by
    have hs : SEQ_STAT = 0x130008 := rfl
    unfold BRK_STAT
    omega
  refine h.trans ⟨s.reg_setFld_other f v _ (hr ▸ by decide), s.fld_setFld_beside f _ v hr.symm (.inl hlo) (by decide),
    fun n => s.fld_setFld_other f _ v (hr ▸ hbrick n), rfl⟩

/-- LOOP of a brick. -/
theorem setLoop {n : Nat} {b : Bool} (h : Stands σ s) : Stands σ (s.setFlag (BRK_STAT_LOOP n) b) := by
  have hne : SEQ_FAULT ≠ BRK_STAT n ∧ SEQ_STAT ≠ BRK_STAT n := by
    have hf : SEQ_FAULT = 0x130010 := rfl
    have hs : SEQ_STAT = 0x130008 := rfl
    unfold BRK_STAT
    omega
  refine h.trans ⟨s.reg_setFld_other _ _ _ hne.1, s.fld_setFld_other (BRK_STAT_LOOP n) _ _ hne.2, fun m => ?_, rfl⟩
  by_cases hm : BRK_STAT m = BRK_STAT n
  · exact s.fld_setFld_beside (BRK_STAT_LOOP n) (BRK_STAT_STATE m) _ hm (.inr (by decide : 0 + 1 ≤ 24)) (by decide : 24 + 3 ≤ 32)
  · exact s.fld_setFld_other (BRK_STAT_LOOP n) (BRK_STAT_STATE m) _ hm

/-! #### Reports -/

theorem raise {src : Nat} (h : Stands σ s) : Stands σ (s.raise src) := h.of_raised (State.raise_raised src s (.refl s))

theorem flagRaise {f : Fld} {src : Nat} (hf : Aside f.reg) (h : Stands σ s) : Stands σ (s.flagRaise f src) := raise (setFld hf h)

theorem sheet {type : Nat} {payload : List Byte} (h : Stands σ s) : Stands σ (s.sheet type payload) :=
  h.of_calm (State.sheet_calm type payload s (.refl s))

theorem send {type mode : Nat} {both : Bool} {payload : List Byte} (h : Stands σ s) : Stands σ (s.send type mode both payload) :=
  h.of_calm (State.send_calm type mode both payload s (.refl s))

theorem sendTo {type target tag : Nat} {payload : List Byte} (h : Stands σ s) : Stands σ (s.sendTo type target tag payload) :=
  h.of_calm (State.sendTo_calm type target tag payload s (.refl s))

/-! #### What an all-off ends -/

theorem seqRefresh (h : Stands σ s) : Stands σ s.seqRefresh := by
  have hrole (v : Nat) : Stands σ (s.setFld SEQ_STAT_ROLE v) := setStat rfl (by decide) h
  have hphase (v w : Nat) : Stands σ ((s.setFld SEQ_STAT_ROLE v).setFld SEQ_STAT_PHASE w) := setStat rfl (by decide) (hrole v)
  exact ite (hrole _) (ite (hphase _ _) (ite (hphase _ _) (ite (hphase _ _) (hphase _ _))))

theorem answerDist (h : Stands σ s) : Stands σ s.answerDist := by
  unfold State.answerDist
  split
  · exact sendTo (parts h rfl)
  · exact h

theorem endRequest {result : Nat} (h : Stands σ s) : Stands σ (s.endRequest result) := by
  have hstat : Aside BND_STAT := .of_ne (by decide) (by decide) (by decide)
  have howner {c : Prop} [Decidable c] : Stands σ (if c then s else s.setFld BND_STAT_OWNER 0) := ite h (setFld hstat h)
  unfold State.endRequest
  exact setFld hstat (setFld hstat (parts howner rfl))

theorem abortRelay {reason : Nat} (h : Stands σ s) : Stands σ (s.abortRelay reason) := by
  have herr : Stands σ (s.recordBond ⟨reason, 0, 0⟩) :=
    setReg (.of_ne (by decide) (by decide) (by decide)) (setReg (.of_ne (by decide) (by decide) (by decide)) h)
  exact ite (raise (seqRefresh (answerDist (endRequest (sheet herr))))) h

theorem putTarget {n target src : Nat} {loop : Bool} (h : Stands σ s) : Stands σ (s.putTarget n loop target src) := by
  have htarget : Aside (BRK_TARGET n) := .brk (by decide) (by decide) (by decide)
  have ht {f : Brick → Brick} : Stands σ (((s.setFld (BRK_TARGET_TARGET n) target).setFlag (BRK_TARGET_LOOP n) loop).updBrick n f) :=
    parts (setFlag htarget (setFld htarget h)) rfl
  exact ite (setLoop ht) ht

theorem endSession {reason : Nat} (h : Stands σ s) : Stands σ (s.endSession reason) := by
  have hstat : Aside CPM_CHG_STAT := .of_ne (by decide) (by decide) (by decide)
  have hshown : Stands σ (((((s.setFld CPM_CHG_STAT_PHASE 0).setFld CPM_CHG_STAT_END_REASON reason).setFld CPM_CHG_STAT_SEARCHING 0).setFld
      CPM_CHG_STAT_ARMED 0).setReg CPM_CHG_TIME (BitVec.ofNat 32 (secondsBetween s.cpm.openAt s.now))) :=
    setReg (.of_ne (by decide) (by decide) (by decide)) (setFld hstat (setFld hstat (setFld hstat (setFld hstat h))))
  unfold State.endSession
  refine ite ?_ h
  extract_lets dur t0 shown cpm closed written driven
  have hclosed : Stands σ closed := parts hshown rfl
  have hwritten : Stands σ written := ite (putTarget hclosed) hclosed
  have hdriven : Stands σ driven := ite (parts hwritten rfl) hwritten
  exact raise (flagRaise hstat (sheet hdriven))

/-! #### What halts with a brick, but its STATE -/

theorem dropInjection {n : Nat} (h : Stands σ s) : Stands σ (s.dropInjection n) := by
  unfold State.dropInjection
  split
  · exact ite (raise (setFld (.of_ne (by decide) (by decide) (by decide)) (parts h rfl))) h
  · exact h

theorem cutHold {n : Nat} (h : Stands σ s) : Stands σ (s.cutHold n) :=
  ite (sheet (setFld (.brk (o := 0x100210) (by decide) (by decide) (by decide))
    (setFld (.brk (o := 0x100200) (by decide) (by decide) (by decide)) h))) h

theorem syncLanes {n : Nat} (h : Stands σ s) : Stands σ (s.syncLanes n) :=
  forEach (fun _ _ hu => onlyIf (fun _ hv => parts hv rfl) hu) h

theorem decideRec {n q state why : Nat} (h : Stands σ s) : Stands σ (s.decideRec n q state why) := by
  have ht {i : _} : Stands σ { s.setFld (Machine.recFld n q) state with vcp := i } := parts (setFld (.recFld n q) h) rfl
  exact ite (raise (sheet ht)) (ite (raise ht) (ite (raise ht) ht))

theorem failRecs {n why : Nat} (h : Stands σ s) : Stands σ (s.failRecs n why) :=
  parts (forEach (fun _ _ hu => decideRec hu) h) rfl

theorem leaderOff {n : Nat} (h : Stands σ s) : Stands σ (s.leaderOff n) := by
  have hfb : Stands σ (s.setFld MSR_STAT_TRIG_FB 1) := setFld (.of_ne (by decide) (by decide) (by decide)) h
  exact ite (parts hfb rfl) h

/-- A rail that goes off. -/
theorem railDown {rail : Nat} (h : Stands σ s) : Stands σ (s.railDown rail) := by
  have hrail : Aside (SEQ_RAIL_STAT rail) := .rail (o := 0x130108) (by decide)
  have hon : Stands σ (s.setOn rail false) := setReg (.of_ne (by decide) (by decide) (by decide)) h
  have hpg : Stands σ ((s.setOn rail false).setPg rail false) :=
    ite hon (raise (setReg (.of_ne (by decide) (by decide) (by decide)) (setFlag hrail hon)))
  exact parts (setFld hrail (setFld hrail hpg)) rfl

end Stands

/-! ### The bricks halt -/

/-- Halting a brick is setting its STATE to Halted, and what stands beside it. -/
theorem State.haltBrick_stands {s : State} {n : Nat} (h : s.fld (BRK_STAT_STATE n) ≠ brkUnassigned) :
    ∃ u, Stands s u ∧ Stands (u.setBrkState n brkHalted) (s.haltBrick n) := by
  refine ⟨onlyIf (s.fld (BRK_STAT_STATE n) == brkStopped) (State.dropInjection n) s,
    .onlyIf (fun _ hu => hu.dropInjection) (.refl s), ?_⟩
  unfold State.haltBrick
  rw [if_neg h]
  exact .onlyIf (fun _ hu => hu.failRecs) (.leaderOff (.syncLanes (.parts (.cutHold (.setFld (.brk (o := 0x100234) (by decide)
    (by decide) (by decide)) (.setReg (.brk (o := 0x100240) (by decide) (by decide) (by decide)) (.refl _)))) rfl)))

/-- From `s` to `t` bricks at most halt; the record of an all-off and the outputs stand. -/
structure Halting (s t : State) : Prop where
  record : t.reg SEQ_FAULT = s.reg SEQ_FAULT
  brick : ∀ n, t.fld (BRK_STAT_STATE n) = s.fld (BRK_STAT_STATE n) ∨ t.fld (BRK_STAT_STATE n) = brkHalted
  view : fallView t.pins t.seq t.bnd t.boot = fallView s.pins s.seq s.bnd s.boot

theorem Halting.refl (s : State) : Halting s s := ⟨rfl, fun _ => .inl rfl, rfl⟩

theorem Halting.trans {s t u : State} (h : Halting s t) (k : Halting t u) : Halting s u :=
  ⟨k.record.trans h.record, fun n => (k.brick n).elim (fun e => e ▸ h.brick n) .inr, k.view.trans h.view⟩

theorem Stands.halting {s t : State} (h : Stands s t) : Halting s t := ⟨h.record, fun n => .inl (h.brick n), h.view⟩

theorem State.setBrkState_halted (s : State) (n : Nat) :
    (s.setBrkState n brkHalted).fld (BRK_STAT_STATE n) = brkHalted ∧ Halting s (s.setBrkState n brkHalted) := by
  unfold State.setBrkState
  split
  · next h => exact ⟨h, .refl s⟩
  · have hraise : Stands (s.setFld (BRK_STAT_STATE n) brkHalted) ((s.setFld (BRK_STAT_STATE n) brkHalted).raise (brkSrc n 5)) :=
      (Stands.refl _).raise
    have hself : (s.setFld (BRK_STAT_STATE n) brkHalted).fld (BRK_STAT_STATE n) = brkHalted :=
      s.fld_setFld_self (BRK_STAT_STATE n) _ (by decide : 24 + 3 ≤ 32)
    have hset : Halting s (s.setFld (BRK_STAT_STATE n) brkHalted) := by
      refine ⟨s.reg_setFld_other _ _ _ ?_, fun m => ?_, rfl⟩
      · exact fun e => by simp only [SEQ_FAULT, BRK_STAT_STATE, BRK_STAT] at e; omega
      · by_cases hm : BRK_STAT m = BRK_STAT n
        · exact .inr (by rwa [show BRK_STAT_STATE m = BRK_STAT_STATE n by simp only [BRK_STAT_STATE, hm]])
        · exact .inl (s.fld_setFld_other (BRK_STAT_STATE n) (BRK_STAT_STATE m) _ hm)
    exact ⟨(hraise.brick n).trans hself, hset.trans hraise.halting⟩

theorem State.haltBrick_halting (s : State) (n : Nat) : Halting s (s.haltBrick n) := by
  by_cases h : s.fld (BRK_STAT_STATE n) = brkUnassigned
  · rw [State.haltBrick, if_pos h]
    exact .refl s
  · obtain ⟨u, hu, ht⟩ := State.haltBrick_stands h
    exact (hu.halting.trans (u.setBrkState_halted n).2).trans ht.halting

theorem State.haltBrick_state {s : State} {n : Nat} (h : s.fld (BRK_STAT_STATE n) ≠ brkUnassigned) :
    (s.haltBrick n).fld (BRK_STAT_STATE n) = brkHalted := by
  obtain ⟨u, -, ht⟩ := State.haltBrick_stands h
  exact (ht.brick n).trans (u.setBrkState_halted n).1

theorem haltBricks_halting (l : List Nat) (s : State) : Halting s (forEach l State.haltBrick s) := by
  induction l generalizing s with
  | nil => exact .refl s
  | cons n r ih => exact (s.haltBrick_halting n).trans (ih _)

/-- Every assigned brick of the list is halted in the end. -/
theorem haltBricks_state {l : List Nat} {s : State} {n : Nat} (hn : n ∈ l) (h : s.fld (BRK_STAT_STATE n) ≠ brkUnassigned) :
    (forEach l State.haltBrick s).fld (BRK_STAT_STATE n) = brkHalted := by
  induction l generalizing s with
  | nil => cases hn
  | cons m r ih =>
    by_cases hm : n = m
    · subst hm
      have hself := State.haltBrick_state h
      exact ((haltBricks_halting r _).brick n).elim (·.trans hself) id
    · refine ih (List.mem_of_ne_of_mem hm hn) ?_
      rcases (s.haltBrick_halting m).brick n with e | e
      · rwa [e]
      · rw [e]
        decide

/-! ### Everything falls (R48) -/

/-- What an all-off brings at its t0, from the state before it: the outputs where a bond or P6 has taken them over, the bricks, the
course (R48, R248). -/
structure Fallen (s t : State) : Prop where
  course : t.fld SEQ_STAT_DEV_COURSE = 0
  brick : ∀ n < 16, s.fld (BRK_STAT_STATE n) ≠ brkUnassigned → t.fld (BRK_STAT_STATE n) = brkHalted
  gates : t.pins.gates = if s.hasBond then .low else s.pins.gates
  faultN : t.pins.faultN = if s.boot.power = .starting then s.pins.faultN else .low
  cascOut : t.pins.cascOut = if s.hasBond then .low else s.pins.cascOut
  out : t.seq.out = true
  timeline : t.seq.timeline = true
  todo : t.seq.todo = []

/-- What stands after it. -/
theorem Fallen.stands {s t u : State} (h : Fallen s t) (k : Stands t u) : Fallen s u := by
  have hv := k.view
  simp only [fallView, Prod.mk.injEq] at hv
  obtain ⟨⟨hgates, hfaultN, hcascOut⟩, ⟨hout, htimeline, htodo⟩, -, -⟩ := hv
  exact ⟨k.course.trans h.course, fun n hn hs => (k.brick n).trans (h.brick n hn hs), hgates.trans h.gates, hfaultN.trans h.faultN,
    hcascOut.trans h.cascOut, hout.trans h.out, htimeline.trans h.timeline, htodo.trans h.todo⟩

/-- What stood before it. -/
theorem Fallen.of_before {r s t : State} (h : Fallen s t) (hbrick : ∀ n, s.fld (BRK_STAT_STATE n) = r.fld (BRK_STAT_STATE n))
    (hview : fallView s.pins s.seq s.bnd s.boot = fallView r.pins r.seq r.bnd r.boot) : Fallen r t := by
  simp only [fallView, Prod.mk.injEq] at hview
  obtain ⟨⟨hgates, hfaultN, hcascOut⟩, -, htiles, hpower⟩ := hview
  have hbond : s.hasBond = r.hasBond := by simp only [State.hasBond, htiles]
  exact ⟨h.course, fun n hn hr => h.brick n hn (hbrick n ▸ hr), by rw [h.gates, hbond, hgates], by rw [h.faultN, hpower, hfaultN],
    by rw [h.cascOut, hbond, hcascOut], h.out, h.timeline, h.todo⟩

theorem State.dropAll_falls (s : State) : Fallen s s.dropAll ∧ s.dropAll.reg SEQ_FAULT = s.reg SEQ_FAULT := by
  unfold State.dropAll
  extract_lets told halted down course probe cel window
  have htold : Stands s told := .onlyIf (fun _ hu => hu.send) (.refl s)
  have hhalted : Halting s halted := htold.halting.trans (haltBricks_halting _ _)
  have hdown : Stands halted down := .forEach (fun _ _ hu => hu.railDown) (.refl _)
  have hprobe : Stands course probe := .ite (.setFld (.of_ne (by decide) (by decide) (by decide)) (.refl _)) (.refl _)
  have hwindow : Stands course window := .parts hprobe rfl
  have hview := hwindow.view.trans (hhalted.trans hdown.halting).view
  simp only [fallView, Prod.mk.injEq] at hview
  obtain ⟨⟨hgates, hfaultN, hcascOut⟩, -, htiles, hpower⟩ := hview
  have hbond : window.hasBond = s.hasBond := by simp only [State.hasBond, htiles]
  have hstate (n : Nat) : window.fld (BRK_STAT_STATE n) = halted.fld (BRK_STAT_STATE n) :=
    (hwindow.brick n).trans ((down.fld_setFld_other _ _ _ (by simp only [BRK_STAT_STATE, BRK_STAT, SEQ_STAT_DEV_COURSE, SEQ_STAT]; omega)).trans
      (hdown.brick n))
  have hcourse : window.fld SEQ_STAT_DEV_COURSE = 0 := hwindow.course.trans (down.fld_setFld_self SEQ_STAT_DEV_COURSE 0 (by decide))
  have hrecord : window.reg SEQ_FAULT = s.reg SEQ_FAULT :=
    (hwindow.record.trans (down.reg_setFld_other _ _ _ (by decide))).trans (hdown.record.trans hhalted.record)
  have hend {t : State} (h : Fallen s t) : Fallen s t.seqRefresh := h.stands (.seqRefresh (.refl t))
  refine ⟨hend ⟨hcourse, fun n hn hs => (hstate n).trans (haltBricks_state (List.mem_range.mpr hn) ?_), ?_, ?_, ?_, rfl, rfl, rfl⟩,
    (Stands.seqRefresh (.refl _)).record.trans hrecord⟩
  · rwa [htold.brick n]
  · change (if window.hasBond then Ball.low else window.pins.gates) = _
    rw [hbond, hgates]
  · change (if window.boot.power == .starting then window.pins.faultN else .low) = _
    rw [hpower, hfaultN]
    simp only [beq_iff_eq]
  · change (if window.hasBond then Ball.low else window.pins.cascOut) = _
    rw [hbond, hcascOut]

/-! ### The record (R255) -/

/-- The word of SEQ_FAULT at an all-off. -/
def faultWord (remote unaddressed : Bool) (origin code : Nat) : Word :=
  BitVec.ofNat 32 (2 ^ 31 + (if remote then 2 ^ 30 else 0) + (if unaddressed then 2 ^ 29 else 0) + origin % 4096 * 65536 + code % 65536)

/-- Its fields: ACTIVE, REMOTE, ORIGIN, CODE. -/
theorem bitsOf_faultWord (remote unaddressed : Bool) (origin code : Nat) :
    bitsOf (faultWord remote unaddressed origin code).toNat 31 1 = 1 ∧
      bitsOf (faultWord remote unaddressed origin code).toNat 30 1 = (if remote then 1 else 0) ∧
      bitsOf (faultWord remote unaddressed origin code).toNat 16 12 = origin % 4096 ∧
      bitsOf (faultWord remote unaddressed origin code).toNat 0 16 = code % 65536 := by
  rw [faultWord, BitVec.toNat_ofNat]
  simp only [bitsOf, Nat.shiftRight_eq_div_pow]
  cases remote <;> cases unaddressed <;> simp only [Bool.false_eq_true, if_true, if_false] <;> omega

/-- Who the record names: the originator of a frame, else this device. -/
def State.faultOrigin (s : State) (remote : Option (Nat × Bool)) : Nat × Bool :=
  match remote with
  | some o => o
  | none => if s.flag LNK_ADDR_UNADDR then (0, true) else (s.fld LNK_ADDR_ADDR, false)

theorem State.markOff_record (brick : Option Nat) (code : Nat) (remote : Option (Nat × Bool)) (s : State) :
    (s.markOff brick code remote).reg SEQ_FAULT =
      faultWord remote.isSome (s.faultOrigin remote).2 (s.faultOrigin remote).1 code := by
  unfold State.markOff
  dsimp only
  rw [State.reg_setReg_self]
  cases remote <;> rfl

/-- The record and the mark leave the bricks and the outputs as they are. -/
theorem Fallen.of_record {s t : State} {m : Option OffMark} {w : Word}
    (h : Fallen (State.setReg { s with seq := { s.seq with off := m } } SEQ_FAULT w) t) : Fallen s t := by
  refine h.of_before (fun n => State.fld_setReg_other _ _ _ _ ?_) rfl
  simp only [BRK_STAT_STATE, BRK_STAT, SEQ_FAULT]
  omega

/-! ### An all-off with none ACTIVE before it -/

/-- Everything that follows the fall leaves it. -/
theorem State.allOffBody_stands {s : State} (h : s.flag SEQ_FAULT_ACTIVE = false) (brick : Option Nat) (code : Nat)
    (remote : Option (Nat × Bool)) : Stands (s.markOff brick code remote).dropAll (s.allOffBody brick code remote) := by
  unfold State.allOffBody
  rw [if_neg (by simp [h])]
  have hended : Stands (s.markOff brick code remote).dropAll ((s.markOff brick code remote).dropAll.endSession 6) := .endSession (.refl _)
  have hrelay {c : Prop} [Decidable c] : Stands (s.markOff brick code remote).dropAll
      (if c then ((s.markOff brick code remote).dropAll.endSession 6).abortRelay 0x33 else (s.markOff brick code remote).dropAll.endSession 6) :=
    .ite hended.abortRelay hended
  exact .raise (.parts (.ite hrelay.send hrelay) rfl)

theorem State.allOffBody_falls {s : State} (h : s.flag SEQ_FAULT_ACTIVE = false) (brick : Option Nat) (code : Nat)
    (remote : Option (Nat × Bool)) : Fallen s (s.allOffBody brick code remote) ∧ (s.allOffBody brick code remote).reg SEQ_FAULT =
      faultWord remote.isSome (s.faultOrigin remote).2 (s.faultOrigin remote).1 code := by
  have hstands := State.allOffBody_stands h brick code remote
  obtain ⟨hfalls, hrecord⟩ := (s.markOff brick code remote).dropAll_falls
  exact ⟨(hfalls.stands hstands).of_record, hstands.record.trans (hrecord.trans (s.markOff_record brick code remote))⟩

theorem State.allOff_falls {s : State} (h : s.flag SEQ_FAULT_ACTIVE = false) (code : Nat) (payload : List Byte)
    (remote : Option (Nat × Bool)) : Fallen s (s.allOff code payload remote) ∧ (s.allOff code payload remote).reg SEQ_FAULT =
      faultWord remote.isSome (s.faultOrigin remote).2 (s.faultOrigin remote).1 code := by
  have hcalm := State.sheet_calm code payload s (.refl s)
  have hsheet : Stands s (s.sheet code payload) := .sheet (.refl s)
  have horigin : (s.sheet code payload).faultOrigin remote = s.faultOrigin remote := by
    simp only [State.faultOrigin, hcalm.flag LNK_ADDR_UNADDR (by decide), hcalm.fld LNK_ADDR_ADDR (by decide)]
  obtain ⟨hfalls, hrecord⟩ := State.allOffBody_falls ((hcalm.flag SEQ_FAULT_ACTIVE (by decide)).trans h) none code remote
  exact ⟨hfalls.of_before hsheet.brick hsheet.view, hrecord.trans (by rw [horigin])⟩

/-! ### An all-off under one that is ACTIVE -/

/-- Setting a register that every report may change. -/
theorem WithinAt.setReg_loud {own regs : List Nat} {parts : List Part} {a : Nat} (ha : loud a = true) (s : State) (v : Word) :
    WithinAt own regs parts s (s.setReg a v) :=
  ⟨fun b hb _ _ => s.reg_setReg_other a b v (fun e => by rw [e, ha] at hb; cases hb), fun p _ => p.same_setReg s a v⟩

/-- An update of the journal's queue and of what was lost. -/
theorem WithinAt.jnl {own regs : List Nat} {parts : List Part} (s : State) {j : Jnl}
    (hj : j = { s.jnl with queue := j.queue, next := j.next, lostNow := j.lostNow, lostFirst := j.lostFirst, lostLast := j.lostLast,
                           onlyShorts := j.onlyShorts }) :
    WithinAt own regs parts s { s with jnl := j } := by
  refine ⟨fun _ _ _ _ => rfl, fun p _ => ?_⟩
  cases p
  case jnl =>
    change j.head = _ ∧ j.searching = _ ∧ j.writing = _ ∧ j.drainAt = _ ∧ j.loads = _
    rw [hj]
    exact ⟨rfl, rfl, rfl, rfl, rfl⟩
  all_goals simp [Part.same]

theorem WithinAt.onlyIf {own regs : List Nat} {parts : List Part} {σ s : State} {b : Bool} {f : State → State}
    (hf : ∀ u, WithinAt own regs parts u (f u)) (h : WithinAt own regs parts σ s) : WithinAt own regs parts σ (onlyIf b f s) := by
  cases b
  · exact h
  · exact h.trans (hf s)

theorem State.raise_within (src : Nat) (s : State) : Within [] [] s (s.raise src) :=
  (State.raise_raised src s (.refl s)).withinAt [] [] []

theorem State.queueSheet_within (type : Nat) (payload : List Byte) (s : State) : Within [] [] s (s.queueSheet type payload) := by
  unfold State.queueSheet
  dsimp only
  split
  · exact .onlyIf (fun u => State.raise_within _ u) (.jnl s rfl)
  · have hbump : Within [] [] s (s.bump JNL_LOST_LOST) := by
      rw [State.bump_eq]
      split
      · exact .setReg_loud (by decide) _ _
      · exact .refl _ _ _ s
    exact ((hbump.trans (.jnl _ rfl)).trans (.setReg_loud (by decide) _ _)).trans (State.raise_within _ _)

/-- A sheet is a report. -/
theorem State.sheet_within (type : Nat) (payload : List Byte) (s : State) : Within [] [] s (s.sheet type payload) := by
  have hnote : Within [] [] s (s.noteFault type) := by
    unfold State.noteFault
    split
    · exact .jnl s rfl
    · exact .refl _ _ _ s
  have hqueue := hnote.trans (State.queueSheet_within type payload (s.noteFault type))
  unfold State.sheet
  dsimp only
  split
  · exact ((hqueue.trans (.setReg_loud (by decide) _ _)).trans (.setReg_loud (by decide) _ _)).trans (State.raise_within _ _)
  · exact hqueue

/-- Taking another code changes the record, its mark and the frames that carry it. -/
theorem State.recode_within (brick : Option Nat) (code : Nat) (s : State) : Within [SEQ_FAULT] [.seq] s (s.recode brick code) := by
  have hset : Within [SEQ_FAULT] [.seq] s (s.setFld SEQ_FAULT_CODE code) := .setReg_named (by decide) _ _
  unfold State.recode
  dsimp only
  split
  · refine hset.trans ⟨fun _ _ _ _ => rfl, fun p hp => ?_⟩
    cases p
    case seq => exact absurd (List.mem_singleton.mpr rfl) hp
    all_goals simp [Part.same]
  · exact hset

/-- Its code, and the course state it leaves. -/
theorem State.recode_eq (brick : Option Nat) (code : Nat) (s : State) : (s.recode brick code).fld SEQ_FAULT_CODE = code % 65536 ∧
    (s.recode brick code).seq.todo = s.seq.todo ∧ (s.recode brick code).seq.timeline = s.seq.timeline := by
  have hcode : (s.setFld SEQ_FAULT_CODE code).fld SEQ_FAULT_CODE = code % 65536 := s.fld_setFld_self SEQ_FAULT_CODE code (by decide)
  unfold State.recode
  dsimp only
  split
  · exact ⟨hcode, rfl, rfl⟩
  · exact ⟨hcode, rfl, rfl⟩

/-- Under one that is ACTIVE an all-off is at most another code, and that only of a fault of its own cycle on this device. -/
theorem State.allOffBody_active {s : State} (h : s.flag SEQ_FAULT_ACTIVE = true) (brick : Option Nat) (code : Nat)
    (remote : Option (Nat × Bool)) :
    (∃ m, s.offNow = some m ∧ remote = none ∧ s.flag SEQ_FAULT_REMOTE = false ∧
      faultBefore brick code m.brick (s.fld SEQ_FAULT_CODE) = true ∧ s.allOffBody brick code remote = s.recode brick code) ∨
    (∀ m, s.offNow = some m → remote = none → s.flag SEQ_FAULT_REMOTE = false →
      faultBefore brick code m.brick (s.fld SEQ_FAULT_CODE) = false) ∧ s.allOffBody brick code remote = s := by
  unfold State.allOffBody
  rw [if_pos h]
  split
  · next m hm =>
    split
    · next hgoes =>
      simp only [Bool.and_eq_true, Option.isNone_iff_eq_none, Bool.not_eq_true'] at hgoes
      obtain ⟨⟨hremote, hown⟩, hbefore⟩ := hgoes
      exact .inl ⟨m, hm, hremote, hown, hbefore, rfl⟩
    · next hstays =>
      refine .inr ⟨fun k hk hremote hown => ?_, rfl⟩
      obtain rfl := Option.some.inj (hm.symm.trans hk)
      simpa [hremote, hown] using hstays
  · next hnone => exact .inr ⟨fun m hm => absurd (hnone.symm.trans hm) nofun, rfl⟩

theorem Calm.offNow {s t : State} (h : Calm s t) : t.offNow = s.offNow := by
  have hcore : t.coreRuns = s.coreRuns := by simp only [State.coreRuns, h.boot, h.clk]
  unfold State.offNow
  rw [h.seq, h.flag SEQ_FAULT_ACTIVE (by decide), hcore, h.clk]

end Sys2Proof.Machine

open Sys2Proof Sys2Proof.Machine

/-- Settles O24: the record is one word, everything falls at once, and what follows the fall leaves it; under an ACTIVE all-off there
is at most another code. -/
theorem allOffEffects : Obligations.AllOffEffects := by
  refine fun s code payload remote => ⟨fun h => ?_, fun h => ?_⟩
  · obtain ⟨hfalls, hrecord⟩ := State.allOff_falls h code payload remote
    obtain ⟨hactive, hremote, horigin, hcode⟩ :=
      bitsOf_faultWord remote.isSome (s.faultOrigin remote).2 (s.faultOrigin remote).1 code
    rw [← hrecord] at hactive hremote horigin hcode
    have haddr : s.fld LNK_ADDR_ADDR % 4096 = s.fld LNK_ADDR_ADDR := Nat.mod_eq_of_lt (Nat.mod_lt _ (by decide))
    refine ⟨?_, hcode, ?_, horigin.trans ?_, hfalls.gates, hfalls.faultN, hfalls.cascOut, hfalls.out, hfalls.timeline, hfalls.todo,
      hfalls.course, hfalls.brick⟩
    · exact bne_iff_ne.mpr (by rw [State.fld]; exact hactive ▸ one_ne_zero)
    · rw [State.flag, State.fld, SEQ_FAULT_REMOTE, hremote]
      cases remote <;> rfl
    · cases remote with
      | some o => rfl
      | none =>
        simp only [State.faultOrigin]
        split
        · rfl
        · exact haddr
  · have hcalm := State.sheet_calm code payload s (.refl s)
    have hsheet : Within [SEQ_FAULT] [.seq] s (s.sheet code payload) :=
      (State.sheet_within code payload s).mono (List.Subset.refl _) (List.nil_subset _) (List.nil_subset _)
    have hfault : (s.sheet code payload).reg SEQ_FAULT = s.reg SEQ_FAULT := hcalm.reg _ (by decide)
    have hoff := hcalm.offNow
    have hremote := hcalm.flag SEQ_FAULT_REMOTE (by decide)
    have hcode := hcalm.fld SEQ_FAULT_CODE (by decide)
    unfold State.allOff
    rcases State.allOffBody_active ((hcalm.flag SEQ_FAULT_ACTIVE (by decide)).trans h) none code remote with
      ⟨m, hm, hnone, hown, hbefore, heq⟩ | ⟨hstays, heq⟩
    · obtain ⟨hrecoded, htodo, htimeline⟩ := State.recode_eq none code (s.sheet code payload)
      rw [heq]
      refine ⟨hsheet.trans (State.recode_within _ _ _), by rw [htodo, hcalm.seq], by rw [htimeline, hcalm.seq], ?_, fun k hk _ _ => ?_⟩
      · rintro (hnot | hsome | htold)
        · rw [hoff, hnot] at hm
          cases hm
        · rw [hnone] at hsome
          cases hsome
        · rw [hremote, htold] at hown
          cases hown
      · rw [hoff, hk] at hm
        obtain rfl := Option.some.inj hm
        rw [hrecoded, ← hcode, if_pos hbefore]
    · rw [heq]
      refine ⟨hsheet, by rw [hcalm.seq], by rw [hcalm.seq], fun _ => hfault, fun k hk hnone hown => ?_⟩
      rw [hcode, if_neg]
      rw [← hcode, hstays k (hoff.trans hk) hnone (hremote.trans hown)]
      decide
end

section
namespace Sys2Proof.Machine

/-! ### The start that an L0 or L1 enters -/

/-- The levels of RESET_N and TST as last told (R118, R54). -/
def State.heldBalls (s : State) : Bool × Bool := (s.boot.resetNLow, s.boot.tstHigh)

theorem State.eraseAhead_boot (slot : Nat) (s : State) : (s.eraseAhead slot).boot = s.boot := by
  unfold State.eraseAhead
  split <;> rfl

theorem State.sheetPartly_boot (slot : Nat) (s : State) : (s.sheetPartly slot).boot = s.boot := by
  unfold State.sheetPartly
  split <;> rfl

theorem State.cutSheet_boot (s : State) : s.cutSheet.boot = s.boot := by
  unfold State.cutSheet
  split
  · rfl
  · exact (State.eraseAhead_boot _ _).trans (State.sheetPartly_boot _ _)

theorem State.storePartly_boot (s : State) : s.storePartly.boot = s.boot := by
  unfold State.storePartly
  split
  · rfl
  · exact (apply_ite State.boot _ _ _).trans (ite_self _)

theorem State.cutRow_heldBalls (c : OtpCmd) (pulses : Nat) (s : State) : (s.cutRow c pulses).heldBalls = s.heldBalls := by
  unfold State.cutRow
  split
  · rfl
  · dsimp only
    split <;> rfl

theorem State.cutOtp_heldBalls (s : State) : s.cutOtp.heldBalls = s.heldBalls := by
  unfold State.cutOtp
  split
  · split
    · exact State.cutRow_heldBalls _ _ _
    · rfl
  · rfl

theorem State.wdgDisarm_boot (s : State) : s.wdgDisarm.boot = s.boot :=
  (apply_ite State.boot _ _ _).trans (ite_self _)

/-- What an L0 or L1 leaves, whatever cut it (R45, R108, R121). -/
structure Started (lvl : Nat) (s t : State) : Prop where
  power : t.boot.power = .starting
  level : t.boot.level = lvl
  waiting : t.boot.waiting = none
  balls : t.heldBalls = s.heldBalls
  gates : t.pins.gates = .released
  dswG : t.pins.dswG = .released
  timeline : t.seq.timeline = false
  resetDue : t.thm.resetDue = false

theorem State.enterStart_started (lvl : Nat) (bor : Bool) (s : State) : Started lvl s (s.enterStart lvl bor) := by
  have hballs : s.cutSheet.storePartly.cutOtp.wdgDisarm.heldBalls = s.heldBalls := by
    rw [State.heldBalls, State.wdgDisarm_boot, ← State.heldBalls, State.cutOtp_heldBalls, State.heldBalls, State.storePartly_boot,
      State.cutSheet_boot, State.heldBalls]
  cases bor
  · exact ⟨rfl, rfl, rfl, hballs, rfl, rfl, rfl, rfl⟩
  · exact ⟨rfl, rfl, rfl, hballs, rfl, rfl, rfl, rfl⟩

theorem Started.beginP0 {lvl : Nat} {s t : State} (h : Started lvl s t) : Started lvl s t.beginP0 :=
  ⟨h.power, h.level, h.waiting, h.balls, h.gates, h.dswG, h.timeline, h.resetDue⟩

theorem Started.beginPhases {lvl : Nat} {s t : State} (h : Started lvl s t) : Started lvl s t.beginPhases := by
  unfold State.beginPhases
  split
  · exact ⟨h.power, h.level, h.waiting, h.balls, h.gates, h.dswG, h.timeline, h.resetDue⟩
  · split
    · exact ⟨h.power, h.level, h.waiting, h.balls, h.gates, h.dswG, h.timeline, h.resetDue⟩
    · exact ⟨h.power, h.level, h.waiting, h.balls, h.gates, h.dswG, h.timeline, h.resetDue⟩

/-- RESET_N low holds the start (R118). -/
theorem State.beginPhases_held {s : State} (h : s.boot.resetNLow = true) : s.beginPhases.boot.hold = .resetN := by
  rw [State.beginPhases, if_pos h]

/-- With RESET_N high, and TST low at an L0, P1 starts (R54, R109, R118). -/
theorem State.beginPhases_free {s : State} (hreset : s.boot.resetNLow = false) (htst : ¬(s.boot.level = 0 ∧ s.boot.tstHigh = true)) :
    s.beginPhases = s.startP1 := by
  rw [State.beginPhases, if_neg (by simp [hreset]), if_neg htst]

/-! ### A level performed -/

/-- What every level performed records of itself, before its boot phase or restart is in force (R119, R120). -/
def State.recordReset (lvl src code : Nat) (at0 : Nat) (s : State) : State :=
  ((State.setFld { s with boot := { s.boot with resetAt := some at0 } } RPC_RST_STAT_LAST_SRC src).setFld
    RPC_RST_STAT_LAST_LEVEL lvl).setFld RPC_RST_STAT_PRE_RST_FAULT code

theorem State.fld_recordReset (lvl src code at0 : Nat) (s : State) :
    (s.recordReset lvl src code at0).fld RPC_RST_STAT_LAST_SRC = src % 16 ∧
      (s.recordReset lvl src code at0).fld RPC_RST_STAT_LAST_LEVEL = lvl % 4 := by
  have hlast (t : State) (g : Fld) (hr : g.reg = RPC_RST_STAT_PRE_RST_FAULT.reg)
      (h : g.lo + g.width ≤ RPC_RST_STAT_PRE_RST_FAULT.lo ∨ RPC_RST_STAT_PRE_RST_FAULT.lo + RPC_RST_STAT_PRE_RST_FAULT.width ≤ g.lo)
      (hg : g.lo + g.width ≤ 32) : (t.setFld RPC_RST_STAT_PRE_RST_FAULT code).fld g = t.fld g :=
    State.fld_setFld_beside t RPC_RST_STAT_PRE_RST_FAULT g code hr h hg
  unfold State.recordReset
  constructor
  · rw [hlast _ RPC_RST_STAT_LAST_SRC (by decide) (by decide) (by decide),
      State.fld_setFld_beside _ RPC_RST_STAT_LAST_LEVEL RPC_RST_STAT_LAST_SRC _ (by decide) (by decide) (by decide),
      State.fld_setFld_self _ _ _ (by decide)]
    rfl
  · rw [hlast _ RPC_RST_STAT_LAST_LEVEL (by decide) (by decide) (by decide), State.fld_setFld_self _ _ _ (by decide)]
    rfl

theorem State.performReset_eq (lvl src : Nat) (bor : Bool) (s : State) : ∃ code, s.performReset lvl src bor =
    (if lvl ≤ 1 then (if bor then (s.enterStart lvl bor).beginP0 else (s.enterStart lvl bor).beginPhases)
      else s.enterRestart lvl (src == 3)).recordReset lvl src code s.clk.rc := ⟨_, rfl⟩

theorem State.performReset_record (lvl src : Nat) (bor : Bool) (s : State) :
    (s.performReset lvl src bor).fld RPC_RST_STAT_LAST_SRC = src % 16 ∧
      (s.performReset lvl src bor).fld RPC_RST_STAT_LAST_LEVEL = lvl % 4 := by
  obtain ⟨code, heq⟩ := State.performReset_eq lvl src bor s
  rw [heq]
  exact State.fld_recordReset _ _ _ _ _

theorem Started.recordReset {lvl : Nat} {s t : State} (h : Started lvl s t) (l src code at0 : Nat) :
    Started lvl s (t.recordReset l src code at0) :=
  ⟨h.power, h.level, h.waiting, h.balls, h.gates, h.dswG, h.timeline, h.resetDue⟩

/-- An L0 or L1 by a reset source. -/
theorem State.performReset_started {lvl : Nat} (hlvl : lvl ≤ 1) (src : Nat) (s : State) :
    Started lvl s (s.performReset lvl src false) ∧
      (s.boot.resetNLow = true → (s.performReset lvl src false).boot.hold = .resetN) ∧
      (s.boot.resetNLow = false → s.boot.tstHigh = false → (s.performReset lvl src false).boot.phase = 1) := by
  obtain ⟨code, heq⟩ := State.performReset_eq lvl src false s
  have hstart := State.enterStart_started lvl false s
  have hballs := hstart.balls
  simp only [State.heldBalls, Prod.mk.injEq] at hballs
  obtain ⟨hreset, htst⟩ := hballs
  rw [if_pos hlvl, if_neg (by decide)] at heq
  rw [heq]
  refine ⟨hstart.beginPhases.recordReset _ _ _ _, fun h => ?_, fun h k => ?_⟩
  · exact State.beginPhases_held (hreset.trans h)
  · change (s.enterStart lvl false).beginPhases.boot.phase = 1
    rw [State.beginPhases_free (hreset.trans h) (by simp [htst, k])]
    rfl

/-- A brown-out (R43, R50, R109). -/
theorem State.brownOut_started (s : State) : Started 0 s s.brownOut ∧ s.brownOut.boot.phase = 0 ∧
    s.brownOut.fld RPC_RST_STAT_LAST_SRC = 1 ∧ s.brownOut.fld RPC_RST_STAT_LAST_LEVEL = 0 := by
  obtain ⟨code, heq⟩ := State.performReset_eq 0 1 true s
  have hstart := ((State.enterStart_started 0 true s).beginP0).recordReset 0 1 code s.clk.rc
  obtain ⟨hsrc, hlevel⟩ := State.performReset_record 0 1 true s
  have hbrown : s.brownOut = (s.performReset 0 1 true).noteCause 1 := rfl
  rw [if_pos (by decide), if_pos rfl] at heq
  rw [hbrown]
  refine ⟨?_, ?_, ?_, ?_⟩
  · rw [heq]
    exact ⟨hstart.power, hstart.level, hstart.waiting, hstart.balls, hstart.gates, hstart.dswG, hstart.timeline, hstart.resetDue⟩
  · rw [heq]
    rfl
  · rw [State.noteCause, State.fld_setFld_other _ _ _ _ (by decide), hsrc]
  · rw [State.noteCause, State.fld_setFld_other _ _ _ _ (by decide), hlevel]

/-! ### A restart entered -/

theorem State.raise_boot (src : Nat) (s : State) : (s.raise src).boot = s.boot := (State.raise_raised src s (.refl s)).parts .boot

theorem State.setYield_boot (b : Bool) (s : State) : (s.setYield b).boot = s.boot := by
  unfold State.setYield
  split
  · rfl
  · exact State.raise_boot _ _

theorem State.showLim_boot (s : State) : s.showLim.boot = s.boot := by
  unfold State.showLim
  split
  · rfl
  · exact State.raise_boot _ _

theorem State.owRelease_boot (s : State) : s.owRelease.boot = s.boot := (apply_ite State.boot _ _ _).trans (ite_self _)

theorem State.windowStatus_boot (w : Window) (v : Nat) (s : State) : (s.windowStatus w v).boot = s.boot :=
  (apply_ite State.boot _ _ _).trans (ite_self _)

/-- Abandoning a sweep touches nothing of the start-up. -/
theorem State.abandonSweep_boot (s : State) : s.abandonSweep.boot = s.boot := by
  have hclose (t : State) : t.closeWindow.boot = t.boot :=
    (State.owRelease_boot _).trans ((State.showLim_boot _).trans (State.setYield_boot _ _))
  unfold State.abandonSweep
  split
  · rfl
  · dsimp only
    split
    · exact (hclose _).trans (State.windowStatus_boot _ _ s)
    · rfl

theorem State.clearRecords_boot (s : State) : s.clearRecords.boot = s.boot := by
  have each (l : List Nat) (u : State) : (forEach l
      (fun n t => (t.setReg (VCP_REC_LO n) 0x88888888#32).setReg (VCP_REC_HI n) 0x88888888#32) u).boot = u.boot := by
    unfold forEach
    induction l generalizing u with
    | nil => rfl
    | cons n r ih => exact (ih _).trans rfl
  have hall := each (List.range 16) s
  unfold State.clearRecords
  generalize forEach (List.range 16) _ s = t at hall ⊢
  exact hall

theorem State.driveInt_boot (s : State) : s.driveInt.boot = s.boot := (State.driveInt_raised s (.refl s)).parts .boot

/-- An L2 or L3 leaves the power state, and its restart is in progress (R114). -/
theorem State.enterRestart_boot (lvl : Nat) (wdg : Bool) (s : State) :
    (s.enterRestart lvl wdg).boot.power = s.boot.power ∧ (s.enterRestart lvl wdg).boot.restart = some lvl := by
  have hpower := congrArg Boot.power (State.abandonSweep_boot s)
  unfold State.enterRestart
  dsimp only
  generalize hu : (if s.boot.resetNLow then _ else _ : State) = u
  have hheld : u.boot.power = s.boot.power ∧ u.boot.restart = some lvl := by
    subst hu
    split
    · exact ⟨hpower, rfl⟩
    · exact ⟨hpower, rfl⟩
  split
  · have hcut : ((u.cutSheet).restore 4 (fun _ => true)).boot = u.boot := State.cutSheet_boot u
    rw [State.driveInt_boot, State.clearRecords_boot]
    dsimp only
    rw [hcut]
    exact hheld
  · exact hheld

/-! ### A request performed at once -/

/-- In Idle or Run, with no request waiting and no restart in progress, a request that needs no all-off first is performed (R119, R120). -/
theorem State.requestReset_now {s : State} (hactive : s.active = true) (hwait : s.boot.waiting = none) (hrestart : s.boot.restart = none)
    {src lvl : Nat} {quiet : Bool} (hdown : lvl ≤ 1 → s.railUp = false) :
    s.requestReset src lvl quiet = (s.noteCause src).performReset lvl src false := by
  have hpower : s.boot.power = .active := by simpa [State.active] using hactive
  have hneed : ¬(lvl ≤ 1 ∧ s.railUp = true ∧ (!quiet) = true) := fun ⟨hlvl, hup, _⟩ => by simp [hdown hlvl] at hup
  have hneed' : ¬(lvl ≤ 1 ∧ s.railUp = true ∧ quiet = false) := by simpa using hneed
  simp [State.requestReset, hpower, hwait, State.requestLate, hrestart, hneed']

end Sys2Proof.Machine
end

section
namespace Sys2Proof.Machine

/-! ### A cause that outlives the reset

No premise says that the register list is well formed, so the cause bit is followed through every entry of its register. -/

/-- Register `a` is listed, and with bit `i` set wherever it is. -/
def Marked (a i : Nat) (l : List (Nat × Word)) : Prop := (∃ e ∈ l, e.1 = a) ∧ ∀ e ∈ l, e.1 = a → e.2.getLsbD i = true

theorem Marked.findReg {a i : Nat} : ∀ {l : List (Nat × Word)}, Marked a i l → ∃ v, findReg a l = some v ∧ v.getLsbD i = true
  | [], ⟨⟨_, he, _⟩, _⟩ => nomatch he
  | e :: r, ⟨⟨c, hc, hca⟩, hall⟩ => by
    by_cases hea : e.1 = a
    · exact ⟨e.2, if_pos hea, hall e (List.mem_cons_self ..) hea⟩
    · have hcr : c ∈ r := (List.mem_cons.mp hc).resolve_left fun h => hea (h ▸ hca)
      obtain ⟨v, hv, hbit⟩ := Marked.findReg (l := r) ⟨⟨c, hcr, hca⟩, fun d hd => hall d (List.mem_cons_of_mem _ hd)⟩
      exact ⟨v, (if_neg hea).trans hv, hbit⟩

theorem Marked.reg {a i : Nat} {s : State} (h : Marked a i s.regs) : (s.reg a).getLsbD i = true := by
  obtain ⟨v, hv, hbit⟩ := h.findReg
  rw [State.reg_eq_getD, hv]
  exact hbit

theorem marked_setRegs_self {a i : Nat} {v : Word} (hv : v.getLsbD i = true) (hreset : (regReset a).getLsbD i = false)
    (l : List (Nat × Word)) : Marked a i (setRegs a v l) := by
  have hne : v ≠ regReset a := by
    rintro rfl
    exact absurd (hv.symm.trans hreset) (by decide)
  rw [setRegs, if_neg hne]
  refine ⟨⟨(a, v), mem_insertReg.mpr (.inl rfl), rfl⟩, fun e he hea => ?_⟩
  rcases mem_insertReg.mp he with rfl | hold
  · exact hv
  · exact absurd hea (mem_dropReg.mp hold).2

theorem Marked.setRegs_other {a b i : Nat} {l : List (Nat × Word)} (h : Marked a i l) (hab : a ≠ b) (v : Word) :
    Marked a i (setRegs b v l) := by
  obtain ⟨⟨c, hc, hca⟩, hall⟩ := h
  have hkept : c ∈ dropReg b l := mem_dropReg.mpr ⟨hc, fun h => hab (hca.symm.trans h)⟩
  unfold setRegs
  split
  · exact ⟨⟨c, hkept, hca⟩, fun e he => hall e (mem_dropReg.mp he).1⟩
  · refine ⟨⟨c, mem_insertReg.mpr (.inr hkept), hca⟩, fun e he hea => ?_⟩
    rcases mem_insertReg.mp he with rfl | hold
    · exact absurd hea.symm hab
    · exact hall e (mem_dropReg.mp hold).1 hea

theorem Marked.setFld_other {a i : Nat} {s : State} (h : Marked a i s.regs) {f : Fld} (hf : a ≠ f.reg) (v : Nat) :
    Marked a i (s.setFld f v).regs := h.setRegs_other hf _

/-- A restore at a level above the field's leaves its bits (R7). -/
theorem Marked.restore {a i lvl : Nat} {s : State} (h : Marked a i s.regs) {f : FieldSpec} (hf : f ∈ fieldsOf a) (hi : f.has i = true)
    (hlvl : ¬lvl ≤ f.level) (hreset : (regReset a).getLsbD i = false) (p : Nat → Bool) : Marked a i (s.restore lvl p).regs := by
  obtain ⟨⟨c, hc, hca⟩, hall⟩ := h
  have hbit (w : Word) : (restoredWord lvl a w).getLsbD i = w.getLsbD i := by
    rw [getLsbD_restoredWord lvl w hf hi, if_neg hlvl]
  have hentry (e : Nat × Word) (he : e ∈ s.regs) (hea : e.1 = a) :
      ∃ v, rewrittenEntry (restoredWord lvl) p e = some (a, v) ∧ v.getLsbD i = true := by
    obtain ⟨b, w⟩ := e
    obtain rfl : b = a := hea
    have hw : w.getLsbD i = true := hall _ he rfl
    have hne : restoredWord lvl b w ≠ regReset b := by
      intro heq
      rw [← heq, hbit, hw] at hreset
      exact absurd hreset (by decide)
    by_cases hp : p b = true
    · exact ⟨restoredWord lvl b w, (if_pos hp).trans (if_neg hne), (hbit w).trans hw⟩
    · exact ⟨w, if_neg hp, hw⟩
  rw [restore_regs]
  constructor
  · obtain ⟨v, hv, -⟩ := hentry c hc hca
    exact ⟨(a, v), List.mem_filterMap.mpr ⟨c, hc, hv⟩, rfl⟩
  · intro e he hea
    obtain ⟨d, hd, hde⟩ := List.mem_filterMap.mp he
    obtain ⟨v, hv, hvbit⟩ := hentry d hd ((fst_rewrittenEntry hde).symm.trans hea)
    rw [hde] at hv
    rw [Option.some.inj hv]
    exact hvbit

theorem Marked.cutOtp {a i : Nat} {s : State} (h : Marked a i s.regs) (ha : a ≠ OTP_STAT) : Marked a i s.cutOtp.regs := by
  unfold State.cutOtp
  split
  · split
    · refine Marked.setFld_other (Marked.setFld_other ?_ ha _) ha _
      exact (State.cutRow_regs _ _ _).symm ▸ h
    · exact h
  · exact h

theorem Marked.wdgDisarm {a i : Nat} {s : State} (h : Marked a i s.regs) (ha : a ≠ WDG_EV_STAT) : Marked a i s.wdgDisarm.regs := by
  unfold State.wdgDisarm
  dsimp only
  split
  · exact h.setFld_other (f := WDG_EV_STAT_CUT) ha _
  · exact h

/-- The field CAUSE of RPC_RST_CAUSE (R139). -/
theorem resetCauses_mem : (⟨0, 9, .rw1c, 0, 1, []⟩ : FieldSpec) ∈ fieldsOf RPC_RST_CAUSE := by decide

/-- A cause outlives the L0 or L1 that it called for (R119, R121). -/
theorem Marked.performReset {i lvl : Nat} {s : State} (h : Marked RPC_RST_CAUSE i s.regs) (hi : i < 9) (hlvl : lvl ≤ 1) (src : Nat) :
    Marked RPC_RST_CAUSE i (s.performReset lvl src false).regs := by
  have hhas : (⟨0, 9, .rw1c, 0, 1, []⟩ : FieldSpec).has i = true := by simp [FieldSpec.has, hi]
  have hreset : (regReset RPC_RST_CAUSE).getLsbD i = false := by
    rw [getLsbD_regReset resetCauses_mem hhas]
    exact Nat.zero_testBit _
  have hcut : Marked RPC_RST_CAUSE i s.cutSheet.storePartly.regs := by
    rw [State.storePartly_regs, State.cutSheet_regs]
    exact h
  have hblocks : Marked RPC_RST_CAUSE i (s.cutSheet.storePartly.cutOtp.wdgDisarm.dropBlocks (decide (lvl = 0)) lvl).regs :=
    (hcut.cutOtp (by decide)).wdgDisarm (by decide)
  have hstart : Marked RPC_RST_CAUSE i (s.enterStart lvl false).regs := by
    have hlevel : ¬(if decide (lvl = 0) then 2 else 3) ≤ 1 := by split <;> decide
    exact hblocks.restore resetCauses_mem hhas hlevel hreset (fun _ => true)
  obtain ⟨code, heq⟩ := State.performReset_eq lvl src false s
  rw [heq, if_pos hlvl, if_neg (by decide), State.recordReset]
  refine Marked.setFld_other (Marked.setFld_other (Marked.setFld_other ?_ (by decide) _) (by decide) _) (by decide) _
  exact (State.beginPhases_regs _).symm ▸ hstart

/-- A cause noted is marked in RPC_RST_CAUSE (R119). -/
theorem State.noteCause_marked {src : Nat} (hsrc : src < 9) (s : State) : Marked RPC_RST_CAUSE src (s.noteCause src).regs := by
  have hhas : (⟨0, 9, .rw1c, 0, 1, []⟩ : FieldSpec).has src = true := by simp [FieldSpec.has, hsrc]
  refine marked_setRegs_self ?_ ?_ _
  · rw [getLsbD_putBits _ _ _ _ _ (by omega), if_pos ⟨Nat.zero_le _, by simpa [RPC_RST_CAUSE_CAUSE] using hsrc⟩]
    simp [RPC_RST_CAUSE_CAUSE]
  · rw [getLsbD_regReset resetCauses_mem hhas]
    exact Nat.zero_testBit _

theorem Marked.cause {i : Nat} {s : State} (h : Marked RPC_RST_CAUSE i s.regs) (hi : i < 9) :
    (s.fld RPC_RST_CAUSE_CAUSE).testBit i = true := by
  have hbit : (s.reg RPC_RST_CAUSE).toNat.testBit i = true := h.reg
  rw [State.fld, testBit_bitsOf]
  simp [RPC_RST_CAUSE_CAUSE, hi, hbit]

end Sys2Proof.Machine
end

section
namespace Sys2Proof.Machine

/-! ### Each event's effect -/

/-- An L0 or L1 requested with every rail down is begun at once (R120). -/
theorem State.requestReset_started {s : State} (hactive : s.active = true) (hdown : s.railUp = false) (hwait : s.boot.waiting = none)
    (hrestart : s.boot.restart = none) {lvl : Nat} (hlvl : lvl ≤ 1) (src : Nat) (quiet : Bool) :
    Started lvl s (s.requestReset src lvl quiet) ∧
      (s.boot.resetNLow = true → (s.requestReset src lvl quiet).boot.hold = .resetN) ∧
      (s.boot.resetNLow = false → s.boot.tstHigh = false → (s.requestReset src lvl quiet).boot.phase = 1) ∧
      (s.requestReset src lvl quiet).fld RPC_RST_STAT_LAST_SRC = src % 16 ∧
      (s.requestReset src lvl quiet).fld RPC_RST_STAT_LAST_LEVEL = lvl % 4 := by
  rw [State.requestReset_now hactive hwait hrestart fun _ => hdown]
  obtain ⟨hstart, hhold, hphase⟩ := State.performReset_started hlvl src (s.noteCause src)
  exact ⟨⟨hstart.power, hstart.level, hstart.waiting, hstart.balls, hstart.gates, hstart.dswG, hstart.timeline, hstart.resetDue⟩,
    hhold, hphase, State.performReset_record lvl src false (s.noteCause src)⟩

/-- An L2 or L3 is entered at once, whatever the rails do (R114, R120). -/
theorem State.requestReset_restart {s : State} (hactive : s.active = true) (hwait : s.boot.waiting = none)
    (hrestart : s.boot.restart = none) {lvl : Nat} (hlvl : 1 < lvl) (src : Nat) (quiet : Bool) :
    (s.requestReset src lvl quiet).boot.power = .active ∧ (s.requestReset src lvl quiet).boot.restart = some lvl ∧
      (s.requestReset src lvl quiet).fld RPC_RST_STAT_LAST_SRC = src % 16 ∧
      (s.requestReset src lvl quiet).fld RPC_RST_STAT_LAST_LEVEL = lvl % 4 := by
  rw [State.requestReset_now hactive hwait hrestart fun h => absurd h (by omega)]
  obtain ⟨code, heq⟩ := State.performReset_eq lvl src false (s.noteCause src)
  obtain ⟨hpower, hlevel⟩ := State.enterRestart_boot lvl (src == 3) (s.noteCause src)
  have hactive' : s.boot.power = .active := by simpa [State.active] using hactive
  refine ⟨?_, ?_, State.performReset_record lvl src false (s.noteCause src)⟩
  · rw [heq, if_neg (by omega)]
    exact hpower.trans hactive'
  · rw [heq, if_neg (by omega)]
    exact hlevel

theorem wakePulse_effect {s : State} (hdormant : s.boot.power = .dormant) : ∃ t, exec .wakePulse s = .next t ∧
    t.boot.power = .starting ∧ t.boot.phase = 0 ∧ t.boot.level = 0 ∧ t.fld RPC_RST_STAT_LAST_LEVEL = 0 := by
  refine ⟨_, rfl, ?_⟩
  rw [if_pos (by simp [hdormant])]
  refine ⟨rfl, rfl, rfl, ?_⟩
  rw [State.fld_setFld_beside _ RPC_RST_STAT_PRE_RST_FAULT RPC_RST_STAT_LAST_LEVEL _ (by decide) (by decide) (by decide),
    State.fld_setFld_self _ _ _ (by decide)]
  rfl

theorem por_effect (s : State) : ∃ t, exec .por s = .next t ∧ t.boot.power = .starting ∧ t.boot.phase = 0 ∧
    t.fld RPC_RST_CAUSE_CAUSE = 1 ∧ t.flag MTR_STAT_RESTORING = true ∧ t.bkd.fifo = s.bkd.fifo := by
  refine ⟨_, rfl, rfl, rfl, ?_, ?_, ?_⟩
  · change (State.setFld (State.setFld _ RPC_RST_CAUSE_CAUSE 1) MTR_STAT_RESTORING 1).fld RPC_RST_CAUSE_CAUSE = 1
    rw [State.fld_setFld_other _ _ _ _ (by decide), State.fld_setFld_self _ _ _ (by decide)]
    rfl
  · exact State.flag_setFld_one _ MTR_STAT_RESTORING rfl (by decide)
  · exact congrArg Bkd.fifo ((((Island.refl s).cutSheet).storePartly).cutOtp).bkd

theorem bor_effect {s : State} (hactive : s.active = true) : ∃ t, exec .bor s = .next t ∧ t.boot.power = .starting ∧
    t.boot.phase = 0 ∧ t.boot.level = 0 ∧ t.fld RPC_RST_STAT_LAST_SRC = 1 ∧ t.fld RPC_RST_STAT_LAST_LEVEL = 0 := by
  have hpower : s.boot.power = .active := by simpa [State.active] using hactive
  obtain ⟨hstart, hphase, hsrc, hlevel⟩ := s.brownOut_started
  refine ⟨s.brownOut, ?_, hstart.power, hphase, hstart.level, hsrc, hlevel⟩
  exact congrArg Host.Outcome.next (if_pos (by simp [State.awake, hpower]))

theorem inputCollapse_effect {s : State} (hawake : s.awake = true) : ∃ t, exec .inputCollapse s = .next t ∧ t.boot.power = .starting ∧
    t.boot.phase = 0 ∧ t.boot.level = 0 ∧ t.fld RPC_RST_STAT_LAST_SRC = 1 ∧ t.fld RPC_RST_STAT_LAST_LEVEL = 0 := by
  obtain ⟨hstart, hphase, hsrc, hlevel⟩ := s.brownOut_started
  exact ⟨s.brownOut, congrArg Host.Outcome.next (if_pos hawake), hstart.power, hphase, hstart.level, hsrc, hlevel⟩

theorem resetNAssert_effect {s : State} (hactive : s.active = true) (hdown : s.railUp = false) (hwait : s.boot.waiting = none)
    (hrestart : s.boot.restart = none) (hlvl : s.mapLevel 2 ≤ 1) : ∃ t, exec .resetNAssert s = .next t ∧ t.boot.resetNLow = true ∧
    t.boot.power = .starting ∧ t.boot.level = s.mapLevel 2 ∧ t.boot.hold = .resetN ∧ t.fld RPC_RST_STAT_LAST_SRC = 2 := by
  obtain ⟨hstart, hhold, -, hsrc, -⟩ := State.requestReset_started (s := { s with boot := { s.boot with resetNLow := true } })
    hactive hdown hwait hrestart hlvl 2 false
  exact ⟨_, rfl, congrArg Prod.fst hstart.balls, hstart.power, hstart.level, hhold rfl, hsrc⟩

theorem resetNRelease_effect {s : State} {tst : Bool} (hpower : s.boot.power = .starting) (hhold : s.boot.hold = .resetN)
    (htst : s.boot.level = 1 ∨ tst = false) : ∃ t, exec (.resetNRelease tst) s = .next t ∧ t.boot.resetNLow = false ∧
    t.boot.phase = 1 ∧ t.boot.hold = .none ∧ t.pins.core = true := by
  have hfree : ¬(s.boot.level = 0 ∧ tst = true) := fun ⟨hzero, hhigh⟩ =>
    htst.elim (fun h => by omega) (fun h => by simp [hhigh] at h)
  refine ⟨State.startP1 { s with boot := { s.boot with resetNLow := false, tstHigh := tst } }, ?_, rfl, rfl, rfl, rfl⟩
  refine congrArg Host.Outcome.next ((if_pos (by simp [hpower, hhold])).trans ?_)
  exact State.beginPhases_free rfl hfree

theorem State.railUp_setReg_same (s : State) (a : Nat) : (s.setReg a (s.reg a)).railUp = s.railUp := by
  unfold State.railUp State.fld
  rw [State.reg_setReg_same, State.reg_setReg_same]
  rfl

theorem swrst_effect {s : State} {path : Path} (hactive : s.active = true) (hdown : s.railUp = false) (hwait : s.boot.waiting = none)
    (hrestart : s.boot.restart = none) (hans : s.answers path = true) (hlvl : s.mapLevel 4 ≤ 1) (hreset : s.boot.resetNLow = false)
    (htst : s.boot.tstHigh = false) : ∃ t, exec (.swrst path) s = .next t ∧ t.boot.power = .starting ∧
    t.boot.level = s.mapLevel 4 ∧ t.boot.phase = 1 ∧ t.fld RPC_RST_STAT_LAST_SRC = 4 ∧
    t.fld RPC_RST_STAT_LAST_LEVEL = s.mapLevel 4 := by
  have hpower : s.boot.power = .active := by simpa [State.active] using hactive
  have hearly : s.early path RPC_SWRST = false := by simp [State.early, hpower]
  obtain ⟨hstart, -, hphase, hsrc, hlevel⟩ := State.requestReset_started (s := s.setReg RPC_SWRST (s.reg RPC_SWRST))
    hactive ((s.railUp_setReg_same _).trans hdown) hwait hrestart hlvl 4 false
  refine ⟨_, rfl, ?_⟩
  rw [State.writeRow_eq, State.busWrite_swrst _ hans hearly]
  exact ⟨hstart.power, hstart.level, hphase hreset htst, hsrc, hlevel.trans (Nat.mod_eq_of_lt (by omega))⟩

theorem supervisorLaneMismatch_effect {s : State} (hactive : s.active = true) (hruns : s.supervisorRuns = true)
    (hwait : s.boot.waiting = none) (hrestart : s.boot.restart = none) (hlvl : 2 ≤ s.mapLevel 8) :
    ∃ t, exec .supervisorLaneMismatch s = .next t ∧ t.boot.power = .active ∧ t.boot.restart = some 2 ∧
    t.fld RPC_RST_STAT_LAST_SRC = 8 ∧ t.fld RPC_RST_STAT_LAST_LEVEL = 2 := by
  have hboot : (s.sheet 0x0330 []).boot = s.boot := (State.sheet_calm 0x0330 [] s (.refl s)).boot
  refine ⟨(s.sheet 0x0330 []).requestReset 8 2 false, ?_, ?_⟩
  · refine congrArg Host.Outcome.next ((if_pos hruns).trans ?_)
    rw [Nat.min_eq_left hlvl]
  · exact State.requestReset_restart (by rw [State.active, hboot]; exact hactive) (by rw [hboot]; exact hwait)
      (by rw [hboot]; exact hrestart) (by decide) 8 false

theorem serviceProcessorFault_effect {s : State} (hactive : s.active = true) (hruns : s.supervisorRuns = true)
    (hwait : s.boot.waiting = none) (hrestart : s.boot.restart = none) (hlvl : s.mapLevel 8 = 3) :
    ∃ t, exec .serviceProcessorFault s = .next t ∧ t.boot.power = .active ∧ t.boot.restart = some 3 ∧
    t.fld RPC_RST_STAT_LAST_SRC = 8 ∧ t.fld RPC_RST_STAT_LAST_LEVEL = 3 := by
  refine ⟨s.requestReset 8 3 false, ?_, State.requestReset_restart hactive hwait hrestart (by decide) 8 false⟩
  refine congrArg Host.Outcome.next ((if_pos hruns).trans ?_)
  rw [hlvl, Nat.min_self]

theorem switchCycleTimer_effect {s : State} (hactive : s.active = true) (hdown : s.railUp = false) (hwait : s.boot.waiting = none)
    (hrestart : s.boot.restart = none) (hdue : reached s.cpm.switchAt s.clk.core = true) (hreset : s.boot.resetNLow = false)
    (htst : s.boot.tstHigh = false) : ∃ t, exec .switchCycleTimer s = .next t ∧ t.boot.power = .starting ∧ t.boot.level = 0 ∧
    t.boot.phase = 1 ∧ t.fld RPC_RST_STAT_LAST_SRC = 6 := by
  obtain ⟨hstart, -, hphase, hsrc, -⟩ := State.requestReset_started (s := { s with cpm := { s.cpm with switchAt := none } })
    hactive hdown hwait hrestart (lvl := 0) (by decide) 6 (s.fld SEQ_FAULT_CODE == 0x0940)
  exact ⟨_, congrArg Host.Outcome.next (if_pos (by simp [hactive, hdue])), hstart.power, hstart.level, hphase hreset htst, hsrc⟩

theorem shipModeSheetWritten_effect {s : State} (hactive : s.active = true) (hship : s.cpm.ship = true)
    (hwritten : ∀ e ∈ s.jnl.queue, e.type ≠ 0x1006) : ∃ t, exec .shipModeSheetWritten s = .next t ∧ t.boot.power = .dormant ∧
    t.cpm.ship = false ∧ t.pins.gates = .released ∧ t.pins.core = false := by
  have hdone : s.jnl.queue.all (fun sh => sh.type != 0x1006) = true := List.all_eq_true.mpr fun e he => bne_iff_ne.mpr (hwritten e he)
  exact ⟨_, congrArg Host.Outcome.next (if_pos (by simp [hactive, hship, hdone])), rfl, rfl, rfl, rfl⟩

theorem reset_effect {s : State} (hlinked : s.linked = true) (hdown : s.railUp = false) (hwait : s.boot.waiting = none)
    (hrestart : s.boot.restart = none) (hlvl : s.mapLevel 5 ≤ 1) : ∃ t, exec (.reset 0x5E7A true) s = .next t ∧
    t.boot.power = .starting ∧ t.boot.level = s.mapLevel 5 ∧ t.fld RPC_RST_STAT_LAST_SRC = 5 := by
  have hactive : s.active = true := (Bool.and_eq_true_iff.mp hlinked).1
  obtain ⟨hstart, -, -, hsrc, -⟩ := State.requestReset_started hactive hdown hwait hrestart hlvl 5 false
  exact ⟨_, congrArg Host.Outcome.next ((if_pos hlinked).trans (if_pos (by decide))), hstart.power, hstart.level, hsrc⟩

/-! ### The end of an all-off's timeline -/

/-- The timeline ended and nothing waiting for it any more (R48, R120). -/
def State.timelineOver (s : State) : State :=
  { s.endTimeline with boot := { s.boot with waiting := none }, thm := { s.thm with resetDue := false } }

theorem allOffTimelineEnd_idle {s : State} (hline : s.seq.timeline = true) (hcool : s.thm.resetDue = false)
    (hwait : s.boot.waiting = none) : exec .allOffTimelineEnd s = .next s.timelineOver := by
  simp only [exec, execAllOffTimelineEnd, hline, hcool, hwait, Bool.true_or, if_true]
  rfl

theorem allOffTimelineEnd_waiting {s : State} {lvl src : Nat} (hactive : s.active = true) (hline : s.seq.timeline = true)
    (hcool : s.thm.resetDue = false) (hwait : s.boot.waiting = some (lvl, src)) (hrestart : s.boot.restart = none) :
    exec .allOffTimelineEnd s = .next (s.timelineOver.performReset lvl src false) := by
  have hpower : s.boot.power = .active := by simpa [State.active] using hactive
  have hlate : ¬s.timelineOver.requestLate lvl = true := by
    simp [State.requestLate, State.timelineOver, hpower, hrestart]
  simp only [exec, execAllOffTimelineEnd, hline, hcool, hwait, Bool.true_or, if_true, Bool.false_eq_true, false_and, if_false]
  exact congrArg Host.Outcome.next (if_neg hlate)

/-- A thermal shutdown's own reset, with no other request waiting (R120). -/
theorem allOffTimelineEnd_hot {s : State} (hactive : s.active = true) (hhot : s.thm.resetDue = true)
    (hwait : s.boot.waiting = none) (hrestart : s.boot.restart = none) :
    exec .allOffTimelineEnd s = .next ((s.timelineOver.noteCause 7).performReset (s.mapLevel 7) 7 false) := by
  have hpower : s.boot.power = .active := by simpa [State.active] using hactive
  have hlate : ¬(s.timelineOver.noteCause 7).requestLate (s.mapLevel 7) = true := by
    simp [State.requestLate, State.timelineOver, State.noteCause, State.setFld, State.setReg, hpower, hrestart]
  simp only [exec, execAllOffTimelineEnd, hhot, hwait, Bool.or_true, if_true]
  exact congrArg Host.Outcome.next (if_neg hlate)

theorem allOffTimelineEnd_effect {s : State} (hline : s.seq.timeline = true) (hcool : s.thm.resetDue = false)
    (hwait : s.boot.waiting = none) : ∃ t, exec .allOffTimelineEnd s = .next t ∧ t.seq.timeline = false ∧ t.boot.waiting = none ∧
    t.pins.gates = (if s.pins.gates = .low then .released else s.pins.gates) ∧ t.pins.aux1 = none ∧ t.pins.aux2 = none ∧
    t.pins.dswG = .released ∧ t.pins.preG = .released ∧ t.pins.pinSet = [] ∧ t.pins.courseHold = false ∧
    t.pins.cascOut = (if s.hasBond then (if s.pins.cascIn then .high else .low) else s.pins.cascOut) ∧
    t.pins.faultN = s.pins.faultN ∧ t.regs = s.regs := by
  refine ⟨_, allOffTimelineEnd_idle hline hcool hwait, rfl, rfl, ?_, rfl, rfl, rfl, rfl, rfl, rfl, ?_, rfl, rfl⟩
  · simp [State.timelineOver, State.endTimeline]
  · cases hbond : s.hasBond <;> simp [State.timelineOver, State.endTimeline, hbond]

theorem allOffTimelineEnd_waiting_effect {s : State} {l k : Nat} (hactive : s.active = true) (hline : s.seq.timeline = true)
    (hcool : s.thm.resetDue = false) (hwait : s.boot.waiting = some (l, k)) (hl : l ≤ 1) (hk : k < 9) (hrestart : s.boot.restart = none) :
    ∃ t, exec .allOffTimelineEnd s = .next t ∧ t.seq.timeline = false ∧ t.boot.waiting = none ∧ t.boot.power = .starting ∧
    t.boot.level = l ∧ t.fld RPC_RST_STAT_LAST_SRC = k ∧ t.fld RPC_RST_STAT_LAST_LEVEL = l ∧ t.pins.gates = .released ∧
    t.pins.dswG = .released := by
  obtain ⟨hstart, -, -⟩ := State.performReset_started hl k s.timelineOver
  obtain ⟨hsrc, hlevel⟩ := State.performReset_record l k false s.timelineOver
  exact ⟨_, allOffTimelineEnd_waiting hactive hline hcool hwait hrestart, hstart.timeline, hstart.waiting, hstart.power, hstart.level,
    hsrc.trans (Nat.mod_eq_of_lt (by omega)), hlevel.trans (Nat.mod_eq_of_lt (by omega)), hstart.gates, hstart.dswG⟩

theorem allOffTimelineEnd_hot_effect {s : State} (hactive : s.active = true) (hhot : s.thm.resetDue = true)
    (hwait : s.boot.waiting = none) (hrestart : s.boot.restart = none) : ∃ t, exec .allOffTimelineEnd s = .next t ∧
    t.thm.resetDue = false ∧ t.boot.power = .starting ∧ t.boot.level = s.mapLevel 7 ∧ t.fld RPC_RST_STAT_LAST_SRC = 7 ∧
    (t.fld RPC_RST_CAUSE_CAUSE).testBit 7 = true := by
  have hlvl : s.mapLevel 7 ≤ 1 := Nat.min_le_right _ _
  obtain ⟨hstart, -, -⟩ := State.performReset_started hlvl 7 (s.timelineOver.noteCause 7)
  obtain ⟨hsrc, -⟩ := State.performReset_record (s.mapLevel 7) 7 false (s.timelineOver.noteCause 7)
  have hcause := (State.noteCause_marked (src := 7) (by decide) s.timelineOver).performReset (by decide) hlvl 7
  exact ⟨_, allOffTimelineEnd_hot hactive hhot hwait hrestart, hstart.resetDue, hstart.power, hstart.level, hsrc,
    hcause.cause (by decide)⟩

end Sys2Proof.Machine

open Sys2Proof Sys2Proof.Machine

/-- Settles O27, event by event: a level with the rails down is performed at once (`State.requestReset_started`,
`State.requestReset_restart`), and one that waited is performed when the all-off's timeline ends. -/
theorem powerAndResetEvents : Obligations.PowerAndResetEvents := by
  intro s
  exact ⟨wakePulse_effect, por_effect s, bor_effect, inputCollapse_effect, resetNAssert_effect, fun _ => resetNRelease_effect,
    fun _ => swrst_effect, allOffTimelineEnd_effect, supervisorLaneMismatch_effect, switchCycleTimer_effect,
    shipModeSheetWritten_effect, reset_effect, serviceProcessorFault_effect, fun _ _ => allOffTimelineEnd_waiting_effect, allOffTimelineEnd_hot_effect⟩

end

section
namespace Sys2Proof.Machine

/-! ### Shadows -/

theorem lookupD_putPair_self {α β : Type} [DecidableEq α] (l : List (α × β)) (k : α) (v d : β) :
    lookupD (putPair l k v) k d = v := by
  simp [lookupD, putPair]

theorem lookupD_putPair_other {α β : Type} [DecidableEq α] (l : List (α × β)) {k m : α} (v d : β) (h : m ≠ k) :
    lookupD (putPair l k v) m d = lookupD l m d := by
  have hkeep : ∀ e : α × β, (!decide (e.1 = k) && decide (e.1 = m)) = decide (e.1 = m) := by
    intro e
    by_cases he : e.1 = m
    · simp [he, h]
    · simp [he]
  simp only [lookupD, putPair, List.find?_cons, Ne.symm h, decide_false, List.find?_filter, Bool.decide_and, Bool.decide_eq_true,
    hkeep]

/-- Freezing words for a path leaves every other shadow as it was. -/
theorem lookupD_forEach_freeze_other {p : Path} {v : Nat → Word} {l : List Nat} {key : Nat × Nat}
    (h : ∀ b ∈ l, key ≠ (pathShadow p, b)) (d : Word) (s : State) :
    lookupD (forEach l (fun b t => t.freeze p b (v b)) s).shadow key d = lookupD s.shadow key d := by
  induction l generalizing s with
  | nil => rfl
  | cons b r ih =>
    exact (ih (fun c hc => h c (List.mem_cons_of_mem b hc)) _).trans
      (lookupD_putPair_other _ _ _ (h b List.mem_cons_self))

/-- A frozen word reads what it was frozen with. -/
theorem lookupD_forEach_freeze_mem {p : Path} {v : Nat → Word} {l : List Nat} {b : Nat} (h : b ∈ l) (d : Word) (s : State) :
    lookupD (forEach l (fun b t => t.freeze p b (v b)) s).shadow (pathShadow p, b) d = v b := by
  induction l generalizing s with
  | nil => cases h
  | cons c r ih =>
    by_cases hr : b ∈ r
    · exact ih hr _
    · obtain rfl : b = c := (List.mem_cons.mp h).resolve_right hr
      have hother : ∀ e ∈ r, (pathShadow p, b) ≠ (pathShadow p, e) := by
        rintro e he ⟨⟩
        exact hr he
      exact (lookupD_forEach_freeze_other hother d _).trans (lookupD_putPair_self _ _ _ _)

/-! ### Words whose read only freezes -/

/-- A register a read of which does nothing but freeze its page: it stands outside the backup domain, and shows neither the GPIO balls
nor a path's own bit. -/
abbrev PlainRead (a : Nat) : Prop :=
  a / 0x10000 ≠ 4 ∧ a ≠ HST_GPIO_IN ∧ a ≠ JNL_STAT ∧ windowOf a = some .regs ∧ a < 2 ^ 32

theorem State.busRead_plain {s : State} {p : Path} {a : Nat} (h : PlainRead a) (hans : s.answers p = true)
    (hbus : s.busFault p false a = none) :
    s.busRead p (adr a) = (if (frozenBy a).isEmpty then s.seen (pathShadow p) a else s.live a, s.freezePage p a) := by
  obtain ⟨hpage, hgpio, hjnl, hwin, hword⟩ := h
  have haddr : (adr a).toNat = a := Nat.mod_eq_of_lt hword
  have htime : isArr RTC_SEC_LO 4 4 a = false := by
    have hbase : RTC_SEC_LO = 0x40000 := rfl
    simp only [isArr, Bool.and_eq_false_iff, decide_eq_false_iff_not]
    omega
  have hstat : a ≠ RTC_STAT := fun he => hpage (by rw [he]; decide)
  simp [State.busRead, State.regRead, haddr, hans, hbus, hwin, hpage, htime, hstat, hgpio, hjnl]

/-- An element of an array of registers, by its number. -/
theorem exists_of_isArr {base stride count a : Nat} (h : isArr base stride count a = true) :
    ∃ k < count, a = base + stride * k := by
  simp only [isArr, Bool.and_eq_true, decide_eq_true_eq] at h
  obtain ⟨⟨hle, hmod⟩, hlt⟩ := h
  exact ⟨(a - base) / stride, hlt, by have := Nat.div_add_mod (a - base) stride; omega⟩

/-- A word that follows a trigger word: a plain read that freezes nothing itself. -/
abbrev Follows (b : Nat) : Prop := PlainRead b ∧ frozenBy b = []

/-- A member of one of two lists, by the condition that chooses. -/
theorem of_mem_ite {c : Prop} [Decidable c] {b : Nat} {x y : List Nat} {P : Prop} (hx : c → b ∈ x → P) (hy : b ∈ y → P)
    (h : b ∈ if c then x else y) : P := by
  split at h
  · next hc => exact hx hc h
  · exact hy h

/-- A register of the impedances' page. -/
theorem plainRead_of_page {a : Nat} (h : a / 0x10000 = 0x16) : PlainRead a := by
  have hgpio : HST_GPIO_IN = 0x1D0020 := rfl
  have hjnl : JNL_STAT = 0x190004 := rfl
  exact ⟨by omega, by omega, by omega, if_pos (by omega), by omega⟩

/-- That page holds no trigger word but the real parts. -/
theorem frozenBy_of_page {a : Nat} (h : a / 0x10000 = 0x16) (hzr : isArr (CEL_ZR 0 0) 8 2048 a = false) : frozenBy a = [] := by
  refine List.eq_nil_iff_forall_not_mem.mpr fun b => ?_
  have hat {c : Nat} {l : List Nat} (hc : c / 0x10000 ≠ 0x16) : a = c → b ∉ l := by
    rintro rfl
    exact absurd h hc
  have hin {base stride count : Nat} {l : List Nat}
      (hc : (base + stride * count) / 0x10000 < 0x16 ∨ 0x16 < base / 0x10000) : isArr base stride count a = true → b ∉ l := by
    intro harr
    obtain ⟨k, hk, rfl⟩ := exists_of_isArr harr
    have := Nat.mul_le_mul_left stride hk.le
    omega
  have hz {l : List Nat} : isArr (CEL_ZR 0 0) 8 2048 a = true → b ∉ l := by simp [hzr]
  exact of_mem_ite (hat (by decide)) <| of_mem_ite (hat (by decide)) <| of_mem_ite (hat (by decide)) <|
    of_mem_ite (hat (by decide)) <| of_mem_ite (hin (by decide)) <| of_mem_ite (hin (by decide)) <|
    of_mem_ite (hat (by decide)) <| of_mem_ite (hat (by decide)) <| of_mem_ite (hin (by decide)) <| of_mem_ite hz <|
    of_mem_ite (hat (by decide)) <| of_mem_ite (hat (by decide)) <| of_mem_ite (hat (by decide)) <|
    of_mem_ite (hat (by decide)) <| List.not_mem_nil

/-- A real part is followed by its imaginary part. -/
theorem follows_of_isArr_CEL_ZR {a b : Nat} (h : isArr (CEL_ZR 0 0) 8 2048 a = true) (hb : b ∈ [a + 4]) :
    PlainRead a ∧ Follows b := by
  obtain rfl := List.mem_singleton.mp hb
  obtain ⟨k, hk, rfl⟩ := exists_of_isArr h
  have hbase : CEL_ZR 0 0 = 0x164000 := rfl
  have hodd : isArr (CEL_ZR 0 0) 8 2048 (CEL_ZR 0 0 + 8 * k + 4) = false := by
    by_contra hin
    rw [Bool.not_eq_false] at hin
    obtain ⟨m, -, hm⟩ := exists_of_isArr hin
    omega
  exact ⟨plainRead_of_page (by omega), plainRead_of_page (by omega), frozenBy_of_page (by omega) hodd⟩

/-- Trigger words and the words that follow them are registers whose read only freezes. -/
theorem follows_of_mem_frozenBy {a b : Nat} : b ∈ frozenBy a → PlainRead a ∧ Follows b := by
  have hat {c : Nat} {l : List Nat} (hc : PlainRead c ∧ ∀ e ∈ l, Follows e) : a = c → b ∈ l → PlainRead a ∧ Follows b := by
    rintro rfl hb
    exact ⟨hc.1, hc.2 b hb⟩
  have hin {base stride count : Nat} (l : Nat → List Nat)
      (hc : ∀ k < count, PlainRead (base + stride * k) ∧ ∀ e ∈ l (base + stride * k), Follows e) :
      isArr base stride count a = true → b ∈ l a → PlainRead a ∧ Follows b := by
    intro harr hb
    obtain ⟨k, hk, rfl⟩ := exists_of_isArr harr
    exact ⟨(hc k hk).1, (hc k hk).2 b hb⟩
  exact of_mem_ite (hat (by decide)) <| of_mem_ite (hat (by decide)) <| of_mem_ite (hat (by decide)) <|
    of_mem_ite (hat (by decide)) <| of_mem_ite (hin (fun a => (List.range 13).map (fun i => a + 4 * (i + 1))) (by decide)) <|
    of_mem_ite (hin (fun a => [a + 4, a + 8]) (by decide)) <| of_mem_ite (hat (by decide)) <| of_mem_ite (hat (by decide)) <|
    of_mem_ite (hin (fun a => [a + 4, a + 8]) (by decide)) <| of_mem_ite follows_of_isArr_CEL_ZR <|
    of_mem_ite (hat (by decide)) <| of_mem_ite (hat (by decide)) <| of_mem_ite (hat (by decide)) <|
    of_mem_ite (hat (by decide)) <| fun h => absurd h List.not_mem_nil

end Sys2Proof.Machine

open Sys2Proof Sys2Proof.Machine

/-- Settles O18: a trigger read freezes the words of its page for its path alone, and a frozen word freezes nothing itself. -/
theorem readFreezesPage : Obligations.ReadFreezesPage := by
  intro s u p q a b hb hans hbus
  obtain ⟨ha, hplain, hnil⟩ := follows_of_mem_frozenBy hb
  have hread := State.busRead_plain ha hans hbus
  have htrigger : (frozenBy a).isEmpty = false := by
    rw [List.isEmpty_eq_false_iff]
    exact List.ne_nil_of_mem hb
  rw [hread]
  refine ⟨by rw [htrigger]; rfl, fun hpath c => ?_, fun hshadow hans' hbus' => ?_⟩
  · refine lookupD_forEach_freeze_other (fun e _ heq => hpath ?_) 0 s
    exact (Prod.mk.inj heq).1
  · rw [State.busRead_plain hplain hans' hbus', hnil]
    change lookupD u.shadow (pathShadow p, b) (u.live b) = s.live b
    rw [hshadow]
    exact lookupD_forEach_freeze_mem hb _ s
end

section
namespace Sys2Proof.Machine

/-! ### What leaves SYSTIME where it is -/

/-- From `s` to `t` SYSTIME's accumulator stands. -/
def SystimeStands (s t : State) : Prop := t.clk.acc = s.clk.acc

namespace SystimeStands

theorem refl (s : State) : SystimeStands s s := rfl

theorem trans {s t u : State} (h : SystimeStands s t) (k : SystimeStands t u) : SystimeStands s u := Eq.trans k h

/-- An update of any part but the clocks'. -/
theorem parts {σ s : State} (h : SystimeStands σ s)
    {pd rg sh fr boot bkd icu hst wdg jnl pins bnd brk seq vcp cpm msr thm cel mtr lnk sram flash} :
    SystimeStands σ (State.mk pd rg sh fr s.clk boot bkd icu hst wdg jnl pins bnd brk seq vcp cpm msr thm cel mtr lnk sram flash) := h

theorem ite {σ s t : State} {c : Prop} [Decidable c] (hs : SystimeStands σ s) (ht : SystimeStands σ t) :
    SystimeStands σ (if c then s else t) := by
  split
  · exact hs
  · exact ht

theorem onlyIf {σ s : State} {b : Bool} {f : State → State} (hf : ∀ u, SystimeStands σ u → SystimeStands σ (f u))
    (h : SystimeStands σ s) : SystimeStands σ (onlyIf b f s) := ite (hf s h) h

theorem forEach {σ s : State} {α : Type} {l : List α} {f : α → State → State}
    (hf : ∀ a u, SystimeStands σ u → SystimeStands σ (f a u)) (h : SystimeStands σ s) : SystimeStands σ (forEach l f s) := by
  unfold Machine.forEach
  induction l generalizing s with
  | nil => exact h
  | cons a r ih => exact ih (hf a s h)

theorem of_calm {σ s t : State} (h : SystimeStands σ s) (hc : Calm s t) : SystimeStands σ t :=
  h.trans (congrArg Clk.acc hc.clk)

theorem of_raised {σ s t : State} (h : SystimeStands σ s) (hr : Raised s t) : SystimeStands σ t :=
  h.trans (congrArg Clk.acc (hr.parts .clk))

variable {σ s : State}

/-! #### The shared operations -/

theorem setReg {a : Nat} {v : Word} (h : SystimeStands σ s) : SystimeStands σ (s.setReg a v) := h

theorem setFld {f : Fld} {v : Nat} (h : SystimeStands σ s) : SystimeStands σ (s.setFld f v) := h

theorem setFlag {f : Fld} {b : Bool} (h : SystimeStands σ s) : SystimeStands σ (s.setFlag f b) := h

theorem bump {f : Fld} (h : SystimeStands σ s) : SystimeStands σ (s.bump f) := ite (setFld h) h

theorem takeFree {w : Nat} (h : SystimeStands σ s) : SystimeStands σ (s.takeFree w).2 := h

theorem raise {src : Nat} (h : SystimeStands σ s) : SystimeStands σ (s.raise src) :=
  h.of_raised (State.raise_raised src s (.refl s))

theorem flagRaise {f : Fld} {src : Nat} (h : SystimeStands σ s) : SystimeStands σ (s.flagRaise f src) := raise (setFld h)

theorem sheet {type : Nat} {payload : List Byte} (h : SystimeStands σ s) : SystimeStands σ (s.sheet type payload) :=
  h.of_calm (State.sheet_calm type payload s (.refl s))

theorem emit {port type dest tag : Nat} {both : Bool} {payload : List Byte} (h : SystimeStands σ s) :
    SystimeStands σ (s.emit port type dest tag both payload) :=
  h.of_calm (State.emit_calm port type dest tag both payload s (.refl s))

theorem send {type mode : Nat} {both : Bool} {payload : List Byte} (h : SystimeStands σ s) :
    SystimeStands σ (s.send type mode both payload) :=
  h.of_calm (State.send_calm type mode both payload s (.refl s))

theorem sendTo {type target tag : Nat} {payload : List Byte} (h : SystimeStands σ s) :
    SystimeStands σ (s.sendTo type target tag payload) :=
  h.of_calm (State.sendTo_calm type target tag payload s (.refl s))

theorem deliverAll {srcs : List Nat} (h : SystimeStands σ s) : SystimeStands σ (s.deliverAll srcs) := by
  refine h.of_raised (State.driveInt_raised _ (forEach_raised (fun src u hu => ?_) (.refl s)))
  split
  · exact State.chain_raised _ _ (State.deliver_raised u src hu)
  · exact State.unwait_raised src u hu

/-! #### The edges of the legs -/

theorem legEvents {n ilk drop : Nat} (h : SystimeStands σ s) : SystimeStands σ (s.legEvents n ilk drop) :=
  forEach (fun _ _ hu => flagRaise (bump hu)) (forEach (fun _ _ hu => flagRaise (bump hu)) h)

theorem runLeg {lim : Int} {m : Nat} (h : SystimeStands σ s) : SystimeStands σ (s.runLeg lim m) := ite (legEvents (parts h)) h

theorem emitEdges (h : SystimeStands σ s) : SystimeStands σ s.emitEdges := forEach (fun _ _ hu => runLeg hu) h

/-! #### A course step that waited -/

theorem seqRefresh (h : SystimeStands σ s) : SystimeStands σ s.seqRefresh := ite h (ite h (ite h (ite h h)))

theorem passMarks {l : List Action} (h : SystimeStands σ s) : SystimeStands σ (State.passMarks l s) := by
  induction l generalizing s with
  | nil => exact parts h
  | cons a r ih => exact ite (ih (ite h (setFld h))) (parts h)

theorem raiseCasc (h : SystimeStands σ s) : SystimeStands σ s.raiseCasc := ite (parts h) h

theorem endRun (h : SystimeStands σ s) : SystimeStands σ s.endRun := by
  have idle {p : Pins} {q : Seq} : SystimeStands σ ({ s with pins := p, seq := q } : State).seqRefresh := seqRefresh (parts h)
  unfold State.endRun
  dsimp only
  split
  · exact h
  · exact ite (raise idle) h
  · exact setFld idle
  · exact send (setFld idle)
  · exact send (flagRaise (setFld idle))

theorem settleStep (h : SystimeStands σ s) : SystimeStands σ s.settleStep :=
  have ht : SystimeStands σ (State.passMarks s.seq.todo s).raiseCasc := raiseCasc (passMarks h)
  ite (endRun ht) ht

/-! #### A pulse that waited -/

theorem lineReport (h : SystimeStands σ s) : SystimeStands σ s.lineReport := ite (send (parts h)) h

theorem beginRun {kind : RunKind} {todo : List Action} {phase : Nat} (h : SystimeStands σ s) :
    SystimeStands σ (s.beginRun kind todo phase) := setFld (parts h)

theorem linkFloor (h : SystimeStands σ s) : SystimeStands σ s.linkFloor :=
  ite (ite (settleStep (beginRun (send (setFld (parts h))))) (send (parts h))) (settleStep (beginRun (setFld (parts h))))

theorem setLine {high : Bool} (h : SystimeStands σ s) : SystimeStands σ (s.setLine high) := ite h (lineReport (parts h))

theorem givePulse {seen : Bool} (h : SystimeStands σ s) : SystimeStands σ (s.givePulse seen) := by
  have hpulse {q : Seq} : SystimeStands σ (State.setLine false { s with seq := q }) := setLine (parts h)
  unfold State.givePulse
  dsimp only
  split
  · exact h
  · exact ite (ite (linkFloor (send (parts h))) (parts h))
      (ite (ite (setFld hpulse) hpulse) (parts (lineReport (raise (setFld (sheet h))))))

theorem offerPulse {seen : Bool} (h : SystimeStands σ s) : SystimeStands σ (s.offerPulse seen) := ite (givePulse (parts h)) (parts h)

theorem heldPulse (h : SystimeStands σ s) : SystimeStands σ s.heldPulse := by
  unfold State.heldPulse
  split
  · exact h
  · split
    · exact offerPulse h
    · exact offerPulse (parts h)
    · exact h

/-! #### A floor whose last device is the head -/

theorem systemDone {course : Nat} (h : SystimeStands σ s) : SystimeStands σ (s.systemDone course) :=
  ite (raise (setFld (setFld (parts h)))) (setFld (parts h))

theorem stringDone {course : Nat} {down : Bool} (h : SystimeStands σ s) : SystimeStands σ (s.stringDone course down) := by
  have ht {q : Seq} : SystimeStands σ { (if s.courseMaster then s else s.setFld SEQ_STAT_STR_COURSE course).raise 366 with seq := q } :=
    parts (raise (ite h (setFld h)))
  exact ite (ite (ite ht (ite (systemDone ht) ht)) (systemDone ht)) (send ht)

theorem floorComplete (h : SystimeStands σ s) : SystimeStands σ s.floorComplete := ite (stringDone (ite (setFld h) h)) h

/-! #### A walk that does not return -/

theorem showParent (h : SystimeStands σ s) : SystimeStands σ s.showParent := ite (setFld h) (setFld (setFld h))

theorem setRing {trunk : Bool} {r : Ring} (h : SystimeStands σ s) : SystimeStands σ (s.setRing trunk r) := ite (parts h) (parts h)

theorem showRing {trunk opened : Bool} (h : SystimeStands σ s) : SystimeStands σ (s.showRing trunk opened) :=
  ite (showParent h) (raise (showParent (setFld (setFlag h))))

theorem declareRing {trunk opened : Bool} (h : SystimeStands σ s) : SystimeStands σ (s.declareRing trunk opened) :=
  ite (showParent h) (sheet (send (setRing (showRing h))))

theorem walkedRing {trunk opened : Bool} {n : Nat} (h : SystimeStands σ s) : SystimeStands σ (s.walkedRing trunk opened n) :=
  ite (declareRing h) (ite (showParent (setRing h)) (showParent h))

theorem setPass {p : Pass} (h : SystimeStands σ s) : SystimeStands σ (s.setPass p) := setFlag (parts h)

theorem sendAssign {mode : Nat} {l : List (BitVec 64 × Nat)} (h : SystimeStands σ s) : SystimeStands σ (s.sendAssign mode l) :=
  forEach (fun _ _ hu => send hu) h

/-- TSTATE changes: the runs of exchanges begin anew, the accumulator stands. -/
theorem setTstate {v : Nat} (h : SystimeStands σ s) : SystimeStands σ (s.setTstate v) := by
  have ht {c : Clk} (hc : c.acc = s.clk.acc) : SystimeStands σ { s.setFld STM_STAT_TSTATE v with clk := c } := Eq.trans hc h
  exact ite h (raise (ite (setFld (ht rfl)) (ite (setReg (ht rfl)) (ht rfl))))

theorem takeAddress {a role ndev nstr : Nat} (h : SystimeStands σ s) : SystimeStands σ (s.takeAddress a role ndev nstr) := by
  unfold State.takeAddress
  extract_lets new changed addressed roled seq entered shown stated raised
  have hroled : SystimeStands σ roled := setFld (setFld (setFld (setFld (setFld h))))
  have hshown : SystimeStands σ shown := showParent (parts hroled)
  have hstated : SystimeStands σ stated := ite (setTstate hshown) (ite (setTstate hshown) hshown)
  have hraised : SystimeStands σ raised := onlyIf (fun _ hu => flagRaise hu) hstated
  exact seqRefresh (onlyIf (fun _ hu => deliverAll hu) hraised)

theorem assignString {k role nstr : Nat} (h : SystimeStands σ s) : SystimeStands σ (s.assignString k role nstr) :=
  sendAssign (setPass (takeAddress h))

theorem judgeTrunk (h : SystimeStands σ s) : SystimeStands σ s.judgeTrunk := ite (sheet (parts h)) h

theorem claimTrunk (h : SystimeStands σ s) : SystimeStands σ s.claimTrunk := judgeTrunk (send (setPass (parts h)))

theorem noKeystone (h : SystimeStands σ s) : SystimeStands σ s.noKeystone := ite (setPass h) (sheet (setPass h))

theorem walkDone {n : Nat} {opened : Bool} (h : SystimeStands σ s) : SystimeStands σ (s.walkDone n opened) := by
  unfold State.walkDone
  extract_lets all fits excess walked told back late lates link noted k link tabled
  have htold : SystimeStands σ told := forEach (fun _ _ hu => flagRaise (sheet hu)) (setFld (walkedRing h))
  have htabled : SystimeStands σ tabled := parts htold
  exact ite (sendAssign (setPass (parts (forEach (fun _ _ hu => sheet hu) htold))))
    (ite (claimTrunk htabled) (ite (assignString htabled) (noKeystone htabled)))

theorem trunkDone (h : SystimeStands σ s) : SystimeStands σ s.trunkDone :=
  assignString (sendAssign (parts (takeFree (forEach (fun _ _ hu => flagRaise (sheet hu)) (setFld h)))))

theorem walkTimeout (h : SystimeStands σ s) : SystimeStands σ s.walkTimeout := by
  refine ite ?_ h
  split
  · exact emit (setPass (setRing h))
  · exact walkDone h
  · exact trunkDone (declareRing h)
  · exact h

/-! #### Distribution frames -/

theorem castNext {d : Sending} (h : SystimeStands σ s) : SystimeStands σ (s.castNext d).1 := by
  change SystimeStands σ (s.castDist _ _ _ _)
  unfold State.castDist
  split
  · exact sendTo h
  · exact emit h
  · exact send h

theorem distFrames (h : SystimeStands σ s) : SystimeStands σ s.distFrames := by
  unfold State.distFrames
  extract_lets sent
  have hsent : SystimeStands σ sent := by
    unfold sent
    split
    · refine ite ?_ h
      dsimp only
      split
      · exact parts (castNext h)
      · exact parts (setFld (castNext h))
    · exact h
  dsimp only
  split
  · exact ite (parts (castNext hsent)) hsent
  · exact hsent

/-! #### The watchdog -/

theorem newCycle {first : Bool} (h : SystimeStands σ s) : SystimeStands σ (s.newCycle first) := by
  have hfree : SystimeStands σ (if first then (0, s) else s.takeFree 11).2 := by
    split
    · exact h
    · exact takeFree h
  exact raise (parts (setReg (setReg hfree)))

theorem wdgCycle (h : SystimeStands σ s) : SystimeStands σ s.wdgCycle := by
  refine ite h (ite (parts h) ?_)
  unfold State.wdgTick
  split
  · exact newCycle (parts h)
  · exact ite (parts h) (parts h)

/-! #### A brown-out -/

theorem cutSheet (h : SystimeStands σ s) : SystimeStands σ s.cutSheet := by
  unfold State.cutSheet State.sheetPartly
  split
  · exact h
  · refine parts (ite (parts ?_) ?_)
    all_goals
      split
      · exact h
      · exact parts (takeFree h)

theorem storePartly (h : SystimeStands σ s) : SystimeStands σ s.storePartly := by
  unfold State.storePartly
  split
  · exact h
  · exact ite (parts (takeFree h)) (parts (parts (parts (takeFree h))))

theorem cutRow {c : OtpCmd} {n : Nat} (h : SystimeStands σ s) : SystimeStands σ (s.cutRow c n) :=
  ite h (ite h (parts (takeFree (takeFree (takeFree h)))))

theorem cutOtp (h : SystimeStands σ s) : SystimeStands σ s.cutOtp := by
  unfold State.cutOtp
  split
  · exact ite (setFld (setFld (parts (cutRow (takeFree h))))) h
  · exact h

theorem wdgDisarm (h : SystimeStands σ s) : SystimeStands σ s.wdgDisarm := parts (ite (setFld h) h)

/-- The hidden state of the blocks is lost at an L0, the accumulator is not (R108). -/
theorem dropBlocks_cold {lvl : Nat} (h : SystimeStands σ s) : SystimeStands σ (s.dropBlocks true lvl) := h

/-- After the blocks' state a brown-out touches registers, balls and the boot's own state. -/
theorem brownOut (h : SystimeStands σ s) : SystimeStands σ s.brownOut :=
  dropBlocks_cold (lvl := 0) (wdgDisarm (cutOtp (storePartly (cutSheet h))))

/-! #### Ticks -/

theorem coreWork (h : SystimeStands σ s) : SystimeStands σ s.coreWork :=
  distFrames (walkTimeout (floorComplete (lineReport (heldPulse (settleStep (emitEdges h))))))

end SystimeStands

/-- What passes unbegun is the sweeps' own (R68). -/
theorem State.onlyIf_sweepLapse_eq (b : Bool) (s : State) : ∃ c : Cel, onlyIf b State.sweepLapse s = { s with cel := c } := by
  cases b
  · exact ⟨s.cel, rfl⟩
  · exact ⟨_, rfl⟩

/-- A CLK_CORE tick adds the increment where the RC oscillator does not drive the accumulator (R67). -/
theorem State.coreTick_acc (byRc : Bool) (s : State) :
    (s.coreTick byRc).clk.acc = if byRc then s.clk.acc else s.clk.acc + (s.reg STM_INC).setWidth 128 := by
  obtain ⟨c, hc⟩ := State.onlyIf_sweepLapse_eq (s.active && !byRc) s
  unfold State.coreTick
  rw [hc]
  extract_lets swept clk ticked
  have hticked : ticked.clk.acc = if byRc then s.clk.acc else s.clk.acc + (s.reg STM_INC).setWidth 128 := rfl
  have hwork : SystimeStands ticked (if ticked.active then ticked.coreWork else ticked) := .ite (.coreWork (.refl _)) (.refl _)
  exact Eq.trans hwork hticked

/-- An RC tick adds its rate while SYSTIME advances by it (R67). -/
theorem State.rcTick_acc (s : State) :
    s.rcTick.clk.acc = if s.rcTime then s.clk.acc + 450359963#128 else s.clk.acc := by
  obtain ⟨c, hc⟩ := State.onlyIf_sweepLapse_eq (s.active && s.clk.onRc) s
  unfold State.rcTick
  rw [hc]
  extract_lets swept clk ticked watched cut
  have hticked : ticked.clk.acc = if s.rcTime then s.clk.acc + 450359963#128 else s.clk.acc := rfl
  have hwatched : SystimeStands ticked watched := .wdgCycle (.refl _)
  have hcut : SystimeStands ticked cut := .ite hwatched.brownOut hwatched
  have hdriven : SystimeStands cut (cut.coreTick true) := State.coreTick_acc true cut
  exact Eq.trans (SystimeStands.ite (hcut.trans hdriven) hcut) hticked

/-- A tick of the backup oscillator is no business of SYSTIME's. -/
theorem State.bakTick_acc (set : Option (BitVec 36 × BitVec 15)) (s : State) : (s.bakTick set).clk.acc = s.clk.acc :=
  (apply_ite (fun t : State => t.clk.acc) _ _ _).trans (ite_self _)

theorem State.bakTick_boot (set : Option (BitVec 36 × BitVec 15)) (s : State) : (s.bakTick set).boot = s.boot :=
  (apply_ite State.boot _ _ _).trans (ite_self _)

/-- In Off and Dormant CLK_CORE stands still. -/
theorem State.coreRuns_of_asleep {s : State} (h : s.awake = false) : s.coreRuns = false := by
  unfold State.awake at h
  split at h
  · next hoff => simp only [State.coreRuns, hoff]
  · next hdormant => simp only [State.coreRuns, hdormant]
  · cases h

/-- In Off and Dormant an instant is at most a tick of the backup oscillator (R60, R84). -/
theorem State.tick_of_asleep {s : State} (h : s.awake = false) :
    s.tick = if (Config.clockEdges s.free).getLsbD 2 then ({ s with free := s.free + 1 }).bakTick none
      else { s with free := s.free + 1 } := by
  unfold State.tick
  extract_lets edges counted backed ticked
  have hboot : backed.boot = s.boot := (apply_ite State.boot _ _ _).trans (by rw [State.bakTick_boot]; exact ite_self _)
  have hawake : backed.awake = false := by rwa [State.awake, hboot]
  have hticked : ticked = backed := if_neg (by simp [hawake])
  rw [hticked, State.coreRuns_of_asleep hawake]
  simp [backed, edges, counted]

end Sys2Proof.Machine

open Sys2Proof Sys2Proof.Machine

/-- Settles O2: an instant of an empty queue is the ticks of its edges, and of what a tick does only its own sum reaches the
accumulator. -/
theorem timePasses : Obligations.TimePasses := by
  refine ⟨fun s hempty => ?_, fun s => ⟨State.coreTick_acc false s, State.coreTick_acc true s, fun h => ?_, fun h => ?_,
    fun set => State.bakTick_acc set s⟩⟩
  · have hstep : step s = .next s.tick := by rw [step, hempty]
    exact ⟨hstep, fun h => by rw [hstep, State.tick_of_asleep h]⟩
  · rw [State.rcTick_acc, if_pos h]
  · rw [State.rcTick_acc, h]
    rfl
end

section
namespace Sys2Proof.Machine

/-! ### SYSTIME set to a value whose nearest count lies below 0 -/

/-- Idle in MASTER, SYSTIME at 0, the last value before the wrap of the seconds staged. -/
def stagedLast : State := { State.reset with
  boot := { Boot.initial with power := .active }
  regs := ((State.reset.setReg STM_SET_LO 0xFFFFFFFF).setReg STM_SET_HI 0xFFFFFFFF).regs }

/-- After SET_GO of `stagedLast`. -/
def stagedLastSet : State := stagedLast.writeRow .sup (adr STM_CTRL) (stagedLast.reg STM_CTRL ||| 1) Side.untold

theorem exec_setGo_stagedLast : exec (.setGo .sup) stagedLast = .next stagedLastSet := rfl

/-- SYSTIME takes the staged value (R75). -/
theorem now_stagedLastSet : stagedLastSet.now = 0xFFFFFFFFFFFFFFFF#64 := by decide

/-- The count nearest the present one that reads as the staged value lies one below 0, and is cut to 0. -/
theorem unbounded_stagedLast :
    stagedLast.unbounded (BitVec.ofNat 64 ((stagedLast.reg STM_SET_LO).toNat + 2 ^ 32 * (stagedLast.reg STM_SET_HI).toNat)) = 0 := by
  decide

end Sys2Proof.Machine

open Sys2Proof Sys2Proof.Machine

/-- Refutes O30: at SYSTIME 0 with 2⁶⁴ − 1 staged, SET_GO makes SYSTIME the staged value (R75), while the clause of setGo asks for the
nearest count, one below 0, cut to 0. -/
theorem not_clocksAndSyncComplete : ¬ Obligations.ClocksAndSyncComplete := by
  intro h
  obtain ⟨-, -, -, -, -, -, -, hset, -⟩ := h stagedLast
  obtain ⟨t, hexec, -, hacc⟩ := hset .sup (by decide) (by decide)
  rw [exec_setGo_stagedLast, Host.Outcome.next.injEq] at hexec
  subst hexec
  rw [unbounded_stagedLast] at hacc
  have hnow := now_stagedLastSet
  rw [State.now, hacc] at hnow
  exact absurd hnow (by decide)
end

section
namespace Sys2Proof.Machine

/-! ### What stands of the backup domain -/

/-- From `s` to `t` the domain's own state and the registers of its page stand. -/
structure DomainStands (s t : State) : Prop where
  bkd : t.bkd = s.bkd
  reg : ∀ a, a / 0x10000 = 4 → t.reg a = s.reg a

namespace DomainStands

theorem refl (s : State) : DomainStands s s := ⟨rfl, fun _ _ => rfl⟩

theorem trans {s t u : State} (h : DomainStands s t) (k : DomainStands t u) : DomainStands s u :=
  ⟨k.bkd.trans h.bkd, fun a ha => (k.reg a ha).trans (h.reg a ha)⟩

theorem flag {s t : State} (h : DomainStands s t) {f : Fld} (hf : f.reg / 0x10000 = 4) : t.flag f = s.flag f := by
  simp only [State.flag, State.fld, h.reg _ hf]

theorem raise (src : Nat) (s : State) : DomainStands s (s.raise src) :=
  have hr := State.raise_raised src s (.refl s)
  ⟨hr.parts .bkd, fun a ha =>
    have ⟨hsrc, hstat, _, _, _, hdrop⟩ := loud_eq_false (Island.loud_of_page ha)
    hr.reg a hsrc hstat hdrop⟩

theorem flagRaise (f : Fld) (src : Nat) (s : State) : DomainStands (s.setFld f 1) (s.flagRaise f src) := raise src _

theorem sheet (type : Nat) (payload : List Byte) (s : State) : DomainStands s (s.sheet type payload) :=
  have hc := State.sheet_calm type payload s (.refl s)
  ⟨hc.bkd, fun a ha => hc.reg a (Island.loud_of_page ha)⟩

theorem onlyIf {b : Bool} {f : State → State} {s : State} (h : DomainStands s (f s)) : DomainStands s (onlyIf b f s) := by
  cases b
  · exact refl s
  · exact h

/-- A code of the domain is at most one more that waits for the core (R99). -/
theorem bkdCode (code : Nat) (s : State) :
    ∃ l, DomainStands { s with bkd := { s.bkd with lateCodes := l } } (s.bkdCode code) := by
  unfold State.bkdCode
  split
  · exact ⟨s.bkd.lateCodes, sheet code [] s⟩
  · exact ⟨_, refl _⟩

/-- So is one that only the flag's rise gives (R99). -/
theorem bkdCode_rise (b : Bool) (code : Nat) (s : State) :
    ∃ l, DomainStands { s with bkd := { s.bkd with lateCodes := l } } (if b then s else s.bkdCode code) := by
  cases b
  · exact bkdCode code s
  · exact ⟨s.bkd.lateCodes, refl s⟩

end DomainStands

theorem State.flagRaise_bkd (f : Fld) (src : Nat) (s : State) : (s.flagRaise f src).bkd = s.bkd :=
  (DomainStands.flagRaise f src s).bkd

/-- A flag of the domain reads 1 once it is set and its source raised. -/
theorem State.flag_flagRaise {f : Fld} (src : Nat) (s : State) (hf : f.reg / 0x10000 = 4) (hw : f.width = 1) (hlo : f.lo < 32) :
    (s.flagRaise f src).flag f = true :=
  ((DomainStands.flagRaise f src s).flag hf).trans (s.flag_setFld_one f hw hlo)

/-- A one-bit field is its bit. -/
theorem State.flag_eq_getLsbD (s : State) {f : Fld} (hw : f.width = 1) : s.flag f = (s.reg f.reg).getLsbD f.lo := by
  simp only [State.flag, State.fld, hw, bitsOf, pow_one, BitVec.getLsbD, Nat.testBit, Nat.one_and_eq_mod_two]

end Sys2Proof.Machine
end

section
namespace Sys2Proof.Machine

/-! ### VBAK, the flags of trust and the alarm -/

theorem mem_of_findReg {a : Nat} {v : Word} {l : List (Nat × Word)} (h : findReg a l = some v) : (a, v) ∈ l := by
  induction l with
  | nil => cases h
  | cons e r ih =>
    unfold findReg at h
    split at h
    · next he =>
      obtain rfl := Option.some.inj h
      exact he ▸ List.mem_cons_self
    · exact List.mem_cons_of_mem _ (ih h)

/-- At the first rise every register of the page reads some word with its / BKP fields at their reset values. -/
theorem State.exists_bkdReset_reg (s : State) {a : Nat} (ha : a / 0x10000 = 4) : ∃ w, s.bkdReset.reg a = firstWord a w := by
  rw [State.reg_eq_getD, bkdReset_regs]
  cases hfind : findReg a (s.regs.filterMap (rewrittenEntry firstWord (fun a => decide (a / 0x10000 = 4)))) with
  | none => exact ⟨regReset a, (firstWord_regReset a).symm⟩
  | some v =>
    obtain ⟨e, -, he⟩ := List.mem_filterMap.mp (mem_of_findReg hfind)
    obtain rfl : a = e.1 := fst_rewrittenEntry he
    rw [rewrittenEntry, if_pos (decide_eq_true ha)] at he
    split at he
    · cases he
    · exact ⟨e.2, congrArg Prod.snd (Option.some.inj he).symm⟩

/-- A one-bit / BKP field of the page reads its reset value there. -/
theorem State.bkdReset_flag (s : State) {f : Fld} {g : FieldSpec} (hf : f.reg / 0x10000 = 4) (hw : f.width = 1)
    (hg : g ∈ fieldsOf f.reg) (hlevel : g.level = 0) (hlo : g.has f.lo = true) :
    s.bkdReset.flag f = (regReset f.reg).getLsbD f.lo := by
  obtain ⟨w, hwd⟩ := s.exists_bkdReset_reg hf
  rw [State.flag_eq_getLsbD _ hw, hwd, getLsbD_firstWord w hg hlevel hlo]

theorem exec_vbakFirstRise {s : State} (hoff : s.bkd.powered = false) : ∃ t, exec .vbakFirstRise s = .next t ∧ t.bkd.powered = true ∧
    t.bkd.sec = 0 ∧ t.bkd.frac = 0 ∧ t.flag RTC_STAT_OSF = true ∧ t.flag RTC_STAT_LBV = true ∧ t.bkd.fifo = [] := by
  set u := ({ s with bkd := { s.bkd with powered := true, sampleAt := s.clk.bak } } : State).bkdReset with hu
  have hexec : exec .vbakFirstRise s = .next ((u.raise 787).raise 788) :=
    congrArg Host.Outcome.next (if_neg (by simp [hoff]))
  have hq : DomainStands u ((u.raise 787).raise 788) := (DomainStands.raise 787 u).trans (.raise 788 _)
  refine ⟨_, hexec, ?_⟩
  rw [hq.bkd, hq.flag rfl, hq.flag rfl]
  refine ⟨rfl, rfl, rfl, ?_, ?_, rfl⟩
  · rw [hu, State.bkdReset_flag _ (g := ⟨1, 1, .ro, 0x1, 0, []⟩) rfl rfl (by decide) rfl rfl]
    decide
  · rw [hu, State.bkdReset_flag _ (g := ⟨2, 1, .rw1c, 0x1, 0, []⟩) rfl rfl (by decide) rfl rfl]
    decide

theorem exec_vbakLoss {s : State} (hon : s.bkd.powered = true) :
    exec .vbakLoss s = .next { s.bkdReset with bkd := { s.bkdReset.bkd with powered := false, freezes := [] } } :=
  congrArg Host.Outcome.next (if_pos hon)

theorem exec_oscStopDetect {s : State} (hon : s.bkd.powered = true) : ∃ t, exec .oscStopDetect s = .next t ∧
    t.flag RTC_STAT_OSF = true ∧ t.bkd.sec = s.bkd.sec := by
  have hexec : exec .oscStopDetect s =
      .next ((if s.flag RTC_STAT_OSF then s else s.bkdCode 0x0E01).flagRaise RTC_STAT_OSF 787) :=
    congrArg Host.Outcome.next (if_pos hon)
  obtain ⟨l, hl⟩ := DomainStands.bkdCode_rise (s.flag RTC_STAT_OSF) 0x0E01 s
  exact ⟨_, hexec, State.flag_flagRaise _ _ rfl rfl (by decide), by rw [State.flagRaise_bkd, hl.bkd]⟩

/-- The next sample stands after the present tick, by one interval at most (R98). -/
theorem State.nextSample_bounds {s : State} (hdue : s.bkd.sampleAt ≤ s.clk.bak) :
    s.clk.bak < s.nextSample.bkd.sampleAt ∧ s.nextSample.bkd.sampleAt ≤ s.clk.bak + 32768 := by
  change s.clk.bak < s.bkd.sampleAt + 32768 * ((s.clk.bak - s.bkd.sampleAt) / 32768 + 1) ∧
    s.bkd.sampleAt + 32768 * ((s.clk.bak - s.bkd.sampleAt) / 32768 + 1) ≤ s.clk.bak + 32768
  omega

/-- Before its time, and without VBAK, nothing is sampled. -/
theorem exec_vbakSample_skipped {s : State} {mv : Nat} (h : (!s.bkd.powered || decide (s.clk.bak < s.bkd.sampleAt)) = true) :
    exec (.vbakSample mv) s = .next s :=
  congrArg Host.Outcome.next (if_pos h)

theorem not_vbakSample_skipped {s : State} (hon : s.bkd.powered = true) (hdue : s.bkd.sampleAt ≤ s.clk.bak) :
    ¬(!s.bkd.powered || decide (s.clk.bak < s.bkd.sampleAt)) = true := by
  simp [hon, hdue]

theorem exec_vbakSample_low {s : State} {mv : Nat} (hon : s.bkd.powered = true) (hmv : mv < 2070)
    (hdue : s.bkd.sampleAt ≤ s.clk.bak) : ∃ t, exec (.vbakSample mv) s = .next t ∧ t.flag RTC_STAT_LBV = true ∧
      s.clk.bak < t.bkd.sampleAt ∧ t.bkd.sampleAt ≤ s.clk.bak + 32768 := by
  set u := s.nextSample with hu
  have hexec : exec (.vbakSample mv) s =
      .next ((if u.flag RTC_STAT_LBV then u else u.bkdCode 0x0E02).flagRaise RTC_STAT_LBV 788) := by
    refine congrArg Host.Outcome.next ((if_neg (not_vbakSample_skipped hon hdue)).trans ?_)
    simp [show ¬2070 ≤ mv by omega, hmv, ← hu]
  obtain ⟨l, hl⟩ := DomainStands.bkdCode_rise (u.flag RTC_STAT_LBV) 0x0E02 u
  refine ⟨_, hexec, State.flag_flagRaise _ _ rfl rfl (by decide), ?_⟩
  rw [State.flagRaise_bkd, hl.bkd]
  exact State.nextSample_bounds hdue

theorem exec_vbakSample_high {s : State} {mv : Nat} (hmv : 2130 ≤ mv) : ∃ t, exec (.vbakSample mv) s = .next t ∧ t.regs = s.regs := by
  by_cases hskip : (!s.bkd.powered || decide (s.clk.bak < s.bkd.sampleAt)) = true
  · exact ⟨s, exec_vbakSample_skipped hskip, rfl⟩
  · have hexec : exec (.vbakSample mv) s = .next s.nextSample := by
      refine congrArg Host.Outcome.next ((if_neg hskip).trans ?_)
      simp [show ¬mv < 2130 by omega, show ¬mv < 2070 by omega]
    exact ⟨_, hexec, rfl⟩

/-- CAL_OVR stands after it: set now, or set before and the passage told already. -/
theorem exec_calOverflow {s : State} (hon : s.bkd.powered = true) (hlate : calLast < s.bkd.sec.toNat) :
    ∃ t, exec .calOverflow s = .next t ∧ t.flag RTC_STAT_CAL_OVR = true ∧ t.bkd = s.bkd := by
  by_cases htold : (!s.flag RTC_STAT_CAL_OVR || decide ((s.bkd.recent.getD 1 (s.bkd.sec, s.bkd.frac)).1.toNat ≤ calLast)) = true
  · refine ⟨s.flagRaise RTC_STAT_CAL_OVR 791, congrArg Host.Outcome.next (if_pos ?_), ?_, State.flagRaise_bkd _ _ _⟩
    · simpa [hon, hlate] using htold
    · exact State.flag_flagRaise _ _ rfl rfl (by decide)
  · refine ⟨s, congrArg Host.Outcome.next (if_neg ?_), ?_, rfl⟩
    · simpa [hon, hlate] using htold
    · simp only [Bool.or_eq_true, Bool.not_eq_true', not_or, Bool.not_eq_false] at htold
      exact htold.1

theorem exec_alarmFire {s : State} (hon : s.bkd.powered = true) (hen : s.flag RTC_CTRL_ALM_EN = true)
    (hdue : (s.reg RTC_ALM_LO).toNat + 2 ^ 32 * s.fld RTC_ALM_HI_ALM_HI ≤ s.bkd.sec.toNat) :
    ∃ t, exec .alarmFire s = .next t ∧ t.flag RTC_CTRL_ALM_EN = false ∧ t.flag RTC_STAT_ALM_EV = true := by
  set u := (s.setFld RTC_CTRL_ALM_EN 0).setFld RTC_STAT_ALM_EV 1 with hu
  have hexec : exec .alarmFire s = .next (if s.icuRuns && s.boot.power != .standby then u.raise 784
      else { u with bkd := { u.bkd with lateAlarm := true } }) :=
    congrArg Host.Outcome.next (if_pos (by simp only [hon, hen, hdue, decide_true, Bool.and_self]))
  have hflags : u.flag RTC_CTRL_ALM_EN = false ∧ u.flag RTC_STAT_ALM_EV = true := by
    refine ⟨?_, State.flag_setFld_one _ _ rfl (by decide)⟩
    rw [hu, State.flag, State.fld_setFld_other _ _ _ _ (by decide)]
    exact State.flag_setFld_zero _ _ (by decide)
  refine ⟨_, hexec, ?_⟩
  split
  · rw [(DomainStands.raise 784 u).flag rfl, (DomainStands.raise 784 u).flag rfl]
    exact hflags
  · exact hflags

/-- The committed time is in force at its tick (R94), and the trust in it is back (R96). -/
theorem exec_commitApply {s : State} {v : BitVec 36 × BitVec 15} (hon : s.bkd.powered = true) (hv : s.bkd.commit = some v)
    (hdue : s.bkd.commitAt + 1 ≤ s.clk.bak) : ∃ t, exec .commitApply s = .next t ∧ t.bkd.commit = none ∧ t.bkd.sec = v.1 ∧
      t.bkd.frac = v.2 ∧ t.flag RTC_STAT_OSF = false := by
  set u : State := { s.bakTick (some v) with bkd := { (s.bakTick (some v)).bkd with commit := none } } with hu
  set c := if decide (calLast < v.1.toNat) then u.flagRaise RTC_STAT_CAL_OVR 791 else u.setFld RTC_STAT_CAL_OVR 0 with hc
  set payload := leBytes 5 s.bkd.sec.toNat ++ leBytes 2 s.bkd.frac.toNat ++ leBytes 5 v.1.toNat ++ leBytes 2 v.2.toNat
  have hexec : exec .commitApply s = .next (onlyIf s.active (State.sheet 0x1003 payload) (c.setFld RTC_STAT_OSF 0)) := by
    refine congrArg Host.Outcome.next ?_
    rw [hv]
    exact if_pos (by simp only [hon, hdue, decide_true, Bool.and_self])
  have hcal : c.bkd = u.bkd := by
    rw [hc]
    split
    · exact State.flagRaise_bkd _ _ _
    · rfl
  have htick : u.bkd.commit = none ∧ u.bkd.sec = v.1 ∧ u.bkd.frac = v.2 := by
    rw [hu, State.bakTick, if_pos hon]
    exact ⟨rfl, rfl, rfl⟩
  have hq : DomainStands (c.setFld RTC_STAT_OSF 0) (onlyIf s.active (State.sheet 0x1003 payload) (c.setFld RTC_STAT_OSF 0)) :=
    .onlyIf (.sheet _ _ _)
  obtain ⟨hcommit, hsec, hfrac⟩ := htick
  refine ⟨_, hexec, ?_⟩
  rw [hq.bkd, hq.flag rfl, State.setFld_bkd, hcal]
  exact ⟨hcommit, hsec, hfrac, State.flag_setFld_zero _ _ (by decide)⟩

theorem exec_evtEdgeAccept {s : State} {input : Nat} {level : Bool} (hon : s.bkd.powered = true) (hin : input < 4)
    (hsel : selects (s.fld (EVT_CFG_EDGE input)) level = true) (hroom : s.bkd.fifo.length < 16) :
    ∃ t, exec (.evtEdgeAccept input level) s = .next t ∧ t.bkd.fifo = s.bkd.fifo ++
      [⟨(s.bkd.recent.getD (s.fld (EVT_CFG_FILT input)) (s.bkd.sec, s.bkd.frac)).1,
        (s.bkd.recent.getD (s.fld (EVT_CFG_FILT input)) (s.bkd.sec, s.bkd.frac)).2, level, input, s.active⟩] := by
  set at0 := s.bkd.recent.getD (s.fld (EVT_CFG_FILT input)) (s.bkd.sec, s.bkd.frac)
  set e : EvtEntry := ⟨at0.1, at0.2, level, input, s.active⟩
  set u : State := { s with bkd := { s.bkd with fifo := s.bkd.fifo ++ [e] } }
  have hexec : exec (.evtEdgeAccept input level) s = .next ((onlyIf s.active (State.evtSheet e) u).raise 785) :=
    congrArg Host.Outcome.next
      ((if_pos (by simp only [hon, hin, hsel, decide_true, Bool.and_self])).trans (if_neg (by omega)))
  have hq : DomainStands u ((onlyIf s.active (State.evtSheet e) u).raise 785) :=
    (DomainStands.onlyIf (DomainStands.sheet _ _ u)).trans (.raise 785 _)
  exact ⟨_, hexec, by rw [hq.bkd]⟩

end Sys2Proof.Machine
end

section
namespace Sys2Proof.Machine

/-! ### Accesses of the domain's registers -/

/-- The address of a register of the page, as the bus takes it. -/
theorem toNat_adr_of_domain {a : Nat} (ha : a / 0x10000 = 4) : (adr a).toNat = a := Nat.mod_eq_of_lt (by omega)

theorem adr_add_four (a : Nat) : adr a + 4 = adr (a + 4) := by
  simp [adr, BitVec.ofNat_add]

/-- In Idle and Run an aligned access of the page causes no bus error. -/
theorem State.busFault_of_domain {s : State} {p : Path} (write : Bool) {a : Nat} (hact : s.active = true) (ha : a / 0x10000 = 4)
    (halign : a % 4 = 0) : s.busFault p write a = none := by
  have hpower : s.boot.power = .active := by simpa [State.active] using hact
  have hwin : windowOf a = some .regs := if_pos (by omega)
  simp [State.busFault, State.early, halign, hwin, hpower]

theorem ownStore_of_domain {a : Nat} (ha : a / 0x10000 = 4) : ownStore a = false := by
  have hseq : a ≠ SEQ_CMD := by rintro rfl; exact absurd ha (by decide)
  have hjnl : a ≠ JNL_RD_SLOT := by rintro rfl; exact absurd ha (by decide)
  have hsrc : ¬ICU_SRC 0 ≤ a := by
    rw [show ICU_SRC 0 = 0x1B1000 from rfl]
    omega
  simp [ownStore, isArr, ha, hseq, hjnl, hsrc]

/-- An accepted write of the page on any path stores its word and acts; a host port tells of its transaction besides. -/
theorem State.writeRow_domain {s : State} {p : Path} {a : Nat} {w : Word} (hserve : s.serves p = true) (hon : s.bkd.powered = true)
    (ha : a / 0x10000 = 4) (halign : a % 4 = 0) (hwr : (fieldsOf a).any FieldSpec.writable = true)
    (hres : reservedBit (fieldsOf a) w = none) (href : s.bkdRefused a w = none) :
    ∃ h : Hst, s.writeRow p (adr a) w Side.untold =
      { (s.setReg a (writtenWord (fieldsOf a) (s.reg a) w)).bkdWritten a w with hst := h } := by
  obtain ⟨hact, hans⟩ := Bool.and_eq_true_iff.mp hserve
  have hadr := toNat_adr_of_domain ha
  have hrefused : s.refused p a w = none := by simp [State.refused, ha, href]
  have hslot : a ≠ JNL_RD_SLOT := by rintro rfl; exact absurd ha (by decide)
  have hbus : s.busWrite p (adr a) w Side.untold =
      (s.setReg a (writtenWord (fieldsOf a) (s.reg a) w)).bkdWritten a w := by
    rw [State.busWrite_regs w _ hans (by rw [hadr]; exact State.busFault_of_domain true hact ha halign)
      (by rw [hadr]; exact if_pos (by omega)), hadr,
      State.regWrite_accepted _ hwr (fun _ => hon) (by rw [hres, hrefused]; rfl) hslot, ownStore_of_domain ha]
    simp [State.written, ha]
  refine ⟨(s.writeRow p (adr a) w Side.untold).hst, ?_⟩
  rw [← hbus]
  exact State.writeRow_eq p (adr a) w Side.untold s

/-- A commit's write of RTC_CTRL (R91): ALM_EN is the written bit, and the commit's code acts. -/
theorem State.writeRow_commit {s : State} {p : Path} (almEn : Bool) {code : Nat} (hcode : code = 1 ∨ code = 2)
    (hserve : s.serves p = true) (hon : s.bkd.powered = true) (hfree : s.bkd.commit = none) :
    ∃ (v : Word) (h : Hst), v.getLsbD 3 = almEn ∧ s.writeRow p (adr RTC_CTRL) (word [(3, bit almEn), (0, code)]) Side.untold =
      { (s.setReg RTC_CTRL v).commitWritten code with hst := h } := by
  set w := word [(3, bit almEn), (0, code)] with hw
  have hword : reservedBit (fieldsOf RTC_CTRL) w = none ∧ w.getLsbD 3 = almEn ∧ bitsOf w.toNat 0 2 = code := by
    rw [hw]
    rcases hcode with rfl | rfl <;> cases almEn <;> decide
  obtain ⟨hres, halm, hbits⟩ := hword
  have href : s.bkdRefused RTC_CTRL w = none := by simp [State.bkdRefused, hfree, Machine.when]
  obtain ⟨h, hh⟩ := State.writeRow_domain (a := RTC_CTRL) hserve hon rfl rfl (by decide) hres href
  refine ⟨writtenWord (fieldsOf RTC_CTRL) (s.reg RTC_CTRL) w, h, ?_, ?_⟩
  · rw [getLsbD_writtenWord_of_has (f := ⟨3, 1, .rw, 0x0, 0, []⟩) _ _ (by decide) (by decide)]
    exact halm
  · rw [hh, State.bkdWritten, if_pos rfl, hbits]

/-- Taking a commit leaves ALM_EN as the write gave it. -/
theorem State.flag_almEn_setReg (s : State) {v : Word} {almEn : Bool} (hv : v.getLsbD 3 = almEn) :
    (s.setReg RTC_CTRL v).flag RTC_CTRL_ALM_EN = almEn := by
  rw [State.flag_eq_getLsbD _ rfl]
  exact (congrArg (·.getLsbD 3) (s.reg_setReg_self RTC_CTRL v)).trans hv

theorem exec_commitBinary {s : State} {p : Path} (almEn : Bool) (hserve : s.serves p = true) (hon : s.bkd.powered = true)
    (hfree : s.bkd.commit = none) : ∃ t, exec (.commitBinary p almEn) s = .next t ∧
      t.bkd.commit = some (BitVec.ofNat 36 ((s.reg RTC_SET_SEC_LO).toNat + 2 ^ 32 * s.fld RTC_SET_SEC_HI_SET_SEC_HI),
        BitVec.ofNat 15 (s.fld RTC_SET_SEC_HI_SET_FRAC)) ∧
      t.bkd.commitAt = s.clk.bak ∧ t.flag RTC_CTRL_ALM_EN = almEn ∧ t.bkd.sec = s.bkd.sec := by
  obtain ⟨v, h, hv, hrow⟩ := State.writeRow_commit almEn (.inl rfl) hserve hon hfree
  have hlo : (s.setReg RTC_CTRL v).reg RTC_SET_SEC_LO = s.reg RTC_SET_SEC_LO := s.reg_setReg_other _ _ _ (by decide)
  have hhi : (s.setReg RTC_CTRL v).reg RTC_SET_SEC_HI = s.reg RTC_SET_SEC_HI := s.reg_setReg_other _ _ _ (by decide)
  refine ⟨_, congrArg Host.Outcome.next hrow, ?_, rfl, s.flag_almEn_setReg hv, rfl⟩
  simp only [State.commitWritten, State.fld, RTC_SET_SEC_HI_SET_SEC_HI, RTC_SET_SEC_HI_SET_FRAC, hlo, hhi]

theorem exec_commitCalendar {s : State} {p : Path} (almEn : Bool) {sec : Nat} (hserve : s.serves p = true)
    (hon : s.bkd.powered = true) (hfree : s.bkd.commit = none)
    (hcal : calendarOf (s.reg RTC_SET_TIME).toNat (s.reg RTC_SET_DATE).toNat = .inr sec) :
    ∃ t, exec (.commitCalendar p almEn) s = .next t ∧ t.bkd.commit = some (BitVec.ofNat 36 sec, 0) ∧
      t.bkd.commitAt = s.clk.bak ∧ t.flag RTC_CTRL_ALM_EN = almEn := by
  obtain ⟨v, h, hv, hrow⟩ := State.writeRow_commit almEn (.inr rfl) hserve hon hfree
  set u := s.setReg RTC_CTRL v with hu
  have htime : u.reg RTC_SET_TIME = s.reg RTC_SET_TIME := s.reg_setReg_other _ _ _ (by decide)
  have hdate : u.reg RTC_SET_DATE = s.reg RTC_SET_DATE := s.reg_setReg_other _ _ _ (by decide)
  have htaken : u.commitWritten 2 = { u with bkd := { u.bkd with commit := some (BitVec.ofNat 36 sec, 0), commitAt := u.clk.bak } } := by
    simp only [State.commitWritten, htime, hdate, hcal]
  rw [htaken] at hrow
  exact ⟨_, congrArg Host.Outcome.next hrow, rfl, rfl, s.flag_almEn_setReg hv⟩

/-- A write of EVT_STAT stores some word and acts by its bits OVF_CLR and POP. -/
theorem State.writeRow_evtStat {s : State} {p : Path} {w : Word} (hserve : s.serves p = true) (hon : s.bkd.powered = true)
    (hres : reservedBit (fieldsOf EVT_STAT) w = none) : ∃ (v : Word) (h : Hst), s.writeRow p (adr EVT_STAT) w Side.untold =
      { (s.setReg EVT_STAT v).bkdWritten EVT_STAT w with hst := h } :=
  ⟨_, State.writeRow_domain (a := EVT_STAT) hserve hon rfl rfl (by decide) hres rfl⟩

theorem exec_evtPop {s : State} {p : Path} (hserve : s.serves p = true) (hon : s.bkd.powered = true) :
    ∃ t, exec (.evtPop p) s = .next t ∧ t.bkd.fifo = s.bkd.fifo.drop 1 ∧ t.bkd.sec = s.bkd.sec := by
  obtain ⟨v, h, hrow⟩ := State.writeRow_evtStat (w := word [(17, 1)]) hserve hon (by decide)
  exact ⟨_, congrArg Host.Outcome.next hrow, rfl, rfl⟩

theorem exec_evtOvfClr {s : State} {p : Path} (hserve : s.serves p = true) (hon : s.bkd.powered = true) :
    ∃ t, exec (.evtOvfClr p) s = .next t ∧ t.fld EVT_STAT_OVF_CNT = 0 ∧ t.bkd.fifo = s.bkd.fifo := by
  obtain ⟨v, h, hrow⟩ := State.writeRow_evtStat (w := word [(16, 1)]) hserve hon (by decide)
  exact ⟨_, congrArg Host.Outcome.next hrow, (s.setReg EVT_STAT v).fld_setFld_self EVT_STAT_OVF_CNT 0 (by decide), rfl⟩

/-! ### Reads of the domain's registers -/

/-- In Idle and Run a read of the page is one of its registers. -/
theorem State.busRead_domain {s : State} {p : Path} {a : Nat} (hserve : s.serves p = true) (ha : a / 0x10000 = 4)
    (halign : a % 4 = 0) : s.busRead p (adr a) = s.regRead p a := by
  obtain ⟨hact, hans⟩ := Bool.and_eq_true_iff.mp hserve
  have hwin : windowOf a = some .regs := if_pos (by omega)
  simp [State.busRead, hans, toNat_adr_of_domain ha, State.busFault_of_domain false hact ha halign, hwin]

/-- What the bus carries out for a read on a path: SPI reads the word after it too (R434). -/
def State.readThrough (s : State) (p : Path) (a : Word) : State :=
  if p = .spi then ((s.busRead p a).2.busRead p (a + 4)).2 else (s.busRead p a).2

/-- A read on any path is the bus's, and what a host port tells of its transaction. -/
theorem State.readRow_eq {s : State} {p : Path} (hans : s.answers p = true) (a : Word) :
    s.readRow p a = { s.readThrough p a with hst := (s.readRow p a).hst } := by
  cases p with
  | spi =>
    simp only [State.readRow, hans, if_true]
    exact State.spiEnd_eq _ _ _ _ _ _
  | i2c =>
    simp only [State.readRow, hans, if_true]
    rfl
  | link | sup | svc0 | svc1 => rfl

/-- SPI drives the word read. -/
theorem State.readRow_spi_dout {s : State} {a : Word} (hans : s.answers .spi = true)
    (hans' : (s.readThrough .spi a).answers .spi = true) : (s.readRow .spi a).hst.dout = [(s.busRead .spi a).1] := by
  simp only [State.readRow, hans, if_true]
  exact congrArg (fun t : State => t.hst.dout) (if_pos hans')

theorem State.regRead_stat {s : State} (p : Path) (hon : s.bkd.powered = true) :
    s.regRead p RTC_STAT = s.rtcStatRead (pathShadow p) := by
  simp [State.regRead, hon, show isArr RTC_SEC_LO 4 4 RTC_STAT = false by decide]

/-- A read of RTC_CTRL, the word after RTC_STAT, freezes nothing. -/
theorem State.regRead_ctrl {s : State} (p : Path) (hon : s.bkd.powered = true) : (s.regRead p RTC_CTRL).2 = s := by
  simp [State.regRead, hon, show isArr RTC_SEC_LO 4 4 RTC_CTRL = false by decide, show RTC_CTRL ≠ RTC_STAT by decide,
    show RTC_CTRL ≠ HST_GPIO_IN by decide, show RTC_CTRL ≠ JNL_STAT by decide, State.freezePage,
    show frozenBy RTC_CTRL = [] by decide, forEach]

theorem State.regRead_time {s : State} (p : Path) {w : Nat} (hon : s.bkd.powered = true) (hw : w < 4) :
    s.regRead p (RTC_SEC_LO + 4 * w) = s.rtcTimeRead (pathShadow p) w := by
  simp [State.regRead, hon, isArr, hw]

theorem State.busRead_stat {s : State} {p : Path} (hserve : s.serves p = true) (hon : s.bkd.powered = true) :
    s.busRead p (adr RTC_STAT) = s.rtcStatRead (pathShadow p) := by
  rw [State.busRead_domain hserve rfl rfl, State.regRead_stat p hon]

theorem State.busRead_ctrl {s : State} {p : Path} (hserve : s.serves p = true) (hon : s.bkd.powered = true) :
    (s.busRead p (adr RTC_CTRL)).2 = s := by
  rw [State.busRead_domain hserve rfl rfl, State.regRead_ctrl p hon]

theorem State.busRead_time {s : State} {p : Path} {w : Nat} (hserve : s.serves p = true) (hon : s.bkd.powered = true) (hw : w < 4) :
    s.busRead p (adr (RTC_SEC_LO + 4 * w)) = s.rtcTimeRead (pathShadow p) w := by
  rw [State.busRead_domain hserve (by unfold RTC_SEC_LO; omega) (by unfold RTC_SEC_LO; omega), State.regRead_time p hon hw]

theorem exec_rtcStatRead {s : State} {p : Path} (hserve : s.serves p = true) (hon : s.bkd.powered = true) :
    ∃ t, exec (.rtcStatRead p) s = .next t ∧ t.bkd.freezes = dropPair s.bkd.freezes (pathShadow p) ∧
      t.bkd.stale.contains (pathShadow p) = false ∧ t.regs = s.regs := by
  set u := (s.rtcStatRead (pathShadow p)).2 with hu
  have hread : (s.busRead p (adr RTC_STAT)).2 = u := by rw [State.busRead_stat hserve hon]
  have hthrough : s.readThrough p (adr RTC_STAT) = u := by
    unfold State.readThrough
    split
    · next hspi =>
      subst hspi
      rw [hread]
      exact State.busRead_ctrl (p := .spi) (show u.serves .spi = true from hserve) (show u.bkd.powered = true from hon)
    · exact hread
  have hrow := State.readRow_eq (Bool.and_eq_true_iff.mp hserve).2 (adr RTC_STAT)
  rw [hthrough] at hrow
  refine ⟨_, congrArg Host.Outcome.next hrow, rfl, ?_, rfl⟩
  simp [hu, State.rtcStatRead]

/-! ### The freeze of the time words (R88, R89) -/

/-- A freeze of the time words has started for a path. -/
def State.timeFrozen (p : Path) (s : State) : State :=
  forEach (List.range 4) (fun k t => t.freeze p (RTC_SEC_LO + 4 * k) (s.rtcWord k))
    { s with bkd := { s.bkd with freezes := putPair s.bkd.freezes (pathShadow p) s.clk.bak } }

/-- It changes the list of freezes and the path's shadow. -/
theorem State.timeFrozen_eq (p : Path) (s : State) : s.timeFrozen p =
    { s with
      bkd := { s.bkd with freezes := putPair s.bkd.freezes (pathShadow p) s.clk.bak }
      shadow := (s.timeFrozen p).shadow } := rfl

theorem State.lookupD_timeFrozen (p : Path) (s : State) {w : Nat} (hw : w < 4) :
    lookupD (s.timeFrozen p).shadow (pathShadow p, RTC_SEC_LO + 4 * w) 0 = s.rtcWord w := by
  have haddr : s.timeFrozen p = forEach ((List.range 4).map fun k => RTC_SEC_LO + 4 * k)
      (fun b t => t.freeze p b (s.rtcWord ((b - RTC_SEC_LO) / 4)))
      { s with bkd := { s.bkd with freezes := putPair s.bkd.freezes (pathShadow p) s.clk.bak } } := by
    simp [State.timeFrozen, forEach, List.foldl_map]
  rw [haddr]
  refine (lookupD_forEach_freeze_mem (v := fun b => s.rtcWord ((b - RTC_SEC_LO) / 4))
    (List.mem_map_of_mem (List.mem_range.mpr hw)) 0 _).trans ?_
  simp

/-- A read that finds no freeze starts one, and reads its word from it. -/
theorem State.rtcTimeRead_first {s : State} {p : Path} {w : Nat} (hw : w < 4)
    (hnone : s.bkd.freezes.any (fun f => decide (f.1 = pathShadow p)) = false) :
    s.rtcTimeRead (pathShadow p) w = (s.rtcWord w, s.timeFrozen p) := by
  have hfrozen : (s.rtcTimeRead (pathShadow p) w).2 = s.timeFrozen p := if_neg (by simp [hnone])
  refine Prod.ext ?_ hfrozen
  rw [← s.lookupD_timeFrozen p hw, ← hfrozen]
  rfl

/-- A read within a freeze changes nothing. -/
theorem State.rtcTimeRead_again (p : Path) (w : Nat) (s : State) :
    ((s.timeFrozen p).rtcTimeRead (pathShadow p) w).2 = s.timeFrozen p := by
  refine if_pos ?_
  rw [State.timeFrozen_eq]
  simp [putPair]

/-- What the bus carries out for a read of a time word, where `t` is what the word itself leaves: the word that SPI reads after it
changes nothing within the freeze, but RTC_STAT, after the last time word, ends the freeze. -/
theorem State.readThrough_time {s t : State} {p : Path} {w : Nat} (hw : w < 4) (hread : (s.busRead p (adr (RTC_SEC_LO + 4 * w))).2 = t)
    (hserve : t.serves p = true) (hon : t.bkd.powered = true) (hagain : ∀ k, (t.rtcTimeRead (pathShadow p) k).2 = t) :
    ∃ b : Bkd, s.readThrough p (adr (RTC_SEC_LO + 4 * w)) = { t with bkd := b } ∧ (p ≠ .spi ∨ w ≠ 3 → b = t.bkd) := by
  rw [State.readThrough, hread, adr_add_four]
  split
  · next hspi =>
    by_cases hlast : w = 3
    · subst hlast
      refine ⟨_, congrArg Prod.snd (State.busRead_stat hserve hon), fun h => ?_⟩
      exact absurd rfl (h.resolve_left (not_not_intro hspi))
    · rw [Nat.add_assoc, ← Nat.mul_succ, State.busRead_time hserve hon (by omega), hagain]
      exact ⟨t.bkd, rfl, fun _ => rfl⟩
  · exact ⟨t.bkd, rfl, fun _ => rfl⟩

theorem exec_rtcTimeRead {s : State} {p : Path} (w : BitVec 2) (hserve : s.serves p = true) (hon : s.bkd.powered = true)
    (hnone : s.bkd.freezes.any (fun f => decide (f.1 = pathShadow p)) = false) :
    ∃ t, exec (.rtcTimeRead p w) s = .next t ∧
      (p ≠ .spi ∨ w ≠ 3 → t.bkd.freezes = putPair s.bkd.freezes (pathShadow p) s.clk.bak) ∧
      lookupD t.shadow (pathShadow p, RTC_SEC_LO + 4 * w.toNat) 0 = s.rtcWord w.toNat ∧
      (p = .spi → t.hst.dout = [s.rtcWord w.toNat]) ∧ t.regs = s.regs := by
  have hans := (Bool.and_eq_true_iff.mp hserve).2
  have hread : (s.busRead p (adr (RTC_SEC_LO + 4 * w.toNat))).2 = s.timeFrozen p := by
    rw [State.busRead_time hserve hon w.isLt, State.rtcTimeRead_first w.isLt hnone]
  obtain ⟨b, hthrough, hb⟩ := State.readThrough_time w.isLt hread hserve hon (fun k => State.rtcTimeRead_again p k s)
  have hrow := State.readRow_eq hans (adr (RTC_SEC_LO + 4 * w.toNat))
  rw [hthrough] at hrow
  refine ⟨_, congrArg Host.Outcome.next hrow, fun hne => ?_, State.lookupD_timeFrozen p s w.isLt, fun hspi => ?_, rfl⟩
  · have hw : p ≠ .spi ∨ w.toNat ≠ 3 := hne.imp_right fun h h3 => h (BitVec.eq_of_toNat_eq h3)
    exact congrArg Bkd.freezes (hb hw)
  · subst hspi
    have hdout := State.readRow_spi_dout hans (a := adr (RTC_SEC_LO + 4 * w.toNat)) (by rw [hthrough]; exact hans)
    rw [State.busRead_time hserve hon w.isLt, State.rtcTimeRead_first w.isLt hnone] at hdout
    exact hdout

theorem exec_rtcFreezeTimeout {s : State} {p : Path} {at0 : Nat}
    (hfind : s.bkd.freezes.find? (fun f => decide (f.1 = pathShadow p)) = some (pathShadow p, at0)) (hdue : at0 + 64 ≤ s.clk.bak) :
    ∃ t, exec (.rtcFreezeTimeout p) s = .next t ∧ t.bkd.freezes = dropPair s.bkd.freezes (pathShadow p) ∧
      t.bkd.stale.contains (pathShadow p) = true := by
  set u : State := { s with bkd := { s.bkd with
    freezes := dropPair s.bkd.freezes (pathShadow p)
    stale := if s.bkd.stale.contains (pathShadow p) then s.bkd.stale else pathShadow p :: s.bkd.stale } }
  have hexec : exec (.rtcFreezeTimeout p) s = .next (u.raise 790) := by
    refine congrArg Host.Outcome.next ?_
    rw [hfind]
    exact if_pos hdue
  have hstale : u.bkd.stale.contains (pathShadow p) = true := by
    change (if s.bkd.stale.contains (pathShadow p) then s.bkd.stale else pathShadow p :: s.bkd.stale).contains (pathShadow p) = true
    split
    · next h => exact h
    · simp
  refine ⟨_, hexec, ?_⟩
  rw [(DomainStands.raise 790 u).bkd]
  exact ⟨rfl, hstale⟩

end Sys2Proof.Machine

open Sys2Proof Sys2Proof.Machine

/-- Settles O32, command by command: what a command reports of itself leaves the domain standing (`DomainStands`), a write of a register
of the page stores its word and acts (`State.writeRow_domain`), and a read on SPI carries out the next word's read too, which within a
freeze changes nothing but at RTC_STAT. -/
theorem backupDomainCommands : Obligations.BackupDomainCommands := by
  intro s
  refine ⟨exec_vbakFirstRise, fun hon => ⟨_, exec_vbakLoss hon, rfl, rfl, rfl, rfl⟩, exec_calOverflow,
    fun p w hserve hon hnone => exec_rtcTimeRead w hserve hon hnone, fun p at0 hfind hdue => exec_rtcFreezeTimeout hfind hdue,
    fun p hserve hon => exec_rtcStatRead hserve hon, fun p almEn hserve hon hfree => exec_commitBinary almEn hserve hon hfree,
    fun p almEn sec hserve hon hfree hcal => exec_commitCalendar almEn hserve hon hfree hcal,
    fun v hon hv hdue => exec_commitApply hon hv hdue, exec_oscStopDetect, fun mv hon hmv hdue => exec_vbakSample_low hon hmv hdue,
    fun mv _ hmv => exec_vbakSample_high hmv, fun mv hearly => ⟨s, exec_vbakSample_skipped ?_, rfl⟩, exec_alarmFire,
    fun input level hon hin hsel hroom => exec_evtEdgeAccept hon hin hsel hroom, fun p hserve hon => exec_evtPop hserve hon,
    fun p hserve hon => exec_evtOvfClr hserve hon⟩
  simp [hearly]
end

section
namespace Sys2Proof.Machine

/-! ### What keeps regulating through a restart -/

/-- The pages of the bricks' and of the course's registers. -/
abbrev Regulating (a : Nat) : Prop := a / 0x10000 = 0x10 ∨ a / 0x10000 = 0x13

/-- From `s` to `t` the bricks and the course stand: their hidden state and, where the list of registers has its form, their registers;
and the gates and FAULT_N. -/
structure Regulates (s t : State) : Prop where
  brk : t.brk = s.brk
  seq : t.seq = s.seq
  gates : t.pins.gates = s.pins.gates
  faultN : t.pins.faultN = s.pins.faultN
  wf : Registers.wf s.regs = true → Registers.wf t.regs = true
  reg : Registers.wf s.regs = true → ∀ a, Regulating a → t.reg a = s.reg a

theorem loud_of_regulating {a : Nat} (ha : Regulating a) : loud a = false := by
  have hsrc : ¬ICU_SRC 0 ≤ a := by
    rw [show ICU_SRC 0 = 0x1B1000 from rfl]
    unfold Regulating at ha
    omega
  have hlist : a ∉ [ICU_STAT, JNL_STAT, JNL_LOST, GLB_SUMMARY, LNK_DROP_CNT] := fun hmem =>
    have hpage : ∀ b ∈ [ICU_STAT, JNL_STAT, JNL_LOST, GLB_SUMMARY, LNK_DROP_CNT], ¬(b / 0x10000 = 0x10 ∨ b / 0x10000 = 0x13) := by
      decide
    hpage a hmem ha
  simp [loud, isArr, hsrc, List.contains_eq_mem, hlist]

/-- No field of the bricks or the course is restored by an L2 or L3 (Table — Register fields, R7). -/
theorem level_of_regulating {a : Nat} (ha : Regulating a) : ∀ f ∈ fieldsOf a, f.level < 4 := by
  have hpage : ∀ d ∈ blockRegs (a / 0x10000), ∀ f ∈ d.fields, f.level < 4 := by
    rcases ha with ha | ha <;> rw [ha] <;> decide
  intro f hf
  unfold fieldsOf at hf
  split at hf
  · next d hd => exact hpage d (List.mem_of_find?_eq_some hd) f hf
  · cases hf

/-- A restore at a level above every field's leaves the word. -/
theorem restoredWord_of_level_lt {lvl a : Nat} (h : ∀ f ∈ fieldsOf a, f.level < lvl) (w : Word) : restoredWord lvl a w = w := by
  have hnone : maskOf (restoredAt lvl) (fieldsOf a) = 0#32 := by
    refine BitVec.eq_of_getLsbD_eq fun i hi => ?_
    rw [getLsbD_maskOf _ _ hi, BitVec.getLsbD_zero, List.any_eq_false]
    exact fun f hf => by simp [restoredAt, h f hf]
  rw [restoredWord, hnone, BitVec.and_zero, BitVec.or_zero, BitVec.not_zero, BitVec.and_allOnes]

namespace Regulates

theorem refl (s : State) : Regulates s s := ⟨rfl, rfl, rfl, rfl, id, fun _ _ _ => rfl⟩

theorem trans {s t u : State} (h : Regulates s t) (k : Regulates t u) : Regulates s u :=
  ⟨k.brk.trans h.brk, k.seq.trans h.seq, k.gates.trans h.gates, k.faultN.trans h.faultN, fun x => k.wf (h.wf x),
    fun x a ha => (k.reg (h.wf x) a ha).trans (h.reg x a ha)⟩

theorem ite {σ s t : State} {c : Prop} [Decidable c] (hs : Regulates σ s) (ht : Regulates σ t) : Regulates σ (if c then s else t) := by
  split
  · exact hs
  · exact ht

/-- An update of any part but the bricks' and the course's, with the gates and FAULT_N as they are. -/
theorem parts {σ s : State} (h : Regulates σ s) {pd sh fr clk boot bkd icu hst wdg jnl pins bnd vcp cpm msr thm cel mtr lnk sram flash}
    (hgates : pins.gates = s.pins.gates) (hfaultN : pins.faultN = s.pins.faultN) : Regulates σ
    (State.mk pd s.regs sh fr clk boot bkd icu hst wdg jnl pins bnd s.brk s.seq vcp cpm msr thm cel mtr lnk sram flash) :=
  ⟨h.brk, h.seq, hgates.trans h.gates, hfaultN.trans h.faultN, h.wf, h.reg⟩

variable {σ s : State}

theorem setReg {a : Nat} {v : Word} (ha : ¬Regulating a) (h : Regulates σ s) : Regulates σ (s.setReg a v) :=
  h.trans ⟨rfl, rfl, rfl, rfl, Registers.wf_setRegs _ _ _, fun _ b hb => s.reg_setReg_other a b v (fun e => ha (e ▸ hb))⟩

theorem setFld {f : Fld} {v : Nat} (hf : ¬Regulating f.reg) (h : Regulates σ s) : Regulates σ (s.setFld f v) := setReg hf h

theorem of_raised {t : State} (h : Regulates σ s) (hr : Raised s t) (hk : Keeps s t) : Regulates σ t :=
  h.trans ⟨hr.parts .brk, hr.parts .seq, by rw [show t.pins = s.pins from hr.parts .pins], by rw [show t.pins = s.pins from hr.parts .pins], hk.regs,
    fun _ a ha => have ⟨hsrc, hstat, _, _, _, hdrop⟩ := loud_eq_false (loud_of_regulating ha); hr.reg a hsrc hstat hdrop⟩

theorem raise {src : Nat} (h : Regulates σ s) : Regulates σ (s.raise src) :=
  h.of_raised (State.raise_raised src s (.refl s)) (State.raise_keeps src s (.refl s))

theorem driveInt (h : Regulates σ s) : Regulates σ s.driveInt :=
  h.of_raised (State.driveInt_raised s (.refl s)) (State.driveInt_keeps s (.refl s))

/-- A restore at L2 or L3. -/
theorem restore {lvl : Nat} (hlvl : 4 ≤ lvl) (h : Regulates σ s) : Regulates σ (s.restore lvl (fun _ => true)) := by
  refine h.trans ⟨rfl, rfl, rfl, rfl, (State.restore_keeps lvl _ s (.refl s)).regs, fun hwf a ha => ?_⟩
  rw [State.reg_restore_all lvl hwf]
  exact restoredWord_of_level_lt (fun f hf => Nat.lt_of_lt_of_le (level_of_regulating ha f hf) hlvl) _

/-! #### What a restart cuts -/

theorem owRelease (h : Regulates σ s) : Regulates σ s.owRelease := ite (setFld (by decide) (parts h rfl rfl)) h

theorem showLim (h : Regulates σ s) : Regulates σ s.showLim := ite h (raise (setFld (by decide) h))

theorem setYield {b : Bool} (h : Regulates σ s) : Regulates σ (s.setYield b) := ite h (raise (setFld (by decide) h))

theorem windowStatus {w : Window} {v : Nat} (h : Regulates σ s) : Regulates σ (s.windowStatus w v) := by
  have hfq : ¬Regulating (CEL_FQ w.j) := by
    unfold Regulating CEL_FQ
    omega
  have hstat := setFld (v := v) (show ¬Regulating (if w.active then CEL_FQ_A_STAT w.j else CEL_FQ_P_STAT w.j).reg by
    split <;> exact hfq) h
  exact ite (setFld hfq hstat) hstat

theorem abandonSweep (h : Regulates σ s) : Regulates σ s.abandonSweep := by
  refine ite h (setFld (by decide) (parts ?_ rfl rfl))
  split
  · exact owRelease (showLim (setYield (setFld (by decide) (parts (windowStatus h) rfl rfl))))
  · exact h

theorem cutSheet (h : Regulates σ s) : Regulates σ s.cutSheet := by
  unfold State.cutSheet
  split
  · exact h
  · refine parts (ite (parts ?_ rfl rfl) ?_) rfl rfl
    all_goals
      unfold State.sheetPartly
      split
      · exact h
      · exact parts h rfl rfl

theorem clearRecords (h : Regulates σ s) : Regulates σ s.clearRecords := by
  have hrec (n : Nat) : ¬Regulating (VCP_REC_LO n) ∧ ¬Regulating (VCP_REC_HI n) := by
    unfold Regulating VCP_REC_LO VCP_REC_HI
    omega
  have each (l : List Nat) {u : State} (hu : Regulates σ u) : Regulates σ (forEach l
      (fun n t => (t.setReg (VCP_REC_LO n) 0x88888888#32).setReg (VCP_REC_HI n) 0x88888888#32) u) := by
    unfold forEach
    induction l generalizing u with
    | nil => exact hu
    | cons n r ih => exact ih (setReg (hrec n).2 (setReg (hrec n).1 hu))
  exact parts (each _ h) rfl rfl

/-- An L2 or L3 is entered (R52, R114). -/
theorem enterRestart {lvl : Nat} {wdg : Bool} (h : Regulates σ s) : Regulates σ (s.enterRestart lvl wdg) := by
  unfold State.enterRestart
  dsimp only
  generalize hu : (if s.boot.resetNLow then _ else _ : State) = u
  have hheld : Regulates σ u := by
    subst hu
    exact ite (parts (abandonSweep h) rfl rfl) (parts (abandonSweep h) rfl rfl)
  exact ite (driveInt (clearRecords (parts (restore (by decide) (cutSheet hheld)) rfl rfl))) (restore (by decide) hheld)

/-- A request of an L2 or L3 in Idle or Run (R119, R120). -/
theorem requestReset {lvl src : Nat} {quiet : Bool} (hactive : s.active = true) (hwait : s.boot.waiting = none)
    (hrestart : s.boot.restart = none) (hlvl : 1 < lvl) : Regulates s (s.requestReset src lvl quiet) := by
  rw [State.requestReset_now hactive hwait hrestart fun h => absurd h (by omega)]
  obtain ⟨code, heq⟩ := State.performReset_eq lvl src false (s.noteCause src)
  rw [heq, if_neg (by omega)]
  have hcause : Regulates s (s.noteCause src) := setFld (by decide) (refl s)
  exact setFld (by decide) (setFld (by decide) (setFld (by decide) (parts (enterRestart hcause) rfl rfl)))

end Regulates

theorem regulating_brk {o : Nat} (n : Nat) (hlo : 0x100000 ≤ o) (hhi : o < 0x101000) : Regulating (o + 0x1000 * (n % 16)) := by
  unfold Regulating
  omega

end Sys2Proof.Machine

open Sys2Proof Sys2Proof.Machine

/-- Settles O12: an L2 or L3 restores no field of a brick or of the course, and what it cuts touches none (`Regulates`). -/
theorem restartKeepsRegulation : Obligations.RestartKeepsRegulation := by
  intro s p hans hearly hactive hlvl hwait hrestart hwf
  obtain ⟨hpower, hlevel, hsrc, hlast⟩ := State.requestReset_restart (s := s.setReg RPC_SWRST (s.reg RPC_SWRST))
    hactive hwait hrestart (lvl := s.mapLevel 4) hlvl 4 false
  have hkept : Regulates s ((s.setReg RPC_SWRST (s.reg RPC_SWRST)).requestReset 4 (s.mapLevel 4) false) :=
    (Regulates.setReg (by decide) (.refl s)).trans (.requestReset hactive hwait hrestart hlvl)
  have hreg := hkept.reg hwf
  refine ⟨_, rfl, ?_⟩
  rw [State.writeRow_eq, State.busWrite_swrst _ hans hearly]
  refine ⟨hpower, hlevel, hkept.seq, hkept.gates, hkept.faultN, hreg _ (by decide), hreg _ (by decide), hreg _ (by decide),
    fun n _ => ⟨?_, ?_, ?_, ?_⟩, hsrc, hlast.trans (Nat.mod_eq_of_lt s.mapLevel_swrst_lt)⟩
  · exact congrArg (fun w : Word => bitsOf w.toNat 24 3) (hreg (BRK_STAT n) (regulating_brk n (by decide) (by decide)))
  · exact hreg (BRK_REF n) (regulating_brk n (by decide) (by decide))
  · exact hreg (BRK_CMD n) (regulating_brk n (by decide) (by decide))
  · exact hreg (BRK_TARGET n) (regulating_brk n (by decide) (by decide))
end

section
namespace Sys2Proof.Machine

/-! ### An all-off's frame -/

/-- From `s` to `t` no more changed than an all-off may: the registers and the parts of its frame (R48, R255). -/
abbrev OffFrame (s t : State) : Prop := Within allOffRegs allOffParts s t

/-- The registers of the frame, those of the arrays one by one. -/
theorem named_allOff_of_isArr {b stride count a : Nat} (hb : b ∈ allOffRegs) (harr : isArrayAt b stride count = true)
    (h : isArr b stride count a = true) : named allOffRegs a = true :=
  named_mono (List.cons_subset.mpr ⟨hb, List.nil_subset _⟩) (named_of_isArr harr h)

theorem isArr_add {b stride count k : Nat} (hs : 0 < stride) (hk : k < count) : isArr b stride count (b + stride * k) = true := by
  simp [isArr, hs, hk]

/-- A register of one of the bricks' arrays. -/
theorem named_allOff_brk {b : Nat} (n : Nat) (hb : b ∈ allOffRegs) (harr : isArrayAt b 0x1000 16 = true) :
    named allOffRegs (b + 0x1000 * (n % 16)) = true :=
  named_allOff_of_isArr hb harr (isArr_add (by decide) (Nat.mod_lt _ (by decide)))

namespace OffFrame

variable {σ s : State}

theorem refl (s : State) : OffFrame s s := WithinAt.refl [] _ _ s

theorem ite {t : State} {c : Prop} [Decidable c] (hs : OffFrame σ s) (ht : OffFrame σ t) : OffFrame σ (if c then s else t) := by
  split
  · exact hs
  · exact ht

theorem onlyIf {b : Bool} {f : State → State} (hf : ∀ u, OffFrame σ u → OffFrame σ (f u)) (h : OffFrame σ s) :
    OffFrame σ (onlyIf b f s) := ite (hf s h) h

theorem forEach {α : Type} {l : List α} {f : α → State → State} (hf : ∀ a u, OffFrame σ u → OffFrame σ (f a u))
    (h : OffFrame σ s) : OffFrame σ (forEach l f s) := by
  unfold Machine.forEach
  induction l generalizing s with
  | nil => exact h
  | cons a r ih => exact ih (hf a s h)

/-- An update of the parts of the frame. -/
theorem parts (h : OffFrame σ s) {bnd brk cel cpm msr pins seq vcp} :
    OffFrame σ (State.mk s.pending s.regs s.shadow s.free s.clk s.boot s.bkd s.icu s.hst s.wdg s.jnl pins bnd brk seq vcp cpm msr
      s.thm cel s.mtr s.lnk s.sram s.flash) := by
  refine h.trans ⟨fun _ _ _ _ => rfl, fun p hp => ?_⟩
  cases p
  case bnd | brk | cel | cpm | msr | pins | seq | vcp => exact absurd (by decide) hp
  all_goals simp [Part.same]

theorem setReg {a : Nat} {v : Word} (ha : named allOffRegs a = true) (h : OffFrame σ s) : OffFrame σ (s.setReg a v) :=
  h.trans (.setReg_named ha s v)

theorem setFld {f : Fld} {v : Nat} (hf : named allOffRegs f.reg = true) (h : OffFrame σ s) : OffFrame σ (s.setFld f v) := setReg hf h

theorem setFlag {f : Fld} {b : Bool} (hf : named allOffRegs f.reg = true) (h : OffFrame σ s) : OffFrame σ (s.setFlag f b) :=
  setFld hf h

theorem raise {src : Nat} (h : OffFrame σ s) : OffFrame σ (s.raise src) :=
  h.trans ((State.raise_raised src s (.refl s)).withinAt [] _ _)

theorem flagRaise {f : Fld} {src : Nat} (hf : named allOffRegs f.reg = true) (h : OffFrame σ s) : OffFrame σ (s.flagRaise f src) :=
  raise (setFld hf h)

theorem send {type mode : Nat} {both : Bool} {payload : List Byte} (h : OffFrame σ s) : OffFrame σ (s.send type mode both payload) :=
  h.trans ((State.send_raised type mode both payload s (.refl s)).withinAt [] _ _)

theorem sendTo {type target tag : Nat} {payload : List Byte} (h : OffFrame σ s) : OffFrame σ (s.sendTo type target tag payload) :=
  h.trans ((State.emit_raised _ _ _ _ _ _ s (.refl s)).withinAt [] _ _)

theorem sheet {type : Nat} {payload : List Byte} (h : OffFrame σ s) : OffFrame σ (s.sheet type payload) :=
  h.trans ((State.sheet_within type payload s).mono (List.nil_subset _) (List.nil_subset _) (List.nil_subset _))

/-! #### Bricks and rails -/

theorem setBrkState {n st : Nat} (h : OffFrame σ s) : OffFrame σ (s.setBrkState n st) :=
  ite h (raise (setFld (named_allOff_brk (b := BRK_STAT 0) n (by decide) (by decide)) h))

theorem dropInjection {n : Nat} (h : OffFrame σ s) : OffFrame σ (s.dropInjection n) := by
  unfold State.dropInjection
  split
  · exact ite (raise (setFld (by decide) (parts h))) h
  · exact h

theorem cutHold {n : Nat} (h : OffFrame σ s) : OffFrame σ (s.cutHold n) :=
  ite (sheet (setFld (named_allOff_brk (b := BRK_HOLD 0) n (by decide) (by decide))
    (setFld (named_allOff_brk (b := BRK_LANE_STAT 0) n (by decide) (by decide)) h))) h

theorem syncLanes {n : Nat} (h : OffFrame σ s) : OffFrame σ (s.syncLanes n) :=
  forEach (fun _ _ hu => onlyIf (fun _ hv => parts hv) hu) h

theorem named_recFld (n q : Nat) : named allOffRegs (recFld n q).reg = true := by
  unfold recFld
  split
  · exact named_mono (by decide) (named_VCP_REC_LO n)
  · exact named_mono (by decide) (named_VCP_REC_HI n)

theorem decideRec {n q state why : Nat} (h : OffFrame σ s) : OffFrame σ (s.decideRec n q state why) := by
  have ht {i : _} : OffFrame σ { s.setFld (recFld n q) state with vcp := i } := parts (setFld (named_recFld n q) h)
  exact ite (raise (sheet ht)) (ite (raise ht) (ite (raise ht) ht))

theorem failRecs {n why : Nat} (h : OffFrame σ s) : OffFrame σ (s.failRecs n why) := parts (forEach (fun _ _ hu => decideRec hu) h)

theorem leaderOff {n : Nat} (h : OffFrame σ s) : OffFrame σ (s.leaderOff n) := by
  have hfb : OffFrame σ (s.setFld MSR_STAT_TRIG_FB 1) := setFld (by decide) h
  exact ite (parts hfb) h

theorem haltBrick {n : Nat} (h : OffFrame σ s) : OffFrame σ (s.haltBrick n) :=
  ite h (onlyIf (fun _ hu => failRecs hu) (leaderOff (syncLanes (parts (cutHold
    (setFld (named_allOff_brk (b := BRK_LIM_STAT 0) n (by decide) (by decide))
      (setReg (named_allOff_brk (b := BRK_SS 0) n (by decide) (by decide))
        (setBrkState (onlyIf (fun _ hu => dropInjection hu) h)))))))))

theorem named_SEQ_RAIL_STAT (rail : Nat) : named allOffRegs (SEQ_RAIL_STAT rail) = true :=
  named_allOff_of_isArr (b := SEQ_RAIL_STAT 0) (stride := 0x10) (count := 21) (by decide) (by decide)
    (isArr_add (by decide) (Nat.mod_lt _ (by decide)))

theorem setPg {rail : Nat} {b : Bool} (h : OffFrame σ s) : OffFrame σ (s.setPg rail b) :=
  ite h (raise (setReg (by decide) (setFlag (named_SEQ_RAIL_STAT rail) h)))

theorem railDown {rail : Nat} (h : OffFrame σ s) : OffFrame σ (s.railDown rail) :=
  parts (setFld (named_SEQ_RAIL_STAT rail) (setFld (named_SEQ_RAIL_STAT rail) (setPg (setReg (by decide) h))))

/-! #### What an all-off ends -/

theorem seqRefresh (h : OffFrame σ s) : OffFrame σ s.seqRefresh := by
  have hrole (v : Nat) : OffFrame σ (s.setFld SEQ_STAT_ROLE v) := setFld (by decide) h
  have hphase (v w : Nat) : OffFrame σ ((s.setFld SEQ_STAT_ROLE v).setFld SEQ_STAT_PHASE w) := setFld (by decide) (hrole v)
  exact ite (hrole _) (ite (hphase _ _) (ite (hphase _ _) (ite (hphase _ _) (hphase _ _))))

theorem answerDist (h : OffFrame σ s) : OffFrame σ s.answerDist := by
  unfold State.answerDist
  split
  · exact sendTo (parts h)
  · exact h

theorem endRequest {result : Nat} (h : OffFrame σ s) : OffFrame σ (s.endRequest result) :=
  setFld (by decide) (setFld (by decide) (parts (ite h (setFld (by decide) h))))

theorem recordBond {e : BondErr} (h : OffFrame σ s) : OffFrame σ (s.recordBond e) := setReg (by decide) (setReg (by decide) h)

theorem abortRelay {reason : Nat} (h : OffFrame σ s) : OffFrame σ (s.abortRelay reason) :=
  ite (raise (seqRefresh (answerDist (endRequest (sheet (recordBond h)))))) h

theorem putTarget {n target src : Nat} {loop : Bool} (h : OffFrame σ s) : OffFrame σ (s.putTarget n loop target src) := by
  have htarget : named allOffRegs (BRK_TARGET n) = true := named_allOff_brk (b := BRK_TARGET 0) n (by decide) (by decide)
  have ht {f : Brick → Brick} : OffFrame σ (((s.setFld (BRK_TARGET_TARGET n) target).setFlag (BRK_TARGET_LOOP n) loop).updBrick n f) :=
    parts (setFlag htarget (setFld htarget h))
  exact ite (setFlag (named_allOff_brk (b := BRK_STAT 0) n (by decide) (by decide)) ht) ht

theorem endSession {reason : Nat} (h : OffFrame σ s) : OffFrame σ (s.endSession reason) := by
  have hshown : OffFrame σ (((((s.setFld CPM_CHG_STAT_PHASE 0).setFld CPM_CHG_STAT_END_REASON reason).setFld CPM_CHG_STAT_SEARCHING 0).setFld
      CPM_CHG_STAT_ARMED 0).setReg CPM_CHG_TIME (BitVec.ofNat 32 (secondsBetween s.cpm.openAt s.now))) :=
    setReg (by decide) (setFld (by decide) (setFld (by decide) (setFld (by decide) (setFld (by decide) h))))
  unfold State.endSession
  refine ite ?_ h
  extract_lets dur t0 shown cpm closed written driven
  have hclosed : OffFrame σ closed := parts hshown
  have hwritten : OffFrame σ written := ite (putTarget hclosed) hclosed
  have hdriven : OffFrame σ driven := ite (parts hwritten) hwritten
  exact raise (flagRaise (by decide) (sheet hdriven))

theorem dropAll (h : OffFrame σ s) : OffFrame σ s.dropAll := by
  unfold State.dropAll
  extract_lets told halted down course probe cel window
  have hhalted : OffFrame σ halted := forEach (fun _ _ hu => haltBrick hu) (onlyIf (fun _ hu => send hu) h)
  have hcourse : OffFrame σ course := setFld (by decide) (forEach (fun _ _ hu => railDown hu) hhalted)
  have hprobe : OffFrame σ probe := ite (setFld (by decide) hcourse) hcourse
  have hwindow : OffFrame σ window := parts hprobe
  exact seqRefresh (parts hwindow)

theorem markOff {brick : Option Nat} {code : Nat} {remote : Option (Nat × Bool)} (h : OffFrame σ s) :
    OffFrame σ (s.markOff brick code remote) := setReg (by decide) (parts h)

theorem allOffBody {brick : Option Nat} {code : Nat} {remote : Option (Nat × Bool)} (h : OffFrame σ s) :
    OffFrame σ (s.allOffBody brick code remote) := by
  by_cases hactive : s.flag SEQ_FAULT_ACTIVE = true
  · rcases State.allOffBody_active hactive brick code remote with ⟨-, -, -, -, -, heq⟩ | ⟨-, heq⟩
    · rw [heq]
      exact h.trans ((State.recode_within brick code s).mono (List.nil_subset _) (by decide) (by decide))
    · rwa [heq]
  · unfold State.allOffBody
    rw [if_neg hactive]
    have hended : OffFrame σ ((s.markOff brick code remote).dropAll.endSession 6) := endSession (dropAll (markOff h))
    have hrelay {c : Prop} [Decidable c] : OffFrame σ (if c then ((s.markOff brick code remote).dropAll.endSession 6).abortRelay 0x33
        else (s.markOff brick code remote).dropAll.endSession 6) := ite (abortRelay hended) hended
    exact raise ((ite (send hrelay) hrelay).trans (.jnl _ rfl))

end OffFrame

/-- An all-off changes no more than its frame names. -/
theorem State.allOff_within (code : Nat) (payload : List Byte) (remote : Option (Nat × Bool)) (s : State) :
    Within allOffRegs allOffParts s (s.allOff code payload remote) :=
  OffFrame.allOffBody (.sheet (.refl s))

end Sys2Proof.Machine
end

section
namespace Sys2Proof.Machine

/-! ### A request that waits for an all-off -/

/-- The all-off of a reset request over rails that are up, its cause noted before (R119, R120). -/
def State.offForReset (src : Nat) (s : State) : State := (s.noteCause src).allOff 0x0D0A [] none

/-- An L0 or L1 requested with a rail up, over no restart of its own level or a stronger one: the rails fall and the level waits (R120). -/
theorem State.requestReset_waits {s : State} (hup : s.railUp = true) (hwait : s.boot.waiting = none) {lvl : Nat} (hlvl : lvl ≤ 1)
    (hrestart : ∀ l, s.boot.restart = some l → lvl < l) (src : Nat) : s.requestReset src lvl false =
      { s.offForReset src with boot := { (s.offForReset src).boot with waiting := some (lvl, src) } } := by
  have hpower : s.boot.power = .active := by simpa [State.active] using (Bool.and_eq_true_iff.mp hup).1
  have hlate : s.requestLate lvl = false := by
    simp only [State.requestLate, hpower]
    split
    · next l hl => exact decide_eq_false (Nat.not_le.mpr (hrestart l hl))
    · rfl
  simp [State.requestReset, State.offForReset, hpower, hwait, hlate, hlvl, hup]

theorem State.offForReset_boot (src : Nat) (s : State) : (s.offForReset src).boot = s.boot :=
  (State.allOff_within 0x0D0A [] none (s.noteCause src)).2 .boot (by decide)

/-- The cause outlives the all-off. -/
theorem State.offForReset_cause {src : Nat} (hsrc : src < 9) (s : State) :
    ((s.offForReset src).fld RPC_RST_CAUSE_CAUSE).testBit src = true := by
  have hword : (s.offForReset src).reg RPC_RST_CAUSE = (s.noteCause src).reg RPC_RST_CAUSE :=
    (State.allOff_within 0x0D0A [] none (s.noteCause src)).1 _ (by decide) (by decide) (by decide)
  have hmarked := (State.noteCause_marked hsrc s).cause hsrc
  rwa [State.fld, RPC_RST_CAUSE_CAUSE, ← hword] at hmarked

/-- Everything falls (R48), and the record is the request's (R255). -/
theorem State.offForReset_falls {s : State} (h : s.flag SEQ_FAULT_ACTIVE = false) (src : Nat) :
    Fallen s (s.offForReset src) ∧ (s.offForReset src).flag SEQ_FAULT_ACTIVE = true ∧ (s.offForReset src).fld SEQ_FAULT_CODE = 0x0D0A := by
  have hnone : (s.noteCause src).flag SEQ_FAULT_ACTIVE = false := by
    rwa [State.flag, State.noteCause, State.fld_setFld_other _ _ _ _ (by decide)]
  obtain ⟨hfalls, hrecord⟩ := State.allOff_falls hnone 0x0D0A [] none
  obtain ⟨hactive, -, -, hcode⟩ := bitsOf_faultWord (none : Option (Nat × Bool)).isSome ((s.noteCause src).faultOrigin none).2
    ((s.noteCause src).faultOrigin none).1 0x0D0A
  rw [← hrecord] at hactive hcode
  refine ⟨hfalls.of_before (fun n => State.fld_setFld_other _ _ _ _ ?_) rfl, bne_iff_ne.mpr (by rw [State.fld]; exact hactive ▸ one_ne_zero), hcode⟩
  simp only [BRK_STAT_STATE, BRK_STAT, RPC_RST_CAUSE_CAUSE, RPC_RST_CAUSE]
  omega

/-- The code of the all-off before a reset, where one is ACTIVE (R119). -/
theorem State.performReset_preFault (lvl src : Nat) (bor : Bool) {s : State} (h : s.flag SEQ_FAULT_ACTIVE = true) :
    (s.performReset lvl src bor).fld RPC_RST_STAT_PRE_RST_FAULT = s.fld SEQ_FAULT_CODE := by
  unfold State.performReset
  dsimp only
  rw [State.fld_setFld_self _ _ _ (by decide), if_pos h]
  exact Nat.mod_eq_of_lt (Nat.mod_lt _ (by decide))

theorem bitsOf_one_of_testBit {n i : Nat} (h : n.testBit i = true) : bitsOf n i 1 = 1 := by
  rw [Nat.testBit_eq_decide_div_mod_eq, decide_eq_true_eq] at h
  rwa [bitsOf, Nat.shiftRight_eq_div_pow]

end Sys2Proof.Machine

open Sys2Proof Sys2Proof.Machine

/-- Settles O11: a request over rails that are up is an all-off that leaves the start-up and RST_CAUSE (`State.requestReset_waits`,
`State.allOff_within`), and the level that waited is performed at the timeline's end. -/
theorem resetWaitsForAllOff : Obligations.ResetWaitsForAllOff := by
  refine ⟨fun s p hans hearly hup hlvl hwait hrestart hfault => ?_, fun s l k hactive hline hcool hwait hl hk hrestart hfault => ?_⟩
  · set v := s.setReg RPC_SWRST (s.reg RPC_SWRST) with hv
    have hnone : v.flag SEQ_FAULT_ACTIVE = false := by
      rw [← hfault, State.flag, hv, State.fld_setReg_other _ _ _ _ (by decide)]
      rfl
    obtain ⟨hfalls, hactive, hcode⟩ := State.offForReset_falls hnone 4
    have hcause := bitsOf_one_of_testBit (v.offForReset_cause (src := 4) (by decide))
    have hpower : s.boot.power = .active := by simpa [State.active] using (Bool.and_eq_true_iff.mp hup).1
    have hpowerOff : (v.offForReset 4).boot.power = .active := (congrArg Boot.power (v.offForReset_boot 4)).trans hpower
    refine ⟨_, rfl, ?_⟩
    rw [State.writeRow_eq, State.busWrite_swrst _ hans hearly, State.requestReset_waits ((s.railUp_setReg_same _).trans hup) hwait hlvl
      (fun l hl => nomatch hrestart.symm.trans hl)]
    generalize v.offForReset 4 = u at hfalls hactive hcode hcause hpowerOff ⊢
    exact ⟨hpowerOff, rfl, hcode, hactive, hfalls.gates, hfalls.timeline, hcause⟩
  · obtain ⟨hstart, -, -⟩ := State.performReset_started hl k s.timelineOver
    obtain ⟨hsrc, hlevel⟩ := State.performReset_record l k false s.timelineOver
    exact ⟨_, allOffTimelineEnd_waiting hactive hline hcool hwait hrestart, hstart.power, hstart.level, hstart.waiting,
      hsrc.trans (Nat.mod_eq_of_lt (by omega)), hlevel.trans (Nat.mod_eq_of_lt (by omega)),
      State.performReset_preFault l k false (s := s.timelineOver) hfault⟩
end

section
namespace Sys2Proof.Machine

/-! ### A restart whose copies have failed -/

/-- An L2 restart in Run, up to the check of its copies. -/
def restartInRun : State := { State.reset with
  boot := { Boot.initial with power := .active, phase := 7, restart := some 2 }
  regs := (State.reset.setFld SEQ_STAT_DEV_COURSE 1).regs }

/-- After the check has failed: the L1 it escalates to waits for the end of an all-off, and the restart is still in progress (R114, R120). -/
def restartFailed : State := (restartInRun.bootFault 0x0D0C).requestReset 8 1 false

theorem exec_l2RestartDone_restartInRun : exec (.l2RestartDone false) restartInRun = .next restartFailed :=
  congrArg Host.Outcome.next (if_pos (by decide))

theorem restartFailed_boot : restartFailed.boot =
    { restartInRun.boot with faults := [0x0D0C], waiting := some (1, 8) } := by
  rw [restartFailed, State.requestReset_waits (by decide) rfl (by decide) (by decide), State.offForReset_boot]
  rfl

/-- Once a copy has failed, no completion of the restart counts any more. -/
theorem State.restartDone_of_failed {s : State} (h : s.boot.faults.contains 0x0D0C = true) (lvl : Nat) (copiesOk : Bool) :
    s.restartDone lvl copiesOk = s := if_neg fun ⟨_, _, hnot⟩ => by rw [h] at hnot; cases hnot

/-- The clause of L2_RESTART_DONE. -/
theorem l2RestartDone_of_bootPhasesComplete (h : Obligations.BootPhasesComplete) (s : State) (hrestart : s.boot.restart = some 2)
    (hhold : s.boot.hold ≠ .resetN) : ∃ t, exec (.l2RestartDone true) s = .next t ∧ t.boot.restart = none := by
  obtain ⟨-, -, -, -, -, -, -, -, -, -, hdone, -⟩ := h s
  obtain ⟨t, hexec, hnone, -⟩ := hdone hrestart hhold
  exact ⟨t, hexec, hnone⟩

end Sys2Proof.Machine

open Sys2Proof Sys2Proof.Machine

/-- Refutes O28: in `restartFailed` the copies of an L2 restart have failed and its escalation to an L1 waits for an all-off. The restart is
still in progress and nothing holds it, as the clause of L2_RESTART_DONE has it, but a completion told now ends nothing: the restart is no
longer one that completes (R114). The premise that no 0x0D0C stands among the faults of the start is missing. -/
theorem not_bootPhasesComplete : ¬ Obligations.BootPhasesComplete := by
  unfold Obligations.BootPhasesComplete
  intro h
  have hfailed := State.restartDone_of_failed (s := restartFailed) (by rw [restartFailed_boot]; decide) 2 true
  obtain ⟨t, hexec, hnone⟩ := l2RestartDone_of_bootPhasesComplete h restartFailed (by rw [restartFailed_boot]; rfl)
    (by rw [restartFailed_boot]; decide)
  have ht : restartFailed = t := Host.Outcome.next.inj ((congrArg Host.Outcome.next hfailed).symm.trans hexec)
  rw [← ht, restartFailed_boot] at hnone
  cases hnone
end

section
namespace Sys2Proof.Machine

/-! ### Accepted writes of the start-up's and the OTP's registers -/

/-- A word whose every field holds a legal encoding offends no field table (R9). -/
theorem reservedBit_eq_none {fs : List FieldSpec} {w : Word} (h : ∀ f ∈ fs, f.accepts (bitsOf w.toNat f.lo f.width) = true) :
    reservedBit fs w = none := by
  unfold reservedBit
  induction fs with
  | nil => rfl
  | cons f r ih =>
    obtain ⟨hf, hr⟩ := List.forall_mem_cons.mp h
    simpa [hf] using ih hr

/-- In Idle and Run an accepted write on any path stores its word and acts; a host port tells of its transaction besides. -/
theorem State.writeRow_startup {s : State} {p : Path} {a : Nat} {w : Word} (side : Side) (hserve : s.serves p = true)
    (ha : a / 0x10000 = 1 ∨ a / 0x10000 = 2) (halign : a % 4 = 0) (hwr : (fieldsOf a).any FieldSpec.writable = true)
    (hres : reservedBit (fieldsOf a) w = none) (href : s.refused p a w = none) : ∃ h : Hst, s.writeRow p (adr a) w side =
      { (s.setReg a (writtenWord (fieldsOf a) (s.reg a) w)).written p a (s.reg a) w side with hst := h } := by
  obtain ⟨hactive, hans⟩ := Bool.and_eq_true_iff.mp hserve
  have hadr : (adr a).toNat = a := Nat.mod_eq_of_lt (by omega)
  have hwin : windowOf a = some .regs := if_pos (by omega)
  have hbus : s.busFault p true a = none := by
    have hpower : s.boot.power = .active := by simpa [State.active] using hactive
    simp [State.busFault, State.early, halign, hwin, hpower]
  have hslot : a ≠ JNL_RD_SLOT := by rintro rfl; exact absurd ha (by decide)
  have hown : ownStore a = false := by
    have hseq : a ≠ SEQ_CMD := by rintro rfl; exact absurd ha (by decide)
    have hsrc : ¬ICU_SRC 0 ≤ a := by
      rw [show ICU_SRC 0 = 0x1B1000 from rfl]
      omega
    have hpage : a / 0x10000 ≠ 0x10 := by omega
    simp [ownStore, isArr, hpage, hseq, hslot, hsrc]
  have hwrite : s.busWrite p (adr a) w side =
      (s.setReg a (writtenWord (fieldsOf a) (s.reg a) w)).written p a (s.reg a) w side := by
    rw [State.busWrite_regs w side hans (by rwa [hadr]) (by rwa [hadr]), hadr,
      State.regWrite_accepted side hwr (fun h => by omega) (by rw [hres, href]; rfl) hslot, hown]
    rfl
  exact ⟨_, (State.writeRow_eq p (adr a) w side s).trans (by rw [hwrite])⟩

/-- A write of OTP_CTRL with one of its commands. -/
theorem State.writeRow_otpCtrl {s : State} {p : Path} {w : Word} (hserve : s.serves p = true) (hcmd : bitsOf w.toNat 16 2 ≤ 2)
    (href : s.otpCtrlRefused w = none) : ∃ (v : Word) (h : Hst), s.writeRow p (adr OTP_CTRL) w Side.untold =
      { (s.setReg OTP_CTRL v).otpCtrlWritten w with hst := h } := by
  refine ⟨_, State.writeRow_startup (a := OTP_CTRL) Side.untold hserve (by decide) (by decide) (by decide) (reservedBit_eq_none ?_) href⟩
  rw [show fieldsOf OTP_CTRL = [⟨24, 8, .wo, 0, 2, []⟩, ⟨16, 2, .wo, 0, 2, [(0, 2)]⟩, ⟨0, 9, .rw, 0, 2, []⟩] from rfl]
  simp [FieldSpec.accepts, hcmd]

/-- A write of RPC_UPD_CTRL with one of its commands. -/
theorem State.writeRow_updCtrl {s : State} {p : Path} {w : Word} (hserve : s.serves p = true) (hcmd : bitsOf w.toNat 12 2 ≤ 2)
    (href : s.updCtrlRefused w = none) : ∃ (v : Word) (h : Hst), s.writeRow p (adr RPC_UPD_CTRL) w Side.untold =
      { (s.setReg RPC_UPD_CTRL v).updCtrlWritten w with hst := h } := by
  refine ⟨_, State.writeRow_startup (a := RPC_UPD_CTRL) Side.untold hserve (by decide) (by decide) (by decide) (reservedBit_eq_none ?_) href⟩
  rw [show fieldsOf RPC_UPD_CTRL = [⟨12, 2, .wo, 0, 4, [(0, 2)]⟩, ⟨0, 10, .rw, 0, 4, []⟩] from rfl]
  simp [FieldSpec.accepts, hcmd]

end Sys2Proof.Machine
end

section
namespace Sys2Proof.Machine

/-! ### OTP commands -/

/-- CMD and ROW of a read's word. -/
theorem bitsOf_otpReadWord (row : BitVec 9) : bitsOf (word [(16, 1), (0, row.toNat)]).toNat 16 2 = 1 ∧
    bitsOf (word [(16, 1), (0, row.toNat)]).toNat 0 9 = row.toNat := by
  have hrow := row.isLt
  simp only [bitsOf, word, List.foldl_cons, List.foldl_nil, BitVec.toNat_ofNat, Nat.shiftLeft_eq, Nat.shiftRight_eq_div_pow]
  omega

/-- KEY, CMD and ROW of a program command's word. -/
theorem bitsOf_otpProgramWord (row : BitVec 9) : bitsOf (word [(24, 0xA7), (16, 2), (0, row.toNat)]).toNat 24 8 = 0xA7 ∧
    bitsOf (word [(24, 0xA7), (16, 2), (0, row.toNat)]).toNat 16 2 = 2 ∧
    bitsOf (word [(24, 0xA7), (16, 2), (0, row.toNat)]).toNat 0 9 = row.toNat := by
  have hrow := row.isLt
  simp only [bitsOf, word, List.foldl_cons, List.foldl_nil, BitVec.toNat_ofNat, Nat.shiftLeft_eq, Nat.shiftRight_eq_div_pow]
  omega

/-- The command runs: BUSY, with what it is to do. -/
def State.otpRun (c : OtpCmd) (s : State) : State := { s.setFld OTP_STAT_BUSY 1 with boot := { s.boot with otpCmd := some c } }

theorem State.otpCtrlWritten_read {s : State} {w : Word} {row : Nat} (hcmd : bitsOf w.toNat 16 2 = 1) (hrow : bitsOf w.toNat 0 9 = row) :
    s.otpCtrlWritten w = s.otpRun ⟨false, row, s.reg OTP_WDATA⟩ := by
  simp only [State.otpCtrlWritten, hcmd, hrow]
  rfl

theorem exec_otpRead {s : State} {path : Path} {row : BitVec 9} (hserve : s.serves path = true) (hidle : s.flag OTP_STAT_BUSY = false) :
    ∃ t, exec (.otpRead path row) s = .next t ∧ t.flag OTP_STAT_BUSY = true ∧
      t.boot.otpCmd = some ⟨false, row.toNat, s.reg OTP_WDATA⟩ ∧ t.boot.otp = s.boot.otp := by
  obtain ⟨hcmd, hrow⟩ := bitsOf_otpReadWord row
  have href : s.otpCtrlRefused (word [(16, 1), (0, row.toNat)]) = none := by simp [State.otpCtrlRefused, hcmd, hidle]
  obtain ⟨v, h, hwrite⟩ := State.writeRow_otpCtrl hserve (by omega) href
  rw [State.otpCtrlWritten_read hcmd hrow, State.reg_setReg_other _ _ _ _ (by decide)] at hwrite
  exact ⟨_, congrArg Host.Outcome.next hwrite, State.flag_setFld_one _ OTP_STAT_BUSY rfl (by decide), rfl, rfl⟩

/-- A program command of a CUSTOMER row that is not locked, under the conditions of R124. -/
theorem State.otpCtrlWritten_program {s : State} {w : Word} {row : Nat} (hcmd : bitsOf w.toNat 16 2 = 2) (hrow : bitsOf w.toNat 0 9 = row)
    (hcust : 320 ≤ row) (hlock : s.flag OTP_LOCK_CUST_W = false) (hcond : s.otpConditions = true) :
    s.otpCtrlWritten w = s.otpRun ⟨true, row, s.reg OTP_WDATA⟩ := by
  have hlocks : (otpLocks row).2 = OTP_LOCK_CUST_W := by
    rw [otpLocks, if_neg (by omega), if_neg (by omega), if_neg (by omega)]
  have hopen : ¬((130 ≤ row ∧ row < 192) ∨ (208 ≤ row ∧ row < 320) ∨ s.flag (otpLocks row).2 = true) := by
    rw [hlocks, hlock]
    simp only [Bool.false_eq_true, or_false]
    omega
  simp only [State.otpCtrlWritten, hcmd, hrow, if_neg hopen, hcond, Bool.not_true, Bool.false_eq_true, if_false]
  rfl

theorem exec_otpProgram {s : State} {path : Path} {row : BitVec 9} (hserve : s.serves path = true) (hbusy : s.flag OTP_STAT_BUSY = false)
    (hcust : 320 ≤ row.toNat) (hlock : s.flag OTP_LOCK_CUST_W = false) (hidle : s.idle = true) (hcold : 1 ≤ s.fld STM_STAT_TBAND)
    (hhot : s.fld STM_STAT_TBAND ≤ 5) : ∃ t, exec (.otpProgram path row 12000 6500) s = .next t ∧ t.flag OTP_STAT_BUSY = true ∧
      t.boot.otpCmd = some ⟨true, row.toNat, s.reg OTP_WDATA⟩ ∧ t.boot.otp = s.boot.otp := by
  obtain ⟨hkey, hcmd, hrow⟩ := bitsOf_otpProgramWord row
  set u : State := { s with boot := { s.boot with vsys := 12000, vpp := 6500 } } with hu
  have href : u.otpCtrlRefused (word [(24, 0xA7), (16, 2), (0, row.toNat)]) = none := by
    have hbusyU : u.flag OTP_STAT_BUSY = false := hbusy
    simp [State.otpCtrlRefused, hkey, hcmd, hbusyU]
  obtain ⟨v, h, hwrite⟩ := State.writeRow_otpCtrl (s := u) (p := path) hserve (by omega) href
  have hother {f : Fld} (hf : f.reg ≠ OTP_CTRL) : (u.setReg OTP_CTRL v).fld f = s.fld f := u.fld_setReg_other _ _ _ hf
  have hcond : (u.setReg OTP_CTRL v).otpConditions = true := by
    have hidleU : (u.setReg OTP_CTRL v).idle = true := by
      rw [← hidle]
      simp only [State.idle, State.railUp, hother (f := SEQ_STAT_DEV_COURSE) (by decide), hother (f := SEQ_ON_RAIL) (by decide)]
      rfl
    rw [State.otpConditions, hother (by decide), hidleU]
    simp [hcold, hhot, hu]
  have hlockU : (u.setReg OTP_CTRL v).flag OTP_LOCK_CUST_W = false := by
    rw [← hlock, State.flag, hother (by decide)]
    rfl
  rw [State.otpCtrlWritten_program hcmd hrow hcust hlockU hcond, State.reg_setReg_other _ _ _ _ (by decide)] at hwrite
  exact ⟨_, congrArg Host.Outcome.next hwrite, State.flag_setFld_one _ OTP_STAT_BUSY rfl (by decide), rfl, rfl⟩

/-- What the end of a command leaves: its RESULT, no command, and its sources raised. -/
theorem State.otpEnd_effect {result : Nat} (hres : result < 16) (s : State) :
    (s.otpEnd result).boot = { s.boot with otpCmd := none } ∧ (s.otpEnd result).flag OTP_STAT_BUSY = false ∧
      (s.otpEnd result).fld OTP_STAT_RESULT = result ∧
      ∀ a, loud a = false → a ≠ OTP_STAT → (s.otpEnd result).reg a = s.reg a := by
  set u : State := { (s.setFld OTP_STAT_RESULT result).setFld OTP_STAT_BUSY 0 with boot := { s.boot with otpCmd := none } } with hu
  have hcalm : Calm u (s.otpEnd result) := by
    have h9 : Calm u (u.raise 9) := State.raise_calm 9 u (by decide) (.refl u)
    unfold State.otpEnd
    dsimp only
    split
    · exact State.raise_calm 10 _ (by decide) h9
    · exact h9
  rw [hcalm.boot, hcalm.flag _ (by decide), hcalm.fld _ (by decide)]
  refine ⟨rfl, State.flag_setFld_zero _ OTP_STAT_BUSY (by decide), ?_, fun a ha hne => (hcalm.reg a ha).trans ?_⟩
  · refine (State.fld_setFld_beside _ OTP_STAT_BUSY OTP_STAT_RESULT 0 rfl (by decide) (by decide)).trans ?_
    rw [State.fld_setFld_self _ _ _ (by decide)]
    exact Nat.mod_eq_of_lt hres
  · exact (State.reg_setFld_other _ OTP_STAT_BUSY 0 a hne).trans (State.reg_setFld_other _ OTP_STAT_RESULT result a hne)

theorem exec_otpCommandDone_read {s : State} {failedBit : Option Nat} {c : OtpCmd} (hcmd : s.boot.otpCmd = some c)
    (hread : c.program = false) (hlock : s.flag (otpLocks c.row).1 = false) (hgood : (s.otpRow c.row).bad = false) :
    ∃ t, exec (.otpCommandDone failedBit) s = .next t ∧ t.boot.otpCmd = none ∧ t.flag OTP_STAT_BUSY = false ∧
      t.reg OTP_RDATA = (s.otpRow c.row).data ∧ t.fld OTP_STAT_RESULT = (if (s.otpRow c.row).single then 1 else 0) ∧
      t.boot.otp = s.boot.otp := by
  set result := if (s.otpRow c.row).single then 1 else 0 with hresult
  obtain ⟨hboot, hbusy, hres, hreg⟩ := State.otpEnd_effect (result := result) (by rw [hresult]; split <;> decide)
    (s.setReg OTP_RDATA (s.otpRow c.row).data)
  refine ⟨(s.setReg OTP_RDATA (s.otpRow c.row).data).otpEnd result, ?_, by rw [hboot], hbusy, ?_, hres, by rw [hboot]; rfl⟩
  · simp only [exec, execOtpCommandDone, hcmd, hread, hlock, hgood, Bool.false_eq_true, if_false]
    rfl
  · rw [hreg _ (by decide) (by decide), State.reg_setReg_self]

theorem exec_otpCommandDone_program {s : State} {c : OtpCmd} (hcmd : s.boot.otpCmd = some c) (hprogram : c.program = true)
    (hdata : c.data ≠ 0) (hunused : s.boot.otp.any (fun r => decide (r.1 = c.row)) = false) :
    ∃ t, exec (.otpCommandDone none) s = .next t ∧ t.boot.otpCmd = none ∧ t.flag OTP_STAT_BUSY = false ∧
      t.fld OTP_STAT_RESULT = 0 ∧ t.otpRow c.row = ⟨c.data, false, false⟩ := by
  set u : State := { s with boot := { s.boot with otp := putPair s.boot.otp c.row ⟨c.data, false, false⟩ } } with hu
  obtain ⟨hboot, hbusy, hres, -⟩ := State.otpEnd_effect (result := 0) (by decide) u
  refine ⟨u.otpEnd 0, ?_, by rw [hboot], hbusy, hres, ?_⟩
  · simp only [exec, execOtpCommandDone, hcmd, hprogram, hunused, hdata, Bool.false_eq_true, if_false, if_true]
    rfl
  · rw [State.otpRow, hboot]
    exact lookupD_putPair_self _ _ _ _

theorem exec_otpConditionLost {s : State} {pulses : Nat} {c : OtpCmd} (hcmd : s.boot.otpCmd = some c) (hprogram : c.program = true) :
    ∃ t, exec (.otpConditionLost pulses) s = .next t ∧ t.boot.otpCmd = none ∧ t.flag OTP_STAT_BUSY = false ∧
      t.fld OTP_STAT_RESULT = 6 := by
  obtain ⟨hboot, hbusy, hres, -⟩ := State.otpEnd_effect (result := 6) (by decide) (s.cutRow c pulses)
  refine ⟨(s.cutRow c pulses).otpEnd 6, ?_, by rw [hboot], hbusy, hres⟩
  simp only [exec, execOtpConditionLost, hcmd, hprogram, if_true]

end Sys2Proof.Machine
end

section
namespace Sys2Proof.Machine

/-! ### Loader mode -/

/-- The image request of a port (R422). -/
def State.imageRequest (s : State) (p : Nat) : Sent :=
  ⟨p, 0x63, 1 - p, 0x1000, if s.unaddressed then 0x8000 else s.fld LNK_ADDR_ADDR, 0, s.eventNo 0x63, []⟩

/-- A port that is up carries its request, on its own edge alone. -/
theorem State.askImage_eq {s : State} {p : Nat} (hclk : s.clk.onRc = false) (hp : p < 2) : s.askImage p =
    { s with lnk := { s.lnk with out := s.lnk.out ++ (if s.portUp p then [s.imageRequest p] else []) } } := by
  have hflags : 1 - p % 2 + 2 * (p / 2) + 0 = 1 - p := by omega
  unfold State.askImage State.emit State.put
  cases hup : s.portUp p
  · simp
  · simp [hclk, hflags, State.imageRequest]

/-- The requests of the second port follow those of the first. -/
theorem State.askImage_both {s : State} (hclk : s.clk.onRc = false) : ((s.askImage 0).askImage 1).regs = s.regs ∧
    ((s.askImage 0).askImage 1).lnk.out = s.lnk.out ++ ((List.range 2).filter s.portUp).map s.imageRequest := by
  have hup : (s.askImage 0).portUp 1 = s.portUp 1 := (State.emit_calm _ _ _ _ _ _ s (.refl s)).portUp 1
  have h0 := State.askImage_eq (p := 0) hclk (by decide)
  have hreq : (s.askImage 0).imageRequest 1 = s.imageRequest 1 := by
    rw [h0]
    rfl
  have hclk0 : (s.askImage 0).clk.onRc = false := by
    rw [h0]
    exact hclk
  rw [State.askImage_eq (s := s.askImage 0) hclk0 (by decide), hup, hreq, h0]
  refine ⟨rfl, ?_⟩
  rw [show List.range 2 = [0, 1] from rfl]
  cases hup0 : s.portUp 0
  · cases hup1 : s.portUp 1
    · simp [hup0, hup1]
    · simp [hup0, hup1]
  · cases hup1 : s.portUp 1
    · simp [hup0, hup1]
    · simp [hup0, hup1]

theorem exec_loaderImgRequest {s : State} (hmode : s.loaderMode = true) (hlink : s.loaderLinkOff = false)
    (hnone : s.fld RPC_UPD_STAT_STATE ≠ 1 ∨ s.boot.updLink = false) (hdue : s.boot.loaderAskAt ≤ s.clk.core) (hclk : s.clk.onRc = false) :
    ∃ t, exec .loaderImgRequest s = .next t ∧ t.boot.loaderAskAt = s.clk.core + 240000000 ∧ t.regs = s.regs ∧
      t.lnk.out = s.lnk.out ++ ((List.range 2).filter s.portUp).map (fun p => ⟨p, 0x63, 1 - p, 0x1000,
        if s.unaddressed then 0x8000 else s.fld LNK_ADDR_ADDR, 0, s.eventNo 0x63, []⟩) := by
  have hfree : (s.fld RPC_UPD_STAT_STATE == 1 && s.boot.updLink) = false := by
    rcases hnone with h | h
    · simp [h]
    · simp [h]
  have hexec : exec .loaderImgRequest s = .next { (s.askImage 0).askImage 1 with
      boot := { ((s.askImage 0).askImage 1).boot with loaderAskAt := s.clk.core + 1000000 * coreUs } } :=
    congrArg Host.Outcome.next (if_pos (by simp [hmode, hlink, hfree, hdue]))
  obtain ⟨hregs, hout⟩ := State.askImage_both hclk
  exact ⟨_, hexec, rfl, hregs, hout⟩

theorem exec_loaderImgTimeout {s : State} (hmode : s.loaderMode = true) (hlink : s.boot.updLink = true) (hcheck : s.boot.updCheck = false)
    (hstate : s.fld RPC_UPD_STAT_STATE = 1) (hdue : s.boot.loaderFrameAt + 24000000 ≤ s.clk.core) :
    ∃ t, exec .loaderImgTimeout s = .next t ∧ t.fld RPC_UPD_STAT_STATE = 0 ∧ t.fld RPC_UPD_STAT_BLOCK_NEXT = 0 ∧
      t.fld RPC_UPD_STAT_SPACE = 1024 ∧ t.boot.updImage = [] ∧ t.boot.loaderAskAt = s.clk.core ∧ t.lnk.dist = none := by
  have hdue' : s.boot.loaderFrameAt + 100000 * coreUs ≤ s.clk.core := hdue
  refine ⟨_, congrArg Host.Outcome.next (if_pos (by simp [hmode, hlink, hcheck, hstate, hdue'])), ?_, ?_, ?_, rfl, rfl, rfl⟩
  · refine (State.fld_setFld_beside _ RPC_UPD_STAT_SPACE RPC_UPD_STAT_STATE 1024 rfl (by decide) (by decide)).trans ?_
    refine (State.fld_setFld_beside _ RPC_UPD_STAT_BLOCK_NEXT RPC_UPD_STAT_STATE 0 rfl (by decide) (by decide)).trans ?_
    exact State.fld_setFld_self _ RPC_UPD_STAT_STATE 0 (by decide)
  · refine (State.fld_setFld_beside _ RPC_UPD_STAT_SPACE RPC_UPD_STAT_BLOCK_NEXT 1024 rfl (by decide) (by decide)).trans ?_
    exact State.fld_setFld_self _ RPC_UPD_STAT_BLOCK_NEXT 0 (by decide)
  · exact State.fld_setFld_self _ RPC_UPD_STAT_SPACE 1024 (by decide)

/-! ### The update -/

/-- No image is on its way in or under check. -/
def Boot.withoutUpdate (b : Boot) : Boot := { b with updBytes := [], updImage := [], updCheck := false, updLink := false }

/-- What the end of an update leaves, whoever is answered and whatever is raised: its outcome, an empty FIFO and no image. -/
theorem State.updEnd_effect {state result : Nat} (hstate : state < 4) (s : State) :
    (s.updEnd state result).boot = s.boot.withoutUpdate ∧ (s.updEnd state result).fld RPC_UPD_STAT_STATE = state ∧
      (s.updEnd state result).fld RPC_UPD_STAT_RESULT = result % 16 ∧ (s.updEnd state result).fld RPC_UPD_STAT_SPACE = 1024 := by
  set u : State := State.setFld { (s.setFld RPC_UPD_STAT_STATE state).setFld RPC_UPD_STAT_RESULT result with
    boot := s.boot.withoutUpdate } RPC_UPD_STAT_SPACE 1024 with hu
  have hcalm : Calm u (s.updEnd state result) := by
    have hraise : ∀ v, Calm u v → Calm u (if state = 2 then v.raise 11
        else (if s.loaderMode then v else v.sheet 0x0D09 []).raise 12) := by
      intro v hv
      split
      · exact State.raise_calm 11 _ (by decide) hv
      · refine State.raise_calm 12 _ (by decide) ?_
        split
        · exact hv
        · exact State.sheet_calm _ _ _ hv
    refine hraise (match u.lnk.dist with | some d => if d.image then _ else u | none => u) ?_
    split
    · split
      · have hdist := (Calm.refl u).lnk { u.lnk with dist := none }
        dsimp only
        split
        · exact State.emit_calm _ _ _ _ _ _ _ hdist
        · exact State.sendTo_calm _ _ _ _ _ hdist
      · exact .refl u
    · exact .refl u
  rw [hcalm.boot, hcalm.fld _ (by decide), hcalm.fld _ (by decide), hcalm.fld _ (by decide)]
  refine ⟨rfl, ?_, ?_, State.fld_setFld_self _ RPC_UPD_STAT_SPACE 1024 (by decide)⟩
  · refine (State.fld_setFld_beside _ RPC_UPD_STAT_SPACE RPC_UPD_STAT_STATE 1024 rfl (by decide) (by decide)).trans ?_
    refine (State.fld_setFld_beside _ RPC_UPD_STAT_RESULT RPC_UPD_STAT_STATE result rfl (by decide) (by decide)).trans ?_
    exact (State.fld_setFld_self _ RPC_UPD_STAT_STATE state (by decide)).trans (Nat.mod_eq_of_lt hstate)
  · refine (State.fld_setFld_beside _ RPC_UPD_STAT_SPACE RPC_UPD_STAT_RESULT 1024 rfl (by decide) (by decide)).trans ?_
    exact State.fld_setFld_self _ RPC_UPD_STAT_RESULT result (by decide)

/-- SPACE while blocks are still to come. -/
theorem State.showSpace_eq {s : State} {n : Nat} (hcheck : s.boot.updCheck = false) (hlen : s.boot.updBytes.length = n) :
    s.showSpace = s.setFld RPC_UPD_STAT_SPACE (1024 - n / 4) := by
  simp only [State.showSpace, hcheck, hlen, Bool.false_eq_true, if_false]

/-- An update begins outside loader mode: its fields, its number of blocks, and flash block 0 erased. -/
theorem State.updBegin_effect {n : Nat} {s : State} (hmode : s.loaderMode = false) : (s.updBegin n false).fld RPC_UPD_STAT_STATE = 1 ∧
    (s.updBegin n false).fld RPC_UPD_STAT_RESULT = 0 ∧ (s.updBegin n false).fld RPC_UPD_STAT_BLOCK_NEXT = 0 ∧
    (s.updBegin n false).fld RPC_UPD_STAT_SPACE = 1024 ∧ (s.updBegin n false).boot.updBlocks = n ∧
    (s.updBegin n false).flashAt 0 = 0xFF := by
  set u : State := { ((s.setFld RPC_UPD_STAT_STATE 1).setFld RPC_UPD_STAT_RESULT 0).setFld RPC_UPD_STAT_BLOCK_NEXT 0 with
    boot := { s.boot with updBlocks := n, updBytes := [], updImage := [], updCheck := false, updLink := false } } with hu
  have hbegin : s.updBegin n false = (u.flashErase 0 blockSize).setFld RPC_UPD_STAT_SPACE 1024 :=
    (congrArg State.showSpace (if_neg (by simp [hmode]))).trans (State.showSpace_eq (n := 0) rfl rfl)
  rw [hbegin]
  refine ⟨?_, ?_, ?_, State.fld_setFld_self _ RPC_UPD_STAT_SPACE 1024 (by decide), rfl, ?_⟩
  · refine (State.fld_setFld_beside _ RPC_UPD_STAT_SPACE RPC_UPD_STAT_STATE 1024 rfl (by decide) (by decide)).trans ?_
    refine (State.fld_setFld_beside _ RPC_UPD_STAT_BLOCK_NEXT RPC_UPD_STAT_STATE 0 rfl (by decide) (by decide)).trans ?_
    refine (State.fld_setFld_beside _ RPC_UPD_STAT_RESULT RPC_UPD_STAT_STATE 0 rfl (by decide) (by decide)).trans ?_
    exact State.fld_setFld_self _ RPC_UPD_STAT_STATE 1 (by decide)
  · refine (State.fld_setFld_beside _ RPC_UPD_STAT_SPACE RPC_UPD_STAT_RESULT 1024 rfl (by decide) (by decide)).trans ?_
    refine (State.fld_setFld_beside _ RPC_UPD_STAT_BLOCK_NEXT RPC_UPD_STAT_RESULT 0 rfl (by decide) (by decide)).trans ?_
    exact State.fld_setFld_self _ RPC_UPD_STAT_RESULT 0 (by decide)
  · refine (State.fld_setFld_beside _ RPC_UPD_STAT_SPACE RPC_UPD_STAT_BLOCK_NEXT 1024 rfl (by decide) (by decide)).trans ?_
    exact State.fld_setFld_self _ RPC_UPD_STAT_BLOCK_NEXT 0 (by decide)
  · refine cellAt_of_absent _ _ _ fun c hc hzero => ?_
    have hkept := (List.mem_filter.mp hc).2
    simp [hzero, blockSize] at hkept

/-- CMD and BLOCKS of a start's or an abort's word. -/
theorem bitsOf_updCtrlWord {cmd : Nat} (hcmd : cmd < 4) (blocks : BitVec 10) :
    bitsOf (word [(12, cmd), (0, blocks.toNat)]).toNat 12 2 = cmd ∧ bitsOf (word [(12, cmd), (0, blocks.toNat)]).toNat 0 10 = blocks.toNat := by
  have hblocks := blocks.isLt
  simp only [bitsOf, word, List.foldl_cons, List.foldl_nil, BitVec.toNat_ofNat, Nat.shiftLeft_eq, Nat.shiftRight_eq_div_pow]
  omega

/-- Loader mode is part of a start. -/
theorem State.loaderMode_of_active {s : State} (h : s.active = true) : s.loaderMode = false := by
  have hpower : s.boot.power = .active := by simpa [State.active] using h
  simp [State.loaderMode, hpower]

theorem exec_updStart {s : State} {path : Path} {blocks : BitVec 10} (hserve : s.serves path = true) (hlo : 2 ≤ blocks.toNat)
    (hhi : blocks.toNat ≤ 512) (hstate : s.fld RPC_UPD_STAT_STATE ≠ 1) :
    ∃ t, exec (.updStart path blocks) s = .next t ∧ t.fld RPC_UPD_STAT_STATE = 1 ∧ t.fld RPC_UPD_STAT_RESULT = 0 ∧
      t.fld RPC_UPD_STAT_BLOCK_NEXT = 0 ∧ t.fld RPC_UPD_STAT_SPACE = 1024 ∧ t.boot.updBlocks = blocks.toNat ∧ t.flashAt 0 = 0xFF := by
  have hactive : s.active = true := (Bool.and_eq_true_iff.mp hserve).1
  obtain ⟨hcmd, hblocks⟩ := bitsOf_updCtrlWord (cmd := 1) (by decide) blocks
  have href : s.updCtrlRefused (word [(12, 1), (0, blocks.toNat)]) = none := by
    have hrange : ¬(blocks.toNat < 2 ∨ 512 < blocks.toNat) := by omega
    simp only [State.updCtrlRefused, hcmd, hblocks, if_neg hrange, if_neg hstate, hactive, if_true]
  obtain ⟨v, h, hwrite⟩ := State.writeRow_updCtrl hserve (by omega) href
  have hbegin := State.updBegin_effect (n := blocks.toNat) (s := s.setReg RPC_UPD_CTRL v) (State.loaderMode_of_active hactive)
  have hacts : (s.setReg RPC_UPD_CTRL v).updCtrlWritten (word [(12, 1), (0, blocks.toNat)]) =
      (s.setReg RPC_UPD_CTRL v).updBegin blocks.toNat false := by simp only [State.updCtrlWritten, hcmd, hblocks]
  rw [hacts] at hwrite
  exact ⟨_, congrArg Host.Outcome.next hwrite, hbegin⟩

theorem exec_updAbort {s : State} {path : Path} {blocks : BitVec 10} (hserve : s.serves path = true) (hstate : s.fld RPC_UPD_STAT_STATE = 1) :
    ∃ t, exec (.updAbort path blocks) s = .next t ∧ t.fld RPC_UPD_STAT_STATE = 3 ∧ t.fld RPC_UPD_STAT_RESULT = 7 ∧ t.boot.updImage = [] := by
  obtain ⟨hcmd, -⟩ := bitsOf_updCtrlWord (cmd := 2) (by decide) blocks
  have href : s.updCtrlRefused (word [(12, 2), (0, blocks.toNat)]) = none := by simp [State.updCtrlRefused, hcmd]
  obtain ⟨v, h, hwrite⟩ := State.writeRow_updCtrl hserve (by omega) href
  have hruns : (s.setReg RPC_UPD_CTRL v).fld RPC_UPD_STAT_STATE = 1 := (State.fld_setReg_other _ _ _ _ (by decide)).trans hstate
  have hacts : (s.setReg RPC_UPD_CTRL v).updCtrlWritten (word [(12, 2), (0, blocks.toNat)]) = (s.setReg RPC_UPD_CTRL v).updEnd 3 7 := by
    simp only [State.updCtrlWritten, hcmd, hruns, if_true]
  obtain ⟨hboot, hended, hresult, -⟩ := State.updEnd_effect (state := 3) (result := 7) (by decide) (s.setReg RPC_UPD_CTRL v)
  rw [hacts] at hwrite
  refine ⟨_, congrArg Host.Outcome.next hwrite, hended, hresult, ?_⟩
  exact congrArg Boot.updImage hboot

/-- Bytes that complete no block stand in the FIFO. -/
theorem State.updTake_partial {s : State} {bs : List Byte} {flashError : Bool} (hstate : s.fld RPC_UPD_STAT_STATE = 1)
    (hcheck : s.boot.updCheck = false) (hlen : s.boot.updBytes.length + bs.length < 4096) :
    s.updTake bs flashError = State.setFld { s with boot := { s.boot with updBytes := s.boot.updBytes ++ bs } } RPC_UPD_STAT_SPACE
      (1024 - (s.boot.updBytes.length + bs.length) / 4) := by
  have hfull : decide (blockSize ≤ (s.boot.updBytes ++ bs).length) = false := by
    rw [decide_eq_false_iff_not, List.length_append, show blockSize = 4096 from rfl]
    omega
  simp only [State.updTake, hfull, Bool.false_eq_true, if_false]
  exact (if_pos hstate).trans (State.showSpace_eq (by exact hcheck) List.length_append)

theorem exec_updData {s : State} {path : Path} {data : Word} {flashError : Bool} (hserve : s.serves path = true)
    (hstate : s.fld RPC_UPD_STAT_STATE = 1) (hspace : s.fld RPC_UPD_STAT_SPACE ≠ 0) (hlink : s.boot.updLink = false)
    (hcheck : s.boot.updCheck = false) (hlen : s.boot.updBytes.length + 4 < 4096) :
    ∃ t, exec (.updData path data flashError) s = .next t ∧ t.boot.updBytes = s.boot.updBytes ++ leBytes 4 data.toNat ∧
      t.fld RPC_UPD_STAT_STATE = 1 ∧ t.fld RPC_UPD_STAT_SPACE = 1024 - (s.boot.updBytes.length + 4) / 4 ∧ t.flash = s.flash := by
  have href : s.refused path RPC_UPD_DATA data = none := by
    have hfree : s.updDataRefused = false := by simp [State.updDataRefused, hstate, hspace, hlink]
    have hdata : s.refused path RPC_UPD_DATA data = when s.updDataRefused 0 := rfl
    rw [hdata, hfree]
    rfl
  obtain ⟨h, hwrite⟩ := State.writeRow_startup (a := RPC_UPD_DATA) { Side.untold with flashError := some flashError } hserve
    (by decide) (by decide) (by decide)
    (by
      rw [show fieldsOf RPC_UPD_DATA = [⟨0, 32, .wo, 0, 4, []⟩] from rfl]
      exact reservedBit_eq_none (by simp [FieldSpec.accepts])) href
  set u := s.setReg RPC_UPD_DATA (writtenWord (fieldsOf RPC_UPD_DATA) (s.reg RPC_UPD_DATA) data) with hu
  have hruns : u.fld RPC_UPD_STAT_STATE = 1 := (State.fld_setReg_other _ _ _ _ (by decide)).trans hstate
  have hfour : (leBytes 4 data.toNat).length = 4 := by simp [leBytes]
  have htake : u.written path RPC_UPD_DATA (s.reg RPC_UPD_DATA) data { Side.untold with flashError := some flashError } =
      State.setFld { u with boot := { s.boot with updBytes := s.boot.updBytes ++ leBytes 4 data.toNat } } RPC_UPD_STAT_SPACE
        (1024 - (s.boot.updBytes.length + 4) / 4) := by
    have hact : u.written path RPC_UPD_DATA (s.reg RPC_UPD_DATA) data { Side.untold with flashError := some flashError } =
      u.updTake (leBytes 4 data.toNat) flashError := rfl
    have hroom : u.boot.updBytes.length + (leBytes 4 data.toNat).length < 4096 := by rwa [hfour]
    rw [hact, State.updTake_partial hruns hcheck hroom, hfour]
    rfl
  rw [htake] at hwrite
  refine ⟨_, congrArg Host.Outcome.next hwrite, rfl, ?_, ?_, rfl⟩
  · exact (State.fld_setFld_beside _ RPC_UPD_STAT_SPACE RPC_UPD_STAT_STATE _ rfl (by decide) (by decide)).trans hruns
  · refine (State.fld_setFld_self _ RPC_UPD_STAT_SPACE _ (by decide)).trans (Nat.mod_eq_of_lt ?_)
    have : RPC_UPD_STAT_SPACE.width = 11 := rfl
    rw [this]
    omega

/-- The check of a whole image finds a fault: the update has failed. -/
theorem execUpdateCheckDone_fault {s : State} {e : ImageError} (hdue : s.fld RPC_UPD_STAT_STATE = 1 ∧ s.boot.updCheck = true ∧ s.boot.restart = none)
    (hfault : s.checkImage s.boot.updImage = some e) : execUpdateCheckDone false s = .next (s.updEnd 3 e.result) := by
  simp only [execUpdateCheckDone, if_pos hdue, hfault]

/-- It passes: the image is in flash, and the one in SRAM needs no more to go there. -/
def State.imageWritten (s : State) : State :=
  let t := (s.flashErase 0 (blockSize * (s.boot.updImage.length / blockSize))).flashWrite 0 s.boot.updImage
  { t with boot := { t.boot with imageToFlash := false } }

theorem execUpdateCheckDone_pass {s : State} (hdue : s.fld RPC_UPD_STAT_STATE = 1 ∧ s.boot.updCheck = true ∧ s.boot.restart = none)
    (hpass : s.checkImage s.boot.updImage = none) (hmode : s.loaderMode = false) :
    execUpdateCheckDone false s = .next (s.imageWritten.updEnd 2 0) := by
  simp only [execUpdateCheckDone, if_pos hdue, hpass, hmode, Bool.false_eq_true, if_false]
  rfl

theorem exec_updateCheckDone {s : State} (hstate : s.fld RPC_UPD_STAT_STATE = 1) (hcheck : s.boot.updCheck = true)
    (hrestart : s.boot.restart = none) (hmode : s.loaderMode = false) :
    ∃ t, exec (.updateCheckDone false) s = .next t ∧ t.fld RPC_UPD_STAT_STATE = (if s.checkImage s.boot.updImage = none then 2 else 3) ∧
      (s.checkImage s.boot.updImage = none → t.fld RPC_UPD_STAT_RESULT = 0) ∧ t.boot.updImage = [] ∧ t.boot.updCheck = false ∧
      t.fld RPC_UPD_STAT_SPACE = 1024 := by
  cases himage : s.checkImage s.boot.updImage with
  | none =>
    obtain ⟨hboot, hended, hresult, hspace⟩ := State.updEnd_effect (state := 2) (result := 0) (by decide) s.imageWritten
    exact ⟨_, execUpdateCheckDone_pass ⟨hstate, hcheck, hrestart⟩ himage hmode, hended, fun _ => hresult,
      congrArg Boot.updImage hboot, congrArg Boot.updCheck hboot, hspace⟩
  | some e =>
    obtain ⟨hboot, hended, -, hspace⟩ := State.updEnd_effect (state := 3) (result := e.result) (by decide) s
    exact ⟨_, execUpdateCheckDone_fault ⟨hstate, hcheck, hrestart⟩ himage, hended, fun h => absurd h (by simp),
      congrArg Boot.updImage hboot, congrArg Boot.updCheck hboot, hspace⟩

end Sys2Proof.Machine

open Sys2Proof Sys2Proof.Machine

/-- Settles O29: the write rules of RPC_UPD_CTRL, RPC_UPD_DATA and OTP_CTRL bring each command to its block's operation, and what
`otpEnd`, `updBegin` and `updEnd` leave is said once. -/
theorem otpAndUpdateCommands : Obligations.OtpAndUpdateCommands := fun _ =>
  ⟨fun _ _ => exec_otpRead, fun _ _ => exec_otpProgram, fun _ _ => exec_otpCommandDone_read, fun _ => exec_otpCommandDone_program,
    fun _ _ => exec_otpConditionLost, exec_loaderImgRequest, exec_loaderImgTimeout, fun _ _ => exec_updStart, fun _ _ => exec_updAbort,
    fun _ _ _ => exec_updData, exec_updateCheckDone⟩

end

section
namespace Sys2Proof.Machine

/-! ### A bond that would take effect in Standby -/

/-- Idle with Standby requested, and a bond that has been accepted since then and waits for T_eff (R153, R444). -/
def applyingArmed : State := { State.reset with
  boot := { Boot.initial with power := .active }
  icu := { State.reset.icu with armed := true }
  bnd := { Bnd.initial with accepted := some ([], []) }
  regs := (State.reset.setFld BND_STAT_STATE bndApplying).regs }

/-- The same in Standby: the journal had nothing to drain (R444). -/
def applyingAsleep : State := State.setFld { applyingArmed with
  boot := { applyingArmed.boot with power := .standby }
  clk := { applyingArmed.clk with onRc := true, attemptAt := none, qualifiedAt := none }
  mtr := { applyingArmed.mtr with resume := some 0xFF } } STM_STAT_PLL_LOCKED 0

theorem exec_standbyEnter_applyingArmed : exec .standbyEnter applyingArmed = .next applyingAsleep :=
  congrArg Host.Outcome.next (if_pos (by decide))

/-- Outside Idle and Run no bond takes effect. -/
theorem exec_bondTakesEffect_of_inactive {s : State} (h : s.active = false) : exec .bondTakesEffect s = .next s := by
  refine congrArg Host.Outcome.next ?_
  split
  · rfl
  · exact if_neg (by simp [h])

end Sys2Proof.Machine

open Sys2Proof Sys2Proof.Machine

/-- Refutes O31: STANDBY_ENTER leads from `applyingArmed` to `applyingAsleep`, where a bond is accepted, STATE is 3 and no restart is in
progress, as the clause of bondTakesEffect has it, but in Standby no bond takes effect: what was accepted still waits. The premise that
the device is in Idle or Run is missing. -/
theorem not_bondCommandsComplete : ¬ Obligations.BondCommandsComplete := by
  intro h
  obtain ⟨-, -, -, -, -, -, heffect, -⟩ := h applyingAsleep
  obtain ⟨t, hexec, -, -, hdone⟩ := heffect [] [] rfl (by decide) rfl
  rw [exec_bondTakesEffect_of_inactive rfl, Host.Outcome.next.injEq] at hexec
  subst hexec
  cases hdone
end

section
namespace Sys2Proof.Machine

/-! ### Frames, operation by operation -/

/-- What a body keeps of every state, a loop keeps. -/
theorem forEach_induction {C : State → Prop} {α : Type} {l : List α} {f : α → State → State}
    (hf : ∀ a ∈ l, ∀ u, C u → C (f a u)) {s : State} (h : C s) : C (forEach l f s) := by
  unfold forEach
  induction l generalizing s with
  | nil => exact h
  | cons a r ih => exact ih (fun b hb => hf b (List.mem_cons_of_mem _ hb)) (hf a List.mem_cons_self s h)

/-- The registers of an array of the list. -/
theorem named_array {regs : List Nat} {b stride count : Nat} (k : Nat) (hb : b ∈ regs) (harr : isArrayAt b stride count = true)
    (hs : 0 < stride) (hc : 0 < count) : named regs (b + stride * (k % count)) = true :=
  named_mono (List.cons_subset.mpr ⟨hb, List.nil_subset _⟩) (named_of_isArr harr (isArr_add hs (Nat.mod_lt _ hc)))

/-- A register of a page is one of the arrays named, if every definition of the page is at one of their first registers. -/
theorem named_of_page {regs : List Nat} {page a : Nat}
    (hpage : ∀ d ∈ blockRegs page, ∃ b ∈ regs, regDefOf b = some d) (ha : a / 0x10000 = page) (hf : fieldsOf a ≠ []) :
    named regs a = true := by
  cases hd : regDefOf a with
  | none => exact absurd (by simp [fieldsOf, hd]) hf
  | some d =>
    have hfind : (blockRegs page).find? (fun d => d.covers a) = some d := ha ▸ hd
    obtain ⟨b, hb, hbd⟩ := hpage d (List.mem_of_find?_eq_some hfind)
    have hcov : d.covers a = true := List.find?_some (p := fun e : RegDef => e.covers a) hfind
    exact (named_iff regs a).mpr ⟨b, hb, (named_single hbd).trans hcov⟩

namespace Within

variable {R : List Nat} {P : List Part} {σ s t u : State}

theorem refl (s : State) : Within R P s s := WithinAt.refl [] R P s

theorem trans (h : Within R P σ s) (k : Within R P s t) : Within R P σ t := WithinAt.trans h k

theorem weaken {R' : List Nat} {P' : List Part} (hR : R ⊆ R') (hP : P ⊆ P') (h : Within R P s t) : Within R' P' s t :=
  h.mono (List.Subset.refl _) hR hP

theorem ite {c : Prop} [Decidable c] (hs : Within R P σ s) (ht : Within R P σ t) : Within R P σ (if c then s else t) := by
  split
  · exact hs
  · exact ht

theorem onlyIf {b : Bool} {f : State → State} (hf : ∀ u, Within R P σ u → Within R P σ (f u)) (h : Within R P σ s) :
    Within R P σ (onlyIf b f s) := ite (hf s h) h

theorem forEach {α : Type} {l : List α} {f : α → State → State} (hf : ∀ a u, Within R P σ u → Within R P σ (f a u))
    (h : Within R P σ s) : Within R P σ (forEach l f s) := forEach_induction (fun a _ => hf a) h

/-! #### Registers -/

theorem setReg {a : Nat} {v : Word} (ha : named R a = true) (h : Within R P σ s) : Within R P σ (s.setReg a v) :=
  h.trans (.setReg_named ha s v)

theorem setFld {f : Fld} {v : Nat} (hf : named R f.reg = true) (h : Within R P σ s) : Within R P σ (s.setFld f v) := setReg hf h

theorem setFlag {f : Fld} {b : Bool} (hf : named R f.reg = true) (h : Within R P σ s) : Within R P σ (s.setFlag f b) := setFld hf h

theorem bump {f : Fld} (hf : named R f.reg = true) (h : Within R P σ s) : Within R P σ (s.bump f) := ite (setFld hf h) h

/-! #### Reports -/

theorem of_raised (k : Raised s t) (h : Within R P σ s) : Within R P σ t := h.trans (k.withinAt [] R P)

theorem raise {src : Nat} (h : Within R P σ s) : Within R P σ (s.raise src) := of_raised (State.raise_raised src s (.refl s)) h

theorem flagRaise {f : Fld} {src : Nat} (hf : named R f.reg = true) (h : Within R P σ s) : Within R P σ (s.flagRaise f src) :=
  raise (setFld hf h)

theorem send {type mode : Nat} {both : Bool} {payload : List Byte} (h : Within R P σ s) :
    Within R P σ (s.send type mode both payload) := of_raised (State.send_raised type mode both payload s (.refl s)) h

theorem sendTo {type target tag : Nat} {payload : List Byte} (h : Within R P σ s) :
    Within R P σ (s.sendTo type target tag payload) := of_raised (State.emit_raised _ _ _ _ _ _ s (.refl s)) h

theorem sheet {type : Nat} {payload : List Byte} (h : Within R P σ s) : Within R P σ (s.sheet type payload) :=
  h.trans ((State.sheet_within type payload s).weaken (List.nil_subset _) (List.nil_subset _))

theorem takeFree {width : Nat} (h : Within R P σ s) : Within R P σ (s.takeFree width).2 := h.trans (.free [] R P s _)

/-! #### Parts -/

/-- An update of one part. -/
theorem update (h : Within R P σ s) (p : Part) (hp : p ∈ P) (hregs : t.regs = s.regs) (hrest : ∀ q, q ≠ p → q.same s t) :
    Within R P σ t := by
  refine h.trans ⟨fun a _ _ _ => ?_, fun q hq => hrest q fun e => hq (e ▸ hp)⟩
  simp only [State.reg, hregs]

theorem bnd (hp : .bnd ∈ P) (h : Within R P σ s) {x : Bnd} : Within R P σ { s with bnd := x } :=
  h.update .bnd hp rfl fun q hq => by cases q <;> simp_all [Part.same]

theorem flash (hp : .flash ∈ P) (h : Within R P σ s) {x : List Host.Cell} : Within R P σ { s with flash := x } :=
  h.update .flash hp rfl fun q hq => by cases q <;> simp_all [Part.same]

theorem bkd (hp : .bkd ∈ P) (h : Within R P σ s) {x : Bkd} : Within R P σ { s with bkd := x } :=
  h.update .bkd hp rfl fun q hq => by cases q <;> simp_all [Part.same]

theorem clk (hp : .clk ∈ P) (h : Within R P σ s) {x : Clk} : Within R P σ { s with clk := x } :=
  h.update .clk hp rfl fun q hq => by cases q <;> simp_all [Part.same]

theorem shadow (hp : .shadow ∈ P) (h : Within R P σ s) {x : List ((Nat × Nat) × Word)} : Within R P σ { s with shadow := x } :=
  h.update .shadow hp rfl fun q hq => by cases q <;> simp_all [Part.same]

/-- What a host port tells of its transaction is of its own part. -/
theorem host {p : Path} {x : Hst} (h : Within R P s t) (hx : portParts p = [] → x = t.hst) :
    Within R (portParts p ++ P) s { t with hst := x } := by
  by_cases hport : portParts p = []
  · rw [hx hport]
    exact h.weaken (List.Subset.refl _) (List.subset_append_right _ _)
  · have hhst : Part.hst ∈ portParts p ++ P := by
      unfold portParts at hport ⊢
      split at hport
      · next hp => simp [hp]
      · exact absurd rfl hport
    have hparts : Within R (portParts p ++ P) s t := h.weaken (List.Subset.refl _) (List.subset_append_right _ _)
    exact hparts.update .hst hhst rfl
      fun q hq => by cases q <;> simp_all [Part.same]

end Within

end Sys2Proof.Machine
end

section
namespace Sys2Proof.Machine

/-! ### Frames of bus accesses -/

/-- The flag of a block's CFG_ERR and its record, where both are named. -/
theorem Within.cfgErr {R : List Nat} {P : List Part} {σ s : State} {a b : Nat} (hflag : named R (cfgErrOf a).1.reg = true)
    (hrec : named R (cfgErrOf a).2.1 = true) (h : Within R P σ s) : Within R P σ (s.cfgErr a b) := by
  obtain ⟨hreg, hpart⟩ := State.cfgErr_withinAt a b s R P
  refine h.trans ⟨fun c hloud _ hnamed => hreg c hloud ?_ hnamed, hpart⟩
  rintro hc
  rcases List.mem_pair.mp hc with rfl | rfl
  · exact absurd hnamed (by simp [hflag])
  · exact absurd hnamed (by simp [hrec])

/-- A register whose written word goes straight into force. -/
def storesWord (a : Nat) : Bool := decide (a < 2 ^ 32) && windowOf a == some .regs && a != JNL_RD_SLOT && !ownStore a

/-- A write of such a register: ignored, a bus error, refused with CFG_ERR, or accepted. -/
theorem State.busWrite_cases {C : State → Prop} {p : Path} {a : Nat} {w : Word} {side : Side} {s : State} (hplace : storesWord a = true)
    (hsame : C s) (hbus : ∀ k, C (s.busErr p k (adr a))) (hcfg : ∀ b, C (s.cfgErr a b))
    (hacc : ∀ v, C ((s.setReg a v).written p a (s.reg a) w side)) : C (s.busWrite p (adr a) w side) := by
  simp only [storesWord, Bool.and_eq_true, decide_eq_true_eq, beq_iff_eq, bne_iff_ne, Bool.not_eq_true'] at hplace
  obtain ⟨⟨⟨hlt, hwin⟩, hslot⟩, hown⟩ := hplace
  have hadr : (adr a).toNat = a := Nat.mod_eq_of_lt hlt
  have hreg : C (s.regWrite p a w side) := by
    simp only [State.regWrite, if_neg hslot, hown, Bool.false_eq_true, if_false]
    split
    · exact hsame
    · split
      · exact hsame
      · split
        · exact hcfg _
        · exact hacc _
  unfold State.busWrite
  simp only [hadr, hwin]
  split
  · exact hsame
  · split
    · exact hbus _
    · exact hreg

/-- A write row within the frame of its bus access, a host port's part besides. -/
theorem State.writeRow_within {R : List Nat} {P : List Part} {p : Path} {a w : Word} {side : Side} {s : State}
    (h : Within R P s (s.busWrite p a w side)) : Within R (portParts p ++ P) s (s.writeRow p a w side) := by
  rw [State.writeRow_eq]
  exact h.host fun hport => congrArg State.hst (State.writeRow_of_portParts hport a w side s)

/-- The frame of a command that is one write: its own effect, beside a bus error and its block's CFG_ERR. -/
theorem State.writeRow_frame {R : List Nat} {P : List Part} {p : Path} {a : Nat} {w : Word} {side : Side} {s : State}
    (hplace : storesWord a = true) (hbus : busErrRegs ⊆ R)
    (hcfg : named R (cfgErrOf a).1.reg = true ∧ named R (cfgErrOf a).2.1 = true)
    (hacc : ∀ v, Within R P s ((s.setReg a v).written p a (s.reg a) w side)) :
    Within R (portParts p ++ P) s (s.writeRow p (adr a) w side) :=
  State.writeRow_within (State.busWrite_cases hplace (.refl s)
    (fun k => (State.busErr_within p k (adr a) s).weaken hbus (List.nil_subset _)) (fun _ => .cfgErr hcfg.1 hcfg.2 (.refl s)) hacc)

theorem State.freezePage_within (p : Path) (a : Nat) (s : State) : Within [] [.bkd, .shadow] s (s.freezePage p a) :=
  .forEach (fun _ _ hu => .shadow (by decide) hu) (.refl s)

theorem State.rtcTimeRead_within (k w : Nat) (s : State) : Within [] [.bkd, .shadow] s (s.rtcTimeRead k w).2 :=
  .ite (.refl s) (.forEach (fun _ _ hu => .shadow (by decide) hu) (.bkd (by decide) (.refl s)))

/-- A read of a register changes no more than a freeze does (R81, R88). -/
theorem State.regRead_within (p : Path) (a : Nat) (s : State) : Within [] [.bkd, .shadow] s (s.regRead p a).2 := by
  unfold State.regRead
  dsimp only
  split
  · exact .refl s
  · split
    · exact State.rtcTimeRead_within _ _ s
    · split
      · exact .bkd (by decide) (.refl s)
      · split
        · exact .takeFree (width := 16) (.refl s)
        · split
          · exact .refl s
          · exact State.freezePage_within p a s

theorem State.pointRead_within (p : Path) (i : Nat) (s : State) : Within [] [.bkd, .shadow] s (s.pointRead p i).2 := by
  unfold State.pointRead
  split
  · exact .refl s
  · split
    · exact .refl s
    · split
      · exact State.freezePage_within p _ s
      · exact .refl s

theorem State.busRead_within (p : Path) (a : Word) (s : State) : Within busErrRegs [.bkd, .shadow] s (s.busRead p a).2 := by
  unfold State.busRead
  dsimp only
  split
  · exact .refl s
  · split
    · exact (State.busErr_within p _ a s).weaken (List.Subset.refl _) (List.nil_subset _)
    · split
      · exact (State.regRead_within p _ s).weaken (List.nil_subset _) (List.Subset.refl _)
      · exact .refl s
      · exact (State.pointRead_within p _ s).weaken (List.nil_subset _) (List.Subset.refl _)
      · exact .refl s
      · exact .refl s

/-- A path that does not answer reads nothing. -/
theorem State.readRow_of_silent {s : State} {p : Path} (h : s.answers p = false) (a : Word) : s.readRow p a = s := by
  cases p with
  | spi | i2c => simp [State.readRow, h]
  | link | sup | svc0 | svc1 => simp [State.readRow, State.busRead, h]

/-- A read row changes no more than a freeze or a bus error does, and a host port's part. -/
theorem State.readRow_within (p : Path) (a : Word) (s : State) :
    Within busErrRegs (portParts p ++ [.bkd, .shadow]) s (s.readRow p a) := by
  by_cases hans : s.answers p = true
  · have hthrough : Within busErrRegs [.bkd, .shadow] s (s.readThrough p a) := by
      have hfirst := State.busRead_within p a s
      exact .ite (hfirst.trans (State.busRead_within p _ _)) hfirst
    rw [State.readRow_eq hans]
    refine hthrough.host fun hport => ?_
    cases p with
    | spi | i2c => cases hport
    | link | sup | svc0 | svc1 => rfl
  · rw [State.readRow_of_silent (by simpa using hans)]
    exact .refl s

end Sys2Proof.Machine
end
section
namespace Sys2Proof.Machine

/-! ### Frames of the bond's operations -/

/-- The registers of a bond request: its error and its status (R155). -/
def bondRegs : List Nat := [BND_ERR, BND_ERR_BYTE, BND_STAT]

/-- From `s` to `t` no more changed than the state of a bond request. -/
abbrev BondFrame (s t : State) : Prop := Within bondRegs [.bnd] s t

/-- The same, with what the course control shows of a re-lay. -/
abbrev RelayFrame (s t : State) : Prop := Within (bondRegs ++ [SEQ_STAT]) [.bnd] s t

theorem Within.seqRefresh {R : List Nat} {P : List Part} {σ s : State} (hstat : named R SEQ_STAT = true) (h : Within R P σ s) :
    Within R P σ s.seqRefresh := by
  have hrole (v : Nat) : Within R P σ (s.setFld SEQ_STAT_ROLE v) := .setFld hstat h
  have hphase (v w : Nat) : Within R P σ ((s.setFld SEQ_STAT_ROLE v).setFld SEQ_STAT_PHASE w) := .setFld hstat (hrole v)
  exact .ite (hrole _) (.ite (hphase _ _) (.ite (hphase _ _) (.ite (hphase _ _) (hphase _ _))))

namespace BondFrame

variable {σ s : State}

theorem relay (h : BondFrame σ s) : RelayFrame σ s := h.weaken (by decide) (by decide)

theorem parts (h : BondFrame σ s) {x : Bnd} : BondFrame σ { s with bnd := x } := .bnd (by decide) h

theorem answerDist (h : BondFrame σ s) : BondFrame σ s.answerDist := by
  unfold State.answerDist
  split
  · exact .sendTo (parts h)
  · exact h

theorem endRequest {result : Nat} (h : BondFrame σ s) : BondFrame σ (s.endRequest result) :=
  .setFld (by decide) (.setFld (by decide) (parts (.ite h (.setFld (by decide) h))))

theorem spendStaging (h : BondFrame σ s) : BondFrame σ s.spendStaging := endRequest (.ite h (.setFld (by decide) h))

theorem recordBond {e : BondErr} (h : BondFrame σ s) : BondFrame σ (s.recordBond e) :=
  .setReg (by decide) (.setReg (by decide) h)

theorem bondSheet {code : Nat} {e : BondErr} {id : Option Nat} (h : BondFrame σ s) : BondFrame σ (s.bondSheet code e id) := .sheet h

theorem bondBusy (h : BondFrame σ s) : BondFrame σ s.bondBusy := .raise (.setFld (by decide) h)

theorem storeFailed {reason : Option Nat} (h : BondFrame σ s) : BondFrame σ (s.storeFailed reason) := by
  have hended (u : State) (hu : BondFrame σ u) :
      BondFrame σ (State.raise 20 { (u.endRequest 7).answerDist with bnd := { (u.endRequest 7).answerDist.bnd with storing := none } }) :=
    .raise (parts (answerDist (endRequest hu)))
  cases reason with
  | some r => exact hended _ (bondSheet (recordBond h))
  | none => exact hended _ (bondSheet (.takeFree (width := 17) (.takeFree (width := 9) (.takeFree (width := 8) h))))

theorem beginStore {b : List Byte} {applied : Bool} (h : BondFrame σ s) : BondFrame σ (s.beginStore b applied) := by
  have ht : BondFrame σ { s.setFld BND_STAT_STATE bndStoring with
      bnd := { (s.setFld BND_STAT_STATE bndStoring).bnd with storing := some (b, applied) } } := parts (.setFld (by decide) h)
  exact .ite (storeFailed ht) ht

theorem stageBytes {owner : Nat} {bs : List Byte} (h : BondFrame σ s) : BondFrame σ (s.stageBytes owner bs).1 :=
  parts (.setFld (by decide) (.setFld (by decide) (.setFld (by decide) h)))

end BondFrame

namespace RelayFrame

variable {σ s : State}

theorem parts (h : RelayFrame σ s) {x : Bnd} : RelayFrame σ { s with bnd := x } := .bnd (by decide) h

theorem seqRefresh (h : RelayFrame σ s) : RelayFrame σ s.seqRefresh := Within.seqRefresh (by decide) h

theorem abortRelay (reason : Nat) (s : State) : RelayFrame s (s.abortRelay reason) :=
  .ite (.raise (seqRefresh (BondFrame.relay (.answerDist (.endRequest (.bondSheet (.recordBond (.refl s)))))))) (.refl s)

theorem rejectBond (e : BondErr) (s : State) : RelayFrame s (s.rejectBond e) :=
  seqRefresh (.raise (BondFrame.relay (.answerDist (.endRequest (.bondSheet (.recordBond (.refl s)))))))

theorem acceptBond (src : Nat) (storeOnly storeAfter : Bool) (link : Option Nat) (s : State) :
    RelayFrame s (s.acceptBond src storeOnly storeAfter link) := by
  have hstat : RelayFrame s ((s.setFld BND_STAT_RESULT 0).setFld BND_STAT_STATE (if src = 0 then bndReceiving else bndValidating)) :=
    .setFld (by decide) (.setFld (by decide) (.refl s))
  exact seqRefresh (parts (.ite (.setFld (by decide) hstat) hstat))

theorem requestRelay (src : Nat) (store : Bool) (link : Option Nat) (s : State) : RelayFrame s (s.requestRelay src store link) := by
  unfold State.requestRelay
  split
  · exact .raise (BondFrame.relay (.answerDist (.setFld (by decide) (BondFrame.bondSheet (.recordBond (.parts (.refl s)))))))
  · exact acceptBond src false store link s

theorem bndDataWritten (w : Word) (s : State) : RelayFrame s (s.bndDataWritten w) := by
  have hstaged : RelayFrame s (s.stageBytes 1 (leBytes 4 w.toNat)).1 := BondFrame.relay (.stageBytes (.refl s))
  unfold State.bndDataWritten
  dsimp only
  split
  · exact hstaged
  · exact hstaged.trans (rejectBond _ _)
  · exact .setFld (by decide) hstaged

end RelayFrame

/-! ### A store's slot -/

/-- What a state's flash reads outside some ranges depends on the flash alone. -/
theorem FlashWithin.of_eq {rs : List (Nat × Nat)} {s t : State} (h : t.flash = s.flash) : FlashWithin rs s t := fun a _ => by
  simp only [State.flashAt, h]

theorem FlashWithin.trans {rs : List (Nat × Nat)} {s t u : State} (h : FlashWithin rs s t) (k : FlashWithin rs t u) :
    FlashWithin rs s u := fun a ha => (k a ha).trans (h a ha)

theorem FlashWithin.ite {rs : List (Nat × Nat)} {s t u : State} {c : Prop} [Decidable c] (h : FlashWithin rs s t)
    (k : FlashWithin rs s u) : FlashWithin rs s (if c then t else u) := by
  split
  · exact h
  · exact k

theorem FlashWithin.flashWrite {rs : List (Nat × Nat)} {s t : State} {r : Nat × Nat} (hr : r ∈ rs) {a : Nat} {l : List Byte}
    (hlo : r.1 ≤ a) (hhi : a + l.length ≤ r.1 + r.2) (h : FlashWithin rs s t) : FlashWithin rs s (t.flashWrite a l) :=
  h.trans fun b hb => cellAt_setCells_other _ b l a _ (by have := hb r hr; omega)

/-- A filter that keeps a byte's cells keeps what it reads. -/
theorem cellAt_filter (d : Byte) {p : Host.Cell → Bool} {a : Nat} (hp : ∀ v, p (a, v) = true) (m : List Host.Cell) :
    cellAt d (m.filter p) a = cellAt d m a := by
  induction m with
  | nil => rfl
  | cons c r ih =>
    by_cases hc : c.1 = a
    · have hkept : p c = true := by rw [← hp c.2, ← hc]
      simp [hkept, cellAt, hc]
    · cases hpc : p c <;> simp [hpc, cellAt, hc, ih]

theorem FlashWithin.flashErase {rs : List (Nat × Nat)} {s t : State} {r : Nat × Nat} (hr : r ∈ rs) {a e : Nat} (hlo : r.1 ≤ a)
    (hhi : e ≤ r.1 + r.2) (h : FlashWithin rs s t) : FlashWithin rs s (t.flashErase a e) :=
  h.trans fun b hb => cellAt_filter _ (fun v => by have := hb r hr; simp; omega) _

theorem length_leBytes : ∀ n v : Nat, (leBytes n v).length = n
  | 0, _ => rfl
  | n + 1, v => congrArg (· + 1) (length_leBytes n (v / 256))

theorem length_sealBytes (gen : Nat) (b : List Byte) : (sealBytes gen b).length = 16 := by
  simp [sealBytes, length_leBytes]

/-- The slot a store writes holds its 17 sectors and its bond. -/
theorem State.mem_storeRange {s : State} {b : List Byte × Bool} (h : s.bnd.storing = some b) :
    (slotBase s.otherSlot, max 0x11000 b.1.length) ∈ s.storeRange := by
  simp [State.storeRange, h]

/-- A store cut short has written its own slot. -/
theorem State.storePartly_flashWithin (s : State) : FlashWithin s.storeRange s s.storePartly := by
  unfold State.storePartly
  split
  · exact .of_eq rfl
  · next b applied hstoring =>
    have hr := State.mem_storeRange hstoring
    extract_lets r base p n
    by_cases hp : p < 18
    · rw [if_pos hp]
      exact .flashErase hr le_rfl (by dsimp only; omega) (.of_eq rfl)
    · rw [if_neg hp]
      have hseal : ((sealBytes ((s.reg BND_GEN).toNat + 1) b ++ leBytes 4 0).take (n - b.length)).length ≤ 20 := by
        simp [length_sealBytes, length_leBytes]
      have hbond : (b.take n).length ≤ b.length := by simp
      exact .flashWrite hr (by dsimp only; omega) (by dsimp only; omega) (.flashWrite hr le_rfl (by dsimp only; omega)
        (.flashErase hr le_rfl (by dsimp only; omega) (.of_eq rfl)))

theorem State.storePartly_within (s : State) : Within [] [.flash] s s.storePartly := by
  unfold State.storePartly
  split
  · exact .refl s
  · exact .ite (.flash (by decide) (.takeFree (width := 24) (.refl s)))
      (.flash (by decide) (.flash (by decide) (.flash (by decide) (.takeFree (width := 24) (.refl s)))))

end Sys2Proof.Machine
end
section
namespace Sys2Proof.Machine

/-! ### The frame of a bond laid -/

/-- The registers a bond lays (R133, R153) beside its own status. -/
def layRegs : List Nat := brickRegs ++ [BND_EFF_HI, BND_EFF_LO, BND_GROUTE 0, BND_ID, CEL_BAL_LIM, CEL_BAL_ON, CEL_BAL_SEL, CEL_FQ 0,
  CEL_HEALTH 0, CEL_PULSE 0, CEL_STAT, CEL_ZI 0 0, CEL_ZR 0 0, CPM_CHG_VLIM, HST_GPIO_FUNC_HI, HST_GPIO_FUNC_LO, HST_GPIO_OUT, ICU_HOLD 0,
  LNK_STAT, LNK_SYNC, MSR_CELL_CFG, MSR_CH 0, MSR_OW_STAT, MSR_STAT, MSR_TDAC, MSR_TRIG, MTR_HIST 0, MTR_REAM 0 0, MTR_REAM_LEN, MTR_STAT,
  SEQ_RAIL_MRG 0, SEQ_RAIL_PGD 0, SEQ_RAIL_STAT 0, SEQ_RAIL_WIN 0, SEQ_STAT, STM_CTRL, THM_BROKEN, THM_HOT, THM_LIM 0, THM_STAT, THM_T 0,
  VCP_GRP 0, VCP_REC_HI 0, VCP_REC_LO 0, VCP_STAT]

/-- The parts it changes beside the bond itself. -/
def layParts : List Part := [.boot, .brk, .cel, .clk, .lnk, .msr, .mtr, .pins, .seq, .thm, .vcp]

/-- From `s` to `t` no more changed than laying a bond may. -/
abbrev LayFrame (s t : State) : Prop := Within layRegs layParts s t

theorem named_layRegs {a : Nat} (ha : a ∈ layRegs) : named layRegs a = true := by
  have hall : layRegs.all (fun b => named [b] b) = true := by decide
  exact named_self ha (List.all_eq_true.mp hall a ha)

/-- A register of one of the bricks' arrays. -/
theorem named_lay_brk {b : Nat} (n : Nat) (hb : b ∈ layRegs) (harr : isArrayAt b 0x1000 16 = true) :
    named layRegs (b + 0x1000 * (n % 16)) = true := named_array n hb harr (by decide) (by decide)

theorem named_lay_rail {b : Nat} (r : Nat) (hb : b ∈ layRegs) (harr : isArrayAt b 0x10 21 = true) :
    named layRegs (b + 0x10 * (r % 21)) = true := named_array r hb harr (by decide) (by decide)

/-- Of a table of words, the register of each word of each row. -/
theorem named_lay_table {b : Nat} {d : RegDef} (hb : b ∈ layRegs) (hd : regDefOf b = some d) (hs : 0 < d.stride2)
    (hin : d.stride2 * d.count2 ≤ d.stride) (i j : Nat) (hi : 0 < d.count) (hj : 0 < d.count2) :
    named layRegs (d.base + d.stride * (i % d.count) + d.stride2 * (j % d.count2)) = true :=
  (named_iff _ _).mpr ⟨b, hb, (named_single hd).trans
    (RegDef.covers_add_add (Nat.mod_lt _ hi) (Nat.mod_lt _ hj) hs hin)⟩

namespace LayFrame

variable {σ s : State}

/-- An update of the parts of the frame. -/
theorem parts (h : LayFrame σ s) {fr boot brk cel clk lnk msr mtr pins seq thm vcp} :
    LayFrame σ (State.mk s.pending s.regs s.shadow fr clk boot s.bkd s.icu s.hst s.wdg s.jnl pins s.bnd brk seq vcp s.cpm msr
      thm cel mtr lnk s.sram s.flash) := by
  refine h.trans ⟨fun _ _ _ _ => rfl, fun p hp => ?_⟩
  cases p
  case boot | brk | cel | clk | lnk | msr | mtr | pins | seq | thm | vcp => exact absurd (by decide) hp
  all_goals simp [Part.same]

/-- An update of the interrupt controller's queue and waits. -/
theorem icu (h : LayFrame σ s) {x : Icu} (h1 : x.armed = s.icu.armed) (h2 : x.again = s.icu.again)
    (h3 : x.latchStamps = s.icu.latchStamps) : LayFrame σ { s with icu := x } :=
  .of_raised ((Raised.refl s).icu h1 h2 h3) h

theorem setReg_mem {a : Nat} {v : Word} (ha : a ∈ layRegs) (h : LayFrame σ s) : LayFrame σ (s.setReg a v) :=
  .setReg (named_layRegs ha) h

theorem setFld_mem {f : Fld} {v : Nat} (hf : f.reg ∈ layRegs) (h : LayFrame σ s) : LayFrame σ (s.setFld f v) := setReg_mem hf h

theorem setFlag_mem {f : Fld} {b : Bool} (hf : f.reg ∈ layRegs) (h : LayFrame σ s) : LayFrame σ (s.setFlag f b) := setFld_mem hf h

theorem flagRaise_mem {f : Fld} {src : Nat} (hf : f.reg ∈ layRegs) (h : LayFrame σ s) : LayFrame σ (s.flagRaise f src) :=
  .raise (setFld_mem hf h)

theorem onlyIf {b : Bool} {f : State → State} (hf : ∀ u, LayFrame σ u → LayFrame σ (f u)) (h : LayFrame σ s) :
    LayFrame σ (onlyIf b f s) := Within.onlyIf hf h

theorem forEach {α : Type} {l : List α} {f : α → State → State} (hf : ∀ a u, LayFrame σ u → LayFrame σ (f a u))
    (h : LayFrame σ s) : LayFrame σ (forEach l f s) := Within.forEach hf h

/-! #### The interrupt controller -/

theorem relaySrc {src : Nat} {w : Word} (h : LayFrame σ s) : LayFrame σ (s.relaySrc src w) := by
  have hloud : loud (ICU_SRC src) = true := by simp [loud, isArr_ICU_SRC]
  have hroute : LayFrame σ (s.setRoute src w) := h.trans (.setReg_loud hloud s _)
  have hentry {b : Bool} : LayFrame σ (Machine.onlyIf b (State.dropEntry src) (s.setRoute src w)) :=
    onlyIf (fun _ hu => icu hu rfl rfl rfl) hroute
  have hafter {u : State} (hu : LayFrame σ u) : LayFrame σ (State.afterFull ((u.unwait src).offer src)) :=
    .of_raised (State.chain_raised _ _ (State.offer_raised _ src (State.unwait_raised src u (.refl u)))) hu
  exact .ite (.of_raised (State.unwait_raised src _ (.refl _)) hentry) (.ite (hafter hentry) hentry)

theorem deliverAll {srcs : List Nat} (h : LayFrame σ s) : LayFrame σ (s.deliverAll srcs) := by
  refine .of_raised (State.driveInt_raised _ (forEach_raised (fun src u hu => ?_) (.refl s))) h
  split
  · exact State.chain_raised _ _ (State.deliver_raised u src hu)
  · exact State.unwait_raised src u hu

theorem holdWritten {g : Nat} (h : LayFrame σ s) : LayFrame σ (s.holdWritten g) :=
  .ite (deliverAll (icu h rfl rfl rfl)) h

theorem layIcu (h : LayFrame σ s) : LayFrame σ s.layIcu := by
  unfold State.layIcu
  extract_lets held entries routed
  have hheld : LayFrame σ held := forEach (fun g _ hu => .setFld (named_array (b := ICU_HOLD 0) (stride := 4) (count := 32) g (by decide)
    (by decide) (by decide) (by decide)) hu) h
  have hrouted : LayFrame σ routed := forEach (fun _ _ hu => relaySrc hu) hheld
  exact deliverAll (forEach (fun _ _ hu => holdWritten hu) hrouted)

/-! #### Bricks -/

theorem setBrkState {n st : Nat} (h : LayFrame σ s) : LayFrame σ (s.setBrkState n st) :=
  .ite h (.raise (.setFld (named_lay_brk (b := BRK_STAT 0) n (by decide) (by decide)) h))

theorem dropInjection {n : Nat} (h : LayFrame σ s) : LayFrame σ (s.dropInjection n) := by
  unfold State.dropInjection
  split
  · exact .ite (.raise (setFld_mem (by decide) (parts h))) h
  · exact h

theorem loadStores {n : Nat} (h : LayFrame σ s) : LayFrame σ (s.loadStores n) := parts h

theorem takeLimits {n : Nat} (h : LayFrame σ s) : LayFrame σ (s.takeLimits n) := .ite h (loadStores (parts h))

theorem syncLanes {n : Nat} (h : LayFrame σ s) : LayFrame σ (s.syncLanes n) :=
  forEach (fun _ _ hu => onlyIf (fun _ hv => parts hv) hu) h

/-! #### Rails, sensors, pins -/

theorem layRails (h : LayFrame σ s) : LayFrame σ s.layRails :=
  parts (forEach (fun r _ hu => .setFld (named_lay_rail (b := SEQ_RAIL_PGD 0) r (by decide) (by decide))
    (.setFld (named_lay_rail (b := SEQ_RAIL_WIN 0) r (by decide) (by decide))
      (.setFld (named_lay_rail (b := SEQ_RAIL_WIN 0) r (by decide) (by decide)) hu))) h)

theorem named_THM_T (i : Nat) : named layRegs (THM_T i) = true :=
  named_array (b := THM_T 0) (stride := 4) i (by decide) (by decide) (by decide) (by decide)

theorem named_THM_LIM (i : Nat) : named layRegs (THM_LIM i) = true :=
  named_array (b := THM_LIM 0) (stride := 4) i (by decide) (by decide) (by decide) (by decide)

theorem showHot {i : Nat} (h : LayFrame σ s) : LayFrame σ (s.showHot i) := by
  have ht (b : Bool) : LayFrame σ ((s.setFlag (THM_T_HOT i) b).setFlag ⟨THM_HOT, i, 1⟩ b) :=
    setFlag_mem (by decide : THM_HOT ∈ layRegs) (.setFlag (named_THM_T i) h)
  exact .ite h (.ite (flagRaise_mem (by decide) (ht _)) (ht _))

theorem layThermal (h : LayFrame σ s) : LayFrame σ s.layThermal := by
  refine forEach (fun i u hu => ?_) h
  extract_lets enabled limits sensor
  have henabled : LayFrame σ enabled := .setFlag (named_THM_T i) (.setFlag (named_THM_T i) hu)
  have hlimits : LayFrame σ limits := .setFld (named_THM_LIM i) (.setFld (named_THM_LIM i) henabled)
  exact onlyIf (fun _ hv => showHot hv) (.ite hlimits (parts (setFlag_mem (by decide : THM_BROKEN ∈ layRegs) (.setFlag (named_THM_T i) hlimits))))

theorem clearRecords (h : LayFrame σ s) : LayFrame σ s.clearRecords :=
  parts (forEach (fun n _ hu => .setReg (named_mono (by decide) (named_VCP_REC_HI n))
    (.setReg (named_mono (by decide) (named_VCP_REC_LO n)) hu)) h)

theorem layPins (h : LayFrame σ s) : LayFrame σ s.layPins := by
  have hfunc (j : Nat) : (if j < 8 then HST_GPIO_FUNC_LO_FUNC j else HST_GPIO_FUNC_HI_FUNC (j - 8)).reg ∈ layRegs := by
    split
    · exact (by decide : HST_GPIO_FUNC_LO ∈ layRegs)
    · exact (by decide : HST_GPIO_FUNC_HI ∈ layRegs)
  exact clearRecords (forEach (fun n _ hu => .setFld (named_array (b := VCP_GRP 0) (stride := 4) n (by decide) (by decide) (by decide)
    (by decide)) hu) (setFld_mem (by decide) (setReg_mem (by decide) (forEach (fun j _ hu => setFld_mem (hfunc j) hu) h))))

/-! #### Measurement, link, cells -/

theorem layMeasure (h : LayFrame σ s) : LayFrame σ s.layMeasure := by
  unfold State.layMeasure
  extract_lets trig msr counted restarted unsensed limited
  have htrig : LayFrame σ trig := setFld_mem (by decide) (setFld_mem (by decide) (setFld_mem (by decide) h))
  have hcounted : LayFrame σ counted := parts htrig
  have hrestarted : LayFrame σ restarted := .ite (parts (setFld_mem (by decide) hcounted)) (parts (setFld_mem (by decide) hcounted))
  have hunsensed : LayFrame σ unsensed := forEach (fun ch _ hu => .setFld (named_array (b := MSR_CH 0) (stride := 4) (count := 24) ch
    (by decide) (by decide) (by decide) (by decide)) hu) hrestarted
  have hlimited : LayFrame σ limited := setFld_mem (by decide) hunsensed
  split
  · exact setFld_mem (by decide) (setFld_mem (by decide) hlimited)
  · exact hlimited

theorem showParent (h : LayFrame σ s) : LayFrame σ s.showParent :=
  .ite (setFld_mem (by decide) h) (setFld_mem (by decide) (setFld_mem (by decide) h))

theorem setRing {trunk : Bool} {r : Ring} (h : LayFrame σ s) : LayFrame σ (s.setRing trunk r) := .ite (parts h) (parts h)

theorem showRing {trunk opened : Bool} (h : LayFrame σ s) : LayFrame σ (s.showRing trunk opened) := by
  have hopen : (openFld trunk).reg ∈ layRegs := by cases trunk <;> decide
  exact .ite (showParent h) (.raise (showParent (setFld_mem (by decide) (setFlag_mem hopen h))))

theorem declareRing {trunk opened : Bool} (h : LayFrame σ s) : LayFrame σ (s.declareRing trunk opened) :=
  .ite (showParent h) (.sheet (.send (setRing (showRing h))))

theorem portLost {p : Nat} (h : LayFrame σ s) : LayFrame σ (s.portLost p) := by
  have hring {r : Ring} : LayFrame σ ((s.sendRing (decide (2 ≤ p)) true).setRing (decide (2 ≤ p)) r) := setRing (.send h)
  exact .ite (declareRing hring) (showRing hring)

theorem layLink (h : LayFrame σ s) : LayFrame σ s.layLink := by
  unfold State.layLink
  extract_lets en up shown told
  have hshown : LayFrame σ shown := setFld_mem (by decide) (setFld_mem (by decide) h)
  have htold : LayFrame σ told := onlyIf (fun _ hu => .raise hu) hshown
  exact .ite (forEach (fun _ _ hu => portLost hu) htold) htold

theorem showLim (h : LayFrame σ s) : LayFrame σ s.showLim := .ite h (.raise (setFld_mem (by decide) h))

theorem layBalance (h : LayFrame σ s) : LayFrame σ s.layBalance :=
  showLim (parts (onlyIf (fun _ hu => .raise hu) (setReg_mem (by decide) h)))

theorem named_CEL_HEALTH (c : Nat) : named layRegs (CEL_HEALTH c) = true :=
  named_array (b := CEL_HEALTH 0) (stride := 4) c (by decide) (by decide) (by decide) (by decide)

theorem setBin {c b : Nat} {re im : Word} (h : LayFrame σ s) : LayFrame σ (s.setBin c b re im) :=
  .setReg (named_lay_table (b := CEL_ZI 0 0) (by decide) (d := ⟨0x164004, 0x200, 32, 0x8, 64, _⟩) rfl (by decide) (by decide) c b (by decide)
    (by decide)) (.setReg (named_lay_table (b := CEL_ZR 0 0) (by decide) (d := ⟨0x164000, 0x200, 32, 0x8, 64, _⟩) rfl (by decide) (by decide)
      c b (by decide) (by decide)) h)

theorem emptyCells (h : LayFrame σ s) : LayFrame σ s.emptyCells :=
  parts (onlyIf (fun _ hu => .raise hu) (forEach (fun c _ hu => .setReg (named_CEL_HEALTH c)
    (.setReg (named_array (b := CEL_PULSE 0) (stride := 4) c (by decide) (by decide) (by decide) (by decide))
      (forEach (fun _ _ hv => setBin hv) hu))) h))

theorem driversOff (h : LayFrame σ s) : LayFrame σ s.driversOff := .ite h (parts (setReg_mem (by decide) h))

theorem windowStatus {w : Window} {v : Nat} (h : LayFrame σ s) : LayFrame σ (s.windowStatus w v) := by
  have hfq : named layRegs (CEL_FQ w.j) = true :=
    named_array (b := CEL_FQ 0) (stride := 4) w.j (by decide) (by decide) (by decide) (by decide)
  have ht : LayFrame σ (s.setFld (if w.active then CEL_FQ_A_STAT w.j else CEL_FQ_P_STAT w.j) v) := .setFld (by split <;> exact hfq) h
  exact .ite (.setFld hfq ht) ht

theorem closeWindow (h : LayFrame σ s) : LayFrame σ s.closeWindow := by
  have hyield {u : State} (hu : LayFrame σ u) : LayFrame σ (u.setYield false) := .ite hu (.raise (setFlag_mem (by decide) hu))
  have hrelease {u : State} (hu : LayFrame σ u) : LayFrame σ u.owRelease := .ite (setFld_mem (by decide) (parts hu)) hu
  exact hrelease (showLim (hyield (setFld_mem (by decide) (parts h))))

theorem abandonSweep (h : LayFrame σ s) : LayFrame σ s.abandonSweep := by
  unfold State.abandonSweep
  refine .ite h ?_
  extract_lets closed stopped
  have hclosed : LayFrame σ closed := by
    unfold closed
    split
    · exact closeWindow (windowStatus h)
    · exact h
  exact setFld_mem (by decide) (parts hclosed)

/-! #### Meters -/

theorem clearHist (h : LayFrame σ s) : LayFrame σ s.clearHist :=
  forEach (fun i _ hu => .setReg (named_array (b := MTR_HIST 0) (stride := 4) i (by decide) (by decide) (by decide) (by decide)) hu) h

theorem integrate {d : Due} (h : LayFrame σ s) : LayFrame σ (s.integrate d) := by
  have hsat (k : Nat) (u : State) (hu : LayFrame σ u) : LayFrame σ (u.saturate k) := .ite hu (flagRaise_mem (by decide) (.sheet (parts hu)))
  exact forEach hsat (parts h)

theorem takeDue {d : Due} (h : LayFrame σ s) : LayFrame σ (s.takeDue d) := .ite (parts h) (integrate h)

theorem settleDue (h : LayFrame σ s) : LayFrame σ s.settleDue := forEach (fun _ _ hu => .ite (takeDue (parts hu)) hu) h

theorem latchReam {e : Time} {extra : Nat} (h : LayFrame σ s) : LayFrame σ (s.latchReam e extra) := by
  unfold State.latchReam
  extract_lets len partialFlag late flags ws words newest closed run mtr begun told ms listed
  have hwords : LayFrame σ words := forEach (fun w _ hu => .setReg (named_lay_table (b := MTR_REAM 0 0) (by decide)
    (d := ⟨0x180100, 0x40, 8, 0x4, 14, _⟩) rfl (by decide) (by decide) s.mtr.slot w (by decide) (by decide)) hu) h
  have hbegun : LayFrame σ begun := parts (setFld_mem (by decide) hwords)
  have htold : LayFrame σ told := flagRaise_mem (by decide) hbegun
  have hms : LayFrame σ ms.2 := by
    unfold ms
    split
    · exact htold
    · exact .takeFree (width := 32) htold
  exact .sheet (.sheet hms)

theorem releaseHeld (h : LayFrame σ s) : LayFrame σ s.releaseHeld := forEach (fun _ _ hu => takeDue hu) (parts h)

theorem latchChange (h : LayFrame σ s) : LayFrame σ s.latchChange := by
  have ht : LayFrame σ (s.latchReam s.boundary 0).releaseHeld := releaseHeld (latchReam h)
  exact .ite (.ite (latchReam ht) ht) (.ite h (latchReam h))

theorem changeReamLen {len : Nat} (h : LayFrame σ s) : LayFrame σ (s.changeReamLen len) :=
  .ite h (parts (onlyIf (fun _ hu => latchChange hu) (settleDue (parts h))))

/-! #### What shows it -/

theorem showStat {code : Nat} (h : LayFrame σ s) : LayFrame σ (s.showStat code) := .ite (parts h) (parts h)

theorem setAux {rail : Nat} {on : Bool} (h : LayFrame σ s) : LayFrame σ (s.setAux rail on) := by
  have hout : LayFrame σ (s.ldoOut rail).2 := by
    unfold State.ldoOut
    dsimp only
    split
    · exact h
    · exact .takeFree (width := 1) h
  exact .ite (parts hout) (parts h)

theorem applyMargins (h : LayFrame σ s) : LayFrame σ s.applyMargins :=
  onlyIf (fun _ hu => .raise hu) (forEach (fun _ _ hu => onlyIf (fun _ hv => setAux hv) hu)
    (forEach (fun r _ hu => .setFld (named_lay_rail (b := SEQ_RAIL_MRG 0) r (by decide) (by decide)) hu) h))

theorem showHealth (h : LayFrame σ s) : LayFrame σ s.showHealth :=
  onlyIf (fun _ hu => .raise hu) (forEach (fun c _ hu => .setReg (named_CEL_HEALTH c) hu) h)

end LayFrame

end Sys2Proof.Machine
end
section
namespace Sys2Proof.Machine

/-! ### A brick laid -/

/-- Without a field no word of the register is restored. -/
theorem restoredWord_of_no_field (lvl : Nat) {a : Nat} (h : fieldsOf a = []) (w : Word) : restoredWord lvl a w = w := by
  simp only [restoredWord, h, maskOf, List.foldl_nil, BitVec.and_zero, BitVec.or_zero, BitVec.not_zero, BitVec.and_allOnes]

/-- Registers of one page rewritten, each with a field of them named, leave every other register. -/
theorem reg_of_rewritten {R : List Nat} {page : Nat} {g : Nat → Word → Word} {p : Nat → Bool} {s t : State}
    (hregs : t.regs = s.regs.filterMap (rewrittenEntry g p)) (hreset : ∀ a, g a (regReset a) = regReset a)
    (hempty : ∀ {a}, fieldsOf a = [] → ∀ w, g a w = w) (hpage : ∀ d ∈ blockRegs page, ∃ b ∈ R, regDefOf b = some d)
    (hp : ∀ a, p a = true → a / 0x10000 = page) (hwf : Registers.wf s.regs = true) {a : Nat} (hnamed : named R a = false) :
    t.reg a = s.reg a := by
  rw [State.reg_eq_getD, State.reg_eq_getD, hregs, findReg_rewritten hreset p a _ hwf]
  split
  · next ha =>
    refine hempty ?_ _
    by_contra hf
    rw [named_of_page hpage (hp a ha) hf] at hnamed
    cases hnamed
  · rfl

/-- A restore of registers of one page, each of them named. -/
theorem Within.restore {R : List Nat} {P : List Part} {lvl page : Nat} {p : Nat → Bool} {s : State}
    (hpage : ∀ d ∈ blockRegs page, ∃ b ∈ R, regDefOf b = some d) (hp : ∀ a, p a = true → a / 0x10000 = page)
    (hwf : Registers.wf s.regs = true) : Within R P s (s.restore lvl p) :=
  ⟨fun _ _ _ hnamed => reg_of_rewritten (restore_regs lvl p s) (restoredWord_regReset lvl) (restoredWord_of_no_field lvl) hpage hp hwf hnamed,
    fun q _ => by cases q <;> simp [Part.same, State.restore]⟩

/-- The registers of the bricks' page. -/
theorem brickRegs_page : ∀ d ∈ blockRegs 0x10, ∃ b ∈ layRegs, regDefOf b = some d := by
  have hall : (blockRegs 0x10).all (fun d => brickRegs.any (fun b => regDefOf b == some d)) = true := by decide
  intro d hd
  obtain ⟨b, hb, hbd⟩ := List.any_eq_true.mp (List.all_eq_true.mp hall d hd)
  exact ⟨b, List.mem_append_left _ hb, beq_iff_eq.mp hbd⟩

namespace LayFrame

variable {σ s : State}

/-- Setting a field of one of a brick's registers. -/
theorem setBrk {n : Nat} {f : Fld} {v : Nat} (b : Nat) (hb : b ∈ layRegs ∧ isArrayAt b 0x1000 16 = true)
    (hf : f.reg = b + 0x1000 * (n % 16)) (h : LayFrame σ s) : LayFrame σ (s.setFld f v) :=
  .setFld (hf ▸ named_lay_brk n hb.1 hb.2) h

theorem layBrick {n : Nat} (hn : n < 16) (hwf : Registers.wf s.regs = true) : LayFrame s (s.layBrick n) := by
  unfold State.layBrick
  extract_lets a0 kept active b was restored lanes trips fresh emptied enter stated
  have hrestored : LayFrame s restored := by
    refine .restore brickRegs_page (fun a ha => ?_) hwf
    simp only [Bool.and_eq_true, decide_eq_true_eq] at ha
    omega
  have hlanes : LayFrame s lanes := setBrk (BRK_LANE_STAT 0) (by decide) rfl (setBrk (BRK_LANE_STAT 0) (by decide) rfl hrestored)
  have htrips : LayFrame s trips :=
    .ite (setBrk (BRK_LIM_STAT 0) (by decide) rfl (setBrk (BRK_LIM_STAT 0) (by decide) rfl hlanes)) hlanes
  have hstated : LayFrame s stated := setBrk (BRK_STAT 0) (by decide) rfl (parts htrips)
  have henter (st : Nat) {t : State} (ht : LayFrame s t) : LayFrame s (enter st t) :=
    .ite (setBrkState ht) (setBrk (BRK_STAT 0) (by decide) rfl ht)
  split
  · exact henter _ hstated
  · extract_lets role cfg timing retry comp ref target slew range limits slow settle la lb shown stored
    have hcfg : LayFrame s cfg := setBrk (BRK_CFG 0) (by decide) rfl (setBrk (BRK_CFG 0) (by decide) rfl
      (setBrk (BRK_CFG 0) (by decide) rfl (setBrk (BRK_CFG 0) (by decide) rfl (setBrk (BRK_CFG 0) (by decide) rfl
        (setBrk (BRK_CFG 0) (by decide) rfl hstated)))))
    have htiming : LayFrame s timing := setBrk (BRK_PHASE_OFS 0) (by decide) rfl (setBrk (BRK_DT_FALL 0) (by decide) rfl
      (setBrk (BRK_DT_RISE 0) (by decide) rfl (setBrk (BRK_PERIOD 0) (by decide) rfl hcfg)))
    have hretry : LayFrame s retry := setBrk (BRK_LIM_STAT 0) (by decide) rfl htiming
    have hcomp : LayFrame s comp := forEach (fun i _ hu => .setReg (named_lay_table (b := BRK_COMP 0 0) (by decide)
      (d := ⟨0x100100, 0x1000, 16, 0x4, 9, _⟩) rfl (by decide) (by decide) n i (by decide) (by decide)) hu) hretry
    have htarget : LayFrame s target := setBrk (BRK_TARGET 0) (by decide) rfl (setBrk (BRK_COMP_BST_THR 0) (by decide) rfl hcomp)
    have hslew : LayFrame s slew := setBrk (BRK_SLEW 0) (by decide) rfl
      (.setReg (named_lay_brk (b := BRK_REF 0) n (by decide) (by decide)) htarget)
    have hrange : LayFrame s range := .setReg (named_lay_brk (b := BRK_COMP_CMD_MAX 0) n (by decide) (by decide))
      (.setReg (named_lay_brk (b := BRK_COMP_CMD_MIN 0) n (by decide) (by decide)) hslew)
    have hlimits : LayFrame s limits := setBrk (BRK_FAST 0) (by decide) rfl (setBrk (BRK_I2T_LIMIT 0) (by decide) rfl hrange)
    have hslow : LayFrame s slow := setBrk (BRK_SLOW 0) (by decide) rfl (setBrk (BRK_SLOW 0) (by decide) rfl
      (setBrk (BRK_FAST 0) (by decide) rfl hlimits))
    have hsettle : LayFrame s settle := setBrk (BRK_SETTLE 0) (by decide) rfl (setBrk (BRK_SETTLE 0) (by decide) rfl hslow)
    have hshown : LayFrame s shown :=
      setBrk (BRK_LANE_STAT 0) (by decide) rfl (setBrk (BRK_LANE_STAT 0) (by decide) rfl hsettle)
    exact .ite (henter _ hsettle) (henter _ (syncLanes (loadStores (takeLimits hshown))))

/-- Every brick laid. -/
theorem layBricks (hwf : Registers.wf s.regs = true) :
    LayFrame s (Machine.forEach (List.range 16) State.layBrick s) := by
  have hkept (n : Nat) (hn : n ∈ List.range 16) (u : State) (hu : LayFrame s u ∧ Registers.wf u.regs = true) :
      LayFrame s (u.layBrick n) ∧ Registers.wf (u.layBrick n).regs = true :=
    ⟨hu.1.trans (layBrick (List.mem_range.mp hn) hu.2), (State.layBrick_keeps n u (.refl u)).regs hu.2⟩
  exact (forEach_induction (C := fun u => LayFrame s u ∧ Registers.wf u.regs = true) hkept ⟨.refl s, hwf⟩).1

/-! ### A bond laid -/

/-- Before the blocks take a bond the drivers are off, a sweep is abandoned, and the bricks it does not assign give up an injection
(R153, R293). -/
theorem layBond (bytes : List Byte) (tiles : List Tile) (hwf : Registers.wf s.regs = true) :
    ∃ u, LayFrame s u ∧ LayFrame { u with bnd := { u.bnd with bytes := bytes, tiles := tiles } } (s.layBond bytes tiles) := by
  unfold State.layBond
  extract_lets cells hist relay idle dropped bnd taken routed bricks groups laid emptied msr paused cleared reamed mtr metered named timed
    shown armed
  have hidle : LayFrame s idle := .ite (abandonSweep (driversOff (.refl s))) (.refl s)
  have hkeeps : Keeps s routed := by
    have hidle : Keeps s idle := .ite (State.abandonSweep_keeps _ (State.driversOff_keeps _ (.refl s))) (.refl s)
    exact State.layIcu_keeps _ (.parts (forEach_keeps (fun n u => State.dropInjection_keeps n u) hidle) rfl)
  refine ⟨dropped, forEach (fun _ _ hu => dropInjection hu) hidle, ?_⟩
  have hbricks : LayFrame taken bricks := (layIcu (.refl taken)).trans (layBricks (hkeeps.regs hwf))
  have hgroups : LayFrame taken groups := forEach (fun k _ hu => .setReg (named_array (b := BND_GROUTE 0) (stride := 4) (count := 8) k
    (by decide) (by decide) (by decide) (by decide)) hu) hbricks
  have hlaid : LayFrame taken laid :=
    layBalance (layLink (layMeasure (layPins (layThermal (layRails hgroups)))))
  have hpaused : LayFrame taken paused := .ite (parts (emptyCells hlaid)) hlaid
  have hcleared : LayFrame taken cleared := .ite (clearHist hpaused) hpaused
  have hmetered : LayFrame taken metered := parts (changeReamLen (setFld_mem (by decide) hcleared))
  have htimed : LayFrame taken timed := setReg_mem (by decide) (setReg_mem (by decide) (setReg_mem (by decide) hmetered))
  have hshown : LayFrame taken shown := showStat (parts htimed)
  have harmed : LayFrame taken armed :=
    forEach (fun r _ hu => .setFlag (named_lay_rail (b := SEQ_RAIL_STAT 0) r (by decide) (by decide)) hu) hshown
  exact .ite (showHealth (Within.seqRefresh (named_layRegs (by decide)) (applyMargins harmed))) hshown

end LayFrame

end Sys2Proof.Machine
end
section
namespace Sys2Proof.Machine

/-! ### Frames of the bond's commands -/

/-- What a write of BND_CTRL may change. -/
def bndCtrlRegs : List Nat := busErrRegs ++ [BND_CFG_ERR_INFO, BND_CTRL, BND_ERR, BND_ERR_BYTE, BND_STAT, SEQ_STAT]

theorem State.writeRow_bndCtrl {P : List Part} {p : Path} {w : Word} {s : State}
    (hacc : ∀ u : State, Within bndCtrlRegs P u (u.bndCtrlWritten w)) :
    Within bndCtrlRegs (portParts p ++ P) s (s.writeRow p (adr BND_CTRL) w Side.untold) :=
  State.writeRow_frame (by decide) (by decide) (by decide) fun _ => .trans (.setReg (by decide) (.refl s)) (hacc _)

theorem RelayFrame.bndCtrl {s t : State} (h : RelayFrame s t) : Within bndCtrlRegs [.bnd] s t := h.weaken (by decide) (by decide)

/-- The command that a STORE write gives. -/
theorem bondStore_cmd : ∀ src : BitVec 2, bitsOf (word [(24, 0x3C), (8, src.toNat), (0, 1)]).toNat 0 3 = 1 := by decide

/-- The command that an APPLY write gives. -/
theorem bondApply_cmd : ∀ (src : BitVec 2) (store : Bool),
    bitsOf (word [(24, 0x3C), (10, bit store), (8, src.toNat), (0, 2)]).toNat 0 3 = 2 := by decide

theorem exec_bondStoreCmd_within {s t : State} {p : Path} {src : BitVec 2} (h : exec (.bondStoreCmd p src) s = .next t) :
    Within bndCtrlRegs (portParts p ++ [.bnd]) s t := by
  obtain rfl := Host.Outcome.next.inj h
  refine State.writeRow_bndCtrl fun u => RelayFrame.bndCtrl ?_
  simp only [State.bndCtrlWritten, bondStore_cmd]
  exact .ite (BondFrame.relay (.bondBusy (.refl u))) (RelayFrame.acceptBond _ _ _ _ u)

theorem exec_bondApply_within {s t : State} {p : Path} {src : BitVec 2} {store : Bool} (h : exec (.bondApply p src store) s = .next t) :
    Within bndCtrlRegs (portParts p ++ [.bnd]) s t := by
  obtain rfl := Host.Outcome.next.inj h
  refine State.writeRow_bndCtrl fun u => RelayFrame.bndCtrl ?_
  simp only [State.bndCtrlWritten, bondApply_cmd]
  exact .ite (BondFrame.relay (.bondBusy (.refl u))) (RelayFrame.requestRelay _ _ _ u)

theorem State.bndCtrlWritten_abort (s : State) : s.bndCtrlWritten (word [(0, 3)]) = s.bondAbort := by
  have hcmd : bitsOf (word [(0, 3)]).toNat 0 3 = 3 := by decide
  simp only [State.bndCtrlWritten, hcmd]

theorem State.bondAbort_within (s : State) : Within (bondRegs ++ [SEQ_STAT]) [.bnd, .flash] s s.bondAbort := by
  have hstore : Within bondRegs [.bnd, .flash] s (s.storePartly.storeFailed (some 0x32)) :=
    .trans (s.storePartly_within.weaken (by decide) (by decide)) ((BondFrame.storeFailed (.refl _)).weaken (by decide) (by decide))
  exact .ite (hstore.weaken (by decide) (by decide))
    ((RelayFrame.seqRefresh (RelayFrame.abortRelay 0x32 s)).weaken (by decide) (by decide))

theorem BondFrame.flashWithin {rs : List (Nat × Nat)} {s t u : State} (h : FlashWithin rs s t) (k : BondFrame t u) : FlashWithin rs s u :=
  h.trans (.of_eq (k.2 .flash (by decide)))

theorem State.bondAbort_flashWithin (s : State) : FlashWithin s.storeRange s s.bondAbort :=
  .ite (BondFrame.flashWithin s.storePartly_flashWithin (.storeFailed (.refl _)))
    (.of_eq ((RelayFrame.seqRefresh (RelayFrame.abortRelay 0x32 s)).2 .flash (by decide)))

/-- A write that stores a word of another register leaves the slot a store writes. -/
theorem State.storeRange_setReg {s : State} {a : Nat} (ha : BND_STAT ≠ a) (v : Word) : (s.setReg a v).storeRange = s.storeRange := by
  have hslot : (s.setReg a v).fld BND_STAT_SLOT = s.fld BND_STAT_SLOT := s.fld_setReg_other a v BND_STAT_SLOT ha
  simp only [State.storeRange, State.otherSlot, hslot]
  rfl

theorem exec_bondAbort_within {s t : State} {p : Path} (h : exec (.bondAbort p) s = .next t) :
    Within bndCtrlRegs (portParts p ++ [.bnd, .flash]) s t ∧ FlashWithin s.storeRange s t := by
  obtain rfl := Host.Outcome.next.inj h
  refine ⟨State.writeRow_bndCtrl fun u => ?_, ?_⟩
  · rw [State.bndCtrlWritten_abort]
    exact u.bondAbort_within.weaken (by decide) (by decide)
  · rw [State.writeRow_eq]
    refine State.busWrite_cases (C := FlashWithin s.storeRange s) (by decide) (.of_eq rfl)
      (fun k => .of_eq ((State.busErr_within p k _ s).2 .flash (by decide)))
      (fun b => .of_eq ((State.cfgErr_withinAt BND_CTRL b s [] []).2 .flash (by decide))) fun v => ?_
    have habort : State.written p BND_CTRL (s.reg BND_CTRL) (word [(0, 3)]) Side.untold (s.setReg BND_CTRL v) =
        (s.setReg BND_CTRL v).bondAbort := State.bndCtrlWritten_abort _
    rw [habort, ← State.storeRange_setReg (a := BND_CTRL) (by decide) v]
    exact (FlashWithin.of_eq (s := s) rfl).trans (State.bondAbort_flashWithin _)

theorem exec_bndData_within {s t : State} {p : Path} {data : Word} (h : exec (.bndData p data) s = .next t) :
    Within (busErrRegs ++ [BND_CFG_ERR_INFO, BND_DATA, BND_ERR, BND_ERR_BYTE, BND_STAT, SEQ_STAT]) (portParts p ++ [.bnd]) s t := by
  obtain rfl := Host.Outcome.next.inj h
  exact State.writeRow_frame (by decide) (by decide) (by decide) fun v =>
    .trans (.setReg (by decide) (.refl s)) ((RelayFrame.bndDataWritten data _).weaken (by decide) (by decide))

theorem exec_bondReceiveTimeout_within {s t : State} (h : exec .bondReceiveTimeout s = .next t) : RelayFrame s t := by
  obtain rfl := Host.Outcome.next.inj h
  exact .ite (RelayFrame.seqRefresh (RelayFrame.abortRelay 0x31 s)) (.refl s)

theorem exec_bondValidationDone_within {s t : State} (h : exec .bondValidationDone s = .next t) : RelayFrame s t := by
  obtain rfl := Host.Outcome.next.inj h
  refine .ite ?_ (.refl s)
  split
  · exact RelayFrame.rejectBond _ s
  · exact .ite (BondFrame.relay (.beginStore (.refl s))) (RelayFrame.parts (.setFld (by decide) (.refl s)))

/-! ### A store done, a bond in effect -/

/-- The registers and parts of a store (R150). -/
abbrev StoreFrame (s t : State) : Prop := Within [BND_ERR, BND_ERR_BYTE, BND_GEN, BND_STAT] [.bnd, .flash] s t

theorem BondFrame.store {σ s t : State} (h : StoreFrame σ s) (k : BondFrame s t) : StoreFrame σ t :=
  h.trans (k.weaken (by decide) (by decide))

theorem StoreFrame.useSlot {σ s : State} {k gen : Nat} (h : StoreFrame σ s) : StoreFrame σ (s.useSlot k gen) := by
  unfold State.useSlot
  extract_lets t
  have ht : StoreFrame σ t := .setFld (by decide) (.setReg (by decide) (.setFld (by decide) h))
  exact .raise (.bnd (by decide) ht)

theorem StoreFrame.sealActive {σ s : State} {k gen : Nat} (h : StoreFrame σ s) : StoreFrame σ (s.sealActive k gen) := by
  unfold State.sealActive
  exact useSlot (.setFld (by decide) (.setFld (by decide) (.flash (by decide) h)))

theorem StoreFrame.sealFails {σ s : State} {k : Nat} (h : StoreFrame σ s) : StoreFrame σ (s.sealFails k) := by
  unfold State.sealFails
  extract_lets r
  have hword : StoreFrame σ (r.2.flashWrite (slotBase k + 0x10010) (leBytes 4 r.1)) := .flash (by decide) (.takeFree (width := 32) h)
  exact BondFrame.store hword (.storeFailed (.refl _))

theorem State.useSlot_flash (k gen : Nat) (s : State) : (s.useSlot k gen).flash = s.flash := by
  unfold State.useSlot
  exact (State.raise_within 19 _).2 .flash (by decide)

theorem State.sealActive_flash (k gen : Nat) (s : State) :
    (s.sealActive k gen).flash = (s.flashWrite (slotBase k + 0x10010) (leBytes 4 0)).flash := by
  unfold State.sealActive
  rw [State.useSlot_flash]
  rfl

theorem State.sealActive_flashWithin {rs : List (Nat × Nat)} {k : Nat} (gen : Nat) {s t : State} {r : Nat × Nat} (hr : r ∈ rs)
    (hlo : r.1 ≤ slotBase k + 0x10010) (hhi : slotBase k + 0x10014 ≤ r.1 + r.2) (h : FlashWithin rs s t) :
    FlashWithin rs s (t.sealActive k gen) := by
  have hword : FlashWithin rs s (t.flashWrite (slotBase k + 0x10010) (leBytes 4 0)) :=
    .flashWrite hr hlo (by rw [length_leBytes]; omega) h
  exact hword.trans (.of_eq (State.sealActive_flash k gen t))

theorem State.sealFails_flashWithin {rs : List (Nat × Nat)} {k : Nat} {s t : State} {r : Nat × Nat} (hr : r ∈ rs)
    (hlo : r.1 ≤ slotBase k + 0x10010) (hhi : slotBase k + 0x10014 ≤ r.1 + r.2) (h : FlashWithin rs s t) :
    FlashWithin rs s (t.sealFails k) := by
  unfold State.sealFails
  extract_lets r
  have hword : FlashWithin rs s (r.2.flashWrite (slotBase k + 0x10010) (leBytes 4 r.1)) :=
    .flashWrite hr hlo (by rw [length_leBytes]; omega) (h.trans (.of_eq rfl))
  exact BondFrame.flashWithin hword (.storeFailed (.refl _))

theorem exec_bondStoreDone_within {s t : State} {flashError : Bool} (h : exec (.bondStoreDone flashError) s = .next t) :
    StoreFrame s t ∧ FlashWithin s.storeRange s t := by
  obtain rfl := Host.Outcome.next.inj h
  split
  · exact ⟨.refl s, .of_eq rfl⟩
  · next b applied hstoring =>
    have hr : (slotBase s.otherSlot, max 0x11000 b.length) ∈ s.storeRange := State.mem_storeRange hstoring
    split
    · exact ⟨.refl s, .of_eq rfl⟩
    · split
      · exact ⟨BondFrame.store (s.storePartly_within.weaken (by decide) (by decide)) (.storeFailed (.refl _)),
          BondFrame.flashWithin s.storePartly_flashWithin (.storeFailed (.refl _))⟩
      · extract_lets k base gen stored bnd done
        have hbase : base = slotBase s.otherSlot := rfl
        have hk : k = s.otherSlot := rfl
        rw [← hbase] at hr
        have hstored : StoreFrame s stored := .flash (by decide) (.flash (by decide) (.flash (by decide) (.refl s)))
        have hdone : StoreFrame s done := .bnd (by decide) hstored
        have hflash : FlashWithin s.storeRange s done :=
          .flashWrite hr (by dsimp only; omega) (by rw [length_sealBytes]; dsimp only; omega) (.flashWrite hr le_rfl (by dsimp only; omega)
            (.flashErase hr le_rfl (by dsimp only; omega) (.of_eq rfl)))
        split
        · exact ⟨BondFrame.store (.sealActive hdone) (.answerDist (.refl _)), BondFrame.flashWithin
            (State.sealActive_flashWithin gen hr (by rw [hk]; dsimp only; omega) (by rw [hk]; dsimp only; omega) hflash) (.answerDist (.refl _))⟩
        · exact ⟨BondFrame.store hdone (.answerDist (.endRequest (.refl _))),
            BondFrame.flashWithin hflash (.answerDist (.endRequest (.refl _)))⟩

end Sys2Proof.Machine
end
section
namespace Sys2Proof.Machine

/-! ### A bond taking effect -/

/-- From `s` to `t` no more changed than a bond laid, its request ended and its slot made active (R153). -/
abbrev EffectFrame (s t : State) : Prop :=
  Within (layRegs ++ [BND_ERR, BND_ERR_BYTE, BND_GEN, BND_STAT]) (layParts ++ [.bnd, .flash]) s t

theorem LayFrame.effect {s t : State} (h : LayFrame s t) : EffectFrame s t := h.weaken (by decide) (by decide)

theorem BondFrame.effect {σ s t : State} (h : EffectFrame σ s) (k : BondFrame s t) : EffectFrame σ t :=
  h.trans (k.weaken (by decide) (by decide))

theorem StoreFrame.effect {σ s t : State} (h : EffectFrame σ s) (k : StoreFrame s t) : EffectFrame σ t :=
  h.trans (k.weaken (by decide) (by decide))

theorem State.otherSlot_congr {s t : State} (hused : t.bnd.slotUsed = s.bnd.slotUsed) (hslot : t.fld BND_STAT_SLOT = s.fld BND_STAT_SLOT) :
    t.otherSlot = s.otherSlot := by
  simp only [State.otherSlot, hused, hslot]

theorem LayFrame.otherSlot {s t : State} (h : LayFrame s t) : t.otherSlot = s.otherSlot := by
  obtain ⟨hreg, hpart⟩ := h
  have hbnd : t.bnd = s.bnd := hpart .bnd (by decide)
  have hstat : t.reg BND_STAT = s.reg BND_STAT := hreg BND_STAT (by decide) (by decide) (by decide)
  exact State.otherSlot_congr (congrArg Bnd.slotUsed hbnd) (by simp only [State.fld, show BND_STAT_SLOT.reg = BND_STAT from rfl, hstat])

/-- What a bond laid keeps of its slots: the slot a store would write, and the flash. -/
theorem State.layBond_effect (bytes : List Byte) (tiles : List Tile) {s : State} (hwf : Registers.wf s.regs = true) :
    EffectFrame s (s.layBond bytes tiles) ∧ (s.layBond bytes tiles).otherSlot = s.otherSlot ∧ (s.layBond bytes tiles).flash = s.flash := by
  obtain ⟨u, hu, hlaid⟩ := LayFrame.layBond bytes tiles hwf
  have htaken : EffectFrame s { u with bnd := { u.bnd with bytes := bytes, tiles := tiles } } := .bnd (by decide) hu.effect
  exact ⟨htaken.trans hlaid.effect, hlaid.otherSlot.trans hu.otherSlot,
    (hlaid.2 .flash (by decide)).trans (hu.2 .flash (by decide))⟩

/-- A request's state as its bond takes effect: Idle, with no slot stored. -/
def State.relayOver (s : State) : State := (s.setFld BND_STAT_STATE bndIdle).setFld BND_STAT_STORED 0

theorem State.relayOver_frame (s : State) : BondFrame s s.relayOver := .setFld (by decide) (.setFld (by decide) (.refl s))

theorem State.relayOver_wf {s : State} (h : Registers.wf s.regs = true) : Registers.wf s.relayOver.regs = true :=
  Registers.wf_setRegs _ _ _ (Registers.wf_setRegs _ _ _ h)

theorem State.relayOver_otherSlot (s : State) : s.relayOver.otherSlot = s.otherSlot :=
  State.otherSlot_congr rfl ((State.fld_setFld_beside _ BND_STAT_STORED BND_STAT_SLOT 0 rfl (by decide) (by decide)).trans
    (State.fld_setFld_beside _ BND_STAT_STATE BND_STAT_SLOT bndIdle rfl (by decide) (by decide)))

theorem exec_bondTakesEffect_within {s t : State} (hwf : Registers.wf s.regs = true) (h : exec .bondTakesEffect s = .next t) :
    EffectFrame s t ∧ FlashWithin [(slotBase s.otherSlot + 0x10010, 4)] s t := by
  obtain rfl := Host.Outcome.next.inj h
  split
  · exact ⟨.refl s, .of_eq rfl⟩
  · next b ts haccepted =>
    split
    swap
    · exact ⟨.refl s, .of_eq rfl⟩
    extract_lets old laid told t r answered
    obtain ⟨hframe, hslot, hflash⟩ := State.layBond_effect b ts (State.relayOver_wf hwf)
    have hover : EffectFrame s s.relayOver := BondFrame.effect (.refl s) s.relayOver_frame
    have hreported : LayFrame laid t := .raise (.sheet (.refl laid))
    have ht : EffectFrame s t := hover.trans (hframe.trans hreported.effect)
    have htSlot : t.otherSlot = s.otherSlot := hreported.otherSlot.trans (hslot.trans s.relayOver_otherSlot)
    have htFlash : FlashWithin [(slotBase s.otherSlot + 0x10010, 4)] s t := .of_eq ((hreported.2 .flash (by decide)).trans hflash)
    have hanswered : BondFrame t t.spendStaging.answerDist := .answerDist (.spendStaging (.refl t))
    split
    · split
      · next e hseal =>
        have hr : BondFrame t r.2 := .takeFree (width := 1) (.refl t)
        have hword : (slotBase s.otherSlot + 0x10010, 4) ∈ [(slotBase s.otherSlot + 0x10010, 4)] := List.mem_singleton_self _
        have hspent : BondFrame t r.2.spendStaging := .spendStaging hr
        rw [htSlot]
        split
        · exact ⟨StoreFrame.effect (BondFrame.effect ht hr) (.sealFails (.refl _)),
            State.sealFails_flashWithin hword le_rfl le_rfl (BondFrame.flashWithin htFlash hr)⟩
        · exact ⟨BondFrame.effect (StoreFrame.effect (BondFrame.effect ht hspent) (.sealActive (.refl _))) (.answerDist (.refl _)),
            BondFrame.flashWithin (State.sealActive_flashWithin e.gen hword le_rfl le_rfl (BondFrame.flashWithin htFlash hspent))
              (.answerDist (.refl _))⟩
      · exact ⟨BondFrame.effect ht hanswered, BondFrame.flashWithin htFlash hanswered⟩
    · split
      · have hstored : BondFrame t (t.spendStaging.answerDist.beginStore b true) := .beginStore hanswered
        exact ⟨BondFrame.effect ht hstored, BondFrame.flashWithin htFlash hstored⟩
      · exact ⟨BondFrame.effect ht hanswered, BondFrame.flashWithin htFlash hanswered⟩

end Sys2Proof.Machine
end
section
namespace Sys2Proof.Machine

/-! ### Frames of the backup domain's commands -/

theorem Within.bkdCode {R : List Nat} {P : List Part} {σ s : State} {code : Nat} (hp : .bkd ∈ P) (h : Within R P σ s) :
    Within R P σ (s.bkdCode code) := .ite (.sheet h) (.bkd hp h)

theorem State.commitWritten_within (code : Nat) (s : State) : Within [RTC_STAT] [.bkd] s (s.commitWritten code) := by
  unfold State.commitWritten
  dsimp only
  split
  · exact .bkd (by decide) (.refl s)
  · split
    · exact .bkd (by decide) (.refl s)
    · exact .flagRaise (by decide) (.bkdCode (by decide) (.ite (.refl s) (.setFld (by decide) (.refl s))))
  · exact .refl s

/-- A write of RTC_CTRL changes no more than its commit does (R92, R93). -/
theorem State.writeRow_rtcCtrl_within (p : Path) (w : Word) (s : State) : Within (busErrRegs ++ [BKD_CFG_ERR_INFO, RTC_CTRL, RTC_STAT])
    (portParts p ++ [.bkd]) s (s.writeRow p (adr RTC_CTRL) w Side.untold) :=
  State.writeRow_frame (by decide) (by decide) (by decide) fun _ =>
    .trans (.setReg (by decide) (.refl s)) ((State.commitWritten_within _ _).weaken (by decide) (by decide))

/-- A write of EVT_STAT changes no more than POP and OVF_CLR do (R104, R105). -/
theorem State.writeRow_evtStat_within (p : Path) (w : Word) (s : State) : Within (busErrRegs ++ [BKD_CFG_ERR_INFO, EVT_STAT, RTC_STAT])
    (portParts p ++ [.bkd]) s (s.writeRow p (adr EVT_STAT) w Side.untold) :=
  State.writeRow_frame (by decide) (by decide) (by decide) fun _ =>
    .onlyIf (fun _ hu => .setFld (by decide) hu) (.onlyIf (fun _ hu => .bkd (by decide) hu) (.setReg (by decide) (.refl s)))

theorem exec_rtcFreezeTimeout_within {s t : State} {p : Path} (h : exec (.rtcFreezeTimeout p) s = .next t) : Within [] [.bkd] s t := by
  obtain rfl := Host.Outcome.next.inj h
  split
  · exact .ite (.raise (.bkd (by decide) (.refl s))) (.refl s)
  · exact .refl s

theorem exec_vbakSample_within {s t : State} {millivolts : Nat} (h : exec (.vbakSample millivolts) s = .next t) :
    Within [RTC_STAT] [.bkd] s t := by
  obtain rfl := Host.Outcome.next.inj h
  refine .ite (.refl s) ?_
  extract_lets sampled r low
  have hsampled : Within [RTC_STAT] [.bkd] s sampled := .bkd (by decide) (.refl s)
  have hr : Within [RTC_STAT] [.bkd] s r.2 := by
    unfold r
    split
    · exact .takeFree (width := 1) hsampled
    · exact hsampled
  exact .ite (.flagRaise (by decide) (.ite hr (.bkdCode (by decide) hr))) hr

theorem exec_evtEdgeAccept_within {s t : State} {input : Nat} {level : Bool} (h : exec (.evtEdgeAccept input level) s = .next t) :
    Within [EVT_STAT] [.bkd] s t := by
  obtain rfl := Host.Outcome.next.inj h
  have hdropped : Within [EVT_STAT] [.bkd] s ((s.bump EVT_STAT_OVF_CNT).bkdCode 0x0E05) :=
    .bkdCode (by decide) (.bump (by decide) (.refl s))
  exact .ite (.ite (.ite (.refl s) (.raise hdropped))
    (.raise (.onlyIf (fun _ hu => .sheet hu) (.bkd (by decide) (.refl s))))) (.refl s)

theorem exec_calOverflow_within {s t : State} (h : exec .calOverflow s = .next t) : Within [RTC_STAT] [] s t := by
  obtain rfl := Host.Outcome.next.inj h
  exact .ite (.flagRaise (by decide) (.refl s)) (.refl s)

theorem State.bakTick_within (set : Option (BitVec 36 × BitVec 15)) (s : State) : Within [] [.bkd, .clk] s (s.bakTick set) := by
  unfold State.bakTick
  extract_lets cal k add n v clk t bkd
  have ht : Within [] [.bkd, .clk] s t := .clk (by decide) (.refl s)
  exact .ite (.bkd (by decide) ht) ht

theorem exec_commitApply_within {s t : State} (h : exec .commitApply s = .next t) : Within [RTC_STAT] [.bkd, .clk] s t := by
  obtain rfl := Host.Outcome.next.inj h
  split
  · exact .refl s
  · next v _ =>
    refine .ite ?_ (.refl s)
    extract_lets before ticked bkd spent ovr shown running
    have hspent : Within [RTC_STAT] [.bkd, .clk] s spent :=
      .bkd (by decide) ((s.bakTick_within (some v)).weaken (by decide) (by decide))
    have hshown : Within [RTC_STAT] [.bkd, .clk] s shown := .ite (.flagRaise (by decide) hspent) (.setFld (by decide) hspent)
    exact .onlyIf (fun _ hu => .sheet hu) (.setFld (by decide) hshown)

theorem exec_oscStopDetect_within {s t : State} (h : exec .oscStopDetect s = .next t) : Within [RTC_STAT] [.bkd] s t := by
  obtain rfl := Host.Outcome.next.inj h
  exact .ite (.flagRaise (by decide) (.ite (.refl s) (.bkdCode (by decide) (.refl s)))) (.refl s)

theorem exec_alarmFire_within {s t : State} (h : exec .alarmFire s = .next t) : Within [RTC_CTRL, RTC_STAT] [.bkd] s t := by
  obtain rfl := Host.Outcome.next.inj h
  have ht : Within [RTC_CTRL, RTC_STAT] [.bkd] s ((s.setFld RTC_CTRL_ALM_EN 0).setFld RTC_STAT_ALM_EV 1) :=
    .setFld (by decide) (.setFld (by decide) (.refl s))
  exact .ite (.ite (.raise ht) (.bkd (by decide) ht)) (.refl s)

/-! #### The backup contents lost (R83, R85) -/

/-- The registers of the backup domain's page. -/
def backupRegs : List Nat := [BKD_CFG_ERR_INFO, EVT_CFG, EVT_HEAD_HI, EVT_HEAD_LO, EVT_STAT, RTC_ALM_HI, RTC_ALM_LO, RTC_CTRL, RTC_DATE,
  RTC_SEC_HI, RTC_SEC_LO, RTC_SET_DATE, RTC_SET_SEC_HI, RTC_SET_SEC_LO, RTC_SET_TIME, RTC_STAT, RTC_TIME, RTC_TRIM]

theorem backupRegs_page : ∀ d ∈ blockRegs 4, ∃ b ∈ backupRegs, regDefOf b = some d := by
  have hall : (blockRegs 4).all (fun d => backupRegs.any (fun b => regDefOf b == some d)) = true := by decide
  intro d hd
  obtain ⟨b, hb, hbd⟩ := List.any_eq_true.mp (List.all_eq_true.mp hall d hd)
  exact ⟨b, hb, beq_iff_eq.mp hbd⟩

/-- Without a field no word of the register is reset. -/
theorem firstWord_of_no_field {a : Nat} (h : fieldsOf a = []) (w : Word) : firstWord a w = w := by
  simp only [firstWord, h, maskOf, List.foldl_nil, BitVec.and_zero, BitVec.or_zero, BitVec.not_zero, BitVec.and_allOnes]

theorem State.bkdReset_within {s : State} (hwf : Registers.wf s.regs = true) : Within backupRegs [.bkd] s s.bkdReset := by
  refine ⟨fun _ _ _ hnamed => reg_of_rewritten (bkdReset_regs s) firstWord_regReset firstWord_of_no_field backupRegs_page
    (fun _ ha => of_decide_eq_true ha) hwf hnamed, fun q hq => ?_⟩
  cases q
  case bkd => exact absurd (by decide) hq
  all_goals simp [Part.same, State.bkdReset]

theorem exec_vbakFirstRise_within {s t : State} (hwf : Registers.wf s.regs = true) (h : exec .vbakFirstRise s = .next t) :
    Within backupRegs [.bkd] s t := by
  obtain rfl := Host.Outcome.next.inj h
  refine .ite (.refl s) ?_
  extract_lets bkd t
  have ht : Within backupRegs [.bkd] s t := .bkd (by decide) (.refl s)
  exact .raise (.raise (ht.trans (State.bkdReset_within (s := t) hwf)))

theorem exec_vbakLoss_within {s t : State} (hwf : Registers.wf s.regs = true) (h : exec .vbakLoss s = .next t) :
    Within backupRegs [.bkd] s t := by
  obtain rfl := Host.Outcome.next.inj h
  exact .ite (.bkd (by decide) (State.bkdReset_within hwf)) (.refl s)

end Sys2Proof.Machine

open Sys2Proof Sys2Proof.Machine

/-- Settles O52: the frame of each command is put together from the frames of the operations it runs. -/
theorem frameBondAndBackup : Obligations.FrameBondAndBackup := by
  unfold Obligations.FrameBondAndBackup
  have hread {s t : State} {p : Path} {a : Nat} (h : Host.Outcome.next (s.readRow p (adr a)) = (.next t : Host.Outcome State Fault Refusal)) :
      Within busErrRegs (portParts p ++ [.bkd, .shadow]) s t := Host.Outcome.next.inj h ▸ State.readRow_within p _ s
  have hcommit {s t : State} {p : Path} {w : Word}
      (h : Host.Outcome.next (s.writeRow p (adr RTC_CTRL) w Side.untold) = (.next t : Host.Outcome State Fault Refusal)) :
      Within (busErrRegs ++ [BKD_CFG_ERR_INFO, RTC_CTRL, RTC_STAT]) (portParts p ++ [.bkd]) s t :=
    Host.Outcome.next.inj h ▸ State.writeRow_rtcCtrl_within p w s
  have hevt {s t : State} {p : Path} {w : Word}
      (h : Host.Outcome.next (s.writeRow p (adr EVT_STAT) w Side.untold) = (.next t : Host.Outcome State Fault Refusal)) :
      Within (busErrRegs ++ [BKD_CFG_ERR_INFO, EVT_STAT, RTC_STAT]) (portParts p ++ [.bkd]) s t :=
    Host.Outcome.next.inj h ▸ State.writeRow_evtStat_within p w s
  refine ⟨?bondStoreCmd, ?bondApply, ?bondAbort, ?bndData, ?bondStoreDone, ?rtcTimeRead, ?rtcFreezeTimeout, ?rtcStatRead, ?commitBinary,
    ?commitCalendar, ?vbakSample, ?evtEdgeAccept, ?evtPop, ?evtOvfClr, ?bondReceiveTimeout, ?bondValidationDone, ?bondTakesEffect,
    ?vbakFirstRise, ?vbakLoss, ?calOverflow, ?commitApply, ?oscStopDetect, ?alarmFire⟩
  case bondStoreCmd => exact fun _ _ _ _ h => exec_bondStoreCmd_within h
  case bondApply => exact fun _ _ _ _ _ h => exec_bondApply_within h
  case bondAbort => exact fun _ _ _ h => exec_bondAbort_within h
  case bndData => exact fun _ _ _ _ h => exec_bndData_within h
  case bondStoreDone => exact fun _ _ _ h => exec_bondStoreDone_within h
  case rtcTimeRead => exact fun _ _ _ _ h => hread h
  case rtcFreezeTimeout => exact fun _ _ _ h => exec_rtcFreezeTimeout_within h
  case rtcStatRead => exact fun _ _ _ h => hread h
  case commitBinary => exact fun _ _ _ _ h => hcommit h
  case commitCalendar => exact fun _ _ _ _ h => hcommit h
  case vbakSample => exact fun _ _ _ h => exec_vbakSample_within h
  case evtEdgeAccept => exact fun _ _ _ _ h => exec_evtEdgeAccept_within h
  case evtPop => exact fun _ _ _ h => hevt h
  case evtOvfClr => exact fun _ _ _ h => hevt h
  case bondReceiveTimeout => exact fun _ _ h => exec_bondReceiveTimeout_within h
  case bondValidationDone => exact fun _ _ h => exec_bondValidationDone_within h
  case bondTakesEffect =>
    intro s t hwf h
    obtain ⟨hframe, hflash⟩ := exec_bondTakesEffect_within hwf h
    exact ⟨hframe.weaken (by decide) (by decide), hflash⟩
  case vbakFirstRise => exact fun _ _ hwf h => exec_vbakFirstRise_within hwf h
  case vbakLoss => exact fun _ _ hwf h => exec_vbakLoss_within hwf h
  case calOverflow => exact fun _ _ h => exec_calOverflow_within h
  case commitApply => exact fun _ _ h => exec_commitApply_within h
  case oscStopDetect => exact fun _ _ h => exec_oscStopDetect_within h
  case alarmFire => exact fun _ _ h => exec_alarmFire_within h

end

section
namespace Sys2Proof.Machine

/-! ### The compensator without upsets -/

/-- A sum within the accumulator's range is not cut (R172). -/
theorem accAdd_of_natAbs_lt {a b : Int} (h : (a + b).natAbs < 2 ^ 47) : accAdd a b = a + b := by
  unfold accAdd clampInt
  rw [if_neg (by omega), if_neg (by omega)]

theorem upset24_nil (p : LaneResult) (x : Int) : upset24 [] p x = x := if_pos rfl

/-- The accumulator as R172 sums it. -/
def accumulated (k : Nat → Int) (b : Brick) (e0 : Int) : Int :=
  accAdd (accAdd (accAdd (accAdd (accAdd (accAdd (accAdd 0 (k 0 * e0)) (k 1 * b.e1)) (k 2 * b.e2)) (k 3 * b.e3))
    (k 4 * b.y1)) (k 5 * b.y2)) (k 6 * b.y3)

/-- Where the products' magnitudes fit together, no partial sum saturates. -/
theorem accumulated_eq_sum {k : Nat → Int} {b : Brick} {e0 : Int}
    (h : (k 0 * e0).natAbs + (k 1 * b.e1).natAbs + (k 2 * b.e2).natAbs + (k 3 * b.e3).natAbs + (k 4 * b.y1).natAbs +
      (k 5 * b.y2).natAbs + (k 6 * b.y3).natAbs < 2 ^ 47) :
    accumulated k b e0 = k 0 * e0 + k 1 * b.e1 + k 2 * b.e2 + k 3 * b.e3 + k 4 * b.y1 + k 5 * b.y2 + k 6 * b.y3 := by
  unfold accumulated
  generalize k 0 * e0 = x0, k 1 * b.e1 = x1, k 2 * b.e2 = x2, k 3 * b.e3 = x3, k 4 * b.y1 = x4, k 5 * b.y2 = x5,
    k 6 * b.y3 = x6 at h ⊢
  rw [accAdd_of_natAbs_lt (a := 0) (by omega), Int.zero_add, accAdd_of_natAbs_lt (a := x0) (by omega),
    accAdd_of_natAbs_lt (a := x0 + x1) (by omega), accAdd_of_natAbs_lt (a := x0 + x1 + x2) (by omega),
    accAdd_of_natAbs_lt (a := x0 + x1 + x2 + x3) (by omega), accAdd_of_natAbs_lt (a := x0 + x1 + x2 + x3 + x4) (by omega),
    accAdd_of_natAbs_lt (a := x0 + x1 + x2 + x3 + x4 + x5) (by omega)]

section
variable (k : Nat → Int) (b : Brick) (e0 ff bst lo hi : Int)

theorem compensate_y0 : (compensate k b [] e0 ff bst lo hi).y0 = sat24 (rnd20 (accumulated k b e0)) := by
  simp [compensate, accumulated, upset24_nil, errAt]

theorem compensate_v : (compensate k b [] e0 ff bst lo hi).v = (compensate k b [] e0 ff bst lo hi).y0 + bst + ff := Int.add_zero _

/-- The command is v held between its limits (R173). -/
theorem compensate_c : (compensate k b [] e0 ff bst lo hi).c = min (max (compensate k b [] e0 ff bst lo hi).v lo) hi :=
  upset24_nil .c _

/-- The histories freeze where v lies beyond a limit and y moves further beyond it (R174). -/
theorem compensate_frozen : (compensate k b [] e0 ff bst lo hi).frozen = true ↔
    hi < (compensate k b [] e0 ff bst lo hi).v ∧ b.y1 < (compensate k b [] e0 ff bst lo hi).y0 ∨
      (compensate k b [] e0 ff bst lo hi).v < lo ∧ (compensate k b [] e0 ff bst lo hi).y0 < b.y1 := by
  rw [compensate]
  simp only [Bool.or_eq_true, Bool.and_eq_true, decide_eq_true_eq]

theorem compensate_hist : (compensate k b [] e0 ff bst lo hi).hist = if (compensate k b [] e0 ff bst lo hi).frozen then b
    else { b with e1 := e0, e2 := b.e1, e3 := b.e2, y1 := (compensate k b [] e0 ff bst lo hi).y0, y2 := b.y1, y3 := b.y2 } := by
  rw [compensate]

end

end Sys2Proof.Machine

open Sys2Proof Sys2Proof.Machine

/-- Settles O26, from the equation of each result: the limits exclude each other since lo ≤ hi, so each clause is one side of R174. -/
theorem compensatorLimits : Obligations.CompensatorLimits := by
  intro k b e0 ff bst lo hi hle
  have hc := compensate_c k b e0 ff bst lo hi
  have hfrozen := compensate_frozen k b e0 ff bst lo hi
  have hhist := compensate_hist k b e0 ff bst lo hi
  refine ⟨by omega, by omega, compensate_v .., fun hlo hhi => ⟨by omega, ?inside⟩, fun h => ?kept, fun h => ?shifted, fun h => ?above,
    fun h => ?below, fun h => ?sum⟩
  case inside => exact Bool.eq_false_iff.mpr fun h => by have := hfrozen.mp h; omega
  case kept => rw [hhist, if_pos h]
  case shifted => rw [hhist, if_neg (by simp [h])]
  case above => rw [hfrozen]; omega
  case below => rw [hfrozen]; omega
  case sum => rw [compensate_y0, accumulated_eq_sum h, rnd20]

end

section
namespace Sys2Proof.Machine

/-! ### Frames of one brick's operations -/

/-- From `s` to `t` no more changed than `WithinAt` says, and of the bricks' hidden state only brick `n`'s. -/
def BrickFrame (n : Nat) (own regs : List Nat) (parts : List Part) (s t : State) : Prop :=
  WithinAt own regs parts s t ∧ BrickAlone n s t

theorem State.brick_setBrick_other {n m : Nat} (h : m ≠ n) (b : Brick) (s : State) : (s.setBrick n b).brick m = s.brick m := by
  simp [State.brick, State.setBrick, List.getD_eq_getElem?_getD, Ne.symm h]

/-- Registers of `own` that the arrays name need not be listed one by one. -/
theorem WithinAt.absorb {own own' regs regs' : List Nat} {parts : List Part} {s t : State} (h : WithinAt own regs parts s t)
    (ho : ∀ a ∈ own, a ∈ own' ∨ named regs' a = true) (hr : regs ⊆ regs') : WithinAt own' regs' parts s t := by
  obtain ⟨hreg, hpart⟩ := h
  refine ⟨fun a hloud hown hnamed => hreg a hloud (fun ha => ?_) ?_, hpart⟩
  · rcases ho a ha with h | h
    · exact hown h
    · rw [hnamed] at h
      cases h
  · by_contra hn
    rw [named_mono hr (by simpa using hn)] at hnamed
    cases hnamed

/-- What a host port tells of its transaction is of its own part. -/
theorem WithinAt.host {own regs : List Nat} {P : List Part} {p : Path} {s t : State} {x : Hst} (h : WithinAt own regs P s t)
    (hx : portParts p = [] → x = t.hst) : WithinAt own regs (portParts p ++ P) s { t with hst := x } :=
  have hport : WithinAt own regs (portParts p) t { t with hst := x } := (WithinAt.refl own regs _ t).hst hx
  (h.mono (List.Subset.refl _) (List.Subset.refl _) (List.subset_append_right _ _)).trans
    (hport.mono (List.Subset.refl _) (List.Subset.refl _) (List.subset_append_left _ _))

namespace Within

variable {R : List Nat} {P : List Part} {σ s : State}

theorem brk (hp : .brk ∈ P) (h : Within R P σ s) {x : List Brick} : Within R P σ { s with brk := x } :=
  h.update .brk hp rfl fun q hq => by cases q <;> simp_all [Part.same]

theorem vcp (hp : .vcp ∈ P) (h : Within R P σ s) {x : Vcp} : Within R P σ { s with vcp := x } :=
  h.update .vcp hp rfl fun q hq => by cases q <;> simp_all [Part.same]

theorem cpm (hp : .cpm ∈ P) (h : Within R P σ s) {x : Cpm} : Within R P σ { s with cpm := x } :=
  h.update .cpm hp rfl fun q hq => by cases q <;> simp_all [Part.same]

theorem pins (hp : .pins ∈ P) (h : Within R P σ s) {x : Pins} : Within R P σ { s with pins := x } :=
  h.update .pins hp rfl fun q hq => by cases q <;> simp_all [Part.same]

theorem seq (hp : .seq ∈ P) (h : Within R P σ s) {x : Seq} : Within R P σ { s with seq := x } :=
  h.update .seq hp rfl fun q hq => by cases q <;> simp_all [Part.same]

end Within

namespace BrickFrame

variable {n : Nat} {own regs : List Nat} {parts : List Part} {σ s t u : State}

theorem refl (s : State) : BrickFrame n own regs parts s s := ⟨.refl _ _ _ s, fun _ _ => rfl⟩

theorem trans (h : BrickFrame n own regs parts s t) (k : BrickFrame n own regs parts t u) : BrickFrame n own regs parts s u :=
  ⟨h.1.trans k.1, fun m hm => (k.2 m hm).trans (h.2 m hm)⟩

theorem mono {own' regs' : List Nat} {parts' : List Part} (ho : own ⊆ own') (hr : regs ⊆ regs') (hp : parts ⊆ parts')
    (h : BrickFrame n own regs parts s t) : BrickFrame n own' regs' parts' s t := ⟨h.1.mono ho hr hp, h.2⟩

/-- What leaves the bricks' hidden state leaves every other brick's. -/
theorem of_withinAt (h : WithinAt own regs parts s t) (hbrk : t.brk = s.brk) : BrickFrame n own regs parts s t :=
  ⟨h, fun m _ => by simp only [State.brick, hbrk]⟩

theorem of_within {regs' : List Nat} {parts' : List Part} (k : Within regs' parts' s t) (hbrk : .brk ∉ parts') (hr : regs' ⊆ regs)
    (hp : parts' ⊆ parts) : BrickFrame n own regs parts s t :=
  of_withinAt (k.mono (List.nil_subset _) hr hp) (k.2 .brk hbrk)

theorem ite {c : Prop} [Decidable c] (hs : BrickFrame n own regs parts σ s) (ht : BrickFrame n own regs parts σ t) :
    BrickFrame n own regs parts σ (if c then s else t) := by
  split
  · exact hs
  · exact ht

theorem onlyIf {b : Bool} {f : State → State} (hf : ∀ u, BrickFrame n own regs parts u (f u)) (h : BrickFrame n own regs parts σ s) :
    BrickFrame n own regs parts σ (onlyIf b f s) := ite (h.trans (hf s)) h

theorem forEach {α : Type} {l : List α} {f : α → State → State}
    (hf : ∀ a ∈ l, ∀ u, BrickFrame n own regs parts u (f a u)) (h : BrickFrame n own regs parts σ s) :
    BrickFrame n own regs parts σ (forEach l f s) := forEach_induction (fun a ha u hu => hu.trans (hf a ha u)) h

theorem setReg {a : Nat} {v : Word} (ha : a ∈ own) (h : BrickFrame n own regs parts σ s) : BrickFrame n own regs parts σ (s.setReg a v) :=
  h.trans (of_withinAt (.setReg_own ha s v) rfl)

theorem setFld {f : Fld} {v : Nat} (hf : f.reg ∈ own) (h : BrickFrame n own regs parts σ s) :
    BrickFrame n own regs parts σ (s.setFld f v) := setReg hf h

theorem setFlag {f : Fld} {b : Bool} (hf : f.reg ∈ own) (h : BrickFrame n own regs parts σ s) :
    BrickFrame n own regs parts σ (s.setFlag f b) := setFld hf h

theorem raise {src : Nat} (h : BrickFrame n own regs parts σ s) : BrickFrame n own regs parts σ (s.raise src) :=
  h.trans (of_within (State.raise_within src s) (by decide) (List.nil_subset _) (List.nil_subset _))

theorem sheet {type : Nat} {payload : List Byte} (h : BrickFrame n own regs parts σ s) :
    BrickFrame n own regs parts σ (s.sheet type payload) :=
  h.trans (of_within (State.sheet_within type payload s) (by decide) (List.nil_subset _) (List.nil_subset _))

theorem takeFree {width : Nat} (h : BrickFrame n own regs parts σ s) : BrickFrame n own regs parts σ (s.takeFree width).2 :=
  h.trans (of_withinAt (.free _ _ _ s _) rfl)

theorem vcp (hp : .vcp ∈ parts) (h : BrickFrame n own regs parts σ s) {x : Vcp} : BrickFrame n own regs parts σ { s with vcp := x } :=
  h.trans (of_withinAt (((Within.refl (R := []) (P := [.vcp]) s).vcp (by decide)).mono (List.nil_subset _) (List.nil_subset _)
    (List.cons_subset.mpr ⟨hp, List.nil_subset _⟩)) rfl)

theorem updBrick {f : Brick → Brick} (hp : .brk ∈ parts) (h : BrickFrame n own regs parts σ s) :
    BrickFrame n own regs parts σ (s.updBrick n f) :=
  h.trans ⟨((Within.refl (R := []) (P := [.brk]) s).brk (by decide)).mono (List.nil_subset _) (List.nil_subset _)
    (List.cons_subset.mpr ⟨hp, List.nil_subset _⟩), fun _ hm => State.brick_setBrick_other hm _ s⟩

end BrickFrame

/-! #### Settling, targets and records -/

theorem State.decideRec_frame (n q state why : Nat) (s : State) :
    BrickFrame n [(recFld n q).reg] [] [.vcp] s (s.decideRec n q state why) := by
  have ht {i : _} : BrickFrame n [(recFld n q).reg] [] [.vcp] s { s.setFld (recFld n q) state with vcp := i } :=
    .vcp (by decide) (.setFld (.head _) (.refl s))
  exact .ite (.raise (.sheet ht)) (.ite (.raise ht) (.ite (.raise ht) ht))

theorem recFld_reg_mem (n q : Nat) : (recFld n q).reg ∈ [VCP_REC_LO n, VCP_REC_HI n] := by
  unfold recFld
  split
  · exact .head _
  · exact .tail _ (.head _)

theorem State.settleDecide_frame (n : Nat) (ok : Bool) (s : State) :
    BrickFrame n [BRK_STAT n, VCP_REC_LO n, VCP_REC_HI n] [] [.brk, .vcp] s (s.settleDecide n ok) := by
  have hdecide (q state why : Nat) (u : State) :
      BrickFrame n [BRK_STAT n, VCP_REC_LO n, VCP_REC_HI n] [] [.brk, .vcp] u (u.decideRec n q state why) :=
    (u.decideRec_frame n q state why).mono (List.cons_subset.mpr ⟨.tail _ (recFld_reg_mem n q), List.nil_subset _⟩)
      (List.Subset.refl _) (by decide)
  have hbrick {f : Brick → Brick} : BrickFrame n [BRK_STAT n, VCP_REC_LO n, VCP_REC_HI n] [] [.brk, .vcp] s (s.updBrick n f) :=
    .updBrick (by decide) (.refl s)
  exact .forEach (fun q _ u => .ite (hdecide _ _ _ u) (hdecide _ _ _ u))
    (.ite (.raise (.setFld (.head _) hbrick)) (.raise (.setFld (.head _) hbrick)))

theorem State.putTarget_frame (n : Nat) (loop : Bool) (target src : Nat) (s : State) :
    BrickFrame n [BRK_STAT n, BRK_TARGET n] [] [.brk] s (s.putTarget n loop target src) := by
  have ht {f : Brick → Brick} : BrickFrame n [BRK_STAT n, BRK_TARGET n] [] [.brk] s
      (((s.setFld (BRK_TARGET_TARGET n) target).setFlag (BRK_TARGET_LOOP n) loop).updBrick n f) :=
    .updBrick (by decide) (.setFlag (.tail _ (.head _)) (.setFld (.tail _ (.head _)) (.refl s)))
  exact .ite (.setFlag (.head _) ht) ht

/-- A session that ends for a reason without a target write leaves the bricks (R364). -/
theorem State.endSession_within {reason : Nat} (h : reason ∉ [1, 2, 3, 8, 11]) (s : State) :
    Within [CPM_CHG_STAT, CPM_CHG_TIME] [.cpm, .pins] s (s.endSession reason) := by
  unfold State.endSession
  refine .ite ?_ (.refl s)
  extract_lets dur t0 shown cpm closed written driven
  have hclosed : Within [CPM_CHG_STAT, CPM_CHG_TIME] [.cpm, .pins] s closed :=
    .cpm (by decide) (.setReg (by decide) (.setFld (by decide) (.setFld (by decide) (.setFld (by decide) (.setFld (by decide) (.refl s))))))
  have hwritten : written = closed := if_neg fun ⟨_, hreason⟩ => h hreason
  have hdriven : Within [CPM_CHG_STAT, CPM_CHG_TIME] [.cpm, .pins] s driven := by
    rw [← hwritten] at hclosed
    exact .ite (.pins (by decide) hclosed) hclosed
  exact .raise (.flagRaise (by decide) (.sheet hdriven))

theorem State.writeTarget_frame (n : Nat) (loop : Bool) (target src : Nat) (s : State) :
    BrickFrame n [BRK_STAT n, BRK_TARGET n] [CPM_CHG_STAT, CPM_CHG_TIME] [.brk, .cpm, .pins] s (s.writeTarget n loop target src) := by
  have hput := (s.putTarget_frame n loop target src).mono (List.Subset.refl _) (List.nil_subset [CPM_CHG_STAT, CPM_CHG_TIME])
    (show [Part.brk] ⊆ [.brk, .cpm, .pins] by decide)
  exact .ite (hput.trans (.of_within (State.endSession_within (by decide) _) (by decide) (List.Subset.refl _) (by decide))) hput

/-! #### Coefficients and limits -/

/-- The registers of a brick that a commit of its coefficients changes (R185). -/
def stagedRegs (n : Nat) : List Nat :=
  [BRK_STAT n, BRK_COMP_BST_THR n, BRK_COMP_CMD_MAX n, BRK_COMP_CMD_MIN n] ++ (List.range 9).map (BRK_COMP n)

/-- The words from the first coefficient to CMD_MAX are those. -/
theorem mem_stagedRegs {n a : Nat} (hlo : BRK_COMP n 0 ≤ a) (hhi : a ≤ BRK_COMP_CMD_MAX n) (h4 : a % 4 = 0) : a ∈ stagedRegs n := by
  have hdefs : BRK_COMP n 0 = 0x100100 + 0x1000 * (n % 16) ∧ BRK_COMP_BST_THR n = 0x100124 + 0x1000 * (n % 16) ∧
      BRK_COMP_CMD_MIN n = 0x100128 + 0x1000 * (n % 16) ∧ BRK_COMP_CMD_MAX n = 0x10012C + 0x1000 * (n % 16) := ⟨rfl, rfl, rfl, rfl⟩
  obtain ⟨hcomp, hthr, hmin, hmax⟩ := hdefs
  by_cases hc : a < BRK_COMP_BST_THR n
  · refine List.mem_append_right _ (List.mem_map.mpr ⟨(a - BRK_COMP n 0) / 4, List.mem_range.mpr (by omega), ?_⟩)
    change 0x100100 + 0x1000 * (n % 16) + 0x4 * ((a - BRK_COMP n 0) / 4 % 9) = a
    omega
  · refine List.mem_append_left _ ?_
    simp only [List.mem_cons, List.not_mem_nil, or_false]
    omega

theorem State.loadStores_frame {own regs : List Nat} (n : Nat) (s : State) : BrickFrame n own regs [.brk] s (s.loadStores n) :=
  .updBrick (by decide) (.refl s)

theorem State.takeLimits_frame {own regs : List Nat} (n : Nat) (s : State) : BrickFrame n own regs [.brk] s (s.takeLimits n) :=
  .ite (.refl s) (.trans (.updBrick (by decide) (.refl s)) (State.loadStores_frame n _))

theorem State.applyStaged_frame (n : Nat) (s : State) : BrickFrame n (stagedRegs n) [] [.brk] s (s.applyStaged n) := by
  unfold State.applyStaged
  extract_lets comp t
  have ht : BrickFrame n (stagedRegs n) [] [.brk] s t := by
    refine .forEach (fun p hp u => .setReg ?_ (.refl u)) (.refl s)
    obtain ⟨-, hcomp⟩ := List.mem_filter.mp hp
    simp only [comp, Bool.and_eq_true, decide_eq_true_eq] at hcomp
    obtain ⟨⟨hlo, hhi⟩, h4⟩ := hcomp
    exact mem_stagedRegs hlo hhi h4
  exact .trans (.setFld (.head _) (.updBrick (by decide) ht)) (State.loadStores_frame n _)

end Sys2Proof.Machine
end

section
namespace Sys2Proof.Machine

/-! ### Frames of the writes of a brick's registers -/

/-- The registers of a brick whose writes are commands: TARGET, CTRL and LANE_CTRL, by their offset. -/
def commandRegs (n : Nat) : List (Nat × Nat) := [(BRK_TARGET n, 0x18), (BRK_CTRL n, 0x38), (BRK_LANE_CTRL n, 0x2F0)]

theorem commandRegs_place : ∀ n < 16, ∀ r ∈ commandRegs n, r.1 / 0x10000 = 0x10 ∧ r.1 / 0x1000 % 16 = n ∧ r.1 % 0x1000 = r.2 ∧
    (adr r.1).toNat = r.1 ∧ windowOf r.1 = some .regs ∧ r.1 ≠ JNL_RD_SLOT := by decide

theorem commandRegs_cfgErr : ∀ n < 16, ∀ r ∈ commandRegs n, (cfgErrOf r.1).1.reg = BRK_STAT n ∧ (cfgErrOf r.1).2.1 = BRK_CFG_ERR_INFO n := by
  decide

theorem BrickFrame.cfgErr {n : Nat} {own regs : List Nat} {parts : List Part} {σ s : State} {r : Nat × Nat} {b : Nat} (hn : n < 16)
    (hr : r ∈ commandRegs n) (hstat : BRK_STAT n ∈ own) (hinfo : BRK_CFG_ERR_INFO n ∈ own) (h : BrickFrame n own regs parts σ s) :
    BrickFrame n own regs parts σ (s.cfgErr r.1 b) := by
  obtain ⟨hflag, hrec⟩ := commandRegs_cfgErr n hn r hr
  have hown : [(cfgErrOf r.1).1.reg, (cfgErrOf r.1).2.1] ⊆ own := by simp [hflag, hrec, hstat, hinfo]
  have hcfg := State.cfgErr_withinAt r.1 b s regs []
  exact h.trans (.of_withinAt (hcfg.mono hown (List.Subset.refl _) (List.nil_subset _)) (hcfg.2 .brk (by decide)))

/-- A write of such a register: a bus error, its brick's CFG_ERR, or what the brick makes of the written word. -/
theorem State.writeRow_brick {n : Nat} {own regs : List Nat} {P : List Part} {p : Path} {r : Nat × Nat} {w : Word} {side : Side} {s : State}
    (hn : n < 16) (hr : r ∈ commandRegs n) (hbus : busErrRegs ⊆ regs) (hstat : BRK_STAT n ∈ own) (hinfo : BRK_CFG_ERR_INFO n ∈ own)
    (hacc : ∀ v, BrickFrame n own regs P s ((if Machine.ownStore r.1 then s else s.setReg r.1 v).brkWritten p r.1 w)) :
    BrickFrame n own regs (portParts p ++ P) s (s.writeRow p (adr r.1) w side) := by
  obtain ⟨hpage, -, -, hadr, hwin, hslot⟩ := commandRegs_place n hn r hr
  have hreg : BrickFrame n own regs P s (s.regWrite p r.1 w side) := by
    unfold State.regWrite
    simp only [if_neg hslot]
    refine .ite (.refl s) (.ite (.refl s) ?_)
    split
    · exact .cfgErr hn hr hstat hinfo (.refl s)
    · simpa only [State.written, hpage] using hacc _
  have hwrite : BrickFrame n own regs P s (s.busWrite p (adr r.1) w side) := by
    unfold State.busWrite
    simp only [hadr, hwin]
    refine .ite (.refl s) ?_
    split
    · exact .of_within (State.busErr_within p _ _ s) (by decide) hbus (List.nil_subset _)
    · exact hreg
  rw [State.writeRow_eq]
  exact ⟨hwrite.1.host fun hport => congrArg State.hst (State.writeRow_of_portParts hport _ w side s), hwrite.2⟩

theorem State.brkWritten_target {n : Nat} (hn : n < 16) (p : Path) (w : Word) (s : State) :
    s.brkWritten p (BRK_TARGET n) w = s.writeTarget n (w.getLsbD 16) (bitsOf w.toNat 0 16) (targetSrc p) := by
  obtain ⟨-, hbrick, hofs, -⟩ := commandRegs_place n hn _ (.head _)
  simp only [State.brkWritten, hbrick, hofs, if_true]

theorem State.brkWritten_ctrl {n : Nat} (hn : n < 16) (p : Path) (w : Word) (s : State) : s.brkWritten p (BRK_CTRL n) w =
    onlyIf (w.getLsbD 0) (State.commitCoefs n) (onlyIf (w.getLsbD 1) (State.brkCntClr n) s) := by
  obtain ⟨-, hbrick, hofs, -⟩ := commandRegs_place n hn _ (.tail _ (.head _))
  simp [State.brkWritten, hbrick, hofs]

theorem State.brkWritten_laneCtrl {n : Nat} (hn : n < 16) (p : Path) (w : Word) (s : State) : s.brkWritten p (BRK_LANE_CTRL n) w =
    onlyIf (w.getLsbD 0) (State.lcntClr n) (onlyIf (w.getLsbD 1) (State.retryRst n) s) := by
  obtain ⟨-, hbrick, hofs, -⟩ := commandRegs_place n hn _ (.tail _ (.tail _ (.head _)))
  simp [State.brkWritten, hbrick, hofs]

theorem ownStore_target : ∀ n < 16, ownStore (BRK_TARGET n) = true := by decide
theorem ownStore_ctrl : ∀ n < 16, ownStore (BRK_CTRL n) = false ∧ ownStore (BRK_LANE_CTRL n) = false := by decide

theorem State.commitCoefs_frame {n : Nat} (hn : n < 16) (s : State) :
    BrickFrame n (BRK_CFG_ERR_INFO n :: stagedRegs n) [] [.brk] s (s.commitCoefs n) := by
  have haddr : 0x100038 + 0x1000 * n = BRK_CTRL n := by unfold BRK_CTRL; omega
  unfold State.commitCoefs
  rw [haddr]
  exact .ite (.cfgErr (r := (BRK_CTRL n, 0x38)) hn (.tail _ (.head _)) (.tail _ (.head _)) (.head _) (.refl s))
    (.ite (.updBrick (by decide) (.refl s)) ((s.applyStaged_frame n).mono (List.subset_cons_self _ _) (List.Subset.refl _) (by decide)))

end Sys2Proof.Machine
end

section
namespace Sys2Proof.Machine

/-! ### Frames of a brick's commands -/

theorem exec_settleTimeout_frame {s t : State} {n : Nat} (h : exec (.settleTimeout n) s = .next t) :
    BrickFrame n [BRK_STAT n, VCP_REC_LO n, VCP_REC_HI n] [] [.brk, .vcp] s t ∧ (t ≠ s → n < 16) := by
  obtain rfl := Host.Outcome.next.inj h
  split
  · next hdue =>
    simp only [Bool.and_eq_true, decide_eq_true_eq] at hdue
    exact ⟨s.settleDecide_frame n false, fun _ => hdue.1.1.1⟩
  · exact ⟨.refl s, fun hne => absurd rfl hne⟩

theorem exec_brkTargetWrite_frame {s t : State} {p : Path} {n : Nat} {w : Word} (h : exec (.brkTargetWrite p n w) s = .next t) :
    BrickFrame n [BRK_CFG_ERR_INFO n, BRK_STAT n, BRK_TARGET n] (busErrRegs ++ [CPM_CHG_STAT, CPM_CHG_TIME])
      (portParts p ++ [.brk, .cpm, .pins]) s t := by
  obtain rfl := Host.Outcome.next.inj h
  split
  · next hn =>
    refine State.writeRow_brick (r := (BRK_TARGET n, 0x18)) hn (.head _) (List.subset_append_left _ _) (.tail _ (.head _)) (.head _) fun v => ?_
    rw [if_pos (ownStore_target n hn), State.brkWritten_target hn]
    exact (s.writeTarget_frame n _ _ _).mono (List.subset_cons_self _ _) (List.subset_append_right _ _) (List.Subset.refl _)
  · exact .refl s

theorem exec_coefCommit_frame {s t : State} {p : Path} {n : Nat} (h : exec (.coefCommit p n) s = .next t) :
    BrickFrame n (BRK_CTRL n :: BRK_CFG_ERR_INFO n :: stagedRegs n) busErrRegs (portParts p ++ [.brk]) s t := by
  obtain rfl := Host.Outcome.next.inj h
  split
  · next hn =>
    refine State.writeRow_brick (r := (BRK_CTRL n, 0x38)) hn (.tail _ (.head _)) (List.Subset.refl _) (.tail _ (.tail _ (.head _)))
      (.tail _ (.head _)) fun v => ?_
    rw [if_neg (by simp [ownStore_ctrl n hn]), State.brkWritten_ctrl hn]
    exact .trans (.setReg (.head _) (.refl s))
      ((State.commitCoefs_frame hn _).mono (List.subset_cons_self _ _) (List.nil_subset _) (List.Subset.refl _))
  · exact .refl s

theorem exec_brkCntClr_frame {s t : State} {p : Path} {n : Nat} (h : exec (.brkCntClr p n) s = .next t) :
    BrickFrame n [BRK_CFG_ERR_INFO n, BRK_CNT n, BRK_CTRL n, BRK_STAT n] busErrRegs (portParts p ++ []) s t := by
  obtain rfl := Host.Outcome.next.inj h
  split
  · next hn =>
    refine State.writeRow_brick (r := (BRK_CTRL n, 0x38)) hn (.tail _ (.head _)) (List.Subset.refl _) (by simp) (.head _) fun v => ?_
    rw [if_neg (by simp [ownStore_ctrl n hn]), State.brkWritten_ctrl hn]
    exact .setReg (.tail _ (.head _)) (.setReg (by simp) (.refl s))
  · exact .refl s

theorem exec_retryRst_frame {s t : State} {p : Path} {n : Nat} (h : exec (.retryRst p n) s = .next t) :
    BrickFrame n [BRK_CFG_ERR_INFO n, BRK_LANE_CTRL n, BRK_LIM_STAT n, BRK_STAT n] busErrRegs (portParts p ++ []) s t := by
  obtain rfl := Host.Outcome.next.inj h
  split
  · next hn =>
    refine State.writeRow_brick (r := (BRK_LANE_CTRL n, 0x2F0)) hn (.tail _ (.tail _ (.head _))) (List.Subset.refl _) (by simp) (.head _)
      fun v => ?_
    rw [if_neg (by simp [ownStore_ctrl n hn]), State.brkWritten_laneCtrl hn]
    exact .setFld (.tail _ (.tail _ (.head _))) (.setReg (.tail _ (.head _)) (.refl s))
  · exact .refl s

theorem exec_lcntClr_frame {s t : State} {p : Path} {n : Nat} (h : exec (.lcntClr p n) s = .next t) :
    BrickFrame n [BRK_CFG_ERR_INFO n, BRK_HOLD n, BRK_LANE_A_CNT n, BRK_LANE_B_CNT n, BRK_LANE_CTRL n, BRK_STAT n] busErrRegs
      (portParts p ++ []) s t := by
  obtain rfl := Host.Outcome.next.inj h
  split
  · next hn =>
    refine State.writeRow_brick (r := (BRK_LANE_CTRL n, 0x2F0)) hn (.tail _ (.tail _ (.head _))) (List.Subset.refl _) (by simp) (.head _)
      fun v => ?_
    rw [if_neg (by simp [ownStore_ctrl n hn]), State.brkWritten_laneCtrl hn]
    exact .setReg (by simp) (.setReg (by simp) (.setReg (by simp) (.setReg (by simp) (.refl s))))
  · exact .refl s

theorem laneFld_reg (n : Nat) (l : Lane) : (laneFld n l).reg = BRK_LANE_STAT n := by cases l <;> rfl

theorem State.toFullTest_frame (n : Nat) (l : Lane) (s : State) : BrickFrame n [BRK_LANE_STAT n] [] [.brk] s (s.toFullTest n l) :=
  .updBrick (by decide) (.setFld (.head _) (.setFld (.head _) (.setFld (by simp [laneFld_reg]) (.refl s))))

theorem exec_laneRejoin_frame {s t : State} {n : Nat} (h : exec (.laneRejoin n) s = .next t) :
    BrickFrame n [BRK_LANE_STAT n] [] [.brk] s t := by
  obtain rfl := Host.Outcome.next.inj h
  split
  · next l hl =>
    refine .ite ?_ (.refl s)
    extract_lets t u
    have ht : BrickFrame n [BRK_LANE_STAT n] [] [.brk] s t :=
      .updBrick (by decide) (.setFld (by simp [laneFld_reg]) (.refl s))
    have hu : BrickFrame n [BRK_LANE_STAT n] [] [.brk] s u := .setFld (.head _) (.setFld (.head _) ht)
    refine .ite ?_ ht
    split
    · exact .updBrick (by decide) (hu.trans (State.toFullTest_frame n _ _))
    · exact hu
  · exact .refl s

theorem exec_running1sExpiry_frame {s t : State} {n : Nat} (h : exec (.running1sExpiry n) s = .next t) :
    BrickFrame n [BRK_LIM_STAT n] [] [.brk] s t := by
  obtain rfl := Host.Outcome.next.inj h
  exact .ite (.updBrick (by decide) (.setFld (.head _) (.refl s))) (.refl s)

/-! ### The frame of a retry -/

/-- The registers that a retry of a short in soft start changes (R213, R248, R256). -/
def retryRegs : List Nat := [BRK_COMP 0 0, BRK_COMP_BST_THR 0, BRK_COMP_CMD_MAX 0, BRK_COMP_CMD_MIN 0, BRK_LIM_STAT 0, BRK_STAT 0,
  SEQ_EV, SEQ_FAULT, SEQ_STAT]

/-- From `s` to `t` no more changed than a retry may. -/
abbrev RetryFrame (s t : State) : Prop := Within retryRegs [.brk, .pins, .seq] s t

theorem named_retry : ∀ n < 16, ∀ a ∈ BRK_LIM_STAT n :: stagedRegs n, named retryRegs a = true := by decide

theorem BrickFrame.retry {n : Nat} {σ s t : State} (hn : n < 16) (h : RetryFrame σ s)
    (k : BrickFrame n (BRK_LIM_STAT n :: stagedRegs n) [] [.brk] s t) : RetryFrame σ t :=
  h.trans ((k.1.absorb (own' := []) (fun a ha => .inr (named_retry n hn a ha)) (List.nil_subset _)).mono (List.nil_subset _)
    (List.Subset.refl _) (by decide))

theorem State.setBrkState_frame {own regs : List Nat} {parts : List Part} {n st : Nat} (h : BRK_STAT n ∈ own) (s : State) :
    BrickFrame n own regs parts s (s.setBrkState n st) := .ite (.refl s) (.raise (.setFld h (.refl s)))

theorem State.unhalt_frame (n : Nat) (s : State) : BrickFrame n (stagedRegs n) [] [.brk] s (s.unhalt n) :=
  .trans (.onlyIf (fun u => u.applyStaged_frame n) (.setFld (.head _) (State.setBrkState_frame (.head _) s))) (State.takeLimits_frame n _)

theorem State.clearFault_within (s : State) : RetryFrame s s.clearFault := by
  unfold State.clearFault
  extract_lets t pins seq u cleared
  have hpins : RetryFrame s { t with pins := u.pins } := .pins (by decide) (.setFld (by decide) (.refl s))
  have hu : RetryFrame s u := .seq (by decide) hpins
  have hcleared : RetryFrame s cleared := forEach_induction (fun n hn v hv => BrickFrame.retry (List.mem_range.mp hn) hv
    (.onlyIf (fun w => (w.unhalt_frame n).mono (List.subset_cons_self _ _) (List.Subset.refl _) (by decide))
      (.updBrick (by decide) (.setFld (.head _) (.setFld (.head _) (.refl v)))))) hu
  exact .raise hcleared

theorem State.passMarks_within (l : List Action) (s : State) : RetryFrame s (State.passMarks l s) := by
  induction l generalizing s with
  | nil => exact .seq (by decide) (.refl s)
  | cons a r ih => exact .ite ((Within.ite (.refl s) (.setFld (by decide) (.refl s))).trans (ih _)) (.seq (by decide) (.refl s))

theorem State.endRun_within (s : State) : RetryFrame s s.endRun := by
  unfold State.endRun
  extract_lets idle
  have hidle (u : State) (hu : RetryFrame s u) : RetryFrame s (idle u) := .seqRefresh (by decide) (.seq (by decide) hu)
  split
  · exact .refl s
  · exact .ite (.raise (hidle _ (.pins (by decide) (.refl s)))) (.refl s)
  · exact .setFld (by decide) (hidle _ (.pins (by decide) (.refl s)))
  · exact .send (.setFld (by decide) (hidle _ (.refl s)))
  · exact .send (.flagRaise (by decide) (.setFld (by decide) (hidle _ (.seq (by decide) (.refl s)))))

theorem State.settleStep_within (s : State) : RetryFrame s s.settleStep := by
  unfold State.settleStep
  extract_lets t
  have ht : RetryFrame s t := (State.passMarks_within _ s).trans (.ite (.pins (by decide) (.refl _)) (.refl _))
  exact .ite (ht.trans (State.endRun_within t)) ht

theorem State.requestRejoin_within (s : State) : RetryFrame s s.requestRejoin := by
  unfold State.requestRejoin
  extract_lets c seq t
  have ht : RetryFrame s t := .seq (by decide) (.refl s)
  have hrun : RetryFrame s ((t.reportRejoin 3).beginRun .rejoin (s.rejoinActions c) 4) :=
    .setFld (by decide) (.seq (by decide) (.send ht))
  exact .ite (hrun.trans (State.settleStep_within _)) (.flagRaise (by decide) (.setFld (by decide) (.refl s)))

theorem exec_retryTimerExpiry_within {s t : State} {blocked : Bool} (h : exec (.retryTimerExpiry blocked) s = .next t) :
    RetryFrame s t := by
  obtain rfl := Host.Outcome.next.inj h
  refine .ite ?_ (.refl s)
  extract_lets seq off t
  have hoff : RetryFrame s off := .seq (by decide) (.refl s)
  have ht : RetryFrame s t := forEach_induction (fun n hn u hu => BrickFrame.retry (List.mem_range.mp hn) hu
    (.ite (.setFld (.head _) (.refl u)) (.refl u))) hoff
  exact .ite ((ht.trans (State.clearFault_within t)).trans (State.requestRejoin_within _)) hoff

end Sys2Proof.Machine
end

section
namespace Sys2Proof.Machine

/-! ### Frames of the setpoint port -/

/-- The registers of brick `n` and of its group that a frame for the group changes (R223 to R227). -/
def groupRegs (n : Nat) : List Nat := [BRK_SLEW n, BRK_STAT n, BRK_TARGET n, VCP_GRP n, VCP_REC_LO n, VCP_REC_HI n]

/-- The port's own registers that a command frame changes, with what a charge session that ends shows (R364). -/
def frameRegs : List Nat := [CPM_CHG_STAT, CPM_CHG_TIME, VCP_ANS_CNT, VCP_LAST_HI, VCP_LAST_LO, VCP_STAT]

def frameParts : List Part := [.brk, .cpm, .pins, .vcp]

/-- From `s` to `t` no more changed than a command frame for the group of brick `n` may. -/
abbrev GroupFrame (n : Nat) (s t : State) : Prop := BrickFrame n (groupRegs n) frameRegs frameParts s t

/-- What changes no more than the port's own registers. -/
theorem BrickFrame.step {n : Nat} {own regs : List Nat} {parts : List Part} {σ s t : State} (k : Within regs [] s t)
    (h : BrickFrame n own regs parts σ s) : BrickFrame n own regs parts σ t :=
  h.trans (.of_within k (by decide) (List.Subset.refl _) (List.nil_subset _))

theorem State.vcpAnswer_frame (n cmd seq ans data : Nat) (s : State) :
    BrickFrame n [VCP_GRP n] [VCP_ANS_CNT, VCP_STAT] [.vcp] s (s.vcpAnswer n cmd seq ans data) := by
  unfold State.vcpAnswer
  extract_lets vcp t u counted
  have ht : BrickFrame n [VCP_GRP n] [VCP_ANS_CNT, VCP_STAT] [.vcp] s t := .vcp (by decide) (.vcp (by decide) (.refl s))
  have hu : BrickFrame n [VCP_GRP n] [VCP_ANS_CNT, VCP_STAT] [.vcp] s u := .setFld (.head _) (.setFld (.head _) (.setFld (.head _) ht))
  have hcounted : BrickFrame n [VCP_GRP n] [VCP_ANS_CNT, VCP_STAT] [.vcp] s counted := .step (.bump (by decide) (.refl u)) hu
  exact .ite (.ite hcounted (.raise hcounted)) (.ite (.step (.flagRaise (by decide) (.bump (by decide) (.refl u))) hu) hu)

theorem State.vcpAnswer_group (n cmd seq ans data : Nat) (s : State) : GroupFrame n s (s.vcpAnswer n cmd seq ans data) :=
  (s.vcpAnswer_frame n cmd seq ans data).mono (by simp [groupRegs]) (by decide) (by decide)

theorem State.putRec_group (n q state : Nat) (target : Int) (s : State) : GroupFrame n s (s.putRec n q state target) :=
  .vcp (by decide) (.setFld (.tail _ (.tail _ (.tail _ (.tail _ (recFld_reg_mem n q))))) (.refl s))

theorem State.vcpSet_group (n cmd seq value : Nat) (s : State) : GroupFrame n s (s.vcpSet n cmd seq value) := by
  have hanswer (ans data : Nat) (u : State) : GroupFrame n u (u.vcpAnswer n cmd seq ans data) := u.vcpAnswer_group n cmd seq ans data
  have hwrite (loop : Bool) (target : Nat) : GroupFrame n s (s.writeTarget n loop target 1) :=
    (s.writeTarget_frame n loop target 1).mono (by simp [groupRegs]) (by decide) (by decide)
  exact .ite (hanswer _ _ s) (.ite (hanswer _ _ s) (.ite (hanswer _ _ s)
    (.trans (.vcp (by decide) ((hwrite _ _).trans (State.putRec_group n seq _ _ _))) (hanswer _ _ _))))

theorem State.vcpSlew_group (n seq value : Nat) (s : State) : GroupFrame n s (s.vcpSlew n seq value) :=
  .ite (s.vcpAnswer_group ..) (.ite (s.vcpAnswer_group ..) (.trans (.setFld (.head _) (.refl s)) (State.vcpAnswer_group ..)))

theorem State.vcpPoll_group (n seq value : Nat) (s : State) : GroupFrame n s (s.vcpPoll n seq value) :=
  .ite (s.vcpAnswer_group ..) (s.vcpAnswer_group ..)

theorem State.vcpRead_group (n seq value : Nat) (s : State) : GroupFrame n s (s.vcpRead n seq value) := by
  unfold State.vcpRead
  dsimp only
  split
  · exact s.vcpAnswer_group ..
  · exact s.vcpAnswer_group ..

theorem State.groupOwner_lt {s : State} {group n : Nat} (h : s.groupOwner group = some n) : n < 16 := by
  unfold State.groupOwner at h
  split at h
  · cases h
  · exact List.mem_range.mp (List.mem_of_find?_eq_some h)

/-- A command frame changes what a frame for its group may, or, for a group without an owner, the port's own part alone. -/
theorem State.vcpFrame_cases (cmd group seq value : Nat) (cut : Bool) (s : State) :
    Within [] [.vcp] s (s.vcpFrame cmd group seq value cut) ∨
      ∃ n, s.groupOwner group = some n ∧ GroupFrame n s (s.vcpFrame cmd group seq value cut) := by
  have hbegin : Within [] [.vcp] s s.beginAnswer := .vcp (by decide) (.takeFree (width := 64) (.refl s))
  have howner : s.beginAnswer.groupOwner group = s.groupOwner group := rfl
  simp only [State.vcpFrame, howner]
  split
  swap
  · exact .inl (.vcp (by decide) (.refl s))
  cases hgroup : s.groupOwner group with
  | none => exact .inl (.ite (.vcp (by decide) (.takeFree (width := 12) hbegin)) hbegin)
  | some n =>
    refine .inr ⟨n, rfl, ?_⟩
    have hlast (lo hi : Word) : GroupFrame n s ((s.beginAnswer.setReg VCP_LAST_LO lo).setReg VCP_LAST_HI hi) :=
      .step (.setReg (by decide) (.setReg (by decide) (.refl s.beginAnswer))) (.vcp (by decide) (.takeFree (width := 64) (.refl s)))
    have hcut (u : State) (hu : GroupFrame n s u) : GroupFrame n s (if cut = true then u.cutAnswer else u) :=
      .ite (.vcp (by decide) (.takeFree (width := 12) hu)) hu
    refine hcut _ ?_
    dsimp only
    split
    · exact (hlast _ _).trans (State.vcpSet_group ..)
    · exact (hlast _ _).trans (State.vcpSet_group ..)
    · exact (hlast _ _).trans (State.vcpSlew_group ..)
    · exact (hlast _ _).trans (State.vcpPoll_group ..)
    · exact (hlast _ _).trans (State.vcpRead_group ..)
    · exact (hlast _ _).trans (State.vcpAnswer_group ..)

/-- The registers a command frame may change, each brick's array by its first. -/
def portRegs : List Nat := [BRK_SLEW 0, BRK_STAT 0, BRK_TARGET 0, CPM_CHG_STAT, CPM_CHG_TIME, VCP_ANS_CNT, VCP_GRP 0, VCP_LAST_HI,
  VCP_LAST_LO, VCP_REC_HI 0, VCP_REC_LO 0, VCP_STAT]

/-- What a command frame for a group leaves of brick `m`. -/
def GroupKept (m : Nat) (s t : State) : Prop :=
  t.reg (BRK_TARGET m) = s.reg (BRK_TARGET m) ∧ t.reg (BRK_SLEW m) = s.reg (BRK_SLEW m) ∧
    t.reg (VCP_REC_LO m) = s.reg (VCP_REC_LO m) ∧ t.reg (VCP_REC_HI m) = s.reg (VCP_REC_HI m) ∧ t.brick m = s.brick m

theorem named_port : ∀ n < 16, ∀ a ∈ groupRegs n, named portRegs a = true := by decide

theorem keptRegs_quiet : ∀ m < 16, ∀ a ∈ [BRK_TARGET m, BRK_SLEW m, VCP_REC_LO m, VCP_REC_HI m],
    loud a = false ∧ named frameRegs a = false := by decide

theorem keptRegs_other : ∀ n < 16, ∀ m < 16, m ≠ n → ∀ a ∈ [BRK_TARGET m, BRK_SLEW m, VCP_REC_LO m, VCP_REC_HI m],
    a ∉ groupRegs n := by decide

theorem GroupFrame.kept {n m : Nat} {s t : State} (hn : n < 16) (hm : m < 16) (hne : m ≠ n) (h : GroupFrame n s t) : GroupKept m s t := by
  obtain ⟨⟨hreg, -⟩, hbrick⟩ := h
  have hkept (a : Nat) (ha : a ∈ [BRK_TARGET m, BRK_SLEW m, VCP_REC_LO m, VCP_REC_HI m]) : t.reg a = s.reg a := by
    obtain ⟨hloud, hnamed⟩ := keptRegs_quiet m hm a ha
    exact hreg a hloud (keptRegs_other n hn m hm hne a ha) hnamed
  exact ⟨hkept _ (by simp), hkept _ (by simp), hkept _ (by simp), hkept _ (by simp), hbrick m hne⟩

theorem State.vcpFrame_kept (cmd group seq value : Nat) (cut : Bool) (s : State) :
    Within portRegs frameParts s (s.vcpFrame cmd group seq value cut) ∧
      ∀ m, m < 16 → s.groupOwner group ≠ some m → GroupKept m s (s.vcpFrame cmd group seq value cut) := by
  rcases s.vcpFrame_cases cmd group seq value cut with h | ⟨n, hn, h⟩
  · refine ⟨h.weaken (List.nil_subset _) (by decide), fun m hm _ => ?_⟩
    have hreg (a : Nat) (ha : a ∈ [BRK_TARGET m, BRK_SLEW m, VCP_REC_LO m, VCP_REC_HI m]) := h.1 a (keptRegs_quiet m hm a ha).1 (by simp) rfl
    have hbrk : (s.vcpFrame cmd group seq value cut).brk = s.brk := h.2 .brk (by decide)
    exact ⟨hreg _ (by simp), hreg _ (by simp), hreg _ (by simp), hreg _ (by simp), by simp only [State.brick, hbrk]⟩
  · have hlt := State.groupOwner_lt hn
    refine ⟨h.1.absorb (fun a ha => .inr (named_port n hlt a ha)) (by decide), fun m hm hne => GroupFrame.kept hlt hm ?_ h⟩
    rintro rfl
    exact hne hn

/-! #### Frame errors, and the port's own commands -/

theorem State.vcpErrors_within (frame : Bool) (s : State) : Within [] [.vcp] s (s.vcpErrors frame) :=
  .ite (.vcp (by decide) (.sheet (.refl s))) (.vcp (by decide) (.refl s))

/-- A frame that is counted as an error. -/
theorem State.vcpErrors_counted {s u : State} {cnt ev : Fld} {src : Nat} {frame : Bool} (hcnt : cnt.reg = VCP_ERR_CNT) (hev : ev.reg = VCP_STAT)
    (h : Within [] [.vcp] s u) : Within [VCP_ERR_CNT, VCP_STAT] [.vcp] s (((u.bump cnt).flagRaise ev src).vcpErrors frame) := by
  have hu : Within [VCP_ERR_CNT, VCP_STAT] [.vcp] s ((u.bump cnt).flagRaise ev src) :=
    .flagRaise (by rw [hev]; decide) (.bump (by rw [hcnt]; decide) (h.weaken (List.nil_subset _) (List.Subset.refl _)))
  exact hu.trans ((State.vcpErrors_within frame _).weaken (List.nil_subset _) (List.Subset.refl _))

theorem exec_vcpShortFrame_within {s t : State} (h : exec .vcpShortFrame s = .next t) : Within [VCP_ERR_CNT, VCP_STAT] [.vcp] s t := by
  obtain rfl := Host.Outcome.next.inj h
  exact .ite (State.vcpErrors_counted rfl rfl (.vcp (by decide) (.refl s))) (.vcp (by decide) (.refl s))

theorem exec_vcpCrcFail_within {s t : State} (h : exec .vcpCrcFail s = .next t) : Within [VCP_ERR_CNT, VCP_STAT] [.vcp] s t := by
  obtain rfl := Host.Outcome.next.inj h
  exact .ite (State.vcpErrors_counted rfl rfl (.vcp (by decide) (.takeFree (width := 64) (.refl s)))) (.vcp (by decide) (.refl s))

theorem named_records (n : Nat) : named [VCP_REC_HI 0, VCP_REC_LO 0] (VCP_REC_LO n) = true ∧
    named [VCP_REC_HI 0, VCP_REC_LO 0] (VCP_REC_HI n) = true :=
  ⟨named_mono (by decide) (named_VCP_REC_LO n), named_mono (by decide) (named_VCP_REC_HI n)⟩

theorem State.clearRecords_within (s : State) : Within [VCP_REC_HI 0, VCP_REC_LO 0] [.vcp] s s.clearRecords :=
  .vcp (by decide) (.forEach (fun n _ hu => .setReg (named_records n).2 (.setReg (named_records n).1 hu)) (.refl s))

theorem exec_vcpRecClr_within {s t : State} {p : Path} (h : exec (.vcpRecClr p) s = .next t) :
    Within (busErrRegs ++ [VCP_CFG_ERR_INFO, VCP_CTRL, VCP_REC_HI 0, VCP_REC_LO 0, VCP_STAT]) (portParts p ++ [.vcp]) s t := by
  obtain rfl := Host.Outcome.next.inj h
  exact State.writeRow_frame (by decide) (by decide) (by decide) fun _ =>
    .trans (.setReg (by decide) (.refl s)) ((State.clearRecords_within _).weaken (by decide) (List.Subset.refl _))

theorem exec_vcpCntClr_within {s t : State} {p : Path} (h : exec (.vcpCntClr p) s = .next t) :
    Within (busErrRegs ++ [VCP_ANS_CNT, VCP_CFG_ERR_INFO, VCP_CTRL, VCP_ERR_CNT, VCP_STAT]) (portParts p ++ []) s t := by
  obtain rfl := Host.Outcome.next.inj h
  exact State.writeRow_frame (by decide) (by decide) (by decide) fun _ =>
    .setReg (by decide) (.setReg (by decide) (.setReg (by decide) (.refl s)))

/-- A read outside the backup domain's page leaves its part. -/
theorem State.freezePage_bkd (p : Path) (a : Nat) (s : State) : (s.freezePage p a).bkd = s.bkd :=
  forEach_induction (C := fun u => u.bkd = s.bkd) (f := fun b t => t.freeze p b (s.live b)) (fun _ _ _ hu => hu) rfl

theorem State.busRead_bkd {p : Path} {a : Word} (ha : a.toNat / 0x10000 ≠ 4) (s : State) : (s.busRead p a).2.bkd = s.bkd := by
  have htime : isArr RTC_SEC_LO 4 4 a.toNat = false := by
    refine Bool.eq_false_iff.mpr fun h => ?_
    simp only [isArr, Bool.and_eq_true, decide_eq_true_eq] at h
    have hbase : RTC_SEC_LO = 0x40000 := rfl
    omega
  have hstat : a.toNat ≠ RTC_STAT := fun h => ha (h ▸ by decide)
  have hreg : (s.regRead p a.toNat).2.bkd = s.bkd := by
    simp only [State.regRead, ha, false_and, if_false, htime, Bool.false_eq_true, if_neg hstat]
    split
    · rfl
    · split
      · rfl
      · exact s.freezePage_bkd p _
  have hpoint (i : Nat) : (s.pointRead p i).2.bkd = s.bkd := by
    unfold State.pointRead
    split
    · rfl
    · split
      · rfl
      · split
        · exact s.freezePage_bkd p _
        · rfl
  unfold State.busRead
  dsimp only
  split
  · rfl
  · split
    · exact (State.busErr_within p _ a s).2 .bkd (by decide)
    · split
      · exact hreg
      · rfl
      · exact hpoint _
      · rfl
      · rfl

theorem exec_vcpLastLoRead_within {s t : State} {p : Path} (h : exec (.vcpLastLoRead p) s = .next t) :
    Within busErrRegs (portParts p ++ [.shadow]) s t := by
  obtain rfl := Host.Outcome.next.inj h
  obtain ⟨hreg, hpart⟩ := State.readRow_within p (adr VCP_LAST_LO) s
  have hthrough : (s.readThrough p (adr VCP_LAST_LO)).bkd = s.bkd := by
    have hfirst := s.busRead_bkd (p := p) (a := adr VCP_LAST_LO) (by decide)
    unfold State.readThrough
    split
    · exact (State.busRead_bkd (by decide) _).trans hfirst
    · exact hfirst
  have hbkd : (s.readRow p (adr VCP_LAST_LO)).bkd = s.bkd := by
    by_cases hans : s.answers p = true
    · rw [State.readRow_eq hans]
      exact hthrough
    · rw [State.readRow_of_silent (by simpa using hans)]
  refine ⟨hreg, fun q hq => ?_⟩
  by_cases hq' : q = .bkd
  · exact hq' ▸ hbkd
  · exact hpart q (by simp_all)

theorem records_other : ∀ n < 16, ∀ m < 16, m ≠ n → ∀ a ∈ [VCP_REC_LO m, VCP_REC_HI m],
    a ∉ [BRK_STAT n, VCP_REC_LO n, VCP_REC_HI n] := by decide

theorem exec_settleTimeout_kept {s t : State} {n : Nat} (h : exec (.settleTimeout n) s = .next t) :
    WithinAt [BRK_STAT n] [VCP_REC_HI 0, VCP_REC_LO 0] [.brk, .vcp] s t ∧ BrickAlone n s t ∧
      ∀ m : Nat, m < 16 → m ≠ n → t.reg (VCP_REC_LO m) = s.reg (VCP_REC_LO m) ∧ t.reg (VCP_REC_HI m) = s.reg (VCP_REC_HI m) := by
  obtain ⟨⟨hwithin, halone⟩, hlt⟩ := exec_settleTimeout_frame h
  refine ⟨hwithin.absorb (fun a ha => ?_) (List.nil_subset _), halone, fun m hm hne => ?_⟩
  · rcases List.mem_cons.mp ha with rfl | ha
    · exact .inl (.head _)
    · rcases List.mem_pair.mp ha with rfl | rfl
      · exact .inr (named_records n).1
      · exact .inr (named_records n).2
  · by_cases heq : t = s
    · exact heq ▸ ⟨rfl, rfl⟩
    · have hkept (a : Nat) (ha : a ∈ [VCP_REC_LO m, VCP_REC_HI m]) : t.reg a = s.reg a := by
        obtain ⟨hloud, -⟩ := keptRegs_quiet m hm a (.tail _ (.tail _ ha))
        exact hwithin.1 a hloud (records_other n (hlt heq) m hm hne a ha) rfl
      exact ⟨hkept _ (.head _), hkept _ (.tail _ (.head _))⟩

end Sys2Proof.Machine

open Sys2Proof Sys2Proof.Machine

/-- Settles O53: each command's frame is put together from the frames of the operations it runs, one brick's from `BrickFrame`. -/
theorem frameBricksAndVcp : Obligations.FrameBricksAndVcp := by
  unfold Obligations.FrameBricksAndVcp
  have hframe {s t : State} {cmd group seq value : Nat} {cut : Bool}
      (h : Host.Outcome.next (s.vcpFrame cmd group seq value cut) = (.next t : Host.Outcome State Fault Refusal)) :=
    Host.Outcome.next.inj h ▸ s.vcpFrame_kept cmd group seq value cut
  refine ⟨?settleTimeout, ?brkTargetWrite, ?coefCommit, ?brkCntClr, ?laneRejoin, ?retryTimerExpiry, ?running1sExpiry, ?retryRst, ?lcntClr,
    ?setV, ?setI, ?setSlew, ?poll, ?read, ?vcpReservedCmd, ?vcpRecClr, ?vcpCntClr, ?vcpLastLoRead, ?vcpShortFrame, ?vcpCrcFail⟩
  case settleTimeout => exact fun _ _ _ h => exec_settleTimeout_kept h
  case brkTargetWrite => exact fun _ _ _ _ _ h => exec_brkTargetWrite_frame h
  case coefCommit =>
    intro s t p n h
    exact (exec_coefCommit_frame h).mono (fun a ha => by simp only [stagedRegs, List.mem_cons, List.mem_append] at ha ⊢; tauto) (List.Subset.refl _) (List.Subset.refl _)
  case brkCntClr => exact fun _ _ _ _ h => List.append_nil (portParts _) ▸ (exec_brkCntClr_frame h).1
  case laneRejoin => exact fun _ _ _ h => exec_laneRejoin_frame h
  case retryTimerExpiry => exact fun _ _ _ h => exec_retryTimerExpiry_within h
  case running1sExpiry => exact fun _ _ _ h => exec_running1sExpiry_frame h
  case retryRst => exact fun _ _ _ _ h => List.append_nil (portParts _) ▸ (exec_retryRst_frame h).1
  case lcntClr => exact fun _ _ _ _ h => List.append_nil (portParts _) ▸ (exec_lcntClr_frame h).1
  case setV => exact fun _ _ _ _ _ h => hframe h
  case setI => exact fun _ _ _ _ _ h => hframe h
  case setSlew => exact fun _ _ _ _ _ h => hframe h
  case poll => exact fun _ _ _ _ _ h => hframe h
  case read => exact fun _ _ _ _ _ h => hframe h
  case vcpReservedCmd => exact fun _ _ _ _ _ _ h => hframe h
  case vcpRecClr => exact fun _ _ _ h => exec_vcpRecClr_within h
  case vcpCntClr => exact fun _ _ _ h => List.append_nil (portParts _) ▸ exec_vcpCntClr_within h
  case vcpLastLoRead => exact fun _ _ _ h => exec_vcpLastLoRead_within h
  case vcpShortFrame => exact fun _ _ h => exec_vcpShortFrame_within h
  case vcpCrcFail => exact fun _ _ h => exec_vcpCrcFail_within h

end

section
namespace Sys2Proof.Machine

/-! ### A slow-limit fault under an all-off that is ACTIVE -/

/-- Follower 0 runs at an update instant, its slow limit and the limit of Q both 0, its current on sense channel 0 (R207, R208); an
all-off of an earlier cycle is still ACTIVE. -/
def trippedLate : State := { State.reset with
  boot := { Boot.initial with power := .active }
  bnd := { Bnd.initial with tiles := [⟨4, 0, 0, 0, List.replicate 32 0 ++ [128]⟩, ⟨7, 0, 0, 0, [1, 1, 0, 0, 0, 0, 0, 0, 0, 0x10]⟩] }
  regs := (((State.reset.setFld (BRK_CFG_ROLE 0) 2).setFld (BRK_STAT_STATE 0) brkRunning).setFld SEQ_FAULT_ACTIVE 1).regs }

/-- After the update instant of `trippedLate`. -/
def trippedLateUpdate : State := trippedLate.followerUpdate 0 [] []

theorem exec_brickUpdate_trippedLate : exec (.brickUpdate 0 ⟨[], []⟩ []) trippedLate = .next trippedLateUpdate := by
  have hdue : (trippedLate.active && decide (0 < 16) && switching (trippedLate.brkState 0) &&
      (if trippedLate.role 0 = 3 then trippedLate.leaderInstant (trippedLate.leader 0) else trippedLate.instantDue 0)) = true := by
    decide
  have hleader : trippedLate.role 0 ≠ 1 := by decide
  have hfollower : trippedLate.role 0 = 2 := by decide
  exact congrArg Host.Outcome.next ((if_pos hdue).trans ((if_neg hleader).trans (if_pos hfollower)))

/-- The trip is recorded, and the follower runs on: the all-off that is ACTIVE takes nothing more down (R255). -/
theorem trippedLateUpdate_runs :
    trippedLateUpdate.flag (BRK_LIM_STAT_I2T_TRIP 0) = true ∧ trippedLateUpdate.brkState 0 = brkRunning := by decide

end Sys2Proof.Machine

open Sys2Proof Sys2Proof.Machine

/-- Refutes O33: a follower's slow-limit trip is said to halt it whether an all-off is ACTIVE already or not (R208, R214), and under one
of an earlier cycle the fault writes its sheet and no more (R255), so a brick that runs then stays Running. The clause misses the premise
that no all-off is ACTIVE. -/
theorem not_brickCommandsComplete : ¬ Obligations.BrickCommandsComplete := by
  intro hall
  obtain ⟨-, -, -, -, -, -, -, -, -, -, -, -, -, -, -, htrip⟩ := hall trippedLate
  obtain ⟨t, hexec, hhalted, -⟩ := htrip 0 [] 0 0 (by decide) (by decide) (by decide) (by decide) (by decide) (by decide) (by decide)
    (by decide) (by decide) (by decide) (by decide) (by decide) (by decide) (by decide) (by decide) (by decide)
  obtain rfl := Host.Outcome.next.inj (exec_brickUpdate_trippedLate.symm.trans hexec)
  exact absurd (trippedLateUpdate_runs.2.symm.trans hhalted) (by decide)
end

section
namespace Sys2Proof.Machine

/-! ### A full test that Standby overtakes -/

/-- Idle with Standby requested; lane B of brick 0 has left for its full test (R193, R444). -/
def testingArmed : State := State.toFullTest 0 .b { State.reset with
  boot := { Boot.initial with power := .active }
  icu := { State.reset.icu with armed := true } }

/-- The same in Standby: the journal had nothing to drain (R444). -/
def testingAsleep : State := State.setFld { testingArmed with
  boot := { testingArmed.boot with power := .standby }
  clk := { testingArmed.clk with onRc := true, attemptAt := none, qualifiedAt := none }
  mtr := { testingArmed.mtr with resume := some 0xFF } } STM_STAT_PLL_LOCKED 0

theorem exec_standbyEnter_testingArmed : exec .standbyEnter testingArmed = .next testingAsleep :=
  congrArg Host.Outcome.next (if_pos (by decide))

/-- While CLK_CORE stands no full test ends. -/
theorem exec_fullTestDone_of_coreStopped {s : State} (h : s.coreRuns = false) (n : Nat) (lane : Lane) (pass : Bool) :
    exec (.fullTestDone n lane pass) s = .next s :=
  congrArg Host.Outcome.next (if_neg (by simp [h]))

end Sys2Proof.Machine

open Sys2Proof Sys2Proof.Machine

/-- Refutes O34: STANDBY_ENTER leads from `testingArmed` to `testingAsleep`, where lane B of brick 0 is under its full test, as the clause
of a failed FULL_TEST_DONE has it, but in Standby CLK_CORE stands and no test ends: the lane is not retired. The premise that CLK_CORE
runs, which the clause of LANE_SCRUB has, is missing. -/
theorem not_laneAndLimitCommands : ¬ Obligations.LaneAndLimitCommands := by
  intro h
  obtain ⟨-, -, hfailed, -⟩ := h testingAsleep
  obtain ⟨t, hexec, hretired, -⟩ := hfailed 0 .b (by decide) (by decide) (by decide)
  rw [exec_fullTestDone_of_coreStopped rfl, Host.Outcome.next.injEq] at hexec
  subst hexec
  exact absurd hretired (by decide)
end

section
namespace Sys2Proof.Machine

/-! ### Records cleared while an answer is driven -/

/-- A driven answer prolongs ACTIVE by 1 µs (R226, R234), and raising its sources leaves the port's own state alone. -/
theorem State.vcpAnswer_vcp (n cmd seq ans data : Nat) (s : State) : (s.vcpAnswer n cmd seq ans data).vcp =
    { s.vcp with answer := some (vcpWord (s.fld (VCP_GRP_GROUP n)) ans seq data), busyTill := s.vcp.busyTill + coreUs } := by
  have hraise (src : Nat) (hsrc : src < 1024) (u : State) : (u.raise src).vcp = u.vcp := (State.raise_calm src u hsrc (.refl u)).vcp
  unfold State.vcpAnswer
  dsimp only
  split
  · split
    · simp [State.holdAnswer]
    · simp [hraise, State.holdAnswer]
  · split
    · simp [State.flagRaise, hraise, State.holdAnswer]
    · simp [State.holdAnswer]

/-- ACTIVE reads 1 while an answer is driven (R234). -/
theorem State.vcpAnswer_active {s : State} (h : s.clk.core ≤ s.vcp.busyTill) (n cmd seq ans data : Nat) :
    (s.vcpAnswer n cmd seq ans data).vcpActive = true := by
  have hclk : (s.vcpAnswer n cmd seq ans data).clk = s.clk := (s.vcpAnswer_frame n cmd seq ans data).1.2 .clk (by decide)
  have hbusy : s.clk.core < s.vcp.busyTill + coreUs := Nat.lt_of_le_of_lt h (Nat.lt_add_of_pos_right (by decide))
  simp [State.vcpActive, State.vcpAnswer_vcp, hclk, hbusy]

/-- SET_V and SET_I are answered, whatever they ask for (R223 to R226). -/
theorem State.vcpSet_active {s : State} (h : s.clk.core ≤ s.vcp.busyTill) (n cmd seq value : Nat) :
    (s.vcpSet n cmd seq value).vcpActive = true := by
  have hanswered := State.vcpAnswer_active h n cmd seq
  unfold State.vcpSet
  extract_lets raw target state written recorded repeats remembered
  have hframe : BrickFrame n [BRK_STAT n, BRK_TARGET n] [CPM_CHG_STAT, CPM_CHG_TIME] [.brk, .cpm, .pins] s written :=
    s.writeTarget_frame n (cmd == 2) raw 1
  have hclk : remembered.clk = s.clk := hframe.1.2 .clk (by decide)
  have hkept : written.vcp = s.vcp := hframe.1.2 .vcp (by decide)
  have hvcp : remembered.vcp.busyTill = s.vcp.busyTill := (congrArg Vcp.busyTill hkept :)
  have hremembered := State.vcpAnswer_active (s := remembered) (by rwa [hclk, hvcp]) n cmd seq ansAccept raw
  split
  · exact hanswered ..
  · split
    · exact hanswered ..
    · split
      · exact hanswered ..
      · exact hremembered

theorem State.beginAnswer_busy (s : State) : s.beginAnswer.clk.core ≤ s.beginAnswer.vcp.busyTill := Nat.le_add_right _ _

theorem State.beginAnswer_groupOwner (s : State) (group : Nat) : s.beginAnswer.groupOwner group = s.groupOwner group := rfl

/-- After a SET_V for a group of the device, its answer not cut short, ACTIVE reads 1. -/
theorem State.vcpFrame_setV_active {s : State} {group n : Nat} (hup : s.vcpUp = true) (howner : s.groupOwner group = some n)
    (seq value : Nat) : (s.vcpFrame 1 group seq value false).vcpActive = true := by
  have hbusy (lo hi : Word) : ((s.beginAnswer.setReg VCP_LAST_LO lo).setReg VCP_LAST_HI hi).clk.core ≤
      ((s.beginAnswer.setReg VCP_LAST_LO lo).setReg VCP_LAST_HI hi).vcp.busyTill := by
    simpa using s.beginAnswer_busy
  rw [State.vcpFrame, if_pos hup]
  simp only [State.beginAnswer_groupOwner, howner, Bool.false_eq_true, if_false]
  exact State.vcpSet_active (hbusy _ _) n 1 seq value

/-- While ACTIVE is 1 REC_CLR is turned away, and the port's own state stands (R234, R9). -/
theorem exec_vcpRecClr_of_active {s : State} {p : Path} (hserve : s.serves p = true) (hbusy : s.vcpActive = true) :
    ∃ t, exec (.vcpRecClr p) s = .next t ∧ t.flag VCP_STAT_CFG_ERR = true ∧ t.vcp = s.vcp := by
  obtain ⟨hactive, hans⟩ := Bool.and_eq_true_iff.mp hserve
  have hpower : s.boot.power = .active := by simpa [State.active] using hactive
  have hbus : s.busFault p true (adr VCP_CTRL).toNat = none := by
    have hwin : windowOf (adr VCP_CTRL).toNat = some .regs := by decide
    have halign : (adr VCP_CTRL).toNat % 4 = 0 := by decide
    simp [State.busFault, State.early, halign, hwin, hpower]
  have hrefused : s.refused p (adr VCP_CTRL).toNat 2 = some 1 := by
    change when (true && s.vcpActive) 1 = some 1
    rw [hbusy]
    rfl
  have hlegal : reservedBit (fieldsOf (adr VCP_CTRL).toNat) 2 = none := by decide
  obtain ⟨h, heq, -⟩ := State.writeRow_refused Side.untold hans hbus (by decide) (fun hpage => absurd hpage (by decide)) (by decide)
    (by rw [hlegal, hrefused]; rfl)
  exact ⟨_, congrArg Host.Outcome.next heq, s.cfgErr_flag VCP_CTRL 1, (s.cfgErr_withinAt VCP_CTRL 1 [] []).2 .vcp (by decide)⟩

/-- A bond in force, the port enabled; leader 0 of group 7 runs, and no frame has come yet (R217, R218). -/
def leaderOfGroup : State := { State.reset with
  boot := { Boot.initial with power := .active }
  bnd := { Bnd.initial with tiles := [⟨4, 0, 0, 0, []⟩] }
  regs := ((((State.reset.setFld VCP_STAT_EN 1).setFld (BRK_CFG_ROLE 0) 1).setFld (BRK_STAT_STATE 0) brkRunning).setFld
    (VCP_GRP_GROUP 0) 7).regs }

/-- While the answer to its first SET_V is driven: SEQ 3, VALUE 100 (R224, R226). -/
def answering : State := leaderOfGroup.vcpFrame 1 7 3 100 false

theorem exec_setV_leaderOfGroup : exec (.setV 7 3 ⟨100, false⟩) leaderOfGroup = .next answering := rfl

theorem answering_active : answering.vcpActive = true :=
  State.vcpFrame_setV_active (n := 0) (by decide) (by decide) 3 100

/-- The command is remembered for a repeat (R225), and the stored word of VCP_STAT, into which a read puts ACTIVE, holds 0 there. -/
theorem answering_remembers : answering.serves .spi = true ∧ answering.flag VCP_STAT_ACTIVE = false ∧
    answering.vcp.last = [(0, 1, 3, 100)] := by decide +kernel

end Sys2Proof.Machine

open Sys2Proof Sys2Proof.Machine

/-- Refutes O35: SET_V leads from `leaderOfGroup` to `answering`, where its answer is being driven. VCP_REC_CLR is said to clear the repeat
memory while ACTIVE is 0 in the stored word of VCP_STAT, and no command sets it there: ACTIVE is put in when the register is read
(`State.liveVcp`). It reads 1 here, so the write breaks a cross-field rule (R234, R9) and the memory stands. The premise should speak of
`State.vcpActive`. -/
theorem not_vcpCommandsComplete : ¬ Obligations.VcpCommandsComplete := by
  intro hall
  obtain ⟨hserve, hstored, hlast⟩ := answering_remembers
  obtain ⟨-, -, -, -, -, -, -, -, hclear, -⟩ := hall answering
  obtain ⟨t, hexec, -, -, -, hforgotten⟩ := hclear .spi hserve hstored
  obtain ⟨u, hrefused, -, hvcp⟩ := exec_vcpRecClr_of_active hserve answering_active
  obtain rfl := Host.Outcome.next.inj (hrefused.symm.trans hexec)
  rw [hvcp, hlast] at hforgotten
  cases hforgotten
end

section
namespace Sys2Proof.Machine

/-! ### A SET_REF for a brick that is not there -/

/-- A step at the action SET_REF, its target brick 16, one beyond the last (Table — Course opcodes). -/
def settingBrick16 : State := { State.reset with
  seq := { Seq.initial with kind := .step, todo := [⟨6, false, 16, 500⟩, ⟨4, false, 0, 7⟩] } }

/-- After it. -/
def setBrick16 : State := (settingBrick16.writeTarget 16 (settingBrick16.flag (BRK_TARGET_LOOP 16)) 500 4).finishAction

theorem exec_setRef_settingBrick16 : exec .setRef settingBrick16 = .next setBrick16 := rfl

theorem settingBrick16_next : settingBrick16.nextAction 6 = some ⟨6, false, 16, 500⟩ := rfl

/-- Addresses count the bricks modulo 16, so the target went to brick 0. -/
theorem setBrick16_target : settingBrick16.reg (BRK_TARGET 0) = 0 ∧ setBrick16.reg (BRK_TARGET 0) = 500 := by decide

end Sys2Proof.Machine

open Sys2Proof Sys2Proof.Machine

/-- Refutes O54: SET_REF is said to leave the target of every brick but its own, and the statement takes any number for its own, where
Table — Course opcodes has 0 to 15. Of brick 16 the model writes the word of brick 0 (`settingBrick16`), which the action does not name.
The premise that the action's target is below 16 is missing. -/
theorem not_frameCourses : ¬ Obligations.FrameCourses := by
  intro hall
  obtain ⟨-, -, -, -, -, -, -, -, -, -, -, -, -, -, -, -, -, -, -, -, -, -, -, -, -, -, hsetRef, -⟩ := hall
  obtain ⟨-, hothers⟩ := hsetRef settingBrick16 setBrick16 exec_setRef_settingBrick16
  have hnamed (a : Action) (ha : settingBrick16.nextAction 6 = some a) : a.target ≠ 0 := by
    obtain rfl := Option.some.inj (settingBrick16_next.symm.trans ha)
    decide
  obtain ⟨hstands, -⟩ := hothers 0 (by decide) hnamed
  obtain ⟨hbefore, hafter⟩ := setBrick16_target
  rw [hbefore, hafter] at hstands
  exact absurd hstands (by decide)
end

section
namespace Sys2Proof.Machine

/-! ### RAIL_ON in the cycle of an all-off -/

/-- A RAIL_ON sees the run of actions that stood before an all-off of its cycle (R255); where that has none to start, nothing changes. -/
theorem exec_railOn_of_noRunBefore {s : State} (h : s.runBefore.nextAction 1 = none) : exec .railOn s = .next s := by
  change execRailOn s = .next s
  rw [execRailOn, h]

/-- An all-off out of Idle, and in its cycle a run that is to switch AUX_1 on. -/
def onWhileOff : State :=
  State.beginRun .step [⟨1, false, 19, 0⟩, ⟨4, false, 0, 7⟩] 2
    (State.allOff 0x0522 [] none { State.reset with boot := { Boot.initial with power := .active } })

/-- No run stood before the all-off, and AUX_1 is the next thing of the run that has begun since. -/
theorem onWhileOff_run : onWhileOff.runBefore.nextAction 1 = none ∧ onWhileOff.seq.todo = [⟨1, false, 19, 0⟩, ⟨4, false, 0, 7⟩] ∧
    onWhileOff.nextAction 1 = some ⟨1, false, 19, 0⟩ ∧ bitsOf (onWhileOff.fld SEQ_ON_RAIL) 19 1 = 0 := by decide +kernel

end Sys2Proof.Machine

open Sys2Proof Sys2Proof.Machine

/-- Refutes O36: RAIL_ON is said to switch an LDO on whenever it is the next action, but in the CLK_CORE cycle of an all-off that is
ACTIVE commands see the run that stood before it (R255), and nothing is switched on. An all-off ends the run, so only a state such as
`onWhileOff` has one then; the clauses of RAIL_ON miss the premise that no all-off is ACTIVE, which those of the timeouts have. -/
theorem not_courseStepsComplete : ¬ Obligations.CourseStepsComplete := by
  intro hall
  obtain ⟨-, -, -, -, -, haux, -⟩ := hall onWhileOff
  obtain ⟨hbefore, htodo, hnext, haux1⟩ := onWhileOff_run
  obtain ⟨t, hexec, hleft, -⟩ := haux _ _ [] htodo (by decide) hnext rfl haux1
  obtain rfl := Host.Outcome.next.inj ((exec_railOn_of_noRunBefore hbefore).symm.trans hexec)
  exact absurd (htodo.symm.trans hleft) (by decide)
end

section
namespace Sys2Proof.Machine

/-! ### A write of TARGET during a descent -/

theorem State.seqCmd_of_descent {s : State} {w : Word} (hmaster : s.courseMaster = true) (htarget : w.getLsbD 8 = false)
    (hdown : bitsOf w.toNat 0 8 ≤ s.fld SEQ_STAT_STR_COURSE) (hdescent : s.flag SEQ_STAT_DESCENT = true) : s.seqCmd w = s := by
  simp only [State.seqCmd, hmaster, htarget, hdescent, Nat.not_lt.mpr hdown, Bool.not_true, Bool.false_eq_true, if_false, if_true]

/-- The word of SEQ_CMD that asks for a target holds it alone: FLOOR is 0. -/
theorem word_target (target : BitVec 8) : word [(0, target.toNat)] = target.setWidth 32 := by
  simp [word]

/-- During a descent a TARGET that is no step up is accepted and stands nowhere: the registers stay as they are (R258). -/
theorem exec_seqTarget_of_descent {s : State} {p : Path} {target : BitVec 8} (hserve : s.serves p = true)
    (hmaster : s.courseMaster = true) (hlimit : target.toNat ≤ 254) (hdown : target.toNat ≤ s.fld SEQ_STAT_STR_COURSE)
    (hdescent : s.flag SEQ_STAT_DESCENT = true) : ∃ t, exec (.seqTarget p target) s = .next t ∧ t.regs = s.regs := by
  obtain ⟨hactive, hans⟩ := Bool.and_eq_true_iff.mp hserve
  set w := word [(0, target.toNat)] with hw
  have hfloor : w.getLsbD 8 = false := by simp [hw, word_target]
  have hbits : bitsOf w.toNat 0 8 = target.toNat := by
    rw [hw, word_target]
    simp [bitsOf]
    omega
  have hpower : s.boot.power = .active := by simpa [State.active] using hactive
  have hwin : windowOf (adr SEQ_CMD).toNat = some .regs := by decide
  have hbus : s.busFault p true (adr SEQ_CMD).toNat = none := by
    have halign : (adr SEQ_CMD).toNat % 4 = 0 := by decide
    simp [State.busFault, State.early, halign, hwin, hpower]
  have hlegal : reservedBit (fieldsOf (adr SEQ_CMD).toNat) w = none := by
    refine reservedBit_eq_none ?_
    rw [show fieldsOf (adr SEQ_CMD).toNat = [⟨8, 1, .wo, 0, 3, []⟩, ⟨0, 8, .rw, 0, 3, [(0, 0xFE)]⟩] from rfl]
    simp [FieldSpec.accepts, hbits, hlimit]
  have hwrite : s.busWrite p (adr SEQ_CMD) w Side.untold = s := by
    rw [State.busWrite_regs w _ hans hbus hwin,
      State.regWrite_accepted _ (by decide) (fun hpage => absurd hpage (by decide)) (by rw [hlegal]; rfl) (by decide)]
    exact State.seqCmd_of_descent hmaster hfloor (hbits.trans_le hdown) hdescent
  refine ⟨_, rfl, ?_⟩
  rw [State.writeRow_eq, hwrite]

/-- A solo device at course 5, on its way down since its supply fell (R258). -/
def descending : State := { State.reset with
  boot := { Boot.initial with power := .active }
  bnd := { Bnd.initial with tiles := [⟨0xB, 0, 0, 0, [1]⟩] }
  regs := ((State.reset.setFld SEQ_STAT_STR_COURSE 5).setFld SEQ_STAT_DESCENT 1).regs }

end Sys2Proof.Machine

open Sys2Proof Sys2Proof.Machine

/-- Refutes O37: on the course master a TARGET at or below the system course is said to be stored, and while a descent is under way, as in
`descending`, TARGET stays at the 0 that the descent forced (R258; log entry 28). The clause misses the premise that DESCENT is 0. -/
theorem not_headAndLineCommands : ¬ Obligations.HeadAndLineCommands := by
  intro hall
  obtain ⟨htarget, -⟩ := hall descending
  have hserve : descending.serves .spi = true := by decide
  have hmaster : descending.courseMaster = true := by decide
  have hdown : (3 : BitVec 8).toNat ≤ descending.fld SEQ_STAT_STR_COURSE := by decide
  obtain ⟨t, hexec, hstored⟩ := htarget .spi 3 hserve hmaster (by decide) hdown
  obtain ⟨u, hkept, hregs⟩ := exec_seqTarget_of_descent hserve hmaster (by decide) hdown (by decide)
  obtain rfl := Host.Outcome.next.inj (hkept.symm.trans hexec)
  rw [State.fld, State.reg, hregs] at hstored
  exact absurd hstored (by decide)
end

section
namespace Sys2Proof.Machine

/-! ### Power-good after the RAIL_OFF has begun -/

/-- The status words of the rails lie beside SEQ_PG, and no report changes them. -/
theorem railStat_beside (r : Nat) : SEQ_RAIL_STAT r ≠ SEQ_PG ∧ loud (SEQ_RAIL_STAT r) = false := by
  have hall : ∀ k < 21, 0x130108 + 0x10 * k ≠ SEQ_PG ∧ loud (0x130108 + 0x10 * k) = false := by decide
  exact hall _ (Nat.mod_lt r (by decide))

/-- A change of power-good leaves UV_ARM, and what the sequencer keeps beside the registers. -/
theorem State.setPg_uvArm_seq {r : Nat} (b : Bool) (s : State) (hr : r < 21) :
    (s.setPg r b).flag (SEQ_RAIL_STAT_UV_ARM r) = s.flag (SEQ_RAIL_STAT_UV_ARM r) ∧ (s.setPg r b).seq = s.seq := by
  obtain ⟨hpg, hloud⟩ := railStat_beside r
  have hsrc : 371 + r < 1024 := by omega
  have hbeside : (s.setFlag (SEQ_RAIL_STAT_PG r) b).fld (SEQ_RAIL_STAT_UV_ARM r) = s.fld (SEQ_RAIL_STAT_UV_ARM r) :=
    s.fld_setFld_beside _ _ _ rfl (.inl (by decide : 28 + 1 ≤ 29)) (by decide : 28 + 1 ≤ 32)
  unfold State.setPg
  split
  · exact ⟨rfl, rfl⟩
  · refine ⟨((State.raise_calm _ _ hsrc (.refl _)).flag _ hloud).trans ?_, (State.raise_calm _ _ hsrc (.refl _)).seq⟩
    rw [State.flag, State.fld_setReg_other _ _ _ _ hpg, hbeside]
    rfl

/-- UV is armed by a power-good only until the RAIL_OFF begins (R252). -/
theorem State.pgRise_uvArm_of_stopping {s : State} {r : Nat} (hr : r < 16) (hstopping : s.brkState r = brkStopping)
    (hwait : s.seq.wait = .none) : (s.pgRise r).flag (SEQ_RAIL_STAT_UV_ARM r) = s.flag (SEQ_RAIL_STAT_UV_ARM r) := by
  have hpast : ¬19 ≤ r := by omega
  unfold State.pgRise
  extract_lets seq t u v w
  obtain ⟨harm, hseq⟩ := t.setPg_uvArm_seq (r := r) true (by omega)
  have hv : v = u := if_neg (by simp [hstopping, hpast])
  have hw : w = u := (if_neg hpast).trans hv
  have hnone : u.seq.wait = .none := (congrArg Seq.wait hseq).trans hwait
  rw [hw, hnone]
  exact harm

/-- Rail 0 is supervised, its RAIL_OFF has begun before its first power-good, and its PG_DELAY is over. -/
def stoppingPgDue : State := { State.reset with
  boot := { Boot.initial with power := .active }
  bnd := { Bnd.initial with tiles := [⟨5, 0, 0, 0, [0, 1]⟩] }
  seq := { Seq.initial with pgRun := [(0, 0)] }
  regs := ((State.reset.setFld SEQ_ON_RAIL 1).setFld (BRK_STAT_STATE 0) brkStopping).regs }

theorem exec_pgDelayExpiry_stoppingPgDue : exec (.pgDelayExpiry 0) stoppingPgDue = .next (stoppingPgDue.pgRise 0) :=
  congrArg Host.Outcome.next (if_pos (by decide))

end Sys2Proof.Machine

open Sys2Proof Sys2Proof.Machine

/-- Refutes O38: the end of PG_DELAY is said to arm UV on every supervised rail 0 to 15, and R252 arms it only until the rail's RAIL_OFF
begins: on the stopping rail of `stoppingPgDue` it stays disarmed. The clause misses the premise that the leader is not Stopping. -/
theorem not_supervisionCommands : ¬ Obligations.SupervisionCommands := by
  intro hall
  obtain ⟨-, -, hexpiry, -⟩ := hall stoppingPgDue
  obtain ⟨t, hexec, -, harmed, -⟩ := hexpiry 0 0 (by decide) (by decide) (by decide) (by decide) (by decide) (by decide) (by decide)
  obtain rfl := Host.Outcome.next.inj (exec_pgDelayExpiry_stoppingPgDue.symm.trans hexec)
  rw [State.pgRise_uvArm_of_stopping (by decide) (by decide) rfl] at harmed
  exact absurd harmed (by decide)
end

section
namespace Sys2Proof.Machine

/-! ### The depths of the queues -/

theorem bounded_iff (s : State) : s.bounded = true ↔ s.icu.queue.length ≤ 64 ∧ s.jnl.queue.length ≤ 32 ∧
    s.lnk.fwd.length ≤ 64 ∧ s.bkd.fifo.length ≤ 16 ∧ s.jnl.head < slotCount ∧ ∀ k ∈ s.jnl.writing, k < slotCount := by
  cases hw : s.jnl.writing <;> simp [State.bounded, hw, and_assoc]

/-- What keeps the depths one by one keeps them together. -/
theorem Keeps.bounded {s t : State} (k : Keeps s t) (h : s.bounded = true) : t.bounded = true := by
  obtain ⟨hhost, hsheets, hfwd, hfifo, hslots⟩ := (bounded_iff s).mp h
  exact (bounded_iff t).mpr ⟨k.host hhost, k.sheets hsheets, k.fwd hfwd, k.fifo hfifo, k.slots hslots⟩

end Sys2Proof.Machine

open Sys2Proof Sys2Proof.Machine

/-- Settles O1, by the definition of a step. -/
theorem stepRunsFront : Obligations.StepRunsFront := fun _ _ _ => rfl

/-- Settles O4: every command keeps the queue (`exec_keeps`). -/
theorem execKeepsQueue : Obligations.ExecKeepsQueue := fun c s t h => (exec_keeps c s t h).pending

/-- Settles O8, by what every command and every instant keep. -/
theorem stepKeepsDepths : Obligations.StepKeepsDepths := by
  intro s t hs h
  cases hp : s.pending with
  | nil => exact (step_keeps_nil hp h).bounded hs
  | cons c rest => exact (step_keeps_cons hp h).bounded hs

end

section
namespace Sys2Proof.Machine

/-! ### Making a sheet (R394) -/

/-- Noting a fault changes no more than what the journal knows of shorts. -/
theorem State.noteFault_eq (type : Nat) (s : State) :
    ∃ shorts, s.noteFault type = { s with jnl := { s.jnl with onlyShorts := shorts } } := by
  unfold State.noteFault
  split
  · exact ⟨false, rfl⟩
  · exact ⟨s.jnl.onlyShorts, rfl⟩

theorem onlyIf_raised {σ s : State} {b : Bool} {f : State → State} (hf : Raised σ (f s)) (h : Raised σ s) :
    Raised σ (onlyIf b f s) := by
  cases b
  · exact h
  · exact hf

/-- With room in the queue a sheet changes the queue and the next number and raises a source at the most. -/
theorem State.queueSheet_room {s : State} (type : Nat) (payload : List Byte) (h : s.jnl.queue.length < 32) :
    Raised { s with jnl := { s.jnl with
      queue := s.jnl.queue ++ [⟨s.now, s.sheetAddress, if s.jnl.searching then none else some s.jnl.next, type, payload⟩]
      next := if s.jnl.searching then s.jnl.next else s.jnl.next + 1 } } (s.queueSheet type payload) := by
  rw [State.queueSheet, if_pos h]
  exact onlyIf_raised (State.raise_raised _ _ (.refl _)) (.refl _)

/-- The journal as a lost sheet leaves it: one more in JNL_LOST, and the loss noted for the report. -/
def State.loseSheet (s : State) : State :=
  let t := s.bump JNL_LOST_LOST
  { t with jnl := { t.jnl with
      lostNow := t.jnl.lostNow + 1
      lostFirst := if t.jnl.lostNow = 0 then s.now else t.jnl.lostFirst
      lostLast := s.now } }

/-- A full queue loses the sheet, and LOST_EV is set. -/
theorem State.queueSheet_full {s : State} (type : Nat) (payload : List Byte) (h : 32 ≤ s.jnl.queue.length) :
    s.queueSheet type payload = s.loseSheet.flagRaise JNL_STAT_LOST_EV 615 := by
  rw [State.queueSheet, if_neg (by omega)]
  rfl

/-- Beside the queued sheet, making one changes GLB_SUMMARY and raises a source at the most. -/
theorem State.sheet_jnl (s : State) (type : Nat) (payload : List Byte) :
    (s.sheet type payload).jnl = ((s.noteFault type).queueSheet type payload).jnl := by
  unfold State.sheet
  dsimp only
  split
  · exact (State.raise_raised 7 _ (.refl _)).jnl
  · rfl

theorem State.sheet_full {s : State} (type : Nat) (payload : List Byte) (h : 32 ≤ s.jnl.queue.length) :
    s.sheet type payload = (s.noteFault type).loseSheet.flagRaise JNL_STAT_LOST_EV 615 := by
  obtain ⟨shorts, hnote⟩ := s.noteFault_eq type
  have hfull : 32 ≤ (s.noteFault type).jnl.queue.length := by rw [hnote]; exact h
  have hroom : (decide ((s.noteFault type).jnl.queue.length < 32) && isCode type) = false := by
    rw [decide_eq_false (by omega), Bool.false_and]
  rw [State.sheet, hroom, if_neg Bool.false_ne_true, State.queueSheet_full _ _ hfull]

theorem State.sheet_room_jnl {s : State} (type : Nat) (payload : List Byte) (h : s.jnl.queue.length < 32) :
    (s.sheet type payload).jnl.queue =
      s.jnl.queue ++ [⟨s.now, s.sheetAddress, if s.jnl.searching then none else some s.jnl.next, type, payload⟩] ∧
    (s.sheet type payload).jnl.next = if s.jnl.searching then s.jnl.next else s.jnl.next + 1 := by
  obtain ⟨shorts, hnote⟩ := s.noteFault_eq type
  have hroom : (s.noteFault type).jnl.queue.length < 32 := by rw [hnote]; exact h
  rw [State.sheet_jnl, (State.queueSheet_room type payload hroom).jnl, hnote]
  exact ⟨rfl, rfl⟩

theorem State.loseSheet_lost {s : State} (h : s.fld JNL_LOST_LOST + 1 < 2 ^ JNL_LOST_LOST.width) :
    s.loseSheet.fld JNL_LOST_LOST = s.fld JNL_LOST_LOST + 1 := by
  change (s.bump JNL_LOST_LOST).fld JNL_LOST_LOST = _
  rw [State.bump_eq, if_pos h, State.fld_setFld_self _ _ _ (by decide), Nat.mod_eq_of_lt h]

theorem State.loseSheet_jnl (s : State) : s.loseSheet.jnl = { s.jnl with
    lostNow := s.jnl.lostNow + 1
    lostFirst := if s.jnl.lostNow = 0 then s.now else s.jnl.lostFirst
    lostLast := s.now } := by
  simp [State.loseSheet]

/-- Setting a flag that is no source's word and raising a source leaves every other plain register's fields. -/
theorem State.fld_flagRaise_other (s : State) (f g : Fld) (src : Nat) (hg : g.reg ≠ f.reg)
    (hsrc : isArr (ICU_SRC 0) 4 1024 g.reg = false) (hstat : g.reg ≠ ICU_STAT) (hdrop : g.reg ≠ LNK_DROP_CNT) :
    (s.flagRaise f src).fld g = s.fld g := by
  unfold State.fld
  rw [(State.flagRaise_raised f src s).reg _ hsrc hstat hdrop, State.reg_setFld_other _ _ _ _ hg]

theorem State.flag_flagRaise_self (s : State) (f : Fld) (src : Nat) (hw : f.width = 1) (hlo : f.lo < 32)
    (hsrc : isArr (ICU_SRC 0) 4 1024 f.reg = false) (hstat : f.reg ≠ ICU_STAT) (hdrop : f.reg ≠ LNK_DROP_CNT) :
    (s.flagRaise f src).flag f = true := by
  rw [(State.flagRaise_raised f src s).flag hsrc hdrop (fun h => absurd h hstat), State.flag_setFld_one s f hw hlo]

end Sys2Proof.Machine

open Sys2Proof Sys2Proof.Machine

/-- Settles O22, by the three cases of a sheet's making. -/
theorem sheetQueue : Obligations.SheetQueue := by
  intro s type payload
  refine ⟨fun hroom hsearch => ?_, fun hroom hsearch => ?_, fun hfull => ?_⟩
  · simpa [hsearch] using State.sheet_room_jnl type payload hroom
  · simpa [hsearch] using State.sheet_room_jnl type payload hroom
  · obtain ⟨shorts, hnote⟩ := s.noteFault_eq type
    have hjnl : (s.sheet type payload).jnl = (s.noteFault type).loseSheet.jnl := by
      rw [State.sheet_full type payload hfull, (State.flagRaise_raised _ _ _).jnl]
      rfl
    rw [State.loseSheet_jnl, hnote] at hjnl
    refine ⟨by rw [hjnl], by rw [hjnl], ?_, by rw [hjnl], fun hcount => ?_⟩
    · rw [State.sheet_full type payload hfull]
      exact State.flag_flagRaise_self _ _ _ rfl (by decide) (by decide) (by decide) (by decide)
    · rw [State.sheet_full type payload hfull,
        State.fld_flagRaise_other _ _ _ _ (by decide) (by decide) (by decide) (by decide), hnote]
      exact State.loseSheet_lost (s := { s with jnl := { s.jnl with onlyShorts := shorts } }) hcount

end

section
namespace Sys2Proof.Machine

/-! ### A sheet in the flash (R392, R395) -/

theorem Sheet.length_bytes (sh : Sheet) : sh.bytes.length = 64 := by
  simp [Sheet.bytes, length_leBytes]

theorem State.flashAt_flashWrite (s : State) (a b : Nat) (l : List Byte) : (s.flashWrite a l).flashAt b =
    if a ≤ b ∧ b < a + l.length then l.getD (b - a) 0 else s.flashAt b := by
  unfold State.flashAt State.flashWrite
  split
  next hin =>
    have hself := cellAt_setCells_self flashBlank l a (b - a) s.flash (by omega)
    rw [Nat.add_sub_cancel' hin.1] at hself
    rw [hself, List.getD_eq_getElem _ _ (by omega)]
  next hout => exact cellAt_setCells_other _ _ _ _ _ (by omega)

theorem State.flashAt_flashErase (s : State) (a e b : Nat) : (s.flashErase a e).flashAt b =
    if a ≤ b ∧ b < e then flashBlank else s.flashAt b := by
  unfold State.flashAt State.flashErase
  split
  next hin =>
    refine cellAt_of_absent _ _ _ fun c hc hb => ?_
    obtain ⟨_, hkept⟩ := List.mem_filter.mp hc
    simp only [Bool.or_eq_true, decide_eq_true_eq] at hkept
    omega
  next hout => exact cellAt_filter _ (fun v => by simp; omega) _

theorem State.flashAt_eraseAhead (s : State) (slot b : Nat) : (s.eraseAhead slot).flashAt b =
    if slot % 64 = 0 ∧ slotAddress ((slot + 64) % slotCount) ≤ b ∧ b < slotAddress ((slot + 64) % slotCount) + 4096 then flashBlank
    else s.flashAt b := by
  unfold State.eraseAhead
  by_cases hfirst : slot % 64 = 0
  · simp only [hfirst, if_true, State.flashAt_flashErase, true_and]
  · simp only [hfirst, false_and, if_false]

theorem State.eraseAhead_jnl (s : State) (slot : Nat) : (s.eraseAhead slot).jnl = s.jnl := by
  unfold State.eraseAhead
  split <;> rfl

/-- With nothing lost there is nothing to report. -/
theorem State.reportLost_none {s : State} (h : s.jnl.lostNow = 0) : s.reportLost = s := by
  rw [State.reportLost, if_neg (by omega)]

/-- The state a sheet's completed program leaves, where nothing was lost. -/
theorem exec_sheetWritten {s : State} {slot : Nat} {sh : Sheet} {rest : List Sheet} (hw : s.jnl.writing = some slot)
    (hq : s.jnl.queue = sh :: rest) (hlost : s.jnl.lostNow = 0) :
    exec (.sheetWritten false) s = .next { (s.eraseAhead slot).flashWrite (slotAddress slot) sh.bytes with
      jnl := { s.jnl with writing := none, queue := rest }
      bnd := { (s.eraseAhead slot).bnd with afterSheet := false } } := by
  change execSheetWritten false s = _
  simp only [execSheetWritten, hw, hq, Bool.false_eq_true, if_false, State.flashWrite_jnl, State.flashWrite_bnd, State.eraseAhead_jnl]
  rw [State.reportLost_none (by exact hlost)]

end Sys2Proof.Machine

open Sys2Proof Sys2Proof.Machine

/-- Settles O23: the erase ahead comes first, then the 64 bytes are written. -/
theorem sheetInFlash : Obligations.SheetInFlash := by
  intro s slot sh rest hw _ hq hlost
  refine ⟨_, exec_sheetWritten hw hq hlost, rfl, rfl, sh.length_bytes, fun a => ?_⟩
  change ((s.eraseAhead slot).flashWrite (slotAddress slot) sh.bytes).flashAt a = _
  rw [State.flashAt_flashWrite, sh.length_bytes, State.flashAt_eraseAhead]
  rfl

end

section
namespace Sys2Proof.Machine

/-! ### An accepted write -/

/-- Where the bus takes a write and nothing in it offends, its word is stored and acts; a host port tells of its transaction
besides (R6, R430). -/
theorem State.writeRow_accepted {s : State} {p : Path} {a : Nat} {w : Word} (side : Side) (hans : s.answers p = true)
    (hearly : s.early p a = false) (hplace : storesWord a = true) (halign : a % 4 = 0) (hbak : a / 0x10000 ≠ 4)
    (hwr : (fieldsOf a).any FieldSpec.writable = true) (hres : reservedBit (fieldsOf a) w = none) (href : s.refused p a w = none) :
    ∃ h : Hst, s.writeRow p (adr a) w side =
      { (s.setReg a (writtenWord (fieldsOf a) (s.reg a) w)).written p a (s.reg a) w side with hst := h } := by
  simp only [storesWord, Bool.and_eq_true, decide_eq_true_eq, beq_iff_eq, bne_iff_ne, Bool.not_eq_true'] at hplace
  obtain ⟨⟨⟨hlt, hwin⟩, hslot⟩, hown⟩ := hplace
  have hadr : (adr a).toNat = a := Nat.mod_eq_of_lt hlt
  have hbus : s.busFault p true a = none := by simp [State.busFault, halign, hwin, hearly]
  have hwrite : s.busWrite p (adr a) w side =
      (s.setReg a (writtenWord (fieldsOf a) (s.reg a) w)).written p a (s.reg a) w side := by
    rw [State.busWrite_regs w side hans (by rwa [hadr]) (by rwa [hadr]), hadr,
      State.regWrite_accepted side hwr (fun h => absurd h hbak) (by rw [hres, href]; rfl) hslot, hown]
    rfl
  exact ⟨_, (State.writeRow_eq p (adr a) w side s).trans (by rw [hwrite])⟩

/-- The same, told by what the write does once its word is stored. -/
theorem State.writeRow_acts {s : State} {p : Path} {a : Nat} {w : Word} {side : Side} {f : Word → State} (hans : s.answers p = true)
    (hearly : s.early p a = false) (hplace : storesWord a = true) (halign : a % 4 = 0) (hbak : a / 0x10000 ≠ 4)
    (hwr : (fieldsOf a).any FieldSpec.writable = true) (hres : reservedBit (fieldsOf a) w = none) (href : s.refused p a w = none)
    (hdoes : ∀ v, (s.setReg a v).written p a (s.reg a) w side = f v) :
    ∃ (v : Word) (h : Hst), s.writeRow p (adr a) w side = { f v with hst := h } := by
  obtain ⟨h, hwrite⟩ := State.writeRow_accepted side hans hearly hplace halign hbak hwr hres href
  exact ⟨_, h, hwrite.trans (by rw [hdoes])⟩

/-- In Idle and Run no block is early. -/
theorem State.early_of_active {s : State} (h : s.active = true) (p : Path) (a : Nat) : s.early p a = false := by
  have hpower : s.boot.power = .active := by simpa [State.active] using h
  simp [State.early, hpower]

/-! ### The watchdog's challenge (R451) -/

theorem nextChal_eq (c : BitVec 16) : nextChal c = if c.toNat % 2 = 1 then BitVec.ofNat 16 (c.toNat / 2) ^^^ 0xB400#16
    else BitVec.ofNat 16 (c.toNat / 2) := by
  have hshift : c >>> 1 = BitVec.ofNat 16 (c.toNat / 2) :=
    BitVec.eq_of_toNat_eq (by rw [BitVec.toNat_ushiftRight, BitVec.toNat_ofNat, Nat.shiftRight_eq_div_pow]; omega)
  have hbit : c.getLsbD 0 = decide (c.toNat % 2 = 1) := by simp [BitVec.getLsbD, Nat.testBit_zero]
  simp only [nextChal, hshift, hbit, decide_eq_true_eq]
  rfl

/-- The mask's bit 15 is the shifted word's 0: a set LSB steps to a challenge with bit 15 set, a clear one to the half. -/
theorem nextChal_ne_zero {c : BitVec 16} (h : c ≠ 0) : nextChal c ≠ 0 := by
  intro hzero
  by_cases hodd : c.getLsbD 0 = true
  · have htop : (nextChal c).getLsbD 15 = true := by
      rw [nextChal, if_pos hodd]
      simp
    rw [hzero] at htop
    exact absurd htop (by decide)
  · rw [nextChal_eq] at hzero
    have heven : c.toNat % 2 ≠ 1 := by simpa [BitVec.getLsbD, Nat.testBit_zero] using hodd
    rw [if_neg heven] at hzero
    have hhalf : c.toNat / 2 % 65536 = 0 := congrArg BitVec.toNat hzero
    have hlt := c.isLt
    exact h (BitVec.eq_of_toNat_eq (show c.toNat = 0 by omega))

/-- The challenge at the start of a cycle. -/
theorem State.newCycle_chal (s : State) (first : Bool) : (s.newCycle first).reg WDG_CHAL =
    (if first then 0xACE1#16 else nextChal ((s.reg WDG_CHAL).setWidth 16)).setWidth 32 := by
  unfold State.newCycle
  dsimp only
  rw [(State.raise_raised 769 _ (.refl _)).reg WDG_CHAL (by decide) (by decide) (by decide)]
  change (((if first then (0, s) else s.takeFree 11).2.setReg WDG_CHAL _).setReg WDG_TASKS _).reg WDG_CHAL = _
  rw [State.reg_setReg_other _ WDG_TASKS WDG_CHAL _ (by decide), State.reg_setReg_self]
  cases first
  · rfl
  · rfl

theorem State.wdgTick_of_starting {s : State} {first : Bool} (h : s.wdg.starting = some first) : s.wdgTick = s.newCycle first := by
  simp only [State.wdgTick, h]

theorem State.arm_chal (s : State) : s.arm.reg WDG_CHAL = 0xACE1 := by
  change ((s.setReg WDG_CHAL 0xACE1).setReg WDG_TASKS 1).reg WDG_CHAL = _
  rw [State.reg_setReg_other _ WDG_TASKS WDG_CHAL _ (by decide), State.reg_setReg_self]

/-- An accepted ARM, where the hardware does not arm the watchdog itself. -/
theorem exec_arm {s : State} {p : Path} (hans : s.answers p = true) (hearly : s.early p WDG_CTRL = false) (harm : s.armRefused = false)
    (hhw : s.hwStart = false) : ∃ (v : Word) (h : Hst), exec (.arm p) s = .next { (s.setReg WDG_CTRL v).arm with hst := h } := by
  have href : s.refused p WDG_CTRL (word [(24, 0x3D), (0, 1)]) = none := by
    change (when (_ && s.armRefused) 0) = none
    rw [harm, Bool.and_false]
    rfl
  have hdoes (v : Word) : (s.setReg WDG_CTRL v).written p WDG_CTRL (s.reg WDG_CTRL) (word [(24, 0x3D), (0, 1)]) Side.untold =
      (s.setReg WDG_CTRL v).arm := by
    change onlyIf (true && !s.hwStart) State.arm _ = _
    rw [hhw]
    rfl
  obtain ⟨v, h, hwrite⟩ := State.writeRow_acts hans hearly (by decide) (by decide) (by decide) (by decide) (by decide) href hdoes
  exact ⟨v, h, congrArg Host.Outcome.next hwrite⟩

end Sys2Proof.Machine

open Sys2Proof Sys2Proof.Machine

/-- Settles O25: arming, the step of each later cycle, and the arithmetic of the LFSR. -/
theorem watchdogChallenge : Obligations.WatchdogChallenge := by
  refine ⟨fun s p hans hearly harm hhw => ?_, fun s h => ?_, nextChal_eq, fun c => nextChal_ne_zero, by decide, by decide, by decide⟩
  · obtain ⟨v, h, hexec⟩ := exec_arm hans hearly harm hhw
    refine ⟨_, hexec, rfl, ?_, ?_⟩
    · exact State.arm_chal (s.setReg WDG_CTRL v)
    · rw [State.wdgTick_of_starting (first := true) rfl, State.newCycle_chal]
      rfl
  · rw [State.wdgTick_of_starting h, State.newCycle_chal]
    rfl

end

section
namespace Sys2Proof.Machine

/-! ### The order of the host queue (R441) -/

/-- Entry `a` goes before entry `b` or level with it, stamps counted from `o`. -/
def Precedes (o : Time) (a b : QEntry) : Prop :=
  b.prio < a.prio ∨ (b.prio = a.prio ∧ ((a.stamp - o).toNat < (b.stamp - o).toNat ∨ (a.stamp = b.stamp ∧ a.source ≤ b.source)))

theorem Precedes.refl (o : Time) (a : QEntry) : Precedes o a a := .inr ⟨rfl, .inr ⟨rfl, le_rfl⟩⟩

theorem Precedes.trans {o : Time} {a b c : QEntry} (h : Precedes o a b) (k : Precedes o b c) : Precedes o a c := by
  rcases h with h | ⟨h, h' | ⟨h', h''⟩⟩ <;> rcases k with k | ⟨k, k' | ⟨k', k''⟩⟩
  case inr.inr.inr.inr => exact .inr ⟨k.trans h, .inr ⟨h'.trans k', h''.trans k''⟩⟩
  case inr.inr.inr.inl => exact .inr ⟨k.trans h, .inl (h' ▸ k')⟩
  case inr.inl.inr.inr => exact .inr ⟨k.trans h, .inl (k' ▸ h')⟩
  case inr.inl.inr.inl => exact .inr ⟨k.trans h, .inl (h'.trans k')⟩
  all_goals exact .inl (by omega)

/-- Two stamps within 2⁶³ of an instant are in the order of their distances from it (R485). -/
theorem stamp_before_iff {o x y : Time} (hx : (x - o).toNat < 2 ^ 63) (hy : (y - o).toNat < 2 ^ 63) :
    (x - y).toInt < 0 ↔ (x - o).toNat < (y - o).toNat := by
  simp only [BitVec.toInt_eq_toNat_cond, BitVec.toNat_sub] at *
  have hx' := x.isLt
  have hy' := y.isLt
  have ho := o.isLt
  split <;> omega

theorem eq_of_sub_toNat {o x y : Time} (h : (x - o).toNat = (y - o).toNat) : x = y := by
  refine BitVec.eq_of_toNat_eq ?_
  have hx := x.isLt
  have hy := y.isLt
  have ho := o.isLt
  simp only [BitVec.toNat_sub] at h
  omega

/-- The model's comparison is that order. -/
theorem QEntry.precedes_of_before {o : Time} {a b : QEntry} (ha : (a.stamp - o).toNat < 2 ^ 63) (hb : (b.stamp - o).toNat < 2 ^ 63)
    (h : a.before b = true) : Precedes o a b := by
  simp only [QEntry.before, Bool.or_eq_true, Bool.and_eq_true, decide_eq_true_eq, stamp_before_iff ha hb] at h
  rcases h with h | ⟨h, h' | ⟨h', h''⟩⟩
  · exact .inl h
  · exact .inr ⟨h.symm, .inl h'⟩
  · exact .inr ⟨h.symm, .inr ⟨h', h''.le⟩⟩

theorem QEntry.precedes_of_not_before {o : Time} {a b : QEntry} (ha : (a.stamp - o).toNat < 2 ^ 63) (hb : (b.stamp - o).toNat < 2 ^ 63)
    (h : a.before b = false) : Precedes o b a := by
  simp only [QEntry.before, Bool.or_eq_false_iff, Bool.and_eq_false_iff, decide_eq_false_iff_not, stamp_before_iff ha hb] at h
  obtain ⟨hprio, hrest⟩ := h
  rcases hrest with hne | ⟨hstamp, htie⟩
  · exact .inl (by omega)
  · by_cases heq : a.prio = b.prio
    · refine .inr ⟨heq, ?_⟩
      by_cases hsame : (a.stamp - o).toNat = (b.stamp - o).toNat
      · have hst := eq_of_sub_toNat hsame
        exact .inr ⟨hst.symm, by rcases htie with h | h <;> [exact absurd hst h; omega]⟩
      · exact .inl (by omega)
    · exact .inl (by omega)

/-- The head of a list near an instant is one of its entries, and goes before every one. -/
theorem headEntry_spec (o : Time) : ∀ l : List QEntry, l ≠ [] → (∀ e ∈ l, (e.stamp - o).toNat < 2 ^ 63) →
    ∃ h ∈ l, headEntry l = some h ∧ ∀ e ∈ l, Precedes o h e
  | [e], _, _ => ⟨e, List.mem_singleton.mpr rfl, rfl, fun x hx => List.mem_singleton.mp hx ▸ .refl o e⟩
  | e :: f :: r, _, hnear => by
    obtain ⟨he, hrest⟩ := List.forall_mem_cons.mp hnear
    obtain ⟨h, hmem, hhead, hfirst⟩ := headEntry_spec o (f :: r) (List.cons_ne_nil f r) hrest
    have hcons : headEntry (e :: f :: r) = if h.before e then some h else some e := by simp only [headEntry.eq_2 e, hhead]
    cases hbefore : h.before e with
    | true =>
      refine ⟨h, List.mem_cons_of_mem e hmem, by rw [hcons, hbefore]; rfl, List.forall_mem_cons.mpr ⟨?_, hfirst⟩⟩
      exact QEntry.precedes_of_before (hrest h hmem) he hbefore
    | false =>
      refine ⟨e, List.mem_cons_self, by rw [hcons, hbefore]; rfl, List.forall_mem_cons.mpr ⟨.refl o e, fun x hx => ?_⟩⟩
      exact (QEntry.precedes_of_not_before (hrest h hmem) he hbefore).trans (hfirst x hx)

/-- ICU_HOST_0 shows the head entry (R447). -/
theorem State.live_host {s : State} {e : QEntry} (h : headEntry s.icu.queue = some e) : s.live ICU_HOST_0 =
    word [(31, 1), (30, bit (s.flag (ICU_SRC_AGAIN e.source))), (28, e.prio), (16, s.icu.queue.length), (0, e.source)] := by
  change s.liveIcu ICU_HOST_0 = _
  unfold State.liveIcu
  rw [if_neg (by decide), if_pos rfl, h]

/-- The fields of that word. -/
theorem bitsOf_hostWord {again prio count source : Nat} (hagain : again < 2) (hprio : prio < 4) (hcount : count < 128)
    (hsource : source < 1024) :
    bitsOf (word [(31, 1), (30, again), (28, prio), (16, count), (0, source)]).toNat 31 1 = 1 ∧
    bitsOf (word [(31, 1), (30, again), (28, prio), (16, count), (0, source)]).toNat 0 10 = source ∧
    bitsOf (word [(31, 1), (30, again), (28, prio), (16, count), (0, source)]).toNat 28 2 = prio ∧
    bitsOf (word [(31, 1), (30, again), (28, prio), (16, count), (0, source)]).toNat 16 7 = count := by
  simp only [bitsOf, word, List.foldl_cons, List.foldl_nil, BitVec.toNat_ofNat, Nat.shiftLeft_eq, Nat.shiftRight_eq_div_pow]
  omega

end Sys2Proof.Machine

open Sys2Proof Sys2Proof.Machine

/-- Settles O20, by induction on the queue (`headEntry_spec`). -/
theorem headEntryOrder : Obligations.HeadEntryOrder := by
  intro s o hne hnear
  obtain ⟨h, hmem, hhead, hfirst⟩ := headEntry_spec o s.icu.queue hne hnear
  refine ⟨h, hmem, hhead, fun e he => hfirst e he, fun hsource hprio hcount => ?_⟩
  rw [State.live_host hhead]
  exact bitsOf_hostWord (by cases s.flag (ICU_SRC_AGAIN h.source) <;> decide) hprio (by omega) hsource

end

section
namespace Sys2Proof.Machine

/-! ### Raising and delivering one source (R439 to R441) -/

theorem ICU_SRC_ne {j k : Nat} (hj : j < 1024) (hk : k < 1024) (h : j ≠ k) : ICU_SRC j ≠ ICU_SRC k := by
  unfold ICU_SRC
  omega

/-- A source's word is none of the other registers. -/
theorem ICU_SRC_ne_of {a : Nat} (h : isArr (ICU_SRC 0) 4 1024 a = false) (k : Nat) : ICU_SRC k ≠ a := fun hk => by
  rw [← hk, isArr_ICU_SRC k] at h
  cases h

/-- Another register's word leaves a source's fields. -/
theorem State.fld_src_setReg (s : State) {a : Nat} (v : Word) (ha : isArr (ICU_SRC 0) 4 1024 a = false) {f : Fld} {k : Nat}
    (hf : f.reg = ICU_SRC k) : (s.setReg a v).fld f = s.fld f := by
  unfold State.fld
  rw [hf, s.reg_setReg_other a (ICU_SRC k) v (ICU_SRC_ne_of ha k)]

/-- Driving INT_N changes no more than its level and its gap. -/
theorem State.driveInt_eq (s : State) : ∃ level gap, s.driveInt = { s with icu := { s.icu with intN := level, gapEnd := gap } } := by
  unfold State.driveInt
  dsimp only
  split
  · split
    · exact ⟨s.icu.intN, s.icu.gapEnd, rfl⟩
    · exact ⟨_, _, rfl⟩
  · split
    · exact ⟨_, _, rfl⟩
    · exact ⟨s.icu.intN, s.icu.gapEnd, rfl⟩

theorem State.chain_none (n : Nat) (s : State) : State.chain n (s, none) = s := by cases n <;> rfl

theorem State.chain_some (n : Nat) (s : State) (k : Nat) : State.chain (n + 1) (s, some k) = State.chain n (s.raiseOnce k s.now) := rfl

/-- The configuration of a source, and all of another register, stand as it is marked. -/
theorem State.fld_markPend (s : State) (k : Nat) (stamp : Time) {f : Fld} (hf : f.reg = ICU_SRC k → f.lo + f.width ≤ 30) :
    (s.markPend k stamp).fld f = s.fld f := by
  have hset {g : Fld} (hg : g.reg = ICU_SRC k) (hlo : 30 ≤ g.lo) : (s.setFld g 1).fld f = s.fld f := by
    by_cases hr : f.reg = ICU_SRC k
    · exact s.fld_setFld_beside g f 1 (hr.trans hg.symm) (.inl ((hf hr).trans hlo)) ((hf hr).trans (by decide))
    · exact s.fld_setFld_other g f 1 (fun h => hr (h.trans hg))
  unfold State.markPend
  split
  · exact hset (g := ICU_SRC_AGAIN k) rfl le_rfl
  · exact hset (g := ICU_SRC_PEND k) rfl (Nat.le_succ 30)

theorem State.flag_markPend (s : State) (k : Nat) (stamp : Time) {f : Fld} (hf : f.reg = ICU_SRC k → f.lo + f.width ≤ 30) :
    (s.markPend k stamp).flag f = s.flag f := by
  simp only [State.flag, s.fld_markPend k stamp hf]

theorem State.flag_pend_markPend (s : State) (k : Nat) (stamp : Time) : (s.markPend k stamp).flag (ICU_SRC_PEND k) = true := by
  unfold State.markPend
  split
  next h =>
    have hbeside := s.fld_setFld_beside (ICU_SRC_AGAIN k) (ICU_SRC_PEND k) 1 rfl (.inr le_rfl) le_rfl
    simpa only [State.flag, hbeside] using h
  next => exact s.flag_setFld_one (ICU_SRC_PEND k) rfl (Nat.lt_succ_self 31)

theorem State.markPend_icu (s : State) (k : Nat) (stamp : Time) :
    ∃ stamps, (s.markPend k stamp).icu = { s.icu with stamps := stamps } := by
  unfold State.markPend
  split
  · exact ⟨s.icu.stamps, rfl⟩
  · exact ⟨_, rfl⟩

/-- A disabled source goes no further than its word. -/
theorem State.raiseOnce_disabled {s : State} {k : Nat} (stamp : Time) (hen : s.flag (ICU_SRC_EN k) = false) :
    s.raiseOnce k stamp = (if s.flag (ICU_SRC_PEND k) then s.markPend k stamp else (s.markPend k stamp).unwait k, none) := by
  have hidle : (s.markPend k stamp).eligible k = false := by
    rw [State.eligible, s.flag_markPend k stamp (f := ICU_SRC_EN k) (fun _ => by simp [ICU_SRC_EN]), hen, Bool.and_false]
  unfold State.raiseOnce
  dsimp only
  split
  · rfl
  · rw [State.offer, hidle]
    rfl

/-- An eligible source of no group is delivered at once. -/
theorem State.offer_ungrouped {s : State} {k : Nat} (hel : s.eligible k = true) (hgroup : 32 ≤ s.fld (ICU_SRC_GROUP k))
    (hheld : ∀ h ∈ s.icu.held, h.1 ≠ s.fld (ICU_SRC_GROUP k)) : s.offer k = s.deliver k := by
  have hopen : s.icu.held.any (fun p => decide (p.1 = s.fld (ICU_SRC_GROUP k))) = false := by simpa using hheld
  have hoff : s.holdOff k = 0 := by rw [State.holdOff, if_neg (by omega)]
  simp only [State.offer, hel, hopen, hoff, if_true, Bool.false_eq_true, if_false]

/-- A full host queue: QFULL_EV, and the source is stuck. -/
theorem State.deliver_full {s : State} {k : Nat} (hdest : s.fld (ICU_SRC_DEST k) = 3) (hent : ∀ e ∈ s.icu.queue, e.source ≠ k)
    (hfull : 64 ≤ s.icu.queue.length) (hnew : k ∉ s.icu.stuck) :
    s.deliver k = (((s.unwait k).addStuck k).setFld ICU_STAT_QFULL_EV 1, some 6) := by
  have hnone : s.icu.queue.any (fun e => decide (e.source = k)) = false := by simpa using hent
  have hwas : s.icu.stuck.contains k = false := by simpa using hnew
  simp only [State.deliver, hdest, hnone, hwas, if_neg (Nat.not_lt.mpr hfull), Bool.false_eq_true, if_false]

/-- A host queue with room takes the source as its last entry. -/
theorem State.deliver_room {s : State} {k : Nat} (hdest : s.fld (ICU_SRC_DEST k) = 3) (hent : ∀ e ∈ s.icu.queue, e.source ≠ k)
    (hroom : s.icu.queue.length < 64) : s.deliver k = ({ s.unwait k with icu := { (s.unwait k).icu with
      queue := s.icu.queue ++ [⟨k, s.fld (ICU_SRC_PRIO k), lookupD s.icu.stamps k 0⟩] } }, none) := by
  have hnone : s.icu.queue.any (fun e => decide (e.source = k)) = false := by simpa using hent
  simp only [State.deliver, hdest, hnone, if_pos hroom, Bool.false_eq_true, if_false]
  rfl

end Sys2Proof.Machine
end

section
namespace Sys2Proof.Machine

/-! ### A full host queue (R437, R441) -/

/-- An accepted doorbell write of a source from 832 raises it. -/
theorem exec_doorbellWrite {s : State} {p : Path} {k : Nat} (hlo : 832 ≤ k) (hhi : k ≤ 1023) (hans : s.answers p = true)
    (hearly : s.early p ICU_DOORBELL = false) : ∃ (v : Word) (h : Hst),
    exec (.doorbellWrite p (BitVec.ofNat 10 k)) s = .next { (s.setReg ICU_DOORBELL v).raise k with hst := h } := by
  have hk : (BitVec.ofNat 10 k).toNat = k := Nat.mod_eq_of_lt (by omega)
  have hword : bitsOf (word [(0, k)]).toNat 0 10 = k := by
    simp only [bitsOf, word, List.foldl_cons, List.foldl_nil, BitVec.toNat_ofNat, Nat.shiftLeft_eq, Nat.shiftRight_eq_div_pow]
    omega
  have hres : reservedBit (fieldsOf ICU_DOORBELL) (word [(0, k)]) = none := by
    rw [show fieldsOf ICU_DOORBELL = [⟨0, 10, .wo, 0, 3, [(832, 1023)]⟩] from rfl]
    exact reservedBit_eq_none (by simp [FieldSpec.accepts, hword, hlo, hhi])
  have hdoes (v : Word) : (s.setReg ICU_DOORBELL v).written p ICU_DOORBELL (s.reg ICU_DOORBELL) (word [(0, k)]) Side.untold =
      (s.setReg ICU_DOORBELL v).raise k := by
    change State.ringDoorbell (bitsOf (word [(0, k)]).toNat 0 10) _ = _
    rw [hword, State.ringDoorbell, if_pos ⟨hlo, hhi⟩]
  obtain ⟨v, h, hwrite⟩ := State.writeRow_acts hans hearly (by decide) (by decide) (by decide) (by decide) hres rfl hdoes
  refine ⟨v, h, ?_⟩
  change Host.Outcome.next (s.writeRow p (adr ICU_DOORBELL) (word [(0, (BitVec.ofNat 10 k).toNat)]) Side.untold) = _
  rw [hk, hwrite]

/-- The word that a POP leaves in ICU_CTRL. -/
def State.popWord (s : State) (intEn : Bool) : Word :=
  writtenWord (fieldsOf ICU_CTRL) (s.reg ICU_CTRL) (word [(1, 1), (0, bit intEn)])

/-- An accepted POP: the head entry leaves and the queue is refilled. -/
theorem exec_icuPop {s : State} {p : Path} {intEn : Bool} {e : QEntry} (hans : s.answers p = true) (hearly : s.early p ICU_CTRL = false)
    (hhead : headEntry s.icu.queue = some e) : ∃ h : Hst, exec (.icuPop p intEn) s =
      .next { ((((s.setReg ICU_CTRL (s.popWord intEn)).clearPend e.source).refillQueue).driveInt) with hst := h } := by
  have hres : reservedBit (fieldsOf ICU_CTRL) (word [(1, 1), (0, bit intEn)]) = none := by cases intEn <;> decide
  have hpop : (word [(1, 1), (0, bit intEn)]).getLsbD 1 = true := by cases intEn <;> decide
  have hdoes (v : Word) : (s.setReg ICU_CTRL v).written p ICU_CTRL (s.reg ICU_CTRL) (word [(1, 1), (0, bit intEn)]) Side.untold =
      (((s.setReg ICU_CTRL v).clearPend e.source).refillQueue).driveInt := by
    change (onlyIf ((word [(1, 1), (0, bit intEn)]).getLsbD 1) State.icuPopHead _).driveInt = _
    rw [hpop, onlyIf, if_pos rfl, State.icuPopHead]
    dsimp only [State.setReg_icu]
    rw [hhead]
  obtain ⟨h, hwrite⟩ := State.writeRow_accepted Side.untold hans hearly (by decide) (by decide) (by decide) (by decide) hres rfl
  rw [hdoes] at hwrite
  exact ⟨h, congrArg Host.Outcome.next hwrite⟩

/-- A source that finds 64 entries, with source 6 disabled. -/
theorem State.raise_full {s : State} {k : Nat} (hruns : s.icuRuns = true) (hk : k < 1024) (hk6 : k ≠ 6) (hfull : 64 ≤ s.icu.queue.length)
    (hent : ∀ e ∈ s.icu.queue, e.source ≠ k) (hpend : s.flag (ICU_SRC_PEND k) = false) (hen : s.flag (ICU_SRC_EN k) = true)
    (hdest : s.fld (ICU_SRC_DEST k) = 3) (hgroup : 32 ≤ s.fld (ICU_SRC_GROUP k))
    (hheld : ∀ h ∈ s.icu.held, h.1 ≠ s.fld (ICU_SRC_GROUP k)) (hstuck : s.icu.stuck = []) (h6 : s.flag (ICU_SRC_EN 6) = false) :
    (s.raise k).flag (ICU_SRC_PEND k) = true ∧ (s.raise k).flag ICU_STAT_QFULL_EV = true ∧
      (s.raise k).icu.queue = s.icu.queue ∧ (s.raise k).icu.stuck = [k] := by
  obtain ⟨stamps, hicu⟩ := s.markPend_icu k s.now
  have hel : (s.markPend k s.now).eligible k = true := by
    rw [State.eligible, s.flag_pend_markPend, s.flag_markPend k s.now (f := ICU_SRC_EN k) (fun _ => by simp [ICU_SRC_EN]), hen]
    rfl
  have hsame (f : Fld) (hf : f.lo + f.width ≤ 30) := s.fld_markPend k s.now (f := f) (fun _ => hf)
  have honce : s.raiseOnce k s.now =
      ((((s.markPend k s.now).unwait k).addStuck k).setFld ICU_STAT_QFULL_EV 1, some 6) := by
    unfold State.raiseOnce
    dsimp only
    rw [hpend, if_neg Bool.false_ne_true, State.offer_ungrouped hel (by rwa [hsame (ICU_SRC_GROUP k) (by simp [ICU_SRC_GROUP])])
      (by rw [hicu, hsame (ICU_SRC_GROUP k) (by simp [ICU_SRC_GROUP])]; exact hheld)]
    exact State.deliver_full (by rw [hsame (ICU_SRC_DEST k) (by simp [ICU_SRC_DEST]), hdest]) (by rw [hicu]; exact hent)
      (by rw [hicu]; exact hfull) (by rw [hicu]; simp [hstuck])
  generalize hu : (((s.markPend k s.now).unwait k).addStuck k).setFld ICU_STAT_QFULL_EV 1 = u at honce
  have hureg (a : Nat) (ha : a ≠ ICU_STAT) : u.reg a = (s.markPend k s.now).reg a := by
    rw [← hu]
    exact State.reg_setFld_other _ _ _ _ ha
  have hsrcstat (j : Nat) : ICU_SRC j ≠ ICU_STAT := ICU_SRC_ne_of (by decide) j
  have huicu : u.icu.queue = s.icu.queue ∧ u.icu.stuck = [k] := by
    rw [← hu]
    constructor
    · change (s.markPend k s.now).icu.queue = _
      rw [hicu]
    · change (s.markPend k s.now).icu.stuck.filter _ ++ [k] = _
      rw [hicu]
      change s.icu.stuck.filter _ ++ [k] = _
      rw [hstuck]
      rfl
  have hupend : u.flag (ICU_SRC_PEND k) = true := by
    have := s.flag_pend_markPend k s.now
    simpa only [State.flag, State.fld, hureg (ICU_SRC_PEND k).reg (hsrcstat k)] using this
  have hu6 : u.flag (ICU_SRC_EN 6) = false := by
    rw [← h6, ← s.flag_markPend k s.now (f := ICU_SRC_EN 6) (fun _ => by decide)]
    simp only [State.flag, State.fld, hureg (ICU_SRC_EN 6).reg (hsrcstat 6)]
  have huqfull : u.flag ICU_STAT_QFULL_EV = true := by
    rw [← hu]
    exact State.flag_setFld_one _ _ rfl (by decide)
  obtain ⟨level, gap, hdrive⟩ := State.driveInt_eq (u.raiseOnce 6 u.now).1
  have hraise : s.raise k = { (u.raiseOnce 6 u.now).1 with icu := { (u.raiseOnce 6 u.now).1.icu with intN := level, gapEnd := gap } } := by
    rw [← hdrive, State.raise, State.raiseAt, if_pos hruns, honce, State.afterFull, State.chain_some, State.raiseOnce_disabled u.now hu6,
      State.chain_none]
  obtain ⟨stamps6, hicu6⟩ := u.markPend_icu 6 u.now
  have hreg6 (f : Fld) (hf : f.reg ≠ ICU_SRC 6) : (s.raise k).flag f = u.flag f := by
    rw [hraise, State.raiseOnce_disabled u.now hu6, ← u.flag_markPend 6 u.now (f := f) (fun h => absurd h hf)]
    split
    · rfl
    · rfl
  have hqueue6 : (s.raise k).icu.queue = u.icu.queue ∧ (s.raise k).icu.stuck = u.icu.stuck := by
    rw [hraise, State.raiseOnce_disabled u.now hu6]
    split
    · simp only [hicu6, and_self]
    · simp [State.unwait, hicu6, huicu.2, hk6]
  refine ⟨(hreg6 _ (ICU_SRC_ne hk (by decide) hk6)).trans hupend, (hreg6 _ (by decide)).trans huqfull, hqueue6.1.trans huicu.1,
    hqueue6.2.trans huicu.2⟩

theorem headEntry_mem {e : QEntry} : ∀ {l : List QEntry}, headEntry l = some e → e ∈ l
  | [], h => by cases h
  | x :: r, h => by
    cases hr : headEntry r with
    | none =>
      simp only [headEntry, hr, Option.some.injEq] at h
      exact h ▸ List.mem_cons_self
    | some y =>
      simp only [headEntry, hr] at h
      split at h
      · exact List.mem_cons_of_mem x (headEntry_mem (hr.trans h))
      · exact Option.some.inj h ▸ List.mem_cons_self

/-- Where no two entries share a source, one source's leaves alone. -/
theorem length_dropSource {l : List QEntry} {e : QEntry} (he : e ∈ l) (hnodup : l.Nodup)
    (huniq : ∀ x ∈ l, ∀ y ∈ l, x.source = y.source → x = y) :
    (l.filter (fun x => !decide (x.source = e.source))).length + 1 = l.length := by
  have hsame : l.filter (fun x => !decide (x.source = e.source)) = l.erase e := by
    rw [hnodup.erase_eq_filter]
    refine List.filter_congr fun x hx => ?_
    by_cases hxe : x = e
    · simp [hxe]
    · have hne : x.source ≠ e.source := fun h => hxe (huniq x hx e he h)
      simp [hxe, hne]
  rw [hsame, List.length_erase_of_mem he]
  have := List.length_pos_of_mem he
  omega

theorem State.clearPend_icu (s : State) (k : Nat) : (s.clearPend k).icu.queue = s.icu.queue.filter (fun e => !decide (e.source = k)) ∧
    (s.clearPend k).icu.stuck = s.icu.stuck.filter (fun e => !decide (e = k)) := ⟨rfl, rfl⟩

theorem State.reg_clearPend (s : State) {k a : Nat} (h : a ≠ ICU_SRC k) : (s.clearPend k).reg a = s.reg a := by
  change ((s.setFld (ICU_SRC_PEND k) 0).setFld (ICU_SRC_AGAIN k) 0).reg a = _
  rw [State.reg_setFld_other _ _ _ _ h, State.reg_setFld_other _ _ _ _ h]

/-- One source waits for room, and there is room: it takes the last place. -/
theorem State.refillQueue_one {s : State} {k : Nat} (hstuck : s.icu.stuck = [k]) (hel : s.eligible k = true)
    (hdest : s.fld (ICU_SRC_DEST k) = 3) (hroom : s.icu.queue.length < 64) (hent : ∀ x ∈ s.icu.queue, x.source ≠ k) :
    ∃ e : QEntry, e.source = k ∧ s.refillQueue.icu.queue = s.icu.queue ++ [e] ∧ s.refillQueue.icu.stuck = [] := by
  have hlist : (s.icu.stuck.filter (fun src => decide (s.fld (ICU_SRC_DEST src) = 3))).take (64 - s.icu.queue.length) = [k] := by
    have hpos : 64 - s.icu.queue.length ≠ 0 := by omega
    simp [hstuck, hdest, List.take_eq_self_iff, Nat.one_le_iff_ne_zero, hpos]
  have hrefill : s.refillQueue = (State.afterFull (s.deliver k)).driveInt := by
    rw [State.refillQueue, hlist, State.deliverAll, forEach, List.foldl_cons, List.foldl_nil, hel, if_pos rfl]
  obtain ⟨level, gap, hdrive⟩ := State.driveInt_eq (State.afterFull (s.deliver k))
  refine ⟨⟨k, s.fld (ICU_SRC_PRIO k), lookupD s.icu.stamps k 0⟩, rfl, ?_, ?_⟩
  · rw [hrefill, hdrive, State.deliver_room hdest hent hroom, State.afterFull, State.chain_none]
  · rw [hrefill, hdrive, State.deliver_room hdest hent hroom, State.afterFull, State.chain_none]
    simp [State.unwait, hstuck]

/-- From a full queue the head's source is cleared, and the one that waits takes its place. -/
theorem State.clearPend_refill {s : State} {k : Nat} {e : QEntry} (hk : k < 1024) (hfull : s.icu.queue.length = 64)
    (hhead : headEntry s.icu.queue = some e) (hek : e.source ≠ k) (heb : e.source < 1024)
    (huniq : ∀ x ∈ s.icu.queue, ∀ y ∈ s.icu.queue, x.source = y.source → x = y) (hnodup : s.icu.queue.Nodup)
    (hent : ∀ x ∈ s.icu.queue, x.source ≠ k) (hstuck : s.icu.stuck = [k]) (hel : s.eligible k = true)
    (hdest : s.fld (ICU_SRC_DEST k) = 3) :
    ∃ x : QEntry, x.source = k ∧ (((s.clearPend e.source).refillQueue).driveInt).icu.queue =
      s.icu.queue.filter (fun x => !decide (x.source = e.source)) ++ [x] ∧
      (((s.clearPend e.source).refillQueue).driveInt).icu.stuck = [] ∧
      (s.icu.queue.filter (fun x => !decide (x.source = e.source))).length = 63 := by
  have hlen := length_dropSource (headEntry_mem hhead) hnodup huniq
  have hfld {f : Fld} (hf : f.reg = ICU_SRC k) : (s.clearPend e.source).fld f = s.fld f := by
    simp only [State.fld, hf, s.reg_clearPend (ICU_SRC_ne hk heb hek.symm)]
  have hel' : (s.clearPend e.source).eligible k = true := by
    rw [State.eligible, State.flag, State.flag, hfld rfl, hfld rfl]
    exact hel
  obtain ⟨hqueue, hst⟩ := s.clearPend_icu e.source
  obtain ⟨x, hx, hrefill, hempty⟩ := State.refillQueue_one (s := s.clearPend e.source) (k := k)
    (by rw [hst, hstuck]; simp [hek.symm]) hel' ((hfld rfl).trans hdest) (by rw [hqueue]; omega)
    (by rw [hqueue]; exact fun y hy => hent y (List.mem_filter.mp hy).1)
  obtain ⟨level, gap, hdrive⟩ := State.driveInt_eq ((s.clearPend e.source).refillQueue)
  rw [hdrive]
  exact ⟨x, hx, hrefill.trans (by rw [hqueue]), hempty, by omega⟩

end Sys2Proof.Machine

open Sys2Proof Sys2Proof.Machine

/-- Settles O21: the doorbell finds the queue full (`State.raise_full`), the pop frees a place (`State.clearPend_refill`). -/
theorem fullQueueKeepsPending : Obligations.FullQueueKeepsPending := by
  refine ⟨fun s p k hlo hhi hans hearly hruns hfull hent hpend hen hdest hgroup hheld hstuck h6 => ?_,
    fun s p intEn k e hans hearly hk hfull hhead hek heb huniq hnodup hent hstuck hpend hen hdest => ?_⟩
  · obtain ⟨v, h, hexec⟩ := exec_doorbellWrite hlo hhi hans hearly
    have hfld {f : Fld} {j : Nat} (hf : f.reg = ICU_SRC j) := s.fld_src_setReg (a := ICU_DOORBELL) v (by decide) hf
    have hflag {f : Fld} {j : Nat} (hf : f.reg = ICU_SRC j) : (s.setReg ICU_DOORBELL v).flag f = s.flag f := by
      simp only [State.flag, hfld hf]
    have hgroup' := hfld (f := ICU_SRC_GROUP k) rfl
    exact ⟨_, hexec, State.raise_full (s := s.setReg ICU_DOORBELL v) hruns (by omega) (by omega) (by rw [State.setReg_icu, hfull]) hent
      ((hflag rfl).trans hpend) ((hflag rfl).trans hen) ((hfld rfl).trans hdest) (by rwa [hgroup']) (by rwa [hgroup']) hstuck
      ((hflag rfl).trans h6)⟩
  · obtain ⟨h, hexec⟩ := exec_icuPop (intEn := intEn) hans hearly hhead
    generalize s.popWord intEn = v at hexec
    have hfld {f : Fld} (hf : f.reg = ICU_SRC k) := s.fld_src_setReg (a := ICU_CTRL) v (by decide) hf
    have hel : (s.setReg ICU_CTRL v).eligible k = true := by
      rw [State.eligible, State.flag, State.flag, hfld rfl, hfld rfl]
      exact Bool.and_eq_true_iff.mpr ⟨hpend, hen⟩
    obtain ⟨x, hx, hqueue, hempty, hcount⟩ := State.clearPend_refill (s := s.setReg ICU_CTRL v) hk hfull hhead hek heb huniq hnodup
      hent hstuck hel ((hfld rfl).trans hdest)
    refine ⟨_, hexec, ?_, hempty, ⟨x, ?_, hx⟩, ?_⟩
    · exact (congrArg List.length hqueue).trans (by rw [List.length_append, hcount]; rfl)
    · exact hqueue ▸ List.mem_append_right _ (List.mem_singleton.mpr rfl)
    · refine hqueue ▸ fun y hy => ?_
      rcases List.mem_append.mp hy with hy | hy
      · simpa using (List.mem_filter.mp hy).2
      · rw [List.mem_singleton.mp hy, hx]
        exact hek.symm

end

section
namespace Sys2Proof.Machine

/-! ### Draining, searching and loading (R394 to R397) -/

/-- What stands where `l` was written. -/
theorem State.flashRead_flashWrite (s : State) (a : Nat) (l : List Byte) : (s.flashWrite a l).flashRead a l.length = l := by
  refine List.ext_getElem (by simp [State.flashRead]) fun i hi hl => ?_
  simp only [State.flashRead, List.getElem_map, List.getElem_range, State.flashAt_flashWrite]
  rw [if_pos (by omega), Nat.add_sub_cancel_left, List.getD_eq_getElem _ _ hl]

theorem State.sheetPartly_jnl (s : State) (slot : Nat) : (s.sheetPartly slot).jnl = s.jnl := by
  unfold State.sheetPartly
  split
  · rfl
  · rfl

/-- Making a sheet leaves the slot in progress and the head as they were, and what waits before it. -/
theorem State.sheet_keeps_drain (s : State) (type : Nat) (payload : List Byte) :
    (s.sheet type payload).jnl.writing = s.jnl.writing ∧ (s.sheet type payload).jnl.head = s.jnl.head ∧
    ∃ made, (s.sheet type payload).jnl.queue = s.jnl.queue ++ made := by
  obtain ⟨shorts, hnote⟩ := s.noteFault_eq type
  rw [State.sheet_jnl]
  by_cases hroom : s.jnl.queue.length < 32
  · rw [(State.queueSheet_room type payload (by rw [hnote]; exact hroom)).jnl, hnote]
    exact ⟨rfl, rfl, _, rfl⟩
  · rw [State.queueSheet_full type payload (by rw [hnote]; exact Nat.le_of_not_lt hroom), (State.flagRaise_raised _ _ _).jnl]
    change (s.noteFault type).loseSheet.jnl.writing = _ ∧ (s.noteFault type).loseSheet.jnl.head = _ ∧
      ∃ made, (s.noteFault type).loseSheet.jnl.queue = _
    rw [State.loseSheet_jnl, hnote]
    exact ⟨rfl, rfl, [], (List.append_nil _).symm⟩

/-- A program that fails leaves its sheet at the queue's front and goes on in the next sector. -/
theorem exec_sheetWritten_failed {s : State} {slot : Nat} {sh : Sheet} {rest : List Sheet} (hw : s.jnl.writing = some slot)
    (hq : s.jnl.queue = sh :: rest) : ∃ t, exec (.sheetWritten true) s = .next t ∧ t.jnl.writing = none ∧
    t.jnl.head = (slot / 64 + 1) * 64 % slotCount ∧ t.flag JNL_STAT_FL_ERR_EV = true ∧ t.jnl.queue.head? = some sh := by
  let u := (s.sheetPartly slot).eraseAhead slot
  let v := { u with jnl := { u.jnl with writing := none, head := (slot / 64 + 1) * 64 % slotCount } }
  have hexec : exec (.sheetWritten true) s = .next ((v.sheet 0x0A10 []).flagRaise JNL_STAT_FL_ERR_EV 616) := by
    change execSheetWritten true s = _
    simp only [execSheetWritten, hw, hq, if_true]
    rfl
  have hqueue : v.jnl.queue = sh :: rest := by
    change u.jnl.queue = _
    rw [State.eraseAhead_jnl, State.sheetPartly_jnl, hq]
  obtain ⟨hwriting, hhead, made, hmade⟩ := v.sheet_keeps_drain 0x0A10 []
  have hjnl : ((v.sheet 0x0A10 []).flagRaise JNL_STAT_FL_ERR_EV 616).jnl = (v.sheet 0x0A10 []).jnl := (State.flagRaise_raised _ _ _).jnl
  refine ⟨_, hexec, ?_, ?_, State.flag_flagRaise_self _ _ _ rfl (by decide) (by decide) (by decide) (by decide), ?_⟩
  · rw [hjnl, hwriting]
  · rw [hjnl, hhead]
  · rw [hjnl, hmade, hqueue]
    rfl

/-- An accepted write of JNL_RD_SLOT on a path begins the path's load. -/
theorem State.regWrite_slot {s : State} {p : Path} (slot : BitVec 17) (side : Side) (h : slot.toNat < 94208) :
    s.regWrite p JNL_RD_SLOT (word [(0, slot.toNat)]) side = s.jnlLoad (pathShadow p) slot.toNat := by
  have hbits : bitsOf (word [(0, slot.toNat)]).toNat 0 17 = slot.toNat := by
    simp only [bitsOf, word, List.foldl_cons, List.foldl_nil, BitVec.toNat_ofNat, Nat.shiftLeft_eq, Nat.shiftRight_eq_div_pow]
    omega
  have hres : reservedBit (fieldsOf JNL_RD_SLOT) (word [(0, slot.toNat)]) = none := by
    refine reservedBit_eq_none ?_
    rw [show fieldsOf JNL_RD_SLOT = [⟨0, 17, .rw, 0, 4, [(0, 94207)]⟩] from rfl]
    simp only [List.forall_mem_singleton, FieldSpec.accepts, hbits]
    simpa using Nat.le_of_lt_succ h
  have href : s.refused p JNL_RD_SLOT (word [(0, slot.toNat)]) = none := rfl
  unfold State.regWrite
  dsimp only
  rw [if_neg (by decide), if_neg (fun hb => absurd hb.1 (by decide)), hres, href]
  change (if JNL_RD_SLOT = JNL_RD_SLOT then s.jnlLoad _ _ else _) = _
  rw [if_pos rfl, hbits]

theorem exec_jnlRdSlot {s : State} {p : Path} {slot : BitVec 17} (hserve : s.serves p = true) (h : slot.toNat < 94208) :
    ∃ hst : Hst, exec (.jnlRdSlot p slot) s = .next { s.jnlLoad (pathShadow p) slot.toNat with hst := hst } := by
  obtain ⟨hactive, hans⟩ : s.active = true ∧ s.answers p = true := by simpa [State.serves] using hserve
  have hbus : s.busFault p true (adr JNL_RD_SLOT).toNat = none := by
    simp [State.busFault, State.early_of_active hactive, show (adr JNL_RD_SLOT).toNat % 4 = 0 from by decide,
      show windowOf (adr JNL_RD_SLOT).toNat = some .regs from by decide]
  have hwrite : s.busWrite p (adr JNL_RD_SLOT) (word [(0, slot.toNat)]) Side.untold = s.jnlLoad (pathShadow p) slot.toNat :=
    (State.busWrite_regs _ _ hans hbus (by decide)).trans (State.regWrite_slot slot _ h)
  have hrow := State.writeRow_eq p (adr JNL_RD_SLOT) (word [(0, slot.toNat)]) Side.untold s
  rw [hwrite] at hrow
  exact ⟨_, congrArg Host.Outcome.next hrow⟩

/-- The path's buffer once a slot's bytes stand in it. -/
theorem lookupD_loaded (p : Path) (b : List Byte) (s : State) {k : Nat} (h : k < 16) :
    lookupD (forEach (List.range 16) (fun k t =>
      { t with shadow := putPair t.shadow (pathShadow p, JNL_RD_W k) (BitVec.ofNat 32 (u32 b (4 * k))) }) s).shadow
      (pathShadow p, JNL_RD_W k) 0 = BitVec.ofNat 32 (u32 b (4 * k)) := by
  have hplace : ∀ i < 16, JNL_RD_W i - JNL_RD_W 0 = 4 * i := fun i hi => by simp only [JNL_RD_W]; omega
  have hmem : JNL_RD_W k ∈ (List.range 16).map JNL_RD_W := List.mem_map_of_mem (List.mem_range.mpr h)
  have hread := lookupD_forEach_freeze_mem (p := p) (v := fun a => BitVec.ofNat 32 (u32 b (a - JNL_RD_W 0))) hmem 0 s
  have hfreeze : forEach ((List.range 16).map JNL_RD_W) (fun a t => t.freeze p a (BitVec.ofNat 32 (u32 b (a - JNL_RD_W 0)))) s =
      forEach (List.range 16) (fun k t =>
        { t with shadow := putPair t.shadow (pathShadow p, JNL_RD_W k) (BitVec.ofNat 32 (u32 b (4 * k))) }) s :=
    List.foldl_map.trans (List.foldl_ext _ _ _ fun t i hi => by
      simp only [State.freeze, hplace i (List.mem_range.mp hi)])
  rwa [hplace k h, hfreeze] at hread

end Sys2Proof.Machine

open Sys2Proof Sys2Proof.Machine

/-- Settles O44, a command at a time. -/
theorem journalCommandsComplete : Obligations.JournalCommandsComplete := by
  refine fun s => ⟨fun hmay hsearch hqueue hwriting hdue => ?_, fun slot sh rest hw hq hlost => ?_,
    fun slot sh rest hw hq => exec_sheetWritten_failed hw hq, fun hruns hsearch hnone hqueue => ?_, fun b k hruns hsearch hsome => ?_,
    fun path slot hserve hslot => ?_, fun path slot hload => ?_⟩
  case refine_1 =>
    have hgo : s.mayDrain && !s.jnl.searching && !s.jnl.queue.isEmpty && s.jnl.writing.isNone &&
        decide (s.jnl.drainAt + 100 * coreUs ≤ s.clk.core) := by
      rw [show 100 * coreUs = 24000 from rfl]
      simpa [hmay, hsearch, hqueue, hwriting, List.isEmpty_iff] using hdue
    exact ⟨_, congrArg Host.Outcome.next (if_pos hgo), rfl, rfl, rfl, rfl, rfl⟩
  case refine_2 =>
    refine ⟨_, exec_sheetWritten hw hq hlost, ?_, rfl, rfl, State.eraseAhead_regs _ _⟩
    rw [← sh.length_bytes]
    exact State.flashRead_flashWrite _ _ _
  case refine_3 =>
    have hgo : (s.jnl.searching && s.supervisorRuns) = true := by rw [hsearch, hruns]; rfl
    refine ⟨_, congrArg Host.Outcome.next (if_pos hgo), rfl, ?_, ?_, rfl⟩
    · rw [hnone]
    · rw [hnone, hqueue]
      rfl
  case refine_4 =>
    have hgo : (s.jnl.searching && s.supervisorRuns) = true := by rw [hsearch, hruns]; rfl
    refine ⟨_, congrArg Host.Outcome.next (if_pos hgo), rfl, ?_, fun hqueue => ?_, rfl⟩
    · rw [hsome]
      rfl
    · rw [hsome, hqueue]
      rfl
  case refine_5 =>
    obtain ⟨hst, hexec⟩ := exec_jnlRdSlot hserve hslot
    exact ⟨_, hexec, rfl, rfl⟩
  case refine_6 =>
    let u := { s with jnl := { s.jnl with loads := dropPair s.jnl.loads (pathShadow path) } }
    let v := forEach (List.range 16) (fun k t =>
      { t with shadow := putPair t.shadow (pathShadow path, JNL_RD_W k) (BitVec.ofNat 32 (u32 (s.slotBytes slot) (4 * k))) }) u
    have hexec : exec (.jnlRdLoaded path) s = .next (v.raise 618) := by
      change execJnlRdLoaded path s = _
      simp only [execJnlRdLoaded, hload]
      rfl
    have hraised := State.raise_raised 618 v (.refl v)
    refine ⟨_, hexec, by rw [hraised.jnl]; rfl, fun k hk => ?_⟩
    rw [show (v.raise 618).shadow = v.shadow from hraised.parts .shadow]
    exact lookupD_loaded path _ u hk

end

section
namespace Sys2Proof.Machine

/-! ### Frames of the supply path -/

/-- From `s` to `t` no more changed than the supply path may (R345 to R350). -/
abbrev PathFrame (s t : State) : Prop := Within [CPM_PP_STAT] [.cpm, .pins] s t

namespace PathFrame

variable {σ s : State}

theorem cpm (h : PathFrame σ s) {x : Cpm} : PathFrame σ { s with cpm := x } := Within.cpm (by decide) h

theorem driveAux (h : PathFrame σ s) : PathFrame σ s.driveAux := .ite (.pins (by decide) h) h

theorem driveGates {a b : Bool} (h : PathFrame σ s) : PathFrame σ (s.driveGates a b) := .ite (.pins (by decide) h) h

theorem setUse {u : Nat} (h : PathFrame σ s) : PathFrame σ (s.setUse u) :=
  driveAux (.onlyIf (fun _ hu => .raise (.setFld (by decide) hu)) (driveGates h))

theorem beginHandover {b planned : Bool} (h : PathFrame σ s) : PathFrame σ (s.beginHandover b planned) := driveGates (cpm h)

theorem choosePath (h : PathFrame σ s) : PathFrame σ s.choosePath :=
  .ite h (.ite (.ite (setUse h) (.ite (setUse h) (setUse h))) (.ite (beginHandover h) h))

theorem restartQual {b : Bool} (h : PathFrame σ s) : PathFrame σ (s.restartQual b) := cpm h

/-- What of a source's qualification changes is a field of CPM_PP_STAT. -/
theorem setQual {b : Bool} {v : Nat} (h : PathFrame σ s) : PathFrame σ (s.setFld (qualFld b) v) := .setFld (by cases b <;> decide) h

theorem setLong {b : Bool} {v : Nat} (h : PathFrame σ s) : PathFrame σ (s.setFld (longFld b) v) := .setFld (by cases b <;> decide) h

theorem loseSource {b : Bool} (h : PathFrame σ s) : PathFrame σ (s.loseSource b) := by
  have hlost : PathFrame σ (onlyIf (s.qualified b) (fun t => (t.setFld (qualFld b) 0).raise 583) (s.restartQual b)) :=
    .onlyIf (fun _ hu => .raise (setQual hu)) (restartQual h)
  exact .ite (.sheet (.flagRaise (by decide) (setLong (cpm hlost)))) (cpm hlost)

end PathFrame

theorem exec_sourceQualified_within {s t : State} {b : Bool} (h : exec (.sourceQualified b) s = .next t) : PathFrame s t := by
  obtain rfl := Host.Outcome.next.inj h
  exact .ite (PathFrame.driveAux (.choosePath (.cpm (.raise (PathFrame.setQual (.refl s)))))) (.refl s)

theorem exec_sourceLost_within {s t : State} {b : Bool} (h : exec (.sourceLost b) s = .next t) : PathFrame s t := by
  obtain rfl := Host.Outcome.next.inj h
  have hlost : PathFrame s (s.loseSource b) := .loseSource (.refl s)
  refine .ite ?_ (.ite hlost (.refl s))
  split
  · exact .ite (.ite (PathFrame.beginHandover hlost) (PathFrame.setUse (.cpm hlost))) (.refl s)
  · have hev : PathFrame s (((s.loseSource b).setFld CPM_PP_STAT_LOSS_EV 1).sheet (if b then 0x0931 else 0x0930) []) :=
      .sheet (.setFld (by decide) hlost)
    exact .ite (PathFrame.driveAux (.ite (PathFrame.beginHandover hev) (PathFrame.setUse hev))) hlost

theorem exec_sourceOv_within {s t : State} {b : Bool} (h : exec (.sourceOv b) s = .next t) : Within [CPM_PP_STAT] [] s t := by
  obtain rfl := Host.Outcome.next.inj h
  exact .ite (.sheet (.flagRaise (by decide) (.refl s))) (.refl s)

theorem exec_longQualEnd_within {s t : State} {b : Bool} (h : exec (.longQualEnd b) s = .next t) :
    Within [CPM_PP_STAT] [.cpm] s t := by
  obtain rfl := Host.Outcome.next.inj h
  exact .ite (.cpm (by decide) (.setFld (by cases b <;> decide) (.refl s))) (.refl s)

theorem exec_handoverDone_within {s t : State} (h : exec .handoverDone s = .next t) : PathFrame s t := by
  obtain rfl := Host.Outcome.next.inj h
  split
  · exact .refl s
  · exact .choosePath (.setFld (by decide) (.bump (by decide)
      (.forEach (fun _ _ hu => PathFrame.restartQual hu) (PathFrame.setUse (.cpm (.refl s))))))

theorem exec_ppPrefWrite_within {s t : State} {p : Path} {pref auxMode : Bool} (h : exec (.ppPrefWrite p pref auxMode) s = .next t) :
    Within (busErrRegs ++ [CPM_CFG_ERR_INFO, CPM_CHG_STAT, CPM_PP_CTRL, CPM_PP_STAT]) (portParts p ++ [.cpm, .pins]) s t := by
  obtain rfl := Host.Outcome.next.inj h
  exact State.writeRow_frame (by decide) (by decide) (by decide) fun v =>
    .trans (.setReg (by decide) (.refl s)) ((PathFrame.choosePath (.driveAux (.refl _))).weaken (by decide) (by decide))

/-! ### Frames of charge sessions -/

/-- The registers that charging writes, its leader's target among them (R358 to R364). -/
def chargeRegs : List Nat := [BRK_STAT 0, BRK_TARGET 0, CPM_CHG_LIM, CPM_CHG_STAT, CPM_CHG_TIME]

/-- From `s` to `t` no more changed than a session's end may (R364). -/
abbrev SessionEndFrame (s t : State) : Prop := Within [BRK_STAT 0, BRK_TARGET 0, CPM_CHG_STAT, CPM_CHG_TIME] [.brk, .cpm, .pins] s t

/-- From `s` to `t` no more changed than a search of the limit may (R362). -/
abbrev SearchFrame (s t : State) : Prop := Within [CPM_CHG_LIM, CPM_CHG_STAT] [.cpm] s t

/-- From `s` to `t` no more changed than an evaluation may (R360 to R363). -/
abbrev ChargeFrame (s t : State) : Prop := Within chargeRegs [.brk, .cpm, .pins] s t

theorem Within.putTarget {R : List Nat} {P : List Part} {σ s : State} {n target src : Nat} {loop : Bool} (hstat : BRK_STAT 0 ∈ R)
    (htarget : BRK_TARGET 0 ∈ R) (hbrk : .brk ∈ P) (h : Within R P σ s) : Within R P σ (s.putTarget n loop target src) := by
  have hnamed : ∀ a ∈ [BRK_STAT n, BRK_TARGET n], named R a = true := by
    simp only [List.mem_cons, List.not_mem_nil, or_false, forall_eq_or_imp, forall_eq]
    exact ⟨named_array (stride := 0x1000) (count := 16) n hstat (by decide) (by decide) (by decide),
      named_array (stride := 0x1000) (count := 16) n htarget (by decide) (by decide) (by decide)⟩
  have hput := (s.putTarget_frame n loop target src).1.absorb (own' := []) (fun a ha => .inr (hnamed a ha)) (List.nil_subset _)
  exact h.trans (hput.mono (List.Subset.refl _) (List.Subset.refl _) (List.cons_subset.mpr ⟨hbrk, List.nil_subset _⟩))

theorem State.endSession_frame (reason : Nat) (s : State) : SessionEndFrame s (s.endSession reason) := by
  unfold State.endSession
  refine .ite ?_ (.refl s)
  extract_lets dur t0 shown cpm closed written driven
  have hclosed : SessionEndFrame s closed :=
    .cpm (by decide) (.setReg (by decide) (.setFld (by decide) (.setFld (by decide) (.setFld (by decide) (.setFld (by decide) (.refl s))))))
  have hwritten : SessionEndFrame s written := .ite (.putTarget (by decide) (by decide) (by decide) hclosed) hclosed
  exact .raise (.flagRaise (by decide) (.sheet (.ite (.pins (by decide) hwritten) hwritten)))

namespace SearchFrame

variable {σ s : State}

theorem cpm (h : SearchFrame σ s) {x : Cpm} : SearchFrame σ { s with cpm := x } := Within.cpm (by decide) h

theorem showUnits {f : Fld} {hi v : Int} (hf : f.reg = CPM_CHG_LIM) (h : SearchFrame σ s) : SearchFrame σ (s.showUnits f hi v) :=
  .ite (.setFld (by rw [hf]; decide) h) (.setFld (by rw [hf]; decide) (.takeFree h))

theorem takeSearchLimit {i : Int} (h : SearchFrame σ s) : SearchFrame σ (s.takeSearchLimit i) := showUnits rfl (cpm h)

theorem endSearch (h : SearchFrame σ s) : SearchFrame σ s.endSearch := .setFld (by decide) (cpm h)

theorem searchRaise (h : SearchFrame σ s) : SearchFrame σ s.searchRaise :=
  .ite (endSearch (takeSearchLimit h)) (cpm (takeSearchLimit h))

theorem beginSearch (h : SearchFrame σ s) : SearchFrame σ s.beginSearch := searchRaise (.setFld (by decide) (cpm h))

theorem setChargePhase {p : Nat} (h : SearchFrame σ s) : SearchFrame σ (s.setChargePhase p) := .ite h (.raise (.setFld (by decide) h))

theorem charge (h : SearchFrame σ s) : ChargeFrame σ s := h.weaken (by decide) (by decide)

end SearchFrame

namespace ChargeFrame

variable {σ s : State}

theorem cpm (h : ChargeFrame σ s) {x : Cpm} : ChargeFrame σ { s with cpm := x } := Within.cpm (by decide) h

theorem setChargePhase {p : Nat} (h : ChargeFrame σ s) : ChargeFrame σ (s.setChargePhase p) :=
  h.trans (SearchFrame.charge (.setChargePhase (.refl s)))

theorem endSession {reason : Nat} (h : ChargeFrame σ s) : ChargeFrame σ (s.endSession reason) :=
  h.trans ((s.endSession_frame reason).weaken (by decide) (by decide))

theorem managerWrite {loop : Bool} {v : Int} (h : ChargeFrame σ s) : ChargeFrame σ (s.managerWrite loop v) :=
  .ite (.putTarget (by decide) (by decide) (by decide) (cpm h)) (.putTarget (by decide) (by decide) (by decide) (.takeFree (width := 16) (cpm h)))

theorem termination {low : Bool} (h : ChargeFrame σ s) : ChargeFrame σ (s.termination low) :=
  .ite (.ite (endSession h) (cpm h)) (cpm h)

theorem evalConverter (h : ChargeFrame σ s) : ChargeFrame σ s.evalConverter :=
  .ite (.ite h (managerWrite h)) (.ite (cpm (setChargePhase (managerWrite h))) (termination h))

theorem evalCharger (h : ChargeFrame σ s) : ChargeFrame σ s.evalCharger :=
  .ite (endSession (.sheet h)) (.ite (endSession (.sheet h)) (termination h))

end ChargeFrame

theorem exec_chargeEval_within {s t : State} (h : exec .chargeEval s = .next t) : ChargeFrame s t := by
  obtain rfl := Host.Outcome.next.inj h
  have hshown : ChargeFrame s { s with cpm := { s.cpm with evaluated := s.nowU * 100 / 2 ^ 28 } }.showLimit :=
    SearchFrame.charge (.showUnits rfl (.cpm (.refl s)))
  exact .ite (.ite (ChargeFrame.evalConverter hshown) (ChargeFrame.evalCharger hshown)) (.refl s)

theorem exec_searchDwellEnd_within {s t : State} (h : exec .searchDwellEnd s = .next t) : SearchFrame s t := by
  obtain rfl := Host.Outcome.next.inj h
  exact .ite (.ite (.flagRaise (by decide) (SearchFrame.endSearch (.takeSearchLimit (.refl s)))) (SearchFrame.searchRaise (.refl s))) (.refl s)

theorem exec_searchRepeat_within {s t : State} (h : exec .searchRepeat s = .next t) : SearchFrame s t := by
  obtain rfl := Host.Outcome.next.inj h
  exact .ite (SearchFrame.beginSearch (.refl s)) (.refl s)

theorem exec_sessionTmax_within {s t : State} (h : exec .sessionTmax s = .next t) : SessionEndFrame s t := by
  obtain rfl := Host.Outcome.next.inj h
  exact .ite (.trans (.sheet (.refl s)) (State.endSession_frame 3 _)) (.refl s)

theorem State.chargeStart_within (s : State) : Within [CPM_CHG_LIM, CPM_CHG_STAT] [.cpm, .pins] s s.chargeStart := by
  unfold State.chargeStart
  extract_lets why cpm t0 t
  have ht : SearchFrame s t := .setChargePhase (.raise (SearchFrame.takeSearchLimit (.cpm (.refl s))))
  have hwide : Within [CPM_CHG_LIM, CPM_CHG_STAT] [.cpm, .pins] s t := ht.weaken (List.Subset.refl _) (by decide)
  refine .ite (.flagRaise (by decide) (.setFld (by decide) (.refl s))) (.ite ?_ (.ite (.pins (by decide) hwide) hwide))
  exact (SearchFrame.beginSearch (.setFlag (by decide) ht)).weaken (List.Subset.refl _) (by decide)

theorem exec_start_within {s t : State} {p : Path} (h : exec (.start p) s = .next t) :
    Within (busErrRegs ++ [CPM_CFG_ERR_INFO, CPM_CHG_LIM, CPM_CHG_STAT, CPM_CTRL]) (portParts p ++ [.cpm, .pins]) s t := by
  obtain rfl := Host.Outcome.next.inj h
  exact State.writeRow_frame (by decide) (by decide) (by decide) fun v =>
    .trans (.setReg (by decide) (.refl s)) ((State.chargeStart_within _).weaken (by decide) (by decide))

theorem exec_stop_within {s t : State} {p : Path} (h : exec (.stop p) s = .next t) :
    Within (busErrRegs ++ [BRK_STAT 0, BRK_TARGET 0, CPM_CFG_ERR_INFO, CPM_CHG_STAT, CPM_CHG_TIME, CPM_CTRL])
      (portParts p ++ [.brk, .cpm, .pins]) s t := by
  obtain rfl := Host.Outcome.next.inj h
  exact State.writeRow_frame (by decide) (by decide) (by decide) fun v =>
    .trans (.setReg (by decide) (.refl s)) ((State.endSession_frame 1 _).weaken (by decide) (by decide))

/-! ### The frame of an action's end -/

/-- From `s` to `t` no more changed than the end of an action may (R237). -/
abbrev ActionFrame (s t : State) : Prop := Within [SEQ_EV, SEQ_STAT] [.pins, .seq] s t

theorem State.passMarks_frame (l : List Action) (s : State) : ActionFrame s (State.passMarks l s) := by
  induction l generalizing s with
  | nil => exact .seq (by decide) (.refl s)
  | cons a r ih => exact .ite ((Within.ite (.refl s) (.setFld (by decide) (.refl s))).trans (ih _)) (.seq (by decide) (.refl s))

theorem State.endRun_frame (s : State) : ActionFrame s s.endRun := by
  unfold State.endRun
  extract_lets idle
  have hidle (u : State) (hu : ActionFrame s u) : ActionFrame s (idle u) := .seqRefresh (by decide) (.seq (by decide) hu)
  split
  · exact .refl s
  · exact .ite (.raise (hidle _ (.pins (by decide) (.refl s)))) (.refl s)
  · exact .setFld (by decide) (hidle _ (.pins (by decide) (.refl s)))
  · exact .send (.setFld (by decide) (hidle _ (.refl s)))
  · exact .send (.flagRaise (by decide) (.setFld (by decide) (hidle _ (.seq (by decide) (.refl s)))))

theorem State.finishAction_frame (s : State) : ActionFrame s s.finishAction := by
  have hdone : ActionFrame s { s with seq := { s.seq with todo := s.seq.todo.drop 1, wait := .none } } := .seq (by decide) (.refl s)
  unfold State.finishAction State.settleStep
  extract_lets done t
  have ht : ActionFrame s t := (hdone.trans (State.passMarks_frame _ _)).trans (.ite (.pins (by decide) (.refl _)) (.refl _))
  exact .ite (ht.trans (State.endRun_frame t)) ht

theorem exec_prechargeOffTimer_within {s t : State} (h : exec .prechargeOffTimer s = .next t) :
    Within [SEQ_EV, SEQ_STAT] [.cpm, .pins, .seq] s t := by
  obtain rfl := Host.Outcome.next.inj h
  refine .ite ?_ (.refl s)
  have hopen (x : Pins) (y : Cpm) : Within [SEQ_EV, SEQ_STAT] [.cpm, .pins, .seq] s { s with pins := x, cpm := y } :=
    have hpins : Within [SEQ_EV, SEQ_STAT] [.cpm, .pins, .seq] s { s with pins := x } := .pins (by decide) (.refl s)
    .cpm (by decide) hpins
  exact .ite ((hopen _ _).trans ((State.finishAction_frame _).weaken (List.Subset.refl _) (by decide))) (hopen _ _)

theorem exec_servicePress_within {s t : State} (h : exec .servicePress s = .next t) : Within [CPM_SW_STAT] [.cpm] s t := by
  obtain rfl := Host.Outcome.next.inj h
  exact .ite (.setFld (by decide) (.cpm (by decide) (.refl s))) (.refl s)

end Sys2Proof.Machine

open Sys2Proof Sys2Proof.Machine

/-- Settles O57, a command at a time. -/
theorem frameChargeAndPath : Obligations.FrameChargeAndPath :=
  ⟨fun _ _ _ h => exec_sourceQualified_within h, fun _ _ _ h => exec_sourceLost_within h, fun _ _ _ h => exec_sourceOv_within h,
    fun _ _ _ h => exec_longQualEnd_within h, fun _ _ _ _ _ h => exec_ppPrefWrite_within h, fun _ _ _ h => exec_start_within h,
    fun _ _ _ h => exec_stop_within h, fun _ _ h => exec_handoverDone_within h, fun _ _ h => exec_prechargeOffTimer_within h,
    fun _ _ h => exec_chargeEval_within h, fun _ _ h => exec_searchDwellEnd_within h, fun _ _ h => exec_searchRepeat_within h,
    fun _ _ h => exec_sessionTmax_within h, fun _ _ h => exec_servicePress_within h⟩

end

section
namespace Sys2Proof.Machine

/-! ### Frames of the link -/

/-- From `s` to `t` no more changed than the registers and parts named, and of the link the pieces named. -/
abbrev LinkFrame (R : List Nat) (P : List Part) (L : List LnkPart) (s t : State) : Prop := Within R P s t ∧ LnkWithin L s t

theorem LnkPart.same_refl (q : LnkPart) (s : State) : q.same s s := by cases q <;> simp [LnkPart.same]

/-- The pieces depend on the link alone. -/
theorem LnkPart.same_congr {q : LnkPart} {s t u : State} (h : t.lnk = u.lnk) (k : q.same s t) : q.same s u := by
  cases q <;> simpa [LnkPart.same, ← h] using k

theorem LnkPart.same_trans {q : LnkPart} {s t u : State} (h : q.same s t) (k : q.same t u) : q.same s u := by
  cases q <;> simp_all [LnkPart.same]

/-- Where the link stands as a part, so do its pieces. -/
theorem Part.pieces {s t : State} (h : Part.lnk.same s t) (q : LnkPart) : q.same s t := by
  have hlnk : t.lnk = { s.lnk with out := t.lnk.out, events := t.lnk.events, fwd := t.lnk.fwd } := h
  cases q <;> simp only [LnkPart.same] <;> rw [hlnk] <;> simp

namespace LinkFrame

variable {R : List Nat} {P : List Part} {L : List LnkPart} {σ s t : State}

theorem refl (s : State) : LinkFrame R P L s s := ⟨.refl s, fun q _ => q.same_refl s⟩

theorem trans (h : LinkFrame R P L σ s) (k : LinkFrame R P L s t) : LinkFrame R P L σ t :=
  ⟨h.1.trans k.1, fun q hq => LnkPart.same_trans (h.2 q hq) (k.2 q hq)⟩

theorem weaken {R' : List Nat} {P' : List Part} {L' : List LnkPart} (hR : R ⊆ R') (hP : P ⊆ P') (hL : L ⊆ L')
    (h : LinkFrame R P L s t) : LinkFrame R' P' L' s t := ⟨h.1.weaken hR hP, fun q hq => h.2 q fun hm => hq (hL hm)⟩

theorem ite {c : Prop} [Decidable c] (hs : LinkFrame R P L σ s) (ht : LinkFrame R P L σ t) :
    LinkFrame R P L σ (if c then s else t) := by
  split
  · exact hs
  · exact ht

theorem onlyIf {b : Bool} {f : State → State} (hf : ∀ u, LinkFrame R P L σ u → LinkFrame R P L σ (f u)) (h : LinkFrame R P L σ s) :
    LinkFrame R P L σ (onlyIf b f s) := ite (hf s h) h

theorem forEach {α : Type} {l : List α} {f : α → State → State} (hf : ∀ a u, LinkFrame R P L σ u → LinkFrame R P L σ (f a u))
    (h : LinkFrame R P L σ s) : LinkFrame R P L σ (forEach l f s) := forEach_induction (fun a _ => hf a) h

/-- What leaves the link as a part keeps every piece of it. -/
theorem step (hlnk : Part.lnk.same s t) (k : Within R P s t) (h : LinkFrame R P L σ s) : LinkFrame R P L σ t :=
  h.trans ⟨k, fun q _ => Part.pieces hlnk q⟩

/-- The same, of a narrower frame without the link. -/
theorem beside {R' : List Nat} {P' : List Part} (k : Within R' P' s t) (hlnk : .lnk ∉ P') (hR : R' ⊆ R) (hP : P' ⊆ P)
    (h : LinkFrame R P L σ s) : LinkFrame R P L σ t := h.step (k.2 .lnk hlnk) (k.weaken hR hP)

theorem of_raised (k : Raised s t) (h : LinkFrame R P L σ s) : LinkFrame R P L σ t := h.step (k.parts .lnk) (k.withinAt [] R P)

/-! #### Registers -/

theorem setReg {a : Nat} {v : Word} (ha : named R a = true) (h : LinkFrame R P L σ s) : LinkFrame R P L σ (s.setReg a v) :=
  h.step (Part.same_setReg .lnk s a v) (.setReg ha (.refl s))

theorem setFld {f : Fld} {v : Nat} (hf : named R f.reg = true) (h : LinkFrame R P L σ s) : LinkFrame R P L σ (s.setFld f v) :=
  setReg hf h

theorem setFlag {f : Fld} {b : Bool} (hf : named R f.reg = true) (h : LinkFrame R P L σ s) : LinkFrame R P L σ (s.setFlag f b) :=
  setFld hf h

theorem bump {f : Fld} (hf : named R f.reg = true) (h : LinkFrame R P L σ s) : LinkFrame R P L σ (s.bump f) := ite (setFld hf h) h

/-! #### Reports -/

theorem raise {src : Nat} (h : LinkFrame R P L σ s) : LinkFrame R P L σ (s.raise src) := of_raised (State.raise_raised src s (.refl s)) h

theorem flagRaise {f : Fld} {src : Nat} (hf : named R f.reg = true) (h : LinkFrame R P L σ s) : LinkFrame R P L σ (s.flagRaise f src) :=
  raise (setFld hf h)

theorem sheet {type : Nat} {payload : List Byte} (h : LinkFrame R P L σ s) : LinkFrame R P L σ (s.sheet type payload) :=
  h.beside (State.sheet_within type payload s) (by decide) (List.nil_subset _) (List.nil_subset _)

theorem put {port type dest src hops tag : Nat} {both : Bool} {payload : List Byte} (h : LinkFrame R P L σ s) :
    LinkFrame R P L σ (s.put port type dest src hops tag both payload) := of_raised (State.put_raised _ _ _ _ _ _ _ _ s (.refl s)) h

theorem emit {port type dest tag : Nat} {both : Bool} {payload : List Byte} (h : LinkFrame R P L σ s) :
    LinkFrame R P L σ (s.emit port type dest tag both payload) := put h

theorem send {type mode : Nat} {both : Bool} {payload : List Byte} (h : LinkFrame R P L σ s) :
    LinkFrame R P L σ (s.send type mode both payload) := of_raised (State.send_raised type mode both payload s (.refl s)) h

theorem sendTo {type target tag : Nat} {payload : List Byte} (h : LinkFrame R P L σ s) :
    LinkFrame R P L σ (s.sendTo type target tag payload) := emit h

theorem takeFree {width : Nat} (h : LinkFrame R P L σ s) : LinkFrame R P L σ (s.takeFree width).2 :=
  h.step rfl (.takeFree (width := width) (.refl s))

theorem forwardStuck (h : LinkFrame R P L σ s) : LinkFrame R P L σ s.forwardStuck := by
  refine of_raised (State.driveInt_raised _ (forEach_raised (fun src u hu => ?_) (.refl s))) h
  split
  · exact State.chain_raised 400 _ (State.deliver_raised u src hu)
  · exact State.unwait_raised src u hu

theorem forward {f : FrameHead} {type src : Nat} {both : Bool} {payload : List Byte} (h : LinkFrame R P L σ s) :
    LinkFrame R P L σ (s.forward f type src both payload) := ite (put h) h

theorem relay {f : FrameHead} {type src : Nat} {both : Bool} {payload : List Byte} (h : LinkFrame R P L σ s) :
    LinkFrame R P L σ (s.relay f type src both payload) := ite (forEach (fun _ _ hu => put hu) (forward h)) (forward h)

theorem passOn {f : FrameHead} {type src : Nat} {both : Bool} {payload : List Byte} (h : LinkFrame R P L σ s) :
    LinkFrame R P L σ (s.passOn f type src both payload) := ite (relay h) h

/-! #### Pieces -/

/-- An update of one piece of the link. -/
theorem piece (q : LnkPart) {x : Lnk} (hP : .lnk ∈ P) (hq : q ∈ L) (hrest : ∀ r, r ≠ q → r.same s { s with lnk := x })
    (h : LinkFrame R P L σ s) : LinkFrame R P L σ { s with lnk := x } :=
  h.trans ⟨(Within.refl s).update .lnk hP rfl fun r hr => by cases r <;> simp_all [Part.same],
    fun r hr => hrest r fun e => hr (e ▸ hq)⟩

theorem enumeration {x : Lnk} (hP : .lnk ∈ P) (hL : .enumeration ∈ L) (hx : x = { s.lnk with
      pass := x.pass, passAt := x.passAt, candidate := x.candidate, reports := x.reports, table := x.table, heads := x.heads
      claims := x.claims, assigned := x.assigned, named := x.named, others := x.others, claimSeen := x.claimSeen, late := x.late
      enumAt := x.enumAt }) (h : LinkFrame R P L σ s) : LinkFrame R P L σ { s with lnk := x } :=
  h.piece .enumeration hP hL fun r hr => by rw [hx]; cases r <;> simp_all [LnkPart.same]

theorem setRing {trunk : Bool} {r : Ring} (hP : .lnk ∈ P) (hstring : .string ∈ L) (htrunk : .trunk ∈ L) (h : LinkFrame R P L σ s) :
    LinkFrame R P L σ (s.setRing trunk r) :=
  ite (h.piece .trunk hP htrunk fun q hq => by cases q <;> simp_all [LnkPart.same])
    (h.piece .string hP hstring fun q hq => by cases q <;> simp_all [LnkPart.same])

end LinkFrame

/-- The frame of a command that is one write of the link's: its own effect, beside a bus error and its block's CFG_ERR. -/
theorem State.writeRow_linkFrame {R : List Nat} {P : List Part} {L : List LnkPart} {p : Path} {a : Nat} {w : Word} {side : Side} {s : State}
    (hplace : storesWord a = true) (hbus : busErrRegs ⊆ R)
    (hcfg : named R (cfgErrOf a).1.reg = true ∧ named R (cfgErrOf a).2.1 = true)
    (hacc : ∀ v, LinkFrame R P L s ((s.setReg a v).written p a (s.reg a) w side)) :
    LinkFrame R (portParts p ++ P) L s (s.writeRow p (adr a) w side) := by
  have hpieces : LnkWithin L s (s.busWrite p (adr a) w side) :=
    State.busWrite_cases (C := LnkWithin L s) hplace (fun q _ => q.same_refl s)
      (fun k q _ => Part.pieces ((State.busErr_within p k (adr a) s).2 .lnk (by decide)) q)
      (fun b q _ => Part.pieces ((State.cfgErr_withinAt a b s [] []).2 .lnk (by decide)) q) (fun v => (hacc v).2)
  refine ⟨State.writeRow_frame hplace hbus hcfg fun v => (hacc v).1, fun q hq => LnkPart.same_congr ?_ (hpieces q hq)⟩
  rw [State.writeRow_eq]

end Sys2Proof.Machine
end

section
namespace Sys2Proof.Machine

/-! ### Frames of ports and rings (R403, R405, R407) -/

/-- From `s` to `t` no more changed than a ring's state, what the device shows of it, and the way to its time parent. -/
abbrev RingFrame (s t : State) : Prop := LinkFrame [LNK_STAT, LNK_SYNC] [.lnk] [.string, .trunk] s t

namespace RingFrame

variable {σ s : State}

theorem setRing {trunk : Bool} {r : Ring} (h : RingFrame σ s) : RingFrame σ (s.setRing trunk r) :=
  LinkFrame.setRing (by decide) (by decide) (by decide) h

theorem showParent (h : RingFrame σ s) : RingFrame σ s.showParent :=
  .ite (.setFld (by decide) h) (.setFld (by decide) (.setFld (by decide) h))

theorem setOpen {trunk opened : Bool} (h : RingFrame σ s) : RingFrame σ (s.setFlag (openFld trunk) opened) :=
  .setFlag (by cases trunk <;> decide) h

theorem showRing {trunk opened : Bool} (h : RingFrame σ s) : RingFrame σ (s.showRing trunk opened) :=
  .ite (showParent h) (.raise (showParent (.setFld (by decide) (setOpen h))))

theorem declareRing {trunk opened : Bool} (h : RingFrame σ s) : RingFrame σ (s.declareRing trunk opened) :=
  .ite (showParent h) (.sheet (.send (setRing (showRing h))))

theorem portLost {p : Nat} (h : RingFrame σ s) : RingFrame σ (s.portLost p) :=
  .ite (declareRing (setRing (.send h))) (showRing (setRing (.send h)))

theorem walkedRing {trunk opened : Bool} {n : Nat} (h : RingFrame σ s) : RingFrame σ (s.walkedRing trunk opened n) :=
  .ite (declareRing h) (.ite (showParent (setRing h)) (showParent h))

end RingFrame

theorem State.showParent_within (s : State) : Within [LNK_SYNC] [] s s.showParent :=
  .ite (.setFld (by decide) (.refl s)) (.setFld (by decide) (.setFld (by decide) (.refl s)))

theorem exec_portUp_within {s t : State} {port : BitVec 2} (h : exec (.portUp port) s = .next t) :
    Within [LNK_STAT, LNK_SYNC] [] s t := by
  obtain rfl := Host.Outcome.next.inj h
  refine .ite (.trans (.raise ?_) (LinkFrame.forwardStuck (L := []) (.refl _)).1) (.refl s)
  exact .trans (.setReg (show named [LNK_STAT, LNK_SYNC] LNK_STAT = true by decide) (.refl s)) ((State.showParent_within _).weaken (by decide) (by decide))

theorem State.loseSignal_within (p : Nat) (s : State) : Within [STM_STAT] [.clk] s (s.loseSignal p) :=
  .ite (.ite (.refl s) (.flagRaise (by decide) (.setFld (by decide) (.clk (by decide) (.refl s))))) (.refl s)

/-- What a port's loss changes: the ring's state, and the reference in use (R61). -/
abbrev PortFrame (s t : State) : Prop := LinkFrame [LNK_STAT, LNK_SYNC, STM_STAT] [.clk, .lnk] [.string, .trunk] s t

theorem exec_portDown_frame {s t : State} {port : BitVec 2} (h : exec (.portDown port) s = .next t) : PortFrame s t := by
  obtain rfl := Host.Outcome.next.inj h
  have hsignal {u : State} (hu : PortFrame s u) : PortFrame s (u.loseSignal port.toNat) :=
    hu.beside (State.loseSignal_within _ u) (by decide) (by decide) (by decide)
  have hdown : PortFrame s (((s.setFld ⟨LNK_STAT, port.toNat, 1⟩ 0).raise 672).sheet 0x0B01 (leBytes 1 port.toNat)) :=
    .sheet (.raise (.setReg (show named [LNK_STAT, LNK_SYNC, STM_STAT] LNK_STAT = true by decide) (.refl s)))
  have hlost (u : State) : PortFrame u (u.portLost port.toNat) :=
    (RingFrame.portLost (.refl u)).weaken (by decide) (by decide) (List.Subset.refl _)
  exact .ite (.ite (hsignal hdown) ((hsignal hdown).trans (hlost _))) (hsignal (.refl s))

theorem exec_ringCheckSend_frame {s t : State} {trunk : Bool} (h : exec (.ringCheckSend trunk) s = .next t) :
    LinkFrame [] [.lnk] [.string, .trunk] s t := by
  obtain rfl := Host.Outcome.next.inj h
  exact .ite (.emit (.setRing (by decide) (by decide) (by decide) (.refl s))) (.refl s)

theorem exec_ringCheck_frame {s t : State} {port : FrameHead} {serial : BitVec 64} (h : exec (.ringCheck port serial) s = .next t) :
    RingFrame s t := by
  obtain rfl := Host.Outcome.next.inj h
  refine .ite (.refl s) (.ite (.put (.refl s)) (.ite ?_ (.refl s)))
  extract_lets r
  split
  · exact .ite (.ite (RingFrame.declareRing (.setRing (.refl s))) (RingFrame.setRing (.refl s))) (.refl s)
  · exact .refl s

theorem exec_ringCheckTimeout_frame {s t : State} {trunk : Bool} (h : exec (.ringCheckTimeout trunk) s = .next t) : RingFrame s t := by
  obtain rfl := Host.Outcome.next.inj h
  exact .ite (.ite (RingFrame.declareRing (.setRing (.takeFree (width := 6) (RingFrame.setRing (.refl s))))) (RingFrame.setRing (.refl s))) (.refl s)

/-- What a report of a ring changes: the ring's state, and the frames seen (R408). -/
abbrev ReportFrame (s t : State) : Prop := LinkFrame [LNK_STAT, LNK_SYNC] [.lnk] [.seen, .string, .trunk] s t

theorem RingFrame.report {s t : State} (h : RingFrame s t) : ReportFrame s t := h.weaken (by decide) (by decide) (by decide)

theorem ReportFrame.firstCopy {σ s : State} {type src event : Nat} (h : ReportFrame σ s) : ReportFrame σ (s.firstCopy type src event).2 :=
  h.piece .seen (by decide) (by decide) fun q hq => by cases q <;> simp_all [LnkPart.same]

theorem exec_ringState_frame {s t : State} {trunk opened : Bool} {source : RingReporter} {event : Byte}
    (h : exec (.ringState trunk opened source event) s = .next t) : ReportFrame s t := by
  obtain rfl := Host.Outcome.next.inj h
  refine .ite ?_ (.refl s)
  extract_lets r g r' q f w
  have hr : ReportFrame s r.2 := .firstCopy (.refl s)
  have hg : ReportFrame s g := .relay hr
  have hw : ReportFrame s w := .ite (hg.takeFree.trans (RingFrame.report (.setRing (.refl _)))) hg
  have hdeclare (u : State) (b : Bool) : ReportFrame u (u.declareRing trunk b) := RingFrame.report (.declareRing (.refl u))
  exact .ite hr (.ite hg (.ite (.ite (hw.trans (hdeclare _ _)) hw) (hw.trans (RingFrame.report (.showRing (.refl _))))))

theorem exec_linkFrameError_frame {s t : State} {crc : Bool} (h : exec (.linkFrameError crc) s = .next t) :
    LinkFrame [LNK_ERR_CNT, LNK_STAT] [.lnk] [.errors] s t := by
  obtain rfl := Host.Outcome.next.inj h
  have herr {u : State} {x : Lnk} (hx : x = { u.lnk with crcNew := x.crcNew, codeNew := x.codeNew, errAt := x.errAt })
      (hu : LinkFrame [LNK_ERR_CNT, LNK_STAT] [.lnk] [.errors] s u) : LinkFrame [LNK_ERR_CNT, LNK_STAT] [.lnk] [.errors] s { u with lnk := x } :=
    hu.piece .errors (by decide) (by decide) fun q hq => by rw [hx]; cases q <;> simp_all [LnkPart.same]
  refine .ite ?_ (.refl s)
  extract_lets u
  have hu : LinkFrame [LNK_ERR_CNT, LNK_STAT] [.lnk] [.errors] s u := .flagRaise (by decide) (.bump (by cases crc <;> decide) (.refl s))
  exact .ite (herr rfl hu) (herr rfl (.sheet hu))

end Sys2Proof.Machine
end

section
namespace Sys2Proof.Machine

/-! ### Frames of enumeration (R410 to R413) -/

/-- From `s` to `t` no more changed than a pass of enumeration that gives no address. -/
abbrev EnumFrame (s t : State) : Prop := LinkFrame [LNK_STAT] [.lnk] [.enumeration] s t

namespace EnumFrame

variable {σ s : State}

theorem enumeration {x : Lnk} (hx : x = { s.lnk with
      pass := x.pass, passAt := x.passAt, candidate := x.candidate, reports := x.reports, table := x.table, heads := x.heads
      claims := x.claims, assigned := x.assigned, named := x.named, others := x.others, claimSeen := x.claimSeen, late := x.late
      enumAt := x.enumAt }) (h : EnumFrame σ s) : EnumFrame σ { s with lnk := x } :=
  LinkFrame.enumeration (by decide) (by decide) hx h

theorem setPass {p : Pass} (h : EnumFrame σ s) : EnumFrame σ (s.setPass p) := .setFlag (by decide) (enumeration rfl h)

theorem sendClaim {trunk : Bool} (h : EnumFrame σ s) : EnumFrame σ (s.sendClaim trunk) := .send h

theorem sendWalk {port side : Nat} (h : EnumFrame σ s) : EnumFrame σ (s.sendWalk port side) := .emit h

theorem startEnum (h : EnumFrame σ s) : EnumFrame σ s.startEnum :=
  have ht : EnumFrame σ { s with lnk := { s.lnk with enumAt := none, reports := [], heads := [] } } := enumeration rfl h
  .ite (sendClaim (setPass (enumeration rfl ht))) ht

theorem judgeTrunk (h : EnumFrame σ s) : EnumFrame σ s.judgeTrunk := .ite (.sheet (enumeration rfl h)) h

theorem claimTrunk (h : EnumFrame σ s) : EnumFrame σ s.claimTrunk := judgeTrunk (sendClaim (setPass (enumeration rfl h)))

theorem noKeystone (h : EnumFrame σ s) : EnumFrame σ s.noKeystone := .ite (setPass h) (.sheet (setPass h))

end EnumFrame

/-- What a walk changes besides: the place on the rings. -/
abbrev SearchWalkFrame (s t : State) : Prop := LinkFrame [LNK_STAT] [.lnk] [.enumeration, .string, .trunk] s t

theorem EnumFrame.search {s t : State} (h : EnumFrame s t) : SearchWalkFrame s t := h.weaken (by decide) (by decide) (by decide)

theorem SearchWalkFrame.beginWalk {σ s : State} (h : SearchWalkFrame σ s) : SearchWalkFrame σ s.beginWalk := by
  have hring : SearchWalkFrame s (({ s with lnk := { s.lnk with reports := [] } }).setRing false { s.ring false with sideB := 0, onSideA := false }) :=
    .setRing (by decide) (by decide) (by decide) (EnumFrame.search (.enumeration rfl (.refl s)))
  exact .emit ((h.trans hring).trans (EnumFrame.search (.setPass (.refl _))))

theorem exec_helloSend_frame {s t : State} (h : exec .helloSend s = .next t) : LinkFrame [] [.lnk] [.hello] s t := by
  obtain rfl := Host.Outcome.next.inj h
  exact .ite (.send (LinkFrame.piece .hello (by decide) (by decide)
    (fun q hq => by cases q <;> simp_all [LnkPart.same]) (.refl s))) (.refl s)

theorem exec_hello_frame {s t : State} {serial : Framed HelloBody} (h : exec (.hello serial) s = .next t) : SearchWalkFrame s t := by
  obtain rfl := Host.Outcome.next.inj h
  refine .ite ?_ (.refl s)
  extract_lets u
  have hu : SearchWalkFrame s u := .relay (.refl s)
  have hmore {x : Lnk} (hx : EnumFrame u { u with lnk := x }) : SearchWalkFrame s { u with lnk := x } := hu.trans hx.search
  exact .ite hu (.ite (.ite hu (hmore (.enumeration rfl (.refl u))))
    (.ite (.ite (SearchWalkFrame.beginWalk hu) hu) (.ite hu (.sheet (hmore (.enumeration rfl (.refl u)))))))

theorem exec_enum_frame {s t : State} {p : Path} (h : exec (.enum p) s = .next t) :
    LinkFrame (busErrRegs ++ [LNK_CFG_ERR_INFO, LNK_CTRL, LNK_STAT]) (portParts p ++ [.lnk]) [.enumeration] s t := by
  obtain rfl := Host.Outcome.next.inj h
  exact State.writeRow_linkFrame (by decide) (by decide) (by decide) fun v =>
    .trans (.setReg (by decide) (.refl s)) ((EnumFrame.startEnum (.refl _)).weaken (by decide) (List.Subset.refl _) (List.Subset.refl _))

theorem exec_claim_frame {s t : State} {trunk : Bool} {serial : Framed Claimant} {rank : Byte}
    (h : exec (.claim trunk serial rank) s = .next t) : EnumFrame s t := by
  obtain rfl := Host.Outcome.next.inj h
  have hu {src : Nat} {payload : List Byte} : EnumFrame s (s.relay serial.head 0x02 src false payload) := .relay (.refl s)
  have hstart {u : State} (hu : EnumFrame s u) : EnumFrame s (if u.headOk && u.lnk.pass == .none then u.startEnum else u) :=
    .ite (EnumFrame.startEnum hu) hu
  exact .ite (.refl s) (.ite
    (.ite (EnumFrame.judgeTrunk (.enumeration rfl hu)) (.ite (EnumFrame.claimTrunk (.enumeration rfl hu)) (EnumFrame.enumeration rfl hu)))
    (.ite hu (.ite (.sheet (EnumFrame.enumeration rfl (hstart (.enumeration rfl hu)))) (hstart (.enumeration rfl hu)))))

theorem exec_enumAutoStart_frame {s t : State} (h : exec .enumAutoStart s = .next t) : EnumFrame s t := by
  obtain rfl := Host.Outcome.next.inj h
  exact .ite (.ite (EnumFrame.startEnum (.refl s)) (EnumFrame.enumeration rfl (.refl s))) (.refl s)

theorem exec_claimTimeout_frame {s t : State} (h : exec .claimTimeout s = .next t) : SearchWalkFrame s t := by
  obtain rfl := Host.Outcome.next.inj h
  refine .ite ?_ (.refl s)
  split
  · exact .ite (SearchWalkFrame.beginWalk (.refl s)) (EnumFrame.search (.setPass (.refl s)))
  · exact .ite (EnumFrame.search (.sendWalk (.setPass (.enumeration rfl (.refl s)))))
      (.ite (EnumFrame.search (.setPass (.refl s))) (EnumFrame.search (.noKeystone (.refl s))))
  · exact .refl s

theorem exec_walkReport_frame {s t : State} {trunk side : Bool} {serial : BitVec 64} {distance : Byte}
    (h : exec (.walkReport trunk serial distance side) s = .next t) : LinkFrame [] [.lnk] [.enumeration] s t := by
  obtain rfl := Host.Outcome.next.inj h
  have hnote {x : Lnk} (hx : x = { s.lnk with heads := x.heads, reports := x.reports }) :
      LinkFrame [] [.lnk] [.enumeration] s { s with lnk := x } :=
    .enumeration (by decide) (by decide) (hx.trans (by rw [hx])) (.refl s)
  split
  · exact .ite (hnote rfl) (.refl s)
  · exact .ite (.refl s) (hnote rfl)
  · exact .ite (.refl s) (hnote rfl)
  · exact .refl s

/-! ### Frames of addresses (R411 to R414) -/

/-- From `s` to `t` no more changed than an address taken or lost may change. -/
abbrev AddressFrame (s t : State) : Prop :=
  LinkFrame [LNK_ADDR, LNK_STAT, LNK_SYNC, SEQ_STAT, STM_OFFSET, STM_STAT] [.clk, .lnk, .seq] [.enumeration] s t

theorem EnumFrame.address {s t : State} (h : EnumFrame s t) : AddressFrame s t := h.weaken (by decide) (by decide) (by decide)

theorem State.setTstate_within (v : Nat) (s : State) : Within [STM_OFFSET, STM_STAT] [.clk] s (s.setTstate v) := by
  have ht : Within [STM_OFFSET, STM_STAT] [.clk] s
      { s.setFld STM_STAT_TSTATE v with clk := { (s.setFld STM_STAT_TSTATE v).clk with goodRun := 0, badRun := 0 } } :=
    .clk (by decide) (.setFld (by decide) (.refl s))
  exact .ite (.refl s) (.raise (.ite (.setFld (by decide) ht) (.ite (.setReg (by decide) ht) ht)))

/-- The registers of an address as it is taken. -/
def State.addressed (a role ndev nstr : Nat) (s : State) : State :=
  ((((s.setFld LNK_ADDR_ADDR a).setFld LNK_ADDR_UNADDR 0).setFld LNK_ADDR_NDEV ndev).setFld LNK_ADDR_NSTR nstr).setFld LNK_STAT_ROLE role

/-- What follows from the address: the time parent and the servo. -/
theorem State.follow_within {role : Nat} {x : Seq} (s : State) : Within [LNK_SYNC, STM_OFFSET, STM_STAT] [.clk, .seq] s
    (if role = 2 then ({ s with seq := x } : State).showParent.setTstate 0
      else if ({ s with seq := x } : State).showParent.fld STM_STAT_TSTATE = 0 then ({ s with seq := x } : State).showParent.setTstate 1
      else ({ s with seq := x } : State).showParent) := by
  have hparent : Within [LNK_SYNC, STM_OFFSET, STM_STAT] [.clk, .seq] s ({ s with seq := x } : State).showParent :=
    (Within.seq (by decide) (.refl s)).trans ((State.showParent_within _).weaken (by decide) (by decide))
  have htstate (v : Nat) : Within [LNK_SYNC, STM_OFFSET, STM_STAT] [.clk, .seq] s (({ s with seq := x } : State).showParent.setTstate v) :=
    hparent.trans ((State.setTstate_within v _).weaken (by decide) (by decide))
  exact .ite (htstate 0) (.ite (htstate 1) hparent)

/-- A device that takes an address changes no more of it than its registers. -/
theorem State.takeAddress_within (a role ndev nstr : Nat) (s : State) :
    Within [LNK_STAT, LNK_SYNC, SEQ_STAT, STM_OFFSET, STM_STAT] [.clk, .seq] (s.addressed a role ndev nstr) (s.takeAddress a role ndev nstr) := by
  have hforward {σ u : State} (hu : Within [LNK_STAT, LNK_SYNC, SEQ_STAT, STM_OFFSET, STM_STAT] [.clk, .seq] σ u) :
      Within [LNK_STAT, LNK_SYNC, SEQ_STAT, STM_OFFSET, STM_STAT] [.clk, .seq] σ u.forwardStuck :=
    hu.trans (LinkFrame.forwardStuck (L := []) (.refl u)).1
  exact .seqRefresh (by decide) (.onlyIf (fun _ hu => hforward hu) (.onlyIf (fun _ hu => .flagRaise (by decide) hu)
    ((State.follow_within (role := role) _).weaken (by decide) (by decide))))

namespace AddressFrame

variable {σ s : State}

theorem setTstate {v : Nat} (h : AddressFrame σ s) : AddressFrame σ (s.setTstate v) :=
  h.beside (State.setTstate_within v s) (by decide) (by decide) (by decide)

theorem seqRefresh (h : AddressFrame σ s) : AddressFrame σ s.seqRefresh :=
  h.beside (Within.seqRefresh (R := [SEQ_STAT]) (P := []) (by decide) (.refl s)) (by decide) (by decide) (by decide)

theorem enumeration {x : Lnk} (hx : EnumFrame s { s with lnk := x }) (h : AddressFrame σ s) : AddressFrame σ { s with lnk := x } :=
  h.trans hx.address

theorem takeAddress {a role ndev nstr : Nat} (h : AddressFrame σ s) : AddressFrame σ (s.takeAddress a role ndev nstr) := by
  have hplace : AddressFrame σ (s.addressed a role ndev nstr) :=
    .setFld (by decide) (.setFld (by decide) (.setFld (by decide) (.setFld (by decide) (.setFld (by decide) h))))
  exact hplace.beside (State.takeAddress_within a role ndev nstr s) (by decide) (by decide) (by decide)

theorem loseAddress (h : AddressFrame σ s) : AddressFrame σ s.loseAddress := by
  have hnone : AddressFrame σ ((s.setReg LNK_ADDR (BitVec.ofNat 32 0x8000)).setFld LNK_STAT_ROLE 3) := .setFld (by decide) (.setReg (by decide) h)
  exact seqRefresh (.setFld (by decide) (setTstate (enumeration (.enumeration rfl (.refl _)) hnone)))

theorem sendAssign {mode : Nat} {l : List (BitVec 64 × Nat)} (h : AddressFrame σ s) : AddressFrame σ (s.sendAssign mode l) :=
  .forEach (fun _ _ hu => .send hu) h

theorem assignString {k role nstr : Nat} (h : AddressFrame σ s) : AddressFrame σ (s.assignString k role nstr) :=
  sendAssign ((takeAddress h).trans (EnumFrame.address (.setPass (.refl _))))

theorem endAssign {trunk named : Bool} {count : Nat} (h : AddressFrame σ s) : AddressFrame σ (s.endAssign trunk count named) := by
  have hnote {x : Lnk} (hx : EnumFrame s { s with lnk := x }) : AddressFrame σ { s with lnk := x } := enumeration hx h
  exact .ite (hnote (.enumeration rfl (.refl s))) (.ite (.setFld (by cases trunk <;> decide) (hnote (.enumeration rfl (.refl s))))
    (.ite (hnote (.enumeration rfl (.refl s))) (loseAddress (hnote (.enumeration rfl (.refl s))))))

end AddressFrame

theorem exec_assign_frame {s t : State} {trunk : Bool} {entries : Framed (List (BitVec 64 × BitVec 16))}
    (h : exec (.assign trunk entries) s = .next t) : AddressFrame s t := by
  obtain rfl := Host.Outcome.next.inj h
  refine .ite (.passOn (.refl s)) (AddressFrame.endAssign ?_)
  split
  · exact .ite (.ite (.passOn (.refl s)) (AddressFrame.assignString (.passOn (.refl s))))
      (.ite (.passOn (.refl s)) (AddressFrame.takeAddress (.takeFree (width := 6) (.passOn (.refl s)))))
  · exact .passOn (.refl s)

/-- From `s` to `t` no more changed than a walk's end may, with the addresses that follow from it. -/
abbrev WalkFrame (s t : State) : Prop := LinkFrame [LNK_ADDR, LNK_LIM, LNK_STAT, LNK_SYNC, SEQ_STAT, STM_OFFSET, STM_STAT]
  [.clk, .lnk, .seq] [.enumeration, .string, .trunk] s t

theorem AddressFrame.walk {s t : State} (h : AddressFrame s t) : WalkFrame s t := h.weaken (by decide) (by decide) (by decide)

theorem RingFrame.walk {s t : State} (h : RingFrame s t) : WalkFrame s t := h.weaken (by decide) (by decide) (by decide)

namespace WalkFrame

variable {σ s : State}

theorem enum {t : State} (k : EnumFrame s t) (h : WalkFrame σ s) : WalkFrame σ t := h.trans k.address.walk

theorem assignString {k role nstr : Nat} (h : WalkFrame σ s) : WalkFrame σ (s.assignString k role nstr) :=
  h.trans (AddressFrame.walk (.assignString (.refl s)))

theorem sendAssign {mode : Nat} {l : List (BitVec 64 × Nat)} (h : WalkFrame σ s) : WalkFrame σ (s.sendAssign mode l) :=
  h.trans (AddressFrame.walk (.sendAssign (.refl s)))

theorem walkedRing {trunk opened : Bool} {n : Nat} (h : WalkFrame σ s) : WalkFrame σ (s.walkedRing trunk opened n) :=
  h.trans (RingFrame.walk (.walkedRing (.refl s)))

theorem sheets {α : Type} {type : Nat} {payload : α → List Byte} {l : List α} (h : WalkFrame σ s) :
    WalkFrame σ (Machine.forEach l (fun e t => t.sheet type (payload e)) s) := .forEach (fun _ _ hu => .sheet hu) h

/-- What stands beyond the limit is told in sheets and with LIM_EV (R412). -/
theorem excess {α : Type} {type : Nat} {payload : α → List Byte} {l : List α} (h : WalkFrame σ s) :
    WalkFrame σ (Machine.forEach l (fun e t => (t.sheet type (payload e)).flagRaise LNK_STAT_LIM_EV 676) s) :=
  .forEach (fun _ _ hu => .flagRaise (by decide) (.sheet hu)) h

theorem walkDone {n : Nat} {opened : Bool} (h : WalkFrame σ s) : WalkFrame σ (s.walkDone n opened) := by
  have hlim {l : List (BitVec 64 × Nat)} {v : Nat} : WalkFrame σ (Machine.forEach l (fun e t => (t.sheet 0x0B10 (leBytes 8 e.1.toNat)).flagRaise LNK_STAT_LIM_EV 676)
      ((s.walkedRing false opened n).setFld LNK_LIM_EXCESS_DEV v)) := excess (.setFld (by decide) (walkedRing h))
  exact .ite (sendAssign (enum (.setPass (.refl _)) (enum (.enumeration rfl (.refl _)) (sheets hlim))))
    (.ite (enum (.claimTrunk (.refl _)) (enum (.enumeration rfl (.refl _)) hlim))
      (.ite (assignString (enum (.enumeration rfl (.refl _)) hlim)) (enum (.noKeystone (.refl _)) (enum (.enumeration rfl (.refl _)) hlim))))

theorem trunkDone (h : WalkFrame σ s) : WalkFrame σ s.trunkDone := by
  have hlim {l : List (BitVec 64 × Nat)} {v : Nat} : WalkFrame σ (Machine.forEach l (fun e t => (t.sheet 0x0B11 (leBytes 8 e.1.toNat)).flagRaise LNK_STAT_LIM_EV 676)
      (s.setFld LNK_LIM_EXCESS_HEADS v)) := excess (.setFld (by decide) h)
  have hothers {u : State} {m : Nat} {r : Ring} (hu : WalkFrame σ u) :
      WalkFrame σ { u with lnk := { u.lnk with others := m, trunk := r } } :=
    have hm : WalkFrame σ { u with lnk := { u.lnk with others := m } } := enum (.enumeration rfl (.refl u)) hu
    LinkFrame.setRing (trunk := true) (by decide) (by decide) (by decide) hm
  exact assignString (sendAssign (hothers (.takeFree (width := 12) hlim)))

end WalkFrame

theorem exec_walk_frame {s t : State} {port : WalkIn} {count : Byte} {side : Bool} (h : exec (.walk port count side) s = .next t) :
    WalkFrame s t := by
  obtain rfl := Host.Outcome.next.inj h
  exact .ite (.refl s) (.ite (WalkFrame.walkDone (.refl s)) (.ite (WalkFrame.trunkDone (.walkedRing (.refl s))) (.ite (.refl s)
    (.ite (.sheet (.refl s)) (.emit (.emit (.setRing (by decide) (by decide) (by decide) (.takeFree (width := 6) (.refl s)))))))))

end Sys2Proof.Machine
end

section
namespace Sys2Proof.Machine

/-! ### Frames of sending a distribution (R421, R422, R427) -/

theorem State.castDist_raised {σ : State} (type mode target : Nat) (payload : List Byte) (s : State) (h : Raised σ s) :
    Raised σ (s.castDist type mode target payload) := by
  unfold State.castDist
  split
  · exact State.emit_raised _ _ _ _ _ _ _ h
  · exact State.emit_raised _ _ _ _ _ _ _ h
  · exact State.send_raised _ _ _ _ _ h

/-- From `s` to `t` no more changed than sending a distribution may change. -/
abbrev SendingFrame (s t : State) : Prop := LinkFrame [LNK_DIST_STAT] [.lnk] [.sending] s t

namespace SendingFrame

variable {σ s : State}

theorem sending {x : Lnk} (hx : x = { s.lnk with sending := x.sending, distImage := x.distImage, distAt := x.distAt })
    (h : SendingFrame σ s) : SendingFrame σ { s with lnk := x } :=
  h.piece .sending (by decide) (by decide) fun q hq => by rw [hx]; cases q <;> simp_all [LnkPart.same]

theorem castStart {image apply store : Bool} {mode target : Nat} {bs : List Byte} (h : SendingFrame σ s) :
    SendingFrame σ (s.castStart image apply store mode target bs) := .of_raised (State.castDist_raised _ _ _ _ s (.refl s)) h

theorem beginCollect (h : SendingFrame σ s) : SendingFrame σ s.beginCollect :=
  have hstate : SendingFrame σ (s.setFld LNK_DIST_STAT_STATE 2) := .setFld (by decide) h
  sending rfl hstate

theorem distCtrlWritten {w : Word} (h : SendingFrame σ s) : SendingFrame σ (s.distCtrlWritten w) := by
  unfold State.distCtrlWritten
  extract_lets what mode dest l t bs l' u v
  have ht : SendingFrame σ t := .ite (.setFld (by decide) (sending rfl h)) h
  have hu : SendingFrame σ u := sending rfl ht
  have hv : SendingFrame σ v := castStart (.setReg (by decide) hu)
  have hstate : SendingFrame σ (v.setFld LNK_DIST_STAT_STATE 1) := .setFld (by decide) hv
  exact .ite (.ite (beginCollect hv) (sending rfl hstate)) ht

end SendingFrame

/-- What a write of LNK_DIST_CTRL may change. -/
theorem State.writeRow_distCtrl (p : Path) (w : Word) (s : State) :
    LinkFrame (busErrRegs ++ [LNK_CFG_ERR_INFO, LNK_DIST_CTRL, LNK_DIST_STAT, LNK_STAT]) (portParts p ++ [.lnk]) [.sending] s
      (s.writeRow p (adr LNK_DIST_CTRL) w Side.untold) :=
  State.writeRow_linkFrame (by decide) (by decide) (by decide) fun v =>
    .trans (.setReg (by decide) (.refl s)) ((SendingFrame.distCtrlWritten (.refl _)).weaken (by decide) (List.Subset.refl _) (List.Subset.refl _))

theorem exec_distResult_within {s t : State} {source : BitVec 12} {result : Byte} (h : exec (.distResult source result) s = .next t) :
    Within [LNK_DIST_STAT] [] s t := by
  obtain rfl := Host.Outcome.next.inj h
  exact .ite (.bump (by split <;> decide) (.refl s)) (.refl s)

theorem exec_distCollectEnd_within {s t : State} (h : exec .distCollectEnd s = .next t) : Within [LNK_DIST_STAT] [] s t := by
  obtain rfl := Host.Outcome.next.inj h
  have hstate : Within [LNK_DIST_STAT] [] s (s.setFld LNK_DIST_STAT_STATE 3) := .setFld (by decide) (.refl s)
  exact .ite (.raise (.ite hstate (.sheet hstate))) (.refl s)

theorem exec_imgReq_frame {s t : State} {port : BitVec 2} (h : exec (.imgReq port) s = .next t) : LinkFrame [] [.lnk] [.serve] s t := by
  obtain rfl := Host.Outcome.next.inj h
  exact .ite (LinkFrame.piece .serve (by decide) (by decide) (fun q hq => by cases q <;> simp_all [LnkPart.same])
    (.of_raised (State.castDist_raised _ _ _ _ s (.refl s)) (.refl s))) (.refl s)

/-! ### Frames of receiving a distribution (R134, R136, R151, R421) -/

namespace LinkFrame

variable {R : List Nat} {P : List Part} {L : List LnkPart} {σ s : State}

theorem boot {x : Boot} (hP : .boot ∈ P) (h : LinkFrame R P L σ s) : LinkFrame R P L σ { s with boot := x } :=
  h.step rfl ((Within.refl s).update .boot hP rfl fun q hq => by cases q <;> simp_all [Part.same])

theorem bnd {x : Bnd} (hP : .bnd ∈ P) (h : LinkFrame R P L σ s) : LinkFrame R P L σ { s with bnd := x } :=
  h.step rfl (.bnd hP (.refl s))

theorem flash {x : List Host.Cell} (hP : .flash ∈ P) (h : LinkFrame R P L σ s) : LinkFrame R P L σ { s with flash := x } :=
  h.step rfl (.flash hP (.refl s))

/-- The distribution being received. -/
theorem dist {x : Option Dist} (hP : .lnk ∈ P) (hL : .dist ∈ L) (h : LinkFrame R P L σ s) :
    LinkFrame R P L σ { s with lnk := { s.lnk with dist := x } } :=
  h.piece .dist hP hL fun q hq => by cases q <;> simp_all [LnkPart.same]

end LinkFrame

/-- From `s` to `t` no more changed than an update from the link may, the flash apart. -/
abbrev ImageFrame (s t : State) : Prop := LinkFrame [RPC_UPD_STAT] [.boot, .lnk] [.dist] s t

theorem ImageFrame.showSpace {σ s : State} (h : ImageFrame σ s) : ImageFrame σ s.showSpace := .setFld (by decide) h

theorem ImageFrame.arriving {σ s : State} {x : Boot} {y : Option Dist} (h : ImageFrame σ s) :
    ImageFrame σ { s with boot := x, lnk := { s.lnk with dist := y } } :=
  have hboot : ImageFrame σ { s with boot := x } := .boot (by decide) h
  .dist (by decide) (by decide) hboot

theorem State.updEnd_frame (state result : Nat) (s : State) : ImageFrame s (s.updEnd state result) := by
  unfold State.updEnd
  extract_lets t b0 ended shown l freed answered
  have hshown : ImageFrame s shown :=
    .setFld (by decide) (.boot (by decide) (.setFld (by decide) (.setFld (by decide) (.refl s))))
  have hfreed : ImageFrame s freed := .dist (by decide) (by decide) hshown
  have hanswered : ImageFrame s answered := by
    unfold answered
    split
    · exact .ite (.ite (.emit hfreed) (.sendTo hfreed)) hshown
    · exact hshown
  exact .ite (.raise hanswered) (.raise (.ite hanswered (.sheet hanswered)))

/-- The same with the flash, of which no byte outside the ranges changed. -/
abbrev UpdateFrame (rs : List (Nat × Nat)) (s t : State) : Prop :=
  LinkFrame [RPC_UPD_STAT] [.boot, .flash, .lnk] [.dist] s t ∧ FlashWithin rs s t

namespace UpdateFrame

variable {rs : List (Nat × Nat)} {σ s t : State}

theorem refl (s : State) : UpdateFrame rs s s := ⟨.refl s, .of_eq rfl⟩

theorem trans (h : UpdateFrame rs σ s) (k : UpdateFrame rs s t) : UpdateFrame rs σ t := ⟨h.1.trans k.1, h.2.trans k.2⟩

theorem ite {c : Prop} [Decidable c] (hs : UpdateFrame rs σ s) (ht : UpdateFrame rs σ t) : UpdateFrame rs σ (if c then s else t) := by
  split
  · exact hs
  · exact ht

theorem image (k : ImageFrame s t) (h : UpdateFrame rs σ s) : UpdateFrame rs σ t :=
  h.trans ⟨k.weaken (List.Subset.refl _) (by decide) (List.Subset.refl _), .of_eq (k.1.2 .flash (by decide))⟩

theorem flashErase {r : Nat × Nat} (hr : r ∈ rs) {a e : Nat} (hlo : r.1 ≤ a) (hhi : e ≤ r.1 + r.2) (h : UpdateFrame rs σ s) :
    UpdateFrame rs σ (s.flashErase a e) := ⟨.flash (by decide) h.1, .flashErase hr hlo hhi h.2⟩

theorem flashWrite {r : Nat × Nat} (hr : r ∈ rs) {a : Nat} {l : List Byte} (hlo : r.1 ≤ a) (hhi : a + l.length ≤ r.1 + r.2)
    (h : UpdateFrame rs σ s) : UpdateFrame rs σ (s.flashWrite a l) := ⟨.flash (by decide) h.1, .flashWrite hr hlo hhi h.2⟩

end UpdateFrame

/-- An update's first block of the flash. -/
theorem State.updBegin_frame (n : Nat) (link : Bool) (s : State) : UpdateFrame [(0, blockSize)] s (s.updBegin n link) := by
  unfold State.updBegin
  extract_lets t b u
  have hu : UpdateFrame [(0, blockSize)] s u :=
    .image (.boot (by decide) (.setFld (by decide) (.setFld (by decide) (.setFld (by decide) (.refl s))))) (.refl s)
  exact .image (.showSpace (.refl _)) (.ite hu (.flashErase (.head _) (Nat.le_refl _) (Nat.zero_add _).ge hu))

/-- A block goes to its own place in the flash (R136). -/
theorem State.updBlock_frame {b : List Byte} (hb : b.length ≤ blockSize) (flashError : Bool) (s : State) :
    UpdateFrame s.blockRange s (s.updBlock b flashError) := by
  unfold State.updBlock
  extract_lets k a r t u
  have hend (state result : Nat) {v : State} (hv : UpdateFrame s.blockRange s v) : UpdateFrame s.blockRange s (v.updEnd state result) :=
    .image (State.updEnd_frame _ _ _) hv
  have herased : UpdateFrame s.blockRange s (s.flashErase a (a + blockSize)) := .flashErase (.head _) le_rfl le_rfl (.refl s)
  have hwritten (v : State) (l : List Byte) (hl : l.length ≤ blockSize) (hv : UpdateFrame s.blockRange s v) :
      UpdateFrame s.blockRange s (v.flashWrite a l) := .flashWrite (.head _) le_rfl (Nat.add_le_add_left hl a) hv
  have hr : UpdateFrame s.blockRange s r.2 := .image (.takeFree (width := 12) (.refl _)) herased
  have ht : UpdateFrame s.blockRange s t := .ite (hwritten _ b hb herased) (.refl s)
  exact .ite (hend _ _ (.refl s)) (.ite (hend _ _ (.refl s))
    (.ite (hend _ _ (hwritten _ _ ((List.length_take_le' _ _).trans hb) hr)) (.image (.boot (by decide) (.setFld (by decide) (.refl t))) ht)))

theorem State.updTake_frame (bs : List Byte) (flashError : Bool) (s : State) : UpdateFrame s.blockRange s (s.updTake bs flashError) := by
  unfold State.updTake
  extract_lets all full b t u
  have ht : UpdateFrame s.blockRange s t := .image (.boot (by decide) (.refl s)) (.refl s)
  have hu : UpdateFrame s.blockRange s u :=
    .ite (ht.trans (State.updBlock_frame (List.length_take_le _ _) flashError t)) ht
  exact .ite (.image (.showSpace (.refl u)) hu) hu

/-- From `s` to `t` no more changed than a bond from the link may. -/
abbrev StageFrame (s t : State) : Prop := LinkFrame (bondRegs ++ [SEQ_STAT]) [.bnd, .lnk] [.dist] s t

namespace StageFrame

variable {σ s t : State}

theorem of_relay (k : RelayFrame s t) (h : StageFrame σ s) : StageFrame σ t := h.beside k (by decide) (List.Subset.refl _) (by decide)

theorem dist {x : Option Dist} (h : StageFrame σ s) : StageFrame σ { s with lnk := { s.lnk with dist := x } } :=
  LinkFrame.dist (by decide) (by decide) h

theorem offered {x : Bnd} {y : Option Dist} (h : StageFrame σ s) :
    StageFrame σ { s with bnd := x, lnk := { s.lnk with dist := y } } :=
  have hbnd : StageFrame σ { s with bnd := x } := .bnd (by decide) h
  dist hbnd

theorem startBond (d : Dist) (s : State) : StageFrame s (s.startBond d) := by
  unfold State.startBond
  extract_lets answer t b l u
  have ht : StageFrame s t := .setFld (by decide) (.setFld (by decide) (.setFld (by decide) (.refl s)))
  have hu : StageFrame s u := offered ht
  exact .ite (.sendTo (.refl s)) (.ite (.sendTo (of_relay (BondFrame.relay (.bondBusy (.refl s))) (.refl s)))
    (.ite (of_relay (RelayFrame.rejectBond _ _) hu) hu))

theorem bondArrived {d : Dist} (h : StageFrame σ s) : StageFrame σ (s.bondArrived d) := by
  have hstaged : StageFrame σ (((s.setFld BND_STAT_STATE bndIdle).setFld BND_STAT_STAGED 1).raise 682) :=
    .raise (.setFld (by decide) (.setFld (by decide) h))
  exact .ite (of_relay (RelayFrame.requestRelay _ _ _ _) (dist hstaged)) (of_relay (BondFrame.relay (.answerDist (.refl _))) (dist hstaged))

end StageFrame

/-- From `s` to `t` no more changed than a frame of a distribution may, in the flash nothing outside the ranges. -/
abbrev DistFrame (rs : List (Nat × Nat)) (s t : State) : Prop :=
  LinkFrame [BND_ERR, BND_ERR_BYTE, BND_STAT, RPC_UPD_STAT, SEQ_STAT] [.bnd, .boot, .flash, .lnk] [.dist] s t ∧ FlashWithin rs s t

theorem UpdateFrame.distribution {rs : List (Nat × Nat)} {s t : State} (h : UpdateFrame rs s t) : DistFrame rs s t :=
  ⟨h.1.weaken (by decide) (by decide) (List.Subset.refl _), h.2⟩

theorem StageFrame.distribution {rs : List (Nat × Nat)} {s t : State} (h : StageFrame s t) : DistFrame rs s t :=
  ⟨h.weaken (by decide) (by decide) (List.Subset.refl _), .of_eq (h.1.2 .flash (by decide))⟩

theorem DistFrame.refl {rs : List (Nat × Nat)} (s : State) : DistFrame rs s s := ⟨.refl s, .of_eq rfl⟩

theorem DistFrame.trans {rs : List (Nat × Nat)} {s t u : State} (h : DistFrame rs s t) (k : DistFrame rs t u) : DistFrame rs s u :=
  ⟨h.1.trans k.1, h.2.trans k.2⟩

theorem DistFrame.ite {rs : List (Nat × Nat)} {σ s t : State} {c : Prop} [Decidable c] (hs : DistFrame rs σ s) (ht : DistFrame rs σ t) :
    DistFrame rs σ (if c then s else t) := by
  split
  · exact hs
  · exact ht

theorem exec_distStart_frame {s t : State} {source : FrameHead} {image apply store : Bool} {length : Word}
    (h : exec (.distStart source image apply store length) s = .next t) : DistFrame [(0, blockSize)] s t := by
  obtain rfl := Host.Outcome.next.inj h
  have hbegin {u : State} {n : Nat} (hu : DistFrame [(0, blockSize)] s u) : DistFrame [(0, blockSize)] s (u.updBegin n true) :=
    hu.trans (State.updBegin_frame n true u).distribution
  have hrelay {payload : List Byte} : StageFrame s (s.relay source 0x60 source.address.toNat false payload) := .relay (.refl s)
  refine .ite ?_ (.ite (.ite hrelay.distribution (.ite (.ite hrelay.distribution ?_)
    (hrelay.distribution.trans (StageFrame.startBond _ _).distribution))) (.refl s))
  · split
    · exact hbegin (UpdateFrame.distribution (.image (.arriving (.refl s)) (.refl s)))
    · exact .refl s
  · split
    · exact hbegin (StageFrame.distribution (.dist hrelay))
    · exact hrelay.distribution

theorem exec_distData_frame {s t : State} {offset : Framed Word} {bytes : List Byte} {flashError : Bool}
    (h : exec (.distData offset bytes flashError) s = .next t) : DistFrame s.blockRange s t := by
  obtain rfl := Host.Outcome.next.inj h
  have hu : StageFrame s (s.passOn offset.head 0x61 offset.head.address.toNat false (leBytes 4 offset.body.toNat ++ bytes)) :=
    .passOn (.refl s)
  generalize s.passOn offset.head 0x61 offset.head.address.toNat false (leBytes 4 offset.body.toNat ++ bytes) = u at hu ⊢
  have hrange : u.blockRange = s.blockRange := by rw [State.blockRange, show u.boot = s.boot from hu.1.2 .boot (by decide)]; rfl
  have hsame : DistFrame s.blockRange s u := hu.distribution
  split
  · exact hsame
  · next d hd =>
    extract_lets bs e l t b w v r
    have hv : Raised w v := onlyIf_raised (State.raise_raised 682 w (.refl w)) (.refl w)
    have ht : ImageFrame u t := .dist (by decide) (by decide) (.refl u)
    have himage : ImageFrame u v := .of_raised hv (.boot (by decide) ht)
    have hvrange : v.blockRange = s.blockRange := by
      rw [← hrange, State.blockRange, show v.boot = w.boot from hv.parts .boot]
      rfl
    have htaken : DistFrame v.blockRange v (v.updTake bs flashError) := (State.updTake_frame bs flashError v).distribution
    have hr : StageFrame s r.1 := .of_relay (BondFrame.relay (.stageBytes (.refl t))) (.dist hu)
    refine .ite hsame (.ite (.ite hsame ?_) (.ite (StageFrame.distribution (.dist hu)) (StageFrame.distribution ?_)))
    · exact (hsame.trans (UpdateFrame.distribution (.image himage (.refl u)))).trans (hvrange ▸ htaken)
    · split
      · exact hr
      · exact .of_relay (RelayFrame.rejectBond _ _) (.dist hr)
      · exact .bondArrived hr

end Sys2Proof.Machine
end

section
namespace Sys2Proof.Machine

/-! ### Frames of remote access, the requester (R417) -/

theorem State.bump_drop_raised {s : State} (f : Fld) (hf : f.reg = LNK_DROP_CNT) : Raised s (s.bump f) := by
  rw [State.bump_eq]
  split
  · exact State.setFld_drop_raised _ _ _ hf (.refl s)
  · exact .refl s

theorem find?_filter_other {α β : Type} [DecidableEq α] (l : List (α × β)) {k u : α} (h : u ≠ k) :
    (l.filter (fun p => !decide (p.1 = k))).find? (fun p => decide (p.1 = u)) = l.find? (fun p => decide (p.1 = u)) := by
  rw [List.find?_filter]
  congr 1
  funext e
  by_cases he : e.1 = u
  · simp [he, h]
  · simp [he]

theorem find?_putPair_other {α β : Type} [DecidableEq α] (l : List (α × β)) {k u : α} (v : β) (h : u ≠ k) :
    (putPair l k v).find? (fun p => decide (p.1 = u)) = l.find? (fun p => decide (p.1 = u)) := by
  rw [putPair, List.find?_cons_of_neg (by simpa using Ne.symm h), find?_filter_other l h]

/-- From `s` to `t` no more changed than the registers and parts named, of the link the tags, and of those tag `k` at the most. -/
abbrev TagFrame (k : Nat) (own R : List Nat) (P : List Part) (s t : State) : Prop :=
  WithinAt own R P s t ∧
    (∀ u, u ≠ k → t.lnk.tags.find? (fun p => decide (p.1 = u)) = s.lnk.tags.find? (fun p => decide (p.1 = u))) ∧ LnkWithin [.tags] s t

namespace TagFrame

variable {k : Nat} {own R : List Nat} {P : List Part} {σ s t : State}

theorem refl (s : State) : TagFrame k own R P s s := ⟨.refl own R P s, fun _ _ => rfl, fun q _ => q.same_refl s⟩

theorem trans (h : TagFrame k own R P σ s) (g : TagFrame k own R P s t) : TagFrame k own R P σ t :=
  ⟨h.1.trans g.1, fun u hu => (g.2.1 u hu).trans (h.2.1 u hu), fun q hq => LnkPart.same_trans (h.2.2 q hq) (g.2.2 q hq)⟩

theorem mono {own' R' : List Nat} {P' : List Part} (ho : own ⊆ own') (hR : R ⊆ R') (hP : P ⊆ P') (h : TagFrame k own R P s t) :
    TagFrame k own' R' P' s t := ⟨h.1.mono ho hR hP, h.2⟩

/-- What leaves the link as a part leaves every tag. -/
theorem step (hlnk : Part.lnk.same s t) (g : WithinAt own R P s t) (h : TagFrame k own R P σ s) : TagFrame k own R P σ t :=
  h.trans ⟨g, fun u _ => by rw [show t.lnk.tags = s.lnk.tags from Part.pieces hlnk .tags], fun q _ => Part.pieces hlnk q⟩

theorem of_raised (g : Raised s t) (h : TagFrame k own R P σ s) : TagFrame k own R P σ t := h.step (g.parts .lnk) (g.withinAt own R P)

theorem setReg {a : Nat} {v : Word} (ha : a ∈ own) (h : TagFrame k own R P σ s) : TagFrame k own R P σ (s.setReg a v) :=
  h.step (Part.same_setReg .lnk s a v) (.setReg_own ha s v)

theorem setFld {f : Fld} {v : Nat} (hf : f.reg ∈ own) (h : TagFrame k own R P σ s) : TagFrame k own R P σ (s.setFld f v) := setReg hf h

theorem raise {src : Nat} (h : TagFrame k own R P σ s) : TagFrame k own R P σ (s.raise src) :=
  of_raised (State.raise_raised src s (.refl s)) h

theorem sendTo {type target tag : Nat} {payload : List Byte} (h : TagFrame k own R P σ s) :
    TagFrame k own R P σ (s.sendTo type target tag payload) := of_raised (State.emit_raised _ _ _ _ _ _ s (.refl s)) h

theorem ite {c : Prop} [Decidable c] (hs : TagFrame k own R P σ s) (ht : TagFrame k own R P σ t) :
    TagFrame k own R P σ (if c then s else t) := by
  split
  · exact hs
  · exact ht

/-- An update of the tag. -/
theorem tags {x : List (Nat × Nat)} (hP : .lnk ∈ P)
    (hx : ∀ u, u ≠ k → x.find? (fun p => decide (p.1 = u)) = s.lnk.tags.find? (fun p => decide (p.1 = u))) (h : TagFrame k own R P σ s) :
    TagFrame k own R P σ { s with lnk := { s.lnk with tags := x } } := by
  have hframe : LinkFrame R P [.tags] s { s with lnk := { s.lnk with tags := x } } :=
    .piece .tags hP (.head _) (fun q hq => by cases q <;> simp_all [LnkPart.same]) (.refl s)
  exact h.trans ⟨hframe.1.mono (List.nil_subset _) (List.Subset.refl _) (List.Subset.refl _), hx, hframe.2⟩

theorem raDone {result : Nat} (hown : LNK_RA_STAT k ∈ own) (hP : .lnk ∈ P) (h : TagFrame k own R P σ s) :
    TagFrame k own R P σ (s.raDone k result) := by
  have hdone : TagFrame k own R P σ ((s.setFld (LNK_RA_STAT_STATE k) 2).setFld (LNK_RA_STAT_RESULT k) result) :=
    setFld hown (setFld hown h)
  exact raise (tags hP (fun u hu => find?_filter_other _ hu) hdone)

theorem raGo {w : Word} (htag : bitsOf w.toNat 24 5 = k) (hown : LNK_RA_STAT k ∈ own) (hP : .lnk ∈ P) (h : TagFrame k own R P σ s) :
    TagFrame k own R P σ (s.raGo w) := by
  unfold State.raGo
  rw [htag]
  extract_lets tag op dest adr t before l u v
  have ht : TagFrame k own R P σ t := setFld hown (setReg hown h)
  have hu : TagFrame k own R P σ u := tags hP (fun u hu => find?_putPair_other _ _ hu) ht
  have hv : TagFrame k own R P σ v := ite hu (ite (sendTo hu) (sendTo hu))
  exact ite (raDone hown hP hv) hv

end TagFrame

/-- A request's word names its tag. -/
theorem bitsOf_raWord {op tag count dest : Nat} (htag : tag < 32) (hcount : count < 64) (hdest : dest < 4096) :
    bitsOf (word [(31, 1), (29, op), (24, tag), (18, count), (0, dest)]).toNat 24 5 = tag := by
  simp only [bitsOf, word, List.foldl_cons, List.foldl_nil, BitVec.toNat_ofNat, Nat.shiftLeft_eq, Nat.shiftRight_eq_div_pow]
  omega

/-- The write of a request's GO. -/
theorem State.writeRow_raGo {k op count dest : Nat} {w : Word} (hw : w = word [(31, 1), (29, op), (24, k), (18, count), (0, dest)])
    (htag : k < 32) (hcount : count < 64) (hdest : dest < 4096) (p : Path) (s : State) :
    TagFrame k [LNK_RA_STAT k] (busErrRegs ++ [LNK_CFG_ERR_INFO, LNK_RA_CTRL, LNK_STAT]) (portParts p ++ [.lnk]) s
      (s.writeRow p (adr LNK_RA_CTRL) w Side.untold) := by
  have hbits : bitsOf w.toNat 24 5 = k := by rw [hw]; exact bitsOf_raWord htag hcount hdest
  have hbeside {R : List Nat} {u : State} (hu : Within R [] s u) (hR : R ⊆ busErrRegs ++ [LNK_CFG_ERR_INFO, LNK_RA_CTRL, LNK_STAT]) :
      TagFrame k [LNK_RA_STAT k] (busErrRegs ++ [LNK_CFG_ERR_INFO, LNK_RA_CTRL, LNK_STAT]) [.lnk] s u :=
    .step (hu.2 .lnk (by decide)) (hu.mono (List.nil_subset _) hR (List.nil_subset _)) (.refl s)
  have hwrite : TagFrame k [LNK_RA_STAT k] (busErrRegs ++ [LNK_CFG_ERR_INFO, LNK_RA_CTRL, LNK_STAT]) [.lnk] s
      (s.busWrite p (adr LNK_RA_CTRL) w Side.untold) := by
    refine State.busWrite_cases (by decide) (.refl s) (fun b => hbeside (State.busErr_within p b _ s) (by decide))
      (fun b => hbeside (R := [LNK_CFG_ERR_INFO, LNK_STAT]) (.cfgErr (by decide) (by decide) (.refl s)) (by decide)) fun v => ?_
    have hset : TagFrame k [LNK_RA_STAT k] (busErrRegs ++ [LNK_CFG_ERR_INFO, LNK_RA_CTRL, LNK_STAT]) [.lnk] s (s.setReg LNK_RA_CTRL v) :=
      hbeside (R := [LNK_RA_CTRL]) (.setReg (by decide) (.refl s)) (by decide)
    exact .ite (.raGo hbits (.head _) (.head _) hset) hset
  rw [State.writeRow_eq]
  exact ⟨hwrite.1.host fun hport => congrArg State.hst (State.writeRow_of_portParts hport _ w _ s), hwrite.2.1,
    fun q hq => LnkPart.same_congr rfl (hwrite.2.2 q hq)⟩

theorem State.fld_raCount_lt (s : State) : s.fld LNK_RA_CTRL_COUNT < 64 := Nat.mod_lt _ (by decide)

theorem exec_raRead_frame {s t : State} {p : Path} {tag : BitVec 5} {dest : BitVec 12} (h : exec (.raRead p tag dest) s = .next t) :
    TagFrame tag.toNat [LNK_RA_STAT tag.toNat] (busErrRegs ++ [LNK_CFG_ERR_INFO, LNK_RA_CTRL, LNK_STAT]) (portParts p ++ [.lnk]) s t := by
  obtain rfl := Host.Outcome.next.inj h
  exact State.writeRow_raGo (op := 0) (by simp [word]) tag.isLt s.fld_raCount_lt dest.isLt p s

theorem exec_raWrite_frame {s t : State} {p : Path} {tag : BitVec 5} {dest : BitVec 12} (h : exec (.raWrite p tag dest) s = .next t) :
    TagFrame tag.toNat [LNK_RA_STAT tag.toNat] (busErrRegs ++ [LNK_CFG_ERR_INFO, LNK_RA_CTRL, LNK_STAT]) (portParts p ++ [.lnk]) s t := by
  obtain rfl := Host.Outcome.next.inj h
  exact State.writeRow_raGo rfl tag.isLt s.fld_raCount_lt dest.isLt p s

theorem exec_raBlockRead_frame {s t : State} {p : Path} {tag : BitVec 5} {count : BitVec 6} {dest : BitVec 12}
    (h : exec (.raBlockRead p tag count dest) s = .next t) :
    TagFrame tag.toNat [LNK_RA_STAT tag.toNat] (busErrRegs ++ [LNK_CFG_ERR_INFO, LNK_RA_CTRL, LNK_STAT]) (portParts p ++ [.lnk]) s t := by
  obtain rfl := Host.Outcome.next.inj h
  exact State.writeRow_raGo rfl tag.isLt count.isLt dest.isLt p s

theorem exec_raRsp_frame {s t : State} {tag : BitVec 5} {result : Byte} {data : List Word} (h : exec (.raRsp tag result data) s = .next t) :
    TagFrame tag.toNat ([LNK_RA_STAT tag.toNat] ++ (List.range 63).map (LNK_RA_DATA tag.toNat)) [] [.lnk] s t := by
  obtain rfl := Host.Outcome.next.inj h
  refine .ite (.raDone (.head _) (.head _) (.setFld (.head _) (forEach_induction (fun i hi u hu => ?_) (.refl s)))) (.refl s)
  have hlt : i < 63 := lt_of_lt_of_le (List.mem_range.mp hi) (List.length_take_le _ _)
  exact .setReg (.tail _ (List.mem_map_of_mem (List.mem_range.mpr hlt))) hu

theorem exec_raTimeout_frame {s t : State} {tag : BitVec 5} (h : exec (.raTimeout tag) s = .next t) :
    TagFrame tag.toNat [LNK_RA_STAT tag.toNat] [] [.lnk] s t := by
  obtain rfl := Host.Outcome.next.inj h
  split
  · exact .ite (.raDone (.head _) (.head _) (.of_raised (State.bump_drop_raised _ rfl) (.refl s))) (.refl s)
  · exact .refl s

/-- The registers of the tags: each stores its word, has its errors told with the link's, and is freed by its write of FREE. -/
theorem raStat_place : ∀ k < 32, storesWord (LNK_RA_STAT k) = true ∧ (cfgErrOf (LNK_RA_STAT k)).1.reg = LNK_STAT ∧
    (cfgErrOf (LNK_RA_STAT k)).2.1 = LNK_CFG_ERR_INFO := by decide

theorem raStat_written : ∀ k < 32, LNK_RA_STAT k / 0x10000 = 0x1A ∧ LNK_RA_STAT k ≠ LNK_CTRL ∧ LNK_RA_STAT k ≠ LNK_RA_CTRL ∧
    isArr (LNK_RA_STAT 0) 4 32 (LNK_RA_STAT k) = true ∧ (LNK_RA_STAT k - LNK_RA_STAT 0) / 4 = k := by decide

theorem State.written_raStat {k : Nat} (hk : k < 32) (p : Path) (old w : Word) (side : Side) (s : State) :
    s.written p (LNK_RA_STAT k) old w side = onlyIf (w.getLsbD 26) (State.raFree k) s := by
  obtain ⟨hpage, hctrl, hra, harr, hindex⟩ := raStat_written k hk
  simp only [State.written, hpage, State.lnkWritten, if_neg hctrl, if_neg hra, harr, if_true, hindex]

theorem exec_raFree_within {s t : State} {p : Path} {tag : BitVec 5} (h : exec (.raFree p tag) s = .next t) :
    WithinAt [LNK_RA_STAT tag.toNat] (busErrRegs ++ [LNK_CFG_ERR_INFO, LNK_STAT]) (portParts p) s t := by
  obtain rfl := Host.Outcome.next.inj h
  obtain ⟨hplace, hflag, hrec⟩ := raStat_place _ tag.isLt
  have hcfg (b : Nat) : Within [LNK_CFG_ERR_INFO, LNK_STAT] [] s (s.cfgErr (LNK_RA_STAT tag.toNat) b) :=
    .cfgErr (by rw [hflag]; decide) (by rw [hrec]; decide) (.refl s)
  have hset (u : State) (v : Word) : WithinAt [LNK_RA_STAT tag.toNat] (busErrRegs ++ [LNK_CFG_ERR_INFO, LNK_STAT]) [] u (u.setReg (LNK_RA_STAT tag.toNat) v) :=
    .setReg_own (.head _) u v
  have hwrite : WithinAt [LNK_RA_STAT tag.toNat] (busErrRegs ++ [LNK_CFG_ERR_INFO, LNK_STAT]) [] s
      (s.busWrite p (adr (LNK_RA_STAT tag.toNat)) (word [(26, 1)]) Side.untold) := by
    refine State.busWrite_cases (C := WithinAt _ _ _ s) hplace (.refl _ _ _ s)
      (fun b => (State.busErr_within p b _ s).mono (List.nil_subset _) (by decide) (List.nil_subset _))
      (fun b => (hcfg b).mono (List.nil_subset _) (by decide) (List.nil_subset _)) fun v => ?_
    rw [State.written_raStat tag.isLt]
    refine (hset s v).trans (.onlyIf (fun u => ?_) (.refl _ _ _ _))
    unfold State.raFree
    split
    · exact hset u 0
    · exact .refl _ _ _ u
  change WithinAt _ _ _ s (s.writeRow p _ _ _)
  rw [State.writeRow_eq, ← List.append_nil (portParts p)]
  exact hwrite.host fun hport => congrArg State.hst (State.writeRow_of_portParts hport _ _ _ s)

/-! ### Frames of doorbells and forwarded interrupts (R423) -/

theorem exec_doorbell_within {s t : State} {source : Framed (BitVec 16)} (h : exec (.doorbell source) s = .next t) : Within [] [] s t := by
  obtain rfl := Host.Outcome.next.inj h
  have hu {type src : Nat} {payload : List Byte} : Within [] [] s (s.passOn source.head type src false payload) :=
    (LinkFrame.passOn (L := []) (.refl s)).1
  exact .ite (.ite (.raise hu) (.of_raised (State.bump_drop_raised _ rfl) hu)) hu

theorem exec_irqFwd_within {s t : State} {address : BitVec 12} {source : BitVec 10} {stamp : Time}
    (h : exec (.irqFwd address source stamp) s = .next t) : Within [] [] s t := by
  obtain rfl := Host.Outcome.next.inj h
  have hpush : Within [] [] s (s.fwdPush address.toNat source.toNat stamp).1 := .of_raised (State.fwdPush_raised _ _ _ s (.refl s)) (.refl s)
  refine .ite ?_ (.refl s)
  extract_lets r
  split
  · exact .raise hpush
  · exact hpush

theorem exec_fwdPop_within {s t : State} {p : Path} (h : exec (.fwdPop p) s = .next t) :
    Within (busErrRegs ++ [LNK_CFG_ERR_INFO, LNK_CTRL, LNK_STAT]) (portParts p) s t := by
  obtain rfl := Host.Outcome.next.inj h
  rw [← List.append_nil (portParts p)]
  exact State.writeRow_frame (by decide) (by decide) (by decide) fun v =>
    .trans (.setReg (by decide) (.refl s)) (.of_raised (.lnk (.refl _) rfl) (.refl _))

theorem exec_lnkCntClr_within {s t : State} {p : Path} (h : exec (.lnkCntClr p) s = .next t) :
    Within (busErrRegs ++ [LNK_CFG_ERR_INFO, LNK_CTRL, LNK_ERR_CNT, LNK_STAT]) (portParts p) s t := by
  obtain rfl := Host.Outcome.next.inj h
  rw [← List.append_nil (portParts p)]
  refine State.writeRow_frame (by decide) (by decide) (by decide) fun v => ?_
  have hset : Within (busErrRegs ++ [LNK_CFG_ERR_INFO, LNK_CTRL, LNK_ERR_CNT, LNK_STAT]) [] s ((s.setReg LNK_CTRL v).setReg LNK_ERR_CNT 0) :=
    .setReg (by decide) (.setReg (by decide) (.refl s))
  exact hset.trans (.setReg_loud (by decide) _ _)

/-! ### Frames of remote access, the target (R417) -/

theorem State.portRead_within (p : Path) (n : Nat) (a : Word) (e : Bool) (l : List Word) (s : State) :
    Within busErrRegs [.bkd, .shadow] s (s.portRead p n a e l).2.2 := by
  induction n generalizing a e l s with
  | zero => exact .refl s
  | succ n ih => exact (State.busRead_within p a s).trans (ih _ _ _ _)

theorem State.answerBusy_raised (source tag : Nat) (s : State) : Raised s (s.answerBusy source tag) :=
  State.raise_raised _ _ ((State.emit_raised _ _ _ _ _ _ s (.refl s)).trans (State.bump_drop_raised _ rfl))

theorem State.answerRemote_raised (source tag result : Nat) (data : List Word) (s : State) : Raised s (s.answerRemote source tag result data) :=
  State.emit_raised _ _ _ _ _ _ s (.refl s)

theorem exec_rdReq_within {s t : State} {source : BitVec 12} {tag : BitVec 5} {address : Word} {count : Byte} {waiting : Nat}
    (h : exec (.rdReq source tag address count waiting) s = .next t) : Within busErrRegs [.shadow, .bkd] s t := by
  obtain rfl := Host.Outcome.next.inj h
  exact .ite (.ite (.of_raised (State.answerBusy_raised _ _ s) (.refl s)) (.of_raised (State.answerRemote_raised _ _ _ _ _)
    ((State.portRead_within _ _ _ _ _ s).weaken (List.Subset.refl _) (by decide)))) (.refl s)

/-- A refused write changes its block's error flag and record. -/
theorem State.cfgErr_wrote (a b : Nat) (s : State) (R : List Nat) (P : List Part) : WithinAt (wroteRegs a) R P s (s.cfgErr a b) := by
  by_cases hrec : (cfgErrOf a).2.1 = 0
  · have hnone : s.cfgErrRecord a b = s := by simp [State.cfgErrRecord, hrec]
    rw [State.cfgErr_eq, hnone]
    exact (WithinAt.setReg_own (by simp [wroteRegs]) s _).trans ((State.raise_raised _ _ (.refl _)).withinAt _ _ _)
  · exact (State.cfgErr_withinAt a b s R P).mono (by simp [wroteRegs, hrec]) (List.Subset.refl _) (List.Subset.refl _)

/-- A write of a register that only its fields hold. -/
theorem State.regWrite_within {p : Path} {a : Nat} {w : Word} {side : Side} {s : State} (h : Plain a) (R : List Nat) (P : List Part) :
    WithinAt (wroteRegs a) R P s (s.regWrite p a w side) := by
  unfold State.regWrite
  dsimp only
  rw [if_neg (h.ne (b := JNL_RD_SLOT) (by decide) (by decide)), h.ownStore, h.written]
  split
  · exact .refl _ _ _ s
  · split
    · exact .refl _ _ _ s
    · split
      · exact State.cfgErr_wrote a _ s R P
      · exact .setReg_own (by simp [wroteRegs]) s _

theorem Within.mtr {R : List Nat} {P : List Part} {σ s : State} {x : Mtr} (hp : .mtr ∈ P) (h : Within R P σ s) :
    Within R P σ { s with mtr := x } := h.update .mtr hp rfl fun q hq => by cases q <;> simp_all [Part.same]

theorem State.busWrite_plain {p : Path} {a w : Word} {side : Side} {s : State} (h : named actingRegs a.toNat = false) :
    WithinAt (wroteRegs a.toNat) busErrRegs [.mtr] s (s.busWrite p a w side) := by
  unfold State.busWrite
  dsimp only
  split
  · exact .refl _ _ _ s
  · split
    · exact (State.busErr_within p _ a s).mono (List.nil_subset _) (List.Subset.refl _) (List.nil_subset _)
    · next hbus =>
      split
      · exact State.regWrite_within ⟨State.aligned_of_busFault hbus, h⟩ _ _
      · exact (Within.mtr (R := []) (P := [.mtr]) (by decide) (.refl s)).mono (List.nil_subset _) (List.nil_subset _) (List.Subset.refl _)
      · exact .refl _ _ _ s

theorem exec_wrReq_within {s t : State} {source : BitVec 12} {tag : BitVec 5} {address data : Word} {waiting : Nat}
    (hplain : named actingRegs address.toNat = false) (h : exec (.wrReq source tag address data waiting) s = .next t) :
    WithinAt (wroteRegs address.toNat) busErrRegs [.mtr] s t := by
  obtain rfl := Host.Outcome.next.inj h
  split
  · split
    · exact (State.answerBusy_raised _ _ s).withinAt _ _ _
    · exact (State.busWrite_plain hplain).trans ((State.answerRemote_raised _ _ _ _ _).withinAt _ _ _)
  · exact .refl _ _ _ s

end Sys2Proof.Machine

open Sys2Proof Sys2Proof.Machine

/-- Settles O59, a command at a time. -/
theorem frameLink : Obligations.FrameLink := by
  refine ⟨fun _ _ _ h => exec_portUp_within h, fun _ _ _ h => exec_portDown_frame h, fun _ _ _ h => exec_ringCheckSend_frame h,
    fun _ _ _ _ h => exec_ringCheck_frame h, fun _ _ _ h => exec_ringCheckTimeout_frame h, fun _ _ _ _ _ _ h => exec_ringState_frame h,
    fun _ _ _ h => exec_hello_frame h, fun _ _ _ h => exec_enum_frame h, fun _ _ _ _ _ h => exec_claim_frame h,
    fun _ _ _ _ _ h => exec_walk_frame h, fun _ _ _ _ _ _ h => exec_walkReport_frame h, fun _ _ _ _ h => exec_assign_frame h,
    fun _ _ _ _ _ h => exec_raRead_frame h, fun _ _ _ _ _ h => exec_raWrite_frame h, fun _ _ _ _ _ _ h => exec_raBlockRead_frame h,
    fun _ _ _ _ _ h => exec_raRsp_frame h, fun _ _ _ h => exec_raTimeout_frame h, fun _ _ _ _ h => exec_raFree_within h,
    fun s t p control h => ?_, fun s t p control h => ?_, fun _ _ _ _ _ _ _ h => ?_, fun _ _ _ _ _ h => ?_,
    fun _ _ _ _ h => exec_distResult_within h, fun _ _ _ h => exec_imgReq_frame h, fun _ _ _ h => exec_doorbell_within h,
    fun _ _ _ _ _ h => exec_irqFwd_within h, fun _ _ _ h => exec_fwdPop_within h, fun _ _ _ h => exec_lnkCntClr_within h,
    fun _ _ _ h => exec_linkFrameError_frame h, fun _ _ h => exec_helloSend_frame h, fun _ _ h => exec_enumAutoStart_frame h,
    fun _ _ h => exec_claimTimeout_frame h, fun _ _ h => exec_distCollectEnd_within h, fun _ _ _ _ _ _ _ h => exec_rdReq_within h,
    fun _ _ _ _ _ _ _ hplain h => exec_wrReq_within hplain h⟩
  case refine_1 =>
    obtain rfl := Host.Outcome.next.inj h
    exact State.writeRow_distCtrl p _ s
  case refine_2 =>
    obtain rfl := Host.Outcome.next.inj h
    exact State.writeRow_distCtrl p _ s
  case refine_3 =>
    obtain ⟨⟨hwithin, hpieces⟩, hflash⟩ := exec_distStart_frame h
    exact ⟨hwithin, hflash, hpieces⟩
  case refine_4 =>
    obtain ⟨⟨hwithin, hpieces⟩, hflash⟩ := exec_distData_frame h
    exact ⟨hwithin, hflash, hpieces⟩

end

section
namespace Sys2Proof.Machine

/-! ### The registers of the sources -/

theorem RegDef.covers_false_of_past {d : RegDef} {a : Nat} (hs : 0 < d.stride) (h : d.base + d.stride * d.count ≤ a) : d.covers a = false := by
  have hpast : ¬(a - d.base) / d.stride < d.count := by
    rw [Nat.div_lt_iff_lt_mul hs, Nat.mul_comm]
    omega
  simp [RegDef.covers, hpast]

/-- Every source's word has the fields of the first's. -/
theorem fieldsOf_ICU_SRC (k : Nat) : fieldsOf (ICU_SRC k) = fieldsOf (ICU_SRC 0) := by
  have hk : k % 1024 < 1024 := Nat.mod_lt _ (by decide)
  have haddr : ICU_SRC k = 0x1B1000 + 0x4 * (k % 1024) := rfl
  have hpage : ICU_SRC k / 0x10000 = 0x1B := by omega
  have hlist : icuRegs = icuRegs.dropLast ++ [⟨0x1B1000, 0x4, 1024, 0x4, 1, fieldsOf (ICU_SRC 0)⟩] := rfl
  have hbefore : icuRegs.dropLast.find? (fun d => d.covers (ICU_SRC k)) = none := by
    have hpast : ∀ d ∈ icuRegs.dropLast, 0 < d.stride ∧ d.base + d.stride * d.count ≤ 0x1B1000 := by decide
    refine List.find?_eq_none.mpr fun d hd => ?_
    obtain ⟨hs, hend⟩ := hpast d hd
    rw [RegDef.covers_false_of_past hs (by omega)]
    exact Bool.false_ne_true
  have hlast : RegDef.covers ⟨0x1B1000, 0x4, 1024, 0x4, 1, fieldsOf (ICU_SRC 0)⟩ (ICU_SRC k) = true :=
    RegDef.covers_add hk (by decide) (by decide)
  have hdef : regDefOf (ICU_SRC k) = some ⟨0x1B1000, 0x4, 1024, 0x4, 1, fieldsOf (ICU_SRC 0)⟩ := by
    rw [regDefOf, hpage]
    change icuRegs.find? (fun d => d.covers (ICU_SRC k)) = _
    rw [hlist, List.find?_append, hbefore, Option.none_or, List.find?_cons, hlast]
  simp only [fieldsOf, hdef]

/-! ### A source's route stands as sources are raised and delivered (R439 to R441) -/

/-- From `s` to `t` every source keeps its configuration: the fields of its word below AGAIN. -/
def RoutesKept (s t : State) : Prop := ∀ (f : Fld) (k : Nat), f.reg = ICU_SRC k → f.lo + f.width ≤ 30 → t.fld f = s.fld f

namespace RoutesKept

variable {σ s t : State}

theorem refl (s : State) : RoutesKept s s := fun _ _ _ _ => rfl

theorem trans (h : RoutesKept σ s) (g : RoutesKept s t) : RoutesKept σ t := fun f k hf hlo => (g f k hf hlo).trans (h f k hf hlo)

theorem of_regs (hregs : t.regs = s.regs) (h : RoutesKept σ s) : RoutesKept σ t :=
  h.trans fun f _ _ _ => by simp only [State.fld, State.reg, hregs]

theorem setReg {a : Nat} {v : Word} (ha : isArr (ICU_SRC 0) 4 1024 a = false) (h : RoutesKept σ s) : RoutesKept σ (s.setReg a v) :=
  h.trans fun _ _ hf _ => s.fld_src_setReg v ha hf

theorem setFld {f : Fld} {v : Nat} (hf : isArr (ICU_SRC 0) 4 1024 f.reg = false) (h : RoutesKept σ s) : RoutesKept σ (s.setFld f v) :=
  setReg hf h

/-- PEND and AGAIN lie above the route. -/
theorem setMark {f : Fld} {v : Nat} (hlo : 30 ≤ f.lo) (h : RoutesKept σ s) : RoutesKept σ (s.setFld f v) := by
  refine h.trans fun g k hg hfit => ?_
  by_cases hr : g.reg = f.reg
  · exact s.fld_setFld_beside f g v hr (.inl (hfit.trans hlo)) (hfit.trans (by decide))
  · exact s.fld_setFld_other f g v hr

theorem forEach {α : Type} {l : List α} {f : α → State → State} (hf : ∀ a u, RoutesKept σ u → RoutesKept σ (f a u))
    (h : RoutesKept σ s) : RoutesKept σ (forEach l f s) := forEach_induction (fun a _ => hf a) h

theorem ite {c : Prop} [Decidable c] (hs : RoutesKept σ s) (ht : RoutesKept σ t) : RoutesKept σ (if c then s else t) := by
  split
  · exact hs
  · exact ht

theorem put {port type dest src hops tag : Nat} {both : Bool} {payload : List Byte} (h : RoutesKept σ s) :
    RoutesKept σ (s.put port type dest src hops tag both payload) := ite (of_regs rfl h) h

theorem send {type mode : Nat} {both : Bool} {payload : List Byte} (h : RoutesKept σ s) : RoutesKept σ (s.send type mode both payload) := by
  have cast (ring ev : Nat) (u : State) (hu : RoutesKept σ u) : RoutesKept σ (Machine.forEach (u.castPorts ring both)
      (fun p w => w.emit p type (mode * 4096) ev both payload) u) := forEach (fun _ _ hw => put hw) hu
  have hev : RoutesKept σ { s with lnk := { s.lnk with events := putPair s.lnk.events type ((s.eventNo type + 1) % 256) } } := of_regs rfl h
  unfold State.send
  dsimp only
  split
  · exact cast 0 _ _ hev
  · exact ite (cast 1 _ _ (cast 0 _ _ hev)) (cast 0 _ _ hev)
  · exact cast 1 _ _ hev
  · exact ite h (put hev)
  · exact ite h (put hev)
  · exact h

theorem clearPend {src : Nat} (h : RoutesKept σ s) : RoutesKept σ (s.clearPend src) :=
  of_regs rfl (setMark (f := ICU_SRC_AGAIN src) (v := 0) (Nat.le_refl 30) (setMark (f := ICU_SRC_PEND src) (v := 0) (Nat.le_succ 30) h))

theorem unwait {src : Nat} (h : RoutesKept σ s) : RoutesKept σ (s.unwait src) := of_regs rfl h

theorem driveInt (h : RoutesKept σ s) : RoutesKept σ s.driveInt := by
  obtain ⟨level, gap, hdrive⟩ := State.driveInt_eq s
  rw [hdrive]
  exact of_regs rfl h

theorem fwdPush {address source : Nat} {stamp : Time} (h : RoutesKept σ s) : RoutesKept σ (s.fwdPush address source stamp).1 := by
  unfold State.fwdPush
  split
  · exact of_regs rfl h
  · exact ite (setFld (by decide) h) h

theorem deliver {src : Nat} (h : RoutesKept σ s) : RoutesKept σ (s.deliver src).1 := by
  unfold State.deliver
  dsimp only
  split
  · exact clearPend h
  · exact clearPend h
  · exact clearPend h
  · split
    · exact unwait h
    · split
      · exact of_regs rfl h
      · split
        · exact of_regs rfl h
        · exact setFld (by decide) (of_regs rfl h)
  · split
    · exact of_regs rfl h
    · split
      · exact fwdPush (clearPend h)
      · split
        · exact clearPend (send h)
        · exact of_regs rfl h

theorem offer {src : Nat} (h : RoutesKept σ s) : RoutesKept σ (s.offer src).1 := by
  unfold State.offer
  dsimp only
  split
  · split
    · exact of_regs rfl h
    · exact deliver (ite h (of_regs rfl h))
  · exact unwait h

theorem markPend {src : Nat} {stamp : Time} (h : RoutesKept σ s) : RoutesKept σ (s.markPend src stamp) :=
  ite (setMark (Nat.le_refl 30) h) (of_regs rfl (setMark (f := ICU_SRC_PEND src) (v := 1) (Nat.le_succ 30) h))

theorem raiseOnce {src : Nat} {stamp : Time} (h : RoutesKept σ s) : RoutesKept σ (s.raiseOnce src stamp).1 := by
  unfold State.raiseOnce
  dsimp only
  split
  · exact markPend h
  · exact offer (markPend h)

theorem chain (n : Nat) (r : State × Option Nat) (h : RoutesKept σ r.1) : RoutesKept σ (State.chain n r) := by
  induction n generalizing r with
  | zero =>
    unfold State.chain
    split
    · exact h
    · exact markPend h
  | succ n ih =>
    unfold State.chain
    split
    · exact h
    · exact ih _ (raiseOnce h)

theorem deliverAll {srcs : List Nat} (h : RoutesKept σ s) : RoutesKept σ (s.deliverAll srcs) :=
  driveInt (forEach (fun _ _ hu => ite (chain 400 _ (deliver hu)) (unwait hu)) h)

theorem refillQueue (h : RoutesKept σ s) : RoutesKept σ s.refillQueue := deliverAll h

theorem offerRouted {o : State} {src : Nat} (h : RoutesKept σ s) : RoutesKept σ (State.offerRouted src o s) :=
  ite (unwait h) (ite (chain 400 _ (offer (unwait h))) h)

end RoutesKept

theorem getLsbD_withMask (base : Word) (mask v : Nat) {i : Nat} (hi : i < 32) :
    (withMask base mask v).getLsbD i = (base.getLsbD i && !mask.testBit i || v.testBit i && mask.testBit i) := by
  have hland : (Nat.land v mask).testBit i = (v.testBit i && mask.testBit i) := Nat.testBit_and v mask i
  simp only [withMask, BitVec.getLsbD_or, BitVec.getLsbD_and, BitVec.getLsbD_not, BitVec.getLsbD_ofNat, hi, decide_true, Bool.true_and, hland]

/-- A field that the mask holds takes the value's bits. -/
theorem bitsOf_withMask (base w : Word) {mask lo width : Nat} (hmask : ∀ i, lo ≤ i → i < lo + width → mask.testBit i = true)
    (hfit : lo + width ≤ 32) : bitsOf (withMask base mask w.toNat).toNat lo width = bitsOf w.toNat lo width :=
  bitsOf_congr fun i hlo hhi => by
    rw [getLsbD_withMask _ _ _ (by omega), hmask i hlo hhi]
    simp [BitVec.getLsbD]

/-- A written source has the route of its word. -/
theorem State.fld_srcWritten (s : State) (k : Nat) (w : Word) {f : Fld} (hreg : f.reg = ICU_SRC k) (hfit : f.lo + f.width ≤ 30)
    (hmask : ∀ i, f.lo ≤ i → i < f.lo + f.width → Nat.testBit 0xB7FF i = true) :
    (s.srcWritten k w).fld f = bitsOf w.toNat f.lo f.width := by
  unfold State.srcWritten State.reroute
  extract_lets t u left
  have hkept : RoutesKept u ((State.offerRouted k t (onlyIf left (State.dropEntry k) u)).refillQueue) :=
    .refillQueue (.offerRouted (.ite (.of_regs rfl (.refl u)) (.refl u)))
  have hroute : u.reg (ICU_SRC k) = withMask (t.reg (ICU_SRC k)) 0xB7FF w.toNat := State.reg_setReg_self _ _ _
  rw [hkept f k hreg hfit, State.fld, hreg, hroute]
  exact bitsOf_withMask _ _ hmask (by omega)

end Sys2Proof.Machine
end

section
namespace Sys2Proof.Machine

/-! ### Sources that are disabled (R438, R439) -/

theorem State.icuRuns_of_active {s : State} (h : s.active = true) : s.icuRuns = true := by
  have hpower : s.boot.power = .active := by simpa [State.active] using h
  simp [State.icuRuns, hpower]

/-- Raising a disabled source is one marking. -/
theorem State.raise_eq_of_disabled {s : State} {k : Nat} (hruns : s.icuRuns = true) (hen : s.flag (ICU_SRC_EN k) = false) :
    s.raise k = (s.raiseOnce k s.now).1.driveInt := by
  rw [State.raise, State.raiseAt, if_pos hruns, State.raiseOnce_disabled s.now hen, State.afterFull, State.chain_none]

/-- A disabled source is marked pending, and the host queue stands. -/
theorem State.raise_disabled {s : State} {k : Nat} (hruns : s.icuRuns = true) (hen : s.flag (ICU_SRC_EN k) = false) :
    (s.raise k).flag (ICU_SRC_PEND k) = true ∧ (s.raise k).icu.queue = s.icu.queue := by
  obtain ⟨stamps, hicu⟩ := s.markPend_icu k s.now
  have honce : (s.raiseOnce k s.now).1.flag (ICU_SRC_PEND k) = true ∧ (s.raiseOnce k s.now).1.icu.queue = s.icu.queue := by
    rw [State.raiseOnce_disabled s.now hen]
    split
    · exact ⟨s.flag_pend_markPend k s.now, by rw [hicu]⟩
    · exact ⟨s.flag_pend_markPend k s.now, by simp [State.unwait, hicu]⟩
  obtain ⟨level, gap, hdrive⟩ := State.driveInt_eq (s.raiseOnce k s.now).1
  rw [State.raise_eq_of_disabled hruns hen, hdrive]
  exact honce

/-- It sends and forwards nothing. -/
theorem State.raise_disabled_lnk {s : State} {k : Nat} (hruns : s.icuRuns = true) (hen : s.flag (ICU_SRC_EN k) = false) :
    (s.raise k).lnk = s.lnk := by
  have hmark : (s.markPend k s.now).lnk = s.lnk := by
    unfold State.markPend
    split
    · rfl
    · rfl
  obtain ⟨level, gap, hdrive⟩ := State.driveInt_eq (s.raiseOnce k s.now).1
  rw [State.raise_eq_of_disabled hruns hen, hdrive, State.raiseOnce_disabled s.now hen]
  split
  · exact hmark
  · exact hmark

/-- A cancelled request of Standby leaves the registers. -/
theorem State.cancelStandby_raise {s : State} {j k : Nat} (hruns : s.icuRuns = true) (hen : s.flag (ICU_SRC_EN k) = false) :
    ((s.cancelStandby j).raise k).flag (ICU_SRC_PEND k) = true := by
  have hcancel : (s.cancelStandby j).icuRuns = true ∧ (s.cancelStandby j).flag (ICU_SRC_EN k) = false := by
    unfold State.cancelStandby
    split
    · exact ⟨hruns, hen⟩
    · exact ⟨hruns, hen⟩
  exact (State.raise_disabled hcancel.1 hcancel.2).1

/-! ### Delivering what no longer waits -/

theorem State.deliverAll_nil (s : State) : s.deliverAll [] = s.driveInt := rfl

/-- With nothing that waits for room, a pop leaves the queue but for the head's source, whose PEND it clears. -/
theorem State.popped {s : State} {k : Nat} (hstuck : s.icu.stuck = []) :
    (((s.clearPend k).refillQueue).driveInt).icu.queue = s.icu.queue.filter (fun x => !decide (x.source = k)) ∧
    (((s.clearPend k).refillQueue).driveInt).regs = (s.clearPend k).regs := by
  have hrefill : (s.clearPend k).refillQueue = (s.clearPend k).driveInt := by
    have hnone : (s.clearPend k).icu.stuck = [] := by rw [(s.clearPend_icu k).2, hstuck]; rfl
    rw [State.refillQueue, hnone, List.filter_nil, List.take_nil, State.deliverAll_nil]
  obtain ⟨level, gap, hfirst⟩ := State.driveInt_eq (s.clearPend k)
  obtain ⟨level', gap', hsecond⟩ := State.driveInt_eq (s.clearPend k).driveInt
  rw [hrefill, hsecond, hfirst]
  exact ⟨(s.clearPend_icu k).1, rfl⟩

theorem State.flag_pend_clearPend (s : State) (k : Nat) : (s.clearPend k).flag (ICU_SRC_PEND k) = false := by
  have hbeside := (s.setFld (ICU_SRC_PEND k) 0).fld_setFld_beside (ICU_SRC_AGAIN k) (ICU_SRC_PEND k) 0 rfl (.inr le_rfl) le_rfl
  have hzero := s.flag_setFld_zero (ICU_SRC_PEND k) (Nat.le_refl 32)
  change ((s.setFld (ICU_SRC_PEND k) 0).setFld (ICU_SRC_AGAIN k) 0).flag (ICU_SRC_PEND k) = false
  rw [State.flag, hbeside]
  exact hzero

/-! ### Words written (R439, R442) -/

theorem bitsOf_one_ne_zero (w : Word) (i : Nat) : (bitsOf w.toNat i 1 != 0) = w.getLsbD i := by
  have hbit := testBit_bitsOf w.toNat i 1 0
  have hlt : bitsOf w.toNat i 1 < 2 := Nat.mod_lt _ (by decide)
  rw [BitVec.getLsbD, ← Nat.add_zero i, ← Bool.true_and (w.toNat.testBit (i + 0)),
    ← show decide (0 < 1) = true from rfl, ← hbit, Nat.add_zero]
  interval_cases bitsOf w.toNat i 1
  · rfl
  · rfl

/-- An accepted write of a source's word. -/
theorem exec_icuSrcWrite {s : State} {p : Path} {source : BitVec 10} {data : Word} (hserve : s.serves p = true)
    (hres : reservedBit (fieldsOf (ICU_SRC source.toNat)) data = none) (hdest : bitsOf data.toNat 8 3 ≠ 4) :
    ∃ h : Hst, exec (.icuSrcWrite p source data) s = .next { s.srcWritten source.toNat data with hst := h } := by
  obtain ⟨hactive, hans⟩ : s.active = true ∧ s.answers p = true := by simpa [State.serves] using hserve
  have hk : source.toNat < 1024 := source.isLt
  have hwr : (fieldsOf (ICU_SRC source.toNat)).any FieldSpec.writable = true := by rw [fieldsOf_ICU_SRC]; decide
  have hexec : exec (.icuSrcWrite p source data) s = .next (s.writeRow p (adr (ICU_SRC source.toNat)) data Side.untold) := rfl
  rw [hexec]
  generalize source.toNat = k at hres hk hwr
  have haddr : ICU_SRC k = 0x1B1000 + 0x4 * k := by rw [ICU_SRC, Nat.mod_eq_of_lt hk]
  have hadr : (adr (ICU_SRC k)).toNat = ICU_SRC k := Nat.mod_eq_of_lt (by omega)
  have hbase : ICU_SRC 0 = 0x1B1000 := rfl
  have hpage : ICU_SRC k / 0x10000 = 0x1B := by omega
  have hwin := windowOf_of_fields (ne_nil_of_writable hwr)
  have hbus : s.busFault p true (ICU_SRC k) = none := by
    have halign : ICU_SRC k % 4 = 0 := by omega
    simp [State.busFault, halign, hwin, State.early_of_active hactive]
  have harr : isArr (ICU_SRC 0) 4 1024 (ICU_SRC k) = true := by
    simp only [isArr, haddr, hbase, Bool.and_eq_true, decide_eq_true_eq]
    omega
  have hhold : isArr (ICU_HOLD 0) 4 32 (ICU_SRC k) = false := by
    have hfirst : ICU_HOLD 0 = 0x1B0100 := rfl
    simp only [isArr, haddr, hfirst, Bool.and_eq_false_iff, decide_eq_false_iff_not]
    omega
  have href : s.refused p (ICU_SRC k) data = none := by
    simp [State.refused, hpage, hdest, when]
  have hindex : (ICU_SRC k - ICU_SRC 0) / 4 = k := by omega
  have hown : ownStore (ICU_SRC k) = true := by rw [ownStore, harr, Bool.or_true]
  have hpast {b : Nat} (hb : b < 0x1B1000) : ICU_SRC k ≠ b := by omega
  have hwrite : s.busWrite p (adr (ICU_SRC k)) data Side.untold = s.srcWritten k data := by
    rw [State.busWrite_regs data Side.untold hans (by rwa [hadr]) (by rwa [hadr]), hadr,
      State.regWrite_accepted Side.untold hwr (by omega) (by rw [hres, href]; rfl) (hpast (by decide)), hown, if_pos rfl]
    simp [State.written, hpage, State.icuWritten, hpast (show ICU_DOORBELL < 0x1B1000 by decide),
      hpast (show ICU_CTRL < 0x1B1000 by decide), hhold, harr, hindex]
  exact ⟨_, congrArg _ ((State.writeRow_eq p _ data Side.untold s).trans (by rw [hwrite]))⟩

end Sys2Proof.Machine
end

section
namespace Sys2Proof.Machine

/-! ### Standby (R444, R445) -/

/-- The request's own word is none of its conditions. -/
theorem State.standbyAllowed_pwrCtrl (s : State) (v : Word) : (s.setReg GLB_PWR_CTRL v).standbyAllowed = s.standbyAllowed := by
  have hfld {f : Fld} (hf : f.reg ≠ GLB_PWR_CTRL) : (s.setReg GLB_PWR_CTRL v).fld f = s.fld f := State.fld_setReg_other _ _ _ _ hf
  have hmask : (s.setReg GLB_PWR_CTRL v).reg GLB_WAKE_MASK = s.reg GLB_WAKE_MASK := State.reg_setReg_other _ _ _ _ (by decide)
  have hirq (n : Nat) : (s.setReg GLB_PWR_CTRL v).irqEdgeOf n = s.irqEdgeOf n := rfl
  have hlatch : (s.setReg GLB_PWR_CTRL v).latchArmed = s.latchArmed := by
    funext k
    simp only [State.latchArmed, State.portOn, hmask, hirq, hfld (show LNK_STAT_EN.reg ≠ GLB_PWR_CTRL by decide)]
  have hcouch (k : Nat) : (s.setReg GLB_PWR_CTRL v).fld (MTR_COUCH_STAT_STATE k) = s.fld (MTR_COUCH_STAT_STATE k) :=
    hfld (Nat.ne_of_gt (Nat.lt_add_right _ (show GLB_PWR_CTRL < 0x180090 by decide)))
  unfold State.standbyAllowed
  rw [hlatch]
  simp only [hcouch, State.relayInProgress, State.relayOpen, hfld (show BND_STAT_STATE.reg ≠ GLB_PWR_CTRL by decide),
    State.idle, State.railUp, State.sessionOpen, State.updating, hfld (show SEQ_STAT_DEV_COURSE.reg ≠ GLB_PWR_CTRL by decide),
    hfld (show SEQ_ON_RAIL.reg ≠ GLB_PWR_CTRL by decide), hfld (show CPM_CHG_STAT_PHASE.reg ≠ GLB_PWR_CTRL by decide),
    hfld (show RPC_UPD_STAT_STATE.reg ≠ GLB_PWR_CTRL by decide)]
  rfl

/-- An accepted request of Standby. -/
theorem exec_standbyRequest {s : State} {p : Path} (hserve : s.serves p = true) : ∃ (v : Word) (h : Hst),
    exec (.standbyRequest p) s = .next { if s.standbyAllowed then
      { (s.setReg GLB_PWR_CTRL v).setReg ICU_LATCH 0 with icu := { s.icu with armed := true, again := [], latchStamps := [] } }
      else (s.setReg GLB_PWR_CTRL v).flagRaise GLB_STAT_PWR_REF_EV 1 with hst := h } := by
  obtain ⟨hactive, hans⟩ : s.active = true ∧ s.answers p = true := by simpa [State.serves] using hserve
  have hdoes (v : Word) : (s.setReg GLB_PWR_CTRL v).written p GLB_PWR_CTRL (s.reg GLB_PWR_CTRL) (word [(24, 0x5B), (0, 1)]) Side.untold =
      if s.standbyAllowed then
        { (s.setReg GLB_PWR_CTRL v).setReg ICU_LATCH 0 with icu := { s.icu with armed := true, again := [], latchStamps := [] } }
      else (s.setReg GLB_PWR_CTRL v).flagRaise GLB_STAT_PWR_REF_EV 1 := by
    change (if (s.setReg GLB_PWR_CTRL v).standbyAllowed then _ else _) = _
    rw [State.standbyAllowed_pwrCtrl]
    rfl
  obtain ⟨v, h, hwrite⟩ := State.writeRow_acts hans (State.early_of_active hactive p _) (by decide) (by decide) (by decide)
    (by decide) (by decide) (show s.refused p GLB_PWR_CTRL (word [(24, 0x5B), (0, 1)]) = none by
      change pwrCtrlRefused (word [(24, 0x5B), (0, 1)]) = none
      decide) hdoes
  exact ⟨v, h, congrArg Host.Outcome.next hwrite⟩

theorem bitsOf_or_maskAt (w : Word) {i : Nat} (hi : i < 32) : bitsOf (w ||| maskAt i 1).toNat i 1 = 1 := by
  have hset : (w ||| maskAt i 1).getLsbD i = true := by
    simp [maskAt, hi, BitVec.getLsbD_ofNat, Nat.shiftLeft_eq, Nat.testBit_two_pow_self, -BitVec.ofNat_pow]
  have hone := bitsOf_one_ne_zero (w ||| maskAt i 1) i
  have hlt : bitsOf (w ||| maskAt i 1).toNat i 1 < 2 := Nat.mod_lt _ (by decide)
  rw [hset, bne_iff_ne] at hone
  omega

/-- The first latch that catches an edge in Standby starts a lock attempt. -/
theorem exec_wakeLatchEdge {s : State} {k : Nat} (hpower : s.boot.power = .standby) (harmed : s.icu.armed = true)
    (hlatch : s.latchArmed k = true) (hclear : bitsOf (s.reg ICU_LATCH).toNat k 1 = 0) (hidle : s.clk.attemptAt = none) :
    exec (.wakeLatchEdge k) s = .next { s.setReg ICU_LATCH (s.reg ICU_LATCH ||| maskAt k 1) with
      icu := { s.icu with latchStamps := (k, s.nextRc) :: s.icu.latchStamps }
      clk := { s.clk with seedFor := 3, attemptAt := some s.clk.rc, qualifiedAt := none } } := by
  change Host.Outcome.next (if s.icu.armed && s.latchArmed k then _ else s) = _
  rw [if_pos (by rw [harmed, hlatch]; rfl), if_pos (by rw [hpower]; rfl), if_neg (by rw [hclear]; decide), if_neg (by rw [hidle]; decide)]
  rfl

theorem State.lt_of_latchArmed {s : State} {k : Nat} (h : s.latchArmed k = true) : k < 13 := by
  simp only [State.latchArmed, Bool.and_eq_true, decide_eq_true_eq] at h
  exact h.1.2

/-! ### Hold-off groups and INT_N (R442, R443) -/

/-- An accepted write of a group's hold, with nothing that waits behind the group: 0 opens it, another value stands for the next hold. -/
theorem exec_icuHoldWrite {s : State} {p : Path} {g : Nat} {data : Word} (hserve : s.serves p = true) (hg : g < 32)
    (hres : reservedBit (fieldsOf (ICU_HOLD g)) data = none) (hnone : s.groupWaits g = []) :
    ∃ t, exec (.icuHoldWrite p g data) s = .next t ∧ t.fld (ICU_HOLD_HOLD g) = bitsOf data.toNat 0 17 ∧
      t.icu.held = if bitsOf data.toNat 0 17 = 0 then dropPair s.icu.held g else s.icu.held := by
  obtain ⟨hactive, hans⟩ : s.active = true ∧ s.answers p = true := by simpa [State.serves] using hserve
  have hplace : ∀ g < 32, storesWord (ICU_HOLD g) = true ∧ ICU_HOLD g % 4 = 0 ∧ ICU_HOLD g / 0x10000 = 0x1B ∧
      isArr (ICU_SRC 0) 4 1024 (ICU_HOLD g) = false ∧ ICU_HOLD g ≠ ICU_DOORBELL ∧ ICU_HOLD g ≠ ICU_CTRL ∧
      isArr (ICU_HOLD 0) 4 32 (ICU_HOLD g) = true ∧ (ICU_HOLD g - ICU_HOLD 0) / 4 = g ∧ ICU_HOLD g < ICU_SRC 0 ∧
      (fieldsOf (ICU_HOLD g)).any FieldSpec.writable = true ∧ ⟨0, 17, .rw, 0, 3, [(0, 0x186A0)]⟩ ∈ fieldsOf (ICU_HOLD g) := by decide
  obtain ⟨hstores, halign, hpage, hsrc, hbell, hctrl, harr, hindex, hlt, hwr, hfield⟩ := hplace g hg
  have hrefused : s.refused p (ICU_HOLD g) data = none := by simp [State.refused, hpage, hlt.not_ge]
  obtain ⟨h, hwrite⟩ := State.writeRow_accepted Side.untold hans (State.early_of_active hactive p _) hstores halign (by omega) hwr hres hrefused
  generalize hv : writtenWord (fieldsOf (ICU_HOLD g)) (s.reg (ICU_HOLD g)) data = v at hwrite
  have hhold : (s.setReg (ICU_HOLD g) v).fld (ICU_HOLD_HOLD g) = bitsOf data.toNat 0 17 := by
    rw [State.fld, show (ICU_HOLD_HOLD g).reg = ICU_HOLD g from rfl, State.reg_setReg_self, ← hv]
    refine bitsOf_congr fun i hlo hhi => ?_
    rw [getLsbD_writtenWord_of_has _ _ hfield ((FieldSpec.has_iff _ i).mpr ⟨hlo, hhi⟩)]
    rfl
  have hwaits : (s.setReg (ICU_HOLD g) v).groupWaits g = [] := by
    rw [← hnone]
    exact List.filter_congr fun k _ => by rw [State.fld_src_setReg s v hsrc rfl]
  have hwritten : (s.setReg (ICU_HOLD g) v).written p (ICU_HOLD g) (s.reg (ICU_HOLD g)) data Side.untold =
      (s.setReg (ICU_HOLD g) v).holdWritten g := by
    simp [State.written, hpage, State.icuWritten, hbell, hctrl, harr, hindex]
  have hexec : exec (.icuHoldWrite p g data) s = .next { (s.setReg (ICU_HOLD g) v).holdWritten g with hst := h } := by
    change Host.Outcome.next (if g < 32 then _ else s) = _
    rw [if_pos hg, hwrite, hwritten]
  refine ⟨_, hexec, ?_⟩
  rw [State.holdWritten, hhold, hwaits, State.deliverAll_nil]
  obtain ⟨level, gap, hdrive⟩ := State.driveInt_eq (State.openGroup g (s.setReg (ICU_HOLD g) v))
  rw [hdrive]
  split
  · exact ⟨hhold, rfl⟩
  · exact ⟨hhold, rfl⟩

/-- With no gap to keep, a high INT_N takes the level that the queue wants. -/
theorem State.driveInt_free {s : State} (hlow : s.icu.intN = false) (hgap : s.icu.gapEnd = none) :
    s.driveInt.icu.gapEnd = none ∧
    s.driveInt.icu.intN = (s.flag ICU_CTRL_INT_EN && !s.icu.queue.isEmpty && s.icuRuns && !s.pins.hostReleased) ∧
    s.driveInt.regs = s.regs := by
  unfold State.driveInt
  rw [hlow, hgap]
  cases s.flag ICU_CTRL_INT_EN && !s.icu.queue.isEmpty && s.icuRuns && !s.pins.hostReleased
  · exact ⟨hgap, hlow, rfl⟩
  · exact ⟨rfl, rfl, rfl⟩

/-- A group's hold that is due: the batch is delivered and held again, or the group opens. -/
theorem exec_holdoffExpiry {s : State} {g d : Nat} (hheld : s.icu.held.find? (fun p => decide (p.1 = g)) = some (g, d)) (hdue : d ≤ s.clk.core) :
    exec (.holdoffExpiry g) s = .next (if ((s.groupWaits g).filter s.eligible).isEmpty then s.openGroup g
      else if s.fld (ICU_HOLD_HOLD g) = 0 then (s.openGroup g).deliverAll (s.groupWaits g)
      else { (s.openGroup g).deliverAll (s.groupWaits g) with icu := { ((s.openGroup g).deliverAll (s.groupWaits g)).icu with
        held := putPair ((s.openGroup g).deliverAll (s.groupWaits g)).icu.held g (s.clk.core + s.fld (ICU_HOLD_HOLD g) * coreUs) } }) := by
  change execHoldoffExpiry g s = _
  unfold execHoldoffExpiry
  rw [hheld]
  dsimp only
  rw [if_pos hdue]

/-- A pop with nothing that waits for room in the queue. -/
theorem exec_icuPop_alone {s : State} {p : Path} {intEn : Bool} {e : QEntry} (hserve : s.serves p = true)
    (hhead : headEntry s.icu.queue = some e) (hstuck : s.icu.stuck = []) : ∃ t, exec (.icuPop p intEn) s = .next t ∧
    t.icu.queue = s.icu.queue.filter (fun x => !decide (x.source = e.source)) ∧ t.flag (ICU_SRC_PEND e.source) = false ∧
    t.flag ICU_CTRL_INT_EN = intEn := by
  obtain ⟨hactive, hans⟩ : s.active = true ∧ s.answers p = true := by simpa [State.serves] using hserve
  obtain ⟨h, hexec⟩ := exec_icuPop (intEn := intEn) hans (State.early_of_active hactive p _) hhead
  obtain ⟨hqueue, hregs⟩ := State.popped (s := s.setReg ICU_CTRL (s.popWord intEn)) (k := e.source) hstuck
  generalize (((s.setReg ICU_CTRL (s.popWord intEn)).clearPend e.source).refillQueue).driveInt = t at hexec hqueue hregs
  have hreg (a : Nat) : t.reg a = ((s.setReg ICU_CTRL (s.popWord intEn)).clearPend e.source).reg a := by rw [State.reg, State.reg, hregs]
  have hpend : t.flag (ICU_SRC_PEND e.source) = false := by
    rw [State.flag, State.fld, hreg]
    exact State.flag_pend_clearPend _ _
  have hint : t.flag ICU_CTRL_INT_EN = intEn := by
    have hfield : (⟨0, 1, .rw, 1, 3, []⟩ : FieldSpec) ∈ fieldsOf ICU_CTRL := by decide
    rw [State.flag_eq_getLsbD _ rfl, show ICU_CTRL_INT_EN.reg = ICU_CTRL from rfl, hreg,
      State.reg_clearPend _ (ICU_SRC_ne_of (by decide) _).symm, State.reg_setReg_self, State.popWord,
      getLsbD_writtenWord_of_has _ _ hfield rfl]
    cases intEn
    · rfl
    · rfl
  exact ⟨_, hexec, hqueue, hpend, hint⟩

/-- Standby begins: the PLL's lock goes and SYSTIME stands. -/
theorem exec_standbyEnter {s : State} (harmed : s.icu.armed = true) (hidle : s.idle = true) (hjnl : s.jnl.queue = []) :
    exec .standbyEnter s = .next (({ s with
      boot := { s.boot with power := .standby }
      clk := { s.clk with onRc := true, attemptAt := none, qualifiedAt := none }
      mtr := { s.mtr with resume := some 0xFF } } : State).setFld STM_STAT_PLL_LOCKED 0) := by
  change Host.Outcome.next (if s.icu.armed && s.idle && s.jnl.queue.isEmpty then _ else s) = _
  rw [harmed, hidle, hjnl]
  rfl

end Sys2Proof.Machine

open Sys2Proof Sys2Proof.Machine

/-- Settles O49: each command by the lemma of its effect; a disabled source is marked and no more. -/
theorem interruptCommandsComplete : Obligations.InterruptCommandsComplete := by
  intro s
  refine ⟨fun p k hserve hlo hen => ?_, fun p k w hserve hres hdest => ?_, fun p intEn e hserve hhead hstuck => ?_,
    fun g d hheld hdue hnone => ?_, fun g d hheld hdue hsome hhold => ?_, fun p g w hserve hg hres hnone => ?_, fun hgap hlow => ?_,
    fun p hserve hallowed => ?_, fun p hserve hallowed => ?_, fun harmed hidle hjnl => ?_, fun k hpower harmed hlatch hclear hattempt => ?_,
    fun n rising hsampled hn hsel hen => ?_, fun n rising hsampled hn hfunc hsel hen => ?_, fun hactive hen => ?_⟩
  case refine_1 =>
    obtain ⟨hactive, hans⟩ : s.active = true ∧ s.answers p = true := by simpa [State.serves] using hserve
    obtain ⟨v, h, hexec⟩ := exec_doorbellWrite hlo (Nat.le_of_lt_succ k.isLt) hans (State.early_of_active hactive p _)
    rw [BitVec.ofNat_toNat, BitVec.setWidth_eq] at hexec
    have hoff : (s.setReg ICU_DOORBELL v).flag (ICU_SRC_EN k.toNat) = false := by
      rw [← hen]
      exact congrArg (· != 0) (s.fld_src_setReg v (by decide) rfl)
    exact ⟨_, hexec, State.raise_disabled (State.icuRuns_of_active hactive) hoff⟩
  case refine_2 =>
    obtain ⟨h, hexec⟩ := exec_icuSrcWrite hserve hres hdest
    have hroute (lo width : Nat) (hfit : lo + width ≤ 30) (hmask : ∀ i < 30, lo ≤ i → i < lo + width → Nat.testBit 0xB7FF i = true) :
        (s.srcWritten k.toNat w).fld ⟨ICU_SRC k.toNat, lo, width⟩ = bitsOf w.toNat lo width :=
      s.fld_srcWritten k.toNat w rfl hfit fun i hlo hhi => hmask i (Nat.lt_of_lt_of_le hhi hfit) hlo hhi
    refine ⟨_, hexec, hroute 12 2 (by decide) (by decide), ?_, hroute 8 3 (by decide) (by decide), hroute 0 8 (by decide) (by decide)⟩
    exact (congrArg (· != 0) (hroute 15 1 (by decide) (by decide))).trans (bitsOf_one_ne_zero w 15)
  case refine_3 =>
    exact exec_icuPop_alone hserve hhead hstuck
  case refine_4 =>
    refine ⟨s.openGroup g, ?_, rfl, rfl⟩
    rw [exec_holdoffExpiry hheld hdue, hnone]
    rfl
  case refine_5 =>
    have hsome' : ((s.groupWaits g).filter s.eligible).isEmpty = false := by rwa [List.isEmpty_eq_false_iff]
    have hexec := exec_holdoffExpiry hheld hdue
    rw [hsome', if_neg Bool.false_ne_true, if_neg hhold] at hexec
    exact ⟨_, hexec, lookupD_putPair_self _ _ _ _⟩
  case refine_6 =>
    obtain ⟨t, hexec, hfld, hheld⟩ := exec_icuHoldWrite hserve hg hres hnone
    exact ⟨t, hexec, hfld, fun h0 => by rw [hheld, if_pos h0], fun h0 => by rw [hheld, if_neg h0]⟩
  case refine_7 =>
    refine ⟨({ s with icu := { s.icu with gapEnd := none } } : State).driveInt, ?_, State.driveInt_free hlow rfl⟩
    change Host.Outcome.next (if reached s.icu.gapEnd s.clk.core then _ else s) = _
    rw [if_pos hgap]
  case refine_8 =>
    obtain ⟨v, h, hexec⟩ := exec_standbyRequest hserve
    rw [if_pos hallowed] at hexec
    exact ⟨_, hexec, rfl, rfl, State.reg_setReg_self (s.setReg GLB_PWR_CTRL v) ICU_LATCH 0⟩
  case refine_9 =>
    obtain ⟨v, h, hexec⟩ := exec_standbyRequest hserve
    rw [hallowed, if_neg Bool.false_ne_true] at hexec
    refine ⟨_, hexec, ((State.flagRaise_raised GLB_STAT_PWR_REF_EV 1 _).parts .icu).1, ?_⟩
    exact State.flag_flagRaise_self _ GLB_STAT_PWR_REF_EV 1 rfl (by decide) (by decide) (by decide) (by decide)
  case refine_10 =>
    exact ⟨_, exec_standbyEnter harmed hidle hjnl, rfl, rfl, State.flag_setFld_zero _ STM_STAT_PLL_LOCKED (by decide), rfl⟩
  case refine_11 =>
    refine ⟨_, exec_wakeLatchEdge hpower harmed hlatch hclear hattempt, ?_, rfl, rfl, rfl⟩
    exact (congrArg (fun r => bitsOf r.toNat k 1) (State.reg_setReg_self s ICU_LATCH (s.reg ICU_LATCH ||| maskAt k 1))).trans
      (bitsOf_or_maskAt _ (by have := State.lt_of_latchArmed hlatch; omega))
  case refine_12 =>
    have hruns : s.icuRuns = true := by simp_all [State.edgesSampled]
    refine ⟨(s.cancelStandby n).raise (800 + n), ?_, State.cancelStandby_raise hruns hen⟩
    change Host.Outcome.next (if s.edgesSampled && decide (n < 8) && selects (s.irqEdgeOf n) rising then _ else s) = _
    rw [hsampled, decide_eq_true hn, hsel]
    rfl
  case refine_13 =>
    have hruns : s.icuRuns = true := by simp_all [State.edgesSampled]
    refine ⟨s.raise (816 + n), ?_, (State.raise_disabled hruns hen).1⟩
    change Host.Outcome.next (if s.edgesSampled && decide (n < 16) && s.gpioFunc n == 4 && selects _ rising then _ else s) = _
    rw [hsampled, decide_eq_true hn, hfunc, hsel]
    rfl
  case refine_14 =>
    refine ⟨(s.cancelStandby 8).raise 808, ?_, State.cancelStandby_raise (State.icuRuns_of_active hactive) hen⟩
    change Host.Outcome.next (if s.active then _ else s) = _
    rw [if_pos hactive]
end

section
namespace Sys2Proof.Machine

/-! ### What a ring's reports leave (R403, R407) -/

theorem Within.reg {R : List Nat} {P : List Part} {s t : State} (h : Within R P s t) {a : Nat} (hloud : loud a = false)
    (hnamed : named R a = false) : t.reg a = s.reg a := h.1 a hloud List.not_mem_nil hnamed

theorem Within.fld {R : List Nat} {P : List Part} {s t : State} (h : Within R P s t) {f : Fld} (hloud : loud f.reg = false)
    (hnamed : named R f.reg = false) : t.fld f = s.fld f := by rw [State.fld, h.reg hloud hnamed, State.fld]

theorem Within.flag {R : List Nat} {P : List Part} {s t : State} (h : Within R P s t) {f : Fld} (hloud : loud f.reg = false)
    (hnamed : named R f.reg = false) : t.flag f = s.flag f := by rw [State.flag, h.fld hloud hnamed, State.flag]

theorem State.flag_setFlag_self (s : State) {f : Fld} (b : Bool) (hw : f.width = 1) (hlo : f.lo < 32) : (s.setFlag f b).flag f = b := by
  cases b
  · exact s.flag_setFld_zero f (by omega)
  · exact s.flag_setFld_one f hw hlo

/-- Where a register is the same, so are its fields. -/
theorem State.fld_of_reg {s t : State} {f : Fld} {a : Nat} (h : t.reg a = s.reg a) (hf : f.reg = a) : t.fld f = s.fld f := by
  rw [State.fld, State.fld, hf, h]

theorem State.flag_of_reg {s t : State} {f : Fld} {a : Nat} (h : t.reg a = s.reg a) (hf : f.reg = a) : t.flag f = s.flag f := by
  rw [State.flag, State.fld_of_reg h hf, State.flag]

theorem openFld_reg (trunk : Bool) : (openFld trunk).reg = LNK_STAT := by cases trunk <;> rfl

/-- A ring's bit stands above the ports' and RING_EV. -/
theorem openFld_place (trunk : Bool) : 26 ≤ (openFld trunk).lo ∧ (openFld trunk).lo < 28 ∧ (openFld trunk).width = 1 := by
  cases trunk <;> decide

theorem State.showParent_lnkStat (s : State) : s.showParent.reg LNK_STAT = s.reg LNK_STAT :=
  s.showParent_within.reg (by decide) (by decide)

theorem State.showRing_within (trunk opened : Bool) (s : State) : Within [LNK_STAT, LNK_SYNC] [] s (s.showRing trunk opened) := by
  have hparent {u : State} (hu : Within [LNK_STAT, LNK_SYNC] [] s u) : Within [LNK_STAT, LNK_SYNC] [] s u.showParent :=
    hu.trans (u.showParent_within.weaken (by decide) (List.Subset.refl _))
  exact .ite (hparent (.refl s)) (.raise (hparent (.setFld (by decide) (.setFlag (by cases trunk <;> decide) (.refl s)))))

/-- LNK_STAT as a ring is shown: as it was, or with its bit and RING_EV. -/
theorem State.showRing_lnkStat (trunk opened : Bool) (s : State) : (s.showRing trunk opened).reg LNK_STAT =
    if s.flag (openFld trunk) = opened then s.reg LNK_STAT
    else ((s.setFlag (openFld trunk) opened).setFld LNK_STAT_RING_EV 1).reg LNK_STAT := by
  unfold State.showRing
  split
  · exact s.showParent_lnkStat
  · exact ((State.raise_within _ _).reg (by decide) (by decide)).trans (State.showParent_lnkStat _)

theorem State.showRing_open (trunk opened : Bool) (s : State) : (s.showRing trunk opened).flag (openFld trunk) = opened := by
  obtain ⟨hlo, hhi, hw⟩ := openFld_place trunk
  have hreg := s.showRing_lnkStat trunk opened
  split at hreg
  · next hsame => rw [State.flag_of_reg hreg (openFld_reg trunk), hsame]
  · have hev := (s.setFlag (openFld trunk) opened).fld_setFld_beside LNK_STAT_RING_EV (openFld trunk) 1 (openFld_reg trunk)
      (.inr (Nat.le_trans (by decide) hlo)) (by omega)
    rw [State.flag_of_reg hreg (openFld_reg trunk), State.flag, hev]
    exact s.flag_setFlag_self opened hw (by omega)

/-- The ports' bits stand. -/
theorem State.showRing_low (trunk opened : Bool) (s : State) {f : Fld} (hf : f.reg = LNK_STAT) (hfit : f.lo + f.width ≤ 8) :
    (s.showRing trunk opened).fld f = s.fld f := by
  obtain ⟨hlo, -, -⟩ := openFld_place trunk
  have hreg := s.showRing_lnkStat trunk opened
  split at hreg
  · exact State.fld_of_reg hreg hf
  · rw [State.fld_of_reg hreg hf,
      State.fld_setFld_beside _ LNK_STAT_RING_EV f 1 hf (.inl (Nat.le_trans hfit (by decide))) (by omega)]
    exact s.fld_setFld_beside (openFld trunk) f _ (hf.trans (openFld_reg trunk).symm) (.inl (by omega)) (by omega)

theorem State.reg_setRing (trunk : Bool) (r : Ring) (s : State) (a : Nat) : (s.setRing trunk r).reg a = s.reg a := by cases trunk <;> rfl

/-- A declared ring is shown. -/
theorem State.declareRing_lnkStat (trunk opened : Bool) (s : State) :
    (s.declareRing trunk opened).reg LNK_STAT = (s.showRing trunk opened).reg LNK_STAT := by
  unfold State.declareRing
  split
  · next hsame => rw [State.showRing, if_pos hsame]
  · refine ((State.sheet_within _ _ _).reg (by decide) (by decide)).trans ?_
    refine ((State.send_raised _ _ _ _ _ (.refl _)).reg _ (by decide) (by decide) (by decide)).trans ?_
    rw [State.reg_setRing]

theorem State.declareRing_open (trunk opened : Bool) (s : State) : (s.declareRing trunk opened).flag (openFld trunk) = opened :=
  (State.flag_of_reg (s.declareRing_lnkStat trunk opened) (openFld_reg trunk)).trans (s.showRing_open trunk opened)

theorem State.declareRing_low (trunk opened : Bool) (s : State) {f : Fld} (hf : f.reg = LNK_STAT) (hfit : f.lo + f.width ≤ 8) :
    (s.declareRing trunk opened).fld f = s.fld f :=
  (State.fld_of_reg (s.declareRing_lnkStat trunk opened) hf).trans (s.showRing_low trunk opened hf hfit)

/-- What leaves the link as a part leaves the rings. -/
theorem State.ring_of_same {s t : State} (h : Part.lnk.same s t) (trunk : Bool) : t.ring trunk = s.ring trunk := by
  have hlnk : t.lnk = { s.lnk with out := t.lnk.out, events := t.lnk.events, fwd := t.lnk.fwd } := h
  rw [State.ring, hlnk]
  rfl

theorem State.ring_setRing (trunk : Bool) (r : Ring) (s : State) : (s.setRing trunk r).ring trunk = r := by cases trunk <;> rfl

/-- A declaration leaves the check in progress. -/
theorem State.declareRing_sentAt (trunk opened : Bool) (s : State) : ((s.declareRing trunk opened).ring trunk).sentAt = (s.ring trunk).sentAt := by
  unfold State.declareRing
  split
  · rw [State.ring_of_same (s.showParent_within.2 .lnk List.not_mem_nil)]
  · rw [State.ring_of_same ((State.sheet_within _ _ _).2 .lnk List.not_mem_nil), State.sendRing,
      State.ring_of_same ((State.send_raised _ _ _ _ _ (.refl _)).parts .lnk), State.ring_setRing]

theorem State.portLost_open (p : Nat) (s : State) : (s.portLost p).flag (openFld (decide (2 ≤ p))) = true := by
  unfold State.portLost
  dsimp only
  split
  · exact State.declareRing_open _ _ _
  · exact State.showRing_open _ _ _

theorem State.portLost_low (p : Nat) (s : State) {f : Fld} (hf : f.reg = LNK_STAT) (hfit : f.lo + f.width ≤ 8) :
    (s.portLost p).fld f = s.fld f := by
  have hsend {r : Ring} : ((s.sendRing (decide (2 ≤ p)) true).setRing (decide (2 ≤ p)) r).fld f = s.fld f := by
    refine State.fld_of_reg ?_ hf
    rw [State.reg_setRing]
    exact (State.send_raised _ _ _ _ s (.refl s)).reg _ (by decide) (by decide) (by decide)
  unfold State.portLost
  dsimp only
  split
  · exact (State.declareRing_low _ _ _ hf hfit).trans hsend
  · exact (State.showRing_low _ _ _ hf hfit).trans hsend

/-! ### Ports up and down (R403) -/

theorem bitsOf_low (n : Nat) {p : Nat} (hp : p < 4) : bitsOf (bitsOf n 0 4) p 1 = bitsOf n p 1 := by
  simp only [bitsOf, Nat.shiftRight_eq_div_pow]
  interval_cases p <;> omega

/-- A port is up by its own bit. -/
theorem State.portUp_eq (s : State) {p : Nat} (hp : p < 4) : s.portUp p = (s.portOn p && s.fld ⟨LNK_STAT, p, 1⟩ == 1) := by
  unfold State.portUp
  rw [← show bitsOf (s.fld LNK_STAT_UP) p 1 = s.fld ⟨LNK_STAT, p, 1⟩ from bitsOf_low _ hp]

theorem State.portUp_of_reg {s t : State} (h : t.reg LNK_STAT = s.reg LNK_STAT) (p : Nat) : t.portUp p = s.portUp p := by
  simp only [State.portUp, State.portOn, State.fld_of_reg (f := LNK_STAT_EN) h rfl, State.fld_of_reg (f := LNK_STAT_UP) h rfl]

/-- The ports' enables stand beside the bit set. -/
theorem State.portUp_setPort (s : State) {p v : Nat} (hp : p < 4) (hv : v < 2) :
    (s.setFld ⟨LNK_STAT, p, 1⟩ v).portUp p = (s.portOn p && v == 1) := by
  have hen := s.fld_setFld_beside ⟨LNK_STAT, p, 1⟩ LNK_STAT_EN v rfl (.inr (show p + 1 ≤ 4 by omega)) (by decide)
  rw [State.portUp_eq _ hp, State.portOn, hen, s.fld_setFld_self ⟨LNK_STAT, p, 1⟩ v (show p + 1 ≤ 32 by omega)]
  rw [Nat.mod_eq_of_lt (show v < 2 ^ 1 from hv)]
  rfl

theorem exec_portUp_up {s : State} {port : BitVec 2} (hrun : s.portsRun = true) (hon : s.portOn port.toNat = true)
    (hdown : s.portUp port.toNat = false) : ∃ t, exec (.portUp port) s = .next t ∧ t.portUp port.toNat = true := by
  refine ⟨(((s.setFld ⟨LNK_STAT, port.toNat, 1⟩ 1).showParent.raise 672).forwardStuck), ?_, ?_⟩
  · change Host.Outcome.next (if s.portsRun && s.portOn port.toNat && !s.portUp port.toNat then _ else s) = _
    rw [hrun, hon, hdown]
    rfl
  · have hreg : ((((s.setFld ⟨LNK_STAT, port.toNat, 1⟩ 1).showParent.raise 672).forwardStuck)).reg LNK_STAT =
        (s.setFld ⟨LNK_STAT, port.toNat, 1⟩ 1).reg LNK_STAT :=
      ((LinkFrame.forwardStuck (R := []) (P := []) (L := []) (.refl _)).1.reg (by decide) (by decide)).trans
        (((State.raise_within _ _).reg (by decide) (by decide)).trans (State.showParent_lnkStat _))
    rw [State.portUp_of_reg hreg, s.portUp_setPort port.isLt (by decide), hon]
    rfl

theorem exec_portDown_down {s : State} {port : BitVec 2} (hactive : s.active = true) (hup : s.portUp port.toNat = true) :
    ∃ t, exec (.portDown port) s = .next t ∧ t.portUp port.toNat = false ∧ t.flag (openFld (decide (2 ≤ port.toNat))) = true := by
  have hloader : s.loaderMode = false := by
    have hpower : s.boot.power = .active := by simpa [State.active] using hactive
    rw [State.loaderMode, hpower]
    rfl
  refine ⟨((((s.setFld ⟨LNK_STAT, port.toNat, 1⟩ 0).raise 672).sheet 0x0B01 (leBytes 1 port.toNat)).loseSignal port.toNat).portLost port.toNat,
    ?_, ?_, State.portLost_open _ _⟩
  · change Host.Outcome.next (if (s.active || s.loaderMode) && s.portUp port.toNat then (if s.loaderMode then _ else _) else _) = _
    rw [hactive, hup, hloader]
    rfl
  · have hreg : ((((s.setFld ⟨LNK_STAT, port.toNat, 1⟩ 0).raise 672).sheet 0x0B01 (leBytes 1 port.toNat)).loseSignal port.toNat).reg LNK_STAT =
        (s.setFld ⟨LNK_STAT, port.toNat, 1⟩ 0).reg LNK_STAT :=
      ((State.loseSignal_within _ _).reg (by decide) (by decide)).trans
        (((State.sheet_within _ _ _).reg (by decide) (by decide)).trans ((State.raise_within _ _).reg (by decide) (by decide)))
    rw [State.portUp, State.portOn, State.portLost_low _ _ rfl (by decide), State.portLost_low _ _ rfl (by decide), ← State.portOn, ← State.portUp,
      State.portUp_of_reg hreg, s.portUp_setPort port.isLt (by decide)]
    exact Bool.and_false _

/-! ### Checks of a ring (R405, R407) -/

/-- A frame put on a port is all that changes. -/
theorem State.put_eq (s : State) (port type dest src hops tag : Nat) (both : Bool) (payload : List Byte) : ∃ out,
    s.put port type dest src hops tag both payload = { s with lnk := { s.lnk with out := out } } := by
  unfold State.put
  split
  · exact ⟨_, rfl⟩
  · exact ⟨s.lnk.out, rfl⟩

/-- The frame that `put` sends on a port that carries it. -/
theorem State.put_up {s : State} {port hops : Nat} (hup : s.portUp port = true) (hclk : s.clk.onRc = false) (hhops : hops ≤ 63)
    (type dest src tag : Nat) (both : Bool) (payload : List Byte) : s.put port type dest src hops tag both payload =
      { s with lnk := { s.lnk with out := s.lnk.out ++ [⟨port, type, (1 - port % 2) + 2 * (port / 2) + (if both then 4 else 0), dest, src, hops,
        tag, payload⟩] } } := by
  rw [State.put, hup, hclk, decide_eq_true hhops]
  rfl

theorem exec_ringCheckSend_due {s : State} {trunk : Bool} (hsup : s.supervises trunk = true) (hdue : (s.ring trunk).nextAt ≤ s.clk.core) :
    ∃ t, exec (.ringCheckSend trunk) s = .next t ∧ (t.ring trunk).nextAt = s.clk.core + 240000 ∧ (t.ring trunk).sentAt = some s.clk.core ∧
      t.regs = s.regs := by
  have hexec : exec (.ringCheckSend trunk) s = .next ((s.setRing trunk { s.ring trunk with
      nextAt := s.clk.core + 1000 * coreUs, sentAt := some s.clk.core }).emit (if trunk then 3 else 1) 0x06 0x1000
        ((s.setRing trunk { s.ring trunk with nextAt := s.clk.core + 1000 * coreUs, sentAt := some s.clk.core }).eventNo 0x06) false
        (leBytes 8 s.serial.toNat)) := by
    change Host.Outcome.next (if s.supervises trunk && decide ((s.ring trunk).nextAt ≤ s.clk.core) then _ else s) = _
    rw [hsup, decide_eq_true hdue]
    rfl
  refine ⟨_, hexec, ?_⟩
  generalize (s.setRing trunk { s.ring trunk with nextAt := s.clk.core + 1000 * coreUs, sentAt := some s.clk.core }).eventNo 0x06 = tag
  rw [State.emit]
  obtain ⟨out, hput⟩ := State.put_eq (s.setRing trunk { s.ring trunk with nextAt := s.clk.core + 1000 * coreUs, sentAt := some s.clk.core })
    (if trunk then 3 else 1) 0x06 0x1000 _ 0 tag false (leBytes 8 s.serial.toNat)
  rw [hput]
  cases trunk
  · exact ⟨rfl, rfl, rfl⟩
  · exact ⟨rfl, rfl, rfl⟩

theorem exec_ringCheck_foreign {s : State} {port : FrameHead} {serial : BitVec 64} (hactive : s.active = true)
    (hon : s.portOn port.port.toNat = true) (hserial : serial ≠ s.serial) : exec (.ringCheck port serial) s = .next
      (s.put (if port.port.toNat % 2 = 0 then port.port.toNat + 1 else port.port.toNat - 1) 0x06 0x1000 port.address.toNat (port.hops.toNat + 1)
        port.tag.toNat false (leBytes 8 serial.toNat)) := by
  change Host.Outcome.next (if !s.active || !s.portOn port.port.toNat then s else if serial ≠ s.serial then _ else _) = _
  rw [hactive, hon, if_neg (by decide), if_pos hserial]

theorem exec_ringCheck_third {s : State} {port : FrameHead} {serial : BitVec 64} {a : Nat} (hactive : s.active = true)
    (hon : s.portOn port.port.toNat = true) (hserial : serial = s.serial) (hsup : s.supervises (decide (2 ≤ port.port.toNat)) = true)
    (hsent : (s.ring (decide (2 ≤ port.port.toNat))).sentAt = some a) (hin : s.clk.core ≤ a + 24000)
    (hreturned : 2 ≤ (s.ring (decide (2 ≤ port.port.toNat))).returned) : ∃ t, exec (.ringCheck port serial) s = .next t ∧
      t.flag (openFld (decide (2 ≤ port.port.toNat))) = false ∧ (t.ring (decide (2 ≤ port.port.toNat))).sentAt = none := by
  subst hserial
  generalize htrunk : decide (2 ≤ port.port.toNat) = trunk at hsup hsent hreturned
  refine ⟨(s.setRing trunk { s.ring trunk with sentAt := none, missed := 0, returned := (s.ring trunk).returned + 1 }).declareRing trunk false,
    ?_, State.declareRing_open _ _ _, ?_⟩
  · change Host.Outcome.next (if !s.active || !s.portOn port.port.toNat then s else if s.serial ≠ s.serial then _
      else if s.supervises (decide (2 ≤ port.port.toNat)) then
        match (s.ring (decide (2 ≤ port.port.toNat))).sentAt with
        | some a => if s.clk.core ≤ a + 100 * coreUs then _ else s
        | none => s
      else s) = _
    rw [htrunk, hactive, hon, if_neg (by decide), if_neg (not_not_intro rfl), if_pos hsup, hsent]
    change Host.Outcome.next (if s.clk.core ≤ a + 100 * coreUs then (if 3 ≤ (s.ring trunk).returned + 1 then _ else _) else s) = _
    rw [if_pos (show s.clk.core ≤ a + 100 * coreUs from hin), if_pos (by omega)]
  · rw [State.declareRing_sentAt, State.ring_setRing]

end Sys2Proof.Machine
end

section
namespace Sys2Proof.Machine

/-! ### Rings that open (R407, R408) -/

theorem exec_ringCheckTimeout_due {s : State} {trunk : Bool} {a : Nat} (hsup : s.supervises trunk = true)
    (hsent : (s.ring trunk).sentAt = some a) (hdue : a + 24000 ≤ s.clk.core) : ∃ t, exec (.ringCheckTimeout trunk) s = .next t ∧
      (t.ring trunk).sentAt = none ∧ (1 ≤ (s.ring trunk).missed → t.flag (openFld trunk) = true) := by
  have hreached : reached ((s.ring trunk).sentAt.map (· + 100 * coreUs)) s.clk.core = true := by
    rw [hsent]
    exact decide_eq_true hdue
  have hexec : exec (.ringCheckTimeout trunk) s = .next (
      let t := s.setRing trunk { s.ring trunk with sentAt := none, missed := (s.ring trunk).missed + 1, returned := 0 }
      if 2 ≤ (s.ring trunk).missed + 1 && !s.flag (openFld trunk) then
        let q := t.takeFree 6
        (q.2.setRing trunk { q.2.ring trunk with sideB := q.1 }).declareRing trunk true
      else t) := by
    change Host.Outcome.next (if s.supervises trunk && reached ((s.ring trunk).sentAt.map (· + 100 * coreUs)) s.clk.core then _ else s) = _
    rw [hsup, hreached]
    rfl
  refine ⟨_, hexec, ?_⟩
  extract_lets r t q
  have ht : (t.ring trunk).sentAt = none := by rw [State.ring_setRing]
  split
  · refine ⟨?_, fun _ => State.declareRing_open _ _ _⟩
    rw [State.declareRing_sentAt, State.ring_setRing]
    exact (congrArg Ring.sentAt (State.ring_of_same rfl trunk)).trans ht
  · next hkept =>
    refine ⟨ht, fun hmissed => ?_⟩
    rw [State.flag_of_reg (s.reg_setRing trunk _ LNK_STAT) (openFld_reg trunk)]
    simpa [show 2 ≤ (s.ring trunk).missed + 1 by omega] using hkept

/-! ### Frames that go on (R405, R409) -/

/-- Frames sent, and the numbers of their events, are all that changes. -/
def SentOnly (s t : State) : Prop := ∃ out events, t = { s with lnk := { s.lnk with out := out, events := events } }

theorem SentOnly.refl (s : State) : SentOnly s s := ⟨s.lnk.out, s.lnk.events, rfl⟩

theorem SentOnly.trans {s t u : State} (h : SentOnly s t) (k : SentOnly t u) : SentOnly s u := by
  obtain ⟨out, events, rfl⟩ := h
  obtain ⟨out', events', rfl⟩ := k
  exact ⟨out', events', rfl⟩

theorem SentOnly.reg {s t : State} (h : SentOnly s t) (a : Nat) : t.reg a = s.reg a := by
  obtain ⟨out, events, rfl⟩ := h
  rfl

theorem State.put_sentOnly (s : State) (port type dest src hops tag : Nat) (both : Bool) (payload : List Byte) :
    SentOnly s (s.put port type dest src hops tag both payload) := by
  obtain ⟨out, hput⟩ := s.put_eq port type dest src hops tag both payload
  exact ⟨out, s.lnk.events, hput⟩

theorem State.send_sentOnly (type mode : Nat) (both : Bool) (payload : List Byte) (s : State) : SentOnly s (s.send type mode both payload) := by
  have cast (ring ev : Nat) (u : State) (hu : SentOnly s u) : SentOnly s (forEach (u.castPorts ring both)
      (fun p w => w.emit p type (mode * 4096) ev both payload) u) :=
    forEach_induction (fun _ _ w hw => hw.trans (w.put_sentOnly ..)) hu
  have hev : SentOnly s { s with lnk := { s.lnk with events := putPair s.lnk.events type ((s.eventNo type + 1) % 256) } } := ⟨_, _, rfl⟩
  unfold State.send
  dsimp only
  split
  · exact cast 0 _ _ hev
  · split
    · exact cast 1 _ _ (cast 0 _ _ hev)
    · exact cast 0 _ _ hev
  · exact cast 1 _ _ hev
  · split
    · exact .refl s
    · exact hev.trans (State.put_sentOnly ..)
  · split
    · exact .refl s
    · exact hev.trans (State.put_sentOnly ..)
  · exact .refl s

theorem State.relay_sentOnly (f : FrameHead) (type src : Nat) (both : Bool) (payload : List Byte) (s : State) :
    SentOnly s (s.relay f type src both payload) := by
  have hput (u : State) (port dest hops tag : Nat) : SentOnly u (u.put port type dest src hops tag both payload) := u.put_sentOnly ..
  have hforward : SentOnly s (s.forward f type src both payload) := by
    unfold State.forward
    split
    · exact hput ..
    · exact .refl s
  unfold State.relay
  dsimp only
  split
  · exact forEach_induction (fun _ _ u hu => hu.trans (hput u ..)) hforward
  · exact hforward

theorem State.passOn_sentOnly (f : FrameHead) (type src : Nat) (both : Bool) (payload : List Byte) (s : State) :
    SentOnly s (s.passOn f type src both payload) := by
  unfold State.passOn
  split
  · exact s.relay_sentOnly ..
  · exact .refl s

/-- A ring's report that another device sends to a member. -/
theorem exec_ringState_member {s : State} {opened : Bool} {source : RingReporter} {event : Byte} (hlinked : s.linked = true)
    (hhead : s.isHead = false) (hon : s.portOn source.port.toNat = true) (haddressed : source.unaddressed = false)
    (hother : source.address.toNat ≠ s.fld LNK_ADDR_ADDR) (hfirst : (s.firstCopy 0x07 source.address.toNat event.toNat).1 = true) :
    ∃ u, SentOnly (s.firstCopy 0x07 source.address.toNat event.toNat).2 u ∧ exec (.ringState false opened source event) s = .next (
      (if opened then (u.takeFree 6).2.setRing false (((u.takeFree 6).2.ring false).openedAt (s.flag (openFld false)) (s.ringPlace false)
        (source.address.toNat % 64) (source.port.toNat % 2 == 0) (u.takeFree 6).1) else u).showRing false opened) := by
  obtain ⟨hactive, hunaddr⟩ : s.active = true ∧ s.unaddressed = false := by simpa [State.linked] using hlinked
  let head : FrameHead := ⟨source.port, 2, source.address, event, source.hops⟩
  refine ⟨(s.firstCopy 0x07 source.address.toNat event.toNat).2.relay head 0x07 source.address.toNat true
    (leBytes 1 (bit opened) ++ leBytes 3 0), State.relay_sentOnly .., ?_⟩
  have hreturn : s.ownReturn head = false := by
    rw [State.ownReturn, hunaddr, hhead]
    simpa using hother
  have hsup : s.supervises false = false := by
    rw [State.supervises, hhead]
    exact Bool.and_false _
  change execRingState false opened source event s = _
  unfold execRingState
  rw [haddressed]
  dsimp only
  rw [hactive, hon]
  simp only [Bool.false_eq_true, if_false]
  rw [show s.ownReturn ⟨source.port, 2, source.address, event, source.hops⟩ = false from hreturn, hfirst, hunaddr, hsup]
  rfl

/-- What a member then knows of the break. -/
theorem exec_ringState_break {s : State} {opened : Bool} {source : RingReporter} {event : Byte} (hlinked : s.linked = true)
    (hhead : s.isHead = false) (hon : s.portOn source.port.toNat = true) (haddressed : source.unaddressed = false)
    (hother : source.address.toNat ≠ s.fld LNK_ADDR_ADDR) (hfirst : (s.firstCopy 0x07 source.address.toNat event.toNat).1 = true) :
    ∃ t, ∃ f, exec (.ringState false opened source event) s = .next t ∧ t.flag LNK_STAT_STR_OPEN = opened ∧ t.lnk.string =
      if opened then s.lnk.string.openedAt (s.flag (openFld false)) (s.ringPlace false) (source.address.toNat % 64) (source.port.toNat % 2 == 0) f
      else s.lnk.string := by
  obtain ⟨u, ⟨out, events, hu⟩, hexec⟩ := exec_ringState_member (opened := opened) hlinked hhead hon haddressed hother hfirst
  have hstring : u.lnk.string = s.lnk.string := by
    rw [hu]
    rfl
  refine ⟨_, (u.takeFree 6).1, hexec, State.showRing_open false opened _, ?_⟩
  refine (State.ring_of_same ((State.showRing_within false opened _).2 .lnk List.not_mem_nil) false).trans ?_
  rw [← hstring]
  cases opened
  · rfl
  · rfl

/-! ### Doorbells and forwarded interrupts (R422, R423) -/

theorem exec_doorbell_disabled {s : State} {source : Framed (BitVec 16)} (htakes : s.takesIn source.head = true) (haddr : s.unaddressed = false)
    (hlo : 832 ≤ source.body.toNat) (hhi : source.body.toNat ≤ 1023) (hen : s.flag (ICU_SRC_EN source.body.toNat) = false) :
    ∃ t, exec (.doorbell source) s = .next t ∧ t.flag (ICU_SRC_PEND source.body.toNat) = true ∧ t.icu.queue = s.icu.queue := by
  obtain ⟨out, events, hpass⟩ := s.passOn_sentOnly source.head 0x70 source.head.address.toNat false (leBytes 2 source.body.toNat ++ leBytes 2 0)
  have hactive : s.active = true := by
    simp only [State.takesIn, Bool.and_eq_true] at htakes
    exact htakes.1.1
  have hexec : exec (.doorbell source) s = .next (State.raise source.body.toNat { s with lnk := { s.lnk with out := out, events := events } }) := by
    rw [← hpass]
    change Host.Outcome.next (if s.takesIn source.head && !s.unaddressed then (if 832 ≤ source.body.toNat ∧ source.body.toNat ≤ 1023 then _ else _)
      else _) = _
    rw [htakes, haddr]
    exact congrArg Host.Outcome.next (if_pos (⟨hlo, hhi⟩ : 832 ≤ source.body.toNat ∧ source.body.toNat ≤ 1023))
  exact ⟨_, hexec, State.raise_disabled (s := { s with lnk := { s.lnk with out := out, events := events } }) (State.icuRuns_of_active hactive) hen⟩

theorem exec_irqFwd_room {s : State} {address : BitVec 12} {source : BitVec 10} {stamp : Time} (hlinked : s.linked = true)
    (hhead : s.isHead = true) (hroom : s.lnk.fwd.length < 64) (hen : s.flag (ICU_SRC_EN 683) = false) : ∃ t,
    exec (.irqFwd address source stamp) s = .next t ∧ t.lnk.fwd = s.lnk.fwd ++ [(address.toNat, source.toNat, stamp)] ∧
      t.flag (ICU_SRC_PEND 683) = true := by
  obtain ⟨hactive, -⟩ : s.active = true ∧ s.unaddressed = false := by simpa [State.linked] using hlinked
  let u : State := { s with lnk := { s.lnk with fwd := s.lnk.fwd ++ [(address.toNat, source.toNat, stamp)] } }
  have hpush : s.fwdPush address.toNat source.toNat stamp = (u, some 683) := if_pos hroom
  have hexec : exec (.irqFwd address source stamp) s = .next (u.raise 683) := by
    change execIrqFwd address source stamp s = _
    unfold execIrqFwd
    rw [hlinked, hhead, hpush]
    rfl
  have hruns : u.icuRuns = true := State.icuRuns_of_active hactive
  exact ⟨_, hexec, congrArg Lnk.fwd (State.raise_disabled_lnk hruns hen), (State.raise_disabled hruns hen).1⟩

theorem exec_lnkCtrl {s : State} {p : Path} {w : Word} (hserve : s.serves p = true) (hstart : w.getLsbD 0 = false)
    (hres : reservedBit (fieldsOf LNK_CTRL) w = none) : ∃ (v : Word) (h : Hst), s.writeRow p (adr LNK_CTRL) w Side.untold =
      { onlyIf (w.getLsbD 1) State.lnkCntClr (onlyIf (w.getLsbD 2) State.lnkFwdPop (s.setReg LNK_CTRL v)) with hst := h } := by
  obtain ⟨hactive, hans⟩ : s.active = true ∧ s.answers p = true := by simpa [State.serves] using hserve
  refine State.writeRow_acts hans (State.early_of_active hactive p _) (by decide) (by decide) (by decide) (by decide) hres ?_ fun v => ?_
  · change when (w.getLsbD 0 && _) 0 = none
    rw [hstart]
    rfl
  · change onlyIf (w.getLsbD 0) State.startEnum _ = _
    rw [hstart]
    rfl

/-! ### Counted errors (R405, R425) -/

theorem State.fld_bump_self (s : State) {f : Fld} (hfit : f.lo + f.width ≤ 32) (hroom : s.fld f + 1 < 2 ^ f.width) :
    (s.bump f).fld f = s.fld f + 1 := by
  rw [State.bump_eq, if_pos hroom, s.fld_setFld_self f _ hfit, Nat.mod_eq_of_lt hroom]

theorem State.fld_bump_beside (s : State) {f g : Fld} (hreg : g.reg = f.reg) (hapart : g.lo + g.width ≤ f.lo ∨ f.lo + f.width ≤ g.lo)
    (hfit : g.lo + g.width ≤ 32) : (s.bump f).fld g = s.fld g := by
  rw [State.bump_eq]
  split
  · exact s.fld_setFld_beside f g _ hreg hapart hfit
  · rfl

theorem exec_linkFrameError_counts {s : State} {crc : Bool} (hrun : s.portsRun = true)
    (hroom : s.fld (if crc then LNK_ERR_CNT_CRC_CNT else LNK_ERR_CNT_CODE_CNT) + 1 < 65536) : ∃ t, exec (.linkFrameError crc) s = .next t ∧
    t.fld (if crc then LNK_ERR_CNT_CRC_CNT else LNK_ERR_CNT_CODE_CNT) = s.fld (if crc then LNK_ERR_CNT_CRC_CNT else LNK_ERR_CNT_CODE_CNT) + 1 ∧
    t.fld (if crc then LNK_ERR_CNT_CODE_CNT else LNK_ERR_CNT_CRC_CNT) = s.fld (if crc then LNK_ERR_CNT_CODE_CNT else LNK_ERR_CNT_CRC_CNT) ∧
    t.flag LNK_STAT_ERR_EV = true := by
  have hexec : ∃ t, exec (.linkFrameError crc) s = .next t ∧ ∀ a, loud a = false → t.reg a =
      ((s.bump (if crc then LNK_ERR_CNT_CRC_CNT else LNK_ERR_CNT_CODE_CNT)).flagRaise LNK_STAT_ERR_EV 677).reg a := by
    refine ⟨_, rfl, fun a ha => ?_⟩
    rw [if_pos hrun]
    extract_lets t c d quiet
    split
    · rfl
    · exact (State.sheet_within _ _ t).reg ha (by simp [named])
  obtain ⟨t, hexec, hreg⟩ := hexec
  have hcount (f : Fld) (hf : f.reg = LNK_ERR_CNT) : t.fld f = (s.bump (if crc then LNK_ERR_CNT_CRC_CNT else LNK_ERR_CNT_CODE_CNT)).fld f := by
    rw [State.fld_of_reg (hreg LNK_ERR_CNT (by decide)) hf]
    exact State.fld_flagRaise_other _ _ _ _ (by rw [hf]; decide) (by rw [hf]; decide) (by rw [hf]; decide) (by rw [hf]; decide)
  have hcounts : t.fld (if crc then LNK_ERR_CNT_CRC_CNT else LNK_ERR_CNT_CODE_CNT) =
        s.fld (if crc then LNK_ERR_CNT_CRC_CNT else LNK_ERR_CNT_CODE_CNT) + 1 ∧
      t.fld (if crc then LNK_ERR_CNT_CODE_CNT else LNK_ERR_CNT_CRC_CNT) = s.fld (if crc then LNK_ERR_CNT_CODE_CNT else LNK_ERR_CNT_CRC_CNT) := by
    cases crc
    · exact ⟨(hcount LNK_ERR_CNT_CODE_CNT rfl).trans (s.fld_bump_self (by decide) hroom),
        (hcount LNK_ERR_CNT_CRC_CNT rfl).trans (s.fld_bump_beside rfl (by decide) (by decide))⟩
    · exact ⟨(hcount LNK_ERR_CNT_CRC_CNT rfl).trans (s.fld_bump_self (by decide) hroom),
        (hcount LNK_ERR_CNT_CODE_CNT rfl).trans (s.fld_bump_beside rfl (by decide) (by decide))⟩
  refine ⟨t, hexec, hcounts.1, hcounts.2, ?_⟩
  · exact (State.flag_of_reg (hreg LNK_STAT (by decide)) rfl).trans
      (State.flag_flagRaise_self _ LNK_STAT_ERR_EV 677 rfl (by decide) (by decide) (by decide) (by decide))

end Sys2Proof.Machine

open Sys2Proof Sys2Proof.Machine

/-- Settles O45: each command by the lemma of its effect; what is reported besides leaves LNK_STAT and the rings. -/
theorem linkRingCommands : Obligations.LinkRingCommands := by
  intro s
  refine ⟨fun p hrun hon hdown => exec_portUp_up hrun hon hdown, fun p hactive hup => exec_portDown_down hactive hup,
    fun trunk hsup hdue => exec_ringCheckSend_due hsup hdue, fun p serial hactive hon hserial hhops hclk hup => ?_,
    fun p serial a hactive hon hserial hsup hsent hin hret => exec_ringCheck_third hactive hon hserial hsup hsent hin hret,
    fun trunk a hsup hsent hdue => exec_ringCheckTimeout_due hsup hsent hdue,
    fun opened source event hlinked hhead hon haddr hother hfirst => ?_,
    fun source htakes haddr hlo hhi hen => exec_doorbell_disabled htakes haddr hlo hhi hen,
    fun a k stamp hlinked hhead hroom hen => exec_irqFwd_room hlinked hhead hroom hen, fun p hserve => ?_, fun p hserve => ?_,
    fun crc hrun hroom => exec_linkFrameError_counts hrun hroom⟩
  case refine_1 =>
    refine ⟨_, (exec_ringCheck_foreign hactive hon hserial).trans (congrArg Host.Outcome.next (State.put_up hup hclk hhops _ _ _ _ _ _)), ?_, rfl⟩
    exact ⟨_, rfl, rfl, rfl, rfl, rfl, rfl, rfl⟩
  case refine_2 =>
    obtain ⟨t, f, hexec, hflag, hstring⟩ := exec_ringState_break (opened := opened) hlinked hhead hon haddr hother hfirst
    refine ⟨t, hexec, hflag, fun h => ?_, fun h hplace heven => ?_, fun h hplace hodd => ?_⟩
    · rw [hstring, h, if_neg Bool.false_ne_true]
    · rw [hstring, if_pos h, Ring.openedAt, if_pos hplace, heven]
      exact ⟨rfl, rfl⟩
    · rw [hstring, if_pos h, Ring.openedAt, if_pos hplace, hodd]
      exact ⟨rfl, rfl⟩
  case refine_3 =>
    obtain ⟨v, h, hwrite⟩ := exec_lnkCtrl (w := 4) hserve (by decide) (by decide)
    exact ⟨_, congrArg Host.Outcome.next hwrite, rfl⟩
  case refine_4 =>
    obtain ⟨v, h, hwrite⟩ := exec_lnkCtrl (w := 2) hserve (by decide) (by decide)
    refine ⟨_, congrArg Host.Outcome.next hwrite, ?_, ?_⟩
    · exact (State.reg_setReg_other ((s.setReg LNK_CTRL v).setReg LNK_ERR_CNT 0) LNK_DROP_CNT LNK_ERR_CNT 0 (by decide)).trans
        (State.reg_setReg_self (s.setReg LNK_CTRL v) LNK_ERR_CNT 0)
    · exact State.reg_setReg_self ((s.setReg LNK_CTRL v).setReg LNK_ERR_CNT 0) LNK_DROP_CNT 0
end

section
namespace Sys2Proof.Machine

/-! ### Passes of enumeration (R410, R411) -/

theorem SentOnly.lnk {s t : State} (h : SentOnly s t) : t.lnk = { s.lnk with out := t.lnk.out, events := t.lnk.events } := by
  obtain ⟨out, events, rfl⟩ := h
  rfl

/-- A device that may be head claims its string. -/
theorem State.startEnum_claims {s : State} (hhead : s.headOk = true) : s.startEnum.lnk.pass = .claim ∧ s.startEnum.lnk.candidate = true ∧
    s.startEnum.lnk.enumAt = none ∧ s.startEnum.flag LNK_STAT_ENUMERATING = true := by
  unfold State.startEnum
  rw [hhead]
  extract_lets old t kept u
  have hsent : SentOnly (u.setPass .claim) ((u.setPass .claim).sendClaim false) := State.send_sentOnly ..
  rw [if_pos rfl]
  refine ⟨?_, ?_, ?_, ?_⟩
  · rw [hsent.lnk]
    rfl
  · rw [hsent.lnk]
    rfl
  · rw [hsent.lnk]
    rfl
  · exact (State.flag_of_reg (hsent.reg LNK_STAT) rfl).trans (State.flag_setFlag_self _ true rfl (by decide))

/-- The walk of the string begins without reports. -/
theorem State.beginWalk_starts (s : State) : s.beginWalk.lnk.pass = .walkB ∧ s.beginWalk.lnk.reports = [] ∧
    s.beginWalk.flag LNK_STAT_ENUMERATING = true := by
  unfold State.beginWalk
  generalize hring : ({ s with lnk := { s.lnk with reports := [] } } : State).setRing false { s.ring false with sideB := 0, onSideA := false } = u
  have hreports : u.lnk.reports = [] := by
    rw [← hring]
    rfl
  have hsent : SentOnly (u.setPass .walkB) ((u.setPass .walkB).sendWalk 1 0) := State.put_sentOnly ..
  refine ⟨?_, ?_, ?_⟩
  · rw [hsent.lnk]
    rfl
  · rw [hsent.lnk]
    exact hreports
  · exact (State.flag_of_reg (hsent.reg LNK_STAT) rfl).trans (State.flag_setFlag_self _ true rfl (by decide))

theorem exec_helloSend_due {s : State} (hactive : s.active = true) (haddr : s.unaddressed = true)
    (hdue : s.lnk.helloAt + 24000000 ≤ s.clk.core) : ∃ t, exec .helloSend s = .next t ∧ t.lnk.helloAt = s.clk.core ∧ t.regs = s.regs := by
  obtain ⟨out, events, hsent⟩ := State.send_sentOnly 0x01 2 false (leBytes 8 s.serial.toNat ++ leBytes 1 (bit s.headOk) ++
    leBytes 1 (bit s.eligibleKey) ++ leBytes 1 (bit s.trunkUp) ++ leBytes 1 0) { s with lnk := { s.lnk with helloAt := s.clk.core } }
  refine ⟨{ s with lnk := { s.lnk with helloAt := s.clk.core, out := out, events := events } }, ?_, rfl, rfl⟩
  · change Host.Outcome.next (if s.active && s.unaddressed && decide (s.lnk.helloAt + 24000000 ≤ s.clk.core) then _ else s) = _
    rw [hactive, haddr, decide_eq_true hdue]
    exact congrArg Host.Outcome.next hsent

theorem exec_hello_first {s : State} {serial : Framed HelloBody} (hlinked : s.linked = true) (hon : s.portOn serial.head.port.toNat = true)
    (hserial : serial.body.serial ≠ s.serial) (hhead : s.isHead = true) (hcourse : s.fld SEQ_STAT_STR_COURSE = 0) (hnone : s.lnk.enumAt = none) :
    ∃ t, exec (.hello serial) s = .next t ∧ t.lnk.enumAt = some (s.clk.core + 24000000) ∧ t.regs = s.regs := by
  obtain ⟨hactive, -⟩ : s.active = true ∧ s.unaddressed = false := by simpa [State.linked] using hlinked
  obtain ⟨out, events, hrelay⟩ := s.relay_sentOnly serial.head 0x01 0x8000 false (leBytes 8 serial.body.serial.toNat ++
    leBytes 1 (bit serial.body.headOk) ++ leBytes 1 (bit serial.body.eligible) ++ leBytes 1 (bit serial.body.trunkUp) ++ leBytes 1 0)
  refine ⟨{ s with lnk := { s.lnk with enumAt := some (s.clk.core + 24000000), out := out, events := events } }, ?_, rfl, rfl⟩
  change execHello serial s = _
  unfold execHello
  dsimp only
  rw [hrelay, hactive, hon, bne_iff_ne.mpr hserial]
  change Host.Outcome.next (if !(s.linked && s.isHead) then _ else if s.fld SEQ_STAT_STR_COURSE = 0 then (if s.lnk.enumAt.isSome then _ else _)
    else _) = _
  rw [hlinked, hhead, hnone, hcourse]
  rfl

theorem exec_enum_head {s : State} {p : Path} (hserve : s.serves p = true) (hlinked : s.linked = true) (hhead : s.isHead = true)
    (hcourse : s.fld SEQ_STAT_STR_COURSE = 0) : ∃ (v : Word) (h : Hst), exec (.enum p) s = .next { (s.setReg LNK_CTRL v).startEnum with hst := h } := by
  obtain ⟨hactive, hans⟩ : s.active = true ∧ s.answers p = true := by simpa [State.serves] using hserve
  have href : s.refused p LNK_CTRL (word [(24, 0xA1), (0, 1)]) = none := by
    change when (true && (!true || (!(s.linked && s.isHead) || s.fld SEQ_STAT_STR_COURSE != 0))) 0 = none
    rw [hlinked, hhead, hcourse]
    rfl
  obtain ⟨v, h, hwrite⟩ := State.writeRow_acts (f := fun v => (s.setReg LNK_CTRL v).startEnum) hans (State.early_of_active hactive p _)
    (by decide) (by decide) (by decide) (by decide) (by decide) href fun _ => rfl
  exact ⟨v, h, congrArg Host.Outcome.next hwrite⟩

/-- A candidate that hears a claim of higher rank stands back. -/
theorem exec_claim_outranked {s : State} {serial : Framed Claimant} {rank : Byte} (hactive : s.active = true)
    (hon : s.portOn serial.head.port.toNat = true) (hserial : serial.body.serial ≠ s.serial) (hcourse : s.fld SEQ_STAT_STR_COURSE = 0)
    (hpass : s.lnk.pass = .claim) (hcand : s.lnk.candidate = true)
    (hrank : outranks (rank.toNat, serial.body.serial) (s.rank, s.serial) = true) :
    ∃ t, exec (.claim false serial rank) s = .next t ∧ t.lnk.candidate = false ∧ t.lnk.pass = .claim := by
  obtain ⟨out, events, hrelay⟩ := s.relay_sentOnly serial.head 0x02
    (if serial.body.unaddressed then 0x8000 else serial.head.address.toNat) false (leBytes 8 serial.body.serial.toNat ++
    leBytes 1 rank.toNat ++ leBytes 3 0)
  let w : State := { s with lnk := { s.lnk with claimSeen := true, out := out, events := events } }
  let u : State := { w with lnk := { w.lnk with candidate := false } }
  have hstarted : (w.headOk && w.lnk.pass == .none) = false := by
    change (s.headOk && s.lnk.pass == .none) = false
    rw [hpass]
    exact Bool.and_false _
  obtain ⟨hpass', -, hcand', -⟩ := Part.pieces ((State.sheet_within 0x0B12 [] u).2 .lnk List.not_mem_nil) .enumeration
  refine ⟨u.sheet 0x0B12 [], ?_, hcand', hpass'.trans hpass⟩
  · change execClaim false serial rank s = _
    unfold execClaim
    dsimp only
    rw [hrelay, hactive, hon, beq_eq_false_iff_ne.mpr hserial]
    change Host.Outcome.next (if s.linked && s.isHead && s.fld SEQ_STAT_STR_COURSE != 0 then _ else
      let t := if w.headOk && w.lnk.pass == .none then w.startEnum else w
      if t.lnk.pass == .claim && t.lnk.candidate && outranks (rank.toNat, serial.body.serial) (t.rank, t.serial) then
        ({ t with lnk := { t.lnk with candidate := false } } : State).sheet 0x0B12 []
      else t) = _
    rw [hcourse, hstarted, if_neg Bool.false_ne_true, if_neg (by simp)]
    change Host.Outcome.next (if s.lnk.pass == .claim && s.lnk.candidate && outranks (rank.toNat, serial.body.serial) (s.rank, s.serial) then _
      else _) = _
    rw [hpass, hcand, hrank]
    rfl

/-- The winner of the claims walks its string. -/
theorem exec_claimTimeout_walks {s : State} (hactive : s.active = true) (hdue : s.lnk.passAt + 4800000 ≤ s.clk.core)
    (hpass : s.lnk.pass = .claim) (hcand : s.lnk.candidate = true) : exec .claimTimeout s = .next s.beginWalk := by
  change execClaimTimeout s = _
  unfold execClaimTimeout
  rw [hactive, hpass, hcand, decide_eq_true (show s.lnk.passAt + 20000 * coreUs ≤ s.clk.core from hdue)]
  rfl

/-! ### Walks and assignments (R411, R412) -/

theorem State.setRing_rest (trunk : Bool) (r : Ring) (s : State) : (s.setRing trunk r).regs = s.regs ∧ (s.setRing trunk r).clk = s.clk ∧
    (s.setRing trunk r).lnk.out = s.lnk.out ∧ (s.setRing trunk r).lnk.events = s.lnk.events ∧ (s.setRing trunk r).serial = s.serial := by
  cases trunk
  · exact ⟨rfl, rfl, rfl, rfl, rfl⟩
  · exact ⟨rfl, rfl, rfl, rfl, rfl⟩

/-- A device that no pass occupies reports the walk and sends it on. -/
theorem exec_walk_on {s : State} {port : WalkIn} {count : Byte} {side : Bool} (hactive : s.active = true)
    (hon : s.portOn port.port.toNat = true) (hpass : s.lnk.pass = .none) (hside : decide (port.port.toNat % 2 = 1) = side) :
    ∃ t : State, (t.ring (decide (2 ≤ port.port.toNat))).onSideA = side ∧ t.regs = s.regs ∧ t.clk = s.clk ∧ t.lnk.out = s.lnk.out ∧
      t.lnk.events = s.lnk.events ∧ exec (.walk port count side) s = .next
        ((t.emit port.port.toNat 0x04 (if decide (2 ≤ port.port.toNat) then 0x6000 else 0x5000) (s.eventNo 0x04) false
          (leBytes 8 s.serial.toNat ++ leBytes 1 count.toNat ++ leBytes 1 (bit side) ++ leBytes 2 0)).emit
          (if port.port.toNat % 2 = 0 then port.port.toNat + 1 else port.port.toNat - 1) 0x03 0x1000 0 false
          (leBytes 1 (count.toNat + 1) ++ leBytes 1 (bit side) ++ leBytes 1 port.string.toNat ++ leBytes 1 0)) := by
  generalize htrunk : decide (2 ≤ port.port.toNat) = trunk
  let r : Ring := { (s.takeFree 6).2.ring trunk with sideB := (s.takeFree 6).1, onSideA := side }
  obtain ⟨hregs, hclk, hout, hevents, hserial⟩ := (s.takeFree 6).2.setRing_rest trunk r
  refine ⟨(s.takeFree 6).2.setRing trunk r, by rw [State.ring_setRing], hregs, hclk, hout, hevents, ?_⟩
  have hno : ((s.takeFree 6).2.setRing trunk r).eventNo 0x04 = s.eventNo 0x04 := by
    rw [State.eventNo, hevents]
    rfl
  change execWalk port count side s = _
  unfold execWalk
  dsimp only
  rw [htrunk, hactive, hon, hpass, hside, if_neg (by decide), if_neg (by simp), if_neg (by simp), if_neg (by simp), if_neg (by simp)]
  change Host.Outcome.next ((((s.takeFree 6).2.setRing trunk r).emit port.port.toNat 0x04 (if trunk then 0x6000 else 0x5000)
    (((s.takeFree 6).2.setRing trunk r).eventNo 0x04) false (leBytes 8 ((s.takeFree 6).2.setRing trunk r).serial.toNat ++ _ ++ _ ++ _)).emit
      _ _ _ _ _ _) = _
  rw [hno, hserial]
  rfl

/-- Two frames of this device's own. -/
theorem State.emit_two {s : State} {p o : Nat} (hp : s.portUp p = true) (ho : s.portUp o = true) (hclk : s.clk.onRc = false)
    (type dest tag type' dest' tag' : Nat) (payload payload' : List Byte) : ∃ src,
    (s.emit p type dest tag false payload).emit o type' dest' tag' false payload' = { s with lnk := { s.lnk with
      out := s.lnk.out ++ [⟨p, type, (1 - p % 2) + 2 * (p / 2), dest, src, 0, tag, payload⟩,
        ⟨o, type', (1 - o % 2) + 2 * (o / 2), dest', src, 0, tag', payload'⟩] } } := by
  have hfirst (src : Nat) := State.put_up hp hclk (Nat.zero_le 63) type dest src tag false payload
  have hsecond (src : Nat) := State.put_up (s := s.emit p type dest tag false payload) (port := o)
    (by rw [State.emit, hfirst]; exact ho) (by rw [State.emit, hfirst]; exact hclk) (Nat.zero_le 63) type' dest' src tag' false payload'
  refine ⟨if s.unaddressed then 0x8000 else s.fld LNK_ADDR_ADDR, ?_⟩
  rw [State.emit, hsecond, State.emit, hfirst]
  dsimp only
  rw [List.append_assoc]
  rfl

theorem exec_walkReport_string {s : State} {serial : BitVec 64} {distance : Byte} {side : Bool} (hpass : s.lnk.pass = .walkB) :
    exec (.walkReport false serial distance side) s =
      .next { s with lnk := { s.lnk with reports := s.lnk.reports ++ [(serial, distance.toNat, side)] } } := by
  change execWalkReport false serial distance side s = _
  unfold execWalkReport
  rw [hpass]
  rfl

theorem State.fld_flagRaise_beside (s : State) {f g : Fld} (src : Nat) (hreg : g.reg = f.reg)
    (hapart : g.lo + g.width ≤ f.lo ∨ f.lo + f.width ≤ g.lo) (hfit : g.lo + g.width ≤ 32) (hloud : loud g.reg = false) :
    (s.flagRaise f src).fld g = s.fld g :=
  ((State.raise_within src (s.setFld f 1)).fld hloud (by simp [named])).trans (s.fld_setFld_beside f g 1 hreg hapart hfit)

/-- The address of a device that takes one. -/
theorem State.takeAddress_lnkAddr (a role ndev nstr : Nat) (s : State) :
    (s.takeAddress a role ndev nstr).reg LNK_ADDR = (s.addressed a role ndev nstr).reg LNK_ADDR :=
  (State.takeAddress_within a role ndev nstr s).reg (by decide) (by decide)

/-- Its role stands beside ENUM_EV. -/
theorem State.takeAddress_role (a ndev nstr : Nat) {role : Nat} (hrole : role < 4) (s : State) :
    (s.takeAddress a role ndev nstr).fld LNK_STAT_ROLE = role := by
  have hset : (s.addressed a role ndev nstr).fld LNK_STAT_ROLE = role :=
    (State.fld_setFld_self _ LNK_STAT_ROLE role (by decide)).trans (Nat.mod_eq_of_lt hrole)
  have hflag {b : Bool} {u : State} (hu : u.fld LNK_STAT_ROLE = role) :
      (onlyIf b (State.flagRaise LNK_STAT_ENUM_EV 675) u).fld LNK_STAT_ROLE = role := by
    unfold onlyIf
    split
    · exact (u.fld_flagRaise_beside (f := LNK_STAT_ENUM_EV) (g := LNK_STAT_ROLE) 675 rfl (by decide) (by decide) (by decide)).trans hu
    · exact hu
  have hforward {b : Bool} {u : State} (hu : u.fld LNK_STAT_ROLE = role) : (onlyIf b State.forwardStuck u).fld LNK_STAT_ROLE = role := by
    unfold onlyIf
    split
    · exact ((LinkFrame.forwardStuck (R := []) (P := []) (L := []) (.refl u)).1.fld (by decide) (by decide)).trans hu
    · exact hu
  refine ((Within.seqRefresh (R := [SEQ_STAT]) (P := []) (by decide) (.refl _)).fld (f := LNK_STAT_ROLE) (by decide) (by decide)).trans ?_
  exact hforward (hflag (((State.follow_within (role := role) (s.addressed a role ndev nstr)).fld (by decide) (by decide)).trans hset))

/-- The address stands, and the device has one. -/
theorem State.addressed_addr (role ndev nstr : Nat) {a : Nat} (ha : a < 4096) (s : State) :
    (s.addressed a role ndev nstr).fld LNK_ADDR_ADDR = a ∧ (s.addressed a role ndev nstr).flag LNK_ADDR_UNADDR = false := by
  let u := (s.setFld LNK_ADDR_ADDR a).setFld LNK_ADDR_UNADDR 0
  have hrest {f : Fld} (hf : f.reg = LNK_ADDR) (hfit : f.lo + f.width ≤ 18) : (s.addressed a role ndev nstr).fld f = u.fld f := by
    rw [State.addressed, State.fld_setFld_other _ _ _ _ (by rw [hf]; decide), State.fld_setFld_beside _ LNK_ADDR_NSTR f nstr hf
      (.inl (hfit.trans (by decide))) (by omega), State.fld_setFld_beside _ LNK_ADDR_NDEV f ndev hf (.inl hfit) (by omega)]
  refine ⟨?_, ?_⟩
  · rw [hrest rfl (by decide), State.fld_setFld_beside _ LNK_ADDR_UNADDR LNK_ADDR_ADDR 0 rfl (.inl (by decide)) (by decide),
      State.fld_setFld_self _ LNK_ADDR_ADDR a (by decide)]
    exact Nat.mod_eq_of_lt ha
  · rw [State.flag, hrest rfl (by decide)]
    exact State.flag_setFld_zero _ LNK_ADDR_UNADDR (by decide)

/-- The last frame of an assignment settles the devices of the string. -/
theorem State.endAssign_last {s : State} {count : Nat} (hcount : count ≠ 25) : s.endAssign false count true =
    ({ s with lnk := { s.lnk with assigned := 0, named := false } } : State).setFld LNK_ADDR_NDEV (min (s.lnk.assigned + count) 64) :=
  if_neg hcount

/-- A device that its string's last frame of an assignment names takes its address. -/
theorem exec_assign_named {s : State} {entries : Framed (List (BitVec 64 × BitVec 16))} {x : BitVec 64} {a : BitVec 16}
    (htakes : s.takesIn entries.head = true) (hpass : s.lnk.pass ≠ .claim) (hcount : entries.body.length ≠ 25)
    (hfound : entries.body.find? (fun e => decide (e.1 = s.serial)) = some (x, a)) (hplace : a.toNat % 64 ≠ 0) :
    ∃ (u : State) (ndev nstr : Nat), u.lnk.assigned = s.lnk.assigned ∧ exec (.assign false entries) s = .next (
      let v := u.takeAddress (a.toNat % 4096) 0 ndev nstr
      ({ v with lnk := { v.lnk with assigned := 0, named := false } } : State).setFld LNK_ADDR_NDEV (min (v.lnk.assigned + entries.body.length) 64)) := by
  obtain ⟨out, events, hsent⟩ := s.passOn_sentOnly entries.head 0x05 entries.head.address.toNat false
    (assignBytes (entries.body.map (fun e => (e.1, e.2.toNat))))
  let w : State := { s with lnk := { s.lnk with out := out, events := events } }
  refine ⟨(w.takeFree 6).2, min (s.lnk.assigned + entries.body.length) 64, a.toNat % 4096 / 64 + 1 + (w.takeFree 6).1 % (64 - a.toNat % 4096 / 64),
    rfl, ?_⟩
  change execAssign false entries s = _
  unfold execAssign
  dsimp only
  rw [hfound, hsent]
  change Host.Outcome.next (if !s.takesIn entries.head || s.lnk.pass == .claim then _ else State.endAssign false entries.body.length
    (s.lnk.named || true) (if a.toNat % 64 = 0 then _ else _)) = _
  rw [htakes, beq_eq_false_iff_ne.mpr hpass, if_neg (by decide), if_neg hplace, Bool.or_true, State.endAssign_last hcount]

end Sys2Proof.Machine

open Sys2Proof Sys2Proof.Machine

/-- Settles O46: each command by the lemma of its effect; frames sent leave the rest of the link and the registers. -/
theorem enumerationCommands : Obligations.EnumerationCommands := by
  intro s
  refine ⟨fun hactive haddr hdue => exec_helloSend_due hactive haddr hdue,
    fun serial hlinked hon hserial hhead hcourse hnone => exec_hello_first hlinked hon hserial hhead hcourse hnone,
    fun hactive hdue hcourse hhead => ?_, fun p hserve hlinked hrole hcourse hhead => ?_,
    fun serial rank hactive hon hserial hcourse hpass hcand hrank => exec_claim_outranked hactive hon hserial hcourse hpass hcand hrank,
    fun hactive hdue hpass hcand => ⟨_, exec_claimTimeout_walks hactive hdue hpass hcand, s.beginWalk_starts⟩,
    fun port count side p o hactive hp ho hon hpass hclk hside hup hupo => ?_, fun trunk serial distance side hpass htrunk => ?_,
    fun entries e htakes hpass hcount hfound hplace => ?_⟩
  case refine_1 =>
    obtain ⟨hpass, hcand, hnone, hflag⟩ := State.startEnum_claims hhead
    refine ⟨s.startEnum, ?_, hpass, hcand, hnone, hflag⟩
    change Host.Outcome.next (if s.active && reached s.lnk.enumAt s.clk.core then (if s.fld SEQ_STAT_STR_COURSE = 0 then _ else _) else s) = _
    rw [hactive, hdue, if_pos hcourse]
    rfl
  case refine_2 =>
    obtain ⟨v, h, hexec⟩ := exec_enum_head hserve hlinked hrole hcourse
    obtain ⟨hpass, hcand, -, hflag⟩ := State.startEnum_claims (s := s.setReg LNK_CTRL v) hhead
    exact ⟨_, hexec, hpass, hcand, hflag⟩
  case refine_3 =>
    subst hp ho
    obtain ⟨t, hring, hregs, hclock, hout, hevents, hexec⟩ := exec_walk_on (count := count) hactive hon hpass hside
    have hreg : t.reg LNK_STAT = s.reg LNK_STAT := by rw [State.reg, hregs, State.reg]
    obtain ⟨src, hout'⟩ := State.emit_two ((State.portUp_of_reg hreg _).trans hup) ((State.portUp_of_reg hreg _).trans hupo)
      ((congrArg Clk.onRc hclock).trans hclk) 0x04 (if decide (2 ≤ port.port.toNat) then 0x6000 else 0x5000) (s.eventNo 0x04) 0x03 0x1000 0
      (leBytes 8 s.serial.toNat ++ leBytes 1 count.toNat ++ leBytes 1 (bit side) ++ leBytes 2 0)
      (leBytes 1 (count.toNat + 1) ++ leBytes 1 (bit side) ++ leBytes 1 port.string.toNat ++ leBytes 1 0)
    have hdest : (if decide (2 ≤ port.port.toNat) then 0x6000 else 0x5000) = if port.port.toNat < 2 then 0x5000 else 0x6000 := by
      by_cases h : port.port.toNat < 2
      · simp [h]
      · simp [h, Nat.le_of_not_lt h]
    rw [hout', hout, hdest] at hexec
    exact ⟨_, hexec, hring, ⟨⟨_, 0x03, _, _, src, 0, _, _⟩, rfl, rfl, rfl, rfl, rfl⟩, hregs⟩
  case refine_4 =>
    subst htrunk
    exact ⟨_, exec_walkReport_string hpass, rfl, rfl⟩
  case refine_5 =>
    obtain ⟨x, a⟩ := e
    obtain ⟨u, ndev, nstr, hassigned, hexec⟩ := exec_assign_named htakes hpass hcount hfound hplace
    obtain ⟨haddr, hunaddr⟩ := u.addressed_addr 0 ndev nstr (Nat.mod_lt a.toNat (show 0 < 4096 by decide))
    have hbefore := State.takeAddress_lnkAddr (a.toNat % 4096) 0 ndev nstr u
    have hkept : (u.takeAddress (a.toNat % 4096) 0 ndev nstr).lnk.assigned = s.lnk.assigned := by
      obtain ⟨-, -, -, -, -, -, -, hsame, -⟩ := Part.pieces ((State.takeAddress_within (a.toNat % 4096) 0 ndev nstr u).2 .lnk (by decide)) .enumeration
      exact hsame.trans hassigned
    refine ⟨_, hexec, ?_, ?_, ?_, ?_, rfl⟩
    · exact (State.fld_setFld_beside _ LNK_ADDR_NDEV LNK_ADDR_ADDR _ rfl (.inl (by decide)) (by decide)).trans
        ((State.fld_of_reg hbefore rfl).trans haddr)
    · exact (congrArg (· != 0) (State.fld_setFld_beside _ LNK_ADDR_NDEV LNK_ADDR_UNADDR _ rfl (.inl (by decide)) (by decide))).trans
        ((State.flag_of_reg hbefore rfl).trans hunaddr)
    · exact (State.fld_setFld_other _ LNK_ADDR_NDEV LNK_STAT_ROLE _ (by decide)).trans (u.takeAddress_role _ ndev nstr (by decide))
    · refine (State.fld_setFld_self _ LNK_ADDR_NDEV _ (by decide)).trans ?_
      rw [hkept]
      exact Nat.mod_eq_of_lt (show min (s.lnk.assigned + entries.body.length) 64 < 128 by omega)
end

section
namespace Sys2Proof.Machine

/-! ### A housekeeping round cut by Standby -/

/-- Standby, in which the core stands, with every conversion of a housekeeping round done and no reference to wait for. -/
def hkStandby : State := { State.reset with
  boot := { Boot.initial with power := .standby }
  msr := { Msr.initial with hkBusy := true, hkVals := (List.range 32).map (fun i => (i, 0)) } }

theorem exec_hkRoundDone_hkStandby : exec .hkRoundDone hkStandby = .next hkStandby :=
  congrArg Host.Outcome.next (if_neg (by decide))

end Sys2Proof.Machine

open Sys2Proof Sys2Proof.Machine

/-- Refutes O39: in Standby the core does not run and no housekeeping round ends, but the clause of HK_ROUND_DONE does not ask that the
core run. -/
theorem not_measurementCommandsComplete : ¬ Obligations.MeasurementCommandsComplete := by
  intro h
  obtain ⟨-, -, -, -, -, -, -, -, -, -, hround, -⟩ := h hkStandby
  obtain ⟨t, hexec, hbusy, -⟩ := hround rfl (by decide) rfl
  obtain rfl := Host.Outcome.next.inj (exec_hkRoundDone_hkStandby.symm.trans hexec)
  exact absurd hbusy (by decide)

end

section
namespace Sys2Proof.Machine

/-! ### A hot die in Standby -/

/-- Standby, in which the core stands, after three rounds with the die at or above SHUTDOWN. -/
def hotStandby : State := { State.reset with
  boot := { Boot.initial with power := .standby }
  thm := { Thm.initial with sensors := Thm.initial.sensors.set 12 ⟨0, 0, 0, 0, 3, 0⟩ } }

theorem exec_thermalShutdown_hotStandby : exec (.thermalShutdown 12) hotStandby = .next hotStandby :=
  congrArg Host.Outcome.next (if_neg (by decide))

end Sys2Proof.Machine

open Sys2Proof Sys2Proof.Machine

/-- Refutes O40: in Standby the core does not run and nothing shuts down, but the clause of THERMAL_SHUTDOWN does not ask that the core
run. -/
theorem not_thermalCommandsComplete : ¬ Obligations.ThermalCommandsComplete := by
  intro h
  obtain ⟨-, -, -, hshut, -⟩ := h hotStandby
  obtain ⟨t, hexec, hlock, -⟩ := hshut 12 (by decide) (by decide) (by decide) (by decide) (by decide)
  obtain rfl := Host.Outcome.next.inj (exec_thermalShutdown_hotStandby.symm.trans hexec)
  exact absurd hlock (by decide)

end

section
namespace Sys2Proof.Machine

/-! ### The balancing limit while a window of a sweep is in progress -/

/-- A module of two cells without balancing, at a second boundary within a window of a sweep; CEL_BAL_LIM shows 8. -/
def balWindow : State := { State.reset with
  boot := { Boot.initial with power := .active }
  bnd := { Bnd.initial with tiles := [⟨8, 0, 0, 0, [2]⟩] }
  cel := { Cel.initial with window := some sweepWindow, lim := 8, balSec := 1 }
  regs := (State.reset.setFld CEL_BAL_LIM_L 8).regs }

/-- After the second boundary of `balWindow`. -/
def balWindowSecond : State :=
  ((({ balWindow with cel := { balWindow.cel with balSec := balWindow.secNow } }).setReg CEL_BAL_SEL 0).driversOff).stepLim.showHealth

theorem exec_balSecondBoundary_balWindow : exec .balSecondBoundary balWindow = .next balWindowSecond :=
  congrArg Host.Outcome.next (if_pos (by decide))

end Sys2Proof.Machine

open Sys2Proof Sys2Proof.Machine

/-- Refutes O41: while a window of a sweep is in progress CEL_BAL_LIM keeps what it shows, but the clause about the limit of a module
without passive balancing does not ask that no window be in progress. -/
theorem not_cellCommandsComplete : ¬ Obligations.CellCommandsComplete := by
  intro h
  obtain ⟨-, -, -, -, -, -, -, -, -, -, -, -, -, -, -, -, -, -, -, -, hlim⟩ := h balWindow
  obtain ⟨t, hexec, -, hshown⟩ := hlim (by decide) (by decide) (by decide) (by decide)
  obtain rfl := Host.Outcome.next.inj (exec_balSecondBoundary_balWindow.symm.trans hexec)
  exact absurd hshown (by decide)

end

section
namespace Sys2Proof.Machine

/-! ### A probe that an all-off of the same cycle has ended -/

/-- The all-off of this cycle: no probe was under way before it. -/
def offMarkNoProbe : OffMark := ⟨0, 0, none, [], [], .none, [], .none, false, 0, false, none, false, 0⟩

/-- A probe that began in the cycle of an all-off, its time up at once. -/
def offProbe : State := { State.reset with
  boot := { Boot.initial with power := .active }
  seq := { Seq.initial with off := some offMarkNoProbe }
  cpm := { Cpm.initial with probeAt := some 0 }
  regs := (State.reset.setFld SEQ_FAULT_ACTIVE 1).regs }

theorem exec_probeTimeout_offProbe : exec .probeTimeout offProbe = .next offProbe :=
  congrArg Host.Outcome.next (if_neg (by decide))

end Sys2Proof.Machine

open Sys2Proof Sys2Proof.Machine

/-- Refutes O42: in the cycle of an all-off the probe's timeout is judged by the probe as it stood before, so DSW_G does not close, but
the clause of PROBE_TIMEOUT does not ask that no all-off be of this cycle. -/
theorem not_chargeAndPathCommands : ¬ Obligations.ChargeAndPathCommands := by
  intro h
  obtain ⟨-, -, -, -, -, -, -, htimeout, -⟩ := h offProbe
  obtain ⟨t, hexec, hclosed, -⟩ := htimeout 0 rfl (by decide) (by decide)
  obtain rfl := Host.Outcome.next.inj (exec_probeTimeout_offProbe.symm.trans hexec)
  exact absurd hclosed (by decide)

end

section
namespace Sys2Proof.Machine

/-! ### A couch taken while a sample before its instant is under conversion -/

/-- A sample of 4096 units over 244 µs, stamped just before SYSTIME 0. -/
def lateDue : Due := ⟨0, -1, 65536, (0, 1), (65536, 65536), some 4096, some 0⟩

/-- Bank 0 waits for SYSTIME 0, which has come, and a sample stamped before it is not integrated yet. -/
def dueCouch : State := { State.reset with
  boot := { Boot.initial with power := .active }
  mtr := { Mtr.initial with due := [lateDue] }
  regs := (State.reset.setFld (MTR_COUCH_STAT_STATE 0) 1).regs }

/-- Bank 0 as it takes a couch of some words. -/
def dueCouchTaken (words : List (Nat × Word)) : State :=
  ((({ dueCouch with mtr := { dueCouch.mtr with banks := dueCouch.mtr.banks.set 0 ⟨words, true⟩ } }).setFld (MTR_COUCH_STAT_TSTATE 0)
    (dueCouch.fld STM_STAT_TSTATE)).setFlag (MTR_COUCH_STAT_STEPPED 0) false).releaseHeld

theorem banks_dueCouchTaken (words : List (Nat × Word)) : (dueCouchTaken words).mtr.banks.getD 0 Bank.free = ⟨words, true⟩ := rfl

/-- The words are the live points with the late sample integrated. -/
theorem exec_couchInstant_dueCouch : exec .couchInstant dueCouch =
    .next ((dueCouchTaken (dueCouch.drainDue (dueCouch.couchT 0)).livePoints).flagRaise MTR_STAT_COUCH_EV 609) := by
  have hbanks : (List.range 4).filter (fun k => dueCouch.couchPending k && timeReached (dueCouch.couchT k) dueCouch.now) = [0] := by
    decide
  change Host.Outcome.next (dueCouch.takeCouches false dueCouch) = _
  unfold State.takeCouches
  rw [hbanks]
  rfl

theorem State.mem_livePoints (s : State) (p : Nat) (w : Word) : (p, w) ∈ s.livePoints ↔ p < 0x1E00 ∧ w ≠ 0 ∧ w = s.point p := by
  simp only [State.livePoints, List.mem_filterMap, List.mem_range]
  constructor
  · rintro ⟨q, hq, hw⟩
    split at hw
    · cases hw
    next hne =>
      obtain ⟨rfl, rfl⟩ := Prod.mk.inj (Option.some.inj hw)
      exact ⟨hq, hne, rfl⟩
  · rintro ⟨hp, hne, rfl⟩
    exact ⟨p, hp, if_neg hne⟩

/-- The charge of the late sample is in the couch, and in no live point yet. -/
theorem point_dueCouch : (dueCouch.drainDue (dueCouch.couchT 0)).point 0x1204 = 1 ∧ dueCouch.point 0x1204 = 0 := by
  constructor
  · decide
  · decide

end Sys2Proof.Machine

open Sys2Proof Sys2Proof.Machine

/-- Refutes O43: a couch shows the meters with every sample stamped before its instant integrated (R390), so its words are not the live
points of the state before where such a sample still is under conversion. -/
theorem not_meterAndCouchCommands : ¬ Obligations.MeterAndCouchCommands := by
  intro h
  obtain ⟨-, -, -, -, -, -, -, -, -, -, -, -, -, -, -, -, -, hinstant, -⟩ := h dueCouch
  obtain ⟨t, hexec, hbank, -⟩ := hinstant 0 (by decide) (by decide) (by decide) (by decide)
  obtain rfl := Host.Outcome.next.inj (exec_couchInstant_dueCouch.symm.trans hexec)
  rw [show (State.flagRaise MTR_STAT_COUCH_EV 609 _).mtr = _ from (State.flagRaise_raised MTR_STAT_COUCH_EV 609 _).parts .mtr,
    State.setFld_mtr, banks_dueCouchTaken] at hbank
  have hwords : (dueCouch.drainDue (dueCouch.couchT 0)).livePoints = dueCouch.livePoints := (Bank.mk.inj hbank).1
  obtain ⟨hcouch, hlive⟩ := point_dueCouch
  have hmem := (State.mem_livePoints (dueCouch.drainDue (dueCouch.couchT 0)) 0x1204 1).mpr ⟨by decide, by decide, hcouch.symm⟩
  rw [hwords, State.mem_livePoints, hlive] at hmem
  exact absurd hmem.2.2 (by decide)

end

section
namespace Sys2Proof.Machine

/-! ### The word after the last window of registers -/

theorem windowOf_after_registers : windowOf 0x1DFFFC = some .regs ∧ windowOf 0x1E0000 = none := by decide

/-- In Idle. -/
def idle : State := { State.reset with boot := { Boot.initial with power := .active } }

/-- After a read of one word at the end of the registers: the word behind it has been read too (R433). -/
def idleRead : State :=
  (idle.portRead .spi 2 0x1DFFFC false []).2.2.spiEnd idle.spiStatus [0] (idle.portRead .spi 2 0x1DFFFC false []).1 false false

theorem exec_spiRead_idle : exec (.spiRead 0x1DFFFC 1 [] false) idle = .next idleRead := rfl

end Sys2Proof.Machine

open Sys2Proof Sys2Proof.Machine

/-- Refutes O48: an SPI read of one word reads the word behind it too (R433), so at the end of a window the next status byte tells of a
BUS_ERR that the address itself does not cause. -/
theorem not_hostPortCommands : ¬ Obligations.HostPortCommands := by
  intro h
  obtain ⟨-, -, hread, -⟩ := h idle
  obtain ⟨t, hexec, -, -, -, hbus⟩ := hread 0x1DFFFC 1 [] (by decide) rfl rfl
  obtain rfl := Host.Outcome.next.inj (exec_spiRead_idle.symm.trans hexec)
  exact absurd hbus (by decide)

end

section
namespace Sys2Proof.Machine

/-! ### A check-in judged anew in its tick -/

/-- Armed, task 1 checked in, the tick's check-ins judged from an IN without it. -/
def judgedTick : State := { State.reset with
  boot := { Boot.initial with power := .active }
  wdg := { Wdg.initial with armed := true, judged := some (0, 0, []) }
  regs := (State.reset.setFld WDG_TASKS_IN 2).regs }

/-- After the check-in of task 0 with the right challenge. -/
def judgedTickAgain : State :=
  judgedTick.writeRow .sup (adr WDG_CHECKIN) (word [(16, 0), (0, 0xACE1)]) { Side.untold with pc := some (0, 0, 0, 0) }

theorem exec_checkin_judgedTick : exec (.checkin .sup 0 0xACE1 (0, 0, 0, 0)) judgedTick = .next judgedTickAgain := rfl

end Sys2Proof.Machine

open Sys2Proof Sys2Proof.Machine

/-- Refutes O50: a check-in is judged anew with those of its tick, from IN as it was before them (R453), and the clause of CHECKIN does
not ask that the IN kept for that agree with WDG_TASKS. -/
theorem not_watchdogCommandsComplete : ¬ Obligations.WatchdogCommandsComplete := by
  intro h
  obtain ⟨-, -, hcheckin, -⟩ := h judgedTick
  obtain ⟨t, hexec, hin, -⟩ := hcheckin .sup 0 0xACE1 (0, 0, 0, 0) (by decide) (by decide) rfl (.inl rfl) (by decide) (by decide) (by decide)
  obtain rfl := Host.Outcome.next.inj (exec_checkin_judgedTick.symm.trans hexec)
  exact absurd hin (by decide)

end

section
namespace Sys2Proof.Machine

/-! ### A trigger missed on the grid -/

/-- A grid instant has come while conversions of the trigger before are still to start (R277). -/
def gridOverrun : State := { State.reset with
  boot := { Boot.initial with power := .active }
  msr := { Msr.initial with senseEnd := 4 } }

/-- After the periodic trigger of `gridOverrun`, which is missed. -/
def gridMissed : State := gridOverrun.stepGrid.trigger [] (truncInstant gridOverrun.gridNum 60000000) gridOverrun.msr.gridK none

theorem exec_periodicTrigger_gridOverrun : exec (.periodicTrigger []) gridOverrun = .next gridMissed :=
  congrArg Host.Outcome.next (if_pos (by decide))

theorem reg_MSR_CNT_gridOverrun : gridOverrun.reg MSR_CNT = 0 ∧ gridMissed.reg MSR_CNT = 1 := by decide

end Sys2Proof.Machine

open Sys2Proof Sys2Proof.Machine

/-- Refutes O56: a periodic trigger that cannot be accepted yet is missed and counts in MSR_CNT (R277), which the frame of
PERIODIC_TRIGGER does not name. -/
theorem not_frameMeasurementAndCells : ¬ Obligations.FrameMeasurementAndCells := by
  rintro ⟨htrigger, -⟩
  obtain ⟨hreg, -⟩ := htrigger gridOverrun gridMissed [] exec_periodicTrigger_gridOverrun
  have hcnt := hreg MSR_CNT (by decide) (by decide) (by decide)
  rw [reg_MSR_CNT_gridOverrun.1, reg_MSR_CNT_gridOverrun.2] at hcnt
  exact absurd hcnt (by decide)

end

section
namespace Sys2Proof.Machine

/-! ### The calendar read as a page -/

/-- After a read of RTC_SEC_LO by the supervisor in Idle: the calendar's words are frozen for its path (R88). -/
def idleTimeRead : State := idle.readRow .sup (adr RTC_SEC_LO)

theorem exec_coherentPageRead_idle : exec (.coherentPageRead .sup (adr RTC_SEC_LO)) idle = .next idleTimeRead := rfl

theorem freezes_idleTimeRead : idle.bkd.freezes = [] ∧ idleTimeRead.bkd.freezes = [(2, 0)] := by decide

end Sys2Proof.Machine

open Sys2Proof Sys2Proof.Machine

/-- Refutes O58: a page read at RTC_SEC_LO freezes the calendar's words in the backup domain's own state (R88), which the frame of
COHERENT_PAGE_READ does not name. -/
theorem not_frameMetersAndJournal : ¬ Obligations.FrameMetersAndJournal := by
  rintro ⟨-, -, hread, -⟩
  obtain ⟨-, hparts⟩ := hread idle idleTimeRead .sup (adr RTC_SEC_LO) exec_coherentPageRead_idle
  have hbkd : idleTimeRead.bkd = idle.bkd := hparts .bkd (by decide)
  have hfreezes := congrArg Bkd.freezes hbkd
  rw [freezes_idleTimeRead.1, freezes_idleTimeRead.2] at hfreezes
  exact absurd hfreezes (by decide)

end

section
namespace Sys2Proof.Machine

/-! ### A WDO pulse that ends in the middle of an impedance sweep -/

/-- Idle in the middle of a sweep at the end of a WDO pulse, RST_MAP giving the watchdog the level L3. -/
def midPulse : State := { midSweep with
  boot := { midSweep.boot with rstMap := 0x0C }
  wdg := { Wdg.initial with pulseEnd := some 0 } }

/-- After the end of the pulse: the L3 restart is in progress, and the abandoned window (R321, R328) has left its status in CEL_FQ_0. -/
def midPulseReset : State :=
  ({ midPulse with pins := { midPulse.pins with wdo := .low }, wdg := { midPulse.wdg with pulseEnd := none } }).requestReset 3 3 false

theorem exec_wdoPulseEnd_midPulse : exec .wdoPulseEnd midPulse = .next midPulseReset := rfl

theorem levelLeft_midPulseReset : midPulseReset.levelLeft = 5 := by decide

/-- The status of the window is a field that an L3 restart does not restore, and it has changed. -/
theorem not_keptBelow_midPulseReset :
    ¬ KeptBelow 5 (allOffRegs ++ [RPC_IMG_STAT, RPC_RST_CAUSE, RPC_RST_STAT, WDG_EV_STAT, CEL_STAT]) midPulse midPulseReset := by
  intro h
  have hfq := h (CEL_FQ 0) (by decide) (by decide) ⟨28, 4, .ro, 0x0, 3, []⟩ (by decide) (by decide)
  exact absurd hfq (by decide)

/-- The clause of the frame about WDO_PULSE_END. -/
theorem wdoPulseEnd_of_frameHostAndInterrupts (h : Obligations.FrameHostAndInterrupts) (s t : State) (hwf : Registers.wf s.regs = true)
    (hexec : exec .wdoPulseEnd s = .next t) : KeptByLevel [RPC_IMG_STAT, RPC_RST_CAUSE, RPC_RST_STAT, WDG_EV_STAT, CEL_STAT] s t := by
  obtain ⟨-, -, -, -, -, -, -, -, -, -, -, -, -, -, -, -, -, hpulse, -⟩ := h
  exact (hpulse s t hwf hexec).1

end Sys2Proof.Machine

open Sys2Proof Sys2Proof.Machine

/-- Refutes O60: a WDO pulse whose end restarts the device at L3 in the middle of an impedance sweep abandons the window in progress,
whose status in CEL_FQ changes, though only an L1 or a stronger reset restores that field and the frame does not name CEL_FQ. -/
theorem not_frameHostAndInterrupts : ¬ Obligations.FrameHostAndInterrupts := by
  intro h
  obtain ⟨-, hkept⟩ := wdoPulseEnd_of_frameHostAndInterrupts h midPulse midPulseReset (by decide) exec_wdoPulseEnd_midPulse
  rw [levelLeft_midPulseReset] at hkept
  exact not_keptBelow_midPulseReset hkept

end

section
namespace Sys2Proof.Machine

/-! ### The answer to an image counted after WHAT has been written again -/

/-- Enumerated, with the answers to an image distribution being counted; LNK_DIST_CTRL names the bond again. -/
def imageAnswers : State := { State.reset with
  boot := { Boot.initial with power := .active }
  lnk := { Lnk.initial with distImage := true }
  regs := ((State.reset.setFld LNK_ADDR_UNADDR 0).setFld LNK_DIST_STAT_STATE 2).regs }

/-- RESULT 1 is a failure of an image. -/
def imageAnswered : State := imageAnswers.bump LNK_DIST_STAT_FAIL_CNT

theorem exec_distResult_imageAnswers : exec (.distResult 0 1) imageAnswers = .next imageAnswered :=
  congrArg Host.Outcome.next (if_pos (by decide))

end Sys2Proof.Machine

open Sys2Proof Sys2Proof.Machine

/-- Refutes O47: a receiver's answer counts by what was sent, not by what LNK_DIST_CTRL.WHAT says since, so RESULT 1 of an image counts as a
failure while WHAT reads 0. -/
theorem not_remoteAndDistributionCommands : ¬ Obligations.RemoteAndDistributionCommands := by
  intro h
  obtain ⟨-, -, -, -, -, -, -, -, -, -, -, -, -, hresult, -⟩ := h imageAnswers
  obtain ⟨t, hexec, hok, -⟩ := hresult 0 1 (by decide) (by decide) (by decide) (by decide) (by decide)
  obtain rfl := Host.Outcome.next.inj (exec_distResult_imageAnswers.symm.trans hexec)
  exact absurd (hok rfl) (by decide)

end
